-- ==== Sys2Proof/Word.lean ====
section
/-!
DEFINITION. The word types of the machine (30_encoding.md R90, 10_state.md R27 to R29).
-/

namespace Sys2Proof

/-- An event number: the space the spec uses is 16 bits wide (R90). -/
abbrev EvtWord := BitVec 16

/-- The home of a counter: 64 bits; without FEAT_PMUv3p5 only the low 32 are used (10_state.md R27). -/
abbrev CountWord := BitVec 64

end Sys2Proof
end

