-- ==== Sys2Proof/Syntax.lean ====
section
/-!
DEFINITION. The instructions of this hardware: the 1198 common events of spec/opcode_table.json, one constructor a row,
in the order of the spec's rules R200 to R1397. An event has no operand (30_encoding.md R101).
-/

namespace Sys2Proof

/-- A common event of ARM ARM D14.3. -/
inductive Instr where
  /-- R200 SW_INCR (0x0000): Instruction architecturally executed, Condition code check pass, software increment. -/
  | swIncr
  /-- R201 LD_RETIRED (0x0006): Instruction architecturally executed, Condition code check pass, load. -/
  | ldRetired
  /-- R202 ST_RETIRED (0x0007): Instruction architecturally executed, Condition code check pass, store. -/
  | stRetired
  /-- R203 INST_RETIRED (0x0008): Instruction architecturally executed. -/
  | instRetired
  /-- R204 EXC_TAKEN (0x0009): Exception taken. -/
  | excTaken
  /-- R205 EXC_RETURN (0x000A): Instruction architecturally executed, Condition code check pass, exception return. -/
  | excReturn
  /-- R206 CID_WRITE_RETIRED (0x000B): Instruction architecturally executed, Condition code check pass, write to CONTEXTIDR. -/
  | cidWriteRetired
  /-- R207 PC_WRITE_RETIRED (0x000C): Instruction architecturally executed, Condition code check pass, Software change of the PC. -/
  | pcWriteRetired
  /-- R208 BR_IMMED_RETIRED (0x000D): Branch instruction architecturally executed, immediate. -/
  | brImmedRetired
  /-- R209 BR_RETURN_RETIRED (0x000E): Branch instruction architecturally executed, procedure return, taken. -/
  | brReturnRetired
  /-- R210 UNALIGNED_LDST_RETIRED (0x000F): Instruction architecturally executed, Condition code check pass, unaligned load or store. -/
  | unalignedLdstRetired
  /-- R211 TTBR_WRITE_RETIRED (0x001C): Instruction architecturally executed, Condition code check pass, write to TTBR. -/
  | ttbrWriteRetired
  /-- R212 CHAIN (0x001E): Chain a pair of event counters. -/
  | chain
  /-- R213 BR_RETIRED (0x0021): Instruction architecturally executed, branch. -/
  | brRetired
  /-- R214 EXC_UNDEF (0x0081): Exception taken, other synchronous. -/
  | excUndef
  /-- R215 EXC_SVC (0x0082): Exception taken, Supervisor Call. -/
  | excSvc
  /-- R216 EXC_PABORT (0x0083): Exception taken, Instruction Abort. -/
  | excPabort
  /-- R217 EXC_DABORT (0x0084): Exception taken, Data Abort or SError. -/
  | excDabort
  /-- R218 EXC_IRQ (0x0086): Exception taken, IRQ. -/
  | excIrq
  /-- R219 EXC_FIQ (0x0087): Exception taken, FIQ. -/
  | excFiq
  /-- R220 EXC_SMC (0x0088): Exception taken, Secure Monitor Call. -/
  | excSmc
  /-- R221 EXC_HVC (0x008A): Exception taken, Hypervisor Call. -/
  | excHvc
  /-- R222 EXC_TRAP_PABORT (0x008B): Exception taken, Instruction Abort not Taken locally. -/
  | excTrapPabort
  /-- R223 EXC_TRAP_DABORT (0x008C): Exception taken, Data Abort or SError not Taken locally. -/
  | excTrapDabort
  /-- R224 EXC_TRAP_OTHER (0x008D): Exception taken, other traps not Taken locally. -/
  | excTrapOther
  /-- R225 EXC_TRAP_IRQ (0x008E): Exception taken, IRQ not Taken locally. -/
  | excTrapIrq
  /-- R226 EXC_TRAP_FIQ (0x008F): Exception taken, FIQ not Taken locally. -/
  | excTrapFiq
  /-- R227 TRB_WRAP (0x400C): Trace buffer current write pointer wrapped. -/
  | trbWrap
  /-- R228 PMU_OVFS (0x400D): PMU overflow, counters accessible to EL1 and EL0. -/
  | pmuOvfs
  /-- R229 TRB_TRIG (0x400E): Trace buffer Trigger Event. -/
  | trbTrig
  /-- R230 PMU_HOVFS (0x400F): PMU overflow, counters reserved for use by EL2. -/
  | pmuHovfs
  /-- R231 SIMD_INST_RETIRED (0x8000): Instruction architecturally executed, SIMD. -/
  | simdInstRetired
  /-- R232 ASE_INST_RETIRED (0x8001): Instruction architecturally executed, Advanced SIMD. -/
  | aseInstRetired
  /-- R233 SVE_INST_RETIRED (0x8002): Instruction architecturally executed, SVE. -/
  | sveInstRetired
  /-- R234 ASE_SVE_INST_RETIRED (0x8003): Instruction architecturally executed, Advanced SIMD or SVE. -/
  | aseSveInstRetired
  /-- R235 BR_SKIP_RETIRED (0x8107): Branch instruction architecturally executed, not taken. -/
  | brSkipRetired
  /-- R236 BR_IMMED_TAKEN_RETIRED (0x8108): Branch instruction architecturally executed, immediate, taken. -/
  | brImmedTakenRetired
  /-- R237 BR_IMMED_SKIP_RETIRED (0x8109): Branch instruction architecturally executed, immediate, not taken. -/
  | brImmedSkipRetired
  /-- R238 BR_IND_TAKEN_RETIRED (0x810A): Branch instruction architecturally executed, indirect, taken. -/
  | brIndTakenRetired
  /-- R239 BR_IND_SKIP_RETIRED (0x810B): Branch instruction architecturally executed, indirect, not taken. -/
  | brIndSkipRetired
  /-- R240 BR_INDNR_TAKEN_RETIRED (0x810C): Branch instruction architecturally executed, indirect excluding procedure return, taken. -/
  | brIndnrTakenRetired
  /-- R241 BR_INDNR_SKIP_RETIRED (0x810D): Branch instruction architecturally executed, indirect excluding procedure return, not taken. -/
  | brIndnrSkipRetired
  /-- R242 BR_RETURN_ANY_RETIRED (0x810E): Branch instruction architecturally executed, procedure return. -/
  | brReturnAnyRetired
  /-- R243 BR_RETURN_SKIP_RETIRED (0x810F): Branch instruction architecturally executed, procedure return, not taken. -/
  | brReturnSkipRetired
  /-- R244 BR_IND_RETIRED (0x811D): Instruction architecturally executed, indirect branch. -/
  | brIndRetired
  /-- R245 BR_INDNR_RETIRED (0x811E): Branch instruction architecturally executed, indirect excluding procedure return. -/
  | brIndnrRetired
  /-- R246 BRB_FILTRATE (0x811F): Branch Record captured. -/
  | brbFiltrate
  /-- R247 BRNL_INDNR_TAKEN_RETIRED (0x8179): Branch instruction architecturally executed, indirect branch without link excluding procedure return, taken. -/
  | brnlIndnrTakenRetired
  /-- R248 BL_TAKEN_RETIRED (0x817A): Branch instruction architecturally executed, branch with link, taken. -/
  | blTakenRetired
  /-- R249 BRNL_TAKEN_RETIRED (0x817B): Branch instruction architecturally executed, branch without link, taken. -/
  | brnlTakenRetired
  /-- R250 BL_IND_TAKEN_RETIRED (0x817C): Branch instruction architecturally executed, indirect branch with link, taken. -/
  | blIndTakenRetired
  /-- R251 BRNL_IND_TAKEN_RETIRED (0x817D): Branch instruction architecturally executed, indirect branch without link, taken. -/
  | brnlIndTakenRetired
  /-- R252 BL_IMMED_TAKEN_RETIRED (0x817E): Branch instruction architecturally executed, direct branch with link, taken. -/
  | blImmedTakenRetired
  /-- R253 BRNL_IMMED_TAKEN_RETIRED (0x817F): Branch instruction architecturally executed, direct branch without link, taken. -/
  | brnlImmedTakenRetired
  /-- R254 BR_UNCOND_RETIRED (0x8180): Branch instruction architecturally executed, unconditional branch. -/
  | brUncondRetired
  /-- R255 BR_COND_RETIRED (0x8181): Branch instruction architecturally executed, conditional branch. -/
  | brCondRetired
  /-- R256 BR_COND_TAKEN_RETIRED (0x8182): Branch instruction architecturally executed, conditional branch, taken. -/
  | brCondTakenRetired
  /-- R257 BR_HINT_COND_RETIRED (0x8183): Branch instruction architecturally executed, hinted conditional. -/
  | brHintCondRetired
  /-- R258 ASE_SVE_RETIRED (0x82A4): Instruction architecturally executed, Advanced SIMD data processing or SVE data processing. -/
  | aseSveRetired
  /-- R259 LD_ANY_RETIRED (0x82A8): Instruction architecturally executed, load. -/
  | ldAnyRetired
  /-- R260 ST_ANY_RETIRED (0x82A9): Instruction architecturally executed, store. -/
  | stAnyRetired
  /-- R261 LDST_ANY_RETIRED (0x82AA): Instruction architecturally executed, load or store. -/
  | ldstAnyRetired
  /-- R262 DP_RETIRED (0x82AB): Instruction architecturally executed, integer data processing. -/
  | dpRetired
  /-- R263 ASE_RETIRED (0x82AC): Instruction architecturally executed, Advanced SIMD data processing. -/
  | aseRetired
  /-- R264 VFP_RETIRED (0x82AD): Instruction architecturally executed, scalar floating-point data processing. -/
  | vfpRetired
  /-- R265 SVE_RETIRED (0x82AE): Instruction architecturally executed, SVE data processing. -/
  | sveRetired
  /-- R266 CRYPTO_RETIRED (0x82AF): Instruction architecturally executed, cryptographic data processing. -/
  | cryptoRetired
  /-- R267 PRF_RETIRED (0x82B3): Instruction architecturally executed, prefetch. -/
  | prfRetired
  /-- R268 SME_RETIRED (0x8358): Instruction architecturally executed, SME data processing. -/
  | smeRetired
  /-- R269 SE_RETIRED (0x8359): Instruction architecturally executed, Advanced SIMD, SVE, or SME data processing. -/
  | seRetired
  /-- R270 SME_INST_RETIRED (0x835A): Instruction architecturally executed, SME. -/
  | smeInstRetired
  /-- R271 SE_INST_RETIRED (0x835B): Instruction architecturally executed, Advanced SIMD, SVE, or SME. -/
  | seInstRetired
  /-- R272 L1I_CACHE_REFILL (0x0001): Level 1 instruction cache refill. -/
  | l1iCacheRefill
  /-- R273 L1I_TLB_REFILL (0x0002): Level 1 instruction TLB refill. -/
  | l1iTlbRefill
  /-- R274 L1D_CACHE_REFILL (0x0003): Level 1 data cache refill. -/
  | l1dCacheRefill
  /-- R275 L1D_CACHE (0x0004): Level 1 data cache access. -/
  | l1dCache
  /-- R276 L1D_TLB_REFILL (0x0005): Level 1 data TLB refill. -/
  | l1dTlbRefill
  /-- R277 BR_MIS_PRED (0x0010): Branch instruction speculatively executed, mispredicted or not predicted. -/
  | brMisPred
  /-- R278 CPU_CYCLES (0x0011): Cycle. -/
  | cpuCycles
  /-- R279 BR_PRED (0x0012): Predictable branch instruction speculatively executed. -/
  | brPred
  /-- R280 MEM_ACCESS (0x0013): Data memory access. -/
  | memAccess
  /-- R281 L1I_CACHE (0x0014): Level 1 instruction cache access. -/
  | l1iCache
  /-- R282 L1D_CACHE_WB (0x0015): Level 1 data cache write-back. -/
  | l1dCacheWb
  /-- R283 L2D_CACHE (0x0016): Level 2 data cache access. -/
  | l2dCache
  /-- R284 L2D_CACHE_REFILL (0x0017): Level 2 data cache refill. -/
  | l2dCacheRefill
  /-- R285 L2D_CACHE_WB (0x0018): Level 2 data cache write-back. -/
  | l2dCacheWb
  /-- R286 BUS_ACCESS (0x0019): Bus access. -/
  | busAccess
  /-- R287 MEMORY_ERROR (0x001A): Local memory error. -/
  | memoryError
  /-- R288 INST_SPEC (0x001B): Operation speculatively executed. -/
  | instSpec
  /-- R289 BUS_CYCLES (0x001D): Bus cycle. -/
  | busCycles
  /-- R290 L1D_CACHE_ALLOCATE (0x001F): Level 1 data cache allocation without refill. -/
  | l1dCacheAllocate
  /-- R291 L2D_CACHE_ALLOCATE (0x0020): Level 2 data cache allocation without refill. -/
  | l2dCacheAllocate
  /-- R292 BR_MIS_PRED_RETIRED (0x0022): Branch instruction architecturally executed, mispredicted. -/
  | brMisPredRetired
  /-- R293 STALL_FRONTEND (0x0023): No operation sent for execution due to the frontend. -/
  | stallFrontend
  /-- R294 STALL_BACKEND (0x0024): No operation sent for execution due to the backend. -/
  | stallBackend
  /-- R295 L1D_TLB (0x0025): Level 1 data TLB access. -/
  | l1dTlb
  /-- R296 L1I_TLB (0x0026): Level 1 instruction TLB access. -/
  | l1iTlb
  /-- R297 L2I_CACHE (0x0027): Level 2 instruction cache access. -/
  | l2iCache
  /-- R298 L2I_CACHE_REFILL (0x0028): Level 2 instruction cache refill. -/
  | l2iCacheRefill
  /-- R299 L3D_CACHE_ALLOCATE (0x0029): Level 3 data cache allocation without refill. -/
  | l3dCacheAllocate
  /-- R300 L3D_CACHE_REFILL (0x002A): Level 3 data cache refill. -/
  | l3dCacheRefill
  /-- R301 L3D_CACHE (0x002B): Level 3 data cache access. -/
  | l3dCache
  /-- R302 L3D_CACHE_WB (0x002C): Level 3 data cache write-back. -/
  | l3dCacheWb
  /-- R303 L2D_TLB_REFILL (0x002D): Level 2 data TLB refill. -/
  | l2dTlbRefill
  /-- R304 L2I_TLB_REFILL (0x002E): Level 2 instruction TLB refill. -/
  | l2iTlbRefill
  /-- R305 L2D_TLB (0x002F): Level 2 data TLB access. -/
  | l2dTlb
  /-- R306 L2I_TLB (0x0030): Level 2 instruction TLB access. -/
  | l2iTlb
  /-- R307 REMOTE_ACCESS (0x0031): Access to a remote device. -/
  | remoteAccess
  /-- R308 LL_CACHE (0x0032): Last level cache access. -/
  | llCache
  /-- R309 LL_CACHE_MISS (0x0033): Last level cache miss. -/
  | llCacheMiss
  /-- R310 DTLB_WALK (0x0034): Data TLB access with at least one translation table walk. -/
  | dtlbWalk
  /-- R311 ITLB_WALK (0x0035): Instruction TLB access with at least one translation table walk. -/
  | itlbWalk
  /-- R312 LL_CACHE_RD (0x0036): Last level cache access, read. -/
  | llCacheRd
  /-- R313 LL_CACHE_MISS_RD (0x0037): Last level cache miss, read. -/
  | llCacheMissRd
  /-- R314 REMOTE_ACCESS_RD (0x0038): Access to a remote device, read. -/
  | remoteAccessRd
  /-- R315 L1D_CACHE_LMISS_RD (0x0039): Level 1 data cache long-latency read miss. -/
  | l1dCacheLmissRd
  /-- R316 OP_RETIRED (0x003A): Micro-operation architecturally executed. -/
  | opRetired
  /-- R317 OP_SPEC (0x003B): Micro-operation speculatively executed. -/
  | opSpec
  /-- R318 STALL (0x003C): No operation sent for execution. -/
  | stall
  /-- R319 STALL_SLOT_BACKEND (0x003D): No operation sent for execution on a Slot due to the backend. -/
  | stallSlotBackend
  /-- R320 STALL_SLOT_FRONTEND (0x003E): No operation sent for execution on a Slot due to the frontend. -/
  | stallSlotFrontend
  /-- R321 STALL_SLOT (0x003F): No operation sent for execution on a Slot. -/
  | stallSlot
  /-- R322 L1D_CACHE_RD (0x0040): Level 1 data cache access, read. -/
  | l1dCacheRd
  /-- R323 L1D_CACHE_WR (0x0041): Level 1 data cache access, write. -/
  | l1dCacheWr
  /-- R324 L1D_CACHE_REFILL_RD (0x0042): Level 1 data cache refill, read. -/
  | l1dCacheRefillRd
  /-- R325 L1D_CACHE_REFILL_WR (0x0043): Level 1 data cache refill, write. -/
  | l1dCacheRefillWr
  /-- R326 L1D_CACHE_REFILL_INNER (0x0044): Level 1 data cache refill, inner. -/
  | l1dCacheRefillInner
  /-- R327 L1D_CACHE_REFILL_OUTER (0x0045): Level 1 data cache refill, outer. -/
  | l1dCacheRefillOuter
  /-- R328 L1D_CACHE_WB_VICTIM (0x0046): Level 1 data cache write-back, victim. -/
  | l1dCacheWbVictim
  /-- R329 L1D_CACHE_WB_CLEAN (0x0047): Level 1 data cache write-back, cleaning and coherency. -/
  | l1dCacheWbClean
  /-- R330 L1D_CACHE_INVAL (0x0048): Level 1 data cache invalidate. -/
  | l1dCacheInval
  /-- R331 L1D_TLB_REFILL_RD (0x004C): Level 1 data TLB refill, read. -/
  | l1dTlbRefillRd
  /-- R332 L1D_TLB_REFILL_WR (0x004D): Level 1 data TLB refill, write. -/
  | l1dTlbRefillWr
  /-- R333 L1D_TLB_RD (0x004E): Level 1 data TLB access, read. -/
  | l1dTlbRd
  /-- R334 L1D_TLB_WR (0x004F): Level 1 data TLB access, write. -/
  | l1dTlbWr
  /-- R335 L2D_CACHE_RD (0x0050): Level 2 data cache access, read. -/
  | l2dCacheRd
  /-- R336 L2D_CACHE_WR (0x0051): Level 2 data cache access, write. -/
  | l2dCacheWr
  /-- R337 L2D_CACHE_REFILL_RD (0x0052): Level 2 data cache refill, read. -/
  | l2dCacheRefillRd
  /-- R338 L2D_CACHE_REFILL_WR (0x0053): Level 2 data cache refill, write. -/
  | l2dCacheRefillWr
  /-- R339 L2D_CACHE_WB_VICTIM (0x0056): Level 2 data cache write-back, victim. -/
  | l2dCacheWbVictim
  /-- R340 L2D_CACHE_WB_CLEAN (0x0057): Level 2 data cache write-back, cleaning and coherency. -/
  | l2dCacheWbClean
  /-- R341 L2D_CACHE_INVAL (0x0058): Level 2 data cache invalidate. -/
  | l2dCacheInval
  /-- R342 L2D_TLB_REFILL_RD (0x005C): Level 2 data TLB refill, read. -/
  | l2dTlbRefillRd
  /-- R343 L2D_TLB_REFILL_WR (0x005D): Level 2 data TLB refill, write. -/
  | l2dTlbRefillWr
  /-- R344 L2D_TLB_RD (0x005E): Level 2 data TLB access, read. -/
  | l2dTlbRd
  /-- R345 L2D_TLB_WR (0x005F): Level 2 data TLB access, write. -/
  | l2dTlbWr
  /-- R346 BUS_ACCESS_RD (0x0060): Bus access, read. -/
  | busAccessRd
  /-- R347 BUS_ACCESS_WR (0x0061): Bus access, write. -/
  | busAccessWr
  /-- R348 BUS_ACCESS_SHARED (0x0062): Bus access, Normal, Cacheable, Shareable. -/
  | busAccessShared
  /-- R349 BUS_ACCESS_NOT_SHARED (0x0063): Bus access, not Normal, Cacheable, Shareable. -/
  | busAccessNotShared
  /-- R350 BUS_ACCESS_NORMAL (0x0064): Bus access, normal. -/
  | busAccessNormal
  /-- R351 BUS_ACCESS_PERIPH (0x0065): Bus access, peripheral. -/
  | busAccessPeriph
  /-- R352 MEM_ACCESS_RD (0x0066): Data memory access, read. -/
  | memAccessRd
  /-- R353 MEM_ACCESS_WR (0x0067): Data memory access, write. -/
  | memAccessWr
  /-- R354 UNALIGNED_LD_SPEC (0x0068): Unaligned access, read. -/
  | unalignedLdSpec
  /-- R355 UNALIGNED_ST_SPEC (0x0069): Unaligned access, write. -/
  | unalignedStSpec
  /-- R356 UNALIGNED_LDST_SPEC (0x006A): Unaligned access. -/
  | unalignedLdstSpec
  /-- R357 LDREX_SPEC (0x006C): Exclusive operation speculatively executed, Load-Exclusive. -/
  | ldrexSpec
  /-- R358 STREX_PASS_SPEC (0x006D): Exclusive operation speculatively executed, Store-Exclusive pass. -/
  | strexPassSpec
  /-- R359 STREX_FAIL_SPEC (0x006E): Exclusive operation speculatively executed, Store-Exclusive fail. -/
  | strexFailSpec
  /-- R360 STREX_SPEC (0x006F): Exclusive operation speculatively executed, Store-Exclusive. -/
  | strexSpec
  /-- R361 LD_SPEC (0x0070): Operation speculatively executed, load. -/
  | ldSpec
  /-- R362 ST_SPEC (0x0071): Operation speculatively executed, store. -/
  | stSpec
  /-- R363 LDST_SPEC (0x0072): Operation speculatively executed, load or store. -/
  | ldstSpec
  /-- R364 DP_SPEC (0x0073): Operation speculatively executed, integer data processing. -/
  | dpSpec
  /-- R365 ASE_SPEC (0x0074): Operation speculatively executed, Advanced SIMD data processing. -/
  | aseSpec
  /-- R366 VFP_SPEC (0x0075): Operation speculatively executed, scalar floating-point data processing. -/
  | vfpSpec
  /-- R367 PC_WRITE_SPEC (0x0076): Operation speculatively executed, Software change of the PC. -/
  | pcWriteSpec
  /-- R368 CRYPTO_SPEC (0x0077): Operation speculatively executed, cryptographic data processing. -/
  | cryptoSpec
  /-- R369 BR_IMMED_SPEC (0x0078): Branch speculatively executed, immediate branch. -/
  | brImmedSpec
  /-- R370 BR_RETURN_SPEC (0x0079): Branch speculatively executed, procedure return. -/
  | brReturnSpec
  /-- R371 BR_INDIRECT_SPEC (0x007A): Branch speculatively executed, indirect branch. -/
  | brIndirectSpec
  /-- R372 ISB_SPEC (0x007C): Barrier speculatively executed, ISB. -/
  | isbSpec
  /-- R373 DSB_SPEC (0x007D): Barrier speculatively executed, DSB. -/
  | dsbSpec
  /-- R374 DMB_SPEC (0x007E): Barrier speculatively executed, DMB. -/
  | dmbSpec
  /-- R375 CSDB_SPEC (0x007F): Barrier speculatively executed, CSDB. -/
  | csdbSpec
  /-- R376 RC_LD_SPEC (0x0090): Release consistency operation speculatively executed, Load-Acquire. -/
  | rcLdSpec
  /-- R377 RC_ST_SPEC (0x0091): Release consistency operation speculatively executed, Store-Release. -/
  | rcStSpec
  /-- R378 L3D_CACHE_HIT_WR_FEXT_PROP (0x0092): Level 3 data cache demand access first hit, write, fetched by external propagating transaction. -/
  | l3dCacheHitWrFextProp
  /-- R379 L3D_CACHE_RD (0x00A0): Level 3 data cache access, read. -/
  | l3dCacheRd
  /-- R380 L3D_CACHE_WR (0x00A1): Level 3 data cache access, write. -/
  | l3dCacheWr
  /-- R381 L3D_CACHE_REFILL_RD (0x00A2): Level 3 data cache refill, read. -/
  | l3dCacheRefillRd
  /-- R382 L3D_CACHE_REFILL_WR (0x00A3): Level 3 data cache refill, write. -/
  | l3dCacheRefillWr
  /-- R383 L3D_CACHE_WB_VICTIM (0x00A6): Level 3 data cache write-back, victim. -/
  | l3dCacheWbVictim
  /-- R384 L3D_CACHE_WB_CLEAN (0x00A7): Level 3 data cache write-back, cleaning and coherency. -/
  | l3dCacheWbClean
  /-- R385 L3D_CACHE_INVAL (0x00A8): Level 3 data cache invalidate. -/
  | l3dCacheInval
  /-- R386 L2D_CACHE_HIT_RD_FEXT_PROP (0x00A9): Level 2 data cache demand access first hit, read, fetched by external propagating transaction. -/
  | l2dCacheHitRdFextProp
  /-- R387 L2D_CACHE_HIT_WR_FEXT_PROP (0x00AA): Level 2 data cache demand access first hit, write, fetched by external propagating transaction. -/
  | l2dCacheHitWrFextProp
  /-- R388 L2D_CACHE_HIT_RW_FEXT_PROP (0x00AB): Level 2 data cache demand access first hit, fetched by external propagating transaction. -/
  | l2dCacheHitRwFextProp
  /-- R389 L3D_CACHE_EXT_PROP (0x00AC): Level 3 data cache allocation due to external propagating transaction. -/
  | l3dCacheExtProp
  /-- R390 L3D_CACHE_EXT_PROP_PRFM_IR (0x00AD): Level 3 data cache allocation due to external propagating transaction after prefetch with intent to read. -/
  | l3dCacheExtPropPrfmIr
  /-- R391 L3D_CACHE_HIT_RW_FEXT_PROP (0x00AE): Level 3 data cache demand access first hit, fetched by external propagating transaction. -/
  | l3dCacheHitRwFextProp
  /-- R392 L3D_CACHE_HIT_RD_FEXT_PROP (0x00AF): Level 3 data cache demand access first hit, read, fetched by external propagating transaction. -/
  | l3dCacheHitRdFextProp
  /-- R393 STSHH_SPEC (0x00B0): Store shared hint instruction speculatively executed. -/
  | stshhSpec
  /-- R394 STSHH_KEEP_SPEC (0x00B1): Store shared hint instruction speculatively executed with KEEP policy. -/
  | stshhKeepSpec
  /-- R395 STSHH_STRM_SPEC (0x00B2): Store shared hint instruction speculatively executed with STRM policy. -/
  | stshhStrmSpec
  /-- R396 PRFM_IR_SPEC (0x00B3): Prefetch with intent to read instruction speculatively executed. -/
  | prfmIrSpec
  /-- R397 MEM_ACCESS_WR_STSHH (0x00B4): Memory write with store shared hint. -/
  | memAccessWrStshh
  /-- R398 MEM_ACCESS_WR_STSHH_KEEP (0x00B5): Memory write with store shared hint with keep policy. -/
  | memAccessWrStshhKeep
  /-- R399 MEM_ACCESS_WR_STSHH_STRM (0x00B6): Memory write with store shared hint with stream policy. -/
  | memAccessWrStshhStrm
  /-- R400 MEM_ACCESS_WR_STSHH_KEEP_NEAR (0x00B7): Memory write with store shared hint with keep policy performed near. -/
  | memAccessWrStshhKeepNear
  /-- R401 MEM_ACCESS_WR_STSHH_KEEP_FAR (0x00B8): Memory write with store shared hint with keep policy performed far. -/
  | memAccessWrStshhKeepFar
  /-- R402 L1D_CACHE_EXT_PROP (0x00B9): Level 1 data cache allocation due to external propagating transaction. -/
  | l1dCacheExtProp
  /-- R403 L1D_CACHE_EXT_PROP_PRFM_IR (0x00BA): Level 1 data cache allocation due to external propagating transaction after prefetch with intent to read. -/
  | l1dCacheExtPropPrfmIr
  /-- R404 L1D_CACHE_HIT_RD_FEXT_PROP (0x00BB): Level 1 data cache demand access first hit, read, fetched by external propagating transaction. -/
  | l1dCacheHitRdFextProp
  /-- R405 L1D_CACHE_HIT_WR_FEXT_PROP (0x00BC): Level 1 data cache demand access first hit, write, fetched by external propagating transaction. -/
  | l1dCacheHitWrFextProp
  /-- R406 L1D_CACHE_HIT_RW_FEXT_PROP (0x00BD): Level 1 data cache demand access first hit, fetched by external propagating transaction. -/
  | l1dCacheHitRwFextProp
  /-- R407 L2D_CACHE_EXT_PROP (0x00BE): Level 2 data cache allocation due to external propagating transaction. -/
  | l2dCacheExtProp
  /-- R408 L2D_CACHE_EXT_PROP_PRFM_IR (0x00BF): Level 2 data cache allocation due to external propagating transaction after prefetch with intent to read. -/
  | l2dCacheExtPropPrfmIr
  /-- R409 SAMPLE_POP (0x4000): Statistical Profiling sample population. -/
  | samplePop
  /-- R410 SAMPLE_FEED (0x4001): Statistical Profiling sample taken. -/
  | sampleFeed
  /-- R411 SAMPLE_FILTRATE (0x4002): Statistical Profiling sample taken and not removed by filtering. -/
  | sampleFiltrate
  /-- R412 SAMPLE_COLLISION (0x4003): Statistical Profiling sample collided with previous sample. -/
  | sampleCollision
  /-- R413 CNT_CYCLES (0x4004): Constant frequency cycles. -/
  | cntCycles
  /-- R414 STALL_BACKEND_MEM (0x4005): Memory stall cycles. -/
  | stallBackendMem
  /-- R415 L1I_CACHE_LMISS (0x4006): Level 1 instruction cache long-latency miss. -/
  | l1iCacheLmiss
  /-- R416 L2D_CACHE_LMISS_RD (0x4009): Level 2 data cache long-latency read miss. -/
  | l2dCacheLmissRd
  /-- R417 L2I_CACHE_LMISS (0x400A): Level 2 instruction cache long-latency miss. -/
  | l2iCacheLmiss
  /-- R418 L3D_CACHE_LMISS_RD (0x400B): Level 3 data cache long-latency read miss. -/
  | l3dCacheLmissRd
  /-- R419 TRCEXTOUT0 (0x4010): Trace unit external output 0. -/
  | trcextout0
  /-- R420 TRCEXTOUT1 (0x4011): Trace unit external output 1. -/
  | trcextout1
  /-- R421 TRCEXTOUT2 (0x4012): Trace unit external output 2. -/
  | trcextout2
  /-- R422 TRCEXTOUT3 (0x4013): Trace unit external output 3. -/
  | trcextout3
  /-- R423 CTI_TRIGOUT4 (0x4018): Cross-trigger Interface output trigger 4. -/
  | ctiTrigout4
  /-- R424 CTI_TRIGOUT5 (0x4019): Cross-trigger Interface output trigger 5. -/
  | ctiTrigout5
  /-- R425 CTI_TRIGOUT6 (0x401A): Cross-trigger Interface output trigger 6. -/
  | ctiTrigout6
  /-- R426 CTI_TRIGOUT7 (0x401B): Cross-trigger Interface output trigger 7. -/
  | ctiTrigout7
  /-- R427 LDST_ALIGN_LAT (0x4020): Access with additional latency from alignment. -/
  | ldstAlignLat
  /-- R428 LD_ALIGN_LAT (0x4021): Load with additional latency from alignment. -/
  | ldAlignLat
  /-- R429 ST_ALIGN_LAT (0x4022): Store with additional latency from alignment. -/
  | stAlignLat
  /-- R430 MEM_ACCESS_CHECKED (0x4024): Checked data memory access. -/
  | memAccessChecked
  /-- R431 MEM_ACCESS_CHECKED_RD (0x4025): Checked data memory access, read. -/
  | memAccessCheckedRd
  /-- R432 MEM_ACCESS_CHECKED_WR (0x4026): Checked data memory access, write. -/
  | memAccessCheckedWr
  /-- R433 SIMD_INST_SPEC (0x8004): Operation speculatively executed, SIMD. -/
  | simdInstSpec
  /-- R434 ASE_INST_SPEC (0x8005): Operation speculatively executed, Advanced SIMD. -/
  | aseInstSpec
  /-- R435 SVE_INST_SPEC (0x8006): Operation speculatively executed, SVE. -/
  | sveInstSpec
  /-- R436 ASE_SVE_INST_SPEC (0x8007): Operation speculatively executed, Advanced SIMD or SVE. -/
  | aseSveInstSpec
  /-- R437 UOP_SPEC (0x8008): Microarchitectural operation speculatively executed. -/
  | uopSpec
  /-- R438 ASE_UOP_SPEC (0x8009): Microarchitectural operation speculatively executed, Advanced SIMD. -/
  | aseUopSpec
  /-- R439 SVE_UOP_SPEC (0x800A): Microarchitectural operation speculatively executed, SVE. -/
  | sveUopSpec
  /-- R440 ASE_SVE_UOP_SPEC (0x800B): Microarchitectural operation speculatively executed, Advanced SIMD or SVE. -/
  | aseSveUopSpec
  /-- R441 SIMD_UOP_SPEC (0x800C): Microarchitectural operation speculatively executed, SIMD. -/
  | simdUopSpec
  /-- R442 SVE_MATH_SPEC (0x800E): Operation speculatively executed, SVE math accelerator. -/
  | sveMathSpec
  /-- R443 FP_SPEC (0x8010): Floating-point operation speculatively executed, including SIMD. -/
  | fpSpec
  /-- R444 ASE_FP_SPEC (0x8011): Floating-point operation speculatively executed, Advanced SIMD. -/
  | aseFpSpec
  /-- R445 SVE_FP_SPEC (0x8012): Floating-point operation speculatively executed, SVE. -/
  | sveFpSpec
  /-- R446 ASE_SVE_FP_SPEC (0x8013): Floating-point operation speculatively executed, Advanced SIMD or SVE. -/
  | aseSveFpSpec
  /-- R447 FP_HP_SPEC (0x8014): Floating-point operation speculatively executed, half-precision. -/
  | fpHpSpec
  /-- R448 ASE_FP_HP_SPEC (0x8015): Floating-point operation speculatively executed, Advanced SIMD half-precision, data-processing. -/
  | aseFpHpSpec
  /-- R449 SVE_FP_HP_SPEC (0x8016): Floating-point operation speculatively executed, SVE half-precision, data-processing. -/
  | sveFpHpSpec
  /-- R450 ASE_SVE_FP_HP_SPEC (0x8017): Floating-point operation speculatively executed, Advanced SIMD or SVE half-precision. -/
  | aseSveFpHpSpec
  /-- R451 FP_SP_SPEC (0x8018): Floating-point operation speculatively executed, single-precision. -/
  | fpSpSpec
  /-- R452 ASE_FP_SP_SPEC (0x8019): Floating-point operation speculatively executed, Advanced SIMD single-precision, data-processing. -/
  | aseFpSpSpec
  /-- R453 SVE_FP_SP_SPEC (0x801A): Floating-point operation speculatively executed, SVE single-precision, data-processing. -/
  | sveFpSpSpec
  /-- R454 ASE_SVE_FP_SP_SPEC (0x801B): Floating-point operation speculatively executed, Advanced SIMD or SVE single-precision, data-processing. -/
  | aseSveFpSpSpec
  /-- R455 FP_DP_SPEC (0x801C): Floating-point operation speculatively executed, double-precision, data-processing. -/
  | fpDpSpec
  /-- R456 ASE_FP_DP_SPEC (0x801D): Floating-point operation speculatively executed, Advanced SIMD double-precision, data-processing. -/
  | aseFpDpSpec
  /-- R457 SVE_FP_DP_SPEC (0x801E): Floating-point operation speculatively executed, SVE double-precision, data-processing. -/
  | sveFpDpSpec
  /-- R458 ASE_SVE_FP_DP_SPEC (0x801F): Floating-point operation speculatively executed, Advanced SIMD or SVE double-precision, data-processing. -/
  | aseSveFpDpSpec
  /-- R459 FP_DIV_SPEC (0x8020): Floating-point operation speculatively executed, divide. -/
  | fpDivSpec
  /-- R460 ASE_FP_DIV_SPEC (0x8021): Floating-point operation speculatively executed, Advanced SIMD divide. -/
  | aseFpDivSpec
  /-- R461 SVE_FP_DIV_SPEC (0x8022): Floating-point operation speculatively executed, SVE divide. -/
  | sveFpDivSpec
  /-- R462 ASE_SVE_FP_DIV_SPEC (0x8023): Floating-point operation speculatively executed, Advanced SIMD or SVE divide. -/
  | aseSveFpDivSpec
  /-- R463 FP_SQRT_SPEC (0x8024): Floating-point operation speculatively executed, square root. -/
  | fpSqrtSpec
  /-- R464 ASE_FP_SQRT_SPEC (0x8025): Floating-point operation speculatively executed, Advanced SIMD square root. -/
  | aseFpSqrtSpec
  /-- R465 SVE_FP_SQRT_SPEC (0x8026): Floating-point operation speculatively executed, SVE square root. -/
  | sveFpSqrtSpec
  /-- R466 ASE_SVE_FP_SQRT_SPEC (0x8027): Floating-point operation speculatively executed, Advanced SIMD or SVE squareroot. -/
  | aseSveFpSqrtSpec
  /-- R467 FP_FMA_SPEC (0x8028): Floating-point operation speculatively executed, FMA. -/
  | fpFmaSpec
  /-- R468 ASE_FP_FMA_SPEC (0x8029): Floating-point operation speculatively executed, Advanced SIMD FMA. -/
  | aseFpFmaSpec
  /-- R469 SVE_FP_FMA_SPEC (0x802A): Floating-point operation speculatively executed, SVE FMA. -/
  | sveFpFmaSpec
  /-- R470 ASE_SVE_FP_FMA_SPEC (0x802B): Floating-point operation speculatively executed, Advanced SIMD or SVE FMA. -/
  | aseSveFpFmaSpec
  /-- R471 FP_MUL_SPEC (0x802C): Floating-point operation speculatively executed, multiply. -/
  | fpMulSpec
  /-- R472 ASE_FP_MUL_SPEC (0x802D): Floating-point operation speculatively executed, Advanced SIMD multiply. -/
  | aseFpMulSpec
  /-- R473 SVE_FP_MUL_SPEC (0x802E): Floating-point operation speculatively executed, SVE multiply. -/
  | sveFpMulSpec
  /-- R474 ASE_SVE_FP_MUL_SPEC (0x802F): Floating-point operation speculatively executed, Advanced SIMD or SVE multiply. -/
  | aseSveFpMulSpec
  /-- R475 FP_ADDSUB_SPEC (0x8030): Floating-point operation speculatively executed, add or subtract. -/
  | fpAddsubSpec
  /-- R476 ASE_FP_ADDSUB_SPEC (0x8031): Floating-point operation speculatively executed, Advanced SIMD add or subtract. -/
  | aseFpAddsubSpec
  /-- R477 SVE_FP_ADDSUB_SPEC (0x8032): Floating-point operation speculatively executed, SVE add or subtract. -/
  | sveFpAddsubSpec
  /-- R478 ASE_SVE_FP_ADDSUB_SPEC (0x8033): Floating-point operation speculatively executed, Advanced SIMD or SVE add or subtract. -/
  | aseSveFpAddsubSpec
  /-- R479 FP_RECPE_SPEC (0x8034): Floating-point operation speculatively executed, reciprocal estimate. -/
  | fpRecpeSpec
  /-- R480 ASE_FP_RECPE_SPEC (0x8035): Floating-point operation speculatively executed, Advanced SIMD reciprocal estimate. -/
  | aseFpRecpeSpec
  /-- R481 SVE_FP_RECPE_SPEC (0x8036): Floating-point operation speculatively executed, SVE reciprocal estimate. -/
  | sveFpRecpeSpec
  /-- R482 ASE_SVE_FP_RECPE_SPEC (0x8037): Floating-point operation speculatively executed, Advanced SIMD or SVE reciprocal estimate. -/
  | aseSveFpRecpeSpec
  /-- R483 FP_CVT_SPEC (0x8038): Floating-point operation speculatively executed, convert. -/
  | fpCvtSpec
  /-- R484 ASE_FP_CVT_SPEC (0x8039): Floating-point operation speculatively executed, Advanced SIMD convert. -/
  | aseFpCvtSpec
  /-- R485 SVE_FP_CVT_SPEC (0x803A): Floating-point operation speculatively executed, SVE convert. -/
  | sveFpCvtSpec
  /-- R486 ASE_SVE_FP_CVT_SPEC (0x803B): Floating-point operation speculatively executed, Advanced SIMD or SVE convert. -/
  | aseSveFpCvtSpec
  /-- R487 SVE_FP_AREDUCE_SPEC (0x803C): Floating-point operation speculatively executed, SVE accumulating reduction. -/
  | sveFpAreduceSpec
  /-- R488 ASE_FP_PREDUCE_SPEC (0x803D): Floating-point operation speculatively executed, Advanced SIMD pairwise add step or pairwise reduce step. -/
  | aseFpPreduceSpec
  /-- R489 SVE_FP_VREDUCE_SPEC (0x803E): Floating-point operation speculatively executed, SVE pairwise or reduction. -/
  | sveFpVreduceSpec
  /-- R490 ASE_SVE_FP_VREDUCE_SPEC (0x803F): Floating-point operation speculatively executed, Advanced SIMD or SVE vector reduction. -/
  | aseSveFpVreduceSpec
  /-- R491 INT_SPEC (0x8040): Integer operation speculatively executed. -/
  | intSpec
  /-- R492 ASE_INT_SPEC (0x8041): Integer operation speculatively executed, Advanced SIMD. -/
  | aseIntSpec
  /-- R493 SVE_INT_SPEC (0x8042): Integer operation speculatively executed, SVE. -/
  | sveIntSpec
  /-- R494 ASE_SVE_INT_SPEC (0x8043): Integer operation speculatively executed, Advanced SIMD or SVE. -/
  | aseSveIntSpec
  /-- R495 INT_DIV_SPEC (0x8044): Integer operation speculatively executed, divide. -/
  | intDivSpec
  /-- R496 INT_DIV64_SPEC (0x8045): Integer operation speculatively executed, 64-bit divide. -/
  | intDiv64Spec
  /-- R497 SVE_INT_DIV_SPEC (0x8046): Integer operation speculatively executed, SVE divide. -/
  | sveIntDivSpec
  /-- R498 SVE_INT_DIV64_SPEC (0x8047): Integer operation speculatively executed, SVE 64-bit divide. -/
  | sveIntDiv64Spec
  /-- R499 INT_MUL_SPEC (0x8048): Integer operation speculatively executed, multiply. -/
  | intMulSpec
  /-- R500 ASE_INT_MUL_SPEC (0x8049): Integer operation speculatively executed, Advanced SIMD multiply. -/
  | aseIntMulSpec
  /-- R501 SVE_INT_MUL_SPEC (0x804A): Integer operation speculatively executed, SVE multiply. -/
  | sveIntMulSpec
  /-- R502 ASE_SVE_INT_MUL_SPEC (0x804B): Integer operation speculatively executed, Advanced SIMD or SVE multiply. -/
  | aseSveIntMulSpec
  /-- R503 INT_MUL64_SPEC (0x804C): Integer operation speculatively executed, 64 × 64 multiply. -/
  | intMul64Spec
  /-- R504 SVE_INT_MUL64_SPEC (0x804D): Integer operation speculatively executed, SVE 64 × 64 multiply. -/
  | sveIntMul64Spec
  /-- R505 INT_MULH64_SPEC (0x804E): Integer operation speculatively executed, 64 × 64 multiply returning high part. -/
  | intMulh64Spec
  /-- R506 SVE_INT_MULH64_SPEC (0x804F): Integer operation speculatively executed, SVE 64 × 64 multiply high part. -/
  | sveIntMulh64Spec
  /-- R507 ASE_FP_BF16_SPEC (0x8051): Floating-point operation speculatively executed, Advanced SIMD BFloat16, data-processing. -/
  | aseFpBf16Spec
  /-- R508 SVE_FP_BF16_SPEC (0x8052): Floating-point operation speculatively executed, SVE BFloat16, data-processing. -/
  | sveFpBf16Spec
  /-- R509 ASE_SVE_FP_BF16_SPEC (0x8053): Floating-point operation speculatively executed, SVE or Advanced SIMD BFloat16, data-processing. -/
  | aseSveFpBf16Spec
  /-- R510 FP_BF16_SPEC (0x8054): Floating-point operation speculatively executed, BFloat16, data-processing. -/
  | fpBf16Spec
  /-- R511 SVE_SPEC (0x8056): Operation speculatively executed, SVE data processing. -/
  | sveSpec
  /-- R512 ASE_SVE_SPEC (0x8057): Operation speculatively executed, Advanced SIMD data processing or SVE data processing. -/
  | aseSveSpec
  /-- R513 NONFP_SPEC (0x8058): Non-floating-point operation speculatively executed. -/
  | nonfpSpec
  /-- R514 ASE_NONFP_SPEC (0x8059): Non-floating-point operation speculatively executed, Advanced SIMD. -/
  | aseNonfpSpec
  /-- R515 SVE_NONFP_SPEC (0x805A): Non-floating-point operation speculatively executed, SVE. -/
  | sveNonfpSpec
  /-- R516 ASE_SVE_NONFP_SPEC (0x805B): Non-floating-point operation speculatively executed, Advanced SIMD or SVE. -/
  | aseSveNonfpSpec
  /-- R517 ASE_INT_VREDUCE_SPEC (0x805D): Integer operation speculatively executed, Advanced SIMD reduction. -/
  | aseIntVreduceSpec
  /-- R518 SVE_INT_VREDUCE_SPEC (0x805E): Integer operation speculatively executed, SVE reduction. -/
  | sveIntVreduceSpec
  /-- R519 ASE_SVE_INT_VREDUCE_SPEC (0x805F): Integer operation speculatively executed, Advanced SIMD or SVE reduction. -/
  | aseSveIntVreduceSpec
  /-- R520 SVE_PERM_SPEC (0x8060): Operation speculatively executed, SVE permute. -/
  | svePermSpec
  /-- R521 SVE_PERM_IGRANULE_SPEC (0x8061): Operation speculatively executed, SVE intra-granule permute. -/
  | svePermIgranuleSpec
  /-- R522 SVE_PERM_XGRANULE_SPEC (0x8062): Operation speculatively executed, SVE cross-granule permute. -/
  | svePermXgranuleSpec
  /-- R523 SVE_PERM_VARIABLE_SPEC (0x8063): Operation speculatively executed, SVE programmable permute. -/
  | svePermVariableSpec
  /-- R524 SVE_XPIPE_SPEC (0x8064): Operation speculatively executed, SVE cross-pipe. -/
  | sveXpipeSpec
  /-- R525 SVE_XPIPE_Z2R_SPEC (0x8065): Operation speculatively executed, SVE vector to scalar cross-pipe. -/
  | sveXpipeZ2rSpec
  /-- R526 SVE_XPIPE_R2Z_SPEC (0x8066): Operation speculatively executed, SVE scalar to vector cross-pipe. -/
  | sveXpipeR2zSpec
  /-- R527 SVE_PGEN_NVEC_SPEC (0x8067): Operation speculatively executed, SVE predicate-only. -/
  | svePgenNvecSpec
  /-- R528 SVE_PGEN_SPEC (0x8068): Operation speculatively executed, SVE predicate generating. -/
  | svePgenSpec
  /-- R529 SVE_PGEN_FLG_SPEC (0x8069): Operation speculatively executed, SVE predicate flag setting. -/
  | svePgenFlgSpec
  /-- R530 SVE_PGEN_CMP_SPEC (0x806A): Operation speculatively executed, SVE vector compare. -/
  | svePgenCmpSpec
  /-- R531 SVE_PGEN_FCM_SPEC (0x806B): Floating-point operation speculatively executed, SVE vector compare. -/
  | svePgenFcmSpec
  /-- R532 SVE_PGEN_LOGIC_SPEC (0x806C): Operation speculatively executed, SVE predicate logical. -/
  | svePgenLogicSpec
  /-- R533 SVE_PPERM_SPEC (0x806D): Operation speculatively executed, SVE predicate permute. -/
  | svePpermSpec
  /-- R534 SVE_PSCAN_SPEC (0x806E): Operation speculatively executed, SVE predicate scan. -/
  | svePscanSpec
  /-- R535 SVE_PCNT_SPEC (0x806F): Operation speculatively executed, SVE predicate count. -/
  | svePcntSpec
  /-- R536 SVE_PLOOP_WHILE_SPEC (0x8070): Operation speculatively executed, SVE predicate loop while. -/
  | svePloopWhileSpec
  /-- R537 SVE_PLOOP_TEST_SPEC (0x8071): Operation speculatively executed, SVE predicate loop test. -/
  | svePloopTestSpec
  /-- R538 SVE_PLOOP_ELTS_SPEC (0x8072): Operation speculatively executed, SVE predicate loop elements. -/
  | svePloopEltsSpec
  /-- R539 SVE_PLOOP_TERM_SPEC (0x8073): Operation speculatively executed, SVE predicate loop termination. -/
  | svePloopTermSpec
  /-- R540 SVE_PRED_SPEC (0x8074): Operation speculatively executed, SIMD predicated. -/
  | svePredSpec
  /-- R541 SVE_PRED_EMPTY_SPEC (0x8075): Operation speculatively executed, SIMD predicated with no active elements. -/
  | svePredEmptySpec
  /-- R542 SVE_PRED_FULL_SPEC (0x8076): Operation speculatively executed, SIMD predicated with all active elements. -/
  | svePredFullSpec
  /-- R543 SVE_PRED_PARTIAL_SPEC (0x8077): Operation speculatively executed, SIMD predicated with partially active elements. -/
  | svePredPartialSpec
  /-- R544 SVE_UNPRED_SPEC (0x8078): Operation speculatively executed, SVE unpredicated. -/
  | sveUnpredSpec
  /-- R545 SVE_PRED_NOT_FULL_SPEC (0x8079): Operation speculatively executed, SVE predicated with at least one inactive element. -/
  | svePredNotFullSpec
  /-- R546 SVE_MOVPRFX_SPEC (0x807C): Operation speculatively executed, SVE MOVPRFX. -/
  | sveMovprfxSpec
  /-- R547 SVE_MOVPRFX_Z_SPEC (0x807D): Operation speculatively executed, SVE MOVPRFX zeroing predication. -/
  | sveMovprfxZSpec
  /-- R548 SVE_MOVPRFX_M_SPEC (0x807E): Operation speculatively executed, SVE MOVPRFX merging predication. -/
  | sveMovprfxMSpec
  /-- R549 SVE_MOVPRFX_U_SPEC (0x807F): Operation speculatively executed, SVE MOVPRFX unfused. -/
  | sveMovprfxUSpec
  /-- R550 SVE_LDST_SPEC (0x8080): Operation speculatively executed, SVE load, store, or prefetch. -/
  | sveLdstSpec
  /-- R551 SVE_LD_SPEC (0x8081): Operation speculatively executed, SVE load. -/
  | sveLdSpec
  /-- R552 SVE_ST_SPEC (0x8082): Operation speculatively executed, SVE store. -/
  | sveStSpec
  /-- R553 SVE_PRF_SPEC (0x8083): Operation speculatively executed, SVE prefetch. -/
  | svePrfSpec
  /-- R554 ASE_SVE_LDST_SPEC (0x8084): Operation speculatively executed, Advanced SIMD or SVE load or store. -/
  | aseSveLdstSpec
  /-- R555 ASE_SVE_LD_SPEC (0x8085): Operation speculatively executed, Advanced SIMD or SVE load. -/
  | aseSveLdSpec
  /-- R556 ASE_SVE_ST_SPEC (0x8086): Operation speculatively executed, Advanced SIMD or SVE store. -/
  | aseSveStSpec
  /-- R557 PRF_SPEC (0x8087): Operation speculatively executed, prefetch. -/
  | prfSpec
  /-- R558 BASE_LDST_REG_SPEC (0x8088): Operation speculatively executed, general-purpose register load, store, or prefetch. -/
  | baseLdstRegSpec
  /-- R559 BASE_LD_REG_SPEC (0x8089): Operation speculatively executed, general-purpose register load. -/
  | baseLdRegSpec
  /-- R560 BASE_ST_REG_SPEC (0x808A): Operation speculatively executed, general-purpose register store. -/
  | baseStRegSpec
  /-- R561 BASE_PRF_SPEC (0x808B): Operation speculatively executed, general-purpose register prefetch. -/
  | basePrfSpec
  /-- R562 FPASE_LDST_REG_SPEC (0x808C): Operation speculatively executed, SIMD&FP register load or store. -/
  | fpaseLdstRegSpec
  /-- R563 FPASE_LD_REG_SPEC (0x808D): Operation speculatively executed, SIMD&FP register load. -/
  | fpaseLdRegSpec
  /-- R564 FPASE_ST_REG_SPEC (0x808E): Operation speculatively executed, SIMD&FP register store. -/
  | fpaseStRegSpec
  /-- R565 SVE_LDST_REG_SPEC (0x8090): Operation speculatively executed, SVE unpredicated load or store register. -/
  | sveLdstRegSpec
  /-- R566 SVE_LDR_REG_SPEC (0x8091): Operation speculatively executed, SVE unpredicated load register. -/
  | sveLdrRegSpec
  /-- R567 SVE_STR_REG_SPEC (0x8092): Operation speculatively executed, SVE unpredicated store register. -/
  | sveStrRegSpec
  /-- R568 SVE_LDST_PREG_SPEC (0x8094): Operation speculatively executed, SVE load or store predicate register. -/
  | sveLdstPregSpec
  /-- R569 SVE_LDR_PREG_SPEC (0x8095): Operation speculatively executed, SVE load predicate register. -/
  | sveLdrPregSpec
  /-- R570 SVE_STR_PREG_SPEC (0x8096): Operation speculatively executed, SVE store predicate register. -/
  | sveStrPregSpec
  /-- R571 SVE_LDST_ZREG_SPEC (0x8098): Operation speculatively executed, SVE load or store vector register. -/
  | sveLdstZregSpec
  /-- R572 SVE_LDR_ZREG_SPEC (0x8099): Operation speculatively executed, SVE load vector register. -/
  | sveLdrZregSpec
  /-- R573 SVE_STR_ZREG_SPEC (0x809A): Operation speculatively executed, SVE store vector register. -/
  | sveStrZregSpec
  /-- R574 SVE_LDST_CONTIG_SPEC (0x809C): Operation speculatively executed, SVE contiguous load, store, or prefetch element. -/
  | sveLdstContigSpec
  /-- R575 SVE_LD_CONTIG_SPEC (0x809D): Operation speculatively executed, SVE single vector contiguous load element. -/
  | sveLdContigSpec
  /-- R576 SVE_ST_CONTIG_SPEC (0x809E): Operation speculatively executed, SVE contiguous store element. -/
  | sveStContigSpec
  /-- R577 SVE_PRF_CONTIG_SPEC (0x809F): Operation speculatively executed, SVE contiguous prefetch element. -/
  | svePrfContigSpec
  /-- R578 SVE_LDSTNT_CONTIG_SPEC (0x80A0): Operation speculatively executed, SVE non-temporal contiguous load or store element. -/
  | sveLdstntContigSpec
  /-- R579 SVE_LDNT_CONTIG_SPEC (0x80A1): Operation speculatively executed, SVE non-temporal contiguous load element. -/
  | sveLdntContigSpec
  /-- R580 SVE_STNT_CONTIG_SPEC (0x80A2): Operation speculatively executed, SVE non-temporal contiguous store element. -/
  | sveStntContigSpec
  /-- R581 ASE_SVE_LDST_MULTI_SPEC (0x80A4): Operation speculatively executed, Advanced SIMD or SVE contiguous load or store multiple vector. -/
  | aseSveLdstMultiSpec
  /-- R582 ASE_SVE_LD_MULTI_SPEC (0x80A5): Operation speculatively executed, Advanced SIMD or SVE contiguous load multiple vector. -/
  | aseSveLdMultiSpec
  /-- R583 ASE_SVE_ST_MULTI_SPEC (0x80A6): Operation speculatively executed, Advanced SIMD or SVE contiguous store multiple vector. -/
  | aseSveStMultiSpec
  /-- R584 SVE_LDST_MULTI_SPEC (0x80A8): Operation speculatively executed, SVE contiguous load or store multiple vector. -/
  | sveLdstMultiSpec
  /-- R585 SVE_LD_MULTI_SPEC (0x80A9): Operation speculatively executed, SVE contiguous load multiple vector. -/
  | sveLdMultiSpec
  /-- R586 SVE_ST_MULTI_SPEC (0x80AA): Operation speculatively executed, SVE contiguous store multiple vector. -/
  | sveStMultiSpec
  /-- R587 SVE_LDST_NONCONTIG_SPEC (0x80AC): Operation speculatively executed, SVE non-contiguous load, store, or prefetch. -/
  | sveLdstNoncontigSpec
  /-- R588 SVE_LD_GATHER_SPEC (0x80AD): Operation speculatively executed, SVE gather-load. -/
  | sveLdGatherSpec
  /-- R589 SVE_ST_SCATTER_SPEC (0x80AE): Operation speculatively executed, SVE scatter-store. -/
  | sveStScatterSpec
  /-- R590 SVE_PRF_GATHER_SPEC (0x80AF): Operation speculatively executed, SVE gather-prefetch. -/
  | svePrfGatherSpec
  /-- R591 SVE_LDST64_NONCONTIG_SPEC (0x80B0): Operation speculatively executed, SVE 64-bit non-contiguous load, store, or prefetch. -/
  | sveLdst64NoncontigSpec
  /-- R592 SVE_LD64_GATHER_SPEC (0x80B1): Operation speculatively executed, SVE 64-bit gather-load. -/
  | sveLd64GatherSpec
  /-- R593 SVE_ST64_SCATTER_SPEC (0x80B2): Operation speculatively executed, SVE 64-bit scatter-store. -/
  | sveSt64ScatterSpec
  /-- R594 SVE_PRF64_GATHER_SPEC (0x80B3): Operation speculatively executed, SVE 64-bit gather-prefetch. -/
  | svePrf64GatherSpec
  /-- R595 ASE_SVE_UNALIGNED_LDST_SPEC (0x80B4): Advanced SIMD or SVE unaligned access. -/
  | aseSveUnalignedLdstSpec
  /-- R596 ASE_SVE_UNALIGNED_LD_SPEC (0x80B5): Advanced SIMD or SVE unaligned read. -/
  | aseSveUnalignedLdSpec
  /-- R597 ASE_SVE_UNALIGNED_ST_SPEC (0x80B6): Advanced SIMD or SVE unaligned write. -/
  | aseSveUnalignedStSpec
  /-- R598 ASE_SVE_UNALIGNED_CONTIG_LDST_SPEC (0x80B8): Advanced SIMD or SVE unaligned contiguous access. -/
  | aseSveUnalignedContigLdstSpec
  /-- R599 ASE_SVE_UNALIGNED_CONTIG_LD_SPEC (0x80B9): Advanced SIMD or SVE unaligned contiguous read. -/
  | aseSveUnalignedContigLdSpec
  /-- R600 ASE_SVE_UNALIGNED_CONTIG_ST_SPEC (0x80BA): Advanced SIMD or SVE unaligned contiguous write. -/
  | aseSveUnalignedContigStSpec
  /-- R601 SVE_LDFF_SPEC (0x80BC): Operation speculatively executed, SVE first-fault load. -/
  | sveLdffSpec
  /-- R602 SVE_LDFF_FAULT_SPEC (0x80BD): Operation speculatively executed, SVE first-fault load which set FFR bit to 0. -/
  | sveLdffFaultSpec
  /-- R603 FP_SCALE_OPS_SPEC (0x80C0): Scalable element arithmetic operations speculatively executed, floating-point. -/
  | fpScaleOpsSpec
  /-- R604 FP_FIXED_OPS_SPEC (0x80C1): Non-scalable element arithmetic operations speculatively executed, floating-point. -/
  | fpFixedOpsSpec
  /-- R605 FP_HP_SCALE_OPS_SPEC (0x80C2): Scalable element arithmetic operations speculatively executed, largest type is half-precision floating-point. -/
  | fpHpScaleOpsSpec
  /-- R606 FP_HP_FIXED_OPS_SPEC (0x80C3): Non-scalable element arithmetic operations speculatively executed, largest type is half-precision floating-point. -/
  | fpHpFixedOpsSpec
  /-- R607 FP_SP_SCALE_OPS_SPEC (0x80C4): Scalable element arithmetic operations speculatively executed, largest type is single-precision floating-point. -/
  | fpSpScaleOpsSpec
  /-- R608 FP_SP_FIXED_OPS_SPEC (0x80C5): Non-scalable element arithmetic operations speculatively executed, largest type is single-precision floating-point. -/
  | fpSpFixedOpsSpec
  /-- R609 FP_DP_SCALE_OPS_SPEC (0x80C6): Scalable element arithmetic operations speculatively executed, largest type is double-precision floating-point. -/
  | fpDpScaleOpsSpec
  /-- R610 FP_DP_FIXED_OPS_SPEC (0x80C7): Non-scalable element arithmetic operations speculatively executed, largest type is double-precision floating-point. -/
  | fpDpFixedOpsSpec
  /-- R611 INT_SCALE_OPS_SPEC (0x80C8): Scalable element arithmetic operations speculatively executed, integer. -/
  | intScaleOpsSpec
  /-- R612 INT_FIXED_OPS_SPEC (0x80C9): Non-scalable element arithmetic operations speculatively executed, integer. -/
  | intFixedOpsSpec
  /-- R613 LDST_SCALE_OPS_SPEC (0x80CA): Scalable load or store element operations speculatively executed. -/
  | ldstScaleOpsSpec
  /-- R614 LDST_FIXED_OPS_SPEC (0x80CB): Non-scalable load or store element operations speculatively executed. -/
  | ldstFixedOpsSpec
  /-- R615 LD_SCALE_OPS_SPEC (0x80CC): Scalable load element operations speculatively executed. -/
  | ldScaleOpsSpec
  /-- R616 LD_FIXED_OPS_SPEC (0x80CD): Non-scalable load element operations speculatively executed. -/
  | ldFixedOpsSpec
  /-- R617 ST_SCALE_OPS_SPEC (0x80CE): Scalable store element operations speculatively executed. -/
  | stScaleOpsSpec
  /-- R618 ST_FIXED_OPS_SPEC (0x80CF): Non-scalable store element operations speculatively executed. -/
  | stFixedOpsSpec
  /-- R619 FP_SCALE2_OPS_SPEC (0x80D0): Scalable tile arithmetic operations speculatively executed, floating-point. -/
  | fpScale2OpsSpec
  /-- R620 FP_HP_SCALE2_OPS_SPEC (0x80D2): Scalable tile arithmetic operations speculatively executed, largest type is half-precision floating-point. -/
  | fpHpScale2OpsSpec
  /-- R621 FP_BF16_SCALE2_OPS_SPEC (0x80D3): Scalable tile arithmetic operations speculatively executed, largest type is BFloat16 floating-point. -/
  | fpBf16Scale2OpsSpec
  /-- R622 FP_SP_SCALE2_OPS_SPEC (0x80D4): Scalable tile arithmetic operations speculatively executed, largest type is single-precision floating-point. -/
  | fpSpScale2OpsSpec
  /-- R623 FP_DP_SCALE2_OPS_SPEC (0x80D6): Scalable tile arithmetic operations speculatively executed, largest type is double-precision floating-point. -/
  | fpDpScale2OpsSpec
  /-- R624 INT_SCALE2_OPS_SPEC (0x80D8): Scalable tile arithmetic operations speculatively executed, integer. -/
  | intScale2OpsSpec
  /-- R625 LDST_SCALE_BYTES_SPEC (0x80DA): Scalable load and store bytes speculatively executed. -/
  | ldstScaleBytesSpec
  /-- R626 LDST_FIXED_BYTES_SPEC (0x80DB): Non-scalable load and store bytes speculatively executed. -/
  | ldstFixedBytesSpec
  /-- R627 LD_SCALE_BYTES_SPEC (0x80DC): Scalable load bytes speculatively executed. -/
  | ldScaleBytesSpec
  /-- R628 LD_FIXED_BYTES_SPEC (0x80DD): Non-scalable load bytes speculatively executed. -/
  | ldFixedBytesSpec
  /-- R629 ST_SCALE_BYTES_SPEC (0x80DE): Scalable store bytes speculatively executed. -/
  | stScaleBytesSpec
  /-- R630 ST_FIXED_BYTES_SPEC (0x80DF): Non-scalable store bytes speculatively executed. -/
  | stFixedBytesSpec
  /-- R631 ASE_INT8_SPEC (0x80E1): Integer operation speculatively executed, Advanced SIMD 8-bit. -/
  | aseInt8Spec
  /-- R632 SVE_INT8_SPEC (0x80E2): Integer operation speculatively executed, SVE 8-bit. -/
  | sveInt8Spec
  /-- R633 ASE_SVE_INT8_SPEC (0x80E3): Integer operation speculatively executed, Advanced SIMD or SVE 8-bit. -/
  | aseSveInt8Spec
  /-- R634 ASE_INT16_SPEC (0x80E5): Integer operation speculatively executed, Advanced SIMD 16-bit. -/
  | aseInt16Spec
  /-- R635 SVE_INT16_SPEC (0x80E6): Integer operation speculatively executed, SVE 16-bit. -/
  | sveInt16Spec
  /-- R636 ASE_SVE_INT16_SPEC (0x80E7): Integer operation speculatively executed, Advanced SIMD or SVE 16-bit. -/
  | aseSveInt16Spec
  /-- R637 FP_BF16_SCALE_OPS_SPEC (0x80E8): Scalable element arithmetic operations speculatively executed, largest type is BFloat16 floating-point. -/
  | fpBf16ScaleOpsSpec
  /-- R638 ASE_INT32_SPEC (0x80E9): Integer operation speculatively executed, Advanced SIMD 32-bit. -/
  | aseInt32Spec
  /-- R639 SVE_INT32_SPEC (0x80EA): Integer operation speculatively executed, SVE 32-bit. -/
  | sveInt32Spec
  /-- R640 ASE_SVE_INT32_SPEC (0x80EB): Integer operation speculatively executed, Advanced SIMD or SVE 32-bit. -/
  | aseSveInt32Spec
  /-- R641 ASE_INT64_SPEC (0x80ED): Integer operation speculatively executed, Advanced SIMD 64-bit. -/
  | aseInt64Spec
  /-- R642 SVE_INT64_SPEC (0x80EE): Integer operation speculatively executed, SVE 64-bit. -/
  | sveInt64Spec
  /-- R643 ASE_SVE_INT64_SPEC (0x80EF): Integer operation speculatively executed, Advanced SIMD or SVE 64-bit. -/
  | aseSveInt64Spec
  /-- R644 ASE_FP_DOT_SPEC (0x80F1): Floating-point operation speculatively executed, Advanced SIMD dot-product. -/
  | aseFpDotSpec
  /-- R645 SVE_FP_DOT_SPEC (0x80F2): Floating-point operation speculatively executed, SVE dot-product. -/
  | sveFpDotSpec
  /-- R646 ASE_SVE_FP_DOT_SPEC (0x80F3): Floating-point operation speculatively executed, Advanced SIMD or SVE dot-product. -/
  | aseSveFpDotSpec
  /-- R647 ASE_FP_MMLA_SPEC (0x80F5): Floating-point operation speculatively executed, Advanced SIMD matrix multiply. -/
  | aseFpMmlaSpec
  /-- R648 SVE_FP_MMLA_SPEC (0x80F6): Floating-point operation speculatively executed, SVE matrix multiply. -/
  | sveFpMmlaSpec
  /-- R649 ASE_SVE_FP_MMLA_SPEC (0x80F7): Floating-point operation speculatively executed, Advanced SIMD or SVE matrix multiply. -/
  | aseSveFpMmlaSpec
  /-- R650 ASE_INT_DOT_SPEC (0x80F9): Operation speculatively executed, Advanced SIMD integer dot-product. -/
  | aseIntDotSpec
  /-- R651 SVE_INT_DOT_SPEC (0x80FA): Integer operation speculatively executed, SVE dot-product. -/
  | sveIntDotSpec
  /-- R652 ASE_SVE_INT_DOT_SPEC (0x80FB): Integer operation speculatively executed, Advanced SIMD or SVE dot-product. -/
  | aseSveIntDotSpec
  /-- R653 ASE_INT_MMLA_SPEC (0x80FD): Integer operation speculatively executed, Advanced SIMD matrix multiply. -/
  | aseIntMmlaSpec
  /-- R654 SVE_INT_MMLA_SPEC (0x80FE): Integer operation speculatively executed, SVE matrix multiply. -/
  | sveIntMmlaSpec
  /-- R655 ASE_SVE_INT_MMLA_SPEC (0x80FF): Integer operation speculatively executed, Advanced SIMD or SVE matrix multiply. -/
  | aseSveIntMmlaSpec
  /-- R656 BR_IMMED_PRED_RETIRED (0x8110): Branch instruction architecturally executed, predicted immediate. -/
  | brImmedPredRetired
  /-- R657 BR_IMMED_MIS_PRED_RETIRED (0x8111): Branch instruction architecturally executed, mispredicted immediate. -/
  | brImmedMisPredRetired
  /-- R658 BR_IND_PRED_RETIRED (0x8112): Branch instruction architecturally executed, predicted indirect. -/
  | brIndPredRetired
  /-- R659 BR_IND_MIS_PRED_RETIRED (0x8113): Branch instruction architecturally executed, mispredicted indirect. -/
  | brIndMisPredRetired
  /-- R660 BR_RETURN_PRED_RETIRED (0x8114): Branch instruction architecturally executed, predicted procedure return. -/
  | brReturnPredRetired
  /-- R661 BR_RETURN_MIS_PRED_RETIRED (0x8115): Branch instruction architecturally executed, mispredicted procedure return. -/
  | brReturnMisPredRetired
  /-- R662 BR_INDNR_PRED_RETIRED (0x8116): Branch instruction architecturally executed, predicted indirect excluding procedure return. -/
  | brIndnrPredRetired
  /-- R663 BR_INDNR_MIS_PRED_RETIRED (0x8117): Branch instruction architecturally executed, mispredicted indirect excluding procedure return. -/
  | brIndnrMisPredRetired
  /-- R664 BR_TAKEN_PRED_RETIRED (0x8118): Branch instruction architecturally executed, predicted branch, taken. -/
  | brTakenPredRetired
  /-- R665 BR_TAKEN_MIS_PRED_RETIRED (0x8119): Branch instruction architecturally executed, mispredicted branch, taken. -/
  | brTakenMisPredRetired
  /-- R666 BR_SKIP_PRED_RETIRED (0x811A): Branch instruction architecturally executed, predicted branch, not taken. -/
  | brSkipPredRetired
  /-- R667 BR_SKIP_MIS_PRED_RETIRED (0x811B): Branch instruction architecturally executed, mispredicted branch, not taken. -/
  | brSkipMisPredRetired
  /-- R668 BR_PRED_RETIRED (0x811C): Branch instruction architecturally executed, predicted branch. -/
  | brPredRetired
  /-- R669 INST_FETCH_PERCYC (0x8120): Instruction fetches in progress. -/
  | instFetchPercyc
  /-- R670 MEM_ACCESS_RD_PERCYC (0x8121): Data memory reads in progress. -/
  | memAccessRdPercyc
  /-- R671 SAMPLE_FEED_DS (0x8122): Statistical Profiling sample taken, selected Data Source. -/
  | sampleFeedDs
  /-- R672 SAMPLE_BUFFER_FULL (0x8123): Profiling Buffer full. -/
  | sampleBufferFull
  /-- R673 INST_FETCH (0x8124): Instruction memory access. -/
  | instFetch
  /-- R674 BUS_REQ_RD_PERCYC (0x8125): Bus read transactions in progress. -/
  | busReqRdPercyc
  /-- R675 BUS_REQ_WR_PERCYC (0x8126): Bus write transactions in progress. -/
  | busReqWrPercyc
  /-- R676 PMU_SNAPSHOT (0x8127): Successful PMU capture event. -/
  | pmuSnapshot
  /-- R677 DTLB_WALK_PERCYC (0x8128): Data translation table walks in progress. -/
  | dtlbWalkPercyc
  /-- R678 ITLB_WALK_PERCYC (0x8129): Instruction translation table walks in progress. -/
  | itlbWalkPercyc
  /-- R679 SAMPLE_FEED_BR (0x812A): Statistical Profiling sample taken, branch. -/
  | sampleFeedBr
  /-- R680 SAMPLE_FEED_LD (0x812B): Statistical Profiling sample taken, load. -/
  | sampleFeedLd
  /-- R681 SAMPLE_FEED_ST (0x812C): Statistical Profiling sample taken, store. -/
  | sampleFeedSt
  /-- R682 SAMPLE_FEED_OP (0x812D): Statistical Profiling sample taken, matching type. -/
  | sampleFeedOp
  /-- R683 SAMPLE_FEED_EVENT (0x812E): Statistical Profiling sample taken, matching events. -/
  | sampleFeedEvent
  /-- R684 SAMPLE_FEED_LAT (0x812F): Statistical Profiling sample taken, exceeding minimum latency. -/
  | sampleFeedLat
  /-- R685 L1D_TLB_RW (0x8130): Level 1 data TLB access, demand access. -/
  | l1dTlbRw
  /-- R686 L1I_TLB_RD (0x8131): Level 1 instruction TLB access, demand access. -/
  | l1iTlbRd
  /-- R687 L1D_TLB_PRFM (0x8132): Level 1 data TLB access, software prefetch. -/
  | l1dTlbPrfm
  /-- R688 L1I_TLB_PRFM (0x8133): Level 1 instruction TLB access, software prefetch. -/
  | l1iTlbPrfm
  /-- R689 DTLB_HWUPD (0x8134): Data TLB hardware update of translation table. -/
  | dtlbHwupd
  /-- R690 ITLB_HWUPD (0x8135): Instruction TLB hardware update of translation table. -/
  | itlbHwupd
  /-- R691 DTLB_STEP (0x8136): Data TLB translation table walk, step. -/
  | dtlbStep
  /-- R692 ITLB_STEP (0x8137): Instruction TLB translation table walk, step. -/
  | itlbStep
  /-- R693 DTLB_WALK_LARGE (0x8138): Data TLB large page translation table walk. -/
  | dtlbWalkLarge
  /-- R694 ITLB_WALK_LARGE (0x8139): Instruction TLB large page translation table walk. -/
  | itlbWalkLarge
  /-- R695 DTLB_WALK_SMALL (0x813A): Data TLB small page translation table walk. -/
  | dtlbWalkSmall
  /-- R696 ITLB_WALK_SMALL (0x813B): Instruction TLB small page translation table walk. -/
  | itlbWalkSmall
  /-- R697 DTLB_WALK_RW (0x813C): Data TLB demand access, with at least one translation table walk. -/
  | dtlbWalkRw
  /-- R698 ITLB_WALK_RD (0x813D): Instruction TLB demand access, with at least one translation table walk. -/
  | itlbWalkRd
  /-- R699 DTLB_WALK_PRFM (0x813E): Data TLB software prefetch, with at least one translation table walk. -/
  | dtlbWalkPrfm
  /-- R700 ITLB_WALK_PRFM (0x813F): Instruction TLB software prefetch, with at least one translation table walk. -/
  | itlbWalkPrfm
  /-- R701 L1D_CACHE_RW (0x8140): Level 1 data cache demand access. -/
  | l1dCacheRw
  /-- R702 L1I_CACHE_RD (0x8141): Level 1 instruction cache demand fetch. -/
  | l1iCacheRd
  /-- R703 L1D_CACHE_PRFM (0x8142): Level 1 data cache software prefetch. -/
  | l1dCachePrfm
  /-- R704 L1I_CACHE_PRFM (0x8143): Level 1 instruction cache software prefetch. -/
  | l1iCachePrfm
  /-- R705 L1D_CACHE_MISS (0x8144): Level 1 data cache demand access miss. -/
  | l1dCacheMiss
  /-- R706 L1I_CACHE_HWPRF (0x8145): Level 1 instruction cache hardware prefetch. -/
  | l1iCacheHwprf
  /-- R707 L1D_CACHE_REFILL_PRFM (0x8146): Level 1 data cache refill, software prefetch. -/
  | l1dCacheRefillPrfm
  /-- R708 L1I_CACHE_REFILL_PRFM (0x8147): Level 1 instruction cache refill, software prefetch. -/
  | l1iCacheRefillPrfm
  /-- R709 L2D_CACHE_RW (0x8148): Level 2 data cache demand access. -/
  | l2dCacheRw
  /-- R710 L2I_CACHE_RD (0x8149): Level 2 instruction cache demand fetch. -/
  | l2iCacheRd
  /-- R711 L2D_CACHE_PRFM (0x814A): Level 2 data cache software prefetch. -/
  | l2dCachePrfm
  /-- R712 L2I_CACHE_PRFM (0x814B): Level 2 instruction cache software prefetch. -/
  | l2iCachePrfm
  /-- R713 L2D_CACHE_MISS (0x814C): Level 2 data cache demand access miss. -/
  | l2dCacheMiss
  /-- R714 L2I_CACHE_HWPRF (0x814D): Level 2 instruction cache hardware prefetch. -/
  | l2iCacheHwprf
  /-- R715 L2D_CACHE_REFILL_PRFM (0x814E): Level 2 data cache refill, software prefetch. -/
  | l2dCacheRefillPrfm
  /-- R716 L2I_CACHE_REFILL_PRFM (0x814F): Level 2 instruction cache refill, software prefetch. -/
  | l2iCacheRefillPrfm
  /-- R717 L3D_CACHE_RW (0x8150): Level 3 data cache demand access. -/
  | l3dCacheRw
  /-- R718 L3D_CACHE_PRFM (0x8151): Level 3 data cache software prefetch. -/
  | l3dCachePrfm
  /-- R719 L3D_CACHE_MISS (0x8152): Level 3 data cache demand access miss. -/
  | l3dCacheMiss
  /-- R720 L3D_CACHE_REFILL_PRFM (0x8153): Level 3 data cache refill, software prefetch. -/
  | l3dCacheRefillPrfm
  /-- R721 L1D_CACHE_HWPRF (0x8154): Level 1 data cache hardware prefetch. -/
  | l1dCacheHwprf
  /-- R722 L2D_CACHE_HWPRF (0x8155): Level 2 data cache hardware prefetch. -/
  | l2dCacheHwprf
  /-- R723 L3D_CACHE_HWPRF (0x8156): Level 3 data cache hardware prefetch. -/
  | l3dCacheHwprf
  /-- R724 LL_CACHE_HWPRF (0x8157): Last level cache hardware prefetch. -/
  | llCacheHwprf
  /-- R725 STALL_FRONTEND_MEMBOUND (0x8158): Frontend stall cycles, memory bound. -/
  | stallFrontendMembound
  /-- R726 STALL_FRONTEND_L1I (0x8159): Frontend stall cycles, level 1 instruction cache. -/
  | stallFrontendL1i
  /-- R727 STALL_FRONTEND_L2I (0x815A): Frontend stall cycles, level 2 instruction cache. -/
  | stallFrontendL2i
  /-- R728 STALL_FRONTEND_MEM (0x815B): Frontend stall cycles, last level PE cache or memory. -/
  | stallFrontendMem
  /-- R729 STALL_FRONTEND_TLB (0x815C): Frontend stall cycles, TLB. -/
  | stallFrontendTlb
  /-- R730 STALL_BACKEND_BUSY_SMCU (0x815D): Backend stall cycles, SMCU busy. -/
  | stallBackendBusySmcu
  /-- R731 STALL_BACKEND_BUSY_SMCU_UNALL (0x815E): Backend stall cycles, awaiting SMCU allocation. -/
  | stallBackendBusySmcuUnall
  /-- R732 STALL_FRONTEND_CPUBOUND (0x8160): Frontend stall cycles, processor bound. -/
  | stallFrontendCpubound
  /-- R733 STALL_FRONTEND_FLOW (0x8161): Frontend stall cycles, flow control. -/
  | stallFrontendFlow
  /-- R734 STALL_FRONTEND_FLUSH (0x8162): Frontend stall cycles, flush recovery. -/
  | stallFrontendFlush
  /-- R735 STALL_FRONTEND_RENAME (0x8163): Frontend stall cycles, rename full. -/
  | stallFrontendRename
  /-- R736 STALL_BACKEND_MEMBOUND (0x8164): Backend stall cycles, memory bound. -/
  | stallBackendMembound
  /-- R737 STALL_BACKEND_L1D (0x8165): Backend stall cycles, level 1 data cache. -/
  | stallBackendL1d
  /-- R738 STALL_BACKEND_L2D (0x8166): Backend stall cycles, level 2 data cache. -/
  | stallBackendL2d
  /-- R739 STALL_BACKEND_TLB (0x8167): Backend stall cycles, TLB. -/
  | stallBackendTlb
  /-- R740 STALL_BACKEND_ST (0x8168): Backend stall cycles, store. -/
  | stallBackendSt
  /-- R741 STALL_BACKEND_CPUBOUND (0x816A): Backend stall cycles, processor bound. -/
  | stallBackendCpubound
  /-- R742 STALL_BACKEND_BUSY (0x816B): Backend stall cycles, backend busy. -/
  | stallBackendBusy
  /-- R743 STALL_BACKEND_ILOCK (0x816C): Backend stall cycles, input dependency. -/
  | stallBackendIlock
  /-- R744 STALL_BACKEND_RENAME (0x816D): Backend stall cycles, rename full. -/
  | stallBackendRename
  /-- R745 STALL_BACKEND_ATOMIC (0x816E): Backend stall cycles, atomic operation. -/
  | stallBackendAtomic
  /-- R746 STALL_BACKEND_MEMCPYSET (0x816F): Backend stall cycles, Memory Copy or Set operation. -/
  | stallBackendMemcpyset
  /-- R747 CAS_NEAR_FAIL (0x8170): Atomic memory Operation speculatively executed, Compare and Swap fail. -/
  | casNearFail
  /-- R748 CAS_NEAR_PASS (0x8171): Atomic memory Operation speculatively executed, Compare and Swap pass. -/
  | casNearPass
  /-- R749 CAS_NEAR_SPEC (0x8172): Atomic memory Operation speculatively executed, Compare and Swap near. -/
  | casNearSpec
  /-- R750 CAS_FAR_SPEC (0x8173): Atomic memory Operation speculatively executed, Compare and Swap far. -/
  | casFarSpec
  /-- R751 CAS_SPEC (0x8174): Atomic memory Operation speculatively executed, Compare and Swap. -/
  | casSpec
  /-- R752 LSE_LD_SPEC (0x8175): Atomic memory Operation speculatively executed, load. -/
  | lseLdSpec
  /-- R753 LSE_ST_SPEC (0x8176): Atomic memory Operation speculatively executed, store. -/
  | lseStSpec
  /-- R754 LSE_LDST_SPEC (0x8177): Atomic memory Operation speculatively executed, load or store. -/
  | lseLdstSpec
  /-- R755 REMOTE_ACCESS_WR (0x8178): Access to a remote device, write. -/
  | remoteAccessWr
  /-- R756 BR_HINT_COND_PRED_RETIRED (0x8184): Branch instruction architecturally executed, predicted hinted conditional. -/
  | brHintCondPredRetired
  /-- R757 BR_HINT_COND_MIS_PRED_RETIRED (0x8185): Branch instruction architecturally executed, mispredicted hinted conditional. -/
  | brHintCondMisPredRetired
  /-- R758 UOP_RETIRED (0x8186): Micro-operation architecturally executed. -/
  | uopRetired
  /-- R759 DTLB_WALK_BLOCK (0x8188): Data TLB block translation table walk. -/
  | dtlbWalkBlock
  /-- R760 ITLB_WALK_BLOCK (0x8189): Instruction TLB block translation table walk. -/
  | itlbWalkBlock
  /-- R761 DTLB_WALK_PAGE (0x818A): Data TLB page translation table walk. -/
  | dtlbWalkPage
  /-- R762 ITLB_WALK_PAGE (0x818B): Instruction TLB page translation table walk. -/
  | itlbWalkPage
  /-- R763 BUS_REQ_RD (0x818D): Bus request, read. -/
  | busReqRd
  /-- R764 BUS_REQ_WR (0x818E): Bus request, write. -/
  | busReqWr
  /-- R765 BUS_REQ (0x818F): Bus request. -/
  | busReq
  /-- R766 ISNP_HIT_RD (0x8190): Snoop hit, demand instruction fetch. -/
  | isnpHitRd
  /-- R767 ISNP_HIT_NEAR_RD (0x8191): Snoop hit in near local cache, demand instruction fetch. -/
  | isnpHitNearRd
  /-- R768 ISNP_HIT_FAR_RD (0x8192): Snoop hit in far local cache, demand instruction fetch. -/
  | isnpHitFarRd
  /-- R769 ISNP_HIT_REMOTE_RD (0x8193): Snoop hit in remote cache, demand instruction fetch. -/
  | isnpHitRemoteRd
  /-- R770 DSNP_HIT_RD (0x8194): Snoop hit, demand data read. -/
  | dsnpHitRd
  /-- R771 DSNP_HIT_NEAR_RD (0x8195): Snoop hit in near local cache, demand data read. -/
  | dsnpHitNearRd
  /-- R772 DSNP_HIT_FAR_RD (0x8196): Snoop hit in far local cache, demand data read. -/
  | dsnpHitFarRd
  /-- R773 DSNP_HIT_REMOTE_RD (0x8197): Snoop hit in remote cache, demand data read. -/
  | dsnpHitRemoteRd
  /-- R774 DSNP_HIT_WR (0x8198): Snoop hit, demand data write. -/
  | dsnpHitWr
  /-- R775 DSNP_HIT_NEAR_WR (0x8199): Snoop hit in near local cache, demand data write. -/
  | dsnpHitNearWr
  /-- R776 DSNP_HIT_FAR_WR (0x819A): Snoop hit in far local cache, demand data write. -/
  | dsnpHitFarWr
  /-- R777 DSNP_HIT_REMOTE_WR (0x819B): Snoop hit in remote cache, demand data write. -/
  | dsnpHitRemoteWr
  /-- R778 DSNP_HIT_RW (0x819C): Snoop hit, demand data access. -/
  | dsnpHitRw
  /-- R779 DSNP_HIT_NEAR_RW (0x819D): Snoop hit in near local cache, demand data access. -/
  | dsnpHitNearRw
  /-- R780 DSNP_HIT_FAR_RW (0x819E): Snoop hit in far local cache, demand data access. -/
  | dsnpHitFarRw
  /-- R781 DSNP_HIT_REMOTE_RW (0x819F): Snoop hit in remote cache, demand data access. -/
  | dsnpHitRemoteRw
  /-- R782 DSNP_HIT_PRFM (0x81A0): Snoop hit, software data prefetch. -/
  | dsnpHitPrfm
  /-- R783 DSNP_HIT_NEAR_PRFM (0x81A1): Snoop hit in near local cache, software data prefetch. -/
  | dsnpHitNearPrfm
  /-- R784 DSNP_HIT_FAR_PRFM (0x81A2): Snoop hit in far local cache, software data prefetch. -/
  | dsnpHitFarPrfm
  /-- R785 DSNP_HIT_REMOTE_PRFM (0x81A3): Snoop hit in remote cache, software data prefetch. -/
  | dsnpHitRemotePrfm
  /-- R786 DSNP_HIT_HWPRF (0x81A4): Snoop hit, hardware data prefetch. -/
  | dsnpHitHwprf
  /-- R787 DSNP_HIT_NEAR_HWPRF (0x81A5): Snoop hit in near local cache, hardware data prefetch. -/
  | dsnpHitNearHwprf
  /-- R788 DSNP_HIT_FAR_HWPRF (0x81A6): Snoop hit in far local cache, hardware data prefetch. -/
  | dsnpHitFarHwprf
  /-- R789 DSNP_HIT_REMOTE_HWPRF (0x81A7): Snoop hit in remote cache, hardware data prefetch. -/
  | dsnpHitRemoteHwprf
  /-- R790 ISNP_HIT_PRFM (0x81A8): Snoop hit, software instruction prefetch. -/
  | isnpHitPrfm
  /-- R791 ISNP_HIT_NEAR_PRFM (0x81A9): Snoop hit in near local cache, software instruction prefetch. -/
  | isnpHitNearPrfm
  /-- R792 ISNP_HIT_FAR_PRFM (0x81AA): Snoop hit in far local cache, software instruction prefetch. -/
  | isnpHitFarPrfm
  /-- R793 ISNP_HIT_REMOTE_PRFM (0x81AB): Snoop hit in remote cache, software instruction prefetch. -/
  | isnpHitRemotePrfm
  /-- R794 ISNP_HIT_HWPRF (0x81AC): Snoop hit, hardware instruction prefetch. -/
  | isnpHitHwprf
  /-- R795 ISNP_HIT_NEAR_HWPRF (0x81AD): Snoop hit in near local cache, hardware instruction prefetch. -/
  | isnpHitNearHwprf
  /-- R796 ISNP_HIT_FAR_HWPRF (0x81AE): Snoop hit in far local cache, hardware instruction prefetch. -/
  | isnpHitFarHwprf
  /-- R797 ISNP_HIT_REMOTE_HWPRF (0x81AF): Snoop hit in remote cache, hardware instruction prefetch. -/
  | isnpHitRemoteHwprf
  /-- R798 ISNP_HIT (0x81B0): Snoop hit, instruction. -/
  | isnpHit
  /-- R799 ISNP_HIT_NEAR (0x81B1): Snoop hit in near local cache, instruction access. -/
  | isnpHitNear
  /-- R800 ISNP_HIT_FAR (0x81B2): Snoop hit in far local cache, instruction access. -/
  | isnpHitFar
  /-- R801 ISNP_HIT_REMOTE (0x81B3): Snoop hit in remote cache, instruction access. -/
  | isnpHitRemote
  /-- R802 DSNP_HIT (0x81B4): Snoop hit, data. -/
  | dsnpHit
  /-- R803 DSNP_HIT_NEAR (0x81B5): Snoop hit in near local cache, data access. -/
  | dsnpHitNear
  /-- R804 DSNP_HIT_FAR (0x81B6): Snoop hit in far local cache, data access. -/
  | dsnpHitFar
  /-- R805 DSNP_HIT_REMOTE (0x81B7): Snoop hit in remote cache, data access. -/
  | dsnpHitRemote
  /-- R806 L1I_CACHE_REFILL_HWPRF (0x81B8): Level 1 instruction cache refill, hardware prefetch. -/
  | l1iCacheRefillHwprf
  /-- R807 L2I_CACHE_REFILL_HWPRF (0x81B9): Level 2 instruction cache refill, hardware prefetch. -/
  | l2iCacheRefillHwprf
  /-- R808 L1D_CACHE_REFILL_HWPRF (0x81BC): Level 1 data cache refill, hardware prefetch. -/
  | l1dCacheRefillHwprf
  /-- R809 L2D_CACHE_REFILL_HWPRF (0x81BD): Level 2 data cache refill, hardware prefetch. -/
  | l2dCacheRefillHwprf
  /-- R810 L3D_CACHE_REFILL_HWPRF (0x81BE): Level 3 data cache refill, hardware prefetch. -/
  | l3dCacheRefillHwprf
  /-- R811 LL_CACHE_REFILL_HWPRF (0x81BF): Last level cache refill, hardware prefetch. -/
  | llCacheRefillHwprf
  /-- R812 L1I_CACHE_HIT_RD (0x81C0): Level 1 instruction cache demand fetch hit. -/
  | l1iCacheHitRd
  /-- R813 L2I_CACHE_HIT_RD (0x81C1): Level 2 instruction cache demand fetch hit. -/
  | l2iCacheHitRd
  /-- R814 L1D_CACHE_HIT_RD (0x81C4): Level 1 data cache demand access hit, read. -/
  | l1dCacheHitRd
  /-- R815 L2D_CACHE_HIT_RD (0x81C5): Level 2 data cache demand access hit, read. -/
  | l2dCacheHitRd
  /-- R816 L3D_CACHE_HIT_RD (0x81C6): Level 3 data cache demand access hit, read. -/
  | l3dCacheHitRd
  /-- R817 LL_CACHE_HIT_RD (0x81C7): Last level cache demand access hit, read. -/
  | llCacheHitRd
  /-- R818 L1D_CACHE_HIT_WR (0x81C8): Level 1 data cache demand access hit, write. -/
  | l1dCacheHitWr
  /-- R819 L2D_CACHE_HIT_WR (0x81C9): Level 2 data cache demand access hit, write. -/
  | l2dCacheHitWr
  /-- R820 L3D_CACHE_HIT_WR (0x81CA): Level 3 data cache demand access hit, write. -/
  | l3dCacheHitWr
  /-- R821 LL_CACHE_HIT_WR (0x81CB): Last level cache demand access hit, write. -/
  | llCacheHitWr
  /-- R822 L1D_CACHE_HIT_RW (0x81CC): Level 1 data cache demand access hit. -/
  | l1dCacheHitRw
  /-- R823 L2D_CACHE_HIT_RW (0x81CD): Level 2 data cache demand access hit. -/
  | l2dCacheHitRw
  /-- R824 L3D_CACHE_HIT_RW (0x81CE): Level 3 data cache demand access hit. -/
  | l3dCacheHitRw
  /-- R825 LL_CACHE_HIT_RW (0x81CF): Last level cache demand access hit. -/
  | llCacheHitRw
  /-- R826 L1I_CACHE_HIT_RD_FPRFM (0x81D0): Level 1 instruction cache demand fetch first hit, fetched by software prefetch. -/
  | l1iCacheHitRdFprfm
  /-- R827 L2I_CACHE_HIT_RD_FPRFM (0x81D1): Level 2 instruction cache demand fetch first hit, fetched by software prefetch. -/
  | l2iCacheHitRdFprfm
  /-- R828 L1D_CACHE_HIT_RD_FPRFM (0x81D4): Level 1 data cache demand access first hit, read, fetched by software prefetch. -/
  | l1dCacheHitRdFprfm
  /-- R829 L2D_CACHE_HIT_RD_FPRFM (0x81D5): Level 2 data cache demand access first hit, read, fetched by software prefetch. -/
  | l2dCacheHitRdFprfm
  /-- R830 L3D_CACHE_HIT_RD_FPRFM (0x81D6): Level 3 data cache demand access first hit, read, fetched by software prefetch. -/
  | l3dCacheHitRdFprfm
  /-- R831 LL_CACHE_HIT_RD_FPRFM (0x81D7): Last level cache demand access first hit, read, fetched by software prefetch. -/
  | llCacheHitRdFprfm
  /-- R832 L1D_CACHE_HIT_WR_FPRFM (0x81D8): Level 1 data cache demand access first hit, write, fetched by software prefetch. -/
  | l1dCacheHitWrFprfm
  /-- R833 L2D_CACHE_HIT_WR_FPRFM (0x81D9): Level 2 data cache demand access first hit, write, fetched by software prefetch. -/
  | l2dCacheHitWrFprfm
  /-- R834 L3D_CACHE_HIT_WR_FPRFM (0x81DA): Level 3 data cache demand access first hit, write, fetched by software prefetch. -/
  | l3dCacheHitWrFprfm
  /-- R835 LL_CACHE_HIT_WR_FPRFM (0x81DB): Last level cache demand access first hit, write, fetched by software prefetch. -/
  | llCacheHitWrFprfm
  /-- R836 L1D_CACHE_HIT_RW_FPRFM (0x81DC): Level 1 data cache demand access first hit, fetched by software prefetch. -/
  | l1dCacheHitRwFprfm
  /-- R837 L2D_CACHE_HIT_RW_FPRFM (0x81DD): Level 2 data cache demand access first hit, fetched by software prefetch. -/
  | l2dCacheHitRwFprfm
  /-- R838 L3D_CACHE_HIT_RW_FPRFM (0x81DE): Level 3 data cache demand access first hit, fetched by software prefetch. -/
  | l3dCacheHitRwFprfm
  /-- R839 LL_CACHE_HIT_RW_FPRFM (0x81DF): Last level cache demand access first hit, fetched by software prefetch. -/
  | llCacheHitRwFprfm
  /-- R840 L1I_CACHE_HIT_RD_FHWPRF (0x81E0): Level 1 instruction cache demand fetch first hit, fetched by hardware prefetcher. -/
  | l1iCacheHitRdFhwprf
  /-- R841 L2I_CACHE_HIT_RD_FHWPRF (0x81E1): Level 2 instruction cache demand fetch first hit, fetched by hardware prefetcher. -/
  | l2iCacheHitRdFhwprf
  /-- R842 L1D_CACHE_HIT_RD_FHWPRF (0x81E4): Level 1 data cache demand access first hit, read, fetched by hardware prefetcher. -/
  | l1dCacheHitRdFhwprf
  /-- R843 L2D_CACHE_HIT_RD_FHWPRF (0x81E5): Level 2 data cache demand access first hit, read, fetched by hardware prefetcher. -/
  | l2dCacheHitRdFhwprf
  /-- R844 L3D_CACHE_HIT_RD_FHWPRF (0x81E6): Level 3 data cache demand access first hit, read, fetched by hardware prefetcher. -/
  | l3dCacheHitRdFhwprf
  /-- R845 LL_CACHE_HIT_RD_FHWPRF (0x81E7): Last level cache demand access first hit, read, fetched by hardware prefetcher. -/
  | llCacheHitRdFhwprf
  /-- R846 L1D_CACHE_HIT_WR_FHWPRF (0x81E8): Level 1 data cache demand access first hit, write, fetched by hardware prefetcher. -/
  | l1dCacheHitWrFhwprf
  /-- R847 L2D_CACHE_HIT_WR_FHWPRF (0x81E9): Level 2 data cache demand access first hit, write, fetched by hardware prefetcher. -/
  | l2dCacheHitWrFhwprf
  /-- R848 L3D_CACHE_HIT_WR_FHWPRF (0x81EA): Level 3 data cache demand access first hit, write, fetched by hardware prefetcher. -/
  | l3dCacheHitWrFhwprf
  /-- R849 LL_CACHE_HIT_WR_FHWPRF (0x81EB): Last level cache demand access first hit, write, fetched by hardware prefetcher. -/
  | llCacheHitWrFhwprf
  /-- R850 L1D_CACHE_HIT_RW_FHWPRF (0x81EC): Level 1 data cache demand access first hit, fetched by hardware prefetcher. -/
  | l1dCacheHitRwFhwprf
  /-- R851 L2D_CACHE_HIT_RW_FHWPRF (0x81ED): Level 2 data cache demand access first hit, fetched by hardware prefetcher. -/
  | l2dCacheHitRwFhwprf
  /-- R852 L3D_CACHE_HIT_RW_FHWPRF (0x81EE): Level 3 data cache demand access first hit, fetched by hardware prefetcher. -/
  | l3dCacheHitRwFhwprf
  /-- R853 LL_CACHE_HIT_RW_FHWPRF (0x81EF): Last level cache demand access first hit, fetched by hardware prefetcher. -/
  | llCacheHitRwFhwprf
  /-- R854 L1I_CACHE_HIT_RD_FPRF (0x81F0): Level 1 instruction cache demand fetch first hit, fetched by prefetch. -/
  | l1iCacheHitRdFprf
  /-- R855 L2I_CACHE_HIT_RD_FPRF (0x81F1): Level 2 instruction cache demand fetch first hit, fetched by prefetch. -/
  | l2iCacheHitRdFprf
  /-- R856 L1D_CACHE_HIT_RD_FPRF (0x81F4): Level 1 data cache demand access first hit, read, fetched by prefetch. -/
  | l1dCacheHitRdFprf
  /-- R857 L2D_CACHE_HIT_RD_FPRF (0x81F5): Level 2 data cache demand access first hit, read, fetched by prefetch. -/
  | l2dCacheHitRdFprf
  /-- R858 L3D_CACHE_HIT_RD_FPRF (0x81F6): Level 3 data cache demand access first hit, read, fetched by prefetch. -/
  | l3dCacheHitRdFprf
  /-- R859 LL_CACHE_HIT_RD_FPRF (0x81F7): Last level cache demand access first hit, read, fetched by prefetch. -/
  | llCacheHitRdFprf
  /-- R860 L1D_CACHE_HIT_WR_FPRF (0x81F8): Level 1 data cache demand access first hit, write, fetched by prefetch. -/
  | l1dCacheHitWrFprf
  /-- R861 L2D_CACHE_HIT_WR_FPRF (0x81F9): Level 2 data cache demand access first hit, write, fetched by prefetch. -/
  | l2dCacheHitWrFprf
  /-- R862 L3D_CACHE_HIT_WR_FPRF (0x81FA): Level 3 data cache demand access first hit, write, fetched by prefetch. -/
  | l3dCacheHitWrFprf
  /-- R863 LL_CACHE_HIT_WR_FPRF (0x81FB): Last level cache demand access first hit, write, fetched by prefetch. -/
  | llCacheHitWrFprf
  /-- R864 L1D_CACHE_HIT_RW_FPRF (0x81FC): Level 1 data cache demand access first hit, fetched by prefetch. -/
  | l1dCacheHitRwFprf
  /-- R865 L2D_CACHE_HIT_RW_FPRF (0x81FD): Level 2 data cache demand access first hit, fetched by prefetch. -/
  | l2dCacheHitRwFprf
  /-- R866 L3D_CACHE_HIT_RW_FPRF (0x81FE): Level 3 data cache demand access first hit, fetched by prefetch. -/
  | l3dCacheHitRwFprf
  /-- R867 LL_CACHE_HIT_RW_FPRF (0x81FF): Last level cache demand access first hit, fetched by prefetch. -/
  | llCacheHitRwFprf
  /-- R868 L1I_CACHE_HIT (0x8200): Level 1 instruction cache hit. -/
  | l1iCacheHit
  /-- R869 L2I_CACHE_HIT (0x8201): Level 2 instruction cache hit. -/
  | l2iCacheHit
  /-- R870 L1D_CACHE_HIT (0x8204): Level 1 data cache hit. -/
  | l1dCacheHit
  /-- R871 L2D_CACHE_HIT (0x8205): Level 2 data cache hit. -/
  | l2dCacheHit
  /-- R872 L3D_CACHE_HIT (0x8206): Level 3 data cache hit. -/
  | l3dCacheHit
  /-- R873 LL_CACHE_HIT (0x8207): Last level cache hit. -/
  | llCacheHit
  /-- R874 L1I_CACHE_HIT_PRFM (0x8208): Level 1 instruction cache software prefetch hit. -/
  | l1iCacheHitPrfm
  /-- R875 L2I_CACHE_HIT_PRFM (0x8209): Level 2 instruction cache software prefetch hit. -/
  | l2iCacheHitPrfm
  /-- R876 L1D_CACHE_HIT_PRFM (0x820C): Level 1 data cache software prefetch hit. -/
  | l1dCacheHitPrfm
  /-- R877 L2D_CACHE_HIT_PRFM (0x820D): Level 2 data cache software prefetch hit. -/
  | l2dCacheHitPrfm
  /-- R878 L3D_CACHE_HIT_PRFM (0x820E): Level 3 data cache software prefetch hit. -/
  | l3dCacheHitPrfm
  /-- R879 LL_CACHE_HIT_PRFM (0x820F): Last level cache software prefetch hit. -/
  | llCacheHitPrfm
  /-- R880 L1D_CACHE_HITM_RD (0x8214): Level 1 data cache demand access hit modified, read. -/
  | l1dCacheHitmRd
  /-- R881 L2D_CACHE_HITM_RD (0x8215): Level 2 data cache demand access hit modified, read. -/
  | l2dCacheHitmRd
  /-- R882 L3D_CACHE_HITM_RD (0x8216): Level 3 data cache demand access hit modified, read. -/
  | l3dCacheHitmRd
  /-- R883 LL_CACHE_HITM_RD (0x8217): Last level cache demand access hit modified, read. -/
  | llCacheHitmRd
  /-- R884 L1D_CACHE_HITM_WR (0x8218): Level 1 data cache demand access hit modified, write. -/
  | l1dCacheHitmWr
  /-- R885 L2D_CACHE_HITM_WR (0x8219): Level 2 data cache demand access hit modified, write. -/
  | l2dCacheHitmWr
  /-- R886 L3D_CACHE_HITM_WR (0x821A): Level 3 data cache demand access hit modified, write. -/
  | l3dCacheHitmWr
  /-- R887 LL_CACHE_HITM_WR (0x821B): Last level cache demand access hit modified, write. -/
  | llCacheHitmWr
  /-- R888 L1D_CACHE_HITM_RW (0x821C): Level 1 data cache demand access hit modified. -/
  | l1dCacheHitmRw
  /-- R889 L2D_CACHE_HITM_RW (0x821D): Level 2 data cache demand access hit modified. -/
  | l2dCacheHitmRw
  /-- R890 L3D_CACHE_HITM_RW (0x821E): Level 3 data cache demand access hit modified. -/
  | l3dCacheHitmRw
  /-- R891 LL_CACHE_HITM_RW (0x821F): Last level cache demand access hit modified. -/
  | llCacheHitmRw
  /-- R892 DSNP_HITM_RD (0x8224): Snoop hit, demand data read, modified. -/
  | dsnpHitmRd
  /-- R893 DSNP_HITM_NEAR_RD (0x8225): Snoop hit in near local cache, demand data read, modified. -/
  | dsnpHitmNearRd
  /-- R894 DSNP_HITM_FAR_RD (0x8226): Snoop hit in far local cache, demand data read, modified. -/
  | dsnpHitmFarRd
  /-- R895 DSNP_HITM_REMOTE_RD (0x8227): Snoop hit in remote cache, demand data read, modified. -/
  | dsnpHitmRemoteRd
  /-- R896 DSNP_HITM_WR (0x8228): Snoop hit, demand data write, modified. -/
  | dsnpHitmWr
  /-- R897 DSNP_HITM_NEAR_WR (0x8229): Snoop hit in near local cache, demand data write, modified. -/
  | dsnpHitmNearWr
  /-- R898 DSNP_HITM_FAR_WR (0x822A): Snoop hit in far local cache, demand data write, modified. -/
  | dsnpHitmFarWr
  /-- R899 DSNP_HITM_REMOTE_WR (0x822B): Snoop hit in remote cache, demand data write, modified. -/
  | dsnpHitmRemoteWr
  /-- R900 DSNP_HITM_RW (0x822C): Snoop hit, demand data access, modified. -/
  | dsnpHitmRw
  /-- R901 DSNP_HITM_NEAR_RW (0x822D): Snoop hit in near local cache, demand data access, modified. -/
  | dsnpHitmNearRw
  /-- R902 DSNP_HITM_FAR_RW (0x822E): Snoop hit in far local cache, demand data access, modified. -/
  | dsnpHitmFarRw
  /-- R903 DSNP_HITM_REMOTE_RW (0x822F): Snoop hit in remote cache, demand data access, modified. -/
  | dsnpHitmRemoteRw
  /-- R904 LOCAL_MEM (0x8230): Access to memory attached to this device. -/
  | localMem
  /-- R905 LOCAL_MEM_RD (0x8231): Access to memory attached to this device, demand access, read. -/
  | localMemRd
  /-- R906 LOCAL_MEM_WR (0x8232): Access to memory attached to this device, demand access, write. -/
  | localMemWr
  /-- R907 LOCAL_MEM_RW (0x8233): Access to memory attached to this device, demand access. -/
  | localMemRw
  /-- R908 LOCAL_MEM_PRFM (0x8234): Access to memory attached to this device, software prefetch. -/
  | localMemPrfm
  /-- R909 LOCAL_MEM_LD_RETIRED (0x8235): Load instruction architecturally executed, access to memory attached to this device. -/
  | localMemLdRetired
  /-- R910 LOCAL_MEM_ST_RETIRED (0x8236): Store instruction architecturally executed, access to memory attached to this device. -/
  | localMemStRetired
  /-- R911 LOCAL_MEM_LDST_RETIRED (0x8237): Load or store instruction architecturally executed, access to memory attached to this device. -/
  | localMemLdstRetired
  /-- R912 REMOTE_MEM (0x8238): Access to memory attached to a remote device. -/
  | remoteMem
  /-- R913 REMOTE_MEM_RD (0x8239): Access to memory attached to a remote device, demand access, read. -/
  | remoteMemRd
  /-- R914 REMOTE_MEM_WR (0x823A): Access to memory attached to a remote device, demand access, write. -/
  | remoteMemWr
  /-- R915 REMOTE_MEM_RW (0x823B): Access to memory attached to a remote device, demand access. -/
  | remoteMemRw
  /-- R916 REMOTE_MEM_PRFM (0x823C): Access to memory attached to a remote device, software prefetch. -/
  | remoteMemPrfm
  /-- R917 REMOTE_MEM_LD_RETIRED (0x823D): Load instruction architecturally executed, access to memory attached to a remote device. -/
  | remoteMemLdRetired
  /-- R918 REMOTE_MEM_ST_RETIRED (0x823E): Store instruction architecturally executed, access to memory attached to a remote device. -/
  | remoteMemStRetired
  /-- R919 REMOTE_MEM_LDST_RETIRED (0x823F): Load or store instruction architecturally executed, access to memory attached to a remote device. -/
  | remoteMemLdstRetired
  /-- R920 L1I_LFB_HIT_RD (0x8240): Level 1 instruction cache demand fetch line-fill buffer hit. -/
  | l1iLfbHitRd
  /-- R921 L2I_LFB_HIT_RD (0x8241): Level 2 instruction cache demand fetch line-fill buffer hit. -/
  | l2iLfbHitRd
  /-- R922 L1D_LFB_HIT_RD (0x8244): Level 1 data cache demand access line-fill buffer hit, read. -/
  | l1dLfbHitRd
  /-- R923 L2D_LFB_HIT_RD (0x8245): Level 2 data cache demand access line-fill buffer hit, read. -/
  | l2dLfbHitRd
  /-- R924 L3D_LFB_HIT_RD (0x8246): Level 3 data cache demand access line-fill buffer hit, read. -/
  | l3dLfbHitRd
  /-- R925 LL_LFB_HIT_RD (0x8247): Last level cache demand access line-fill buffer hit, read. -/
  | llLfbHitRd
  /-- R926 L1D_LFB_HIT_WR (0x8248): Level 1 data cache demand access line-fill buffer hit, write. -/
  | l1dLfbHitWr
  /-- R927 L2D_LFB_HIT_WR (0x8249): Level 2 data cache demand access line-fill buffer hit, write. -/
  | l2dLfbHitWr
  /-- R928 L3D_LFB_HIT_WR (0x824A): Level 3 data cache demand access line-fill buffer hit, write. -/
  | l3dLfbHitWr
  /-- R929 LL_LFB_HIT_WR (0x824B): Last level cache demand access line-fill buffer hit, write. -/
  | llLfbHitWr
  /-- R930 L1D_LFB_HIT_RW (0x824C): Level 1 data cache demand access line-fill buffer hit. -/
  | l1dLfbHitRw
  /-- R931 L2D_LFB_HIT_RW (0x824D): Level 2 data cache demand access line-fill buffer hit. -/
  | l2dLfbHitRw
  /-- R932 L3D_LFB_HIT_RW (0x824E): Level 3 data cache demand access line-fill buffer hit. -/
  | l3dLfbHitRw
  /-- R933 LL_LFB_HIT_RW (0x824F): Last level cache demand access line-fill buffer hit. -/
  | llLfbHitRw
  /-- R934 L1I_LFB_HIT_RD_FPRFM (0x8250): Level 1 instruction cache demand fetch line-fill buffer first hit, recently fetched by software prefetch. -/
  | l1iLfbHitRdFprfm
  /-- R935 L2I_LFB_HIT_RD_FPRFM (0x8251): Level 2 instruction cache demand fetch line-fill buffer first hit, recently fetched by software prefetch. -/
  | l2iLfbHitRdFprfm
  /-- R936 L1D_LFB_HIT_RD_FPRFM (0x8254): Level 1 data cache demand access line-fill buffer first hit, read, recently fetched by software prefetch. -/
  | l1dLfbHitRdFprfm
  /-- R937 L2D_LFB_HIT_RD_FPRFM (0x8255): Level 2 data cache demand access line-fill buffer first hit, read, recently fetched by software prefetch. -/
  | l2dLfbHitRdFprfm
  /-- R938 L3D_LFB_HIT_RD_FPRFM (0x8256): Level 3 data cache demand access line-fill buffer first hit, read, recently fetched by software prefetch. -/
  | l3dLfbHitRdFprfm
  /-- R939 LL_LFB_HIT_RD_FPRFM (0x8257): Last level cache demand access line-fill buffer first hit, read, recently fetched by software prefetch. -/
  | llLfbHitRdFprfm
  /-- R940 L1D_LFB_HIT_WR_FPRFM (0x8258): Level 1 data cache demand access line-fill buffer first hit, write, recently fetched by software prefetch. -/
  | l1dLfbHitWrFprfm
  /-- R941 L2D_LFB_HIT_WR_FPRFM (0x8259): Level 2 data cache demand access line-fill buffer first hit, write, recently fetched by software prefetch. -/
  | l2dLfbHitWrFprfm
  /-- R942 L3D_LFB_HIT_WR_FPRFM (0x825A): Level 3 data cache demand access line-fill buffer first hit, write, recently fetched by software prefetch. -/
  | l3dLfbHitWrFprfm
  /-- R943 LL_LFB_HIT_WR_FPRFM (0x825B): Last level cache demand access line-fill buffer first hit, write, recently fetched by software prefetch. -/
  | llLfbHitWrFprfm
  /-- R944 L1D_LFB_HIT_RW_FPRFM (0x825C): Level 1 data cache demand access line-fill buffer first hit, recently fetched by software prefetch. -/
  | l1dLfbHitRwFprfm
  /-- R945 L2D_LFB_HIT_RW_FPRFM (0x825D): Level 2 data cache demand access line-fill buffer first hit, recently fetched by software prefetch. -/
  | l2dLfbHitRwFprfm
  /-- R946 L3D_LFB_HIT_RW_FPRFM (0x825E): Level 3 data cache demand access line-fill buffer first hit, recently fetched by software prefetch. -/
  | l3dLfbHitRwFprfm
  /-- R947 LL_LFB_HIT_RW_FPRFM (0x825F): Last level cache demand access line-fill buffer first hit, recently fetched by software prefetch. -/
  | llLfbHitRwFprfm
  /-- R948 L1I_LFB_HIT_RD_FHWPRF (0x8260): Level 1 instruction cache demand fetch line-fill buffer first hit, recently fetched by hardware prefetcher. -/
  | l1iLfbHitRdFhwprf
  /-- R949 L2I_LFB_HIT_RD_FHWPRF (0x8261): Level 2 instruction cache demand fetch line-fill buffer first hit, recently fetched by hardware prefetcher. -/
  | l2iLfbHitRdFhwprf
  /-- R950 L1D_LFB_HIT_RD_FHWPRF (0x8264): Level 1 data cache demand access line-fill buffer first hit, read, recently fetched by hardware prefetcher. -/
  | l1dLfbHitRdFhwprf
  /-- R951 L2D_LFB_HIT_RD_FHWPRF (0x8265): Level 2 data cache demand access line-fill buffer first hit, read, recently fetched by hardware prefetcher. -/
  | l2dLfbHitRdFhwprf
  /-- R952 L3D_LFB_HIT_RD_FHWPRF (0x8266): Level 3 data cache demand access line-fill buffer first hit, read, recently fetched by hardware prefetcher. -/
  | l3dLfbHitRdFhwprf
  /-- R953 LL_LFB_HIT_RD_FHWPRF (0x8267): Last level cache demand access line-fill buffer first hit, read, recently fetched by hardware prefetcher. -/
  | llLfbHitRdFhwprf
  /-- R954 L1D_LFB_HIT_WR_FHWPRF (0x8268): Level 1 data cache demand access line-fill buffer first hit, write, recently fetched by hardware prefetcher. -/
  | l1dLfbHitWrFhwprf
  /-- R955 L2D_LFB_HIT_WR_FHWPRF (0x8269): Level 2 data cache demand access line-fill buffer first hit, write, recently fetched by hardware prefetcher. -/
  | l2dLfbHitWrFhwprf
  /-- R956 L3D_LFB_HIT_WR_FHWPRF (0x826A): Level 3 data cache demand access line-fill buffer first hit, write, recently fetched by hardware prefetcher. -/
  | l3dLfbHitWrFhwprf
  /-- R957 LL_LFB_HIT_WR_FHWPRF (0x826B): Last level cache demand access line-fill buffer first hit, write, recently fetched by hardware prefetcher. -/
  | llLfbHitWrFhwprf
  /-- R958 L1D_LFB_HIT_RW_FHWPRF (0x826C): Level 1 data cache demand access line-fill buffer first hit, recently fetched by hardware prefetcher. -/
  | l1dLfbHitRwFhwprf
  /-- R959 L2D_LFB_HIT_RW_FHWPRF (0x826D): Level 2 data cache demand access line-fill buffer first hit, recently fetched by hardware prefetcher. -/
  | l2dLfbHitRwFhwprf
  /-- R960 L3D_LFB_HIT_RW_FHWPRF (0x826E): Level 3 data cache demand access line-fill buffer first hit, recently fetched by hardware prefetcher. -/
  | l3dLfbHitRwFhwprf
  /-- R961 LL_LFB_HIT_RW_FHWPRF (0x826F): Last level cache demand access line-fill buffer first hit, recently fetched by hardware prefetcher. -/
  | llLfbHitRwFhwprf
  /-- R962 L1I_LFB_HIT_RD_FPRF (0x8270): Level 1 instruction cache demand fetch line-fill buffer first hit, recently fetched by prefetch. -/
  | l1iLfbHitRdFprf
  /-- R963 L2I_LFB_HIT_RD_FPRF (0x8271): Level 2 instruction cache demand fetch line-fill buffer first hit, recently fetched by prefetch. -/
  | l2iLfbHitRdFprf
  /-- R964 L1D_LFB_HIT_RD_FPRF (0x8274): Level 1 data cache demand access line-fill buffer first hit, read, recently fetched by prefetch. -/
  | l1dLfbHitRdFprf
  /-- R965 L2D_LFB_HIT_RD_FPRF (0x8275): Level 2 data cache demand access line-fill buffer first hit, read, recently fetched by prefetch. -/
  | l2dLfbHitRdFprf
  /-- R966 L3D_LFB_HIT_RD_FPRF (0x8276): Level 3 data cache demand access line-fill buffer first hit, read, recently fetched by prefetch. -/
  | l3dLfbHitRdFprf
  /-- R967 LL_LFB_HIT_RD_FPRF (0x8277): Last level cache demand access line-fill buffer first hit, read, recently fetched by prefetch. -/
  | llLfbHitRdFprf
  /-- R968 L1D_LFB_HIT_WR_FPRF (0x8278): Level 1 data cache demand access line-fill buffer first hit, write, recently fetched by prefetch. -/
  | l1dLfbHitWrFprf
  /-- R969 L2D_LFB_HIT_WR_FPRF (0x8279): Level 2 data cache demand access line-fill buffer first hit, write, recently fetched by prefetch. -/
  | l2dLfbHitWrFprf
  /-- R970 L3D_LFB_HIT_WR_FPRF (0x827A): Level 3 data cache demand access line-fill buffer first hit, write, recently fetched by prefetch. -/
  | l3dLfbHitWrFprf
  /-- R971 LL_LFB_HIT_WR_FPRF (0x827B): Last level cache demand access line-fill buffer first hit, write, recently fetched by prefetch. -/
  | llLfbHitWrFprf
  /-- R972 L1D_LFB_HIT_RW_FPRF (0x827C): Level 1 data cache demand access line-fill buffer first hit, recently fetched by prefetch. -/
  | l1dLfbHitRwFprf
  /-- R973 L2D_LFB_HIT_RW_FPRF (0x827D): Level 2 data cache demand access line-fill buffer first hit, recently fetched by prefetch. -/
  | l2dLfbHitRwFprf
  /-- R974 L3D_LFB_HIT_RW_FPRF (0x827E): Level 3 data cache demand access line-fill buffer first hit, recently fetched by prefetch. -/
  | l3dLfbHitRwFprf
  /-- R975 LL_LFB_HIT_RW_FPRF (0x827F): Last level cache demand access line-fill buffer first hit, recently fetched by prefetch. -/
  | llLfbHitRwFprf
  /-- R976 L1I_CACHE_PRF (0x8280): Level 1 instruction cache, prefetch hit. -/
  | l1iCachePrf
  /-- R977 L2I_CACHE_PRF (0x8281): Level 2 instruction cache, prefetch hit. -/
  | l2iCachePrf
  /-- R978 L1D_CACHE_PRF (0x8284): Level 1 data cache, prefetch hit. -/
  | l1dCachePrf
  /-- R979 L2D_CACHE_PRF (0x8285): Level 2 data cache, prefetch hit. -/
  | l2dCachePrf
  /-- R980 L3D_CACHE_PRF (0x8286): Level 3 data cache, prefetch hit. -/
  | l3dCachePrf
  /-- R981 LL_CACHE_PRF (0x8287): Last level cache, prefetch hit. -/
  | llCachePrf
  /-- R982 L1I_CACHE_REFILL_PRF (0x8288): Level 1 instruction cache refill, prefetch hit. -/
  | l1iCacheRefillPrf
  /-- R983 L2I_CACHE_REFILL_PRF (0x8289): Level 2 instruction cache refill, prefetch hit. -/
  | l2iCacheRefillPrf
  /-- R984 L1D_CACHE_REFILL_PRF (0x828C): Level 1 data cache refill, prefetch hit. -/
  | l1dCacheRefillPrf
  /-- R985 L2D_CACHE_REFILL_PRF (0x828D): Level 2 data cache refill, prefetch hit. -/
  | l2dCacheRefillPrf
  /-- R986 L3D_CACHE_REFILL_PRF (0x828E): Level 3 data cache refill, prefetch hit. -/
  | l3dCacheRefillPrf
  /-- R987 LL_CACHE_REFILL_PRF (0x828F): Last level cache refill, prefetch hit. -/
  | llCacheRefillPrf
  /-- R988 ISNP_HIT_PRF (0x8290): Snoop hit, instruction prefetch. -/
  | isnpHitPrf
  /-- R989 ISNP_HIT_NEAR_PRF (0x8291): Snoop hit in near local cache, instruction prefetch. -/
  | isnpHitNearPrf
  /-- R990 ISNP_HIT_FAR_PRF (0x8292): Snoop hit in far local cache, instruction prefetch. -/
  | isnpHitFarPrf
  /-- R991 ISNP_HIT_REMOTE_PRF (0x8293): Snoop hit in remote cache, instruction prefetch. -/
  | isnpHitRemotePrf
  /-- R992 DSNP_HIT_PRF (0x8294): Snoop hit, data prefetch. -/
  | dsnpHitPrf
  /-- R993 DSNP_HIT_NEAR_PRF (0x8295): Snoop hit in near local cache, data prefetch. -/
  | dsnpHitNearPrf
  /-- R994 DSNP_HIT_FAR_PRF (0x8296): Snoop hit in far local cache, data prefetch. -/
  | dsnpHitFarPrf
  /-- R995 DSNP_HIT_REMOTE_PRF (0x8297): Snoop hit in remote cache, data prefetch. -/
  | dsnpHitRemotePrf
  /-- R996 LL_CACHE_RW (0x8298): Last level cache demand access. -/
  | llCacheRw
  /-- R997 LL_CACHE_PRFM (0x8299): Last level cache software prefetch. -/
  | llCachePrfm
  /-- R998 LL_CACHE_REFILL (0x829A): Last level cache refill. -/
  | llCacheRefill
  /-- R999 LL_CACHE_REFILL_PRFM (0x829B): Last level cache refill, software prefetch. -/
  | llCacheRefillPrfm
  /-- R1000 LL_CACHE_WB (0x829C): Last level cache write-back. -/
  | llCacheWb
  /-- R1001 LL_CACHE_WR (0x829D): Last level cache access, write. -/
  | llCacheWr
  /-- R1002 LL_CACHE_REFILL_WR (0x829F): Last level cache refill, write. -/
  | llCacheRefillWr
  /-- R1003 MEM_ACCESS_RW (0x82A0): Data memory access, demand access. -/
  | memAccessRw
  /-- R1004 INST_FETCH_RD (0x82A1): Instruction memory access, demand fetch. -/
  | instFetchRd
  /-- R1005 MEM_ACCESS_PRFM (0x82A2): Data memory access, software prefetch. -/
  | memAccessPrfm
  /-- R1006 INST_FETCH_PRFM (0x82A3): Instruction memory access, software prefetch. -/
  | instFetchPrfm
  /-- R1007 L1I_CACHE_MISS_RETIRED (0x82B0): Instruction architecturally executed, miss in Level 1 instruction cache. -/
  | l1iCacheMissRetired
  /-- R1008 L2I_CACHE_MISS_RETIRED (0x82B1): Instruction architecturally executed, miss in Level 2 instruction cache. -/
  | l2iCacheMissRetired
  /-- R1009 L1D_CACHE_MISS_LD_RETIRED (0x82B4): Load instruction architecturally executed, miss in Level 1 data cache. -/
  | l1dCacheMissLdRetired
  /-- R1010 L2D_CACHE_MISS_LD_RETIRED (0x82B5): Load instruction architecturally executed, miss in Level 2 data cache. -/
  | l2dCacheMissLdRetired
  /-- R1011 L3D_CACHE_MISS_LD_RETIRED (0x82B6): Load instruction architecturally executed, miss in Level 3 data cache. -/
  | l3dCacheMissLdRetired
  /-- R1012 LL_CACHE_MISS_LD_RETIRED (0x82B7): Load instruction architecturally executed, miss in Last level cache. -/
  | llCacheMissLdRetired
  /-- R1013 L1D_CACHE_MISS_ST_RETIRED (0x82B8): Store instruction architecturally executed, miss in Level 1 data cache. -/
  | l1dCacheMissStRetired
  /-- R1014 L2D_CACHE_MISS_ST_RETIRED (0x82B9): Store instruction architecturally executed, miss in Level 2 data cache. -/
  | l2dCacheMissStRetired
  /-- R1015 L3D_CACHE_MISS_ST_RETIRED (0x82BA): Store instruction architecturally executed, miss in Level 3 data cache. -/
  | l3dCacheMissStRetired
  /-- R1016 LL_CACHE_MISS_ST_RETIRED (0x82BB): Store instruction architecturally executed, miss in Last level cache. -/
  | llCacheMissStRetired
  /-- R1017 L1D_CACHE_MISS_LDST_RETIRED (0x82BC): Load or store instruction architecturally executed, miss in Level 1 data cache. -/
  | l1dCacheMissLdstRetired
  /-- R1018 L2D_CACHE_MISS_LDST_RETIRED (0x82BD): Load or store instruction architecturally executed, miss in Level 2 data cache. -/
  | l2dCacheMissLdstRetired
  /-- R1019 L3D_CACHE_MISS_LDST_RETIRED (0x82BE): Load or store instruction architecturally executed, miss in Level 3 data cache. -/
  | l3dCacheMissLdstRetired
  /-- R1020 LL_CACHE_MISS_LDST_RETIRED (0x82BF): Load or store instruction architecturally executed, miss in Last level cache. -/
  | llCacheMissLdstRetired
  /-- R1021 L1D_CACHE_HITM_LD_RETIRED (0x82C4): Load instruction architecturally executed, hit modified data in Level 1 data cache. -/
  | l1dCacheHitmLdRetired
  /-- R1022 L2D_CACHE_HITM_LD_RETIRED (0x82C5): Load instruction architecturally executed, hit modified data in Level 2 data cache. -/
  | l2dCacheHitmLdRetired
  /-- R1023 L3D_CACHE_HITM_LD_RETIRED (0x82C6): Load instruction architecturally executed, hit modified data in Level 3 data cache. -/
  | l3dCacheHitmLdRetired
  /-- R1024 LL_CACHE_HITM_LD_RETIRED (0x82C7): Load instruction architecturally executed, hit modified data in Last level cache. -/
  | llCacheHitmLdRetired
  /-- R1025 L1D_CACHE_HITM_ST_RETIRED (0x82C8): Store instruction architecturally executed, hit modified data in Level 1 data cache. -/
  | l1dCacheHitmStRetired
  /-- R1026 L2D_CACHE_HITM_ST_RETIRED (0x82C9): Store instruction architecturally executed, hit modified data in Level 2 data cache. -/
  | l2dCacheHitmStRetired
  /-- R1027 L3D_CACHE_HITM_ST_RETIRED (0x82CA): Store instruction architecturally executed, hit modified data in Level 3 data cache. -/
  | l3dCacheHitmStRetired
  /-- R1028 LL_CACHE_HITM_ST_RETIRED (0x82CB): Store instruction architecturally executed, hit modified data in Last level cache. -/
  | llCacheHitmStRetired
  /-- R1029 L1D_CACHE_HITM_LDST_RETIRED (0x82CC): Load or store instruction architecturally executed, hit modified data in Level 1 data cache. -/
  | l1dCacheHitmLdstRetired
  /-- R1030 L2D_CACHE_HITM_LDST_RETIRED (0x82CD): Load or store instruction architecturally executed, hit modified data in Level 2 data cache. -/
  | l2dCacheHitmLdstRetired
  /-- R1031 L3D_CACHE_HITM_LDST_RETIRED (0x82CE): Load or store instruction architecturally executed, hit modified data in Level 3 data cache. -/
  | l3dCacheHitmLdstRetired
  /-- R1032 LL_CACHE_HITM_LDST_RETIRED (0x82CF): Load or store instruction architecturally executed, hit modified data in Last level cache. -/
  | llCacheHitmLdstRetired
  /-- R1033 L1I_LFB_HIT_RETIRED (0x82D0): Instruction architecturally executed, line-fill buffer hit in Level 1 instruction cache. -/
  | l1iLfbHitRetired
  /-- R1034 L2I_LFB_HIT_RETIRED (0x82D1): Instruction architecturally executed, line-fill buffer hit in Level 2 instruction cache. -/
  | l2iLfbHitRetired
  /-- R1035 L1D_LFB_HIT_LD_RETIRED (0x82D4): Load instruction architecturally executed, line-fill buffer hit in Level 1 data cache. -/
  | l1dLfbHitLdRetired
  /-- R1036 L2D_LFB_HIT_LD_RETIRED (0x82D5): Load instruction architecturally executed, line-fill buffer hit in Level 2 data cache. -/
  | l2dLfbHitLdRetired
  /-- R1037 L3D_LFB_HIT_LD_RETIRED (0x82D6): Load instruction architecturally executed, line-fill buffer hit in Level 3 data cache. -/
  | l3dLfbHitLdRetired
  /-- R1038 LL_LFB_HIT_LD_RETIRED (0x82D7): Load instruction architecturally executed, line-fill buffer hit in Last level cache. -/
  | llLfbHitLdRetired
  /-- R1039 L1D_LFB_HIT_ST_RETIRED (0x82D8): Store instruction architecturally executed, line-fill buffer hit in Level 1 data cache. -/
  | l1dLfbHitStRetired
  /-- R1040 L2D_LFB_HIT_ST_RETIRED (0x82D9): Store instruction architecturally executed, line-fill buffer hit in Level 2 data cache. -/
  | l2dLfbHitStRetired
  /-- R1041 L3D_LFB_HIT_ST_RETIRED (0x82DA): Store instruction architecturally executed, line-fill buffer hit in Level 3 data cache. -/
  | l3dLfbHitStRetired
  /-- R1042 LL_LFB_HIT_ST_RETIRED (0x82DB): Store instruction architecturally executed, line-fill buffer hit in Last level cache. -/
  | llLfbHitStRetired
  /-- R1043 L1D_LFB_HIT_LDST_RETIRED (0x82DC): Load or store instruction architecturally executed, line-fill buffer hit in Level 1 data cache. -/
  | l1dLfbHitLdstRetired
  /-- R1044 L2D_LFB_HIT_LDST_RETIRED (0x82DD): Load or store instruction architecturally executed, line-fill buffer hit in Level 2 data cache. -/
  | l2dLfbHitLdstRetired
  /-- R1045 L3D_LFB_HIT_LDST_RETIRED (0x82DE): Load or store instruction architecturally executed, line-fill buffer hit in Level 3 data cache. -/
  | l3dLfbHitLdstRetired
  /-- R1046 LL_LFB_HIT_LDST_RETIRED (0x82DF): Load or store instruction architecturally executed, line-fill buffer hit in Last level cache. -/
  | llLfbHitLdstRetired
  /-- R1047 L1I_CACHE_HIT_RETIRED (0x82E0): Instruction architecturally executed, hit in Level 1 instruction cache. -/
  | l1iCacheHitRetired
  /-- R1048 L2I_CACHE_HIT_RETIRED (0x82E1): Instruction architecturally executed, hit in Level 2 instruction cache. -/
  | l2iCacheHitRetired
  /-- R1049 L1D_CACHE_HIT_LD_RETIRED (0x82E4): Load instruction architecturally executed, hit in Level 1 data cache. -/
  | l1dCacheHitLdRetired
  /-- R1050 L2D_CACHE_HIT_LD_RETIRED (0x82E5): Load instruction architecturally executed, hit in Level 2 data cache. -/
  | l2dCacheHitLdRetired
  /-- R1051 L3D_CACHE_HIT_LD_RETIRED (0x82E6): Load instruction architecturally executed, hit in Level 3 data cache. -/
  | l3dCacheHitLdRetired
  /-- R1052 LL_CACHE_HIT_LD_RETIRED (0x82E7): Load instruction architecturally executed, hit in Last level cache. -/
  | llCacheHitLdRetired
  /-- R1053 L1D_CACHE_HIT_ST_RETIRED (0x82E8): Store instruction architecturally executed, hit in Level 1 data cache. -/
  | l1dCacheHitStRetired
  /-- R1054 L2D_CACHE_HIT_ST_RETIRED (0x82E9): Store instruction architecturally executed, hit in Level 2 data cache. -/
  | l2dCacheHitStRetired
  /-- R1055 L3D_CACHE_HIT_ST_RETIRED (0x82EA): Store instruction architecturally executed, hit in Level 3 data cache. -/
  | l3dCacheHitStRetired
  /-- R1056 LL_CACHE_HIT_ST_RETIRED (0x82EB): Store instruction architecturally executed, hit in Last level cache. -/
  | llCacheHitStRetired
  /-- R1057 L1D_CACHE_HIT_LDST_RETIRED (0x82EC): Load or store instruction architecturally executed, hit in Level 1 data cache. -/
  | l1dCacheHitLdstRetired
  /-- R1058 L2D_CACHE_HIT_LDST_RETIRED (0x82ED): Load or store instruction architecturally executed, hit in Level 2 data cache. -/
  | l2dCacheHitLdstRetired
  /-- R1059 L3D_CACHE_HIT_LDST_RETIRED (0x82EE): Load or store instruction architecturally executed, hit in Level 3 data cache. -/
  | l3dCacheHitLdstRetired
  /-- R1060 LL_CACHE_HIT_LDST_RETIRED (0x82EF): Load or store instruction architecturally executed, hit in Last level cache. -/
  | llCacheHitLdstRetired
  /-- R1061 ITLB_HIT_RETIRED (0x82F0): Instruction architecturally executed, no translation table walk. -/
  | itlbHitRetired
  /-- R1062 DTLB_HIT_LD_RETIRED (0x82F1): Load instruction architecturally executed, no translation table walk. -/
  | dtlbHitLdRetired
  /-- R1063 DTLB_HIT_ST_RETIRED (0x82F2): Store instruction architecturally executed, no translation table walk. -/
  | dtlbHitStRetired
  /-- R1064 DTLB_HIT_LDST_RETIRED (0x82F3): Load or store instruction architecturally executed, no translation table walk. -/
  | dtlbHitLdstRetired
  /-- R1065 ITLB_WALK_RETIRED (0x82F4): Instruction architecturally executed, at least one translation table walk. -/
  | itlbWalkRetired
  /-- R1066 DTLB_WALK_LD_RETIRED (0x82F5): Load instruction architecturally executed, at least one translation table walk. -/
  | dtlbWalkLdRetired
  /-- R1067 DTLB_WALK_ST_RETIRED (0x82F6): Store instruction architecturally executed, at least one translation table walk. -/
  | dtlbWalkStRetired
  /-- R1068 DTLB_WALK_LDST_RETIRED (0x82F7): Load or store instruction architecturally executed, at least one translation table walk. -/
  | dtlbWalkLdstRetired
  /-- R1069 DTLB_WALK_PRF (0x82F8): Data TLB prefetch, with at least one translation table walk. -/
  | dtlbWalkPrf
  /-- R1070 ITLB_WALK_PRF (0x82F9): Instruction TLB prefetch, with at least one translation table walk. -/
  | itlbWalkPrf
  /-- R1071 DTLB_WALK_HWPRF (0x82FA): Data TLB hardware prefetch, with at least one translation table walk. -/
  | dtlbWalkHwprf
  /-- R1072 ITLB_WALK_HWPRF (0x82FB): Instruction TLB hardware prefetch, with at least one translation table walk. -/
  | itlbWalkHwprf
  /-- R1073 L1D_TLB_PRF (0x82FC): Level 1 data TLB access, prefetch. -/
  | l1dTlbPrf
  /-- R1074 L1I_TLB_PRF (0x82FD): Level 1 instruction TLB access, prefetch. -/
  | l1iTlbPrf
  /-- R1075 L1D_TLB_HWPRF (0x82FE): Level 1 data TLB access, hardware prefetch. -/
  | l1dTlbHwprf
  /-- R1076 L1I_TLB_HWPRF (0x82FF): Level 1 instruction TLB access, hardware prefetch. -/
  | l1iTlbHwprf
  /-- R1077 DSNP_HITM_LD_RETIRED (0x8304): Load instruction architecturally executed, snoop hit. -/
  | dsnpHitmLdRetired
  /-- R1078 DSNP_HITM_NEAR_LD_RETIRED (0x8305): Load instruction architecturally executed, snoop hit in near cache. -/
  | dsnpHitmNearLdRetired
  /-- R1079 DSNP_HITM_FAR_LD_RETIRED (0x8306): Load instruction architecturally executed, snoop hit in far cache. -/
  | dsnpHitmFarLdRetired
  /-- R1080 DSNP_HITM_REMOTE_LD_RETIRED (0x8307): Load instruction architecturally executed, snoop hit in remote cache. -/
  | dsnpHitmRemoteLdRetired
  /-- R1081 DSNP_HITM_ST_RETIRED (0x8308): Store instruction architecturally executed, snoop hit. -/
  | dsnpHitmStRetired
  /-- R1082 DSNP_HITM_NEAR_ST_RETIRED (0x8309): Store instruction architecturally executed, snoop hit in near cache. -/
  | dsnpHitmNearStRetired
  /-- R1083 DSNP_HITM_FAR_ST_RETIRED (0x830A): Store instruction architecturally executed, snoop hit in far cache. -/
  | dsnpHitmFarStRetired
  /-- R1084 DSNP_HITM_REMOTE_ST_RETIRED (0x830B): Store instruction architecturally executed, snoop hit in remote cache. -/
  | dsnpHitmRemoteStRetired
  /-- R1085 DSNP_HITM_LDST_RETIRED (0x830C): Load or store instruction architecturally executed, snoop hit. -/
  | dsnpHitmLdstRetired
  /-- R1086 DSNP_HITM_NEAR_LDST_RETIRED (0x830D): Load or store instruction architecturally executed, snoop hit in near cache. -/
  | dsnpHitmNearLdstRetired
  /-- R1087 DSNP_HITM_FAR_LDST_RETIRED (0x830E): Load or store instruction architecturally executed, snoop hit in far cache. -/
  | dsnpHitmFarLdstRetired
  /-- R1088 DSNP_HITM_REMOTE_LDST_RETIRED (0x830F): Load or store instruction architecturally executed, snoop hit in remote cache. -/
  | dsnpHitmRemoteLdstRetired
  /-- R1089 ISNP_HIT_RETIRED (0x8310): Instruction architecturally executed, instruction fetch snoop hit. -/
  | isnpHitRetired
  /-- R1090 ISNP_HIT_NEAR_RETIRED (0x8311): Instruction architecturally executed, instruction fetch snoop hit in near cache. -/
  | isnpHitNearRetired
  /-- R1091 ISNP_HIT_FAR_RETIRED (0x8312): Instruction architecturally executed, instruction fetch snoop hit in far cache. -/
  | isnpHitFarRetired
  /-- R1092 ISNP_HIT_REMOTE_RETIRED (0x8313): Instruction architecturally executed, instruction fetch snoop hit in remote cache. -/
  | isnpHitRemoteRetired
  /-- R1093 DSNP_HIT_LD_RETIRED (0x8314): Load instruction architecturally executed, snoop hit. -/
  | dsnpHitLdRetired
  /-- R1094 DSNP_HIT_NEAR_LD_RETIRED (0x8315): Load instruction architecturally executed, snoop hit in near cache. -/
  | dsnpHitNearLdRetired
  /-- R1095 DSNP_HIT_FAR_LD_RETIRED (0x8316): Load instruction architecturally executed, snoop hit in far cache. -/
  | dsnpHitFarLdRetired
  /-- R1096 DSNP_HIT_REMOTE_LD_RETIRED (0x8317): Load instruction architecturally executed, snoop hit in remote cache. -/
  | dsnpHitRemoteLdRetired
  /-- R1097 DSNP_HIT_ST_RETIRED (0x8318): Store instruction architecturally executed, snoop hit. -/
  | dsnpHitStRetired
  /-- R1098 DSNP_HIT_NEAR_ST_RETIRED (0x8319): Store instruction architecturally executed, snoop hit in near cache. -/
  | dsnpHitNearStRetired
  /-- R1099 DSNP_HIT_FAR_ST_RETIRED (0x831A): Store instruction architecturally executed, snoop hit in far cache. -/
  | dsnpHitFarStRetired
  /-- R1100 DSNP_HIT_REMOTE_ST_RETIRED (0x831B): Store instruction architecturally executed, snoop hit in remote cache. -/
  | dsnpHitRemoteStRetired
  /-- R1101 DSNP_HIT_LDST_RETIRED (0x831C): Load or store instruction architecturally executed, snoop hit. -/
  | dsnpHitLdstRetired
  /-- R1102 DSNP_HIT_NEAR_LDST_RETIRED (0x831D): Load or store instruction architecturally executed, snoop hit in near cache. -/
  | dsnpHitNearLdstRetired
  /-- R1103 DSNP_HIT_FAR_LDST_RETIRED (0x831E): Load or store instruction architecturally executed, snoop hit in far cache. -/
  | dsnpHitFarLdstRetired
  /-- R1104 DSNP_HIT_REMOTE_LDST_RETIRED (0x831F): Load or store instruction architecturally executed, snoop hit in remote cache. -/
  | dsnpHitRemoteLdstRetired
  /-- R1105 L1D_CACHE_REFILL_PERCYC (0x8320): Level 1 data or unified cache refills in progress. -/
  | l1dCacheRefillPercyc
  /-- R1106 L2D_CACHE_REFILL_PERCYC (0x8321): Level 2 data or unified cache refills in progress. -/
  | l2dCacheRefillPercyc
  /-- R1107 L3D_CACHE_REFILL_PERCYC (0x8322): Level 3 data or unified cache refills in progress. -/
  | l3dCacheRefillPercyc
  /-- R1108 L1I_CACHE_REFILL_PERCYC (0x8324): Level 1 instruction or unified cache refills in progress. -/
  | l1iCacheRefillPercyc
  /-- R1109 L2I_CACHE_REFILL_PERCYC (0x8325): Level 2 instruction or unified cache refills in progress. -/
  | l2iCacheRefillPercyc
  /-- R1110 REMOTE_CACHE_HIT_RD (0x8328): Remote cache demand access hit, read. -/
  | remoteCacheHitRd
  /-- R1111 REMOTE_CACHE_HITM_RD (0x8329): Remote cache demand access hit modified, read. -/
  | remoteCacheHitmRd
  /-- R1112 REMOTE_LFB_HIT_RD (0x832A): Remote cache demand access line-fill buffer hit, read. -/
  | remoteLfbHitRd
  /-- R1113 REMOTE_CACHE_HIT_PRFM (0x832B): Remote cache software prefetch hit. -/
  | remoteCacheHitPrfm
  /-- R1114 STALL_BACKEND_ATOMIC_FP (0x832C): Backend stall cycles, atomic in-memory floating-point load or store. -/
  | stallBackendAtomicFp
  /-- R1115 LSE_FP_LD_SPEC (0x832D): Atomic in-memory floating-point Operation speculatively executed, load. -/
  | lseFpLdSpec
  /-- R1116 LSE_FP_ST_SPEC (0x832E): Atomic in-memory floating-point Operation speculatively executed, store. -/
  | lseFpStSpec
  /-- R1117 LSE_FP_LDST_SPEC (0x832F): Atomic in-memory floating-point Operation speculatively executed, load or store. -/
  | lseFpLdstSpec
  /-- R1118 L1GCS_CACHE (0x8330): Level 1 GCS cache access. -/
  | l1gcsCache
  /-- R1119 L1GCS_CACHE_RW (0x8331): Level 1 GCS cache demand access. -/
  | l1gcsCacheRw
  /-- R1120 L1GCS_CACHE_HWPRF (0x8332): Level 1 GCS cache hardware prefetch. -/
  | l1gcsCacheHwprf
  /-- R1121 L1GCS_CACHE_MISS (0x8334): Level 1 GCS cache demand access miss. -/
  | l1gcsCacheMiss
  /-- R1122 L1GCS_CACHE_MISS_RD (0x8335): Level 1 GCS cache demand access read miss. -/
  | l1gcsCacheMissRd
  /-- R1123 L1GCS_CACHE_HIT_RW (0x8336): Level 1 GCS cache demand access hit. -/
  | l1gcsCacheHitRw
  /-- R1124 L1GCS_CACHE_HIT_RW_FHWPRF (0x8337): Level 1 GCS cache demand access first hit, fetched by GCS hardware prefetcher. -/
  | l1gcsCacheHitRwFhwprf
  /-- R1125 L1GCS_CACHE_REFILL (0x8338): Level 1 GCS cache refill. -/
  | l1gcsCacheRefill
  /-- R1126 L1GCS_CACHE_REFILL_HWPRF (0x8339): Level 1 GCS cache refill, hardware prefetch. -/
  | l1gcsCacheRefillHwprf
  /-- R1127 L1GCS_CACHE_REFILL_PERCYC (0x833A): Level 1 GCS cache refills in progress. -/
  | l1gcsCacheRefillPercyc
  /-- R1128 L1GCS_LFB_HIT_RW (0x833C): Level 1 GCS cache demand access line-fill buffer hit. -/
  | l1gcsLfbHitRw
  /-- R1129 L1GCS_LFB_HIT_RW_FHWPRF (0x833D): Level 1 GCS cache demand access line-fill buffer first hit, recently fetched by GCS hardware prefetcher. -/
  | l1gcsLfbHitRwFhwprf
  /-- R1130 L1GCS_CACHE_INVAL (0x833E): Level 1 GCS cache invalidate. -/
  | l1gcsCacheInval
  /-- R1131 L1GCS_TLB (0x8340): Level 1 GCS TLB access. -/
  | l1gcsTlb
  /-- R1132 L1GCS_TLB_RW (0x8341): Level 1 GCS demand TLB access. -/
  | l1gcsTlbRw
  /-- R1133 L1GCS_TLB_HWPRF (0x8342): Level 1 GCS demand TLB access, GCS hardware prefetch. -/
  | l1gcsTlbHwprf
  /-- R1134 GCSTLB_WALK (0x8344): GCS TLB access with at least one translation table walk. -/
  | gcstlbWalk
  /-- R1135 GCSTLB_WALK_RW (0x8345): GCS TLB demand access with at least one translation table walk. -/
  | gcstlbWalkRw
  /-- R1136 GCSTLB_WALK_PERCYC (0x8346): Translation table walks in progress. -/
  | gcstlbWalkPercyc
  /-- R1137 GCSTLB_WALK_STEP (0x8347): GCS TLB translation table walk, step. -/
  | gcstlbWalkStep
  /-- R1138 SAMPLE_FEED_FP (0x8348): Statistical Profiling sample taken, floating-point. -/
  | sampleFeedFp
  /-- R1139 SAMPLE_FEED_SIMD (0x8349): Statistical Profiling sample taken, SIMD. -/
  | sampleFeedSimd
  /-- R1140 STALL_BACKEND_L1GCS (0x8350): Backend stall cycles, Level 1 GCS cache. -/
  | stallBackendL1gcs
  /-- R1141 STALL_BACKEND_GCSTLB (0x8351): Backend stall cycles, GCS TLB. -/
  | stallBackendGcstlb
  /-- R1142 SME_FP_SPEC (0x8352): Operation speculatively executed, SME floating-point, data-processing. -/
  | smeFpSpec
  /-- R1143 SE_FP_SPEC (0x8353): Operation speculatively executed, Advanced SIMD, SVE, or SME SIMD floating-point, data-processing. -/
  | seFpSpec
  /-- R1144 SVE_CMP_IGRANULE_SPEC (0x8354): Operation speculatively executed, SVE in-granule compare. -/
  | sveCmpIgranuleSpec
  /-- R1145 SVE_CMP_XGRANULE_SPEC (0x8355): Operation speculatively executed, SVE cross-granule compare. -/
  | sveCmpXgranuleSpec
  /-- R1146 SVE_BITPERM_SPEC (0x8356): Operation speculatively executed, SVE in-element permute. -/
  | sveBitpermSpec
  /-- R1147 SME_SPEC (0x835C): Operation speculatively executed, SME data processing. -/
  | smeSpec
  /-- R1148 SE_SPEC (0x835D): Operation speculatively executed, Advanced SIMD, SVE, or SME data processing. -/
  | seSpec
  /-- R1149 SME_INST_SPEC (0x835E): Operation speculatively executed, SME. -/
  | smeInstSpec
  /-- R1150 SE_INST_SPEC (0x835F): Operation speculatively executed, Advanced SIMD, SVE, or SME. -/
  | seInstSpec
  /-- R1151 SME_INT8_SPEC (0x8360): Operation speculatively executed, SME 8-bit integer, data-processing. -/
  | smeInt8Spec
  /-- R1152 SE_INT8_SPEC (0x8361): Operation speculatively executed, Advanced SIMD, SVE, or SME SIMD 8-bit integer, data-processing. -/
  | seInt8Spec
  /-- R1153 SME_FP_BF16_SPEC (0x8362): Operation speculatively executed, SME BFloat16 floating-point, data-processing. -/
  | smeFpBf16Spec
  /-- R1154 SE_FP_BF16_SPEC (0x8363): Operation speculatively executed, Advanced SIMD, SVE, or SME SIMD BFloat16 floating-point, data-processing. -/
  | seFpBf16Spec
  /-- R1155 SME_INT16_SPEC (0x8364): Operation speculatively executed, SME 16-bit integer, data-processing. -/
  | smeInt16Spec
  /-- R1156 SE_INT16_SPEC (0x8365): Operation speculatively executed, Advanced SIMD, SVE, or SME SIMD 16-bit integer, data-processing. -/
  | seInt16Spec
  /-- R1157 SME_FP_HP_SPEC (0x8366): Operation speculatively executed, SME half-precision floating-point, data-processing. -/
  | smeFpHpSpec
  /-- R1158 SE_FP_HP_SPEC (0x8367): Operation speculatively executed, Advanced SIMD, SVE, or SME SIMD half-precision floating-point, data-processing. -/
  | seFpHpSpec
  /-- R1159 SME_INT32_SPEC (0x8368): Operation speculatively executed, SME 32-bit integer, data-processing. -/
  | smeInt32Spec
  /-- R1160 SE_INT32_SPEC (0x8369): Operation speculatively executed, Advanced SIMD, SVE, or SME SIMD 32-bit integer, data-processing. -/
  | seInt32Spec
  /-- R1161 SME_FP_SP_SPEC (0x836A): Operation speculatively executed, SME single-precision floating-point, data-processing. -/
  | smeFpSpSpec
  /-- R1162 SE_FP_SP_SPEC (0x836B): Operation speculatively executed, Advanced SIMD, SVE, or SME SIMD single-precision floating-point, data-processing. -/
  | seFpSpSpec
  /-- R1163 SME_INT64_SPEC (0x836C): Operation speculatively executed, SME 64-bit integer, data-processing. -/
  | smeInt64Spec
  /-- R1164 SE_INT64_SPEC (0x836D): Operation speculatively executed, Advanced SIMD, SVE, or SME SIMD 64-bit integer, data-processing. -/
  | seInt64Spec
  /-- R1165 SME_FP_DP_SPEC (0x836E): Operation speculatively executed, SME double-precision floating-point, data-processing. -/
  | smeFpDpSpec
  /-- R1166 SE_FP_DP_SPEC (0x836F): Operation speculatively executed, Advanced SIMD, SVE, or SME SIMD double-precision floating-point, data-processing. -/
  | seFpDpSpec
  /-- R1167 SME_FP_ADDSUB_SPEC (0x8370): Operation speculatively executed, SME floating-point addition or subtraction. -/
  | smeFpAddsubSpec
  /-- R1168 SE_FP_ADDSUB_SPEC (0x8371): Operation speculatively executed, Advanced SIMD, SVE, or SME SIMD floating-point addition or subtraction. -/
  | seFpAddsubSpec
  /-- R1169 SME_FP_FMA_SPEC (0x8372): Operation speculatively executed, SME floating-point multiply-add or multiply-subtract. -/
  | smeFpFmaSpec
  /-- R1170 SE_FP_FMA_SPEC (0x8373): Operation speculatively executed, Advanced SIMD, SVE, or SME SIMD floating-point multiply-add or multiply-subtract. -/
  | seFpFmaSpec
  /-- R1171 SME_FP_DOT_SPEC (0x8374): Operation speculatively executed, SME floating-point dot product. -/
  | smeFpDotSpec
  /-- R1172 SE_FP_DOT_SPEC (0x8375): Operation speculatively executed, Advanced SIMD, SVE, or SME SIMD floating-point dot product. -/
  | seFpDotSpec
  /-- R1173 SME_FP_MOPA_SPEC (0x8376): Operation speculatively executed, SME floating-point outer product and accumulate, or outer product and subtract. -/
  | smeFpMopaSpec
  /-- R1174 SME_INT_SPEC (0x8378): Operation speculatively executed, SME integer, data-processing. -/
  | smeIntSpec
  /-- R1175 SE_INT_SPEC (0x8379): Operation speculatively executed, Advanced SIMD, SVE, or SME SIMD integer, data-processing. -/
  | seIntSpec
  /-- R1176 SME_INT_MUL_SPEC (0x837A): Operation speculatively executed, SME integer multiply or multiply-accumulate. -/
  | smeIntMulSpec
  /-- R1177 SE_INT_MUL_SPEC (0x837B): Operation speculatively executed, Advanced SIMD, SVE, or SME SIMD integer multiply or multiply-accumulate. -/
  | seIntMulSpec
  /-- R1178 SME_INT_DOT_SPEC (0x837C): Operation speculatively executed, SME integer dot product. -/
  | smeIntDotSpec
  /-- R1179 SE_INT_DOT_SPEC (0x837D): Operation speculatively executed, Advanced SIMD, SVE, or SME SIMD integer dot product. -/
  | seIntDotSpec
  /-- R1180 SME_INT_MOPA_SPEC (0x837E): Operation speculatively executed, SME integer outer product and accumulate, or outer product and subtract. -/
  | smeIntMopaSpec
  /-- R1181 ZA_ACTIVE (0x8380): CPU cycles, ZA enabled. -/
  | zaActive
  /-- R1182 SME_PRED2_NOT_FULL_SPEC (0x8381): Operation speculatively executed, SME 2D predicated with at least one inactive element. -/
  | smePred2NotFullSpec
  /-- R1183 SME_PRED2_SPEC (0x8384): Operation speculatively executed, SME 2D predicated. -/
  | smePred2Spec
  /-- R1184 SME_PRED2_EMPTY_SPEC (0x8385): Operation speculatively executed, SME 2D predicated with no active elements. -/
  | smePred2EmptySpec
  /-- R1185 SME_PRED2_FULL_SPEC (0x8386): Operation speculatively executed, SME 2D predicated with all active elements. -/
  | smePred2FullSpec
  /-- R1186 SME_PRED2_PARTIAL_SPEC (0x8387): Operation speculatively executed, SME 2D predicated with partially active elements. -/
  | smePred2PartialSpec
  /-- R1187 SME_LDST_ZAREG_SPEC (0x8388): SME ZA unpredicated load/store. -/
  | smeLdstZaregSpec
  /-- R1188 SME_LD_ZAREG_SPEC (0x8389): SME ZA unpredicated load. -/
  | smeLdZaregSpec
  /-- R1189 SME_ST_ZAREG_SPEC (0x838A): SME ZA unpredicated store. -/
  | smeStZaregSpec
  /-- R1190 SME_LDST_ZTREG_SPEC (0x838C): SME ZT unpredicated load/store. -/
  | smeLdstZtregSpec
  /-- R1191 SME_LD_ZTREG_SPEC (0x838D): SME ZT unpredicated load. -/
  | smeLdZtregSpec
  /-- R1192 SME_ST_ZTREG_SPEC (0x838E): SME ZT unpredicated store. -/
  | smeStZtregSpec
  /-- R1193 SME_LDST_REG_SPEC (0x8390): SME unpredicated load/store. -/
  | smeLdstRegSpec
  /-- R1194 SME_LD_REG_SPEC (0x8391): SME unpredicated load. -/
  | smeLdRegSpec
  /-- R1195 SME_ST_REG_SPEC (0x8392): SME unpredicated store. -/
  | smeStRegSpec
  /-- R1196 SME_LDST_TILE_SPEC (0x8394): SME predicated tile load/store. -/
  | smeLdstTileSpec
  /-- R1197 SME_LD_TILE_SPEC (0x8395): SME predicated tile load. -/
  | smeLdTileSpec
  /-- R1198 SME_ST_TILE_SPEC (0x8396): SME predicated tile store. -/
  | smeStTileSpec
  /-- R1199 ASE_LUT_SPEC (0x8398): Lookup table operation speculatively executed, Advanced SIMD data processing. -/
  | aseLutSpec
  /-- R1200 SVE_LUT_SPEC (0x8399): Lookup table operation speculatively executed, SVE data processing. -/
  | sveLutSpec
  /-- R1201 SME_LUT_SPEC (0x839A): Lookup table operation speculatively executed, SME data processing. -/
  | smeLutSpec
  /-- R1202 SE_LUT_SPEC (0x839B): Lookup table operation speculatively executed, Advanced SIMD, SVE, or SME data processing. -/
  | seLutSpec
  /-- R1203 N1_CACHE_HIT_RD (0x83A0): Cache at distance 1, demand access hit, read. -/
  | n1CacheHitRd
  /-- R1204 N2_CACHE_HIT_RD (0x83A1): Cache at distance 2, demand access hit, read. -/
  | n2CacheHitRd
  /-- R1205 N3_CACHE_HIT_RD (0x83A2): Cache at distance 3, demand access hit, read. -/
  | n3CacheHitRd
  /-- R1206 N4_CACHE_HIT_RD (0x83A3): Cache at distance 4, demand access hit, read. -/
  | n4CacheHitRd
  /-- R1207 N1_CACHE_HIT_PRFM (0x83A4): Cache at distance 1, software prefetch hit. -/
  | n1CacheHitPrfm
  /-- R1208 N2_CACHE_HIT_PRFM (0x83A5): Cache at distance 2, software prefetch hit. -/
  | n2CacheHitPrfm
  /-- R1209 N3_CACHE_HIT_PRFM (0x83A6): Cache at distance 3, software prefetch hit. -/
  | n3CacheHitPrfm
  /-- R1210 N4_CACHE_HIT_PRFM (0x83A7): Cache at distance 4, software prefetch hit. -/
  | n4CacheHitPrfm
  /-- R1211 N1_CACHE1_HIT_RD (0x83A8): Cache type 1 at distance 1 demand access hit, read. -/
  | n1Cache1HitRd
  /-- R1212 N2_CACHE1_HIT_RD (0x83A9): Cache type 1 at distance 2 demand access hit, read. -/
  | n2Cache1HitRd
  /-- R1213 N3_CACHE1_HIT_RD (0x83AA): Cache type 1 at distance 3 demand access hit, read. -/
  | n3Cache1HitRd
  /-- R1214 N4_CACHE1_HIT_RD (0x83AB): Cache type 1 at distance 4 demand access hit, read. -/
  | n4Cache1HitRd
  /-- R1215 N1_CACHE1_HIT_PRFM (0x83AC): Cache type 1 at distance 1 software prefetch hit. -/
  | n1Cache1HitPrfm
  /-- R1216 N2_CACHE1_HIT_PRFM (0x83AD): Cache type 1 at distance 2 software prefetch hit. -/
  | n2Cache1HitPrfm
  /-- R1217 N3_CACHE1_HIT_PRFM (0x83AE): Cache type 1 at distance 3 software prefetch hit. -/
  | n3Cache1HitPrfm
  /-- R1218 N4_CACHE1_HIT_PRFM (0x83AF): Cache type 1 at distance 4 software prefetch hit. -/
  | n4Cache1HitPrfm
  /-- R1219 N1_CACHE2_HIT_RD (0x83B0): Cache type 2 at distance 1 demand access hit, read. -/
  | n1Cache2HitRd
  /-- R1220 N2_CACHE2_HIT_RD (0x83B1): Cache type 2 at distance 2 demand access hit, read. -/
  | n2Cache2HitRd
  /-- R1221 N3_CACHE2_HIT_RD (0x83B2): Cache type 2 at distance 3 demand access hit, read. -/
  | n3Cache2HitRd
  /-- R1222 N4_CACHE2_HIT_RD (0x83B3): Cache type 2 at distance 4 demand access hit, read. -/
  | n4Cache2HitRd
  /-- R1223 N1_CACHE2_HIT_PRFM (0x83B4): Cache type 2 at distance 1 software prefetch hit. -/
  | n1Cache2HitPrfm
  /-- R1224 N2_CACHE2_HIT_PRFM (0x83B5): Cache type 2 at distance 2 software prefetch hit. -/
  | n2Cache2HitPrfm
  /-- R1225 N3_CACHE2_HIT_PRFM (0x83B6): Cache type 2 at distance 3 software prefetch hit. -/
  | n3Cache2HitPrfm
  /-- R1226 N4_CACHE2_HIT_PRFM (0x83B7): Cache type 2 at distance 4 software prefetch hit. -/
  | n4Cache2HitPrfm
  /-- R1227 N1_CACHE3_HIT_RD (0x83B8): Cache type 3 at distance 1 demand access hit, read. -/
  | n1Cache3HitRd
  /-- R1228 N2_CACHE3_HIT_RD (0x83B9): Cache type 3 at distance 2 demand access hit, read. -/
  | n2Cache3HitRd
  /-- R1229 N3_CACHE3_HIT_RD (0x83BA): Cache type 3 at distance 3 demand access hit, read. -/
  | n3Cache3HitRd
  /-- R1230 N4_CACHE3_HIT_RD (0x83BB): Cache type 3 at distance 4 demand access hit, read. -/
  | n4Cache3HitRd
  /-- R1231 N1_CACHE3_HIT_PRFM (0x83BC): Cache type 3 at distance 1 software prefetch hit. -/
  | n1Cache3HitPrfm
  /-- R1232 N2_CACHE3_HIT_PRFM (0x83BD): Cache type 3 at distance 2 software prefetch hit. -/
  | n2Cache3HitPrfm
  /-- R1233 N3_CACHE3_HIT_PRFM (0x83BE): Cache type 3 at distance 3 software prefetch hit. -/
  | n3Cache3HitPrfm
  /-- R1234 N4_CACHE3_HIT_PRFM (0x83BF): Cache type 3 at distance 4 software prefetch hit. -/
  | n4Cache3HitPrfm
  /-- R1235 N1_CACHE_HITM_RD (0x83C0): Cache at distance 1, demand access hit modified, read. -/
  | n1CacheHitmRd
  /-- R1236 N2_CACHE_HITM_RD (0x83C1): Cache at distance 2, demand access hit modified, read. -/
  | n2CacheHitmRd
  /-- R1237 N3_CACHE_HITM_RD (0x83C2): Cache at distance 3, demand access hit modified, read. -/
  | n3CacheHitmRd
  /-- R1238 N4_CACHE_HITM_RD (0x83C3): Cache at distance 4, demand access hit modified, read. -/
  | n4CacheHitmRd
  /-- R1239 N1_LFB_HIT_RD (0x83C4): Cache at distance 1 demand access line-fill buffer hit, read. -/
  | n1LfbHitRd
  /-- R1240 N2_LFB_HIT_RD (0x83C5): Cache at distance 2 demand access line-fill buffer hit, read. -/
  | n2LfbHitRd
  /-- R1241 N3_LFB_HIT_RD (0x83C6): Cache at distance 3 demand access line-fill buffer hit, read. -/
  | n3LfbHitRd
  /-- R1242 N4_LFB_HIT_RD (0x83C7): Cache at distance 4 demand access line-fill buffer hit, read. -/
  | n4LfbHitRd
  /-- R1243 N1_CACHE1_HITM_RD (0x83C8): Cache type 1 at distance 1 demand access hit modified, read. -/
  | n1Cache1HitmRd
  /-- R1244 N2_CACHE1_HITM_RD (0x83C9): Cache type 1 at distance 2 demand access hit modified, read. -/
  | n2Cache1HitmRd
  /-- R1245 N3_CACHE1_HITM_RD (0x83CA): Cache type 1 at distance 3 demand access hit modified, read. -/
  | n3Cache1HitmRd
  /-- R1246 N4_CACHE1_HITM_RD (0x83CB): Cache type 1 at distance 4 demand access hit modified, read. -/
  | n4Cache1HitmRd
  /-- R1247 N1_LFB1_HIT_RD (0x83CC): Cache type 1 at distance 1 demand access line-fill buffer hit, read. -/
  | n1Lfb1HitRd
  /-- R1248 N2_LFB1_HIT_RD (0x83CD): Cache type 1 at distance 2 demand access line-fill buffer hit, read. -/
  | n2Lfb1HitRd
  /-- R1249 N3_LFB1_HIT_RD (0x83CE): Cache type 1 at distance 3 demand access line-fill buffer hit, read. -/
  | n3Lfb1HitRd
  /-- R1250 N4_LFB1_HIT_RD (0x83CF): Cache type 1 at distance 4 demand access line-fill buffer hit, read. -/
  | n4Lfb1HitRd
  /-- R1251 N1_CACHE2_HITM_RD (0x83D0): Cache type 2 at distance 1 demand access hit modified, read. -/
  | n1Cache2HitmRd
  /-- R1252 N2_CACHE2_HITM_RD (0x83D1): Cache type 2 at distance 2 demand access hit modified, read. -/
  | n2Cache2HitmRd
  /-- R1253 N3_CACHE2_HITM_RD (0x83D2): Cache type 2 at distance 3 demand access hit modified, read. -/
  | n3Cache2HitmRd
  /-- R1254 N4_CACHE2_HITM_RD (0x83D3): Cache type 2 at distance 4 demand access hit modified, read. -/
  | n4Cache2HitmRd
  /-- R1255 N1_LFB2_HIT_RD (0x83D4): Cache type 2 at distance 1 demand access line-fill buffer hit, read. -/
  | n1Lfb2HitRd
  /-- R1256 N2_LFB2_HIT_RD (0x83D5): Cache type 2 at distance 2 demand access line-fill buffer hit, read. -/
  | n2Lfb2HitRd
  /-- R1257 N3_LFB2_HIT_RD (0x83D6): Cache type 2 at distance 3 demand access line-fill buffer hit, read. -/
  | n3Lfb2HitRd
  /-- R1258 N4_LFB2_HIT_RD (0x83D7): Cache type 2 at distance 4 demand access line-fill buffer hit, read. -/
  | n4Lfb2HitRd
  /-- R1259 N1_CACHE3_HITM_RD (0x83D8): Cache type 3 at distance 1 demand access hit modified, read. -/
  | n1Cache3HitmRd
  /-- R1260 N2_CACHE3_HITM_RD (0x83D9): Cache type 3 at distance 2 demand access hit modified, read. -/
  | n2Cache3HitmRd
  /-- R1261 N3_CACHE3_HITM_RD (0x83DA): Cache type 3 at distance 3 demand access hit modified, read. -/
  | n3Cache3HitmRd
  /-- R1262 N4_CACHE3_HITM_RD (0x83DB): Cache type 3 at distance 4 demand access hit modified, read. -/
  | n4Cache3HitmRd
  /-- R1263 N1_LFB3_HIT_RD (0x83DC): Cache type 3 at distance 1 demand access line-fill buffer hit, read. -/
  | n1Lfb3HitRd
  /-- R1264 N2_LFB3_HIT_RD (0x83DD): Cache type 3 at distance 2 demand access line-fill buffer hit, read. -/
  | n2Lfb3HitRd
  /-- R1265 N3_LFB3_HIT_RD (0x83DE): Cache type 3 at distance 3 demand access line-fill buffer hit, read. -/
  | n3Lfb3HitRd
  /-- R1266 N4_LFB3_HIT_RD (0x83DF): Cache type 3 at distance 4 demand access line-fill buffer hit, read. -/
  | n4Lfb3HitRd
  /-- R1267 N1_MEM_RD (0x83E0): Access to memory at distance 1, demand access, read. -/
  | n1MemRd
  /-- R1268 N2_MEM_RD (0x83E1): Access to memory at distance 2, demand access, read. -/
  | n2MemRd
  /-- R1269 N3_MEM_RD (0x83E2): Access to memory at distance 3, demand access, read. -/
  | n3MemRd
  /-- R1270 N4_MEM_RD (0x83E3): Access to memory at distance 4, demand access, read. -/
  | n4MemRd
  /-- R1271 N1_MEM_PRFM (0x83E4): Access to memory at distance 1, software prefetch. -/
  | n1MemPrfm
  /-- R1272 N2_MEM_PRFM (0x83E5): Access to memory at distance 2, software prefetch. -/
  | n2MemPrfm
  /-- R1273 N3_MEM_PRFM (0x83E6): Access to memory at distance 3, software prefetch. -/
  | n3MemPrfm
  /-- R1274 N4_MEM_PRFM (0x83E7): Access to memory at distance 4, software prefetch. -/
  | n4MemPrfm
  /-- R1275 N1_MEM1_RD (0x83E8): Access to type 1 memory at distance 1, demand access, read. -/
  | n1Mem1Rd
  /-- R1276 N2_MEM1_RD (0x83E9): Access to type 1 memory at distance 2, demand access, read. -/
  | n2Mem1Rd
  /-- R1277 N3_MEM1_RD (0x83EA): Access to type 1 memory at distance 3, demand access, read. -/
  | n3Mem1Rd
  /-- R1278 N4_MEM1_RD (0x83EB): Access to type 1 memory at distance 4, demand access, read. -/
  | n4Mem1Rd
  /-- R1279 N1_MEM1_PRFM (0x83EC): Access to type 1 memory at distance 1, software prefetch. -/
  | n1Mem1Prfm
  /-- R1280 N2_MEM1_PRFM (0x83ED): Access to type 1 memory at distance 2, software prefetch. -/
  | n2Mem1Prfm
  /-- R1281 N3_MEM1_PRFM (0x83EE): Access to type 1 memory at distance 3, software prefetch. -/
  | n3Mem1Prfm
  /-- R1282 N4_MEM1_PRFM (0x83EF): Access to type 1 memory at distance 4, software prefetch. -/
  | n4Mem1Prfm
  /-- R1283 N1_MEM2_RD (0x83F0): Access to type 2 memory at distance 1, demand access, read. -/
  | n1Mem2Rd
  /-- R1284 N2_MEM2_RD (0x83F1): Access to type 2 memory at distance 2, demand access, read. -/
  | n2Mem2Rd
  /-- R1285 N3_MEM2_RD (0x83F2): Access to type 2 memory at distance 3, demand access, read. -/
  | n3Mem2Rd
  /-- R1286 N4_MEM2_RD (0x83F3): Access to type 2 memory at distance 4, demand access, read. -/
  | n4Mem2Rd
  /-- R1287 N1_MEM2_PRFM (0x83F4): Access to type 2 memory at distance 1, software prefetch. -/
  | n1Mem2Prfm
  /-- R1288 N2_MEM2_PRFM (0x83F5): Access to type 2 memory at distance 2, software prefetch. -/
  | n2Mem2Prfm
  /-- R1289 N3_MEM2_PRFM (0x83F6): Access to type 2 memory at distance 3, software prefetch. -/
  | n3Mem2Prfm
  /-- R1290 N4_MEM2_PRFM (0x83F7): Access to type 2 memory at distance 4, software prefetch. -/
  | n4Mem2Prfm
  /-- R1291 N1_MEM3_RD (0x83F8): Access to type 3 memory at distance 1, demand access, read. -/
  | n1Mem3Rd
  /-- R1292 N2_MEM3_RD (0x83F9): Access to type 3 memory at distance 2, demand access, read. -/
  | n2Mem3Rd
  /-- R1293 N3_MEM3_RD (0x83FA): Access to type 3 memory at distance 3, demand access, read. -/
  | n3Mem3Rd
  /-- R1294 N4_MEM3_RD (0x83FB): Access to type 3 memory at distance 4, demand access, read. -/
  | n4Mem3Rd
  /-- R1295 N1_MEM3_PRFM (0x83FC): Access to type 3 memory at distance 1, software prefetch. -/
  | n1Mem3Prfm
  /-- R1296 N2_MEM3_PRFM (0x83FD): Access to type 3 memory at distance 2, software prefetch. -/
  | n2Mem3Prfm
  /-- R1297 N3_MEM3_PRFM (0x83FE): Access to type 3 memory at distance 3, software prefetch. -/
  | n3Mem3Prfm
  /-- R1298 N4_MEM3_PRFM (0x83FF): Access to type 3 memory at distance 4, software prefetch. -/
  | n4Mem3Prfm
  /-- R1299 ISNP_HIT_N1_RD (0x8400): Snoop hit in cache at distance 1, demand instruction fetch. -/
  | isnpHitN1Rd
  /-- R1300 ISNP_HIT_N2_RD (0x8401): Snoop hit in cache at distance 2, demand instruction fetch. -/
  | isnpHitN2Rd
  /-- R1301 ISNP_HIT_N3_RD (0x8402): Snoop hit in cache at distance 3, demand instruction fetch. -/
  | isnpHitN3Rd
  /-- R1302 ISNP_HIT_N4_RD (0x8403): Snoop hit in cache at distance 4, demand instruction fetch. -/
  | isnpHitN4Rd
  /-- R1303 DSNP_HIT_N1_RD (0x8404): Snoop hit in cache at distance 1, demand data read. -/
  | dsnpHitN1Rd
  /-- R1304 DSNP_HIT_N2_RD (0x8405): Snoop hit in cache at distance 2, demand data read. -/
  | dsnpHitN2Rd
  /-- R1305 DSNP_HIT_N3_RD (0x8406): Snoop hit in cache at distance 3, demand data read. -/
  | dsnpHitN3Rd
  /-- R1306 DSNP_HIT_N4_RD (0x8407): Snoop hit in cache at distance 4, demand data read. -/
  | dsnpHitN4Rd
  /-- R1307 DSNP_HIT_N1_WR (0x8408): Snoop hit in cache at distance 1, demand data write. -/
  | dsnpHitN1Wr
  /-- R1308 DSNP_HIT_N2_WR (0x8409): Snoop hit in cache at distance 2, demand data write. -/
  | dsnpHitN2Wr
  /-- R1309 DSNP_HIT_N3_WR (0x840A): Snoop hit in cache at distance 3, demand data write. -/
  | dsnpHitN3Wr
  /-- R1310 DSNP_HIT_N4_WR (0x840B): Snoop hit in cache at distance 4, demand data write. -/
  | dsnpHitN4Wr
  /-- R1311 DSNP_HIT_N1_RW (0x840C): Snoop hit in cache at distance 1, demand data access. -/
  | dsnpHitN1Rw
  /-- R1312 DSNP_HIT_N2_RW (0x840D): Snoop hit in cache at distance 2, demand data access. -/
  | dsnpHitN2Rw
  /-- R1313 DSNP_HIT_N3_RW (0x840E): Snoop hit in cache at distance 3, demand data access. -/
  | dsnpHitN3Rw
  /-- R1314 DSNP_HIT_N4_RW (0x840F): Snoop hit in cache at distance 4, demand data access. -/
  | dsnpHitN4Rw
  /-- R1315 DSNP_HIT_N1_PRFM (0x8410): Snoop hit in cache at distance 1, software data prefetch. -/
  | dsnpHitN1Prfm
  /-- R1316 DSNP_HIT_N2_PRFM (0x8411): Snoop hit in cache at distance 2, software data prefetch. -/
  | dsnpHitN2Prfm
  /-- R1317 DSNP_HIT_N3_PRFM (0x8412): Snoop hit in cache at distance 3, software data prefetch. -/
  | dsnpHitN3Prfm
  /-- R1318 DSNP_HIT_N4_PRFM (0x8413): Snoop hit in cache at distance 4, software data prefetch. -/
  | dsnpHitN4Prfm
  /-- R1319 DSNP_HIT_N1_HWPRF (0x8414): Snoop hit in cache at distance 1, hardware data prefetch. -/
  | dsnpHitN1Hwprf
  /-- R1320 DSNP_HIT_N2_HWPRF (0x8415): Snoop hit in cache at distance 2, hardware data prefetch. -/
  | dsnpHitN2Hwprf
  /-- R1321 DSNP_HIT_N3_HWPRF (0x8416): Snoop hit in cache at distance 3, hardware data prefetch. -/
  | dsnpHitN3Hwprf
  /-- R1322 DSNP_HIT_N4_HWPRF (0x8417): Snoop hit in cache at distance 4, hardware data prefetch. -/
  | dsnpHitN4Hwprf
  /-- R1323 ISNP_HIT_N1_PRFM (0x8418): Snoop hit in cache at distance 1, software instruction prefetch. -/
  | isnpHitN1Prfm
  /-- R1324 ISNP_HIT_N2_PRFM (0x8419): Snoop hit in cache at distance 2, software instruction prefetch. -/
  | isnpHitN2Prfm
  /-- R1325 ISNP_HIT_N3_PRFM (0x841A): Snoop hit in cache at distance 3, software instruction prefetch. -/
  | isnpHitN3Prfm
  /-- R1326 ISNP_HIT_N4_PRFM (0x841B): Snoop hit in cache at distance 4, software instruction prefetch. -/
  | isnpHitN4Prfm
  /-- R1327 ISNP_HIT_N1_HWPRF (0x841C): Snoop hit in cache at distance 1, hardware instruction prefetch. -/
  | isnpHitN1Hwprf
  /-- R1328 ISNP_HIT_N2_HWPRF (0x841D): Snoop hit in cache at distance 2, hardware instruction prefetch. -/
  | isnpHitN2Hwprf
  /-- R1329 ISNP_HIT_N3_HWPRF (0x841E): Snoop hit in cache at distance 3, hardware instruction prefetch. -/
  | isnpHitN3Hwprf
  /-- R1330 ISNP_HIT_N4_HWPRF (0x841F): Snoop hit in cache at distance 4, hardware instruction prefetch. -/
  | isnpHitN4Hwprf
  /-- R1331 DSNP_HIT_N1_PRF (0x8420): Snoop hit in cache at distance 1, data prefetch. -/
  | dsnpHitN1Prf
  /-- R1332 DSNP_HIT_N2_PRF (0x8421): Snoop hit in cache at distance 2, data prefetch. -/
  | dsnpHitN2Prf
  /-- R1333 DSNP_HIT_N3_PRF (0x8422): Snoop hit in cache at distance 3, data prefetch. -/
  | dsnpHitN3Prf
  /-- R1334 DSNP_HIT_N4_PRF (0x8423): Snoop hit in cache at distance 4, data prefetch. -/
  | dsnpHitN4Prf
  /-- R1335 ISNP_HIT_N1_PRF (0x8424): Snoop hit in cache at distance 1, instruction prefetch. -/
  | isnpHitN1Prf
  /-- R1336 ISNP_HIT_N2_PRF (0x8425): Snoop hit in cache at distance 2, instruction prefetch. -/
  | isnpHitN2Prf
  /-- R1337 ISNP_HIT_N3_PRF (0x8426): Snoop hit in cache at distance 3, instruction prefetch. -/
  | isnpHitN3Prf
  /-- R1338 ISNP_HIT_N4_PRF (0x8427): Snoop hit in cache at distance 4, instruction prefetch. -/
  | isnpHitN4Prf
  /-- R1339 ISNP_HIT_N1 (0x8428): Snoop hit in cache at distance 1, instruction access. -/
  | isnpHitN1
  /-- R1340 ISNP_HIT_N2 (0x8429): Snoop hit in cache at distance 2, instruction access. -/
  | isnpHitN2
  /-- R1341 ISNP_HIT_N3 (0x842A): Snoop hit in cache at distance 3, instruction access. -/
  | isnpHitN3
  /-- R1342 ISNP_HIT_N4 (0x842B): Snoop hit in cache at distance 4, instruction access. -/
  | isnpHitN4
  /-- R1343 DSNP_HIT_N1 (0x842C): Snoop hit in cache at distance 1, data access. -/
  | dsnpHitN1
  /-- R1344 DSNP_HIT_N2 (0x842D): Snoop hit in cache at distance 2, data access. -/
  | dsnpHitN2
  /-- R1345 DSNP_HIT_N3 (0x842E): Snoop hit in cache at distance 3, data access. -/
  | dsnpHitN3
  /-- R1346 DSNP_HIT_N4 (0x842F): Snoop hit in cache at distance 4, data access. -/
  | dsnpHitN4
  /-- R1347 ASE_FP_VREDUCE_SPEC (0x8431): Floating-point operation speculatively executed, Advanced SIMD pairwise or reduction. -/
  | aseFpVreduceSpec
  /-- R1348 SVE_FP_PREDUCE_SPEC (0x8432): Floating-point operation speculatively executed, SVE pairwise add step or pairwise reduce step. -/
  | sveFpPreduceSpec
  /-- R1349 DSNP_HITM_N1_RD (0x8434): Snoop hit in cache at distance 1, demand data read, modified. -/
  | dsnpHitmN1Rd
  /-- R1350 DSNP_HITM_N2_RD (0x8435): Snoop hit in cache at distance 2, demand data read, modified. -/
  | dsnpHitmN2Rd
  /-- R1351 DSNP_HITM_N3_RD (0x8436): Snoop hit in cache at distance 3, demand data read, modified. -/
  | dsnpHitmN3Rd
  /-- R1352 DSNP_HITM_N4_RD (0x8437): Snoop hit in cache at distance 4, demand data read, modified. -/
  | dsnpHitmN4Rd
  /-- R1353 DSNP_HITM_N1_WR (0x8438): Snoop hit in cache at distance 1, demand data write, modified. -/
  | dsnpHitmN1Wr
  /-- R1354 DSNP_HITM_N2_WR (0x8439): Snoop hit in cache at distance 2, demand data write, modified. -/
  | dsnpHitmN2Wr
  /-- R1355 DSNP_HITM_N3_WR (0x843A): Snoop hit in cache at distance 3, demand data write, modified. -/
  | dsnpHitmN3Wr
  /-- R1356 DSNP_HITM_N4_WR (0x843B): Snoop hit in cache at distance 4, demand data write, modified. -/
  | dsnpHitmN4Wr
  /-- R1357 DSNP_HITM_N1_RW (0x843C): Snoop hit in cache at distance 1, demand data access, modified. -/
  | dsnpHitmN1Rw
  /-- R1358 DSNP_HITM_N2_RW (0x843D): Snoop hit in cache at distance 2, demand data access, modified. -/
  | dsnpHitmN2Rw
  /-- R1359 DSNP_HITM_N3_RW (0x843E): Snoop hit in cache at distance 3, demand data access, modified. -/
  | dsnpHitmN3Rw
  /-- R1360 DSNP_HITM_N4_RW (0x843F): Snoop hit in cache at distance 4, demand data access, modified. -/
  | dsnpHitmN4Rw
  /-- R1361 ASE_FP_SP_MIN_SPEC (0x8440): Advanced SIMD data processing operation speculatively executed, smallest type is single-precision floating-point. -/
  | aseFpSpMinSpec
  /-- R1362 ASE_FP_HP_MIN_SPEC (0x8442): Advanced SIMD data processing operation speculatively executed, smallest type is half-precision floating-point. -/
  | aseFpHpMinSpec
  /-- R1363 ASE_FP_BF16_MIN_SPEC (0x8443): Advanced SIMD data processing operation speculatively executed, smallest type is BFloat16 floating-point. -/
  | aseFpBf16MinSpec
  /-- R1364 ASE_FP_FP8_MIN_SPEC (0x8444): Advanced SIMD data processing operation speculatively executed, smallest type is 8-bit floating-point. -/
  | aseFpFp8MinSpec
  /-- R1365 ASE_SVE_FP_SP_MIN_SPEC (0x8448): Advanced SIMD data processing or SVE data processing operation speculatively executed, smallest type is single-precision floating-point. -/
  | aseSveFpSpMinSpec
  /-- R1366 ASE_SVE_FP_HP_MIN_SPEC (0x844A): Advanced SIMD data processing or SVE data processing operation speculatively executed, smallest type is half-precision floating-point. -/
  | aseSveFpHpMinSpec
  /-- R1367 ASE_SVE_FP_BF16_MIN_SPEC (0x844B): Advanced SIMD data processing or SVE data processing operation speculatively executed, smallest type is BFloat16 floating-point. -/
  | aseSveFpBf16MinSpec
  /-- R1368 ASE_SVE_FP_FP8_MIN_SPEC (0x844C): Advanced SIMD data processing or SVE data processing operation speculatively executed, smallest type is 8-bit floating-point. -/
  | aseSveFpFp8MinSpec
  /-- R1369 SE_FP_SP_MIN_SPEC (0x8450): Advanced SIMD, SVE, or SME data processing operation speculatively executed, smallest type is single-precision floating-point. -/
  | seFpSpMinSpec
  /-- R1370 SE_FP_HP_MIN_SPEC (0x8452): Advanced SIMD, SVE, or SME data processing operation speculatively executed, smallest type is half-precision floating-point. -/
  | seFpHpMinSpec
  /-- R1371 SE_FP_BF16_MIN_SPEC (0x8453): Advanced SIMD, SVE, or SME data processing operation speculatively executed, smallest type is BFloat16 floating-point. -/
  | seFpBf16MinSpec
  /-- R1372 SE_FP_FP8_MIN_SPEC (0x8454): Advanced SIMD, SVE, or SME data processing operation speculatively executed, smallest type is 8-bit floating-point. -/
  | seFpFp8MinSpec
  /-- R1373 SME_FP_SP_MIN_SPEC (0x8458): SME data processing operation speculatively executed, smallest type is single-precision floating-point. -/
  | smeFpSpMinSpec
  /-- R1374 SME_FP_HP_MIN_SPEC (0x845A): SME data processing operation speculatively executed, smallest type is half-precision floating-point. -/
  | smeFpHpMinSpec
  /-- R1375 SME_FP_BF16_MIN_SPEC (0x845B): SME data processing operation speculatively executed, smallest type is BFloat16 floating-point. -/
  | smeFpBf16MinSpec
  /-- R1376 SME_FP_FP8_MIN_SPEC (0x845C): SME data processing operation speculatively executed, smallest type is 8-bit floating-point. -/
  | smeFpFp8MinSpec
  /-- R1377 SVE_FP_SP_MIN_SPEC (0x8460): SVE data processing operation speculatively executed, smallest type is single-precision floating-point. -/
  | sveFpSpMinSpec
  /-- R1378 SVE_FP_HP_MIN_SPEC (0x8462): SVE data processing operation speculatively executed, smallest type is half-precision floating-point. -/
  | sveFpHpMinSpec
  /-- R1379 SVE_FP_BF16_MIN_SPEC (0x8463): SVE data processing operation speculatively executed, smallest type is BFloat16 floating-point. -/
  | sveFpBf16MinSpec
  /-- R1380 SVE_FP_FP8_MIN_SPEC (0x8464): SVE data processing operation speculatively executed, smallest type is 8-bit floating-point. -/
  | sveFpFp8MinSpec
  /-- R1381 FP_BF16_FIXED_OPS_SPEC (0x846B): Non-scalable element arithmetic operations speculatively executed, largest type is BFloat16 floating-point. -/
  | fpBf16FixedOpsSpec
  /-- R1382 FP_SP_MIN_SPEC (0x8470): Floating-point operation speculatively executed, smallest type is single-precision floating-point. -/
  | fpSpMinSpec
  /-- R1383 FP_HP_MIN_SPEC (0x8472): Floating-point operation speculatively executed, smallest type is half-precision floating-point. -/
  | fpHpMinSpec
  /-- R1384 FP_BF16_MIN_SPEC (0x8473): Floating-point operation speculatively executed, smallest type is BFloat16 floating-point. -/
  | fpBf16MinSpec
  /-- R1385 FP_FP8_MIN_SPEC (0x8474): Floating-point operation speculatively executed, smallest type is 8-bit floating-point. -/
  | fpFp8MinSpec
  /-- R1386 FP_SP_FIXED_MIN_OPS_SPEC (0x8480): Non-scalable element arithmetic operations speculatively executed, smallest type is single-precision floating-point. -/
  | fpSpFixedMinOpsSpec
  /-- R1387 FP_HP_FIXED_MIN_OPS_SPEC (0x8482): Non-scalable element arithmetic operations speculatively executed, smallest type is half-precision floating-point. -/
  | fpHpFixedMinOpsSpec
  /-- R1388 FP_BF16_FIXED_MIN_OPS_SPEC (0x8483): Non-scalable element arithmetic operations speculatively executed, smallest type is BFloat16 floating-point. -/
  | fpBf16FixedMinOpsSpec
  /-- R1389 FP_FP8_FIXED_MIN_OPS_SPEC (0x8484): Non-scalable element arithmetic operations speculatively executed, smallest type is 8-bit floating-point. -/
  | fpFp8FixedMinOpsSpec
  /-- R1390 FP_SP_SCALE_MIN_OPS_SPEC (0x8488): Scalable element arithmetic operations speculatively executed, smallest type is single-precision floating-point. -/
  | fpSpScaleMinOpsSpec
  /-- R1391 FP_HP_SCALE_MIN_OPS_SPEC (0x848A): Scalable element arithmetic operations speculatively executed, smallest type is half-precision floating-point. -/
  | fpHpScaleMinOpsSpec
  /-- R1392 FP_BF16_SCALE_MIN_OPS_SPEC (0x848B): Scalable element arithmetic operations speculatively executed, smallest type is BFloat16 floating-point. -/
  | fpBf16ScaleMinOpsSpec
  /-- R1393 FP_FP8_SCALE_MIN_OPS_SPEC (0x848C): Scalable element arithmetic operations speculatively executed, smallest type is 8-bit floating-point. -/
  | fpFp8ScaleMinOpsSpec
  /-- R1394 FP_SP_SCALE2_MIN_OPS_SPEC (0x8490): Scalable tile arithmetic operations speculatively executed, smallest type is single-precision floating-point. -/
  | fpSpScale2MinOpsSpec
  /-- R1395 FP_HP_SCALE2_MIN_OPS_SPEC (0x8492): Scalable tile arithmetic operations speculatively executed, smallest type is half-precision floating-point. -/
  | fpHpScale2MinOpsSpec
  /-- R1396 FP_BF16_SCALE2_MIN_OPS_SPEC (0x8493): Scalable tile arithmetic operations speculatively executed, smallest type is BFloat16 floating-point. -/
  | fpBf16Scale2MinOpsSpec
  /-- R1397 FP_FP8_SCALE2_MIN_OPS_SPEC (0x8494): Scalable tile arithmetic operations speculatively executed, smallest type is 8-bit floating-point. -/
  | fpFp8Scale2MinOpsSpec
  deriving DecidableEq, Repr

end Sys2Proof
end

