-- ==== Sys2Proof/Config.lean ====
section
/-!
DEFINITION. What an implementation fixes (00_scope.md R6, R7; 93_implementation_defined.md) and the values the spec leaves
free. The parameters are plain data, held by State and changed by no step.
-/

namespace Sys2Proof

/-- The features and versions the spec names (00_scope.md R7). No dependency between them is assumed. -/
inductive Feature where
  /-- FEAT_AFP. -/
  | afp
  /-- FEAT_BF16. -/
  | bf16
  /-- FEAT_CMPBR. -/
  | cmpbr
  /-- FEAT_Crypto. -/
  | crypto
  /-- FEAT_Debugv8p2. -/
  | debugv8p2
  /-- FEAT_DotProd. -/
  | dotprod
  /-- FEAT_E0PD. -/
  | e0pd
  /-- FEAT_F8F16MM. -/
  | f8f16mm
  /-- FEAT_FCMA. -/
  | fcma
  /-- FEAT_FHM. -/
  | fhm
  /-- FEAT_FP8DOT2. -/
  | fp8dot2
  /-- FEAT_FP8DOT4. -/
  | fp8dot4
  /-- FEAT_FP8FMA. -/
  | fp8fma
  /-- FEAT_GCS. -/
  | gcs
  /-- FEAT_HBC. -/
  | hbc
  /-- FEAT_I8MM. -/
  | i8mm
  /-- FEAT_LRCPC3. -/
  | lrcpc3
  /-- FEAT_NV2. -/
  | nv2
  /-- FEAT_PAuth. -/
  | pauth
  /-- FEAT_PAuth_LR. -/
  | pauthLr
  /-- FEAT_PMUv3_EXTPMN. -/
  | pmuv3Extpmn
  /-- FEAT_PMUv3_ICNTR. -/
  | pmuv3Icntr
  /-- FEAT_PMUv3p4. -/
  | pmuv3p4
  /-- FEAT_PMUv3p5. -/
  | pmuv3p5
  /-- FEAT_PMUv3p8. -/
  | pmuv3p8
  /-- FEAT_PMUv3p9. -/
  | pmuv3p9
  /-- FEAT_RDM. -/
  | rdm
  /-- FEAT_SME. -/
  | sme
  /-- FEAT_SPE. -/
  | spe
  /-- FEAT_SPE_EFT. -/
  | speEft
  /-- FEAT_SVE. -/
  | sve
  /-- FEAT_SVE2. -/
  | sve2
  /-- FEAT_VHE. -/
  | vhe
  /-- Armv8.6. -/
  | armv8p6
  /-- Armv8.7. -/
  | armv8p7
  /-- Armv9.5. -/
  | armv9p5
  deriving DecidableEq, Repr

/-- The instruction sets of the PE (30_encoding.md R90; 50_host_instruction_classes.md R1404). -/
inductive Isa where
  /-- A64, the instruction set of AArch64 state. -/
  | a64
  /-- A32, of AArch32 state. -/
  | a32
  /-- T32, of AArch32 state. -/
  | t32
  deriving DecidableEq, Repr

/-- The instruction names that the event rules list, each under the heading of its list (Scalar, Advanced SIMD, SVE, SVE2,
SME, SME2; A64, A32, T32 for the branches). The environment says under which of them an instruction of the PE falls. -/
inductive Form where
  /-- A32: B. -/
  | a32B
  /-- A32: BL. -/
  | a32Bl
  /-- A32: BLX label. -/
  | a32BlxLabel
  /-- A32: CBZ. -/
  | a32Cbz
  /-- A32: CBNZ. -/
  | a32Cbnz
  /-- A64: B. -/
  | a64B
  /-- A64: B.cond. -/
  | a64BCond
  /-- A64: BL. -/
  | a64Bl
  /-- A64: CBZ. -/
  | a64Cbz
  /-- A64: CBNZ. -/
  | a64Cbnz
  /-- A64: TBZ. -/
  | a64Tbz
  /-- A64: TBNZ. -/
  | a64Tbnz
  /-- A64: BC.cond. -/
  | a64BcCond
  /-- A64: CBcc imm. -/
  | a64CbccImm
  /-- A64: CBcc reg. -/
  | a64CbccReg
  /-- A64: CBBcc. -/
  | a64Cbbcc
  /-- A64: CBHcc. -/
  | a64Cbhcc
  /-- A32: BX R14. -/
  | a32BxR14
  /-- A32: MOV PC LR. -/
  | a32MovPcLr
  /-- A32: POP PC. -/
  | a32PopPc
  /-- A32: LDR PC SP post-indexed. -/
  | a32LdrPcSpPostIndexed
  /-- A64: RET. -/
  | a64Ret
  /-- A64: RETAA. -/
  | a64Retaa
  /-- A64: RETAB. -/
  | a64Retab
  /-- A64: RETAASPPC. -/
  | a64Retaasppc
  /-- A64: RETABSPPC. -/
  | a64Retabsppc
  /-- A64: RETAASPPCR. -/
  | a64Retaasppcr
  /-- A64: RETABSPPCR. -/
  | a64Retabsppcr
  /-- T32: Bc. -/
  | t32Bc
  /-- T32: Bc.W. -/
  | t32BcW
  /-- T32: CBNZ. -/
  | t32Cbnz
  /-- T32: CBZ. -/
  | t32Cbz
  /-- Scalar: FABS (scalar). -/
  | scalarFabsScalar
  /-- Scalar: FNEG (scalar). -/
  | scalarFnegScalar
  /-- Advanced SIMD: FABS (vector). -/
  | aseFabsVector
  /-- Advanced SIMD: FNEG (vector). -/
  | aseFnegVector
  /-- Advanced SIMD: FRECPE. -/
  | aseFrecpe
  /-- Advanced SIMD: FRSQRTE. -/
  | aseFrsqrte
  /-- SVE: FABS. -/
  | sveFabs
  /-- SVE: FEXPA. -/
  | sveFexpa
  /-- SVE: FNEG. -/
  | sveFneg
  /-- SVE: FRECPE. -/
  | sveFrecpe
  /-- SVE: FRSQRTE. -/
  | sveFrsqrte
  /-- SVE: FTSSEL. -/
  | sveFtssel
  /-- SVE: WHILELE (predicate). -/
  | sveWhilelePredicate
  /-- SVE: WHILELO (predicate). -/
  | sveWhileloPredicate
  /-- SVE: WHILELS (predicate). -/
  | sveWhilelsPredicate
  /-- SVE: WHILELT (predicate). -/
  | sveWhileltPredicate
  /-- SVE2: WHILEGE. -/
  | sve2Whilege
  /-- SVE2: WHILEGT. -/
  | sve2Whilegt
  /-- SVE2: WHILEHI. -/
  | sve2Whilehi
  /-- SVE2: WHILEHS. -/
  | sve2Whilehs
  /-- SVE: BRKAS. -/
  | sveBrkas
  /-- SVE: BRKBS. -/
  | sveBrkbs
  /-- SVE: BRKNS. -/
  | sveBrkns
  /-- SVE: BRKPAS. -/
  | sveBrkpas
  /-- SVE: BRKPBS. -/
  | sveBrkpbs
  /-- SVE: CTERMEQ. -/
  | sveCtermeq
  /-- SVE: CTERMNE. -/
  | sveCtermne
  /-- SVE: FTMAD. -/
  | sveFtmad
  /-- SVE: FTSMUL. -/
  | sveFtsmul
  /-- Scalar: FDIV. -/
  | scalarFdiv
  /-- Advanced SIMD: FDIV. -/
  | aseFdiv
  /-- SVE: FDIV. -/
  | sveFdiv
  /-- SVE: FDIVR. -/
  | sveFdivr
  /-- Scalar: FSQRT. -/
  | scalarFsqrt
  /-- Advanced SIMD: FSQRT. -/
  | aseFsqrt
  /-- SVE: FSQRT. -/
  | sveFsqrt
  /-- Advanced SIMD: BFMLALB. -/
  | aseBfmlalb
  /-- Advanced SIMD: BFMLALT. -/
  | aseBfmlalt
  /-- Advanced SIMD: FCMLA. -/
  | aseFcmla
  /-- Advanced SIMD: FMLALB. -/
  | aseFmlalb
  /-- Advanced SIMD: FMLALLBB. -/
  | aseFmlallbb
  /-- Advanced SIMD: FMLALLBT. -/
  | aseFmlallbt
  /-- Advanced SIMD: FMLALLTB. -/
  | aseFmlalltb
  /-- Advanced SIMD: FMLALLTT. -/
  | aseFmlalltt
  /-- Advanced SIMD: FMLALT. -/
  | aseFmlalt
  /-- Advanced SIMD: FMLAL. -/
  | aseFmlal
  /-- Advanced SIMD: FMLAL2. -/
  | aseFmlal2
  /-- Advanced SIMD: FMLSL. -/
  | aseFmlsl
  /-- Advanced SIMD: FMLSL2. -/
  | aseFmlsl2
  /-- Scalar: FMADD. -/
  | scalarFmadd
  /-- Scalar: FMSUB. -/
  | scalarFmsub
  /-- Scalar: FNMADD. -/
  | scalarFnmadd
  /-- Scalar: FNMSUB. -/
  | scalarFnmsub
  /-- Advanced SIMD: FMLA. -/
  | aseFmla
  /-- Advanced SIMD: FMLS. -/
  | aseFmls
  /-- SVE: BFMLALB. -/
  | sveBfmlalb
  /-- SVE: BFMLALT. -/
  | sveBfmlalt
  /-- SVE: FCMLA. -/
  | sveFcmla
  /-- SVE: FMAD. -/
  | sveFmad
  /-- SVE: FMLA. -/
  | sveFmla
  /-- SVE: FMLS. -/
  | sveFmls
  /-- SVE: FMSB. -/
  | sveFmsb
  /-- SVE: FNMAD. -/
  | sveFnmad
  /-- SVE: FNMLA. -/
  | sveFnmla
  /-- SVE: FNMLS. -/
  | sveFnmls
  /-- SVE: FNMSB. -/
  | sveFnmsb
  /-- SVE2: BFMLA. -/
  | sve2Bfmla
  /-- SVE2: BFMLS. -/
  | sve2Bfmls
  /-- SVE2: BFMLSLB. -/
  | sve2Bfmlslb
  /-- SVE2: BFMLSLT. -/
  | sve2Bfmlslt
  /-- SVE2: FMLALB. -/
  | sve2Fmlalb
  /-- SVE2: FMLALLBB. -/
  | sve2Fmlallbb
  /-- SVE2: FMLALLBT. -/
  | sve2Fmlallbt
  /-- SVE2: FMLALLTB. -/
  | sve2Fmlalltb
  /-- SVE2: FMLALLTT. -/
  | sve2Fmlalltt
  /-- SVE2: FMLALT. -/
  | sve2Fmlalt
  /-- SVE2: FMLSLB. -/
  | sve2Fmlslb
  /-- SVE2: FMLSLT. -/
  | sve2Fmlslt
  /-- SME2: BFMLA. -/
  | sme2Bfmla
  /-- SME2: BFMLAL. -/
  | sme2Bfmlal
  /-- SME2: BFMLS. -/
  | sme2Bfmls
  /-- SME2: BFMLSL. -/
  | sme2Bfmlsl
  /-- SME2: FMLA. -/
  | sme2Fmla
  /-- SME2: FMLAL. -/
  | sme2Fmlal
  /-- SME2: FMLALL. -/
  | sme2Fmlall
  /-- SME2: FMLS. -/
  | sme2Fmls
  /-- SME2: FMLSL. -/
  | sme2Fmlsl
  /-- Scalar: FMUL. -/
  | scalarFmul
  /-- Scalar: FMULX. -/
  | scalarFmulx
  /-- Advanced SIMD: FMUL. -/
  | aseFmul
  /-- Advanced SIMD: FMULX. -/
  | aseFmulx
  /-- SVE: FMUL. -/
  | sveFmul
  /-- SVE: FMULX. -/
  | sveFmulx
  /-- SVE2: BFMUL. -/
  | sve2Bfmul
  /-- Scalar: FADD. -/
  | scalarFadd
  /-- Scalar: FSUB. -/
  | scalarFsub
  /-- Advanced SIMD: FABD. -/
  | aseFabd
  /-- Advanced SIMD: FADD. -/
  | aseFadd
  /-- Advanced SIMD: FSUB. -/
  | aseFsub
  /-- SVE: FABD. -/
  | sveFabd
  /-- SVE: FADD. -/
  | sveFadd
  /-- SVE: FSUB. -/
  | sveFsub
  /-- SVE: FSUBR. -/
  | sveFsubr
  /-- SVE2: BFADD. -/
  | sve2Bfadd
  /-- SVE2: BFSUB. -/
  | sve2Bfsub
  /-- SME2: BFADD. -/
  | sme2Bfadd
  /-- SME2: BFSUB. -/
  | sme2Bfsub
  /-- SME2: FADD. -/
  | sme2Fadd
  /-- SME2: FSUB. -/
  | sme2Fsub
  /-- SVE: FADDA. -/
  | sveFadda
  /-- Advanced SIMD: FADDP. -/
  | aseFaddp
  /-- Advanced SIMD: FMAXNMP. -/
  | aseFmaxnmp
  /-- Advanced SIMD: FMAXP. -/
  | aseFmaxp
  /-- Advanced SIMD: FMINNMP. -/
  | aseFminnmp
  /-- Advanced SIMD: FMINP. -/
  | aseFminp
  /-- SVE: FADDV. -/
  | sveFaddv
  /-- SVE: FMAXNMV. -/
  | sveFmaxnmv
  /-- SVE: FMAXV. -/
  | sveFmaxv
  /-- SVE: FMINNMV. -/
  | sveFminnmv
  /-- SVE: FMINV. -/
  | sveFminv
  /-- SVE2: FADDP. -/
  | sve2Faddp
  /-- SVE2: FADDQV. -/
  | sve2Faddqv
  /-- SVE2: FMAXNMP. -/
  | sve2Fmaxnmp
  /-- SVE2: FMAXNMQV. -/
  | sve2Fmaxnmqv
  /-- SVE2: FMAXP. -/
  | sve2Fmaxp
  /-- SVE2: FMAXQV. -/
  | sve2Fmaxqv
  /-- SVE2: FMINNMP. -/
  | sve2Fminnmp
  /-- SVE2: FMINNMQV. -/
  | sve2Fminnmqv
  /-- SVE2: FMINP. -/
  | sve2Fminp
  /-- SVE2: FMINQV. -/
  | sve2Fminqv
  /-- Advanced SIMD: FMAXNMV. -/
  | aseFmaxnmv
  /-- Advanced SIMD: FMAXV. -/
  | aseFmaxv
  /-- Advanced SIMD: FMINNMV. -/
  | aseFminnmv
  /-- Advanced SIMD: FMINV. -/
  | aseFminv
  /-- Scalar: SDIV. -/
  | scalarSdiv
  /-- Scalar: UDIV. -/
  | scalarUdiv
  /-- SVE: SDIV. -/
  | sveSdiv
  /-- SVE: SDIVR. -/
  | sveSdivr
  /-- SVE: UDIV. -/
  | sveUdiv
  /-- SVE: UDIVR. -/
  | sveUdivr
  /-- Advanced SIMD: SQRDMLAH. -/
  | aseSqrdmlah
  /-- Advanced SIMD: SQRDMLSH. -/
  | aseSqrdmlsh
  /-- Scalar: MADD. -/
  | scalarMadd
  /-- Scalar: MSUB. -/
  | scalarMsub
  /-- Scalar: MUL. -/
  | scalarMul
  /-- Scalar: SMADDL. -/
  | scalarSmaddl
  /-- Scalar: SMULH. -/
  | scalarSmulh
  /-- Scalar: UMADDL. -/
  | scalarUmaddl
  /-- Scalar: UMULH. -/
  | scalarUmulh
  /-- Advanced SIMD: MLA. -/
  | aseMla
  /-- Advanced SIMD: MLS. -/
  | aseMls
  /-- Advanced SIMD: MUL. -/
  | aseMul
  /-- Advanced SIMD: PMUL. -/
  | asePmul
  /-- Advanced SIMD: PMULL. -/
  | asePmull
  /-- Advanced SIMD: PMULL2. -/
  | asePmull2
  /-- Advanced SIMD: SMLAL. -/
  | aseSmlal
  /-- Advanced SIMD: SMLAL2. -/
  | aseSmlal2
  /-- Advanced SIMD: SMLSL. -/
  | aseSmlsl
  /-- Advanced SIMD: SMLSL2. -/
  | aseSmlsl2
  /-- Advanced SIMD: SMULL. -/
  | aseSmull
  /-- Advanced SIMD: SMULL2. -/
  | aseSmull2
  /-- Advanced SIMD: SQDMLAL. -/
  | aseSqdmlal
  /-- Advanced SIMD: SQDMLAL2. -/
  | aseSqdmlal2
  /-- Advanced SIMD: SQDMLSL. -/
  | aseSqdmlsl
  /-- Advanced SIMD: SQDMLSL2. -/
  | aseSqdmlsl2
  /-- Advanced SIMD: SQDMULH. -/
  | aseSqdmulh
  /-- Advanced SIMD: SQDMULL. -/
  | aseSqdmull
  /-- Advanced SIMD: SQDMULL2. -/
  | aseSqdmull2
  /-- Advanced SIMD: SQRDMULH. -/
  | aseSqrdmulh
  /-- Advanced SIMD: UMLAL. -/
  | aseUmlal
  /-- Advanced SIMD: UMLAL2. -/
  | aseUmlal2
  /-- Advanced SIMD: UMLSL. -/
  | aseUmlsl
  /-- Advanced SIMD: UMLSL2. -/
  | aseUmlsl2
  /-- Advanced SIMD: UMULL. -/
  | aseUmull
  /-- Advanced SIMD: UMULL2. -/
  | aseUmull2
  /-- SVE: MAD. -/
  | sveMad
  /-- SVE: MLA (vectors). -/
  | sveMlaVectors
  /-- SVE: MLS (vectors). -/
  | sveMlsVectors
  /-- SVE: MSB. -/
  | sveMsb
  /-- SVE: MUL. -/
  | sveMul
  /-- SVE: SMULH (predicated). -/
  | sveSmulhPredicated
  /-- SVE: UMULH (predicated). -/
  | sveUmulhPredicated
  /-- SVE2: CMLA. -/
  | sve2Cmla
  /-- SVE2: MLA (indexed). -/
  | sve2MlaIndexed
  /-- SVE2: MLS (indexed). -/
  | sve2MlsIndexed
  /-- SVE2: MUL. -/
  | sve2Mul
  /-- SVE2: PMUL. -/
  | sve2Pmul
  /-- SVE2: SMLALB. -/
  | sve2Smlalb
  /-- SVE2: SMLALT. -/
  | sve2Smlalt
  /-- SVE2: SMLSLB. -/
  | sve2Smlslb
  /-- SVE2: SMLSLT. -/
  | sve2Smlslt
  /-- SVE2: SMULH (unpredicated). -/
  | sve2SmulhUnpredicated
  /-- SVE2: SMULLB. -/
  | sve2Smullb
  /-- SVE2: SMULLT. -/
  | sve2Smullt
  /-- SVE2: SQDMLALB. -/
  | sve2Sqdmlalb
  /-- SVE2: SQDMLALBT. -/
  | sve2Sqdmlalbt
  /-- SVE2: SQDMLALT. -/
  | sve2Sqdmlalt
  /-- SVE2: SQDMLSLB. -/
  | sve2Sqdmlslb
  /-- SVE2: SQDMLSLBT. -/
  | sve2Sqdmlslbt
  /-- SVE2: SQDMLSLT. -/
  | sve2Sqdmlslt
  /-- SVE2: SQDMULH. -/
  | sve2Sqdmulh
  /-- SVE2: SQDMULLB. -/
  | sve2Sqdmullb
  /-- SVE2: SQDMULLT. -/
  | sve2Sqdmullt
  /-- SVE2: SQRDCMLAH. -/
  | sve2Sqrdcmlah
  /-- SVE2: SQRDMLAH. -/
  | sve2Sqrdmlah
  /-- SVE2: SQRDMLSH. -/
  | sve2Sqrdmlsh
  /-- SVE2: SQRDMULH. -/
  | sve2Sqrdmulh
  /-- SVE2: UMLALB. -/
  | sve2Umlalb
  /-- SVE2: UMLALT. -/
  | sve2Umlalt
  /-- SVE2: UMLSLB. -/
  | sve2Umlslb
  /-- SVE2: UMLSLT. -/
  | sve2Umlslt
  /-- SVE2: UMULH (unpredicated). -/
  | sve2UmulhUnpredicated
  /-- SVE2: UMULLB. -/
  | sve2Umullb
  /-- SVE2: UMULLT. -/
  | sve2Umullt
  /-- SME2: SMLAL. -/
  | sme2Smlal
  /-- SME2: SMLALL. -/
  | sme2Smlall
  /-- SME2: SMLSL. -/
  | sme2Smlsl
  /-- SME2: SMLSLL. -/
  | sme2Smlsll
  /-- SME2: SUMLALL. -/
  | sme2Sumlall
  /-- SME2: UMLAL. -/
  | sme2Umlal
  /-- SME2: UMLALL. -/
  | sme2Umlall
  /-- SME2: UMLSL. -/
  | sme2Umlsl
  /-- SME2: UMLSLL. -/
  | sme2Umlsll
  /-- SME2: USMLALL. -/
  | sme2Usmlall
  /-- SVE: MUL (vectors, predicated). -/
  | sveMulVectorsPredicated
  /-- SVE2: CMLA (vectors). -/
  | sve2CmlaVectors
  /-- SVE2: SQRDCMLAH (vectors). -/
  | sve2SqrdcmlahVectors
  /-- Advanced SIMD: ADDP. -/
  | aseAddp
  /-- Advanced SIMD: ADDV. -/
  | aseAddv
  /-- Advanced SIMD: SADALP. -/
  | aseSadalp
  /-- Advanced SIMD: SADDLP. -/
  | aseSaddlp
  /-- Advanced SIMD: SADDLV. -/
  | aseSaddlv
  /-- Advanced SIMD: SMAXP. -/
  | aseSmaxp
  /-- Advanced SIMD: SMAXV. -/
  | aseSmaxv
  /-- Advanced SIMD: SMINP. -/
  | aseSminp
  /-- Advanced SIMD: SMINV. -/
  | aseSminv
  /-- Advanced SIMD: UADALP. -/
  | aseUadalp
  /-- Advanced SIMD: UADDLP. -/
  | aseUaddlp
  /-- Advanced SIMD: UADDLV. -/
  | aseUaddlv
  /-- Advanced SIMD: UMAXP. -/
  | aseUmaxp
  /-- Advanced SIMD: UMAXV. -/
  | aseUmaxv
  /-- Advanced SIMD: UMINP. -/
  | aseUminp
  /-- Advanced SIMD: UMINV. -/
  | aseUminv
  /-- SVE: ANDV. -/
  | sveAndv
  /-- SVE: EORV. -/
  | sveEorv
  /-- SVE: ORV. -/
  | sveOrv
  /-- SVE: SADDV. -/
  | sveSaddv
  /-- SVE: SMAXV. -/
  | sveSmaxv
  /-- SVE: SMINV. -/
  | sveSminv
  /-- SVE: UADDV. -/
  | sveUaddv
  /-- SVE: UMAXV. -/
  | sveUmaxv
  /-- SVE: UMINV. -/
  | sveUminv
  /-- SVE2: ADDP. -/
  | sve2Addp
  /-- SVE2: ADDQV. -/
  | sve2Addqv
  /-- SVE2: ANDQV. -/
  | sve2Andqv
  /-- SVE2: EORQV. -/
  | sve2Eorqv
  /-- SVE2: ORQV. -/
  | sve2Orqv
  /-- SVE2: SADALP. -/
  | sve2Sadalp
  /-- SVE2: SMAXP. -/
  | sve2Smaxp
  /-- SVE2: SMAXQV. -/
  | sve2Smaxqv
  /-- SVE2: SMINP. -/
  | sve2Sminp
  /-- SVE2: SMINQV. -/
  | sve2Sminqv
  /-- SVE2: UADALP. -/
  | sve2Uadalp
  /-- SVE2: UMAXP. -/
  | sve2Umaxp
  /-- SVE2: UMAXQV. -/
  | sve2Umaxqv
  /-- SVE2: UMINP. -/
  | sve2Uminp
  /-- SVE2: UMINQV. -/
  | sve2Uminqv
  /-- SVE: CLASTA. -/
  | sveClasta
  /-- SVE: CLASTB. -/
  | sveClastb
  /-- SVE: COMPACT. -/
  | sveCompact
  /-- SVE: CPY (SIMD&FP scalar). -/
  | sveCpySimdfpScalar
  /-- SVE: CPY (scalar). -/
  | sveCpyScalar
  /-- SVE: DUP (indexed). -/
  | sveDupIndexed
  /-- SVE: DUP (scalar). -/
  | sveDupScalar
  /-- SVE: EXT. -/
  | sveExt
  /-- SVE: INSR. -/
  | sveInsr
  /-- SVE: LASTA. -/
  | sveLasta
  /-- SVE: LASTB. -/
  | sveLastb
  /-- SVE: PUNPKHI. -/
  | svePunpkhi
  /-- SVE: PUNPKLO. -/
  | svePunpklo
  /-- SVE: REV (vector). -/
  | sveRevVector
  /-- SVE: REVB. -/
  | sveRevb
  /-- SVE: REVH. -/
  | sveRevh
  /-- SVE: REVW. -/
  | sveRevw
  /-- SVE: SPLICE. -/
  | sveSplice
  /-- SVE: SUNPKHI. -/
  | sveSunpkhi
  /-- SVE: SUNPKLO. -/
  | sveSunpklo
  /-- SVE: TBL. -/
  | sveTbl
  /-- SVE: TRN1. -/
  | sveTrn1
  /-- SVE: TRN2. -/
  | sveTrn2
  /-- SVE: UUNPKHI. -/
  | sveUunpkhi
  /-- SVE: UUNPKLO. -/
  | sveUunpklo
  /-- SVE: UZP1. -/
  | sveUzp1
  /-- SVE: UZP2. -/
  | sveUzp2
  /-- SVE: ZIP1. -/
  | sveZip1
  /-- SVE: ZIP2. -/
  | sveZip2
  /-- SVE2: EXPAND. -/
  | sve2Expand
  /-- SVE2: REVD. -/
  | sve2Revd
  /-- SVE2: TBX. -/
  | sve2Tbx
  /-- SVE2: TBXQ. -/
  | sve2Tbxq
  /-- SVE: TRN1 (vectors). -/
  | sveTrn1Vectors
  /-- SVE: TRN2 (vectors). -/
  | sveTrn2Vectors
  /-- SVE: TRN1 (predicates). -/
  | sveTrn1Predicates
  /-- SVE: TRN2 (predicates). -/
  | sveTrn2Predicates
  /-- SVE: CLASTA (scalar). -/
  | sveClastaScalar
  /-- SVE: CLASTB (scalar). -/
  | sveClastbScalar
  /-- SVE: CNTP (predicate). -/
  | sveCntpPredicate
  /-- SVE: DECP (scalar). -/
  | sveDecpScalar
  /-- SVE: INCP (scalar). -/
  | sveIncpScalar
  /-- SVE: INDEX (immediate, scalar). -/
  | sveIndexImmediateScalar
  /-- SVE: INDEX (scalar, immediate). -/
  | sveIndexScalarImmediate
  /-- SVE: INDEX (scalars). -/
  | sveIndexScalars
  /-- SVE: INSR (scalar). -/
  | sveInsrScalar
  /-- SVE: LASTA (scalar). -/
  | sveLastaScalar
  /-- SVE: LASTB (scalar). -/
  | sveLastbScalar
  /-- SVE: SQDECP (scalar). -/
  | sveSqdecpScalar
  /-- SVE: SQINCP (scalar). -/
  | sveSqincpScalar
  /-- SVE: UQDECP (scalar). -/
  | sveUqdecpScalar
  /-- SVE: UQINCP (scalar). -/
  | sveUqincpScalar
  /-- SVE2: CNTP (predicate as counter). -/
  | sve2CntpPredicateAsCounter
  /-- SVE2: FIRSTP. -/
  | sve2Firstp
  /-- SVE2: LASTP. -/
  | sve2Lastp
  /-- SVE2: PSEL. -/
  | sve2Psel
  /-- SVE2: WHILELE. -/
  | sve2Whilele
  /-- SVE2: WHILELO. -/
  | sve2Whilelo
  /-- SVE2: WHILELS. -/
  | sve2Whilels
  /-- SVE2: WHILELT. -/
  | sve2Whilelt
  /-- SVE2: WHILERW. -/
  | sve2Whilerw
  /-- SVE2: WHILEWR. -/
  | sve2Whilewr
  /-- SVE: AND (predicates). -/
  | sveAndPredicates
  /-- SVE: ANDS. -/
  | sveAnds
  /-- SVE: BIC (predicates). -/
  | sveBicPredicates
  /-- SVE: BICS. -/
  | sveBics
  /-- SVE: BRKA. -/
  | sveBrka
  /-- SVE: BRKB. -/
  | sveBrkb
  /-- SVE: BRKN. -/
  | sveBrkn
  /-- SVE: BRKPA. -/
  | sveBrkpa
  /-- SVE: BRKPB. -/
  | sveBrkpb
  /-- SVE: EOR (predicates). -/
  | sveEorPredicates
  /-- SVE: EORS. -/
  | sveEors
  /-- SVE: NAND. -/
  | sveNand
  /-- SVE: NANDS. -/
  | sveNands
  /-- SVE: NOR. -/
  | sveNor
  /-- SVE: NORS. -/
  | sveNors
  /-- SVE: ORN (predicates). -/
  | sveOrnPredicates
  /-- SVE: ORNS. -/
  | sveOrns
  /-- SVE: ORR (predicates). -/
  | sveOrrPredicates
  /-- SVE: ORRS. -/
  | sveOrrs
  /-- SVE: PFALSE. -/
  | svePfalse
  /-- SVE: PFIRST. -/
  | svePfirst
  /-- SVE: PNEXT. -/
  | svePnext
  /-- SVE: PTRUE (predicate). -/
  | svePtruePredicate
  /-- SVE: PTRUES. -/
  | svePtrues
  /-- SVE: RDFFR. -/
  | sveRdffr
  /-- SVE: RDFFRS. -/
  | sveRdffrs
  /-- SVE: REV (predicate). -/
  | sveRevPredicate
  /-- SVE: SEL (predicates). -/
  | sveSelPredicates
  /-- SVE: UZP1 (predicates). -/
  | sveUzp1Predicates
  /-- SVE: UZP2 (predicates). -/
  | sveUzp2Predicates
  /-- SVE: ZIP1 (predicates). -/
  | sveZip1Predicates
  /-- SVE: ZIP2 (predicates). -/
  | sveZip2Predicates
  /-- SVE2: PEXT. -/
  | sve2Pext
  /-- SVE2: PTRUE (predicate as counter). -/
  | sve2PtruePredicateAsCounter
  /-- SVE: CMP<cc>. -/
  | sveCmpcc
  /-- SVE: FAC<cc>. -/
  | sveFaccc
  /-- SVE: FCM<cc>. -/
  | sveFcmcc
  /-- SVE2: MATCH. -/
  | sve2Match
  /-- SVE2: NMATCH. -/
  | sve2Nmatch
  /-- SVE2: PMOV (to predicate). -/
  | sve2PmovToPredicate
  /-- SVE: DECP. -/
  | sveDecp
  /-- SVE: INCP. -/
  | sveIncp
  /-- SVE: SQDECP. -/
  | sveSqdecp
  /-- SVE: SQINCP. -/
  | sveSqincp
  /-- SVE: UQDECP. -/
  | sveUqdecp
  /-- SVE: UQINCP. -/
  | sveUqincp
  /-- SVE: MOVPRFX. -/
  | sveMovprfx
  /-- SVE: PRFB. -/
  | svePrfb
  /-- SVE: PRFD. -/
  | svePrfd
  /-- SVE: PRFH. -/
  | svePrfh
  /-- SVE: PRFW. -/
  | svePrfw
  /-- Scalar: PRFM. -/
  | scalarPrfm
  /-- Scalar: PRFUM. -/
  | scalarPrfum
  /-- Scalar: RPRFM. -/
  | scalarRprfm
  /-- Advanced SIMD: LDAP1. -/
  | aseLdap1
  /-- Advanced SIMD: LDAPUR. -/
  | aseLdapur
  /-- Advanced SIMD: STL1. -/
  | aseStl1
  /-- Advanced SIMD: STLUR. -/
  | aseStlur
  /-- Scalar: LDP (SIMD&FP). -/
  | scalarLdpSimdfp
  /-- Scalar: LDR (SIMD&FP). -/
  | scalarLdrSimdfp
  /-- Scalar: STP (SIMD&FP). -/
  | scalarStpSimdfp
  /-- Scalar: STR (SIMD&FP). -/
  | scalarStrSimdfp
  /-- Advanced SIMD: LD1. -/
  | aseLd1
  /-- Advanced SIMD: LD1R. -/
  | aseLd1r
  /-- Advanced SIMD: LDNP. -/
  | aseLdnp
  /-- Advanced SIMD: LDP. -/
  | aseLdp
  /-- Advanced SIMD: LDR. -/
  | aseLdr
  /-- Advanced SIMD: LDUR. -/
  | aseLdur
  /-- Advanced SIMD: ST1. -/
  | aseSt1
  /-- Advanced SIMD: STNP. -/
  | aseStnp
  /-- Advanced SIMD: STP. -/
  | aseStp
  /-- Advanced SIMD: STR. -/
  | aseStr
  /-- Advanced SIMD: STUR. -/
  | aseStur
  /-- SVE: LDR. -/
  | sveLdr
  /-- SVE: STR. -/
  | sveStr
  /-- SVE: LDR (predicate). -/
  | sveLdrPredicate
  /-- SVE: STR (predicate). -/
  | sveStrPredicate
  /-- SVE: LDR (vector). -/
  | sveLdrVector
  /-- SVE: STR (vector). -/
  | sveStrVector
  /-- SME: LD1B. -/
  | smeLd1b
  /-- SME: LD1D. -/
  | smeLd1d
  /-- SME: LD1H. -/
  | smeLd1h
  /-- SME: LD1Q. -/
  | smeLd1q
  /-- SME: LD1W. -/
  | smeLd1w
  /-- SME: LDNT1B. -/
  | smeLdnt1b
  /-- SME: LDNT1D. -/
  | smeLdnt1d
  /-- SME: LDNT1H. -/
  | smeLdnt1h
  /-- SME: LDNT1Q. -/
  | smeLdnt1q
  /-- SME: ST1B. -/
  | smeSt1b
  /-- SME: ST1D. -/
  | smeSt1d
  /-- SME: ST1H. -/
  | smeSt1h
  /-- SME: ST1Q. -/
  | smeSt1q
  /-- SME: ST1W. -/
  | smeSt1w
  /-- SME: STNT1B. -/
  | smeStnt1b
  /-- SME: STNT1D. -/
  | smeStnt1d
  /-- SME: STNT1H. -/
  | smeStnt1h
  /-- SME: STNT1Q. -/
  | smeStnt1q
  /-- Advanced SIMD: BFDOT. -/
  | aseBfdot
  /-- Advanced SIMD: FDOT (2-way, by element). -/
  | aseFdot2WayByElement
  /-- Advanced SIMD: FDOT (2-way, vector). -/
  | aseFdot2WayVector
  /-- Advanced SIMD: FDOT (4-way, by element). -/
  | aseFdot4WayByElement
  /-- Advanced SIMD: FDOT (4-way, vector). -/
  | aseFdot4WayVector
  /-- SVE: BFDOT. -/
  | sveBfdot
  /-- SVE2: FDOT. -/
  | sve2Fdot
  /-- Advanced SIMD: BFMMLA. -/
  | aseBfmmla
  /-- Advanced SIMD: FMMLA (8-bit floating-point to half-precision). -/
  | aseFmmla8BitFloatingPointToHalfPrecision
  /-- Advanced SIMD: FMMLA (8-bit floating-point to single-precision). -/
  | aseFmmla8BitFloatingPointToSinglePrecision
  /-- SVE: BFMMLA (widening). -/
  | sveBfmmlaWidening
  /-- SVE: FMMLA (non-widening). -/
  | sveFmmlaNonWidening
  /-- SVE2: FMMLA. -/
  | sve2Fmmla
  /-- Advanced SIMD: SDOT. -/
  | aseSdot
  /-- Advanced SIMD: UDOT. -/
  | aseUdot
  /-- Advanced SIMD: SUDOT (by element). -/
  | aseSudotByElement
  /-- Advanced SIMD: USDOT. -/
  | aseUsdot
  /-- SVE: SDOT. -/
  | sveSdot
  /-- SVE: SUDOT. -/
  | sveSudot
  /-- SVE: UDOT. -/
  | sveUdot
  /-- SVE: USDOT. -/
  | sveUsdot
  /-- SVE2: CDOT. -/
  | sve2Cdot
  /-- SVE2: SDOT. -/
  | sve2Sdot
  /-- SVE2: UDOT. -/
  | sve2Udot
  /-- Advanced SIMD: SMMLA (vector). -/
  | aseSmmlaVector
  /-- Advanced SIMD: UMMLA (vector). -/
  | aseUmmlaVector
  /-- Advanced SIMD: USMMLA (vector). -/
  | aseUsmmlaVector
  /-- SVE: SMMLA. -/
  | sveSmmla
  /-- SVE: UMMLA. -/
  | sveUmmla
  /-- SVE: USMMLA. -/
  | sveUsmmla
  /-- SVE: MATCH. -/
  | sveMatch
  /-- SVE: NMATCH. -/
  | sveNmatch
  /-- SVE: HISTSEG. -/
  | sveHistseg
  /-- SVE: HISTCNT. -/
  | sveHistcnt
  /-- SVE: BDEP. -/
  | sveBdep
  /-- SVE: BEXT. -/
  | sveBext
  /-- SVE: BGRP. -/
  | sveBgrp
  /-- SME2: BFDOT. -/
  | sme2Bfdot
  /-- SME2: BFVDOT. -/
  | sme2Bfvdot
  /-- SME2: FDOT. -/
  | sme2Fdot
  /-- SME2: FVDOT. -/
  | sme2Fvdot
  /-- SME2: FVDOTB. -/
  | sme2Fvdotb
  /-- SME2: FVDOTT. -/
  | sme2Fvdott
  /-- Advanced SIMD: FDOT (8-bit floating-point to half-precision, by element), as R1172 prints it; no Occ reads this name. Log 64. -/
  | aseFdot8BitFloatingPointToHalfPrecisionByElement
  /-- Advanced SIMD: FDOT (8-bit floating-point to half-precision, vector), as R1172 prints it; no Occ reads this name. Log 64. -/
  | aseFdot8BitFloatingPointToHalfPrecisionVector
  /-- Advanced SIMD: FDOT (8-bit floating-point to single-precision, by element), as R1172 prints it; no Occ reads this name. Log 64. -/
  | aseFdot8BitFloatingPointToSinglePrecisionByElement
  /-- Advanced SIMD: FDOT (8-bit floating-point to single-precision, vector), as R1172 prints it; no Occ reads this name. Log 64. -/
  | aseFdot8BitFloatingPointToSinglePrecisionVector
  /-- SME2: BFMOPA. -/
  | sme2Bfmopa
  /-- SME2: BFMOPS. -/
  | sme2Bfmops
  /-- SME2: FMOPA. -/
  | sme2Fmopa
  /-- SME2: FMOPS. -/
  | sme2Fmops
  /-- SME2: SDOT. -/
  | sme2Sdot
  /-- SME2: SUDOT. -/
  | sme2Sudot
  /-- SME2: SUVDOT. -/
  | sme2Suvdot
  /-- SME2: SVDOT. -/
  | sme2Svdot
  /-- SME2: UDOT. -/
  | sme2Udot
  /-- SME2: USDOT. -/
  | sme2Usdot
  /-- SME2: USVDOT. -/
  | sme2Usvdot
  /-- SME2: UVDOT. -/
  | sme2Uvdot
  /-- Advanced SIMD: SUDOT, as R1179 prints it; no Occ reads this name. Log 64. -/
  | aseSudot
  /-- SME2: BMOPA. -/
  | sme2Bmopa
  /-- SME2: BMOPS. -/
  | sme2Bmops
  /-- SME2: SMOPA. -/
  | sme2Smopa
  /-- SME2: SMOPS. -/
  | sme2Smops
  /-- SME2: SUMOPA (4-way). -/
  | sme2Sumopa4Way
  /-- SME2: SUMOPS. -/
  | sme2Sumops
  /-- SME2: UMOPA. -/
  | sme2Umopa
  /-- SME2: UMOPS. -/
  | sme2Umops
  /-- SME2: USMOPA (4-way). -/
  | sme2Usmopa4Way
  /-- SME2: USMOPS. -/
  | sme2Usmops
  /-- SME2: LDR (array vector). -/
  | sme2LdrArrayVector
  /-- SME2: STR (array vector). -/
  | sme2StrArrayVector
  /-- SME2: LDR (table). -/
  | sme2LdrTable
  /-- SME2: STR (table). -/
  | sme2StrTable
  /-- SME2: LDR. -/
  | sme2Ldr
  /-- SME2: STR. -/
  | sme2Str
  /-- SME2: LD1B (scalar plus scalar, tile slice). -/
  | sme2Ld1bScalarPlusScalarTileSlice
  /-- SME2: LD1D (scalar plus scalar, tile slice). -/
  | sme2Ld1dScalarPlusScalarTileSlice
  /-- SME2: LD1H (scalar plus scalar, tile slice). -/
  | sme2Ld1hScalarPlusScalarTileSlice
  /-- SME2: LD1Q. -/
  | sme2Ld1q
  /-- SME2: LD1W (scalar plus scalar, tile slice). -/
  | sme2Ld1wScalarPlusScalarTileSlice
  /-- SME2: ST1B (scalar plus scalar, tile slice). -/
  | sme2St1bScalarPlusScalarTileSlice
  /-- SME2: ST1D (scalar plus scalar, tile slice). -/
  | sme2St1dScalarPlusScalarTileSlice
  /-- SME2: ST1H (scalar plus scalar, tile slice). -/
  | sme2St1hScalarPlusScalarTileSlice
  /-- SME2: ST1Q. -/
  | sme2St1q
  /-- SME2: ST1W (scalar plus scalar, tile slice). -/
  | sme2St1wScalarPlusScalarTileSlice
  /-- SVE2: LUTI2 (8-bit and 16-bit). -/
  | sve2Luti28BitAnd16Bit
  /-- SVE2: LUTI4 (8-bit and 16-bit). -/
  | sve2Luti48BitAnd16Bit
  /-- SME2: LUTI2. -/
  | sme2Luti2
  /-- SME2: LUTI4. -/
  | sme2Luti4
  /-- SME: LDNT1W. -/
  | smeLdnt1w
  /-- SME: STNT1W. -/
  | smeStnt1w
  deriving DecidableEq, Repr

/-- The caches, TLBs and bus that the sharing clauses name (40_common_event_rules.md R130, R131, R136, R138). Which TLB "the TLB" of an
event's clause is: log 71; which cache "the cache" is: log 76. -/
inductive Resource where
  | l1iCache | l1dCache | l2iCache | l2dCache | l3dCache | llCache | l1gcsCache
  | l1iTlb | l1dTlb | l2iTlb | l2dTlb | l1gcsTlb
  /-- The TLBs whose refill is a walk: data or unified, instruction, Guarded control stack. Each stands apart from the TLBs of one level
  above. Log 71. -/
  | dtlb | itlb | gcstlb
  | bus
  deriving DecidableEq, Repr

/-- A set of events, written as its members or as its complement. -/
inductive EventSet where
  | only (l : List Instr)
  | except (l : List Instr)
  deriving DecidableEq, Repr

/-- A set of the environment's labels, written as its members or as its complement. -/
inductive LabelSet where
  | only (l : List Nat)
  | except (l : List Nat)
  deriving DecidableEq, Repr

/-- What an event number of U19 means without FEAT_PMUv3p8 (30_encoding.md R99, decision D8). -/
inductive U19Meaning where
  /-- The number is used for the named event. -/
  | assigned
  /-- The number is used for another event; `none` is one the spec does not describe. Log 30. -/
  | other (e : Option Instr)
  /-- The number is not used. -/
  | unused
  deriving DecidableEq, Repr

/-- The parameters of the implementation. -/
structure Impl where
  /-- FEATURES (00_scope.md R7). -/
  features : List Feature
  /-- HAVE_EL2 (R6). -/
  haveEl2 : Bool
  /-- HAVE_EL3 (R6). -/
  haveEl3 : Bool
  /-- HAVE_AARCH32_ELx: the Exception levels that support AArch32 (R6). -/
  aarch32Els : List Nat
  /-- IMPLEMENTED (R6; 30_encoding.md R92). -/
  implemented : EventSet
  /-- EVTCOUNT_WIDTH (R6; 30_encoding.md R94). -/
  evtCountWidth : Nat
  /-- NUM_COUNTERS (R6). -/
  numCounters : Nat
  /-- slots (R6; 40_common_event_rules.md R123). -/
  slots : Nat
  /-- MULTITHREADED (R6). -/
  multithreaded : Bool
  /-- AFFINITY of each PE at level 1 and above, as a label (R6; 40_common_event_rules.md R129). -/
  affinity : List Nat
  /-- DISTANCE: the distance of each route label (R6, U164); a label not listed is its own class. -/
  distance : List (Nat × Nat)
  /-- CACHE_TYPES (R6, U165). -/
  cacheTypes : List (Nat × Nat)
  /-- MEM_TYPES (R6, U166). -/
  memTypes : List (Nat × Nat)
  /-- DCZVA_OPS (R6, D18, U131). -/
  dczvaOps : Nat
  /-- DCZVA_BYTES (R6, D18). -/
  dczvaBytes : Nat
  /-- SCALE_OPS_INCREMENT by instruction class label (R6, D19). -/
  scaleOps : List (Nat × Nat)
  /-- IMPDEF_RANGE: event numbers of the IMPLEMENTATION DEFINED range; `none` is an event the spec does not describe (R93). -/
  impdefRange : List (EvtWord × Option Instr)
  /-- SYSTEM_GENERATED (30_encoding.md R96). -/
  systemGenerated : List Instr
  /-- The members of SYSTEM_GENERATED whose identification bit is RAO (R96). -/
  raoBits : List Instr
  /-- TRB_TRIG_COUNTABLE (30_encoding.md R102, U21). -/
  trbTrigCountable : Bool
  /-- U19_MEANING (30_encoding.md R99); an event not listed is `assigned`. -/
  u19 : List (Instr × U19Meaning)
  /-- The caches, TLBs and buses that are shared (40_common_event_rules.md R129 (c)). -/
  shared : List Resource
  /-- Those shared with PEs outside the multithreaded processor (R129 (c)). -/
  sharedOutside : List Resource
  /-- U33: for an event and an Effective MT, all events are counted and not only Attributable ones. -/
  countAll : List (Instr × Bool)
  /-- RESET_COUNT (70_reset_and_hazards.md R1550). -/
  resetCount : CountWord
  /-- What PMCR.C writes to the cycle counter; the spec states no value (R1550). -/
  resetCycleCount : CountWord
  /-- DMB_SPEC_CP15 (D14, conflict C2). -/
  dmbCp15Dsb : Bool
  /-- SVE_CONTIG_LISTS: missing members of the three lists (D15, conflict C10). -/
  sveContig : List (Form × Instr)
  /-- SE_FP_BF16_INCLUDES_ASE (D16, conflict C12). -/
  seFpBf16IncludesAse : Bool
  /-- The Boolean items of U1 to U163 that are true, per item and event. -/
  choices : List (Nat × Instr)
  /-- The set-valued items of U1 to U163, per item and event; one not listed holds every label. -/
  sets : List ((Nat × Instr) × LabelSet)
  /-- Program-flow prediction resources are implemented (BR_MIS_PRED_RETIRED 0x0022). -/
  hasPredictor : Bool
  /-- Separate GCS caching structures are implemented (L1GCS_CACHE 0x8330). -/
  separateGcsCache : Bool
  /-- Where both are implemented, rename stalls are counted by STALL_FRONTEND_RENAME and not by STALL_BACKEND_RENAME (0x8163, 0x816D).
  Log 46. -/
  renameAtFrontend : Bool
  /-- "the implementation clocks the external memory interface at the same rate as the processor hardware" (BUS_CYCLES 0x001D;
  70_reset_and_hazards.md R1560). Log 77. -/
  busAtProcessorRate : Bool
  deriving DecidableEq, Repr

/-- The outcome of an UNPREDICTABLE or CONSTRAINED UNPREDICTABLE choice between counted and not counted
(00_scope.md R10): item of 93_implementation_defined.md, serial number of the occurrence. No body: nothing is known of it.
Log 12. -/
opaque Config.drawBool : Nat → Nat → Bool

/-- The increment of an occurrence for which the spec states no exact quotient (40_common_event_rules.md R123): event number,
serial number of the occurrence. No body. Log 26. -/
opaque Config.freeIncrement : Nat → Nat → Nat

/-- The count after an overflow of the counter before it where "the count becomes UNPREDICTABLE" (40_common_event_rules.md R126, item
U17), before it is cut to the width of the counter: serial number of the overflow. No body. Log 17. -/
opaque Config.freeCount : Nat → CountWord

end Sys2Proof
end

