-- ==== Sys2Proof/Machine/Occurrence.lean ====
section
/-!
DEFINITION. The common universe of occurrences (40_common_event_rules.md R120): what the environment reports of one happening of the
PE or the system, with the classifications the event rules read. Plain data.
-/

namespace Sys2Proof.Machine

/-- What `Filter[n]` inspects (10_state.md R26, decision D4): the Exception level, the Security state (a label: the source names
none), whether the region is prohibited, and whether the PE is in Debug state. -/
structure Ctx where
  el : Nat := 0
  security : Nat := 0
  prohibited : Bool := false
  debug : Bool := false
  deriving DecidableEq, Repr

/-- The classifications of an occurrence that the clauses of the event rules read. -/
inductive Fact where
  /-- It is an access or write-back that results from a cache maintenance instruction or operation. -/
  | cacheMaintenance
  /-- It is an access that only updates the cache status information for a cache entry without accessing its content. -/
  | statusOnly
  /-- It is an access due to a prefetch instruction. -/
  | byPrefetchInstruction
  /-- It is an access due to a hardware prefetcher. -/
  | byHardwarePrefetcher
  /-- It is a GCS data read operation or GCS data write operation. -/
  | gcsDataAccess
  /-- It is a miss satisfied by the refill of a previous miss, causing no new refill. -/
  | previousMiss
  /-- It is a miss that does not generate a refill, such as a write through the cache. -/
  | missWithoutRefill
  /-- It is an access due to a TLB maintenance instruction. -/
  | tlbMaintenance
  /-- It is a Translation fault because the applicable TCR_ELx.EPDy bit is 1 (10_state.md R41). Where the occurrence is an instruction, this
and the three facts that follow are of any of its accesses. Log 69. -/
  | faultEpd
  /-- It is an unprivileged access that generates a Translation fault because the applicable TCR_ELx.E0PDy bit is 1 (R41). -/
  | faultE0pd
  /-- It is a non-fault access that fails because the applicable TCR_ELx.NFDy bit is 1 (R41). -/
  | faultNfd
  /-- It is a Translation fault for any other reason. -/
  | faultOther
  /-- It is a walk whose result is not allocated into the TLB for a reason other than a Translation fault. -/
  | walkNotAllocated
  /-- It is an update of an existing TLB entry involving at least one translation table walk access. -/
  | updatesExistingEntry
  /-- It is the report of the PE being snooped, not of the PE generating the snoop. -/
  | snoopedSide
  /-- It is a hit by a demand access that is not the first one. -/
  | laterHit
  /-- It is the event was already generated for this cache line and the line is still in the cache. -/
  | lineAlreadyReported
  /-- It is a Tag Checked access made when Tag Check Faults are configured to be ignored by SCTLR_ELx.TCF or TCF0 (10_state.md R42). -/
  | tagCheckFaultsIgnored
  /-- It is additional latency that is unlikely to be significantly performance-impacting. -/
  | lowImpact
  /-- It is a scenario by which the implementation extends an _LMISS event (40_common_event_rules.md R134). -/
  | lmissExtension
  /-- It is a MOVPRFX instruction. -/
  | movprfx
  /-- It is a Store-Exclusive instruction that fails. -/
  | storeExclusiveFailed
  /-- It is an exception return instruction whose execution is CONSTRAINED UNPREDICTABLE (U4 to U7). -/
  | excReturnUnpredictable
  /-- It is an exception return instruction that sets PSTATE.IL and does not generate an exception return. -/
  | excReturnIllegal
  /-- It is a register write followed by another to the same register with no Context synchronization event between (70_reset_and_hazards.md R1554). -/
  | followedWithoutCse
  /-- It is a BRK or BKPT instruction. -/
  | breakpointInstruction
  /-- It is an UNDEFINED instruction. -/
  | undefinedInstruction
  /-- It is an exception-generating instruction, SVC, HVC or SMC. -/
  | exceptionGenerating
  /-- It is a Context synchronization barrier instruction, ISB. -/
  | contextSynchronization
  /-- It is an unconditional direct branch instruction. -/
  | unconditionalDirect
  /-- It is an exception return instruction. -/
  | exceptionReturn
  /-- It is a Software change of the PC that is taken. -/
  | branchTaken
  /-- It is an access that would generate an SP alignment fault and no Alignment fault Data Abort when both checks are enabled. -/
  | spAlignmentOnly
  /-- It is an access that generates an exception. -/
  | accessGeneratesException
  /-- It is an exception that is Taken locally (00_scope.md R12). -/
  | takenLocally
  /-- It is an SMC instruction that generates another exception (a Trap or Undefined Instruction exception). -/
  | otherException
  /-- It is an HVC instruction that is UNDEFINED. -/
  | hvcUndefined
  /-- It is a scalar load or store to SIMD&FP registers other than those SIMD_INST_SPEC lists. -/
  | otherScalarLoadStore
  /-- It is an Advanced SIMD scalar instruction. -/
  | aseScalar
  /-- It is an Advanced SIMD Cryptographic instruction. -/
  | aseCryptographic
  /-- It is an Advanced SIMD PMULL or PMULL2 (1Q variants) or VMULL (P64 variant) instruction. -/
  | asePmullLong
  /-- It is an SVE PMULLB or PMULLT (Q variants) instruction. -/
  | svePmullLong
  /-- It is an instruction of the SVE2 Crypto Extensions. -/
  | sve2Cryptographic
  /-- It is an integer data-processing instruction. -/
  | integerDataProcessing
  /-- It is a scalar floating-point data-processing instruction. -/
  | scalarFloatingPoint
  /-- It is a SIMD floating-point instruction. -/
  | simdFloatingPoint
  /-- It is a load or store instruction. -/
  | loadOrStore
  /-- It is a non-SIMD SVE instruction. -/
  | nonSimdSve
  /-- It is a non-SIMD SME instruction. -/
  | nonSimdSme
  /-- It is a non-SIMD data-processing operation. -/
  | nonSimdDataProcessing
  /-- It is an instruction that operates on the ZA or ZT registers. -/
  | operatesOnZaOrZt
  /-- It is an Advanced SIMD instruction. -/
  | aseInstruction
  /-- It is an SVE instruction. -/
  | sveInstruction
  /-- It is an SME instruction. -/
  | smeInstruction
  /-- It is a Branch record not captured because it is removed by filtering. -/
  | recordRemoved
  /-- It is a Branch record injected by a BRB INJ instruction. -/
  | recordInjected
  /-- It is a Branch record for an operation after the one whose count caused a BRBE freeze event. -/
  | recordAfterFreeze
  /-- It is an A32 opcode with bits [31:29] not equal to 0b111. -/
  | a32Conditional
  /-- It is a T32 instruction executed in an IT block. -/
  | inItBlock
  /-- It is the last instruction in an IT block. -/
  | lastInItBlock
  /-- It is a T32 branch encoding B{<c>} or B{<c>}.W where <c> is omitted or AL. -/
  | alwaysCondition
  /-- It is a branch that the dynamic branch prediction logic does not predict. -/
  | notDynamicallyPredicted
  /-- It is a cycle whose clock is stopped by a WFI or WFE instruction (60_exceptions.md R1524). -/
  | clocksStopped
  /-- It is an Instruction memory access. -/
  | instructionAccess
  /-- It is a Data memory access. -/
  | dataAccess
  /-- It is a translation table walk. -/
  | translationTableWalk
  /-- It is a write-back from a cache. -/
  | writeBackAccess
  /-- It is the refilling of a cache. -/
  | refillAccess
  /-- It is a transfer of a dirty cache line made as a result of a coherency request. -/
  | coherencyTransfer
  /-- It is the invalidation of a cache line without any write-back. -/
  | invalidationOnly
  /-- It is a write that writes through the cache. -/
  | writeThrough
  /-- It is a transfer of data to satisfy a refill of another cache. -/
  | refillOfOtherCache
  /-- It is a write of a whole cache line that is not the result of an eviction (40_common_event_rules.md R137). -/
  | wholeLineWrite
  /-- It is the transfer of a dirty line to another PE that is not also written back. -/
  | transferWithoutWriteBack
  /-- It is an invalidation because a cache refill of the same cache invalidates a line. -/
  | refillInvalidates
  /-- It is a locally-executed cache maintenance instruction that operates by set/way. -/
  | setWayMaintenance
  /-- It is an operation that uses the bus but does not explicitly transfer data. -/
  | noDataTransfer
  /-- It is an error as defined in the architecture, such as an MMU fault. -/
  | architecturalError
  /-- It is an access that causes a snoop into a different socket and neither returns data from it nor passes data to it. -/
  | remoteSnoopOnly
  /-- It is an access to external memory attached to this device of a type that may be classified as remote (U147). -/
  | secondaryMemory
  /-- It is an access to external memory due to a prefetch to a cache. -/
  | prefetchToCache
  /-- It is an operation completed by a cache above the Last level cache. -/
  | completedAbove
  /-- It is a conditional instruction that fails the condition code check. -/
  | failsConditionCode
  /-- It is a Software change of the PC that is not taken. -/
  | branchNotTaken
  /-- It is the CP15DSB instruction. -/
  | cp15Dsb
  /-- It is the implied barrier operation of a load/store with release consistency semantics. -/
  | impliedBarrier
  /-- Profiling is disabled. -/
  | profilingDisabled
  /-- It is a sample removed by filtering. -/
  | sampleRemoved
  /-- The sample type filter constraint controls are all zero. -/
  | typeFilterZero
  /-- It is a cycle in which a non-cacheable data access is in progress. -/
  | nonCacheableInProgress
  /-- It is a data movement instruction which moves data without carrying out any operation on it. -/
  | dataMovement
  /-- It is a conditional select instruction. -/
  | conditionalSelect
  /-- It is a floating-point conversion instruction. -/
  | fpConversion
  /-- The instruction sets PSTATE.N to 0. -/
  | setsNToZero
  /-- The instruction sets PSTATE.N to 1. -/
  | setsNToOne
  /-- The instruction sets PSTATE.C to 1. -/
  | setsCToOne
  /-- The instruction sets PSTATE.V to 0. -/
  | setsVToZero
  /-- It is an instruction with at least one Governing predicate operand that determines the Active elements. -/
  | governed
  /-- It is a data-processing operation with a single Governing predicate operand that writes no Z vector destination under it. -/
  | governedWithoutZWrite
  /-- All elements in the Governing predicate or predicates are Active. -/
  | allActive
  /-- All elements in the Governing predicate or predicates are Inactive. -/
  | allInactive
  /-- It is an SME load or store of the ZA or ZT registers. -/
  | zaOrZtLoadStore
  /-- It is a DC ZVA or DC GZVA instruction. -/
  | dcZva
  /-- It is an SVE or SME vector load or store instruction. -/
  | scalableVectorLoadStore
  /-- It is an SVE load and replicate instruction. -/
  | loadAndReplicate
  /-- It is a tag load or tag store. -/
  | tagLoadStore
  /-- The sample collides with the previous sample. -/
  | sampleCollides
  /-- It is an error of a cache, a tightly-coupled memory or a TLB array closely coupled to this PE. -/
  | localArray
  /-- It is a cycle in which a non-cacheable instruction fetch is in progress. -/
  | nonCacheableFetch
  /-- It is a PMU snapshot Capture event that was not successful (PMSSCR_EL1.NC is 1). -/
  | captureFailed
  /-- It is a PE instruction prefetch as part of instruction pipelining. -/
  | peInstructionPrefetch
  /-- The walk of stage 1 ends at a Block descriptor. -/
  | stage1Block
  /-- A second stage of translation is used and its walk ends at a Block descriptor. -/
  | stage2Block
  /-- The walk of stage 1 ends at a Page descriptor. -/
  | stage1Page
  /-- A second stage of translation is used and its walk ends at a Page descriptor. -/
  | stage2Page
  /-- It is a demand instruction miss in the second level of instruction or unified cache. -/
  | instructionMissL2
  /-- It is a demand instruction miss in the last level of instruction cache within the PE clock domain. -/
  | instructionMissLast
  /-- It is a demand data miss in the second level of data or unified cache. -/
  | dataMissL2
  /-- It is a demand data miss in the last level of data or unified cache within the PE clock domain. -/
  | dataMissLast
  /-- It is a cycle in which PSTATE.ZA is 1. -/
  | pstateZa
  /-- It is a Compare and Swap operation that updates the location accessed. -/
  | locationUpdated
  deriving DecidableEq, Repr

/-- The System register names that CID_WRITE_RETIRED and TTBR_WRITE_RETIRED name (10_state.md R38, R39). -/
inductive SysReg where
  | contextidrEl1 | contextidr | contextidrEl2 | contextidrEl12
  | ttbr0El1 | ttbr1El1 | ttbr0 | ttbr1 | ttbr0El2 | ttbr1El2 | ttbr0El12 | ttbr1El12 | ttbr0El3
  | vttbrEl2 | httbr | vttbr
  deriving DecidableEq, Repr

/-- The instruction that writes a System register. -/
inductive WriteVia where
  | msr | mcr | mcrr
  deriving DecidableEq, Repr

/-- The kinds of load and store whose increment LDST_FIXED_OPS_SPEC (0x80CB) and LDST_FIXED_BYTES_SPEC (0x80DB) list. -/
inductive LdStKind where
  /-- Load or store of a single register. -/
  | single
  /-- Load or store of a pair of registers. -/
  | pair
  /-- AArch32 load or store multiple registers. -/
  | multiple
  /-- Atomic store: updates memory without returning a value to a register. -/
  | atomicStore
  /-- Atomic load: updates memory, returning a value to a register. -/
  | atomicLoad
  /-- Compare and swap of a single register. -/
  | compareAndSwap
  /-- Compare and swap of a pair of registers. -/
  | compareAndSwapPair
  /-- Swap. -/
  | swap
  /-- SVE or Advanced SIMD LD1R. -/
  | ld1r
  /-- SVE LD1RQ. -/
  | ld1rq
  /-- SVE LD1RO. -/
  | ld1ro
  /-- Advanced SIMD LD[1-4] and ST[1-4]. -/
  | aseStructure
  /-- DC ZVA and DC GZVA. -/
  | dcZva
  /-- LDR (table) and STR (table). -/
  | table
  /-- LD64B and ST64B. -/
  | block64
  /-- Any other: the number of operations and bytes the instruction specifies. -/
  | other
  deriving DecidableEq, Repr

/-- What the increment formulas read of a load or store (40_common_event_rules.md R123; 20_memory.md R73). -/
structure LdSt where
  kind : LdStKind := .other
  /-- CSIZE, in bits. -/
  csize : Nat := 0
  /-- MSIZE, in bits. -/
  msize : Nat := 0
  /-- Registers transferred. -/
  regs : Nat := 0
  /-- Elements transferred per vector. -/
  elems : Nat := 0
  /-- Bytes transferred per register. -/
  bytesPerReg : Nat := 0
  /-- Transfers made per register. -/
  transfers : Nat := 1
  /-- Operations specified by an instruction of kind `other`. -/
  specified : Nat := 0
  deriving DecidableEq, Repr

/-- A Slot in a cycle: at most one instruction or operation (STALL_SLOT 0x003F, R321). -/
structure Slot where
  /-- The PE whose instruction or operation occupies the Slot, that is, is sent for execution on it. -/
  occupant : Option Nat := none
  /-- The PEs that have an instruction or operation available on the Slot from the frontend. -/
  available : List Nat := []
  /-- The PEs whose instructions or operations the backend cannot accept on the Slot. -/
  blocked : List Nat := []
  deriving DecidableEq, Repr

/-- Transactions of an event in progress in a Processor cycle (40_common_event_rules.md R123, class percyc). -/
structure Progress where
  event : Instr
  pe : Option Nat
  owners : List Nat := []
  count : Nat
  deriving DecidableEq, Repr

/-- The PMU counter an overflow is of (40_common_event_rules.md R127). -/
inductive OverflowSource where
  | counter (p n : Nat)
  | cycleCounter (p : Nat)
  | instructionCounter (p : Nat)
  deriving DecidableEq, Repr

/-- One occurrence. `supplied` is the environment's `Occ`: the events whose own prose condition it meets. -/
structure Occurrence where
  /-- pe(o): the PE it is Attributable to; `none` is Unattributable (40_common_event_rules.md R129 (a)). -/
  pe : Option Nat := none
  /-- The PEs at whose cache, TLB or bus it happens. -/
  owners : List Nat := []
  ctx : Ctx := {}
  supplied : EventSet := .only []
  /-- What is supplied for the counters of one PE only. -/
  suppliedAt : List (Nat × EventSet) := []
  facts : List Fact := []
  /-- The classifications that hold for one PE only, such as the misses of each PE in a Processor cycle. -/
  factsAt : List (Nat × List Fact) := []
  isa : Isa := .a64
  /-- The listed names the instruction falls under. -/
  forms : List Form := []
  /-- Label of the class of operation, for the sets of operations an implementation counts in AArch32 state. -/
  opClass : Nat := 0
  /-- Label of the component accessed or signalling. -/
  component : Nat := 0
  /-- Label of the route the data has traveled, for DISTANCE, CACHE_TYPES and MEM_TYPES. -/
  route : Nat := 0
  /-- Label of the page size a walk yields. -/
  pageSize : Nat := 0
  regWrite : Option (SysReg × WriteVia) := none
  /-- Arithmetic operations carried out (class v of R123). -/
  ops : Nat := 1
  /-- VL, in bits (00_scope.md R6). -/
  vl : Nat := 128
  ldst : LdSt := {}
  /-- In a Processor cycle: the PEs that are active. -/
  active : List Nat := []
  /-- In a Processor cycle: the PEs for which the backend is unable to accept any instruction or operation. -/
  blocked : List Nat := []
  slots : List Slot := []
  progress : List Progress := []
  /-- Of the overflows this occurrence causes, also through CHAIN, those of these counters have export_allowed false
  (40_common_event_rules.md R128): one answer for each overflow, since an occurrence overflows a counter at most once. -/
  withheld : List OverflowSource := []
  deriving DecidableEq, Repr

end Sys2Proof.Machine
end

