-- ==== Sys2Proof/Decode.lean ====
section
/-!
DEFINITION. Decoding an event number (30_encoding.md R90, R91, R103), total on every number, and the encoder. The table is
that of spec/opcode_table.json, by the high byte of the number.
-/

namespace Sys2Proof

/-- The event number of an event (30_encoding.md R104). -/
def encode : Instr → EvtWord
  | .swIncr => 0x0000#16
  | .ldRetired => 0x0006#16
  | .stRetired => 0x0007#16
  | .instRetired => 0x0008#16
  | .excTaken => 0x0009#16
  | .excReturn => 0x000A#16
  | .cidWriteRetired => 0x000B#16
  | .pcWriteRetired => 0x000C#16
  | .brImmedRetired => 0x000D#16
  | .brReturnRetired => 0x000E#16
  | .unalignedLdstRetired => 0x000F#16
  | .ttbrWriteRetired => 0x001C#16
  | .chain => 0x001E#16
  | .brRetired => 0x0021#16
  | .excUndef => 0x0081#16
  | .excSvc => 0x0082#16
  | .excPabort => 0x0083#16
  | .excDabort => 0x0084#16
  | .excIrq => 0x0086#16
  | .excFiq => 0x0087#16
  | .excSmc => 0x0088#16
  | .excHvc => 0x008A#16
  | .excTrapPabort => 0x008B#16
  | .excTrapDabort => 0x008C#16
  | .excTrapOther => 0x008D#16
  | .excTrapIrq => 0x008E#16
  | .excTrapFiq => 0x008F#16
  | .trbWrap => 0x400C#16
  | .pmuOvfs => 0x400D#16
  | .trbTrig => 0x400E#16
  | .pmuHovfs => 0x400F#16
  | .simdInstRetired => 0x8000#16
  | .aseInstRetired => 0x8001#16
  | .sveInstRetired => 0x8002#16
  | .aseSveInstRetired => 0x8003#16
  | .brSkipRetired => 0x8107#16
  | .brImmedTakenRetired => 0x8108#16
  | .brImmedSkipRetired => 0x8109#16
  | .brIndTakenRetired => 0x810A#16
  | .brIndSkipRetired => 0x810B#16
  | .brIndnrTakenRetired => 0x810C#16
  | .brIndnrSkipRetired => 0x810D#16
  | .brReturnAnyRetired => 0x810E#16
  | .brReturnSkipRetired => 0x810F#16
  | .brIndRetired => 0x811D#16
  | .brIndnrRetired => 0x811E#16
  | .brbFiltrate => 0x811F#16
  | .brnlIndnrTakenRetired => 0x8179#16
  | .blTakenRetired => 0x817A#16
  | .brnlTakenRetired => 0x817B#16
  | .blIndTakenRetired => 0x817C#16
  | .brnlIndTakenRetired => 0x817D#16
  | .blImmedTakenRetired => 0x817E#16
  | .brnlImmedTakenRetired => 0x817F#16
  | .brUncondRetired => 0x8180#16
  | .brCondRetired => 0x8181#16
  | .brCondTakenRetired => 0x8182#16
  | .brHintCondRetired => 0x8183#16
  | .aseSveRetired => 0x82A4#16
  | .ldAnyRetired => 0x82A8#16
  | .stAnyRetired => 0x82A9#16
  | .ldstAnyRetired => 0x82AA#16
  | .dpRetired => 0x82AB#16
  | .aseRetired => 0x82AC#16
  | .vfpRetired => 0x82AD#16
  | .sveRetired => 0x82AE#16
  | .cryptoRetired => 0x82AF#16
  | .prfRetired => 0x82B3#16
  | .smeRetired => 0x8358#16
  | .seRetired => 0x8359#16
  | .smeInstRetired => 0x835A#16
  | .seInstRetired => 0x835B#16
  | .l1iCacheRefill => 0x0001#16
  | .l1iTlbRefill => 0x0002#16
  | .l1dCacheRefill => 0x0003#16
  | .l1dCache => 0x0004#16
  | .l1dTlbRefill => 0x0005#16
  | .brMisPred => 0x0010#16
  | .cpuCycles => 0x0011#16
  | .brPred => 0x0012#16
  | .memAccess => 0x0013#16
  | .l1iCache => 0x0014#16
  | .l1dCacheWb => 0x0015#16
  | .l2dCache => 0x0016#16
  | .l2dCacheRefill => 0x0017#16
  | .l2dCacheWb => 0x0018#16
  | .busAccess => 0x0019#16
  | .memoryError => 0x001A#16
  | .instSpec => 0x001B#16
  | .busCycles => 0x001D#16
  | .l1dCacheAllocate => 0x001F#16
  | .l2dCacheAllocate => 0x0020#16
  | .brMisPredRetired => 0x0022#16
  | .stallFrontend => 0x0023#16
  | .stallBackend => 0x0024#16
  | .l1dTlb => 0x0025#16
  | .l1iTlb => 0x0026#16
  | .l2iCache => 0x0027#16
  | .l2iCacheRefill => 0x0028#16
  | .l3dCacheAllocate => 0x0029#16
  | .l3dCacheRefill => 0x002A#16
  | .l3dCache => 0x002B#16
  | .l3dCacheWb => 0x002C#16
  | .l2dTlbRefill => 0x002D#16
  | .l2iTlbRefill => 0x002E#16
  | .l2dTlb => 0x002F#16
  | .l2iTlb => 0x0030#16
  | .remoteAccess => 0x0031#16
  | .llCache => 0x0032#16
  | .llCacheMiss => 0x0033#16
  | .dtlbWalk => 0x0034#16
  | .itlbWalk => 0x0035#16
  | .llCacheRd => 0x0036#16
  | .llCacheMissRd => 0x0037#16
  | .remoteAccessRd => 0x0038#16
  | .l1dCacheLmissRd => 0x0039#16
  | .opRetired => 0x003A#16
  | .opSpec => 0x003B#16
  | .stall => 0x003C#16
  | .stallSlotBackend => 0x003D#16
  | .stallSlotFrontend => 0x003E#16
  | .stallSlot => 0x003F#16
  | .l1dCacheRd => 0x0040#16
  | .l1dCacheWr => 0x0041#16
  | .l1dCacheRefillRd => 0x0042#16
  | .l1dCacheRefillWr => 0x0043#16
  | .l1dCacheRefillInner => 0x0044#16
  | .l1dCacheRefillOuter => 0x0045#16
  | .l1dCacheWbVictim => 0x0046#16
  | .l1dCacheWbClean => 0x0047#16
  | .l1dCacheInval => 0x0048#16
  | .l1dTlbRefillRd => 0x004C#16
  | .l1dTlbRefillWr => 0x004D#16
  | .l1dTlbRd => 0x004E#16
  | .l1dTlbWr => 0x004F#16
  | .l2dCacheRd => 0x0050#16
  | .l2dCacheWr => 0x0051#16
  | .l2dCacheRefillRd => 0x0052#16
  | .l2dCacheRefillWr => 0x0053#16
  | .l2dCacheWbVictim => 0x0056#16
  | .l2dCacheWbClean => 0x0057#16
  | .l2dCacheInval => 0x0058#16
  | .l2dTlbRefillRd => 0x005C#16
  | .l2dTlbRefillWr => 0x005D#16
  | .l2dTlbRd => 0x005E#16
  | .l2dTlbWr => 0x005F#16
  | .busAccessRd => 0x0060#16
  | .busAccessWr => 0x0061#16
  | .busAccessShared => 0x0062#16
  | .busAccessNotShared => 0x0063#16
  | .busAccessNormal => 0x0064#16
  | .busAccessPeriph => 0x0065#16
  | .memAccessRd => 0x0066#16
  | .memAccessWr => 0x0067#16
  | .unalignedLdSpec => 0x0068#16
  | .unalignedStSpec => 0x0069#16
  | .unalignedLdstSpec => 0x006A#16
  | .ldrexSpec => 0x006C#16
  | .strexPassSpec => 0x006D#16
  | .strexFailSpec => 0x006E#16
  | .strexSpec => 0x006F#16
  | .ldSpec => 0x0070#16
  | .stSpec => 0x0071#16
  | .ldstSpec => 0x0072#16
  | .dpSpec => 0x0073#16
  | .aseSpec => 0x0074#16
  | .vfpSpec => 0x0075#16
  | .pcWriteSpec => 0x0076#16
  | .cryptoSpec => 0x0077#16
  | .brImmedSpec => 0x0078#16
  | .brReturnSpec => 0x0079#16
  | .brIndirectSpec => 0x007A#16
  | .isbSpec => 0x007C#16
  | .dsbSpec => 0x007D#16
  | .dmbSpec => 0x007E#16
  | .csdbSpec => 0x007F#16
  | .rcLdSpec => 0x0090#16
  | .rcStSpec => 0x0091#16
  | .l3dCacheHitWrFextProp => 0x0092#16
  | .l3dCacheRd => 0x00A0#16
  | .l3dCacheWr => 0x00A1#16
  | .l3dCacheRefillRd => 0x00A2#16
  | .l3dCacheRefillWr => 0x00A3#16
  | .l3dCacheWbVictim => 0x00A6#16
  | .l3dCacheWbClean => 0x00A7#16
  | .l3dCacheInval => 0x00A8#16
  | .l2dCacheHitRdFextProp => 0x00A9#16
  | .l2dCacheHitWrFextProp => 0x00AA#16
  | .l2dCacheHitRwFextProp => 0x00AB#16
  | .l3dCacheExtProp => 0x00AC#16
  | .l3dCacheExtPropPrfmIr => 0x00AD#16
  | .l3dCacheHitRwFextProp => 0x00AE#16
  | .l3dCacheHitRdFextProp => 0x00AF#16
  | .stshhSpec => 0x00B0#16
  | .stshhKeepSpec => 0x00B1#16
  | .stshhStrmSpec => 0x00B2#16
  | .prfmIrSpec => 0x00B3#16
  | .memAccessWrStshh => 0x00B4#16
  | .memAccessWrStshhKeep => 0x00B5#16
  | .memAccessWrStshhStrm => 0x00B6#16
  | .memAccessWrStshhKeepNear => 0x00B7#16
  | .memAccessWrStshhKeepFar => 0x00B8#16
  | .l1dCacheExtProp => 0x00B9#16
  | .l1dCacheExtPropPrfmIr => 0x00BA#16
  | .l1dCacheHitRdFextProp => 0x00BB#16
  | .l1dCacheHitWrFextProp => 0x00BC#16
  | .l1dCacheHitRwFextProp => 0x00BD#16
  | .l2dCacheExtProp => 0x00BE#16
  | .l2dCacheExtPropPrfmIr => 0x00BF#16
  | .samplePop => 0x4000#16
  | .sampleFeed => 0x4001#16
  | .sampleFiltrate => 0x4002#16
  | .sampleCollision => 0x4003#16
  | .cntCycles => 0x4004#16
  | .stallBackendMem => 0x4005#16
  | .l1iCacheLmiss => 0x4006#16
  | .l2dCacheLmissRd => 0x4009#16
  | .l2iCacheLmiss => 0x400A#16
  | .l3dCacheLmissRd => 0x400B#16
  | .trcextout0 => 0x4010#16
  | .trcextout1 => 0x4011#16
  | .trcextout2 => 0x4012#16
  | .trcextout3 => 0x4013#16
  | .ctiTrigout4 => 0x4018#16
  | .ctiTrigout5 => 0x4019#16
  | .ctiTrigout6 => 0x401A#16
  | .ctiTrigout7 => 0x401B#16
  | .ldstAlignLat => 0x4020#16
  | .ldAlignLat => 0x4021#16
  | .stAlignLat => 0x4022#16
  | .memAccessChecked => 0x4024#16
  | .memAccessCheckedRd => 0x4025#16
  | .memAccessCheckedWr => 0x4026#16
  | .simdInstSpec => 0x8004#16
  | .aseInstSpec => 0x8005#16
  | .sveInstSpec => 0x8006#16
  | .aseSveInstSpec => 0x8007#16
  | .uopSpec => 0x8008#16
  | .aseUopSpec => 0x8009#16
  | .sveUopSpec => 0x800A#16
  | .aseSveUopSpec => 0x800B#16
  | .simdUopSpec => 0x800C#16
  | .sveMathSpec => 0x800E#16
  | .fpSpec => 0x8010#16
  | .aseFpSpec => 0x8011#16
  | .sveFpSpec => 0x8012#16
  | .aseSveFpSpec => 0x8013#16
  | .fpHpSpec => 0x8014#16
  | .aseFpHpSpec => 0x8015#16
  | .sveFpHpSpec => 0x8016#16
  | .aseSveFpHpSpec => 0x8017#16
  | .fpSpSpec => 0x8018#16
  | .aseFpSpSpec => 0x8019#16
  | .sveFpSpSpec => 0x801A#16
  | .aseSveFpSpSpec => 0x801B#16
  | .fpDpSpec => 0x801C#16
  | .aseFpDpSpec => 0x801D#16
  | .sveFpDpSpec => 0x801E#16
  | .aseSveFpDpSpec => 0x801F#16
  | .fpDivSpec => 0x8020#16
  | .aseFpDivSpec => 0x8021#16
  | .sveFpDivSpec => 0x8022#16
  | .aseSveFpDivSpec => 0x8023#16
  | .fpSqrtSpec => 0x8024#16
  | .aseFpSqrtSpec => 0x8025#16
  | .sveFpSqrtSpec => 0x8026#16
  | .aseSveFpSqrtSpec => 0x8027#16
  | .fpFmaSpec => 0x8028#16
  | .aseFpFmaSpec => 0x8029#16
  | .sveFpFmaSpec => 0x802A#16
  | .aseSveFpFmaSpec => 0x802B#16
  | .fpMulSpec => 0x802C#16
  | .aseFpMulSpec => 0x802D#16
  | .sveFpMulSpec => 0x802E#16
  | .aseSveFpMulSpec => 0x802F#16
  | .fpAddsubSpec => 0x8030#16
  | .aseFpAddsubSpec => 0x8031#16
  | .sveFpAddsubSpec => 0x8032#16
  | .aseSveFpAddsubSpec => 0x8033#16
  | .fpRecpeSpec => 0x8034#16
  | .aseFpRecpeSpec => 0x8035#16
  | .sveFpRecpeSpec => 0x8036#16
  | .aseSveFpRecpeSpec => 0x8037#16
  | .fpCvtSpec => 0x8038#16
  | .aseFpCvtSpec => 0x8039#16
  | .sveFpCvtSpec => 0x803A#16
  | .aseSveFpCvtSpec => 0x803B#16
  | .sveFpAreduceSpec => 0x803C#16
  | .aseFpPreduceSpec => 0x803D#16
  | .sveFpVreduceSpec => 0x803E#16
  | .aseSveFpVreduceSpec => 0x803F#16
  | .intSpec => 0x8040#16
  | .aseIntSpec => 0x8041#16
  | .sveIntSpec => 0x8042#16
  | .aseSveIntSpec => 0x8043#16
  | .intDivSpec => 0x8044#16
  | .intDiv64Spec => 0x8045#16
  | .sveIntDivSpec => 0x8046#16
  | .sveIntDiv64Spec => 0x8047#16
  | .intMulSpec => 0x8048#16
  | .aseIntMulSpec => 0x8049#16
  | .sveIntMulSpec => 0x804A#16
  | .aseSveIntMulSpec => 0x804B#16
  | .intMul64Spec => 0x804C#16
  | .sveIntMul64Spec => 0x804D#16
  | .intMulh64Spec => 0x804E#16
  | .sveIntMulh64Spec => 0x804F#16
  | .aseFpBf16Spec => 0x8051#16
  | .sveFpBf16Spec => 0x8052#16
  | .aseSveFpBf16Spec => 0x8053#16
  | .fpBf16Spec => 0x8054#16
  | .sveSpec => 0x8056#16
  | .aseSveSpec => 0x8057#16
  | .nonfpSpec => 0x8058#16
  | .aseNonfpSpec => 0x8059#16
  | .sveNonfpSpec => 0x805A#16
  | .aseSveNonfpSpec => 0x805B#16
  | .aseIntVreduceSpec => 0x805D#16
  | .sveIntVreduceSpec => 0x805E#16
  | .aseSveIntVreduceSpec => 0x805F#16
  | .svePermSpec => 0x8060#16
  | .svePermIgranuleSpec => 0x8061#16
  | .svePermXgranuleSpec => 0x8062#16
  | .svePermVariableSpec => 0x8063#16
  | .sveXpipeSpec => 0x8064#16
  | .sveXpipeZ2rSpec => 0x8065#16
  | .sveXpipeR2zSpec => 0x8066#16
  | .svePgenNvecSpec => 0x8067#16
  | .svePgenSpec => 0x8068#16
  | .svePgenFlgSpec => 0x8069#16
  | .svePgenCmpSpec => 0x806A#16
  | .svePgenFcmSpec => 0x806B#16
  | .svePgenLogicSpec => 0x806C#16
  | .svePpermSpec => 0x806D#16
  | .svePscanSpec => 0x806E#16
  | .svePcntSpec => 0x806F#16
  | .svePloopWhileSpec => 0x8070#16
  | .svePloopTestSpec => 0x8071#16
  | .svePloopEltsSpec => 0x8072#16
  | .svePloopTermSpec => 0x8073#16
  | .svePredSpec => 0x8074#16
  | .svePredEmptySpec => 0x8075#16
  | .svePredFullSpec => 0x8076#16
  | .svePredPartialSpec => 0x8077#16
  | .sveUnpredSpec => 0x8078#16
  | .svePredNotFullSpec => 0x8079#16
  | .sveMovprfxSpec => 0x807C#16
  | .sveMovprfxZSpec => 0x807D#16
  | .sveMovprfxMSpec => 0x807E#16
  | .sveMovprfxUSpec => 0x807F#16
  | .sveLdstSpec => 0x8080#16
  | .sveLdSpec => 0x8081#16
  | .sveStSpec => 0x8082#16
  | .svePrfSpec => 0x8083#16
  | .aseSveLdstSpec => 0x8084#16
  | .aseSveLdSpec => 0x8085#16
  | .aseSveStSpec => 0x8086#16
  | .prfSpec => 0x8087#16
  | .baseLdstRegSpec => 0x8088#16
  | .baseLdRegSpec => 0x8089#16
  | .baseStRegSpec => 0x808A#16
  | .basePrfSpec => 0x808B#16
  | .fpaseLdstRegSpec => 0x808C#16
  | .fpaseLdRegSpec => 0x808D#16
  | .fpaseStRegSpec => 0x808E#16
  | .sveLdstRegSpec => 0x8090#16
  | .sveLdrRegSpec => 0x8091#16
  | .sveStrRegSpec => 0x8092#16
  | .sveLdstPregSpec => 0x8094#16
  | .sveLdrPregSpec => 0x8095#16
  | .sveStrPregSpec => 0x8096#16
  | .sveLdstZregSpec => 0x8098#16
  | .sveLdrZregSpec => 0x8099#16
  | .sveStrZregSpec => 0x809A#16
  | .sveLdstContigSpec => 0x809C#16
  | .sveLdContigSpec => 0x809D#16
  | .sveStContigSpec => 0x809E#16
  | .svePrfContigSpec => 0x809F#16
  | .sveLdstntContigSpec => 0x80A0#16
  | .sveLdntContigSpec => 0x80A1#16
  | .sveStntContigSpec => 0x80A2#16
  | .aseSveLdstMultiSpec => 0x80A4#16
  | .aseSveLdMultiSpec => 0x80A5#16
  | .aseSveStMultiSpec => 0x80A6#16
  | .sveLdstMultiSpec => 0x80A8#16
  | .sveLdMultiSpec => 0x80A9#16
  | .sveStMultiSpec => 0x80AA#16
  | .sveLdstNoncontigSpec => 0x80AC#16
  | .sveLdGatherSpec => 0x80AD#16
  | .sveStScatterSpec => 0x80AE#16
  | .svePrfGatherSpec => 0x80AF#16
  | .sveLdst64NoncontigSpec => 0x80B0#16
  | .sveLd64GatherSpec => 0x80B1#16
  | .sveSt64ScatterSpec => 0x80B2#16
  | .svePrf64GatherSpec => 0x80B3#16
  | .aseSveUnalignedLdstSpec => 0x80B4#16
  | .aseSveUnalignedLdSpec => 0x80B5#16
  | .aseSveUnalignedStSpec => 0x80B6#16
  | .aseSveUnalignedContigLdstSpec => 0x80B8#16
  | .aseSveUnalignedContigLdSpec => 0x80B9#16
  | .aseSveUnalignedContigStSpec => 0x80BA#16
  | .sveLdffSpec => 0x80BC#16
  | .sveLdffFaultSpec => 0x80BD#16
  | .fpScaleOpsSpec => 0x80C0#16
  | .fpFixedOpsSpec => 0x80C1#16
  | .fpHpScaleOpsSpec => 0x80C2#16
  | .fpHpFixedOpsSpec => 0x80C3#16
  | .fpSpScaleOpsSpec => 0x80C4#16
  | .fpSpFixedOpsSpec => 0x80C5#16
  | .fpDpScaleOpsSpec => 0x80C6#16
  | .fpDpFixedOpsSpec => 0x80C7#16
  | .intScaleOpsSpec => 0x80C8#16
  | .intFixedOpsSpec => 0x80C9#16
  | .ldstScaleOpsSpec => 0x80CA#16
  | .ldstFixedOpsSpec => 0x80CB#16
  | .ldScaleOpsSpec => 0x80CC#16
  | .ldFixedOpsSpec => 0x80CD#16
  | .stScaleOpsSpec => 0x80CE#16
  | .stFixedOpsSpec => 0x80CF#16
  | .fpScale2OpsSpec => 0x80D0#16
  | .fpHpScale2OpsSpec => 0x80D2#16
  | .fpBf16Scale2OpsSpec => 0x80D3#16
  | .fpSpScale2OpsSpec => 0x80D4#16
  | .fpDpScale2OpsSpec => 0x80D6#16
  | .intScale2OpsSpec => 0x80D8#16
  | .ldstScaleBytesSpec => 0x80DA#16
  | .ldstFixedBytesSpec => 0x80DB#16
  | .ldScaleBytesSpec => 0x80DC#16
  | .ldFixedBytesSpec => 0x80DD#16
  | .stScaleBytesSpec => 0x80DE#16
  | .stFixedBytesSpec => 0x80DF#16
  | .aseInt8Spec => 0x80E1#16
  | .sveInt8Spec => 0x80E2#16
  | .aseSveInt8Spec => 0x80E3#16
  | .aseInt16Spec => 0x80E5#16
  | .sveInt16Spec => 0x80E6#16
  | .aseSveInt16Spec => 0x80E7#16
  | .fpBf16ScaleOpsSpec => 0x80E8#16
  | .aseInt32Spec => 0x80E9#16
  | .sveInt32Spec => 0x80EA#16
  | .aseSveInt32Spec => 0x80EB#16
  | .aseInt64Spec => 0x80ED#16
  | .sveInt64Spec => 0x80EE#16
  | .aseSveInt64Spec => 0x80EF#16
  | .aseFpDotSpec => 0x80F1#16
  | .sveFpDotSpec => 0x80F2#16
  | .aseSveFpDotSpec => 0x80F3#16
  | .aseFpMmlaSpec => 0x80F5#16
  | .sveFpMmlaSpec => 0x80F6#16
  | .aseSveFpMmlaSpec => 0x80F7#16
  | .aseIntDotSpec => 0x80F9#16
  | .sveIntDotSpec => 0x80FA#16
  | .aseSveIntDotSpec => 0x80FB#16
  | .aseIntMmlaSpec => 0x80FD#16
  | .sveIntMmlaSpec => 0x80FE#16
  | .aseSveIntMmlaSpec => 0x80FF#16
  | .brImmedPredRetired => 0x8110#16
  | .brImmedMisPredRetired => 0x8111#16
  | .brIndPredRetired => 0x8112#16
  | .brIndMisPredRetired => 0x8113#16
  | .brReturnPredRetired => 0x8114#16
  | .brReturnMisPredRetired => 0x8115#16
  | .brIndnrPredRetired => 0x8116#16
  | .brIndnrMisPredRetired => 0x8117#16
  | .brTakenPredRetired => 0x8118#16
  | .brTakenMisPredRetired => 0x8119#16
  | .brSkipPredRetired => 0x811A#16
  | .brSkipMisPredRetired => 0x811B#16
  | .brPredRetired => 0x811C#16
  | .instFetchPercyc => 0x8120#16
  | .memAccessRdPercyc => 0x8121#16
  | .sampleFeedDs => 0x8122#16
  | .sampleBufferFull => 0x8123#16
  | .instFetch => 0x8124#16
  | .busReqRdPercyc => 0x8125#16
  | .busReqWrPercyc => 0x8126#16
  | .pmuSnapshot => 0x8127#16
  | .dtlbWalkPercyc => 0x8128#16
  | .itlbWalkPercyc => 0x8129#16
  | .sampleFeedBr => 0x812A#16
  | .sampleFeedLd => 0x812B#16
  | .sampleFeedSt => 0x812C#16
  | .sampleFeedOp => 0x812D#16
  | .sampleFeedEvent => 0x812E#16
  | .sampleFeedLat => 0x812F#16
  | .l1dTlbRw => 0x8130#16
  | .l1iTlbRd => 0x8131#16
  | .l1dTlbPrfm => 0x8132#16
  | .l1iTlbPrfm => 0x8133#16
  | .dtlbHwupd => 0x8134#16
  | .itlbHwupd => 0x8135#16
  | .dtlbStep => 0x8136#16
  | .itlbStep => 0x8137#16
  | .dtlbWalkLarge => 0x8138#16
  | .itlbWalkLarge => 0x8139#16
  | .dtlbWalkSmall => 0x813A#16
  | .itlbWalkSmall => 0x813B#16
  | .dtlbWalkRw => 0x813C#16
  | .itlbWalkRd => 0x813D#16
  | .dtlbWalkPrfm => 0x813E#16
  | .itlbWalkPrfm => 0x813F#16
  | .l1dCacheRw => 0x8140#16
  | .l1iCacheRd => 0x8141#16
  | .l1dCachePrfm => 0x8142#16
  | .l1iCachePrfm => 0x8143#16
  | .l1dCacheMiss => 0x8144#16
  | .l1iCacheHwprf => 0x8145#16
  | .l1dCacheRefillPrfm => 0x8146#16
  | .l1iCacheRefillPrfm => 0x8147#16
  | .l2dCacheRw => 0x8148#16
  | .l2iCacheRd => 0x8149#16
  | .l2dCachePrfm => 0x814A#16
  | .l2iCachePrfm => 0x814B#16
  | .l2dCacheMiss => 0x814C#16
  | .l2iCacheHwprf => 0x814D#16
  | .l2dCacheRefillPrfm => 0x814E#16
  | .l2iCacheRefillPrfm => 0x814F#16
  | .l3dCacheRw => 0x8150#16
  | .l3dCachePrfm => 0x8151#16
  | .l3dCacheMiss => 0x8152#16
  | .l3dCacheRefillPrfm => 0x8153#16
  | .l1dCacheHwprf => 0x8154#16
  | .l2dCacheHwprf => 0x8155#16
  | .l3dCacheHwprf => 0x8156#16
  | .llCacheHwprf => 0x8157#16
  | .stallFrontendMembound => 0x8158#16
  | .stallFrontendL1i => 0x8159#16
  | .stallFrontendL2i => 0x815A#16
  | .stallFrontendMem => 0x815B#16
  | .stallFrontendTlb => 0x815C#16
  | .stallBackendBusySmcu => 0x815D#16
  | .stallBackendBusySmcuUnall => 0x815E#16
  | .stallFrontendCpubound => 0x8160#16
  | .stallFrontendFlow => 0x8161#16
  | .stallFrontendFlush => 0x8162#16
  | .stallFrontendRename => 0x8163#16
  | .stallBackendMembound => 0x8164#16
  | .stallBackendL1d => 0x8165#16
  | .stallBackendL2d => 0x8166#16
  | .stallBackendTlb => 0x8167#16
  | .stallBackendSt => 0x8168#16
  | .stallBackendCpubound => 0x816A#16
  | .stallBackendBusy => 0x816B#16
  | .stallBackendIlock => 0x816C#16
  | .stallBackendRename => 0x816D#16
  | .stallBackendAtomic => 0x816E#16
  | .stallBackendMemcpyset => 0x816F#16
  | .casNearFail => 0x8170#16
  | .casNearPass => 0x8171#16
  | .casNearSpec => 0x8172#16
  | .casFarSpec => 0x8173#16
  | .casSpec => 0x8174#16
  | .lseLdSpec => 0x8175#16
  | .lseStSpec => 0x8176#16
  | .lseLdstSpec => 0x8177#16
  | .remoteAccessWr => 0x8178#16
  | .brHintCondPredRetired => 0x8184#16
  | .brHintCondMisPredRetired => 0x8185#16
  | .uopRetired => 0x8186#16
  | .dtlbWalkBlock => 0x8188#16
  | .itlbWalkBlock => 0x8189#16
  | .dtlbWalkPage => 0x818A#16
  | .itlbWalkPage => 0x818B#16
  | .busReqRd => 0x818D#16
  | .busReqWr => 0x818E#16
  | .busReq => 0x818F#16
  | .isnpHitRd => 0x8190#16
  | .isnpHitNearRd => 0x8191#16
  | .isnpHitFarRd => 0x8192#16
  | .isnpHitRemoteRd => 0x8193#16
  | .dsnpHitRd => 0x8194#16
  | .dsnpHitNearRd => 0x8195#16
  | .dsnpHitFarRd => 0x8196#16
  | .dsnpHitRemoteRd => 0x8197#16
  | .dsnpHitWr => 0x8198#16
  | .dsnpHitNearWr => 0x8199#16
  | .dsnpHitFarWr => 0x819A#16
  | .dsnpHitRemoteWr => 0x819B#16
  | .dsnpHitRw => 0x819C#16
  | .dsnpHitNearRw => 0x819D#16
  | .dsnpHitFarRw => 0x819E#16
  | .dsnpHitRemoteRw => 0x819F#16
  | .dsnpHitPrfm => 0x81A0#16
  | .dsnpHitNearPrfm => 0x81A1#16
  | .dsnpHitFarPrfm => 0x81A2#16
  | .dsnpHitRemotePrfm => 0x81A3#16
  | .dsnpHitHwprf => 0x81A4#16
  | .dsnpHitNearHwprf => 0x81A5#16
  | .dsnpHitFarHwprf => 0x81A6#16
  | .dsnpHitRemoteHwprf => 0x81A7#16
  | .isnpHitPrfm => 0x81A8#16
  | .isnpHitNearPrfm => 0x81A9#16
  | .isnpHitFarPrfm => 0x81AA#16
  | .isnpHitRemotePrfm => 0x81AB#16
  | .isnpHitHwprf => 0x81AC#16
  | .isnpHitNearHwprf => 0x81AD#16
  | .isnpHitFarHwprf => 0x81AE#16
  | .isnpHitRemoteHwprf => 0x81AF#16
  | .isnpHit => 0x81B0#16
  | .isnpHitNear => 0x81B1#16
  | .isnpHitFar => 0x81B2#16
  | .isnpHitRemote => 0x81B3#16
  | .dsnpHit => 0x81B4#16
  | .dsnpHitNear => 0x81B5#16
  | .dsnpHitFar => 0x81B6#16
  | .dsnpHitRemote => 0x81B7#16
  | .l1iCacheRefillHwprf => 0x81B8#16
  | .l2iCacheRefillHwprf => 0x81B9#16
  | .l1dCacheRefillHwprf => 0x81BC#16
  | .l2dCacheRefillHwprf => 0x81BD#16
  | .l3dCacheRefillHwprf => 0x81BE#16
  | .llCacheRefillHwprf => 0x81BF#16
  | .l1iCacheHitRd => 0x81C0#16
  | .l2iCacheHitRd => 0x81C1#16
  | .l1dCacheHitRd => 0x81C4#16
  | .l2dCacheHitRd => 0x81C5#16
  | .l3dCacheHitRd => 0x81C6#16
  | .llCacheHitRd => 0x81C7#16
  | .l1dCacheHitWr => 0x81C8#16
  | .l2dCacheHitWr => 0x81C9#16
  | .l3dCacheHitWr => 0x81CA#16
  | .llCacheHitWr => 0x81CB#16
  | .l1dCacheHitRw => 0x81CC#16
  | .l2dCacheHitRw => 0x81CD#16
  | .l3dCacheHitRw => 0x81CE#16
  | .llCacheHitRw => 0x81CF#16
  | .l1iCacheHitRdFprfm => 0x81D0#16
  | .l2iCacheHitRdFprfm => 0x81D1#16
  | .l1dCacheHitRdFprfm => 0x81D4#16
  | .l2dCacheHitRdFprfm => 0x81D5#16
  | .l3dCacheHitRdFprfm => 0x81D6#16
  | .llCacheHitRdFprfm => 0x81D7#16
  | .l1dCacheHitWrFprfm => 0x81D8#16
  | .l2dCacheHitWrFprfm => 0x81D9#16
  | .l3dCacheHitWrFprfm => 0x81DA#16
  | .llCacheHitWrFprfm => 0x81DB#16
  | .l1dCacheHitRwFprfm => 0x81DC#16
  | .l2dCacheHitRwFprfm => 0x81DD#16
  | .l3dCacheHitRwFprfm => 0x81DE#16
  | .llCacheHitRwFprfm => 0x81DF#16
  | .l1iCacheHitRdFhwprf => 0x81E0#16
  | .l2iCacheHitRdFhwprf => 0x81E1#16
  | .l1dCacheHitRdFhwprf => 0x81E4#16
  | .l2dCacheHitRdFhwprf => 0x81E5#16
  | .l3dCacheHitRdFhwprf => 0x81E6#16
  | .llCacheHitRdFhwprf => 0x81E7#16
  | .l1dCacheHitWrFhwprf => 0x81E8#16
  | .l2dCacheHitWrFhwprf => 0x81E9#16
  | .l3dCacheHitWrFhwprf => 0x81EA#16
  | .llCacheHitWrFhwprf => 0x81EB#16
  | .l1dCacheHitRwFhwprf => 0x81EC#16
  | .l2dCacheHitRwFhwprf => 0x81ED#16
  | .l3dCacheHitRwFhwprf => 0x81EE#16
  | .llCacheHitRwFhwprf => 0x81EF#16
  | .l1iCacheHitRdFprf => 0x81F0#16
  | .l2iCacheHitRdFprf => 0x81F1#16
  | .l1dCacheHitRdFprf => 0x81F4#16
  | .l2dCacheHitRdFprf => 0x81F5#16
  | .l3dCacheHitRdFprf => 0x81F6#16
  | .llCacheHitRdFprf => 0x81F7#16
  | .l1dCacheHitWrFprf => 0x81F8#16
  | .l2dCacheHitWrFprf => 0x81F9#16
  | .l3dCacheHitWrFprf => 0x81FA#16
  | .llCacheHitWrFprf => 0x81FB#16
  | .l1dCacheHitRwFprf => 0x81FC#16
  | .l2dCacheHitRwFprf => 0x81FD#16
  | .l3dCacheHitRwFprf => 0x81FE#16
  | .llCacheHitRwFprf => 0x81FF#16
  | .l1iCacheHit => 0x8200#16
  | .l2iCacheHit => 0x8201#16
  | .l1dCacheHit => 0x8204#16
  | .l2dCacheHit => 0x8205#16
  | .l3dCacheHit => 0x8206#16
  | .llCacheHit => 0x8207#16
  | .l1iCacheHitPrfm => 0x8208#16
  | .l2iCacheHitPrfm => 0x8209#16
  | .l1dCacheHitPrfm => 0x820C#16
  | .l2dCacheHitPrfm => 0x820D#16
  | .l3dCacheHitPrfm => 0x820E#16
  | .llCacheHitPrfm => 0x820F#16
  | .l1dCacheHitmRd => 0x8214#16
  | .l2dCacheHitmRd => 0x8215#16
  | .l3dCacheHitmRd => 0x8216#16
  | .llCacheHitmRd => 0x8217#16
  | .l1dCacheHitmWr => 0x8218#16
  | .l2dCacheHitmWr => 0x8219#16
  | .l3dCacheHitmWr => 0x821A#16
  | .llCacheHitmWr => 0x821B#16
  | .l1dCacheHitmRw => 0x821C#16
  | .l2dCacheHitmRw => 0x821D#16
  | .l3dCacheHitmRw => 0x821E#16
  | .llCacheHitmRw => 0x821F#16
  | .dsnpHitmRd => 0x8224#16
  | .dsnpHitmNearRd => 0x8225#16
  | .dsnpHitmFarRd => 0x8226#16
  | .dsnpHitmRemoteRd => 0x8227#16
  | .dsnpHitmWr => 0x8228#16
  | .dsnpHitmNearWr => 0x8229#16
  | .dsnpHitmFarWr => 0x822A#16
  | .dsnpHitmRemoteWr => 0x822B#16
  | .dsnpHitmRw => 0x822C#16
  | .dsnpHitmNearRw => 0x822D#16
  | .dsnpHitmFarRw => 0x822E#16
  | .dsnpHitmRemoteRw => 0x822F#16
  | .localMem => 0x8230#16
  | .localMemRd => 0x8231#16
  | .localMemWr => 0x8232#16
  | .localMemRw => 0x8233#16
  | .localMemPrfm => 0x8234#16
  | .localMemLdRetired => 0x8235#16
  | .localMemStRetired => 0x8236#16
  | .localMemLdstRetired => 0x8237#16
  | .remoteMem => 0x8238#16
  | .remoteMemRd => 0x8239#16
  | .remoteMemWr => 0x823A#16
  | .remoteMemRw => 0x823B#16
  | .remoteMemPrfm => 0x823C#16
  | .remoteMemLdRetired => 0x823D#16
  | .remoteMemStRetired => 0x823E#16
  | .remoteMemLdstRetired => 0x823F#16
  | .l1iLfbHitRd => 0x8240#16
  | .l2iLfbHitRd => 0x8241#16
  | .l1dLfbHitRd => 0x8244#16
  | .l2dLfbHitRd => 0x8245#16
  | .l3dLfbHitRd => 0x8246#16
  | .llLfbHitRd => 0x8247#16
  | .l1dLfbHitWr => 0x8248#16
  | .l2dLfbHitWr => 0x8249#16
  | .l3dLfbHitWr => 0x824A#16
  | .llLfbHitWr => 0x824B#16
  | .l1dLfbHitRw => 0x824C#16
  | .l2dLfbHitRw => 0x824D#16
  | .l3dLfbHitRw => 0x824E#16
  | .llLfbHitRw => 0x824F#16
  | .l1iLfbHitRdFprfm => 0x8250#16
  | .l2iLfbHitRdFprfm => 0x8251#16
  | .l1dLfbHitRdFprfm => 0x8254#16
  | .l2dLfbHitRdFprfm => 0x8255#16
  | .l3dLfbHitRdFprfm => 0x8256#16
  | .llLfbHitRdFprfm => 0x8257#16
  | .l1dLfbHitWrFprfm => 0x8258#16
  | .l2dLfbHitWrFprfm => 0x8259#16
  | .l3dLfbHitWrFprfm => 0x825A#16
  | .llLfbHitWrFprfm => 0x825B#16
  | .l1dLfbHitRwFprfm => 0x825C#16
  | .l2dLfbHitRwFprfm => 0x825D#16
  | .l3dLfbHitRwFprfm => 0x825E#16
  | .llLfbHitRwFprfm => 0x825F#16
  | .l1iLfbHitRdFhwprf => 0x8260#16
  | .l2iLfbHitRdFhwprf => 0x8261#16
  | .l1dLfbHitRdFhwprf => 0x8264#16
  | .l2dLfbHitRdFhwprf => 0x8265#16
  | .l3dLfbHitRdFhwprf => 0x8266#16
  | .llLfbHitRdFhwprf => 0x8267#16
  | .l1dLfbHitWrFhwprf => 0x8268#16
  | .l2dLfbHitWrFhwprf => 0x8269#16
  | .l3dLfbHitWrFhwprf => 0x826A#16
  | .llLfbHitWrFhwprf => 0x826B#16
  | .l1dLfbHitRwFhwprf => 0x826C#16
  | .l2dLfbHitRwFhwprf => 0x826D#16
  | .l3dLfbHitRwFhwprf => 0x826E#16
  | .llLfbHitRwFhwprf => 0x826F#16
  | .l1iLfbHitRdFprf => 0x8270#16
  | .l2iLfbHitRdFprf => 0x8271#16
  | .l1dLfbHitRdFprf => 0x8274#16
  | .l2dLfbHitRdFprf => 0x8275#16
  | .l3dLfbHitRdFprf => 0x8276#16
  | .llLfbHitRdFprf => 0x8277#16
  | .l1dLfbHitWrFprf => 0x8278#16
  | .l2dLfbHitWrFprf => 0x8279#16
  | .l3dLfbHitWrFprf => 0x827A#16
  | .llLfbHitWrFprf => 0x827B#16
  | .l1dLfbHitRwFprf => 0x827C#16
  | .l2dLfbHitRwFprf => 0x827D#16
  | .l3dLfbHitRwFprf => 0x827E#16
  | .llLfbHitRwFprf => 0x827F#16
  | .l1iCachePrf => 0x8280#16
  | .l2iCachePrf => 0x8281#16
  | .l1dCachePrf => 0x8284#16
  | .l2dCachePrf => 0x8285#16
  | .l3dCachePrf => 0x8286#16
  | .llCachePrf => 0x8287#16
  | .l1iCacheRefillPrf => 0x8288#16
  | .l2iCacheRefillPrf => 0x8289#16
  | .l1dCacheRefillPrf => 0x828C#16
  | .l2dCacheRefillPrf => 0x828D#16
  | .l3dCacheRefillPrf => 0x828E#16
  | .llCacheRefillPrf => 0x828F#16
  | .isnpHitPrf => 0x8290#16
  | .isnpHitNearPrf => 0x8291#16
  | .isnpHitFarPrf => 0x8292#16
  | .isnpHitRemotePrf => 0x8293#16
  | .dsnpHitPrf => 0x8294#16
  | .dsnpHitNearPrf => 0x8295#16
  | .dsnpHitFarPrf => 0x8296#16
  | .dsnpHitRemotePrf => 0x8297#16
  | .llCacheRw => 0x8298#16
  | .llCachePrfm => 0x8299#16
  | .llCacheRefill => 0x829A#16
  | .llCacheRefillPrfm => 0x829B#16
  | .llCacheWb => 0x829C#16
  | .llCacheWr => 0x829D#16
  | .llCacheRefillWr => 0x829F#16
  | .memAccessRw => 0x82A0#16
  | .instFetchRd => 0x82A1#16
  | .memAccessPrfm => 0x82A2#16
  | .instFetchPrfm => 0x82A3#16
  | .l1iCacheMissRetired => 0x82B0#16
  | .l2iCacheMissRetired => 0x82B1#16
  | .l1dCacheMissLdRetired => 0x82B4#16
  | .l2dCacheMissLdRetired => 0x82B5#16
  | .l3dCacheMissLdRetired => 0x82B6#16
  | .llCacheMissLdRetired => 0x82B7#16
  | .l1dCacheMissStRetired => 0x82B8#16
  | .l2dCacheMissStRetired => 0x82B9#16
  | .l3dCacheMissStRetired => 0x82BA#16
  | .llCacheMissStRetired => 0x82BB#16
  | .l1dCacheMissLdstRetired => 0x82BC#16
  | .l2dCacheMissLdstRetired => 0x82BD#16
  | .l3dCacheMissLdstRetired => 0x82BE#16
  | .llCacheMissLdstRetired => 0x82BF#16
  | .l1dCacheHitmLdRetired => 0x82C4#16
  | .l2dCacheHitmLdRetired => 0x82C5#16
  | .l3dCacheHitmLdRetired => 0x82C6#16
  | .llCacheHitmLdRetired => 0x82C7#16
  | .l1dCacheHitmStRetired => 0x82C8#16
  | .l2dCacheHitmStRetired => 0x82C9#16
  | .l3dCacheHitmStRetired => 0x82CA#16
  | .llCacheHitmStRetired => 0x82CB#16
  | .l1dCacheHitmLdstRetired => 0x82CC#16
  | .l2dCacheHitmLdstRetired => 0x82CD#16
  | .l3dCacheHitmLdstRetired => 0x82CE#16
  | .llCacheHitmLdstRetired => 0x82CF#16
  | .l1iLfbHitRetired => 0x82D0#16
  | .l2iLfbHitRetired => 0x82D1#16
  | .l1dLfbHitLdRetired => 0x82D4#16
  | .l2dLfbHitLdRetired => 0x82D5#16
  | .l3dLfbHitLdRetired => 0x82D6#16
  | .llLfbHitLdRetired => 0x82D7#16
  | .l1dLfbHitStRetired => 0x82D8#16
  | .l2dLfbHitStRetired => 0x82D9#16
  | .l3dLfbHitStRetired => 0x82DA#16
  | .llLfbHitStRetired => 0x82DB#16
  | .l1dLfbHitLdstRetired => 0x82DC#16
  | .l2dLfbHitLdstRetired => 0x82DD#16
  | .l3dLfbHitLdstRetired => 0x82DE#16
  | .llLfbHitLdstRetired => 0x82DF#16
  | .l1iCacheHitRetired => 0x82E0#16
  | .l2iCacheHitRetired => 0x82E1#16
  | .l1dCacheHitLdRetired => 0x82E4#16
  | .l2dCacheHitLdRetired => 0x82E5#16
  | .l3dCacheHitLdRetired => 0x82E6#16
  | .llCacheHitLdRetired => 0x82E7#16
  | .l1dCacheHitStRetired => 0x82E8#16
  | .l2dCacheHitStRetired => 0x82E9#16
  | .l3dCacheHitStRetired => 0x82EA#16
  | .llCacheHitStRetired => 0x82EB#16
  | .l1dCacheHitLdstRetired => 0x82EC#16
  | .l2dCacheHitLdstRetired => 0x82ED#16
  | .l3dCacheHitLdstRetired => 0x82EE#16
  | .llCacheHitLdstRetired => 0x82EF#16
  | .itlbHitRetired => 0x82F0#16
  | .dtlbHitLdRetired => 0x82F1#16
  | .dtlbHitStRetired => 0x82F2#16
  | .dtlbHitLdstRetired => 0x82F3#16
  | .itlbWalkRetired => 0x82F4#16
  | .dtlbWalkLdRetired => 0x82F5#16
  | .dtlbWalkStRetired => 0x82F6#16
  | .dtlbWalkLdstRetired => 0x82F7#16
  | .dtlbWalkPrf => 0x82F8#16
  | .itlbWalkPrf => 0x82F9#16
  | .dtlbWalkHwprf => 0x82FA#16
  | .itlbWalkHwprf => 0x82FB#16
  | .l1dTlbPrf => 0x82FC#16
  | .l1iTlbPrf => 0x82FD#16
  | .l1dTlbHwprf => 0x82FE#16
  | .l1iTlbHwprf => 0x82FF#16
  | .dsnpHitmLdRetired => 0x8304#16
  | .dsnpHitmNearLdRetired => 0x8305#16
  | .dsnpHitmFarLdRetired => 0x8306#16
  | .dsnpHitmRemoteLdRetired => 0x8307#16
  | .dsnpHitmStRetired => 0x8308#16
  | .dsnpHitmNearStRetired => 0x8309#16
  | .dsnpHitmFarStRetired => 0x830A#16
  | .dsnpHitmRemoteStRetired => 0x830B#16
  | .dsnpHitmLdstRetired => 0x830C#16
  | .dsnpHitmNearLdstRetired => 0x830D#16
  | .dsnpHitmFarLdstRetired => 0x830E#16
  | .dsnpHitmRemoteLdstRetired => 0x830F#16
  | .isnpHitRetired => 0x8310#16
  | .isnpHitNearRetired => 0x8311#16
  | .isnpHitFarRetired => 0x8312#16
  | .isnpHitRemoteRetired => 0x8313#16
  | .dsnpHitLdRetired => 0x8314#16
  | .dsnpHitNearLdRetired => 0x8315#16
  | .dsnpHitFarLdRetired => 0x8316#16
  | .dsnpHitRemoteLdRetired => 0x8317#16
  | .dsnpHitStRetired => 0x8318#16
  | .dsnpHitNearStRetired => 0x8319#16
  | .dsnpHitFarStRetired => 0x831A#16
  | .dsnpHitRemoteStRetired => 0x831B#16
  | .dsnpHitLdstRetired => 0x831C#16
  | .dsnpHitNearLdstRetired => 0x831D#16
  | .dsnpHitFarLdstRetired => 0x831E#16
  | .dsnpHitRemoteLdstRetired => 0x831F#16
  | .l1dCacheRefillPercyc => 0x8320#16
  | .l2dCacheRefillPercyc => 0x8321#16
  | .l3dCacheRefillPercyc => 0x8322#16
  | .l1iCacheRefillPercyc => 0x8324#16
  | .l2iCacheRefillPercyc => 0x8325#16
  | .remoteCacheHitRd => 0x8328#16
  | .remoteCacheHitmRd => 0x8329#16
  | .remoteLfbHitRd => 0x832A#16
  | .remoteCacheHitPrfm => 0x832B#16
  | .stallBackendAtomicFp => 0x832C#16
  | .lseFpLdSpec => 0x832D#16
  | .lseFpStSpec => 0x832E#16
  | .lseFpLdstSpec => 0x832F#16
  | .l1gcsCache => 0x8330#16
  | .l1gcsCacheRw => 0x8331#16
  | .l1gcsCacheHwprf => 0x8332#16
  | .l1gcsCacheMiss => 0x8334#16
  | .l1gcsCacheMissRd => 0x8335#16
  | .l1gcsCacheHitRw => 0x8336#16
  | .l1gcsCacheHitRwFhwprf => 0x8337#16
  | .l1gcsCacheRefill => 0x8338#16
  | .l1gcsCacheRefillHwprf => 0x8339#16
  | .l1gcsCacheRefillPercyc => 0x833A#16
  | .l1gcsLfbHitRw => 0x833C#16
  | .l1gcsLfbHitRwFhwprf => 0x833D#16
  | .l1gcsCacheInval => 0x833E#16
  | .l1gcsTlb => 0x8340#16
  | .l1gcsTlbRw => 0x8341#16
  | .l1gcsTlbHwprf => 0x8342#16
  | .gcstlbWalk => 0x8344#16
  | .gcstlbWalkRw => 0x8345#16
  | .gcstlbWalkPercyc => 0x8346#16
  | .gcstlbWalkStep => 0x8347#16
  | .sampleFeedFp => 0x8348#16
  | .sampleFeedSimd => 0x8349#16
  | .stallBackendL1gcs => 0x8350#16
  | .stallBackendGcstlb => 0x8351#16
  | .smeFpSpec => 0x8352#16
  | .seFpSpec => 0x8353#16
  | .sveCmpIgranuleSpec => 0x8354#16
  | .sveCmpXgranuleSpec => 0x8355#16
  | .sveBitpermSpec => 0x8356#16
  | .smeSpec => 0x835C#16
  | .seSpec => 0x835D#16
  | .smeInstSpec => 0x835E#16
  | .seInstSpec => 0x835F#16
  | .smeInt8Spec => 0x8360#16
  | .seInt8Spec => 0x8361#16
  | .smeFpBf16Spec => 0x8362#16
  | .seFpBf16Spec => 0x8363#16
  | .smeInt16Spec => 0x8364#16
  | .seInt16Spec => 0x8365#16
  | .smeFpHpSpec => 0x8366#16
  | .seFpHpSpec => 0x8367#16
  | .smeInt32Spec => 0x8368#16
  | .seInt32Spec => 0x8369#16
  | .smeFpSpSpec => 0x836A#16
  | .seFpSpSpec => 0x836B#16
  | .smeInt64Spec => 0x836C#16
  | .seInt64Spec => 0x836D#16
  | .smeFpDpSpec => 0x836E#16
  | .seFpDpSpec => 0x836F#16
  | .smeFpAddsubSpec => 0x8370#16
  | .seFpAddsubSpec => 0x8371#16
  | .smeFpFmaSpec => 0x8372#16
  | .seFpFmaSpec => 0x8373#16
  | .smeFpDotSpec => 0x8374#16
  | .seFpDotSpec => 0x8375#16
  | .smeFpMopaSpec => 0x8376#16
  | .smeIntSpec => 0x8378#16
  | .seIntSpec => 0x8379#16
  | .smeIntMulSpec => 0x837A#16
  | .seIntMulSpec => 0x837B#16
  | .smeIntDotSpec => 0x837C#16
  | .seIntDotSpec => 0x837D#16
  | .smeIntMopaSpec => 0x837E#16
  | .zaActive => 0x8380#16
  | .smePred2NotFullSpec => 0x8381#16
  | .smePred2Spec => 0x8384#16
  | .smePred2EmptySpec => 0x8385#16
  | .smePred2FullSpec => 0x8386#16
  | .smePred2PartialSpec => 0x8387#16
  | .smeLdstZaregSpec => 0x8388#16
  | .smeLdZaregSpec => 0x8389#16
  | .smeStZaregSpec => 0x838A#16
  | .smeLdstZtregSpec => 0x838C#16
  | .smeLdZtregSpec => 0x838D#16
  | .smeStZtregSpec => 0x838E#16
  | .smeLdstRegSpec => 0x8390#16
  | .smeLdRegSpec => 0x8391#16
  | .smeStRegSpec => 0x8392#16
  | .smeLdstTileSpec => 0x8394#16
  | .smeLdTileSpec => 0x8395#16
  | .smeStTileSpec => 0x8396#16
  | .aseLutSpec => 0x8398#16
  | .sveLutSpec => 0x8399#16
  | .smeLutSpec => 0x839A#16
  | .seLutSpec => 0x839B#16
  | .n1CacheHitRd => 0x83A0#16
  | .n2CacheHitRd => 0x83A1#16
  | .n3CacheHitRd => 0x83A2#16
  | .n4CacheHitRd => 0x83A3#16
  | .n1CacheHitPrfm => 0x83A4#16
  | .n2CacheHitPrfm => 0x83A5#16
  | .n3CacheHitPrfm => 0x83A6#16
  | .n4CacheHitPrfm => 0x83A7#16
  | .n1Cache1HitRd => 0x83A8#16
  | .n2Cache1HitRd => 0x83A9#16
  | .n3Cache1HitRd => 0x83AA#16
  | .n4Cache1HitRd => 0x83AB#16
  | .n1Cache1HitPrfm => 0x83AC#16
  | .n2Cache1HitPrfm => 0x83AD#16
  | .n3Cache1HitPrfm => 0x83AE#16
  | .n4Cache1HitPrfm => 0x83AF#16
  | .n1Cache2HitRd => 0x83B0#16
  | .n2Cache2HitRd => 0x83B1#16
  | .n3Cache2HitRd => 0x83B2#16
  | .n4Cache2HitRd => 0x83B3#16
  | .n1Cache2HitPrfm => 0x83B4#16
  | .n2Cache2HitPrfm => 0x83B5#16
  | .n3Cache2HitPrfm => 0x83B6#16
  | .n4Cache2HitPrfm => 0x83B7#16
  | .n1Cache3HitRd => 0x83B8#16
  | .n2Cache3HitRd => 0x83B9#16
  | .n3Cache3HitRd => 0x83BA#16
  | .n4Cache3HitRd => 0x83BB#16
  | .n1Cache3HitPrfm => 0x83BC#16
  | .n2Cache3HitPrfm => 0x83BD#16
  | .n3Cache3HitPrfm => 0x83BE#16
  | .n4Cache3HitPrfm => 0x83BF#16
  | .n1CacheHitmRd => 0x83C0#16
  | .n2CacheHitmRd => 0x83C1#16
  | .n3CacheHitmRd => 0x83C2#16
  | .n4CacheHitmRd => 0x83C3#16
  | .n1LfbHitRd => 0x83C4#16
  | .n2LfbHitRd => 0x83C5#16
  | .n3LfbHitRd => 0x83C6#16
  | .n4LfbHitRd => 0x83C7#16
  | .n1Cache1HitmRd => 0x83C8#16
  | .n2Cache1HitmRd => 0x83C9#16
  | .n3Cache1HitmRd => 0x83CA#16
  | .n4Cache1HitmRd => 0x83CB#16
  | .n1Lfb1HitRd => 0x83CC#16
  | .n2Lfb1HitRd => 0x83CD#16
  | .n3Lfb1HitRd => 0x83CE#16
  | .n4Lfb1HitRd => 0x83CF#16
  | .n1Cache2HitmRd => 0x83D0#16
  | .n2Cache2HitmRd => 0x83D1#16
  | .n3Cache2HitmRd => 0x83D2#16
  | .n4Cache2HitmRd => 0x83D3#16
  | .n1Lfb2HitRd => 0x83D4#16
  | .n2Lfb2HitRd => 0x83D5#16
  | .n3Lfb2HitRd => 0x83D6#16
  | .n4Lfb2HitRd => 0x83D7#16
  | .n1Cache3HitmRd => 0x83D8#16
  | .n2Cache3HitmRd => 0x83D9#16
  | .n3Cache3HitmRd => 0x83DA#16
  | .n4Cache3HitmRd => 0x83DB#16
  | .n1Lfb3HitRd => 0x83DC#16
  | .n2Lfb3HitRd => 0x83DD#16
  | .n3Lfb3HitRd => 0x83DE#16
  | .n4Lfb3HitRd => 0x83DF#16
  | .n1MemRd => 0x83E0#16
  | .n2MemRd => 0x83E1#16
  | .n3MemRd => 0x83E2#16
  | .n4MemRd => 0x83E3#16
  | .n1MemPrfm => 0x83E4#16
  | .n2MemPrfm => 0x83E5#16
  | .n3MemPrfm => 0x83E6#16
  | .n4MemPrfm => 0x83E7#16
  | .n1Mem1Rd => 0x83E8#16
  | .n2Mem1Rd => 0x83E9#16
  | .n3Mem1Rd => 0x83EA#16
  | .n4Mem1Rd => 0x83EB#16
  | .n1Mem1Prfm => 0x83EC#16
  | .n2Mem1Prfm => 0x83ED#16
  | .n3Mem1Prfm => 0x83EE#16
  | .n4Mem1Prfm => 0x83EF#16
  | .n1Mem2Rd => 0x83F0#16
  | .n2Mem2Rd => 0x83F1#16
  | .n3Mem2Rd => 0x83F2#16
  | .n4Mem2Rd => 0x83F3#16
  | .n1Mem2Prfm => 0x83F4#16
  | .n2Mem2Prfm => 0x83F5#16
  | .n3Mem2Prfm => 0x83F6#16
  | .n4Mem2Prfm => 0x83F7#16
  | .n1Mem3Rd => 0x83F8#16
  | .n2Mem3Rd => 0x83F9#16
  | .n3Mem3Rd => 0x83FA#16
  | .n4Mem3Rd => 0x83FB#16
  | .n1Mem3Prfm => 0x83FC#16
  | .n2Mem3Prfm => 0x83FD#16
  | .n3Mem3Prfm => 0x83FE#16
  | .n4Mem3Prfm => 0x83FF#16
  | .isnpHitN1Rd => 0x8400#16
  | .isnpHitN2Rd => 0x8401#16
  | .isnpHitN3Rd => 0x8402#16
  | .isnpHitN4Rd => 0x8403#16
  | .dsnpHitN1Rd => 0x8404#16
  | .dsnpHitN2Rd => 0x8405#16
  | .dsnpHitN3Rd => 0x8406#16
  | .dsnpHitN4Rd => 0x8407#16
  | .dsnpHitN1Wr => 0x8408#16
  | .dsnpHitN2Wr => 0x8409#16
  | .dsnpHitN3Wr => 0x840A#16
  | .dsnpHitN4Wr => 0x840B#16
  | .dsnpHitN1Rw => 0x840C#16
  | .dsnpHitN2Rw => 0x840D#16
  | .dsnpHitN3Rw => 0x840E#16
  | .dsnpHitN4Rw => 0x840F#16
  | .dsnpHitN1Prfm => 0x8410#16
  | .dsnpHitN2Prfm => 0x8411#16
  | .dsnpHitN3Prfm => 0x8412#16
  | .dsnpHitN4Prfm => 0x8413#16
  | .dsnpHitN1Hwprf => 0x8414#16
  | .dsnpHitN2Hwprf => 0x8415#16
  | .dsnpHitN3Hwprf => 0x8416#16
  | .dsnpHitN4Hwprf => 0x8417#16
  | .isnpHitN1Prfm => 0x8418#16
  | .isnpHitN2Prfm => 0x8419#16
  | .isnpHitN3Prfm => 0x841A#16
  | .isnpHitN4Prfm => 0x841B#16
  | .isnpHitN1Hwprf => 0x841C#16
  | .isnpHitN2Hwprf => 0x841D#16
  | .isnpHitN3Hwprf => 0x841E#16
  | .isnpHitN4Hwprf => 0x841F#16
  | .dsnpHitN1Prf => 0x8420#16
  | .dsnpHitN2Prf => 0x8421#16
  | .dsnpHitN3Prf => 0x8422#16
  | .dsnpHitN4Prf => 0x8423#16
  | .isnpHitN1Prf => 0x8424#16
  | .isnpHitN2Prf => 0x8425#16
  | .isnpHitN3Prf => 0x8426#16
  | .isnpHitN4Prf => 0x8427#16
  | .isnpHitN1 => 0x8428#16
  | .isnpHitN2 => 0x8429#16
  | .isnpHitN3 => 0x842A#16
  | .isnpHitN4 => 0x842B#16
  | .dsnpHitN1 => 0x842C#16
  | .dsnpHitN2 => 0x842D#16
  | .dsnpHitN3 => 0x842E#16
  | .dsnpHitN4 => 0x842F#16
  | .aseFpVreduceSpec => 0x8431#16
  | .sveFpPreduceSpec => 0x8432#16
  | .dsnpHitmN1Rd => 0x8434#16
  | .dsnpHitmN2Rd => 0x8435#16
  | .dsnpHitmN3Rd => 0x8436#16
  | .dsnpHitmN4Rd => 0x8437#16
  | .dsnpHitmN1Wr => 0x8438#16
  | .dsnpHitmN2Wr => 0x8439#16
  | .dsnpHitmN3Wr => 0x843A#16
  | .dsnpHitmN4Wr => 0x843B#16
  | .dsnpHitmN1Rw => 0x843C#16
  | .dsnpHitmN2Rw => 0x843D#16
  | .dsnpHitmN3Rw => 0x843E#16
  | .dsnpHitmN4Rw => 0x843F#16
  | .aseFpSpMinSpec => 0x8440#16
  | .aseFpHpMinSpec => 0x8442#16
  | .aseFpBf16MinSpec => 0x8443#16
  | .aseFpFp8MinSpec => 0x8444#16
  | .aseSveFpSpMinSpec => 0x8448#16
  | .aseSveFpHpMinSpec => 0x844A#16
  | .aseSveFpBf16MinSpec => 0x844B#16
  | .aseSveFpFp8MinSpec => 0x844C#16
  | .seFpSpMinSpec => 0x8450#16
  | .seFpHpMinSpec => 0x8452#16
  | .seFpBf16MinSpec => 0x8453#16
  | .seFpFp8MinSpec => 0x8454#16
  | .smeFpSpMinSpec => 0x8458#16
  | .smeFpHpMinSpec => 0x845A#16
  | .smeFpBf16MinSpec => 0x845B#16
  | .smeFpFp8MinSpec => 0x845C#16
  | .sveFpSpMinSpec => 0x8460#16
  | .sveFpHpMinSpec => 0x8462#16
  | .sveFpBf16MinSpec => 0x8463#16
  | .sveFpFp8MinSpec => 0x8464#16
  | .fpBf16FixedOpsSpec => 0x846B#16
  | .fpSpMinSpec => 0x8470#16
  | .fpHpMinSpec => 0x8472#16
  | .fpBf16MinSpec => 0x8473#16
  | .fpFp8MinSpec => 0x8474#16
  | .fpSpFixedMinOpsSpec => 0x8480#16
  | .fpHpFixedMinOpsSpec => 0x8482#16
  | .fpBf16FixedMinOpsSpec => 0x8483#16
  | .fpFp8FixedMinOpsSpec => 0x8484#16
  | .fpSpScaleMinOpsSpec => 0x8488#16
  | .fpHpScaleMinOpsSpec => 0x848A#16
  | .fpBf16ScaleMinOpsSpec => 0x848B#16
  | .fpFp8ScaleMinOpsSpec => 0x848C#16
  | .fpSpScale2MinOpsSpec => 0x8490#16
  | .fpHpScale2MinOpsSpec => 0x8492#16
  | .fpBf16Scale2MinOpsSpec => 0x8493#16
  | .fpFp8Scale2MinOpsSpec => 0x8494#16

/-- Event numbers from 0x0000 to 0x001F. -/
def page00_0 : List (Nat × Instr) :=
  [(0x0000, .swIncr), (0x0001, .l1iCacheRefill), (0x0002, .l1iTlbRefill),
   (0x0003, .l1dCacheRefill), (0x0004, .l1dCache), (0x0005, .l1dTlbRefill),
   (0x0006, .ldRetired), (0x0007, .stRetired), (0x0008, .instRetired),
   (0x0009, .excTaken), (0x000A, .excReturn), (0x000B, .cidWriteRetired),
   (0x000C, .pcWriteRetired), (0x000D, .brImmedRetired), (0x000E, .brReturnRetired),
   (0x000F, .unalignedLdstRetired), (0x0010, .brMisPred), (0x0011, .cpuCycles),
   (0x0012, .brPred), (0x0013, .memAccess), (0x0014, .l1iCache),
   (0x0015, .l1dCacheWb), (0x0016, .l2dCache), (0x0017, .l2dCacheRefill),
   (0x0018, .l2dCacheWb), (0x0019, .busAccess), (0x001A, .memoryError),
   (0x001B, .instSpec), (0x001C, .ttbrWriteRetired), (0x001D, .busCycles),
   (0x001E, .chain), (0x001F, .l1dCacheAllocate)]

/-- Event numbers from 0x0020 to 0x003F. -/
def page00_1 : List (Nat × Instr) :=
  [(0x0020, .l2dCacheAllocate), (0x0021, .brRetired), (0x0022, .brMisPredRetired),
   (0x0023, .stallFrontend), (0x0024, .stallBackend), (0x0025, .l1dTlb),
   (0x0026, .l1iTlb), (0x0027, .l2iCache), (0x0028, .l2iCacheRefill),
   (0x0029, .l3dCacheAllocate), (0x002A, .l3dCacheRefill), (0x002B, .l3dCache),
   (0x002C, .l3dCacheWb), (0x002D, .l2dTlbRefill), (0x002E, .l2iTlbRefill),
   (0x002F, .l2dTlb), (0x0030, .l2iTlb), (0x0031, .remoteAccess),
   (0x0032, .llCache), (0x0033, .llCacheMiss), (0x0034, .dtlbWalk),
   (0x0035, .itlbWalk), (0x0036, .llCacheRd), (0x0037, .llCacheMissRd),
   (0x0038, .remoteAccessRd), (0x0039, .l1dCacheLmissRd), (0x003A, .opRetired),
   (0x003B, .opSpec), (0x003C, .stall), (0x003D, .stallSlotBackend),
   (0x003E, .stallSlotFrontend), (0x003F, .stallSlot)]

/-- Event numbers from 0x0040 to 0x0067. -/
def page00_2 : List (Nat × Instr) :=
  [(0x0040, .l1dCacheRd), (0x0041, .l1dCacheWr), (0x0042, .l1dCacheRefillRd),
   (0x0043, .l1dCacheRefillWr), (0x0044, .l1dCacheRefillInner), (0x0045, .l1dCacheRefillOuter),
   (0x0046, .l1dCacheWbVictim), (0x0047, .l1dCacheWbClean), (0x0048, .l1dCacheInval),
   (0x004C, .l1dTlbRefillRd), (0x004D, .l1dTlbRefillWr), (0x004E, .l1dTlbRd),
   (0x004F, .l1dTlbWr), (0x0050, .l2dCacheRd), (0x0051, .l2dCacheWr),
   (0x0052, .l2dCacheRefillRd), (0x0053, .l2dCacheRefillWr), (0x0056, .l2dCacheWbVictim),
   (0x0057, .l2dCacheWbClean), (0x0058, .l2dCacheInval), (0x005C, .l2dTlbRefillRd),
   (0x005D, .l2dTlbRefillWr), (0x005E, .l2dTlbRd), (0x005F, .l2dTlbWr),
   (0x0060, .busAccessRd), (0x0061, .busAccessWr), (0x0062, .busAccessShared),
   (0x0063, .busAccessNotShared), (0x0064, .busAccessNormal), (0x0065, .busAccessPeriph),
   (0x0066, .memAccessRd), (0x0067, .memAccessWr)]

/-- Event numbers from 0x0068 to 0x008C. -/
def page00_3 : List (Nat × Instr) :=
  [(0x0068, .unalignedLdSpec), (0x0069, .unalignedStSpec), (0x006A, .unalignedLdstSpec),
   (0x006C, .ldrexSpec), (0x006D, .strexPassSpec), (0x006E, .strexFailSpec),
   (0x006F, .strexSpec), (0x0070, .ldSpec), (0x0071, .stSpec),
   (0x0072, .ldstSpec), (0x0073, .dpSpec), (0x0074, .aseSpec),
   (0x0075, .vfpSpec), (0x0076, .pcWriteSpec), (0x0077, .cryptoSpec),
   (0x0078, .brImmedSpec), (0x0079, .brReturnSpec), (0x007A, .brIndirectSpec),
   (0x007C, .isbSpec), (0x007D, .dsbSpec), (0x007E, .dmbSpec),
   (0x007F, .csdbSpec), (0x0081, .excUndef), (0x0082, .excSvc),
   (0x0083, .excPabort), (0x0084, .excDabort), (0x0086, .excIrq),
   (0x0087, .excFiq), (0x0088, .excSmc), (0x008A, .excHvc),
   (0x008B, .excTrapPabort), (0x008C, .excTrapDabort)]

/-- Event numbers from 0x008D to 0x00BB. -/
def page00_4 : List (Nat × Instr) :=
  [(0x008D, .excTrapOther), (0x008E, .excTrapIrq), (0x008F, .excTrapFiq),
   (0x0090, .rcLdSpec), (0x0091, .rcStSpec), (0x0092, .l3dCacheHitWrFextProp),
   (0x00A0, .l3dCacheRd), (0x00A1, .l3dCacheWr), (0x00A2, .l3dCacheRefillRd),
   (0x00A3, .l3dCacheRefillWr), (0x00A6, .l3dCacheWbVictim), (0x00A7, .l3dCacheWbClean),
   (0x00A8, .l3dCacheInval), (0x00A9, .l2dCacheHitRdFextProp), (0x00AA, .l2dCacheHitWrFextProp),
   (0x00AB, .l2dCacheHitRwFextProp), (0x00AC, .l3dCacheExtProp), (0x00AD, .l3dCacheExtPropPrfmIr),
   (0x00AE, .l3dCacheHitRwFextProp), (0x00AF, .l3dCacheHitRdFextProp), (0x00B0, .stshhSpec),
   (0x00B1, .stshhKeepSpec), (0x00B2, .stshhStrmSpec), (0x00B3, .prfmIrSpec),
   (0x00B4, .memAccessWrStshh), (0x00B5, .memAccessWrStshhKeep), (0x00B6, .memAccessWrStshhStrm),
   (0x00B7, .memAccessWrStshhKeepNear), (0x00B8, .memAccessWrStshhKeepFar), (0x00B9, .l1dCacheExtProp),
   (0x00BA, .l1dCacheExtPropPrfmIr), (0x00BB, .l1dCacheHitRdFextProp)]

/-- Event numbers from 0x00BC to 0x00BF. -/
def page00_5 : List (Nat × Instr) :=
  [(0x00BC, .l1dCacheHitWrFextProp), (0x00BD, .l1dCacheHitRwFextProp), (0x00BE, .l2dCacheExtProp),
   (0x00BF, .l2dCacheExtPropPrfmIr)]

/-- Event numbers 0x0000 to 0x00FF. -/
def page00 : List (Nat × Instr) :=
  page00_0 ++ page00_1 ++ page00_2 ++ page00_3 ++ page00_4 ++ page00_5

/-- Event numbers from 0x4000 to 0x4026. -/
def page40_0 : List (Nat × Instr) :=
  [(0x4000, .samplePop), (0x4001, .sampleFeed), (0x4002, .sampleFiltrate),
   (0x4003, .sampleCollision), (0x4004, .cntCycles), (0x4005, .stallBackendMem),
   (0x4006, .l1iCacheLmiss), (0x4009, .l2dCacheLmissRd), (0x400A, .l2iCacheLmiss),
   (0x400B, .l3dCacheLmissRd), (0x400C, .trbWrap), (0x400D, .pmuOvfs),
   (0x400E, .trbTrig), (0x400F, .pmuHovfs), (0x4010, .trcextout0),
   (0x4011, .trcextout1), (0x4012, .trcextout2), (0x4013, .trcextout3),
   (0x4018, .ctiTrigout4), (0x4019, .ctiTrigout5), (0x401A, .ctiTrigout6),
   (0x401B, .ctiTrigout7), (0x4020, .ldstAlignLat), (0x4021, .ldAlignLat),
   (0x4022, .stAlignLat), (0x4024, .memAccessChecked), (0x4025, .memAccessCheckedRd),
   (0x4026, .memAccessCheckedWr)]

/-- Event numbers 0x4000 to 0x40FF. -/
def page40 : List (Nat × Instr) :=
  page40_0

/-- Event numbers from 0x8000 to 0x8021. -/
def page80_0 : List (Nat × Instr) :=
  [(0x8000, .simdInstRetired), (0x8001, .aseInstRetired), (0x8002, .sveInstRetired),
   (0x8003, .aseSveInstRetired), (0x8004, .simdInstSpec), (0x8005, .aseInstSpec),
   (0x8006, .sveInstSpec), (0x8007, .aseSveInstSpec), (0x8008, .uopSpec),
   (0x8009, .aseUopSpec), (0x800A, .sveUopSpec), (0x800B, .aseSveUopSpec),
   (0x800C, .simdUopSpec), (0x800E, .sveMathSpec), (0x8010, .fpSpec),
   (0x8011, .aseFpSpec), (0x8012, .sveFpSpec), (0x8013, .aseSveFpSpec),
   (0x8014, .fpHpSpec), (0x8015, .aseFpHpSpec), (0x8016, .sveFpHpSpec),
   (0x8017, .aseSveFpHpSpec), (0x8018, .fpSpSpec), (0x8019, .aseFpSpSpec),
   (0x801A, .sveFpSpSpec), (0x801B, .aseSveFpSpSpec), (0x801C, .fpDpSpec),
   (0x801D, .aseFpDpSpec), (0x801E, .sveFpDpSpec), (0x801F, .aseSveFpDpSpec),
   (0x8020, .fpDivSpec), (0x8021, .aseFpDivSpec)]

/-- Event numbers from 0x8022 to 0x8041. -/
def page80_1 : List (Nat × Instr) :=
  [(0x8022, .sveFpDivSpec), (0x8023, .aseSveFpDivSpec), (0x8024, .fpSqrtSpec),
   (0x8025, .aseFpSqrtSpec), (0x8026, .sveFpSqrtSpec), (0x8027, .aseSveFpSqrtSpec),
   (0x8028, .fpFmaSpec), (0x8029, .aseFpFmaSpec), (0x802A, .sveFpFmaSpec),
   (0x802B, .aseSveFpFmaSpec), (0x802C, .fpMulSpec), (0x802D, .aseFpMulSpec),
   (0x802E, .sveFpMulSpec), (0x802F, .aseSveFpMulSpec), (0x8030, .fpAddsubSpec),
   (0x8031, .aseFpAddsubSpec), (0x8032, .sveFpAddsubSpec), (0x8033, .aseSveFpAddsubSpec),
   (0x8034, .fpRecpeSpec), (0x8035, .aseFpRecpeSpec), (0x8036, .sveFpRecpeSpec),
   (0x8037, .aseSveFpRecpeSpec), (0x8038, .fpCvtSpec), (0x8039, .aseFpCvtSpec),
   (0x803A, .sveFpCvtSpec), (0x803B, .aseSveFpCvtSpec), (0x803C, .sveFpAreduceSpec),
   (0x803D, .aseFpPreduceSpec), (0x803E, .sveFpVreduceSpec), (0x803F, .aseSveFpVreduceSpec),
   (0x8040, .intSpec), (0x8041, .aseIntSpec)]

/-- Event numbers from 0x8042 to 0x8064. -/
def page80_2 : List (Nat × Instr) :=
  [(0x8042, .sveIntSpec), (0x8043, .aseSveIntSpec), (0x8044, .intDivSpec),
   (0x8045, .intDiv64Spec), (0x8046, .sveIntDivSpec), (0x8047, .sveIntDiv64Spec),
   (0x8048, .intMulSpec), (0x8049, .aseIntMulSpec), (0x804A, .sveIntMulSpec),
   (0x804B, .aseSveIntMulSpec), (0x804C, .intMul64Spec), (0x804D, .sveIntMul64Spec),
   (0x804E, .intMulh64Spec), (0x804F, .sveIntMulh64Spec), (0x8051, .aseFpBf16Spec),
   (0x8052, .sveFpBf16Spec), (0x8053, .aseSveFpBf16Spec), (0x8054, .fpBf16Spec),
   (0x8056, .sveSpec), (0x8057, .aseSveSpec), (0x8058, .nonfpSpec),
   (0x8059, .aseNonfpSpec), (0x805A, .sveNonfpSpec), (0x805B, .aseSveNonfpSpec),
   (0x805D, .aseIntVreduceSpec), (0x805E, .sveIntVreduceSpec), (0x805F, .aseSveIntVreduceSpec),
   (0x8060, .svePermSpec), (0x8061, .svePermIgranuleSpec), (0x8062, .svePermXgranuleSpec),
   (0x8063, .svePermVariableSpec), (0x8064, .sveXpipeSpec)]

/-- Event numbers from 0x8065 to 0x8086. -/
def page80_3 : List (Nat × Instr) :=
  [(0x8065, .sveXpipeZ2rSpec), (0x8066, .sveXpipeR2zSpec), (0x8067, .svePgenNvecSpec),
   (0x8068, .svePgenSpec), (0x8069, .svePgenFlgSpec), (0x806A, .svePgenCmpSpec),
   (0x806B, .svePgenFcmSpec), (0x806C, .svePgenLogicSpec), (0x806D, .svePpermSpec),
   (0x806E, .svePscanSpec), (0x806F, .svePcntSpec), (0x8070, .svePloopWhileSpec),
   (0x8071, .svePloopTestSpec), (0x8072, .svePloopEltsSpec), (0x8073, .svePloopTermSpec),
   (0x8074, .svePredSpec), (0x8075, .svePredEmptySpec), (0x8076, .svePredFullSpec),
   (0x8077, .svePredPartialSpec), (0x8078, .sveUnpredSpec), (0x8079, .svePredNotFullSpec),
   (0x807C, .sveMovprfxSpec), (0x807D, .sveMovprfxZSpec), (0x807E, .sveMovprfxMSpec),
   (0x807F, .sveMovprfxUSpec), (0x8080, .sveLdstSpec), (0x8081, .sveLdSpec),
   (0x8082, .sveStSpec), (0x8083, .svePrfSpec), (0x8084, .aseSveLdstSpec),
   (0x8085, .aseSveLdSpec), (0x8086, .aseSveStSpec)]

/-- Event numbers from 0x8087 to 0x80AD. -/
def page80_4 : List (Nat × Instr) :=
  [(0x8087, .prfSpec), (0x8088, .baseLdstRegSpec), (0x8089, .baseLdRegSpec),
   (0x808A, .baseStRegSpec), (0x808B, .basePrfSpec), (0x808C, .fpaseLdstRegSpec),
   (0x808D, .fpaseLdRegSpec), (0x808E, .fpaseStRegSpec), (0x8090, .sveLdstRegSpec),
   (0x8091, .sveLdrRegSpec), (0x8092, .sveStrRegSpec), (0x8094, .sveLdstPregSpec),
   (0x8095, .sveLdrPregSpec), (0x8096, .sveStrPregSpec), (0x8098, .sveLdstZregSpec),
   (0x8099, .sveLdrZregSpec), (0x809A, .sveStrZregSpec), (0x809C, .sveLdstContigSpec),
   (0x809D, .sveLdContigSpec), (0x809E, .sveStContigSpec), (0x809F, .svePrfContigSpec),
   (0x80A0, .sveLdstntContigSpec), (0x80A1, .sveLdntContigSpec), (0x80A2, .sveStntContigSpec),
   (0x80A4, .aseSveLdstMultiSpec), (0x80A5, .aseSveLdMultiSpec), (0x80A6, .aseSveStMultiSpec),
   (0x80A8, .sveLdstMultiSpec), (0x80A9, .sveLdMultiSpec), (0x80AA, .sveStMultiSpec),
   (0x80AC, .sveLdstNoncontigSpec), (0x80AD, .sveLdGatherSpec)]

/-- Event numbers from 0x80AE to 0x80D2. -/
def page80_5 : List (Nat × Instr) :=
  [(0x80AE, .sveStScatterSpec), (0x80AF, .svePrfGatherSpec), (0x80B0, .sveLdst64NoncontigSpec),
   (0x80B1, .sveLd64GatherSpec), (0x80B2, .sveSt64ScatterSpec), (0x80B3, .svePrf64GatherSpec),
   (0x80B4, .aseSveUnalignedLdstSpec), (0x80B5, .aseSveUnalignedLdSpec), (0x80B6, .aseSveUnalignedStSpec),
   (0x80B8, .aseSveUnalignedContigLdstSpec), (0x80B9, .aseSveUnalignedContigLdSpec), (0x80BA, .aseSveUnalignedContigStSpec),
   (0x80BC, .sveLdffSpec), (0x80BD, .sveLdffFaultSpec), (0x80C0, .fpScaleOpsSpec),
   (0x80C1, .fpFixedOpsSpec), (0x80C2, .fpHpScaleOpsSpec), (0x80C3, .fpHpFixedOpsSpec),
   (0x80C4, .fpSpScaleOpsSpec), (0x80C5, .fpSpFixedOpsSpec), (0x80C6, .fpDpScaleOpsSpec),
   (0x80C7, .fpDpFixedOpsSpec), (0x80C8, .intScaleOpsSpec), (0x80C9, .intFixedOpsSpec),
   (0x80CA, .ldstScaleOpsSpec), (0x80CB, .ldstFixedOpsSpec), (0x80CC, .ldScaleOpsSpec),
   (0x80CD, .ldFixedOpsSpec), (0x80CE, .stScaleOpsSpec), (0x80CF, .stFixedOpsSpec),
   (0x80D0, .fpScale2OpsSpec), (0x80D2, .fpHpScale2OpsSpec)]

/-- Event numbers from 0x80D3 to 0x80FB. -/
def page80_6 : List (Nat × Instr) :=
  [(0x80D3, .fpBf16Scale2OpsSpec), (0x80D4, .fpSpScale2OpsSpec), (0x80D6, .fpDpScale2OpsSpec),
   (0x80D8, .intScale2OpsSpec), (0x80DA, .ldstScaleBytesSpec), (0x80DB, .ldstFixedBytesSpec),
   (0x80DC, .ldScaleBytesSpec), (0x80DD, .ldFixedBytesSpec), (0x80DE, .stScaleBytesSpec),
   (0x80DF, .stFixedBytesSpec), (0x80E1, .aseInt8Spec), (0x80E2, .sveInt8Spec),
   (0x80E3, .aseSveInt8Spec), (0x80E5, .aseInt16Spec), (0x80E6, .sveInt16Spec),
   (0x80E7, .aseSveInt16Spec), (0x80E8, .fpBf16ScaleOpsSpec), (0x80E9, .aseInt32Spec),
   (0x80EA, .sveInt32Spec), (0x80EB, .aseSveInt32Spec), (0x80ED, .aseInt64Spec),
   (0x80EE, .sveInt64Spec), (0x80EF, .aseSveInt64Spec), (0x80F1, .aseFpDotSpec),
   (0x80F2, .sveFpDotSpec), (0x80F3, .aseSveFpDotSpec), (0x80F5, .aseFpMmlaSpec),
   (0x80F6, .sveFpMmlaSpec), (0x80F7, .aseSveFpMmlaSpec), (0x80F9, .aseIntDotSpec),
   (0x80FA, .sveIntDotSpec), (0x80FB, .aseSveIntDotSpec)]

/-- Event numbers from 0x80FD to 0x80FF. -/
def page80_7 : List (Nat × Instr) :=
  [(0x80FD, .aseIntMmlaSpec), (0x80FE, .sveIntMmlaSpec), (0x80FF, .aseSveIntMmlaSpec)]

/-- Event numbers 0x8000 to 0x80FF. -/
def page80 : List (Nat × Instr) :=
  page80_0 ++ page80_1 ++ page80_2 ++ page80_3 ++ page80_4 ++ page80_5 ++ page80_6 ++ page80_7

/-- Event numbers from 0x8107 to 0x8126. -/
def page81_0 : List (Nat × Instr) :=
  [(0x8107, .brSkipRetired), (0x8108, .brImmedTakenRetired), (0x8109, .brImmedSkipRetired),
   (0x810A, .brIndTakenRetired), (0x810B, .brIndSkipRetired), (0x810C, .brIndnrTakenRetired),
   (0x810D, .brIndnrSkipRetired), (0x810E, .brReturnAnyRetired), (0x810F, .brReturnSkipRetired),
   (0x8110, .brImmedPredRetired), (0x8111, .brImmedMisPredRetired), (0x8112, .brIndPredRetired),
   (0x8113, .brIndMisPredRetired), (0x8114, .brReturnPredRetired), (0x8115, .brReturnMisPredRetired),
   (0x8116, .brIndnrPredRetired), (0x8117, .brIndnrMisPredRetired), (0x8118, .brTakenPredRetired),
   (0x8119, .brTakenMisPredRetired), (0x811A, .brSkipPredRetired), (0x811B, .brSkipMisPredRetired),
   (0x811C, .brPredRetired), (0x811D, .brIndRetired), (0x811E, .brIndnrRetired),
   (0x811F, .brbFiltrate), (0x8120, .instFetchPercyc), (0x8121, .memAccessRdPercyc),
   (0x8122, .sampleFeedDs), (0x8123, .sampleBufferFull), (0x8124, .instFetch),
   (0x8125, .busReqRdPercyc), (0x8126, .busReqWrPercyc)]

/-- Event numbers from 0x8127 to 0x8146. -/
def page81_1 : List (Nat × Instr) :=
  [(0x8127, .pmuSnapshot), (0x8128, .dtlbWalkPercyc), (0x8129, .itlbWalkPercyc),
   (0x812A, .sampleFeedBr), (0x812B, .sampleFeedLd), (0x812C, .sampleFeedSt),
   (0x812D, .sampleFeedOp), (0x812E, .sampleFeedEvent), (0x812F, .sampleFeedLat),
   (0x8130, .l1dTlbRw), (0x8131, .l1iTlbRd), (0x8132, .l1dTlbPrfm),
   (0x8133, .l1iTlbPrfm), (0x8134, .dtlbHwupd), (0x8135, .itlbHwupd),
   (0x8136, .dtlbStep), (0x8137, .itlbStep), (0x8138, .dtlbWalkLarge),
   (0x8139, .itlbWalkLarge), (0x813A, .dtlbWalkSmall), (0x813B, .itlbWalkSmall),
   (0x813C, .dtlbWalkRw), (0x813D, .itlbWalkRd), (0x813E, .dtlbWalkPrfm),
   (0x813F, .itlbWalkPrfm), (0x8140, .l1dCacheRw), (0x8141, .l1iCacheRd),
   (0x8142, .l1dCachePrfm), (0x8143, .l1iCachePrfm), (0x8144, .l1dCacheMiss),
   (0x8145, .l1iCacheHwprf), (0x8146, .l1dCacheRefillPrfm)]

/-- Event numbers from 0x8147 to 0x8167. -/
def page81_2 : List (Nat × Instr) :=
  [(0x8147, .l1iCacheRefillPrfm), (0x8148, .l2dCacheRw), (0x8149, .l2iCacheRd),
   (0x814A, .l2dCachePrfm), (0x814B, .l2iCachePrfm), (0x814C, .l2dCacheMiss),
   (0x814D, .l2iCacheHwprf), (0x814E, .l2dCacheRefillPrfm), (0x814F, .l2iCacheRefillPrfm),
   (0x8150, .l3dCacheRw), (0x8151, .l3dCachePrfm), (0x8152, .l3dCacheMiss),
   (0x8153, .l3dCacheRefillPrfm), (0x8154, .l1dCacheHwprf), (0x8155, .l2dCacheHwprf),
   (0x8156, .l3dCacheHwprf), (0x8157, .llCacheHwprf), (0x8158, .stallFrontendMembound),
   (0x8159, .stallFrontendL1i), (0x815A, .stallFrontendL2i), (0x815B, .stallFrontendMem),
   (0x815C, .stallFrontendTlb), (0x815D, .stallBackendBusySmcu), (0x815E, .stallBackendBusySmcuUnall),
   (0x8160, .stallFrontendCpubound), (0x8161, .stallFrontendFlow), (0x8162, .stallFrontendFlush),
   (0x8163, .stallFrontendRename), (0x8164, .stallBackendMembound), (0x8165, .stallBackendL1d),
   (0x8166, .stallBackendL2d), (0x8167, .stallBackendTlb)]

/-- Event numbers from 0x8168 to 0x8189. -/
def page81_3 : List (Nat × Instr) :=
  [(0x8168, .stallBackendSt), (0x816A, .stallBackendCpubound), (0x816B, .stallBackendBusy),
   (0x816C, .stallBackendIlock), (0x816D, .stallBackendRename), (0x816E, .stallBackendAtomic),
   (0x816F, .stallBackendMemcpyset), (0x8170, .casNearFail), (0x8171, .casNearPass),
   (0x8172, .casNearSpec), (0x8173, .casFarSpec), (0x8174, .casSpec),
   (0x8175, .lseLdSpec), (0x8176, .lseStSpec), (0x8177, .lseLdstSpec),
   (0x8178, .remoteAccessWr), (0x8179, .brnlIndnrTakenRetired), (0x817A, .blTakenRetired),
   (0x817B, .brnlTakenRetired), (0x817C, .blIndTakenRetired), (0x817D, .brnlIndTakenRetired),
   (0x817E, .blImmedTakenRetired), (0x817F, .brnlImmedTakenRetired), (0x8180, .brUncondRetired),
   (0x8181, .brCondRetired), (0x8182, .brCondTakenRetired), (0x8183, .brHintCondRetired),
   (0x8184, .brHintCondPredRetired), (0x8185, .brHintCondMisPredRetired), (0x8186, .uopRetired),
   (0x8188, .dtlbWalkBlock), (0x8189, .itlbWalkBlock)]

/-- Event numbers from 0x818A to 0x81AA. -/
def page81_4 : List (Nat × Instr) :=
  [(0x818A, .dtlbWalkPage), (0x818B, .itlbWalkPage), (0x818D, .busReqRd),
   (0x818E, .busReqWr), (0x818F, .busReq), (0x8190, .isnpHitRd),
   (0x8191, .isnpHitNearRd), (0x8192, .isnpHitFarRd), (0x8193, .isnpHitRemoteRd),
   (0x8194, .dsnpHitRd), (0x8195, .dsnpHitNearRd), (0x8196, .dsnpHitFarRd),
   (0x8197, .dsnpHitRemoteRd), (0x8198, .dsnpHitWr), (0x8199, .dsnpHitNearWr),
   (0x819A, .dsnpHitFarWr), (0x819B, .dsnpHitRemoteWr), (0x819C, .dsnpHitRw),
   (0x819D, .dsnpHitNearRw), (0x819E, .dsnpHitFarRw), (0x819F, .dsnpHitRemoteRw),
   (0x81A0, .dsnpHitPrfm), (0x81A1, .dsnpHitNearPrfm), (0x81A2, .dsnpHitFarPrfm),
   (0x81A3, .dsnpHitRemotePrfm), (0x81A4, .dsnpHitHwprf), (0x81A5, .dsnpHitNearHwprf),
   (0x81A6, .dsnpHitFarHwprf), (0x81A7, .dsnpHitRemoteHwprf), (0x81A8, .isnpHitPrfm),
   (0x81A9, .isnpHitNearPrfm), (0x81AA, .isnpHitFarPrfm)]

/-- Event numbers from 0x81AB to 0x81CE. -/
def page81_5 : List (Nat × Instr) :=
  [(0x81AB, .isnpHitRemotePrfm), (0x81AC, .isnpHitHwprf), (0x81AD, .isnpHitNearHwprf),
   (0x81AE, .isnpHitFarHwprf), (0x81AF, .isnpHitRemoteHwprf), (0x81B0, .isnpHit),
   (0x81B1, .isnpHitNear), (0x81B2, .isnpHitFar), (0x81B3, .isnpHitRemote),
   (0x81B4, .dsnpHit), (0x81B5, .dsnpHitNear), (0x81B6, .dsnpHitFar),
   (0x81B7, .dsnpHitRemote), (0x81B8, .l1iCacheRefillHwprf), (0x81B9, .l2iCacheRefillHwprf),
   (0x81BC, .l1dCacheRefillHwprf), (0x81BD, .l2dCacheRefillHwprf), (0x81BE, .l3dCacheRefillHwprf),
   (0x81BF, .llCacheRefillHwprf), (0x81C0, .l1iCacheHitRd), (0x81C1, .l2iCacheHitRd),
   (0x81C4, .l1dCacheHitRd), (0x81C5, .l2dCacheHitRd), (0x81C6, .l3dCacheHitRd),
   (0x81C7, .llCacheHitRd), (0x81C8, .l1dCacheHitWr), (0x81C9, .l2dCacheHitWr),
   (0x81CA, .l3dCacheHitWr), (0x81CB, .llCacheHitWr), (0x81CC, .l1dCacheHitRw),
   (0x81CD, .l2dCacheHitRw), (0x81CE, .l3dCacheHitRw)]

/-- Event numbers from 0x81CF to 0x81F4. -/
def page81_6 : List (Nat × Instr) :=
  [(0x81CF, .llCacheHitRw), (0x81D0, .l1iCacheHitRdFprfm), (0x81D1, .l2iCacheHitRdFprfm),
   (0x81D4, .l1dCacheHitRdFprfm), (0x81D5, .l2dCacheHitRdFprfm), (0x81D6, .l3dCacheHitRdFprfm),
   (0x81D7, .llCacheHitRdFprfm), (0x81D8, .l1dCacheHitWrFprfm), (0x81D9, .l2dCacheHitWrFprfm),
   (0x81DA, .l3dCacheHitWrFprfm), (0x81DB, .llCacheHitWrFprfm), (0x81DC, .l1dCacheHitRwFprfm),
   (0x81DD, .l2dCacheHitRwFprfm), (0x81DE, .l3dCacheHitRwFprfm), (0x81DF, .llCacheHitRwFprfm),
   (0x81E0, .l1iCacheHitRdFhwprf), (0x81E1, .l2iCacheHitRdFhwprf), (0x81E4, .l1dCacheHitRdFhwprf),
   (0x81E5, .l2dCacheHitRdFhwprf), (0x81E6, .l3dCacheHitRdFhwprf), (0x81E7, .llCacheHitRdFhwprf),
   (0x81E8, .l1dCacheHitWrFhwprf), (0x81E9, .l2dCacheHitWrFhwprf), (0x81EA, .l3dCacheHitWrFhwprf),
   (0x81EB, .llCacheHitWrFhwprf), (0x81EC, .l1dCacheHitRwFhwprf), (0x81ED, .l2dCacheHitRwFhwprf),
   (0x81EE, .l3dCacheHitRwFhwprf), (0x81EF, .llCacheHitRwFhwprf), (0x81F0, .l1iCacheHitRdFprf),
   (0x81F1, .l2iCacheHitRdFprf), (0x81F4, .l1dCacheHitRdFprf)]

/-- Event numbers from 0x81F5 to 0x81FF. -/
def page81_7 : List (Nat × Instr) :=
  [(0x81F5, .l2dCacheHitRdFprf), (0x81F6, .l3dCacheHitRdFprf), (0x81F7, .llCacheHitRdFprf),
   (0x81F8, .l1dCacheHitWrFprf), (0x81F9, .l2dCacheHitWrFprf), (0x81FA, .l3dCacheHitWrFprf),
   (0x81FB, .llCacheHitWrFprf), (0x81FC, .l1dCacheHitRwFprf), (0x81FD, .l2dCacheHitRwFprf),
   (0x81FE, .l3dCacheHitRwFprf), (0x81FF, .llCacheHitRwFprf)]

/-- Event numbers 0x8100 to 0x81FF. -/
def page81 : List (Nat × Instr) :=
  page81_0 ++ page81_1 ++ page81_2 ++ page81_3 ++ page81_4 ++ page81_5 ++ page81_6 ++ page81_7

/-- Event numbers from 0x8200 to 0x822B. -/
def page82_0 : List (Nat × Instr) :=
  [(0x8200, .l1iCacheHit), (0x8201, .l2iCacheHit), (0x8204, .l1dCacheHit),
   (0x8205, .l2dCacheHit), (0x8206, .l3dCacheHit), (0x8207, .llCacheHit),
   (0x8208, .l1iCacheHitPrfm), (0x8209, .l2iCacheHitPrfm), (0x820C, .l1dCacheHitPrfm),
   (0x820D, .l2dCacheHitPrfm), (0x820E, .l3dCacheHitPrfm), (0x820F, .llCacheHitPrfm),
   (0x8214, .l1dCacheHitmRd), (0x8215, .l2dCacheHitmRd), (0x8216, .l3dCacheHitmRd),
   (0x8217, .llCacheHitmRd), (0x8218, .l1dCacheHitmWr), (0x8219, .l2dCacheHitmWr),
   (0x821A, .l3dCacheHitmWr), (0x821B, .llCacheHitmWr), (0x821C, .l1dCacheHitmRw),
   (0x821D, .l2dCacheHitmRw), (0x821E, .l3dCacheHitmRw), (0x821F, .llCacheHitmRw),
   (0x8224, .dsnpHitmRd), (0x8225, .dsnpHitmNearRd), (0x8226, .dsnpHitmFarRd),
   (0x8227, .dsnpHitmRemoteRd), (0x8228, .dsnpHitmWr), (0x8229, .dsnpHitmNearWr),
   (0x822A, .dsnpHitmFarWr), (0x822B, .dsnpHitmRemoteWr)]

/-- Event numbers from 0x822C to 0x824D. -/
def page82_1 : List (Nat × Instr) :=
  [(0x822C, .dsnpHitmRw), (0x822D, .dsnpHitmNearRw), (0x822E, .dsnpHitmFarRw),
   (0x822F, .dsnpHitmRemoteRw), (0x8230, .localMem), (0x8231, .localMemRd),
   (0x8232, .localMemWr), (0x8233, .localMemRw), (0x8234, .localMemPrfm),
   (0x8235, .localMemLdRetired), (0x8236, .localMemStRetired), (0x8237, .localMemLdstRetired),
   (0x8238, .remoteMem), (0x8239, .remoteMemRd), (0x823A, .remoteMemWr),
   (0x823B, .remoteMemRw), (0x823C, .remoteMemPrfm), (0x823D, .remoteMemLdRetired),
   (0x823E, .remoteMemStRetired), (0x823F, .remoteMemLdstRetired), (0x8240, .l1iLfbHitRd),
   (0x8241, .l2iLfbHitRd), (0x8244, .l1dLfbHitRd), (0x8245, .l2dLfbHitRd),
   (0x8246, .l3dLfbHitRd), (0x8247, .llLfbHitRd), (0x8248, .l1dLfbHitWr),
   (0x8249, .l2dLfbHitWr), (0x824A, .l3dLfbHitWr), (0x824B, .llLfbHitWr),
   (0x824C, .l1dLfbHitRw), (0x824D, .l2dLfbHitRw)]

/-- Event numbers from 0x824E to 0x8271. -/
def page82_2 : List (Nat × Instr) :=
  [(0x824E, .l3dLfbHitRw), (0x824F, .llLfbHitRw), (0x8250, .l1iLfbHitRdFprfm),
   (0x8251, .l2iLfbHitRdFprfm), (0x8254, .l1dLfbHitRdFprfm), (0x8255, .l2dLfbHitRdFprfm),
   (0x8256, .l3dLfbHitRdFprfm), (0x8257, .llLfbHitRdFprfm), (0x8258, .l1dLfbHitWrFprfm),
   (0x8259, .l2dLfbHitWrFprfm), (0x825A, .l3dLfbHitWrFprfm), (0x825B, .llLfbHitWrFprfm),
   (0x825C, .l1dLfbHitRwFprfm), (0x825D, .l2dLfbHitRwFprfm), (0x825E, .l3dLfbHitRwFprfm),
   (0x825F, .llLfbHitRwFprfm), (0x8260, .l1iLfbHitRdFhwprf), (0x8261, .l2iLfbHitRdFhwprf),
   (0x8264, .l1dLfbHitRdFhwprf), (0x8265, .l2dLfbHitRdFhwprf), (0x8266, .l3dLfbHitRdFhwprf),
   (0x8267, .llLfbHitRdFhwprf), (0x8268, .l1dLfbHitWrFhwprf), (0x8269, .l2dLfbHitWrFhwprf),
   (0x826A, .l3dLfbHitWrFhwprf), (0x826B, .llLfbHitWrFhwprf), (0x826C, .l1dLfbHitRwFhwprf),
   (0x826D, .l2dLfbHitRwFhwprf), (0x826E, .l3dLfbHitRwFhwprf), (0x826F, .llLfbHitRwFhwprf),
   (0x8270, .l1iLfbHitRdFprf), (0x8271, .l2iLfbHitRdFprf)]

/-- Event numbers from 0x8274 to 0x8297. -/
def page82_3 : List (Nat × Instr) :=
  [(0x8274, .l1dLfbHitRdFprf), (0x8275, .l2dLfbHitRdFprf), (0x8276, .l3dLfbHitRdFprf),
   (0x8277, .llLfbHitRdFprf), (0x8278, .l1dLfbHitWrFprf), (0x8279, .l2dLfbHitWrFprf),
   (0x827A, .l3dLfbHitWrFprf), (0x827B, .llLfbHitWrFprf), (0x827C, .l1dLfbHitRwFprf),
   (0x827D, .l2dLfbHitRwFprf), (0x827E, .l3dLfbHitRwFprf), (0x827F, .llLfbHitRwFprf),
   (0x8280, .l1iCachePrf), (0x8281, .l2iCachePrf), (0x8284, .l1dCachePrf),
   (0x8285, .l2dCachePrf), (0x8286, .l3dCachePrf), (0x8287, .llCachePrf),
   (0x8288, .l1iCacheRefillPrf), (0x8289, .l2iCacheRefillPrf), (0x828C, .l1dCacheRefillPrf),
   (0x828D, .l2dCacheRefillPrf), (0x828E, .l3dCacheRefillPrf), (0x828F, .llCacheRefillPrf),
   (0x8290, .isnpHitPrf), (0x8291, .isnpHitNearPrf), (0x8292, .isnpHitFarPrf),
   (0x8293, .isnpHitRemotePrf), (0x8294, .dsnpHitPrf), (0x8295, .dsnpHitNearPrf),
   (0x8296, .dsnpHitFarPrf), (0x8297, .dsnpHitRemotePrf)]

/-- Event numbers from 0x8298 to 0x82BC. -/
def page82_4 : List (Nat × Instr) :=
  [(0x8298, .llCacheRw), (0x8299, .llCachePrfm), (0x829A, .llCacheRefill),
   (0x829B, .llCacheRefillPrfm), (0x829C, .llCacheWb), (0x829D, .llCacheWr),
   (0x829F, .llCacheRefillWr), (0x82A0, .memAccessRw), (0x82A1, .instFetchRd),
   (0x82A2, .memAccessPrfm), (0x82A3, .instFetchPrfm), (0x82A4, .aseSveRetired),
   (0x82A8, .ldAnyRetired), (0x82A9, .stAnyRetired), (0x82AA, .ldstAnyRetired),
   (0x82AB, .dpRetired), (0x82AC, .aseRetired), (0x82AD, .vfpRetired),
   (0x82AE, .sveRetired), (0x82AF, .cryptoRetired), (0x82B0, .l1iCacheMissRetired),
   (0x82B1, .l2iCacheMissRetired), (0x82B3, .prfRetired), (0x82B4, .l1dCacheMissLdRetired),
   (0x82B5, .l2dCacheMissLdRetired), (0x82B6, .l3dCacheMissLdRetired), (0x82B7, .llCacheMissLdRetired),
   (0x82B8, .l1dCacheMissStRetired), (0x82B9, .l2dCacheMissStRetired), (0x82BA, .l3dCacheMissStRetired),
   (0x82BB, .llCacheMissStRetired), (0x82BC, .l1dCacheMissLdstRetired)]

/-- Event numbers from 0x82BD to 0x82E4. -/
def page82_5 : List (Nat × Instr) :=
  [(0x82BD, .l2dCacheMissLdstRetired), (0x82BE, .l3dCacheMissLdstRetired), (0x82BF, .llCacheMissLdstRetired),
   (0x82C4, .l1dCacheHitmLdRetired), (0x82C5, .l2dCacheHitmLdRetired), (0x82C6, .l3dCacheHitmLdRetired),
   (0x82C7, .llCacheHitmLdRetired), (0x82C8, .l1dCacheHitmStRetired), (0x82C9, .l2dCacheHitmStRetired),
   (0x82CA, .l3dCacheHitmStRetired), (0x82CB, .llCacheHitmStRetired), (0x82CC, .l1dCacheHitmLdstRetired),
   (0x82CD, .l2dCacheHitmLdstRetired), (0x82CE, .l3dCacheHitmLdstRetired), (0x82CF, .llCacheHitmLdstRetired),
   (0x82D0, .l1iLfbHitRetired), (0x82D1, .l2iLfbHitRetired), (0x82D4, .l1dLfbHitLdRetired),
   (0x82D5, .l2dLfbHitLdRetired), (0x82D6, .l3dLfbHitLdRetired), (0x82D7, .llLfbHitLdRetired),
   (0x82D8, .l1dLfbHitStRetired), (0x82D9, .l2dLfbHitStRetired), (0x82DA, .l3dLfbHitStRetired),
   (0x82DB, .llLfbHitStRetired), (0x82DC, .l1dLfbHitLdstRetired), (0x82DD, .l2dLfbHitLdstRetired),
   (0x82DE, .l3dLfbHitLdstRetired), (0x82DF, .llLfbHitLdstRetired), (0x82E0, .l1iCacheHitRetired),
   (0x82E1, .l2iCacheHitRetired), (0x82E4, .l1dCacheHitLdRetired)]

/-- Event numbers from 0x82E5 to 0x82FF. -/
def page82_6 : List (Nat × Instr) :=
  [(0x82E5, .l2dCacheHitLdRetired), (0x82E6, .l3dCacheHitLdRetired), (0x82E7, .llCacheHitLdRetired),
   (0x82E8, .l1dCacheHitStRetired), (0x82E9, .l2dCacheHitStRetired), (0x82EA, .l3dCacheHitStRetired),
   (0x82EB, .llCacheHitStRetired), (0x82EC, .l1dCacheHitLdstRetired), (0x82ED, .l2dCacheHitLdstRetired),
   (0x82EE, .l3dCacheHitLdstRetired), (0x82EF, .llCacheHitLdstRetired), (0x82F0, .itlbHitRetired),
   (0x82F1, .dtlbHitLdRetired), (0x82F2, .dtlbHitStRetired), (0x82F3, .dtlbHitLdstRetired),
   (0x82F4, .itlbWalkRetired), (0x82F5, .dtlbWalkLdRetired), (0x82F6, .dtlbWalkStRetired),
   (0x82F7, .dtlbWalkLdstRetired), (0x82F8, .dtlbWalkPrf), (0x82F9, .itlbWalkPrf),
   (0x82FA, .dtlbWalkHwprf), (0x82FB, .itlbWalkHwprf), (0x82FC, .l1dTlbPrf),
   (0x82FD, .l1iTlbPrf), (0x82FE, .l1dTlbHwprf), (0x82FF, .l1iTlbHwprf)]

/-- Event numbers 0x8200 to 0x82FF. -/
def page82 : List (Nat × Instr) :=
  page82_0 ++ page82_1 ++ page82_2 ++ page82_3 ++ page82_4 ++ page82_5 ++ page82_6

/-- Event numbers from 0x8304 to 0x8324. -/
def page83_0 : List (Nat × Instr) :=
  [(0x8304, .dsnpHitmLdRetired), (0x8305, .dsnpHitmNearLdRetired), (0x8306, .dsnpHitmFarLdRetired),
   (0x8307, .dsnpHitmRemoteLdRetired), (0x8308, .dsnpHitmStRetired), (0x8309, .dsnpHitmNearStRetired),
   (0x830A, .dsnpHitmFarStRetired), (0x830B, .dsnpHitmRemoteStRetired), (0x830C, .dsnpHitmLdstRetired),
   (0x830D, .dsnpHitmNearLdstRetired), (0x830E, .dsnpHitmFarLdstRetired), (0x830F, .dsnpHitmRemoteLdstRetired),
   (0x8310, .isnpHitRetired), (0x8311, .isnpHitNearRetired), (0x8312, .isnpHitFarRetired),
   (0x8313, .isnpHitRemoteRetired), (0x8314, .dsnpHitLdRetired), (0x8315, .dsnpHitNearLdRetired),
   (0x8316, .dsnpHitFarLdRetired), (0x8317, .dsnpHitRemoteLdRetired), (0x8318, .dsnpHitStRetired),
   (0x8319, .dsnpHitNearStRetired), (0x831A, .dsnpHitFarStRetired), (0x831B, .dsnpHitRemoteStRetired),
   (0x831C, .dsnpHitLdstRetired), (0x831D, .dsnpHitNearLdstRetired), (0x831E, .dsnpHitFarLdstRetired),
   (0x831F, .dsnpHitRemoteLdstRetired), (0x8320, .l1dCacheRefillPercyc), (0x8321, .l2dCacheRefillPercyc),
   (0x8322, .l3dCacheRefillPercyc), (0x8324, .l1iCacheRefillPercyc)]

/-- Event numbers from 0x8325 to 0x8350. -/
def page83_1 : List (Nat × Instr) :=
  [(0x8325, .l2iCacheRefillPercyc), (0x8328, .remoteCacheHitRd), (0x8329, .remoteCacheHitmRd),
   (0x832A, .remoteLfbHitRd), (0x832B, .remoteCacheHitPrfm), (0x832C, .stallBackendAtomicFp),
   (0x832D, .lseFpLdSpec), (0x832E, .lseFpStSpec), (0x832F, .lseFpLdstSpec),
   (0x8330, .l1gcsCache), (0x8331, .l1gcsCacheRw), (0x8332, .l1gcsCacheHwprf),
   (0x8334, .l1gcsCacheMiss), (0x8335, .l1gcsCacheMissRd), (0x8336, .l1gcsCacheHitRw),
   (0x8337, .l1gcsCacheHitRwFhwprf), (0x8338, .l1gcsCacheRefill), (0x8339, .l1gcsCacheRefillHwprf),
   (0x833A, .l1gcsCacheRefillPercyc), (0x833C, .l1gcsLfbHitRw), (0x833D, .l1gcsLfbHitRwFhwprf),
   (0x833E, .l1gcsCacheInval), (0x8340, .l1gcsTlb), (0x8341, .l1gcsTlbRw),
   (0x8342, .l1gcsTlbHwprf), (0x8344, .gcstlbWalk), (0x8345, .gcstlbWalkRw),
   (0x8346, .gcstlbWalkPercyc), (0x8347, .gcstlbWalkStep), (0x8348, .sampleFeedFp),
   (0x8349, .sampleFeedSimd), (0x8350, .stallBackendL1gcs)]

/-- Event numbers from 0x8351 to 0x8371. -/
def page83_2 : List (Nat × Instr) :=
  [(0x8351, .stallBackendGcstlb), (0x8352, .smeFpSpec), (0x8353, .seFpSpec),
   (0x8354, .sveCmpIgranuleSpec), (0x8355, .sveCmpXgranuleSpec), (0x8356, .sveBitpermSpec),
   (0x8358, .smeRetired), (0x8359, .seRetired), (0x835A, .smeInstRetired),
   (0x835B, .seInstRetired), (0x835C, .smeSpec), (0x835D, .seSpec),
   (0x835E, .smeInstSpec), (0x835F, .seInstSpec), (0x8360, .smeInt8Spec),
   (0x8361, .seInt8Spec), (0x8362, .smeFpBf16Spec), (0x8363, .seFpBf16Spec),
   (0x8364, .smeInt16Spec), (0x8365, .seInt16Spec), (0x8366, .smeFpHpSpec),
   (0x8367, .seFpHpSpec), (0x8368, .smeInt32Spec), (0x8369, .seInt32Spec),
   (0x836A, .smeFpSpSpec), (0x836B, .seFpSpSpec), (0x836C, .smeInt64Spec),
   (0x836D, .seInt64Spec), (0x836E, .smeFpDpSpec), (0x836F, .seFpDpSpec),
   (0x8370, .smeFpAddsubSpec), (0x8371, .seFpAddsubSpec)]

/-- Event numbers from 0x8372 to 0x8399. -/
def page83_3 : List (Nat × Instr) :=
  [(0x8372, .smeFpFmaSpec), (0x8373, .seFpFmaSpec), (0x8374, .smeFpDotSpec),
   (0x8375, .seFpDotSpec), (0x8376, .smeFpMopaSpec), (0x8378, .smeIntSpec),
   (0x8379, .seIntSpec), (0x837A, .smeIntMulSpec), (0x837B, .seIntMulSpec),
   (0x837C, .smeIntDotSpec), (0x837D, .seIntDotSpec), (0x837E, .smeIntMopaSpec),
   (0x8380, .zaActive), (0x8381, .smePred2NotFullSpec), (0x8384, .smePred2Spec),
   (0x8385, .smePred2EmptySpec), (0x8386, .smePred2FullSpec), (0x8387, .smePred2PartialSpec),
   (0x8388, .smeLdstZaregSpec), (0x8389, .smeLdZaregSpec), (0x838A, .smeStZaregSpec),
   (0x838C, .smeLdstZtregSpec), (0x838D, .smeLdZtregSpec), (0x838E, .smeStZtregSpec),
   (0x8390, .smeLdstRegSpec), (0x8391, .smeLdRegSpec), (0x8392, .smeStRegSpec),
   (0x8394, .smeLdstTileSpec), (0x8395, .smeLdTileSpec), (0x8396, .smeStTileSpec),
   (0x8398, .aseLutSpec), (0x8399, .sveLutSpec)]

/-- Event numbers from 0x839A to 0x83BD. -/
def page83_4 : List (Nat × Instr) :=
  [(0x839A, .smeLutSpec), (0x839B, .seLutSpec), (0x83A0, .n1CacheHitRd),
   (0x83A1, .n2CacheHitRd), (0x83A2, .n3CacheHitRd), (0x83A3, .n4CacheHitRd),
   (0x83A4, .n1CacheHitPrfm), (0x83A5, .n2CacheHitPrfm), (0x83A6, .n3CacheHitPrfm),
   (0x83A7, .n4CacheHitPrfm), (0x83A8, .n1Cache1HitRd), (0x83A9, .n2Cache1HitRd),
   (0x83AA, .n3Cache1HitRd), (0x83AB, .n4Cache1HitRd), (0x83AC, .n1Cache1HitPrfm),
   (0x83AD, .n2Cache1HitPrfm), (0x83AE, .n3Cache1HitPrfm), (0x83AF, .n4Cache1HitPrfm),
   (0x83B0, .n1Cache2HitRd), (0x83B1, .n2Cache2HitRd), (0x83B2, .n3Cache2HitRd),
   (0x83B3, .n4Cache2HitRd), (0x83B4, .n1Cache2HitPrfm), (0x83B5, .n2Cache2HitPrfm),
   (0x83B6, .n3Cache2HitPrfm), (0x83B7, .n4Cache2HitPrfm), (0x83B8, .n1Cache3HitRd),
   (0x83B9, .n2Cache3HitRd), (0x83BA, .n3Cache3HitRd), (0x83BB, .n4Cache3HitRd),
   (0x83BC, .n1Cache3HitPrfm), (0x83BD, .n2Cache3HitPrfm)]

/-- Event numbers from 0x83BE to 0x83DD. -/
def page83_5 : List (Nat × Instr) :=
  [(0x83BE, .n3Cache3HitPrfm), (0x83BF, .n4Cache3HitPrfm), (0x83C0, .n1CacheHitmRd),
   (0x83C1, .n2CacheHitmRd), (0x83C2, .n3CacheHitmRd), (0x83C3, .n4CacheHitmRd),
   (0x83C4, .n1LfbHitRd), (0x83C5, .n2LfbHitRd), (0x83C6, .n3LfbHitRd),
   (0x83C7, .n4LfbHitRd), (0x83C8, .n1Cache1HitmRd), (0x83C9, .n2Cache1HitmRd),
   (0x83CA, .n3Cache1HitmRd), (0x83CB, .n4Cache1HitmRd), (0x83CC, .n1Lfb1HitRd),
   (0x83CD, .n2Lfb1HitRd), (0x83CE, .n3Lfb1HitRd), (0x83CF, .n4Lfb1HitRd),
   (0x83D0, .n1Cache2HitmRd), (0x83D1, .n2Cache2HitmRd), (0x83D2, .n3Cache2HitmRd),
   (0x83D3, .n4Cache2HitmRd), (0x83D4, .n1Lfb2HitRd), (0x83D5, .n2Lfb2HitRd),
   (0x83D6, .n3Lfb2HitRd), (0x83D7, .n4Lfb2HitRd), (0x83D8, .n1Cache3HitmRd),
   (0x83D9, .n2Cache3HitmRd), (0x83DA, .n3Cache3HitmRd), (0x83DB, .n4Cache3HitmRd),
   (0x83DC, .n1Lfb3HitRd), (0x83DD, .n2Lfb3HitRd)]

/-- Event numbers from 0x83DE to 0x83FD. -/
def page83_6 : List (Nat × Instr) :=
  [(0x83DE, .n3Lfb3HitRd), (0x83DF, .n4Lfb3HitRd), (0x83E0, .n1MemRd),
   (0x83E1, .n2MemRd), (0x83E2, .n3MemRd), (0x83E3, .n4MemRd),
   (0x83E4, .n1MemPrfm), (0x83E5, .n2MemPrfm), (0x83E6, .n3MemPrfm),
   (0x83E7, .n4MemPrfm), (0x83E8, .n1Mem1Rd), (0x83E9, .n2Mem1Rd),
   (0x83EA, .n3Mem1Rd), (0x83EB, .n4Mem1Rd), (0x83EC, .n1Mem1Prfm),
   (0x83ED, .n2Mem1Prfm), (0x83EE, .n3Mem1Prfm), (0x83EF, .n4Mem1Prfm),
   (0x83F0, .n1Mem2Rd), (0x83F1, .n2Mem2Rd), (0x83F2, .n3Mem2Rd),
   (0x83F3, .n4Mem2Rd), (0x83F4, .n1Mem2Prfm), (0x83F5, .n2Mem2Prfm),
   (0x83F6, .n3Mem2Prfm), (0x83F7, .n4Mem2Prfm), (0x83F8, .n1Mem3Rd),
   (0x83F9, .n2Mem3Rd), (0x83FA, .n3Mem3Rd), (0x83FB, .n4Mem3Rd),
   (0x83FC, .n1Mem3Prfm), (0x83FD, .n2Mem3Prfm)]

/-- Event numbers from 0x83FE to 0x83FF. -/
def page83_7 : List (Nat × Instr) :=
  [(0x83FE, .n3Mem3Prfm), (0x83FF, .n4Mem3Prfm)]

/-- Event numbers 0x8300 to 0x83FF. -/
def page83 : List (Nat × Instr) :=
  page83_0 ++ page83_1 ++ page83_2 ++ page83_3 ++ page83_4 ++ page83_5 ++ page83_6 ++ page83_7

/-- Event numbers from 0x8400 to 0x841F. -/
def page84_0 : List (Nat × Instr) :=
  [(0x8400, .isnpHitN1Rd), (0x8401, .isnpHitN2Rd), (0x8402, .isnpHitN3Rd),
   (0x8403, .isnpHitN4Rd), (0x8404, .dsnpHitN1Rd), (0x8405, .dsnpHitN2Rd),
   (0x8406, .dsnpHitN3Rd), (0x8407, .dsnpHitN4Rd), (0x8408, .dsnpHitN1Wr),
   (0x8409, .dsnpHitN2Wr), (0x840A, .dsnpHitN3Wr), (0x840B, .dsnpHitN4Wr),
   (0x840C, .dsnpHitN1Rw), (0x840D, .dsnpHitN2Rw), (0x840E, .dsnpHitN3Rw),
   (0x840F, .dsnpHitN4Rw), (0x8410, .dsnpHitN1Prfm), (0x8411, .dsnpHitN2Prfm),
   (0x8412, .dsnpHitN3Prfm), (0x8413, .dsnpHitN4Prfm), (0x8414, .dsnpHitN1Hwprf),
   (0x8415, .dsnpHitN2Hwprf), (0x8416, .dsnpHitN3Hwprf), (0x8417, .dsnpHitN4Hwprf),
   (0x8418, .isnpHitN1Prfm), (0x8419, .isnpHitN2Prfm), (0x841A, .isnpHitN3Prfm),
   (0x841B, .isnpHitN4Prfm), (0x841C, .isnpHitN1Hwprf), (0x841D, .isnpHitN2Hwprf),
   (0x841E, .isnpHitN3Hwprf), (0x841F, .isnpHitN4Hwprf)]

/-- Event numbers from 0x8420 to 0x8442. -/
def page84_1 : List (Nat × Instr) :=
  [(0x8420, .dsnpHitN1Prf), (0x8421, .dsnpHitN2Prf), (0x8422, .dsnpHitN3Prf),
   (0x8423, .dsnpHitN4Prf), (0x8424, .isnpHitN1Prf), (0x8425, .isnpHitN2Prf),
   (0x8426, .isnpHitN3Prf), (0x8427, .isnpHitN4Prf), (0x8428, .isnpHitN1),
   (0x8429, .isnpHitN2), (0x842A, .isnpHitN3), (0x842B, .isnpHitN4),
   (0x842C, .dsnpHitN1), (0x842D, .dsnpHitN2), (0x842E, .dsnpHitN3),
   (0x842F, .dsnpHitN4), (0x8431, .aseFpVreduceSpec), (0x8432, .sveFpPreduceSpec),
   (0x8434, .dsnpHitmN1Rd), (0x8435, .dsnpHitmN2Rd), (0x8436, .dsnpHitmN3Rd),
   (0x8437, .dsnpHitmN4Rd), (0x8438, .dsnpHitmN1Wr), (0x8439, .dsnpHitmN2Wr),
   (0x843A, .dsnpHitmN3Wr), (0x843B, .dsnpHitmN4Wr), (0x843C, .dsnpHitmN1Rw),
   (0x843D, .dsnpHitmN2Rw), (0x843E, .dsnpHitmN3Rw), (0x843F, .dsnpHitmN4Rw),
   (0x8440, .aseFpSpMinSpec), (0x8442, .aseFpHpMinSpec)]

/-- Event numbers from 0x8443 to 0x8490. -/
def page84_2 : List (Nat × Instr) :=
  [(0x8443, .aseFpBf16MinSpec), (0x8444, .aseFpFp8MinSpec), (0x8448, .aseSveFpSpMinSpec),
   (0x844A, .aseSveFpHpMinSpec), (0x844B, .aseSveFpBf16MinSpec), (0x844C, .aseSveFpFp8MinSpec),
   (0x8450, .seFpSpMinSpec), (0x8452, .seFpHpMinSpec), (0x8453, .seFpBf16MinSpec),
   (0x8454, .seFpFp8MinSpec), (0x8458, .smeFpSpMinSpec), (0x845A, .smeFpHpMinSpec),
   (0x845B, .smeFpBf16MinSpec), (0x845C, .smeFpFp8MinSpec), (0x8460, .sveFpSpMinSpec),
   (0x8462, .sveFpHpMinSpec), (0x8463, .sveFpBf16MinSpec), (0x8464, .sveFpFp8MinSpec),
   (0x846B, .fpBf16FixedOpsSpec), (0x8470, .fpSpMinSpec), (0x8472, .fpHpMinSpec),
   (0x8473, .fpBf16MinSpec), (0x8474, .fpFp8MinSpec), (0x8480, .fpSpFixedMinOpsSpec),
   (0x8482, .fpHpFixedMinOpsSpec), (0x8483, .fpBf16FixedMinOpsSpec), (0x8484, .fpFp8FixedMinOpsSpec),
   (0x8488, .fpSpScaleMinOpsSpec), (0x848A, .fpHpScaleMinOpsSpec), (0x848B, .fpBf16ScaleMinOpsSpec),
   (0x848C, .fpFp8ScaleMinOpsSpec), (0x8490, .fpSpScale2MinOpsSpec)]

/-- Event numbers from 0x8492 to 0x8494. -/
def page84_3 : List (Nat × Instr) :=
  [(0x8492, .fpHpScale2MinOpsSpec), (0x8493, .fpBf16Scale2MinOpsSpec), (0x8494, .fpFp8Scale2MinOpsSpec)]

/-- Event numbers 0x8400 to 0x84FF. -/
def page84 : List (Nat × Instr) :=
  page84_0 ++ page84_1 ++ page84_2 ++ page84_3

/-- The assigned numbers with a given high byte. -/
def tablePage : Nat → List (Nat × Instr)
  | 0x00 => page00
  | 0x40 => page40
  | 0x80 => page80
  | 0x81 => page81
  | 0x82 => page82
  | 0x83 => page83
  | 0x84 => page84
  | _ => []

/-- The event a page assigns to a number. -/
def lookupNat (x : Nat) : List (Nat × Instr) → Option Instr
  | [] => none
  | (n, i) :: rest => if n = x then some i else lookupNat x rest

/-- The event assigned to a number, if one is (30_encoding.md R90, R98: a number with no rule has none). -/
def decodeWord (w : EvtWord) : Option Instr :=
  lookupNat w.toNat (tablePage (w.toNat / 256))

/-- Membership of a set of events. -/
def EventSet.mem (e : Instr) : EventSet → Bool
  | .only l => l.contains e
  | .except l => !l.contains e

/-- have(F) (00_scope.md R8). -/
def Impl.has (impl : Impl) (f : Feature) : Bool := impl.features.contains f

/-- The 76 events that without FEAT_PMUv3p8 are IMPLEMENTATION DEFINED events (30_encoding.md R99, item U19). -/
def isU19 : Instr → Bool
  | .excUndef => true
  | .excSvc => true
  | .excPabort => true
  | .excDabort => true
  | .excIrq => true
  | .excFiq => true
  | .excSmc => true
  | .excHvc => true
  | .excTrapPabort => true
  | .excTrapDabort => true
  | .excTrapOther => true
  | .excTrapIrq => true
  | .excTrapFiq => true
  | .l1dCacheRd => true
  | .l1dCacheWr => true
  | .l1dCacheRefillRd => true
  | .l1dCacheRefillWr => true
  | .l1dCacheRefillInner => true
  | .l1dCacheRefillOuter => true
  | .l1dCacheWbVictim => true
  | .l1dCacheWbClean => true
  | .l1dCacheInval => true
  | .l1dTlbRefillRd => true
  | .l1dTlbRefillWr => true
  | .l1dTlbRd => true
  | .l1dTlbWr => true
  | .l2dCacheRd => true
  | .l2dCacheWr => true
  | .l2dCacheRefillRd => true
  | .l2dCacheRefillWr => true
  | .l2dCacheWbVictim => true
  | .l2dCacheWbClean => true
  | .l2dCacheInval => true
  | .l2dTlbRefillRd => true
  | .l2dTlbRefillWr => true
  | .l2dTlbRd => true
  | .l2dTlbWr => true
  | .busAccessRd => true
  | .busAccessWr => true
  | .busAccessShared => true
  | .busAccessNotShared => true
  | .busAccessNormal => true
  | .busAccessPeriph => true
  | .memAccessRd => true
  | .memAccessWr => true
  | .unalignedLdSpec => true
  | .unalignedStSpec => true
  | .unalignedLdstSpec => true
  | .ldrexSpec => true
  | .strexPassSpec => true
  | .strexFailSpec => true
  | .strexSpec => true
  | .ldSpec => true
  | .stSpec => true
  | .ldstSpec => true
  | .dpSpec => true
  | .aseSpec => true
  | .vfpSpec => true
  | .pcWriteSpec => true
  | .cryptoSpec => true
  | .brImmedSpec => true
  | .brReturnSpec => true
  | .brIndirectSpec => true
  | .isbSpec => true
  | .dsbSpec => true
  | .dmbSpec => true
  | .csdbSpec => true
  | .rcLdSpec => true
  | .rcStSpec => true
  | .l3dCacheRd => true
  | .l3dCacheWr => true
  | .l3dCacheRefillRd => true
  | .l3dCacheRefillWr => true
  | .l3dCacheWbVictim => true
  | .l3dCacheWbClean => true
  | .l3dCacheInval => true
  | _ => false

/-- U19_MEANING of an event (30_encoding.md R99). -/
def Impl.u19Meaning (impl : Impl) (e : Instr) : U19Meaning :=
  match impl.u19.find? (fun q => q.1 = e) with
  | some q => q.2
  | none => .assigned

/-- The number of `e` fits the field (30_encoding.md R94). -/
def Instr.fits (impl : Impl) (e : Instr) : Bool := (encode e).toNat < 2 ^ impl.evtCountWidth

/-- implemented(E): the number of `e` is used for `e` (30_encoding.md R92, R94, R99). -/
def Impl.uses (impl : Impl) (e : Instr) : Bool :=
  impl.implemented.mem e && Instr.fits impl e && (!isU19 e || impl.has .pmuv3p8 || impl.u19Meaning e = .assigned)

/-- The other event that the number of `e` is used for, where U19 releases it from `e` (30_encoding.md R99). -/
def Impl.otherUse (impl : Impl) (e : Instr) : Option Instr :=
  match impl.u19Meaning e with
  | .other x => if isU19 e && !impl.has .pmuv3p8 then x else none
  | _ => none

/-- decode of 30_encoding.md R103: the IMPLEMENTATION DEFINED range first, then the assigned and implemented numbers, and the other
event of a number of U19 (R99). -/
def decodeFor (impl : Impl) (w : EvtWord) : Option Instr :=
  match impl.impdefRange.find? (fun q => q.1 = w) with
  | some q => q.2
  | none =>
    match decodeWord w with
    | some e => if impl.uses e then some e else impl.otherUse e
    | none => none

/-- The event number that stands in the low bits of `w`: one 16-bit word; a word with a bit above it is no event number. -/
def decodeTableWord (nbits w : Nat) : Option Instr :=
  if w % 2 ^ nbits < 2 ^ 16 then decodeWord (BitVec.ofNat 16 (w % 2 ^ nbits)) else none

end Sys2Proof
end

