-- ==== Sys2Proof/WellFormed.lean ====
section
/-!
DEFINITION. What the spec demands of the parameters of an implementation. An event has no operand, so nothing of the syntax can be
ill-formed but an event number that does not fit the field (30_encoding.md R94).
-/

namespace Sys2Proof

/-- EVTCOUNT_WIDTH is 10 to 16 (00_scope.md R6). -/
def Impl.widthOk (impl : Impl) : Bool := 10 ≤ impl.evtCountWidth && impl.evtCountWidth ≤ 16

/-- Counter indices satisfy n ≤ 30 (10_state.md R32). -/
def Impl.countersOk (impl : Impl) : Bool := impl.numCounters ≤ 31

/-- slots is at least 1 (00_scope.md R6). -/
def Impl.slotsOk (impl : Impl) : Bool := 1 ≤ impl.slots

/-- A listed IMPLEMENTED holds only numbers that fit the field; a complement is cut to them by `Impl.uses`
(30_encoding.md R94). -/
def Impl.implementedOk (impl : Impl) : Bool :=
  match impl.implemented with
  | .only l => l.all (Instr.fits impl)
  | .except _ => true

/-- IMPDEF_RANGE maps numbers outside the assigned set (30_encoding.md R93). -/
def Impl.impdefOk (impl : Impl) : Bool := impl.impdefRange.all (fun q => (decodeWord q.1).isNone)

/-- The RAO bits are those of system-generated events (30_encoding.md R96). -/
def Impl.raoOk (impl : Impl) : Bool := impl.raoBits.all impl.systemGenerated.contains

/-- GCSTLB_WALK_STEP requires FEAT_E0PD (0x8347, rule R1137). -/
def Impl.gcsStepOk (impl : Impl) : Bool := !impl.uses .gcstlbWalkStep || impl.has .e0pd

/-- STALL_BACKEND_L1GCS requires L1GCS_CACHE (0x8350, rule R1140). -/
def Impl.gcsCacheStallOk (impl : Impl) : Bool :=
  !impl.uses .stallBackendL1gcs || impl.uses .l1gcsCache

/-- STALL_BACKEND_GCSTLB requires L1GCS_TLB (0x8351, rule R1141). -/
def Impl.gcsTlbStallOk (impl : Impl) : Bool :=
  !impl.uses .stallBackendGcstlb || impl.uses .l1gcsTlb

/-- Resources shared outside the multithreaded processor are shared (40_common_event_rules.md R129 (c)). -/
def Impl.sharedOk (impl : Impl) : Bool := impl.sharedOutside.all impl.shared.contains

/-- The parameters are ones the spec allows. -/
def Impl.wellFormed (impl : Impl) : Bool :=
  impl.widthOk && impl.countersOk && impl.slotsOk && impl.implementedOk && impl.impdefOk && impl.raoOk
    && impl.gcsStepOk && impl.gcsCacheStallOk && impl.gcsTlbStallOk && impl.sharedOk

end Sys2Proof
end

