-- ==== Sys2Proof/Machine/State.lean ====
section
/-!
DEFINITION. The state of the machine, as plain data (10_state.md R20), and the state after reset. There is no memory
(20_memory.md R70, R74).
-/

namespace Sys2Proof.Machine

/-- A control whose Effective value can differ from the value written (70_reset_and_hazards.md R1552 (g)). -/
structure Ctl (α : Type) where
  written : α
  /-- The value another control forces, supplied by the environment. -/
  forced : Option α := none
  deriving DecidableEq, Repr

/-- Filter[n] (10_state.md R26, decision D4): the contexts in which the counter counts. -/
inductive Filter where
  | all
  | none
  | only (l : List Ctx)
  | except (l : List Ctx)
  deriving DecidableEq, Repr

/-- One event counter with its event type register (10_state.md R26, R27). -/
structure Counter where
  /-- PMEVTYPER<n>_EL0.evtCount (R26). -/
  evtCount : EvtWord := 0
  /-- PMEVCNTR<n>_EL0 (R27). -/
  count : CountWord := 0
  /-- PMEVTYPER<n>_EL0.MT (R26). -/
  mt : Ctl Bool := { written := false }
  /-- Filter[n] (R26). -/
  filter : Filter := .all
  /-- chain_filter_all(n): software programmed the counter to count CHAIN in all Exception levels and states
  (40_common_event_rules.md R126). -/
  chainFilterAll : Bool := true
  deriving DecidableEq, Repr

/-- The PMU of one PE (10_state.md R20). -/
structure Pe where
  counters : List Counter
  /-- PMCCNTR_EL0 (R28). -/
  pmccntr : CountWord := 0
  /-- PMICNTR_EL0 (R29). -/
  pmicntr : CountWord := 0
  /-- PMCR_EL0.LP (R30). -/
  lp : Ctl Bool := { written := false }
  /-- PMCR_EL0.LC (R30). -/
  lc : Ctl Bool := { written := false }
  /-- MDCR_EL2.HPMN (R33). -/
  hpmn : Ctl Nat
  /-- MDCR_EL2.HLP (R33). -/
  hlp : Ctl Bool := { written := false }
  /-- PMCCR.EPMN (R35). -/
  epmn : Ctl Nat
  /-- PMINTENSET_EL1[31:0] (R32). -/
  inten : BitVec 32 := 0
  /-- PMINTENSET_EL1.F0 (R32). -/
  f0 : Bool := false
  /-- TRFCR_EL2.E2TRE (R37). -/
  e2tre : Bool := false
  /-- SelfHostedTraceEnabled() (R37). -/
  selfHosted : Bool := false
  deriving DecidableEq, Repr

/-- One unsigned overflow (40_common_event_rules.md R121, R127). -/
structure OverflowCause where
  source : OverflowSource
  ovf32 : Bool
  ovf64 : Bool
  /-- export_allowed of this overflow, as the environment supplies it (R128). -/
  exportAllowed : Bool
  deriving DecidableEq, Repr

/-- What a counter or a consumer is offered. -/
inductive Happening where
  /-- An occurrence, with the serial number of its draws. -/
  | occurs (serial : Nat) (o : Occurrence)
  /-- A write of PMSWINC by PE `writer` (40_common_event_rules.md R125). -/
  | pmswincWrite (writer : Nat) (v : BitVec 64) (ctx : Ctx) (withheld : List OverflowSource)
  /-- The preceding even counter overflowed bits [31:0] (R126). -/
  | lowOverflow (serial : Nat) (withheld : List OverflowSource)
  /-- A PMU counter overflowed (R127, R128). -/
  | overflow (cause : OverflowCause)
  deriving DecidableEq, Repr

/-- To whom a happening is offered. -/
inductive Sink where
  /-- Event counter n of PE p. -/
  | counter (p n : Nat)
  /-- A consumer outside the PMU of the event with this number (30_encoding.md R102). -/
  | consumer (word : EvtWord)
  deriving DecidableEq, Repr

/-- A happening offered to a sink: the machine's next piece of work. -/
structure Offer where
  happening : Happening
  sink : Sink
  deriving DecidableEq, Repr

/-- The control fields that `write_control` writes and whose Effective value the environment can set
(70_reset_and_hazards.md R1552 (g)). -/
inductive ControlField where
  | lp (v : Bool)
  | lc (v : Bool)
  | hpmn (v : Nat)
  | hlp (v : Bool)
  | epmn (v : Nat)
  deriving DecidableEq, Repr

/-- A field whose forced value is removed. -/
inductive ControlName where
  | lp | lc | hpmn | hlp | epmn
  deriving DecidableEq, Repr

/-- A step of the host or of the environment (70_reset_and_hazards.md R1552). -/
inductive Input where
  /-- The environment supplies an occurrence; the counters named in `order` are offered it first (decision D12). -/
  | occurrence (o : Occurrence) (order : List (Nat × Nat))
  /-- (a) write_PMSWINC(p, v). -/
  | writePmswinc (p : Nat) (v : BitVec 64) (ctx : Ctx) (withheld : List OverflowSource) (order : List (Nat × Nat))
  /-- (b) read_PMCEID(p, r) in AArch64 state. -/
  | readPmceid (p r : Nat)
  /-- (b) read_PMCEID(p, r) in AArch32 state. -/
  | readPmceid32 (p r : Nat)
  /-- (c) read_PMEVCNTR(p, n). -/
  | readPmevcntr (p n : Nat)
  /-- (d) write_PMEVTYPER(p, n, e, mt, f). -/
  | writePmevtyper (p n e : Nat) (mt : Bool) (f : Filter)
  /-- (e) write_PMEVCNTR(p, n, x). -/
  | writePmevcntr (p n x : Nat)
  /-- (f) reset_event_counters(p), PMCR.P. -/
  | resetEventCounters (p : Nat)
  /-- PMCR.C: the reset of the cycle counter (R1550). -/
  | resetCycleCounter (p : Nat)
  /-- (g) write_control of a field. -/
  | writeControl (p : Nat) (f : ControlField)
  /-- (g) write_control of PMINTENSET bit n. -/
  | writeInten (p n : Nat) (v : Bool)
  /-- (g) write_control of PMINTENSET.F0. -/
  | writeF0 (p : Nat) (v : Bool)
  /-- read_PMSWINC(p): refused. -/
  | readPmswinc (p : Nat)
  /-- The environment forces the Effective value of a field. -/
  | forceControl (p : Nat) (f : ControlField)
  /-- The environment releases a field. -/
  | releaseControl (p : Nat) (f : ControlName)
  /-- The environment forces or releases the Effective value of MT[n]. -/
  | forceMt (p n : Nat) (v : Option Bool)
  /-- The environment states chain_filter_all(n) (40_common_event_rules.md R126). -/
  | stateChainFilterAll (p n : Nat) (v : Bool)
  /-- The environment supplies TRFCR_EL2.E2TRE and SelfHostedTraceEnabled() (40_common_event_rules.md R128). -/
  | stateTrace (p : Nat) (e2tre selfHosted : Bool)
  /-- A cycle counted by PMCCNTR_EL0 (40_common_event_rules.md R127 (b)). -/
  | cycleCounted (p : Nat) (exportAllowed : Bool)
  /-- An instruction counted by PMICNTR_EL0 (R127 (c)). -/
  | instructionCounted (p : Nat) (exportAllowed : Bool)
  deriving DecidableEq, Repr

/-- What the machine answers and delivers. -/
inductive Output where
  /-- The value a read returned. -/
  | value (p : Nat) (v : CountWord)
  /-- An occurrence of PMU_OVFS or PMU_HOVFS, and whether it is exported to a trace unit (R127, R128). -/
  | overflow (e : Instr) (cause : OverflowCause) (exported : Bool)
  deriving DecidableEq, Repr

/-- The state (10_state.md R20), with the parameters and the model's own fields `agenda`, `inputs`, `draws` and `out`. -/
structure State where
  /-- The parameters of the implementation; no step changes them. -/
  impl : Impl
  /-- The PMU of each PE. -/
  pes : List Pe
  /-- What is offered and not yet executed, in order. -/
  agenda : List Offer
  /-- What the host and the environment will do, oldest first. -/
  inputs : List Input
  /-- The serial number of the next draw. -/
  draws : Nat
  /-- What has been answered and delivered, oldest first. -/
  out : List Output
  deriving DecidableEq, Repr

/-- No fault exists: no event raises an exception (60_exceptions.md R1500). -/
inductive Fault where
  deriving DecidableEq, Repr

/-- Why a step is refused (70_reset_and_hazards.md R1552). -/
inductive Refusal where
  /-- Raised by an arm of `exec` with no meaning; none is left. Safe: the machine stops. -/
  | notModelled (mnemonic : String)
  /-- Raised by a read of PMSWINC (10_state.md R31, decision D5). Safe: no value is returned. -/
  | readOfPmswinc
  /-- Raised by a host step on a counter n ≥ NUM_COUNTERS (R1552). Safe. -/
  | noSuchCounter
  /-- Raised by a write of a control field that is absent: HPMN, HLP without EL2, EPMN without FEAT_PMUv3_EXTPMN (R1552). Safe. -/
  | fieldAbsent
  /-- Raised by a host step on a PE that does not exist. Safe. -/
  | noSuchPe
  /-- Raised by a read of a PMCEID register that does not exist (R1552 (b)). Safe. -/
  | noSuchPmceid
  deriving DecidableEq, Repr

/-- The parameters the machine has at reset: the spec fixes none (00_scope.md R6). Log 5. -/
def resetImpl : Impl :=
  { features := [.afp, .bf16, .cmpbr, .crypto, .debugv8p2, .dotprod, .e0pd, .f8f16mm, .fcma, .fhm, .fp8dot2, .fp8dot4, .fp8fma, .gcs, .hbc, .i8mm, .lrcpc3, .nv2, .pauth, .pauthLr, .pmuv3Extpmn, .pmuv3Icntr, .pmuv3p4, .pmuv3p5, .pmuv3p8, .pmuv3p9, .rdm, .sme, .spe, .speEft, .sve, .sve2, .vhe, .armv8p6, .armv8p7, .armv9p5]
    haveEl2 := true, haveEl3 := true, aarch32Els := []
    implemented := .except [], evtCountWidth := 16, numCounters := 6, slots := 4
    multithreaded := false, affinity := [0]
    distance := [], cacheTypes := [], memTypes := []
    dczvaOps := 1, dczvaBytes := 64, scaleOps := []
    impdefRange := [], systemGenerated := [], raoBits := [], trbTrigCountable := true, u19 := []
    shared := [], sharedOutside := [], countAll := []
    resetCount := 0, resetCycleCount := 0
    dmbCp15Dsb := false, seFpBf16IncludesAse := true
    sveContig := [(.smeLdnt1q, .sveLdContigSpec), (.smeStnt1q, .sveLdstContigSpec), (.smeLdnt1w, .sveLdstContigSpec), (.smeLdnt1w, .sveLdContigSpec), (.smeStnt1w, .sveLdstContigSpec), (.smeStnt1w, .sveStContigSpec)]
    choices := [], sets := [], hasPredictor := true, separateGcsCache := false, renameAtFrontend := true, busAtProcessorRate := false }

/-- The machine right after reset: the spec gives no reset value for any register (70_reset_and_hazards.md R1550); the
values are the model's. Log 2 to 6. -/
def State.reset : State :=
  { impl := resetImpl
    pes := [{ counters := [{}, {}, {}, {}, {}, {}], hpmn := { written := 6 }, epmn := { written := 6 } }]
    agenda := [], inputs := [], draws := 0, out := [] }

end Sys2Proof.Machine
end

