-- ==== Sys2Proof/Machine/Operands.lean ====
section
/-!
DEFINITION. What a counter sees of an occurrence (40_common_event_rules.md R120, R129): the classifications, the parameters, the
draws, and to whom an occurrence is attributed. Every clause of an event rule is written with these.
-/

namespace Sys2Proof.Machine

/-- The value a control has for the rules: the forced value, else the one written (70_reset_and_hazards.md R1552 (g)). -/
def Ctl.effective {α : Type} (c : Ctl α) : α := c.forced.getD c.written

/-- The filter lets an occurrence in context `x` through (10_state.md R26). -/
def Filter.passes (f : Filter) (x : Ctx) : Bool :=
  match f with
  | .all => true
  | .none => false
  | .only l => l.contains x
  | .except l => !l.contains x

end Sys2Proof.Machine

namespace Sys2Proof

/-- Membership of a set of labels. -/
def LabelSet.mem (x : Nat) : LabelSet → Bool
  | .only l => l.contains x
  | .except l => !l.contains x

end Sys2Proof

namespace Sys2Proof.Machine

/-- The class an assignment gives a label; a label not listed is its own class. -/
def classOf (l : List (Nat × Nat)) (x : Nat) : Nat :=
  match l.find? (fun q => q.1 = x) with
  | some q => q.2
  | none => x

end Sys2Proof.Machine

namespace Sys2Proof

/-- PEs `p` and `q` are of one multithreaded processor: the same affinity at level 1 and above
(40_common_event_rules.md R129). -/
def Impl.sameProcessor (impl : Impl) (p q : Nat) : Bool :=
  p = q || (impl.multithreaded && (impl.affinity[p]?).isSome && impl.affinity[p]? = impl.affinity[q]?)

/-- A Boolean item of 93_implementation_defined.md for an event. -/
def Impl.choice (impl : Impl) (u : Nat) (e : Instr) : Bool := impl.choices.contains (u, e)

/-- A set-valued item of 93_implementation_defined.md for an event; every label unless the parameters say otherwise. -/
def Impl.inSet (impl : Impl) (u : Nat) (e : Instr) (x : Nat) : Bool :=
  match impl.sets.find? (fun q => q.1 = (u, e)) with
  | some q => q.2.mem x
  | none => true

end Sys2Proof

namespace Sys2Proof.Machine

/-- An occurrence as a counter of PE `pe` with Effective MT `mt` sees it. -/
structure Obs where
  impl : Impl
  pe : Nat
  mt : Bool
  serial : Nat
  occ : Occurrence
  deriving DecidableEq, Repr

/-- The environment supplies the occurrence as one of `e` (R120). -/
def Obs.own (b : Obs) (e : Instr) : Bool :=
  b.occ.supplied.mem e ||
    (match b.occ.suppliedAt.find? (fun q => q.1 = b.pe) with
     | some q => q.2.mem e
     | none => false)

/-- The occurrence has a classification, for every PE or for this one. -/
def Obs.is (b : Obs) (f : Fact) : Bool :=
  b.occ.facts.contains f || b.occ.factsAt.any (fun q => q.1 = b.pe && q.2.contains f)

/-- "The counter does not count ...". -/
def Obs.never (b : Obs) (f : Fact) : Bool := !b.is f

/-- An occurrence with classification `f` is counted only if `c`. -/
def Obs.gated (b : Obs) (f : Fact) (c : Bool) : Bool := b.never f || c

/-- have(F). -/
def Obs.has (b : Obs) (f : Feature) : Bool := b.impl.has f

/-- implemented(E). -/
def Obs.implements (b : Obs) (e : Instr) : Bool := b.impl.uses e

/-- Item U<u> of an event: it is IMPLEMENTATION DEFINED whether the occurrence is counted. -/
def Obs.choice (b : Obs) (u : Nat) (e : Instr) : Bool := b.impl.choice u e

/-- Item U<u> of an event: it is IMPLEMENTATION DEFINED which occurrences are counted. -/
def Obs.inSet (b : Obs) (u : Nat) (e : Instr) (x : Nat) : Bool := b.impl.inSet u e x

/-- Item U<u>: a draw between counted and not counted (00_scope.md R10). -/
def Obs.draw (b : Obs) (u : Nat) : Bool := Config.drawBool u b.serial

/-- The instruction is executed in AArch32 state. -/
def Obs.aarch32 (b : Obs) : Bool := b.occ.isa != .a64

/-- Item U<u>: in AArch32 state it is IMPLEMENTATION DEFINED which operations are counted. -/
def Obs.aarch32In (b : Obs) (u : Nat) (e : Instr) : Bool := !b.aarch32 || b.inSet u e b.occ.opClass

/-- The instruction falls under one of the listed names. -/
def Obs.oneOf (b : Obs) (l : List Form) : Bool := l.any b.occ.forms.contains

/-- SVE_CONTIG_LISTS adds a listed name of the instruction to the list of `e` (decision D15). -/
def Obs.sveContigExtra (b : Obs) (e : Instr) : Bool :=
  b.impl.sveContig.any (fun q => q.2 = e && b.occ.forms.contains q.1)

/-- DISTANCE of the route (40_common_event_rules.md R132, R133; U164). -/
def Obs.distance (b : Obs) : Nat := classOf b.impl.distance b.occ.route

/-- The cache type at the end of the route (U165). -/
def Obs.cacheType (b : Obs) : Nat := classOf b.impl.cacheTypes b.occ.component

/-- The memory type at the end of the route (U166). -/
def Obs.memoryType (b : Obs) : Nat := classOf b.impl.memTypes b.occ.component

/-- The occurrence is a write of one of the register names by the instruction named with it. -/
def Obs.writes (b : Obs) (l : List (SysReg × WriteVia)) : Bool :=
  match b.occ.regWrite with
  | some q => l.contains q
  | none => false

/-- Whether each of the four types of instruction of PC_WRITE_RETIRED (0x000C, R207) is a Software change of the PC: with
FEAT_PMUv3p9 none is, without it item U10. Types: 0 BRK and BKPT, 1 UNDEFINED instructions, 2 SVC, HVC and SMC,
3 Context synchronization barrier instructions. Log 59. -/
def Obs.pcWriteIncludes (b : Obs) (t : Nat) : Bool := !b.has .pmuv3p9 && b.inSet 10 .pcWriteRetired t

/-- The same for BR_SKIP_RETIRED (0x8107, R235): as PC_WRITE_RETIRED when both are implemented, else item U27. With FEAT_PMUv3p9
BRK and BKPT are no Software change of the PC either (R207, R1404). Log 59. -/
def Obs.brSkipIncludes (b : Obs) (t : Nat) : Bool :=
  if b.implements .pcWriteRetired && b.implements .brSkipRetired then b.pcWriteIncludes t
  else !b.has .pmuv3p9 && b.inSet 27 .brSkipRetired t

/-- The same for BR_RETIRED (0x0021, R213): from Armv8.6 as PC_WRITE_RETIRED when both are implemented, else item U18. With
FEAT_PMUv3p9 no exception-generating instruction is counted, UNDEFINED instructions among them (item U11). Log 59. -/
def Obs.brRetiredIncludes (b : Obs) (t : Nat) : Bool :=
  if b.has .armv8p6 && b.implements .pcWriteRetired && b.implements .brRetired then b.pcWriteIncludes t
  else !b.has .pmuv3p9 && b.inSet 18 .brRetired t

/-- An instruction of the four types is counted only if its type is included. -/
def Obs.pcGroup (b : Obs) (included : Nat → Bool) : Bool :=
  b.gated .breakpointInstruction (included 0) && b.gated .undefinedInstruction (included 1)
    && b.gated .exceptionGenerating (included 2) && b.gated .contextSynchronization (included 3)

/-- No exception-generating instruction, with BRK, BKPT and UNDEFINED instructions among them (item U11; 60_exceptions.md R1501).
Log 51. -/
def Obs.notExceptionGenerating (b : Obs) : Bool :=
  b.never .exceptionGenerating && b.never .undefinedInstruction && b.never .breakpointInstruction

/-- One of the forms that BR_RETURN_RETIRED (0x000E, R209) lists as procedure return instructions, and no other. -/
def Obs.procedureReturn (b : Obs) : Bool :=
  if b.aarch32 then b.oneOf [.a32BxR14, .a32MovPcLr, .a32PopPc, .a32LdrPcSpPostIndexed]
  else b.oneOf [.a64Ret]
    || (b.has .pauth && b.oneOf [.a64Retaa, .a64Retab])
    || (b.has .pauthLr && b.oneOf [.a64Retaasppc, .a64Retabsppc, .a64Retaasppcr, .a64Retabsppcr])

/-- A demand miss in the last level of cache within the PE clock domain: the classification says so, or the cycle is supplied as one
of `mem`, STALL_FRONTEND_MEM (0x815B, R728) or STALL_BACKEND_MEM (0x4005, R414), and no access that bypasses the caches is its
cause. Log 65. -/
def Obs.missLast (b : Obs) (mem : Instr) (miss nonCacheable : Fact) : Bool := b.is miss || (b.own mem && b.never nonCacheable)

/-- STALL_FRONTEND_RENAME (0x8163, R735) is implemented and counts the rename stalls, alone or by the parameter. Log 46. -/
def Obs.frontendCountsRename (b : Obs) : Bool :=
  b.implements .stallFrontendRename && (b.impl.renameAtFrontend || !b.implements .stallBackendRename)

/-- STALL_BACKEND_RENAME (0x816D, R744) is implemented and counts the rename stalls, alone or by the parameter. Log 46. -/
def Obs.backendCountsRename (b : Obs) : Bool :=
  b.implements .stallBackendRename && (!b.impl.renameAtFrontend || !b.implements .stallFrontendRename)

/-- An access to memory attached to this device that the implementation classifies as remote (LOCAL_MEM 0x8230, U147). -/
def Obs.localAsRemote (b : Obs) : Bool := b.is .secondaryMemory && !b.choice 147 .localMem

/-- The counting PE is active in the cycle (40_common_event_rules.md R129 (d)). -/
def Obs.active (b : Obs) : Bool := b.occ.active.contains b.pe

/-- The Slots of the cycle, at most `slots` of them (R123). -/
def Obs.slotList (b : Obs) : List Slot := b.occ.slots.take b.impl.slots

/-- An instruction or operation of the counting PE is sent for execution in the cycle. -/
def Obs.sentHere (b : Obs) : Bool := b.slotList.any (fun x => x.occupant = some b.pe)

/-- One of any PE of its multithreaded processor is sent. -/
def Obs.sentAny (b : Obs) : Bool :=
  b.slotList.any (fun x => match x.occupant with
    | some q => b.impl.sameProcessor b.pe q
    | none => false)

/-- One of the counting PE is available to dispatch from the frontend. -/
def Obs.availableHere (b : Obs) : Bool := b.slotList.any (fun x => x.available.contains b.pe)

/-- The backend is unable to accept any for the counting PE in the cycle. -/
def Obs.blockedHere (b : Obs) : Bool := b.occ.blocked.contains b.pe

/-- A Slot that STALL_SLOT counts: not occupied by one of the counting PE; on a multithreaded implementation with MT 1, not
occupied by one of any PE of it (STALL_SLOT 0x003F, R321). -/
def Obs.slotIdle (b : Obs) (x : Slot) : Bool :=
  match x.occupant with
  | none => true
  | some q => if b.impl.multithreaded && b.mt then !b.impl.sameProcessor b.pe q else q != b.pe

/-- The write-back is among those the implementation counts by the _WB event `e`: an Unattributable one always, so that it is counted if and
only if the cache is not shared (R136); of the others, by U42 for each of its two kinds and by U43 (R137). Logs 59 and 62. -/
def Obs.writeBackIncluded (b : Obs) (e : Instr) : Bool :=
  b.occ.pe.isNone
    || (b.gated .coherencyTransfer (b.inSet 42 e 0) && b.gated .cacheMaintenance (b.inSet 42 e 1)
      && b.gated .wholeLineWrite (b.choice 43 e))

/-- How an event is attributed (40_common_event_rules.md R129). -/
inductive Attribution where
  /-- (b): the PE that executes it. -/
  | own
  /-- (c): the sharing clause on a cache, TLB or bus (R130, R131, R138). -/
  | shared (r : Resource)
  /-- "Counted by x", an event with the sharing clause: to whom x is, with the choice U33 of x. Log 23. -/
  | sharedAs (x : Instr) (r : Resource)
  /-- (d): a cycle or Slot event. -/
  | cycle
  /-- BUS_CYCLES (0x001D): as a cycle event where the bus interface runs at the rate of the processor, else the PE's own. Log 77. -/
  | busCycle
  /-- (e): the _ALLOCATE events. -/
  | allocate
  /-- (f): the _INVAL events: Unattributable occurrences too. -/
  | invalidate
  /-- The _EXT_PROP events: the PE into whose cache the transaction of another agent writes (R389, R402, R407). Log 24. -/
  | atOwner
  /-- R135, R136: a write-back; an Unattributable one is counted if and only if the cache is not shared. With MT 1 too, one
Attributable to another PE of the processor is not counted. Log 54. -/
  | writeBack (r : Resource)
  deriving DecidableEq, Repr

/-- Attributable to the counting PE. -/
def Obs.mine (b : Obs) (pe? : Option Nat) : Bool := pe? = some b.pe

/-- Attributable to a PE of its multithreaded processor. -/
def Obs.ofProcessor (b : Obs) (pe? : Option Nat) : Bool :=
  match pe? with
  | some q => b.impl.sameProcessor b.pe q
  | none => false

/-- The sharing clause on resource `r`, with the choice U33 of event `x` in "all other cases" (R130, R131, R138). -/
def Obs.sharingClause (b : Obs) (x : Instr) (r : Resource) (pe? : Option Nat) (owners : List Nat) : Bool :=
  if b.impl.shared.contains r && !b.mt then b.mine pe?
  else if b.impl.multithreaded && b.impl.sharedOutside.contains r && b.mt then b.ofProcessor pe?
  else if b.impl.countAll.contains (x, b.mt) then b.mine pe? || owners.contains b.pe
  else b.mine pe?

/-- Something of event `e` attributable to `pe?` that happens at the resources of `owners` is counted by the observing counter. -/
def Obs.attributedTo (b : Obs) (e : Instr) (a : Attribution) (pe? : Option Nat) (owners : List Nat) : Bool :=
  match a with
  | .own => b.mine pe?
  | .shared r => b.sharingClause e r pe? owners
  | .sharedAs x r => b.sharingClause x r pe? owners
  | .cycle => b.ofProcessor pe?
  | .busCycle => if b.impl.busAtProcessorRate then b.ofProcessor pe? else b.mine pe?
  | .allocate => b.mine pe? || (b.mt && b.ofProcessor pe?)
  | .invalidate => b.mine pe? || owners.contains b.pe
  | .atOwner => owners.contains b.pe
  | .writeBack r =>
    match pe? with
    | some q => q = b.pe
    | none => !b.impl.shared.contains r && owners.contains b.pe

end Sys2Proof.Machine
end

