-- ==== Sys2Proof/Machine/Flags.lean ====
section
/-!
DEFINITION. The arithmetic of the machine: the increments of the events by class (40_common_event_rules.md R123) and the unsigned
overflow of a counter (R121; 50_host_instruction_classes.md R1400).
-/

namespace Sys2Proof

/-- W: the width of an event counter (40_common_event_rules.md R121, 10_state.md R27). -/
def Impl.counterWidth (impl : Impl) : Nat := if impl.has .pmuv3p5 then 64 else 32

end Sys2Proof

namespace Sys2Proof.Machine

/-- The counter after `k` more: the sum modulo 2^W (R121). -/
def addCount (impl : Impl) (old : CountWord) (k : Nat) : CountWord :=
  BitVec.ofNat 64 ((old.toNat + k) % 2 ^ Impl.counterWidth impl)

/-- ovf32: unsigned overflow of bits [31:0] (R121). -/
def overflow32 (old : CountWord) (k : Nat) : Bool := 2 ^ 32 ≤ old.toNat % 2 ^ 32 + k

/-- ovf64: unsigned overflow of bits [63:0], which exist when W is 64 (R121). -/
def overflow64 (impl : Impl) (old : CountWord) (k : Nat) : Bool :=
  Impl.counterWidth impl = 64 && 2 ^ 64 ≤ old.toNat + k

/-- The quotient where it is exact; the spec states no rounding, so otherwise a free increment (R123). Log 26. -/
def exactQuotient (item serial num den : Nat) : Nat :=
  if den ≠ 0 ∧ den ∣ num then num / den else Config.freeIncrement item serial

/-- Class unit, and class cycle. -/
def incUnit (_ : Obs) : Nat := 1

/-- Class v, _FIXED_: the number of arithmetic operations. -/
def incFixed (b : Obs) : Nat := b.occ.ops

/-- Class v, _SCALE_: v with v × (VL÷128) the number of arithmetic operations. -/
def incScale (e : Instr) (b : Obs) : Nat := exactQuotient (encode e).toNat b.serial (b.occ.ops * 128) b.occ.vl

/-- Class v, _SCALE2_: v with v × (VL÷128)² the number of arithmetic operations. -/
def incScale2 (e : Instr) (b : Obs) : Nat :=
  exactQuotient (encode e).toNat b.serial (b.occ.ops * 128 ^ 2) (b.occ.vl ^ 2)

/-- Class slots, STALL_SLOT (0x003F, R321). -/
def incSlots (b : Obs) : Nat := b.slotList.countP b.slotIdle

/-- STALL_SLOT_BACKEND (0x003D, R319): Slots counted by STALL_SLOT with something available that the backend cannot accept; item
U61 for those with nothing available, read per Slot (log 55). What is available and what is blocked is tested for the counting PE, with
Effective MT 1 too (log 56). -/
def incSlotsBackend (b : Obs) : Nat :=
  b.slotList.countP (fun x => b.slotIdle x && x.blocked.contains b.pe
    && (x.available.contains b.pe || b.choice 61 .stallSlotBackend))

/-- STALL_SLOT_FRONTEND (0x003E, R320): Slots counted by STALL_SLOT on which nothing was sent for the counting PE and nothing was
available for it from the frontend, with Effective MT 1 too (log 56). -/
def incSlotsFrontend (b : Obs) : Nat :=
  b.slotList.countP (fun x => b.slotIdle x && !x.available.contains b.pe)

/-- The transactions of one entry of `progress` that are counted by `parent`, attributed by clause `a` of event `e`. -/
def progressOf (b : Obs) (parent e : Instr) (a : Attribution) (q : Progress) : Nat :=
  if q.event = parent && b.attributedTo e a q.pe q.owners then q.count else 0

/-- Class percyc: the number of transactions counted by `parent` in progress (R123). -/
def incInProgress (parent e : Instr) (a : Attribution) (b : Obs) : Nat :=
  (b.occ.progress.map (progressOf b parent e a)).sum

/-- The operations of a load or store (LDST_FIXED_OPS_SPEC 0x80CB, R614). -/
def incFixedOps (b : Obs) : Nat :=
  let d := b.occ.ldst
  match d.kind with
  | .single => 1
  | .pair => 2
  | .multiple => d.regs
  | .atomicStore => 1
  | .atomicLoad => 2
  | .compareAndSwap => 2
  | .swap => 2
  | .compareAndSwapPair => 4
  | .ld1r => 1
  | .ld1rq => exactQuotient 0x80CB b.serial 128 d.csize
  | .ld1ro => exactQuotient 0x80CB b.serial 256 d.csize
  | .aseStructure => d.elems * d.regs
  | .dcZva => b.impl.dczvaOps
  | .table => 1
  | .block64 => 8
  | .other => d.specified

/-- MSIZE ÷ 8. -/
def elementBytes (b : Obs) : Nat := exactQuotient 0x80DB b.serial b.occ.ldst.msize 8

/-- The bytes of a load or store (LDST_FIXED_BYTES_SPEC 0x80DB, R626; decision D18). -/
def incFixedBytes (b : Obs) : Nat :=
  let d := b.occ.ldst
  match d.kind with
  | .single => elementBytes b
  | .pair => 2 * elementBytes b
  | .multiple => d.regs * elementBytes b
  | .atomicStore => elementBytes b
  | .atomicLoad => 2 * elementBytes b
  | .compareAndSwap => 2 * elementBytes b
  | .swap => 2 * elementBytes b
  | .compareAndSwapPair => 4 * elementBytes b
  | .ld1r => elementBytes b
  | .ld1rq => 16
  | .ld1ro => 32
  | .aseStructure => d.regs * d.bytesPerReg
  | .dcZva => b.impl.dczvaBytes
  | .table => 64
  | .block64 => 64
  | .other => d.bytesPerReg * d.regs * d.transfers

/-- An atomic load, a compare and swap, or a swap: half its operations and bytes are read and half written
(LD_FIXED_OPS_SPEC 0x80CD, ST_FIXED_OPS_SPEC 0x80CF; conflict C23). -/
def readsAndWrites (b : Obs) : Bool :=
  match b.occ.ldst.kind with
  | .atomicLoad => true
  | .compareAndSwap => true
  | .compareAndSwapPair => true
  | .swap => true
  | _ => false

/-- The operations of one direction (LD_FIXED_OPS_SPEC R616, ST_FIXED_OPS_SPEC R618). -/
def incFixedOpsHalf (b : Obs) : Nat := if readsAndWrites b then incFixedOps b / 2 else incFixedOps b

/-- The bytes of one direction (LD_FIXED_BYTES_SPEC R628, ST_FIXED_BYTES_SPEC R630). -/
def incFixedBytesHalf (b : Obs) : Nat := if readsAndWrites b then incFixedBytes b / 2 else incFixedBytes b

/-- (16 ÷ (CSIZE ÷ MSIZE)) times the number of transferred vector registers (LDST_SCALE_BYTES_SPEC 0x80DA, R625). -/
def incScaleBytes (e : Instr) (b : Obs) : Nat :=
  exactQuotient (encode e).toNat b.serial 16
      (exactQuotient (2 ^ 16 + (encode e).toNat) b.serial b.occ.ldst.csize b.occ.ldst.msize)
    * b.occ.ldst.regs

/-- 128 ÷ CSIZE (SVE_PLOOP_ELTS_SPEC 0x8072, R538). -/
def incPredicateLoop (b : Obs) : Nat := exactQuotient 0x8072 b.serial 128 b.occ.ldst.csize

/-- SCALE_OPS_INCREMENT by the class of the instruction (decision D19): the parameter where it lists the class, else a value
fixed for the class and not known. -/
def incScaleOps (b : Obs) : Nat :=
  match b.impl.scaleOps.find? (fun q => q.1 = b.occ.opClass) with
  | some q => q.2
  | none => Config.freeIncrement 0x80CA b.occ.opClass

end Sys2Proof.Machine
end

