-- ==== Sys2Proof/Machine/Occ1.lean ====
section
/-!
DEFINITION. `Occ(E)` (40_common_event_rules.md R120, R122) of the events, part 1 of 8: which occurrences a counter sees as
occurrences of E. Each definition conjoins the clauses of the event's own rule; a parent ("counted by X") stands before its
children, so the parts follow that order and not the order of the numbers.
-/

namespace Sys2Proof.Machine

/-- R200 SW_INCR (0x0000): "The counter counts each write to the PMSWINC_EL0 and PMSWINC register, for each implemented event
counter <n>:" -/
def occSwIncr (b : Obs) : Bool := b.own .swIncr

/-- R203 INST_RETIRED (0x0008): "The counter counts each architecturally-executed instruction." -/
def occInstRetired (b : Obs) : Bool := b.own .instRetired && b.gated .movprfx (b.has .pmuv3p9 || b.choice 3 .instRetired)

/-- R267 PRF_RETIRED (0x82B3): "The counter counts each architecturally executed prefetch instruction counted by INST_RETIRED." -/
def occPrfRetired (b : Obs) : Bool := occInstRetired b && b.own .prfRetired

/-- R201 LD_RETIRED (0x0006): "The counter counts each architecturally-executed memory-reading instruction counted by INST_RETIRED."
U1; U2 is the choice U31 of LDST_ANY_RETIRED. -/
def occLdRetired (b : Obs) : Bool :=
  occInstRetired b
    && (if occPrfRetired b then b.choice 1 .ldRetired else b.own .ldRetired)

/-- R202 ST_RETIRED (0x0007): "The counter counts each architecturally-executed memory-writing instruction counted by INST_RETIRED." -/
def occStRetired (b : Obs) : Bool := occInstRetired b && b.own .stRetired && b.never .storeExclusiveFailed

/-- R204 EXC_TAKEN (0x0009): "The counter counts each exception taken." -/
def occExcTaken (b : Obs) : Bool := b.own .excTaken

/-- 60_exceptions.md R1504: "The counter does not increment for exceptions other than those explicitly identified in these lists."
False only of an exception (EXC_TAKEN) of none of the kinds that PC_WRITE_RETIRED and BR_SKIP_RETIRED list: BRK and BKPT, UNDEFINED
instructions, and SVC, HVC and SMC. Log 72. -/
def Obs.exceptionIdentified (b : Obs) : Bool :=
  !occExcTaken b || b.is .breakpointInstruction || b.is .undefinedInstruction || b.is .exceptionGenerating

/-- R205 EXC_RETURN (0x000A): "The counter counts each architecturally-executed exception return instruction." U4 to U7: a draw per
execution. -/
def occExcReturn (b : Obs) : Bool :=
  b.own .excReturn
    && b.gated .excReturnUnpredictable (b.draw 4)
    && b.gated .excReturnIllegal (b.draw 4)

/-- R206 CID_WRITE_RETIRED (0x000B): "The counter counts each MSR write to CONTEXTIDR_EL1 and MCR write to CONTEXTIDR." Counted by
the register name of the instruction (10_state.md R38, R40). -/
def occCidWriteRetired (b : Obs) : Bool :=
  (b.writes [(.contextidrEl1, .msr), (.contextidr, .mcr)])
    && b.gated .followedWithoutCse (b.draw 8)

/-- R207 PC_WRITE_RETIRED (0x000C): "The counter counts each architecturally-executed Software change of the PC that is taken." U9,
U10; `pcWriteIncludes` says which of the four types of instruction are a Software change of the PC. R1504. Log 72. -/
def occPcWriteRetired (b : Obs) : Bool := b.own .pcWriteRetired && b.exceptionIdentified && b.pcGroup (b.pcWriteIncludes)

/-- R208 BR_IMMED_RETIRED (0x000D): "The counter counts each architecturally-executed immediate branch instruction." U12; conflict
C1. -/
def occBrImmedRetired (b : Obs) : Bool :=
  b.own .brImmedRetired
    && (if b.is .contextSynchronization then b.pcWriteIncludes 3 && b.choice 12 .brImmedRetired
      else if b.aarch32 then b.oneOf [.a32B, .a32Bl, .a32BlxLabel, .a32Cbz, .a32Cbnz] else b.oneOf [.a64B, .a64BCond, .a64Bl, .a64Cbz, .a64Cbnz, .a64Tbz, .a64Tbnz, .a64BcCond, .a64CbccImm, .a64CbccReg, .a64Cbbcc, .a64Cbhcc])

/-- R209 BR_RETURN_RETIRED (0x000E): "The counter counts each architecturally executed procedure return instruction." -/
def occBrReturnRetired (b : Obs) : Bool := b.own .brReturnRetired && b.procedureReturn

/-- R210 UNALIGNED_LDST_RETIRED (0x000F): "The counter counts each memory-reading instruction or memory-writing instruction access
that would generate an Alignment fault when Alignment fault checking is enabled." -/
def occUnalignedLdstRetired (b : Obs) : Bool :=
  b.own .unalignedLdstRetired
    && b.never .spAlignmentOnly
    && b.gated .accessGeneratesException (b.draw 13)

/-- R211 TTBR_WRITE_RETIRED (0x001C): "The counter counts each MSR write to TTBR0_EL1 and TTBR1_EL1 in AArch64 state and MCR and
MCRR write to TTBR0 and TTBR1 in AArch32 state." Counted by the register name of the instruction (10_state.md R39, R40). -/
def occTtbrWriteRetired (b : Obs) : Bool :=
  (b.writes [(.ttbr0El1, .msr), (.ttbr1El1, .msr), (.ttbr0, .mcr), (.ttbr0, .mcrr), (.ttbr1, .mcr), (.ttbr1, .mcrr)])
    && b.gated .followedWithoutCse (b.draw 14)

/-- R212 CHAIN (0x001E): "Even-numbered counters never increment as a result of this event." -/
def occChain (b : Obs) : Bool := b.own .chain

/-- R213 BR_RETIRED (0x0021): "The counter counts each branch instruction on the architecturally executed path that would incur cost
if mispredicted." U18, by type of instruction (log 59), U11. -/
def occBrRetired (b : Obs) : Bool :=
  (if b.is .unconditionalDirect then occInstRetired b && (b.has .pmuv3p9 || b.inSet 18 .brRetired 4)
      else if b.is .exceptionReturn then occInstRetired b && (b.has .pmuv3p9 || b.inSet 18 .brRetired 5)
      else b.own .brRetired)
    && b.pcGroup (b.brRetiredIncludes)

/-- R215 EXC_SVC (0x0082): "The counter counts each Supervisor Call exception counted by EXC_TAKEN that is Taken locally." -/
def occExcSvc (b : Obs) : Bool := occExcTaken b && b.own .excSvc && b.is .takenLocally

/-- R216 EXC_PABORT (0x0083): "The counter counts each Instruction Abort exception counted by EXC_TAKEN that is Taken locally." -/
def occExcPabort (b : Obs) : Bool := occExcTaken b && b.own .excPabort && b.is .takenLocally

/-- R217 EXC_DABORT (0x0084): "The counter counts each Guarded control stack Data Check Exception, Data Abort, SError interrupt, or
virtual SError interrupt exception counted by EXC_TAKEN that is Taken locally." -/
def occExcDabort (b : Obs) : Bool := occExcTaken b && b.own .excDabort && b.is .takenLocally

/-- R218 EXC_IRQ (0x0086): "The counter counts each IRQ or virtual IRQ exception counted by EXC_TAKEN that is Taken locally." -/
def occExcIrq (b : Obs) : Bool := occExcTaken b && b.own .excIrq && b.is .takenLocally

/-- R219 EXC_FIQ (0x0087): "The counter counts each FIQ or virtual FIQ exception counted by EXC_TAKEN that is Taken locally." -/
def occExcFiq (b : Obs) : Bool := occExcTaken b && b.own .excFiq && b.is .takenLocally

/-- R220 EXC_SMC (0x0088): "The counter counts each Secure Monitor Call exception counted by EXC_TAKEN." -/
def occExcSmc (b : Obs) : Bool := occExcTaken b && b.own .excSmc && b.never .otherException

/-- R221 EXC_HVC (0x008A): "The counter counts each Hypervisor Call exception counted by EXC_TAKEN." -/
def occExcHvc (b : Obs) : Bool := occExcTaken b && b.own .excHvc && b.never .hvcUndefined

/-- R214 EXC_UNDEF (0x0081): "The counter counts each exception counted by EXC_TAKEN that is Taken locally and is not counted as any
of the following:" 60_exceptions.md R1502 (b). -/
def occExcUndef (b : Obs) : Bool :=
  occExcTaken b
    && b.is .takenLocally
    && !occExcSvc b
    && !occExcSmc b
    && !occExcHvc b
    && !occExcPabort b
    && !occExcDabort b
    && !occExcIrq b
    && !occExcFiq b

/-- R222 EXC_TRAP_PABORT (0x008B): "The counter counts each Instruction Abort exception counted by EXC_TAKEN that is not Taken
locally." -/
def occExcTrapPabort (b : Obs) : Bool := occExcTaken b && b.own .excTrapPabort && !b.is .takenLocally

/-- R223 EXC_TRAP_DABORT (0x008C): "The counter counts each Guarded control stack Data Check Exception, Data Abort, SError
interrupt, or virtual SError interrupt exception counted by EXC_TAKEN, that is not Taken locally." -/
def occExcTrapDabort (b : Obs) : Bool := occExcTaken b && b.own .excTrapDabort && !b.is .takenLocally

/-- R225 EXC_TRAP_IRQ (0x008E): "The counter counts each IRQ or virtual IRQ exception counted by EXC_TAKEN that is not Taken
locally." -/
def occExcTrapIrq (b : Obs) : Bool := occExcTaken b && b.own .excTrapIrq && !b.is .takenLocally

/-- R226 EXC_TRAP_FIQ (0x008F): "The counter counts each FIQ or virtual FIQ exception counted by EXC_TAKEN that is not Taken
locally." -/
def occExcTrapFiq (b : Obs) : Bool := occExcTaken b && b.own .excTrapFiq && !b.is .takenLocally

/-- R224 EXC_TRAP_OTHER (0x008D): "The counter counts each exception counted by EXC_TAKEN that is not Taken locally and not counted
as any of the following:" 60_exceptions.md R1502 (c). -/
def occExcTrapOther (b : Obs) : Bool :=
  occExcTaken b
    && !b.is .takenLocally
    && !occExcSmc b
    && !occExcHvc b
    && !occExcTrapPabort b
    && !occExcTrapDabort b
    && !occExcTrapIrq b
    && !occExcTrapFiq b

/-- R227 TRB_WRAP (0x400C): "The counter counts each write made by the Trace Buffer Unit to the trace buffer that causes the trace
buffer current write pointer to wrap to the trace buffer base pointer." -/
def occTrbWrap (b : Obs) : Bool := b.own .trbWrap

/-- R228 PMU_OVFS (0x400D): "The counter counts each unsigned overflow of a PMU counter due to any of the following:" -/
def occPmuOvfs (b : Obs) : Bool := b.own .pmuOvfs

/-- R229 TRB_TRIG (0x400E): "The counter counts each trace buffer Trigger Event." -/
def occTrbTrig (b : Obs) : Bool := b.own .trbTrig

/-- R230 PMU_HOVFS (0x400F): "The counter counts each unsigned overflow of a PMU counter due to an event counted by an event counter
<n> when all of the following are true:" -/
def occPmuHovfs (b : Obs) : Bool := b.own .pmuHovfs

/-- R231 SIMD_INST_RETIRED (0x8000): "The counter counts each architecturally executed SIMD instruction." Its lost list is that of
SIMD_INST_SPEC (91_not_in_source.md N4). -/
def occSimdInstRetired (b : Obs) : Bool :=
  b.own .simdInstRetired
    && b.never .nonSimdDataProcessing
    && b.gated .otherScalarLoadStore (!b.has .armv9p5 && b.choice 23 .simdInstRetired)
    && b.aarch32In 22 .simdInstRetired

/-- Classified as an Advanced SIMD instruction (ASE_INST_RETIRED R232). U24. Log 70. -/
def Obs.classAseInstRetired (b : Obs) : Bool :=
  b.own .aseInstRetired
    && b.gated .aseCryptographic (b.has .crypto)
    && b.never .integerDataProcessing
    && (b.never .scalarFloatingPoint || (b.is .aseScalar))
    && b.gated .aseScalar (!b.has .pmuv3p9 && b.choice 24 .aseInstRetired)

/-- Classified as an SME instruction (SME_INST_RETIRED R270). Log 70. -/
def Obs.classSmeInstRetired (b : Obs) : Bool := b.own .smeInstRetired && b.is .operatesOnZaOrZt && b.never .nonSimdSme

/-- Classified as an SVE instruction (SVE_INST_RETIRED R233). U25; conflict C17: the SME classification is that of SME_INST_RETIRED.
Log 70. -/
def Obs.classSveInstRetired (b : Obs) : Bool :=
  b.own .sveInstRetired
    && !(b.has .sme && b.classSmeInstRetired)
    && b.gated .nonSimdSve (!b.has .pmuv3p9 && b.choice 25 .sveInstRetired)

/-- R271 SE_INST_RETIRED (0x835B): "The counter counts each architecturally executed instruction counted by INST_RETIRED that is
classified as an Advanced SIMD, SVE, or SME instruction." -/
def occSeInstRetired (b : Obs) : Bool :=
  occInstRetired b && (b.classAseInstRetired || b.classSveInstRetired || b.classSmeInstRetired)

/-- R234 ASE_SVE_INST_RETIRED (0x8003): "The counter counts each architecturally executed instruction counted by SE_INST_RETIRED
that is classified as an Advanced SIMD instruction or an SVE instruction." -/
def occAseSveInstRetired (b : Obs) : Bool := occSeInstRetired b && (b.classAseInstRetired || b.classSveInstRetired)

/-- R232 ASE_INST_RETIRED (0x8001): "The counter counts each architecturally executed instruction counted by ASE_SVE_INST_RETIRED
that is classified as an Advanced SIMD instruction." -/
def occAseInstRetired (b : Obs) : Bool := occAseSveInstRetired b && b.classAseInstRetired

/-- R270 SME_INST_RETIRED (0x835A): "The counter counts each architecturally executed instruction counted by SE_INST_RETIRED that is
classified as an SME instruction." -/
def occSmeInstRetired (b : Obs) : Bool := occSeInstRetired b && b.classSmeInstRetired

/-- R233 SVE_INST_RETIRED (0x8002): "The counter counts each architecturally executed instruction counted by ASE_SVE_INST_RETIRED
that is classified as an SVE instruction." -/
def occSveInstRetired (b : Obs) : Bool := occAseSveInstRetired b && b.classSveInstRetired

/-- R235 BR_SKIP_RETIRED (0x8107): "The counter counts each conditional Software change of the PC instruction that is not taken."
U26, U27, U11: treated as by PC_WRITE_RETIRED when both are implemented. R1504. Log 72. -/
def occBrSkipRetired (b : Obs) : Bool := b.own .brSkipRetired && b.exceptionIdentified && b.pcGroup (b.brSkipIncludes)

/-- R236 BR_IMMED_TAKEN_RETIRED (0x8108): "The counter counts each instruction counted by both BR_IMMED_RETIRED and
PC_WRITE_RETIRED." -/
def occBrImmedTakenRetired (b : Obs) : Bool := occBrImmedRetired b && occPcWriteRetired b

/-- R237 BR_IMMED_SKIP_RETIRED (0x8109): "The counter counts each instruction counted by both BR_IMMED_RETIRED and BR_SKIP_RETIRED." -/
def occBrImmedSkipRetired (b : Obs) : Bool := occBrImmedRetired b && occBrSkipRetired b

/-- R244 BR_IND_RETIRED (0x811D): "The counter counts each architecturally executed indirect branch instruction." U11. Log 51. -/
def occBrIndRetired (b : Obs) : Bool :=
  b.own .brIndRetired
    && (occPcWriteRetired b || occBrSkipRetired b)
    && b.notExceptionGenerating
    && !occBrImmedRetired b

/-- R238 BR_IND_TAKEN_RETIRED (0x810A): "The counter counts each instruction counted by both BR_IND_RETIRED and PC_WRITE_RETIRED." -/
def occBrIndTakenRetired (b : Obs) : Bool := occBrIndRetired b && occPcWriteRetired b

/-- R239 BR_IND_SKIP_RETIRED (0x810B): "The counter counts each instruction counted by both BR_IND_RETIRED and BR_SKIP_RETIRED." -/
def occBrIndSkipRetired (b : Obs) : Bool := occBrIndRetired b && occBrSkipRetired b

/-- R240 BR_INDNR_TAKEN_RETIRED (0x810C): "The counter counts each instruction counted by both BR_IND_RETIRED and PC_WRITE_RETIRED,
that is not counted by BR_RETURN_RETIRED." -/
def occBrIndnrTakenRetired (b : Obs) : Bool := occBrIndRetired b && occPcWriteRetired b && !occBrReturnRetired b

/-- R242 BR_RETURN_ANY_RETIRED (0x810E): "The counter counts each instruction counted by BR_IND_RETIRED where if taken, the branch
would be counted by BR_RETURN_RETIRED." -/
def occBrReturnAnyRetired (b : Obs) : Bool := occBrIndRetired b && b.own .brReturnAnyRetired && b.procedureReturn

/-- R245 BR_INDNR_RETIRED (0x811E): "The counter counts each instruction counted by BR_IND_RETIRED that is not counted by
BR_RETURN_ANY_RETIRED." -/
def occBrIndnrRetired (b : Obs) : Bool := occBrIndRetired b && !occBrReturnAnyRetired b

/-- R241 BR_INDNR_SKIP_RETIRED (0x810D): "The counter counts each instruction counted by both BR_INDNR_RETIRED and BR_SKIP_RETIRED." -/
def occBrIndnrSkipRetired (b : Obs) : Bool := occBrIndnrRetired b && occBrSkipRetired b

/-- R243 BR_RETURN_SKIP_RETIRED (0x810F): "The counter counts each instruction counted by both BR_RETURN_ANY_RETIRED and
BR_SKIP_RETIRED." -/
def occBrReturnSkipRetired (b : Obs) : Bool := occBrReturnAnyRetired b && occBrSkipRetired b

/-- R246 BRB_FILTRATE (0x811F): "The counter counts each valid Branch record captured in the branch record buffer." That
one for an exception or exception return is an Exception-related event changes nothing here. Log 66. -/
def occBrbFiltrate (b : Obs) : Bool :=
  b.own .brbFiltrate
    && b.never .recordRemoved
    && b.gated .recordInjected (b.draw 28)
    && b.gated .recordAfterFreeze (b.draw 29)

/-- R248 BL_TAKEN_RETIRED (0x817A): "The counter counts each Software change of the PC counted by PC_WRITE_RETIRED that calls a
subroutine and sets LR to return address." -/
def occBlTakenRetired (b : Obs) : Bool := occPcWriteRetired b && b.own .blTakenRetired

/-- R249 BRNL_TAKEN_RETIRED (0x817B): "The counter counts each Software change of the PC counted by PC_WRITE_RETIRED that is not
counted by BL_TAKEN_RETIRED." -/
def occBrnlTakenRetired (b : Obs) : Bool := occPcWriteRetired b && !occBlTakenRetired b

/-- R251 BRNL_IND_TAKEN_RETIRED (0x817D): "The counter counts each branch counted by both BRNL_TAKEN_RETIRED and
BR_IND_TAKEN_RETIRED." -/
def occBrnlIndTakenRetired (b : Obs) : Bool := occBrnlTakenRetired b && occBrIndTakenRetired b

/-- R247 BRNL_INDNR_TAKEN_RETIRED (0x8179): "The counter counts each branch counted by BRNL_IND_TAKEN_RETIRED that is not counted by
BR_RETURN_RETIRED." -/
def occBrnlIndnrTakenRetired (b : Obs) : Bool := occBrnlIndTakenRetired b && !occBrReturnRetired b

/-- R250 BL_IND_TAKEN_RETIRED (0x817C): "The counter counts each branch counted by both BL_TAKEN_RETIRED and BR_IND_TAKEN_RETIRED." -/
def occBlIndTakenRetired (b : Obs) : Bool := occBlTakenRetired b && occBrIndTakenRetired b

/-- R252 BL_IMMED_TAKEN_RETIRED (0x817E): "The counter counts each branch counted by both BL_TAKEN_RETIRED and
BR_IMMED_TAKEN_RETIRED." -/
def occBlImmedTakenRetired (b : Obs) : Bool := occBlTakenRetired b && occBrImmedTakenRetired b

/-- R253 BRNL_IMMED_TAKEN_RETIRED (0x817F): "The counter counts each branch counted by both BRNL_TAKEN_RETIRED and
BR_IMMED_TAKEN_RETIRED." -/
def occBrnlImmedTakenRetired (b : Obs) : Bool := occBrnlTakenRetired b && occBrImmedTakenRetired b

/-- R255 BR_COND_RETIRED (0x8181): "The counter counts each Software change of the PC counted by BR_RETIRED that is a conditional
branch." -/
def occBrCondRetired (b : Obs) : Bool :=
  occBrRetired b
    && b.own .brCondRetired
    && (match b.occ.isa with
      | .a64 => b.oneOf [.a64BCond, .a64Cbnz, .a64Cbz, .a64Tbnz, .a64Tbz]
          || (b.has .hbc && b.oneOf [.a64BcCond])
          || (b.has .cmpbr && b.oneOf [.a64CbccImm, .a64CbccReg, .a64Cbbcc, .a64Cbhcc])
      | .a32 => b.is .a32Conditional
      | .t32 => if b.is .alwaysCondition then b.is .lastInItBlock
          else b.oneOf [.t32Bc, .t32BcW, .t32Cbnz, .t32Cbz] || b.is .inItBlock)

/-- R254 BR_UNCOND_RETIRED (0x8180): "The counter counts each Software change of the PC counted by BR_RETIRED that is not counted by
BR_COND_RETIRED." -/
def occBrUncondRetired (b : Obs) : Bool := occBrRetired b && !occBrCondRetired b

/-- R256 BR_COND_TAKEN_RETIRED (0x8182): "The counter counts each Software change of the PC counted by both BR_COND_RETIRED and
PC_WRITE_RETIRED." -/
def occBrCondTakenRetired (b : Obs) : Bool := occBrCondRetired b && occPcWriteRetired b

/-- R257 BR_HINT_COND_RETIRED (0x8183): "The counter counts each branch counted by BR_COND_RETIRED that is a hinted conditional
branch." -/
def occBrHintCondRetired (b : Obs) : Bool := occBrCondRetired b && b.own .brHintCondRetired && b.oneOf [.a64BcCond]

/-- R261 LDST_ANY_RETIRED (0x82AA): "The counter counts each architecturally executed instruction counted by INST_RETIRED that is
classified as a Memory-reading instruction or a Memory-writing instruction. See LD_ANY_RETIRED and ST_ANY_RETIRED for these
classifications." U1, U31. That U31 decides where PRF_RETIRED is not implemented too is the model's choice: log 73. Logs 41 and 70. -/
def occLdstAnyRetired (b : Obs) : Bool :=
  occInstRetired b
    && (if occPrfRetired b then b.choice 1 .ldRetired || b.choice 31 .ldstAnyRetired else b.own .ldAnyRetired || b.own .stAnyRetired)

/-- R259 LD_ANY_RETIRED (0x82A8): "The counter counts each architecturally executed instruction counted by LDST_ANY_RETIRED that is
classified as a Memory-reading instruction." U1, the same choice as LD_RETIRED; U30 is the choice U31 of LDST_ANY_RETIRED. -/
def occLdAnyRetired (b : Obs) : Bool :=
  occLdstAnyRetired b
    && (if occPrfRetired b then b.choice 1 .ldRetired else b.own .ldAnyRetired)

/-- R260 ST_ANY_RETIRED (0x82A9): "The counter counts each architecturally executed instruction counted by LDST_ANY_RETIRED that is
classified as a Memory-writing instruction." -/
def occStAnyRetired (b : Obs) : Bool := occLdstAnyRetired b && b.own .stAnyRetired

/-- R264 VFP_RETIRED (0x82AD): "The counter counts each architecturally executed instruction counted by INST_RETIRED that is
classified as a scalar floating-point instruction." -/
def occVfpRetired (b : Obs) : Bool :=
  occInstRetired b
    && b.own .vfpRetired
    && b.never .aseScalar
    && b.never .simdFloatingPoint
    && b.never .integerDataProcessing
    && b.never .loadOrStore

/-- R266 CRYPTO_RETIRED (0x82AF): "The counter counts each architecturally executed instruction counted by INST_RETIRED that is
classified as a cryptographic instruction." -/
def occCryptoRetired (b : Obs) : Bool :=
  occInstRetired b
    && b.own .cryptoRetired
    && b.never .asePmullLong
    && b.never .svePmullLong
    && b.gated .sve2Cryptographic (b.has .sve2)

/-- Classified as an Advanced SIMD data-processing instruction (ASE_RETIRED R263). Log 70. -/
def Obs.classAseRetired (b : Obs) : Bool :=
  b.own .aseRetired
    && b.never .integerDataProcessing
    && (b.never .scalarFloatingPoint || (b.is .aseScalar))
    && b.never .loadOrStore
    && !occCryptoRetired b
    && b.gated .asePmullLong (b.has .crypto)

/-- Classified as an SME data-processing instruction (SME_RETIRED R268). Log 70. -/
def Obs.classSmeRetired (b : Obs) : Bool :=
  b.own .smeRetired && b.is .operatesOnZaOrZt && b.never .loadOrStore && b.never .nonSimdSme

/-- Classified as an SVE data-processing instruction (SVE_RETIRED R265). What CRYPTO_RETIRED counts is left out only where the
Cryptographic Extension is implemented. Conflict C17. Log 70. -/
def Obs.classSveRetired (b : Obs) : Bool :=
  b.own .sveRetired
    && b.never .loadOrStore
    && !(b.has .crypto && occCryptoRetired b)
    && !(b.has .sme && b.classSmeRetired)
    && b.never .nonSimdSve

/-- R258 ASE_SVE_RETIRED (0x82A4): "The counter counts each architecturally executed instruction counted by INST_RETIRED that is
classified as an Advanced SIMD data-processing instruction or an SVE data-processing instruction." -/
def occAseSveRetired (b : Obs) : Bool := occInstRetired b && (b.classAseRetired || b.classSveRetired)

/-- R269 SE_RETIRED (0x8359): "The counter counts each architecturally executed instruction counted by INST_RETIRED that is
classified as an Advanced SIMD, SVE, or SME data-processing instruction." -/
def occSeRetired (b : Obs) : Bool := occInstRetired b && (b.classAseRetired || b.classSveRetired || b.classSmeRetired)

/-- R262 DP_RETIRED (0x82AB): "The counter counts each architecturally executed instruction counted by INST_RETIRED that is
classified as an integer data-processing instruction." A prefetch instruction that is neither a Memory-reading instruction (U1)
nor counted by LDST_ANY_RETIRED only (U31) is a data-processing instruction (U2, U30), in AArch32 state too. A non-SIMD SVE one is counted
as the list says, only where FEAT_SVE is implemented. The model's choices, where the general sentence and the "That is" list differ: what none
of the events named counts and the list does not name (an ISB, SVC, HVC, SMC, BRK or BKPT that PC_WRITE_RETIRED does not count, a branch not
taken) is one where it is supplied (log 74); what the list names and one of those events counts is none (log 78). Logs 60 and 63. -/
def occDpRetired (b : Obs) : Bool :=
  occInstRetired b
    && (if occPrfRetired b then !b.choice 31 .ldstAnyRetired else b.own .dpRetired)
    && !occLdRetired b
    && !occStRetired b
    && !occPcWriteRetired b
    && !occVfpRetired b
    && !occSeRetired b
    && !occCryptoRetired b
    && b.gated .nonSimdSve (b.has .sve)

/-- R263 ASE_RETIRED (0x82AC): "The counter counts each architecturally executed instruction counted by ASE_SVE_RETIRED that is
classified as an Advanced SIMD data-processing instruction." -/
def occAseRetired (b : Obs) : Bool := occAseSveRetired b && b.classAseRetired

/-- R268 SME_RETIRED (0x8358): "The counter counts each architecturally executed instruction counted by SE_RETIRED that is
classified as an SME data-processing instruction." -/
def occSmeRetired (b : Obs) : Bool := occSeRetired b && b.classSmeRetired

/-- R265 SVE_RETIRED (0x82AE): "The counter counts each architecturally executed instruction counted by ASE_SVE_RETIRED that is
classified as an SVE data-processing instruction." -/
def occSveRetired (b : Obs) : Bool := occAseSveRetired b && b.classSveRetired

/-- R281 L1I_CACHE (0x0014): "The counter counts each Instruction memory access to at least the Level 1 instruction or unified
cache." U41, for each of its two kinds of access. Log 59. -/
def occL1iCache (b : Obs) : Bool :=
  b.own .l1iCache
    && b.gated .cacheMaintenance (b.choice 32 .l1iCache)
    && b.gated .statusOnly (!b.has .pmuv3p4 && b.choice 35 .l1iCache)
    && b.gated .byPrefetchInstruction (if b.implements .l1iCacheRd then b.implements .l1iCachePrfm else b.inSet 41 .l1iCache 0)
    && b.gated .byHardwarePrefetcher (if b.implements .l1iCacheRd then b.implements .l1iCacheHwprf else b.inSet 41 .l1iCache 1)

/-- R272 L1I_CACHE_REFILL (0x0001): "The counter counts each access counted by L1I_CACHE that causes a refill of the Level 1
instruction or unified cache from outside of the Level 1 instruction or unified cache." -/
def occL1iCacheRefill (b : Obs) : Bool :=
  occL1iCache b
    && b.own .l1iCacheRefill
    && b.never .previousMiss
    && b.gated .cacheMaintenance (b.choice 32 .l1iCacheRefill)

/-- R296 L1I_TLB (0x0026): "The counter counts each Instruction memory access that causes a TLB access to at least the Level 1
instruction TLB." -/
def occL1iTlb (b : Obs) : Bool := b.own .l1iTlb && b.never .tlbMaintenance

/-- R273 L1I_TLB_REFILL (0x0002): "The counter counts each Instruction memory access counted by L1I_TLB that causes a TLB refill of
the Level 1 instruction TLB." U34, for each of its two conditions. Log 59. -/
def occL1iTlbRefill (b : Obs) : Bool :=
  occL1iTlb b
    && b.own .l1iTlbRefill
    && b.never .tlbMaintenance
    && b.never .faultEpd
    && !(b.has .e0pd && b.is .faultE0pd)
    && b.gated .walkNotAllocated (b.inSet 34 .l1iTlbRefill 0)
    && b.gated .faultOther (b.inSet 34 .l1iTlbRefill 1)

/-- R275 L1D_CACHE (0x0004): "The counter counts each Memory-read operation or Memory-write operation that causes a cache access to
at least the Level 1 data or unified cache." U36, for each of its two kinds of access. Log 59. -/
def occL1dCache (b : Obs) : Bool :=
  b.own .l1dCache
    && b.gated .gcsDataAccess (!(b.has .gcs && b.implements .l1gcsCache))
    && b.gated .cacheMaintenance (b.choice 32 .l1dCache)
    && b.gated .statusOnly (!b.has .pmuv3p4 && b.choice 35 .l1dCache)
    && b.gated .byPrefetchInstruction (if b.implements .l1dCacheRw then b.implements .l1dCachePrfm else b.inSet 36 .l1dCache 0)
    && b.gated .byHardwarePrefetcher (if b.implements .l1dCacheRw then b.implements .l1dCacheHwprf else b.inSet 36 .l1dCache 1)

/-- R274 L1D_CACHE_REFILL (0x0003): "The counter counts each access counted by L1D_CACHE that causes a refill of the Level 1 data or
unified cache from outside of the Level 1 data or unified cache." -/
def occL1dCacheRefill (b : Obs) : Bool :=
  occL1dCache b
    && b.own .l1dCacheRefill
    && b.never .previousMiss
    && b.never .missWithoutRefill
    && b.gated .cacheMaintenance (b.choice 32 .l1dCacheRefill)

/-- R295 L1D_TLB (0x0025): "The counter counts each Memory-read operation or Memory-write operation that causes a TLB access to at
least the Level 1 data or unified TLB." -/
def occL1dTlb (b : Obs) : Bool :=
  b.own .l1dTlb
    && b.gated .gcsDataAccess (!(b.has .gcs && b.implements .l1gcsTlb))
    && b.never .tlbMaintenance

/-- R276 L1D_TLB_REFILL (0x0005): "The counter counts each access counted by L1D_TLB that causes a TLB refill of the Level 1 data or
unified TLB." U34, for each of its two conditions. Log 59. -/
def occL1dTlbRefill (b : Obs) : Bool :=
  occL1dTlb b
    && b.own .l1dTlbRefill
    && b.never .tlbMaintenance
    && b.never .faultEpd
    && !(b.has .e0pd && b.is .faultE0pd)
    && !(b.has .sve && b.is .faultNfd)
    && b.gated .walkNotAllocated (b.inSet 34 .l1dTlbRefill 0)
    && b.gated .faultOther (b.inSet 34 .l1dTlbRefill 1)

/-- R277 BR_MIS_PRED (0x0010): "The counter counts each correction to the predicted program flow that occurs because of a
misprediction from, or no prediction from, the branch prediction resources and that relates to instructions that the branch
prediction resources are capable of predicting." -/
def occBrMisPred (b : Obs) : Bool := b.own .brMisPred

/-- A Processor cycle: an occurrence of CPU_CYCLES (70_reset_and_hazards.md R1560), which one whose clocks are stopped is not with
FEAT_PMUv3p9, and by the draw of U37 without (60_exceptions.md R1524). It is one whether the counting PE is active or not: that clause is of
the counters of CPU_CYCLES with MT 0 and of what is counted by it (40_common_event_rules.md R129 (d)). Log 25. -/
def Obs.processorCycle (b : Obs) : Bool := b.own .cpuCycles && b.gated .clocksStopped (!b.has .pmuv3p9 && b.draw 37)

/-- R278 CPU_CYCLES (0x0011): "The counter increments on every cycle." 40_common_event_rules.md R129 (d). -/
def occCpuCycles (b : Obs) : Bool := b.processorCycle && (!b.impl.multithreaded || b.mt || b.active)

/-- R279 BR_PRED (0x0012): "The counter counts each branch or other change in the program flow that the branch prediction resources
are capable of predicting." -/
def occBrPred (b : Obs) : Bool := b.own .brPred && b.gated .notDynamicallyPredicted (b.choice 38 .brPred)

/-- R280 MEM_ACCESS (0x0013): "The counter counts each Memory-read operation or Memory-write operation that the PE makes." -/
def occMemAccess (b : Obs) : Bool :=
  b.own .memAccess
    && b.never .instructionAccess
    && b.never .translationTableWalk
    && b.never .writeBackAccess
    && b.never .refillAccess
    && b.gated .cacheMaintenance (b.choice 32 .memAccess)

/-- R282 L1D_CACHE_WB (0x0015): "The counter counts each write-back of data from the Level 1 data or unified cache to outside of the
Level 1 caches." U42, U43. Logs 59
and 62. -/
def occL1dCacheWb (b : Obs) : Bool :=
  b.own .l1dCacheWb
    && b.writeBackIncluded .l1dCacheWb
    && b.never .invalidationOnly
    && b.never .writeThrough

/-- R283 L2D_CACHE (0x0016): "The counter counts each Memory-read operation or Memory-write operation that causes a cache access to
at least the Level 2 data or unified cache." U44, for each of its two kinds of access. Log 59. -/
def occL2dCache (b : Obs) : Bool :=
  b.own .l2dCache
    && b.gated .cacheMaintenance (b.choice 32 .l2dCache)
    && b.gated .statusOnly (!b.has .pmuv3p4 && b.choice 35 .l2dCache)
    && b.gated .byPrefetchInstruction (if b.implements .l2dCacheRw then b.implements .l2dCachePrfm else b.inSet 44 .l2dCache 0)
    && b.gated .byHardwarePrefetcher (if b.implements .l2dCacheRw then b.implements .l2dCacheHwprf else b.inSet 44 .l2dCache 1)

/-- R284 L2D_CACHE_REFILL (0x0017): "The counter counts each access counted by L2D_CACHE that causes a refill of the Level 2 data or
unified cache, or any Level 1 data, instruction, or unified cache of this PE, from outside of those caches." -/
def occL2dCacheRefill (b : Obs) : Bool :=
  occL2dCache b
    && b.own .l2dCacheRefill
    && b.never .previousMiss
    && b.never .missWithoutRefill
    && b.gated .cacheMaintenance (b.choice 32 .l2dCacheRefill)

/-- R285 L2D_CACHE_WB (0x0018): "The counter counts each write-back of data from the Level 2 data or unified cache to outside of the
Level 1 and Level 2 caches." U42, U43. Logs 59
and 62. -/
def occL2dCacheWb (b : Obs) : Bool :=
  b.own .l2dCacheWb
    && b.writeBackIncluded .l2dCacheWb
    && b.never .invalidationOnly
    && b.never .writeThrough
    && b.never .refillOfOtherCache

/-- R286 BUS_ACCESS (0x0019): "The counter counts each Memory-read operation or Memory-write operation that accesses outside of the
boundary of the PE and its closely-coupled caches." U47; U45, U46 and U48 name the boundary, the transaction and the maximum per
cycle, which the environment fixes when it supplies the accesses. An Unattributable bus transaction is counted by no counter: the
attribution is `own`. Log 67. -/
def occBusAccess (b : Obs) : Bool := b.own .busAccess && b.gated .noDataTransfer (b.choice 47 .busAccess)

/-- R287 MEMORY_ERROR (0x001A): "The counter counts each occurrence of a memory error signaled by a memory closely coupled to this
PE." U49: which further memories are local. -/
def occMemoryError (b : Obs) : Bool :=
  b.own .memoryError
    && b.never .architecturalError
    && (b.is .localArray || b.inSet 49 .memoryError b.occ.component)

/-- R288 INST_SPEC (0x001B): "The counter counts each speculatively executed instruction." -/
def occInstSpec (b : Obs) : Bool := b.own .instSpec

/-- R289 BUS_CYCLES (0x001D): "The counter increments on every cycle of the interface at the boundary of the PE and its
closely-coupled caches. Where this boundary lies with respect to any implemented caches is IMPLEMENTATION DEFINED."
70_reset_and_hazards.md R1560: every Processor cycle, where the interface runs at the rate of the processor. Log 77. -/
def occBusCycles (b : Obs) : Bool := if b.impl.busAtProcessorRate then b.processorCycle else b.own .busCycles

/-- R290 L1D_CACHE_ALLOCATE (0x001F): "The counter counts each Memory-write operation that writes an entire line into the Level 1
data or unified cache without fetching data from outside the Level 1 data or unified cache." -/
def occL1dCacheAllocate (b : Obs) : Bool := b.own .l1dCacheAllocate && !occL1dCacheRefill b

/-- R291 L2D_CACHE_ALLOCATE (0x0020): "The counter counts each Memory-write operation that writes an entire line into the Level 2
data or unified cache without fetching data from outside the Level 2 data or unified cache." -/
def occL2dCacheAllocate (b : Obs) : Bool := b.own .l2dCacheAllocate && !occL2dCacheRefill b

/-- R292 BR_MIS_PRED_RETIRED (0x0022): "The counter counts each branch instruction counted by BR_RETIRED that was not correctly
predicted." -/
def occBrMisPredRetired (b : Obs) : Bool :=
  occBrRetired b
    && (if b.impl.hasPredictor then b.own .brMisPredRetired else !b.is .branchTaken)

/-- R318 STALL (0x003C): "The counter counts each cycle counted by CPU_CYCLES where no operation was sent for execution." -/
def occStall (b : Obs) : Bool := occCpuCycles b && (if b.impl.multithreaded && b.mt then !b.sentAny else !b.sentHere)

/-- R293 STALL_FRONTEND (0x0023): "The counter counts each cycle counted by CPU_CYCLES where no Attributable instruction or
operation was sent for execution and there was no Attributable instruction or operation available to dispatch for the PE from
the frontend." U50: the environment draws the line when it fills in the Slots. A STALL cycle (40_common_event_rules.md R139);
what is available is tested for the counting PE, with MT 1 too. Log 56. -/
def occStallFrontend (b : Obs) : Bool := occCpuCycles b && occStall b && !b.availableHere

/-- R294 STALL_BACKEND (0x0024): "The counter counts each cycle counted by CPU_CYCLES where Attributable instructions or operations
for the PE are available to dispatch from the frontend to the backend, but no Attributable instruction or operation is sent for
execution because the backend is unable to accept any of the instructions or operations available for the PE." U50, U51. A STALL
cycle (40_common_event_rules.md R139); what is available and what is blocked are tested for the counting PE, with MT 1 too. Log
56. -/
def occStallBackend (b : Obs) : Bool :=
  occCpuCycles b
    && occStall b
    && b.blockedHere
    && (b.availableHere || b.choice 51 .stallBackend)

/-- R297 L2I_CACHE (0x0027): "The counter counts each Instruction memory access to at least the Level 2 instruction or unified
cache." U52, for each of its two kinds of access. Log 59. -/
def occL2iCache (b : Obs) : Bool :=
  b.own .l2iCache
    && b.gated .cacheMaintenance (b.choice 32 .l2iCache)
    && b.gated .statusOnly (!b.has .pmuv3p4 && b.choice 35 .l2iCache)
    && b.gated .byPrefetchInstruction (if b.implements .l2iCacheRd then b.implements .l2iCachePrfm else b.inSet 52 .l2iCache 0)
    && b.gated .byHardwarePrefetcher (if b.implements .l2iCacheRd then b.implements .l2iCacheHwprf else b.inSet 52 .l2iCache 1)

/-- R298 L2I_CACHE_REFILL (0x0028): "The counter counts each access counted by L2I_CACHE that causes a refill of the Level 2
instruction or unified cache, or any Level 1 data, instruction, or unified cache of this PE, from outside of those caches." -/
def occL2iCacheRefill (b : Obs) : Bool :=
  occL2iCache b
    && b.own .l2iCacheRefill
    && b.never .previousMiss
    && b.gated .cacheMaintenance (b.choice 32 .l2iCacheRefill)

/-- R301 L3D_CACHE (0x002B): "The counter counts each Memory-read operation or Memory-write operation that causes a cache access to
at least the Level 3 data or unified cache." U53, for each of its two kinds of access. Log 59. -/
def occL3dCache (b : Obs) : Bool :=
  b.own .l3dCache
    && b.gated .cacheMaintenance (b.choice 32 .l3dCache)
    && b.gated .statusOnly (!b.has .pmuv3p4 && b.choice 35 .l3dCache)
    && b.gated .byPrefetchInstruction (if b.implements .l3dCacheRw then b.implements .l3dCachePrfm else b.inSet 53 .l3dCache 0)
    && b.gated .byHardwarePrefetcher (if b.implements .l3dCacheRw then b.implements .l3dCacheHwprf else b.inSet 53 .l3dCache 1)

/-- R300 L3D_CACHE_REFILL (0x002A): "The counter counts each access counted by L3D_CACHE that causes a refill of the Level 3 data or
unified cache, or any Level 1 or Level 2 data, instruction, or unified cache of this PE, from outside of those caches." -/
def occL3dCacheRefill (b : Obs) : Bool :=
  occL3dCache b
    && b.own .l3dCacheRefill
    && b.never .previousMiss
    && b.never .missWithoutRefill
    && b.gated .cacheMaintenance (b.choice 32 .l3dCacheRefill)

/-- R299 L3D_CACHE_ALLOCATE (0x0029): "The counter counts each Memory-write operation that writes an entire line into the Level 3
data or unified cache without fetching data from outside the Level 3 data or unified cache." -/
def occL3dCacheAllocate (b : Obs) : Bool := b.own .l3dCacheAllocate && !occL3dCacheRefill b

/-- R302 L3D_CACHE_WB (0x002C): "The counter counts each write-back of data from the Level 3 data or unified cache to outside of the
Level 1 to Level 3 caches." U42, U43. Logs 59
and 62. -/
def occL3dCacheWb (b : Obs) : Bool :=
  b.own .l3dCacheWb
    && b.writeBackIncluded .l3dCacheWb
    && b.never .invalidationOnly
    && b.never .writeThrough
    && b.never .refillOfOtherCache

/-- R305 L2D_TLB (0x002F): "The counter counts each Memory-read operation or Memory-write operation that causes a TLB access to at
least the Level 2 data or unified TLB." -/
def occL2dTlb (b : Obs) : Bool := b.own .l2dTlb && b.never .tlbMaintenance

/-- R303 L2D_TLB_REFILL (0x002D): "The counter counts each access counted by L2D_TLB that causes a TLB refill of the Level 2 data or
unified TLB, or any Level 1 data, instruction, or unified TLBs of this PE." U34, for each of its two conditions. Log 59. -/
def occL2dTlbRefill (b : Obs) : Bool :=
  occL2dTlb b
    && b.own .l2dTlbRefill
    && b.never .tlbMaintenance
    && b.never .faultEpd
    && !(b.has .e0pd && b.is .faultE0pd)
    && !(b.has .sve && b.is .faultNfd)
    && b.gated .walkNotAllocated (b.inSet 34 .l2dTlbRefill 0)
    && b.gated .faultOther (b.inSet 34 .l2dTlbRefill 1)

/-- R306 L2I_TLB (0x0030): "The counter counts each Instruction memory access that causes a TLB access to at least the Level 2
instruction TLB." -/
def occL2iTlb (b : Obs) : Bool := b.own .l2iTlb && b.never .tlbMaintenance

/-- R304 L2I_TLB_REFILL (0x002E): "The counter counts each Instruction memory access counted by L2I_TLB that causes a TLB refill of
the Level 2 instruction TLB, or any Level 1 data, instruction, or unified TLBs of this PE." U34, for each of its two conditions. Log 59. -/
def occL2iTlbRefill (b : Obs) : Bool :=
  occL2iTlb b
    && b.own .l2iTlbRefill
    && b.never .tlbMaintenance
    && b.never .faultEpd
    && !(b.has .e0pd && b.is .faultE0pd)
    && b.gated .walkNotAllocated (b.inSet 34 .l2iTlbRefill 0)
    && b.gated .faultOther (b.inSet 34 .l2iTlbRefill 1)

/-- R307 REMOTE_ACCESS (0x0031): "The counter counts each Memory-read operation or Memory-write operation that causes an access to a
remote device." U54, U55: which components are in a different socket; U56. -/
def occRemoteAccess (b : Obs) : Bool :=
  (b.localAsRemote || (b.own .remoteAccess && b.inSet 54 .remoteAccess b.occ.component
      && b.gated .remoteSnoopOnly (b.choice 56 .remoteAccess)))

/-- R308 LL_CACHE (0x0032): "The counter counts each Memory-read operation or Memory-write operation that causes a cache access to
at least the Last level cache." U57, for each of its two kinds of access. Log 59. -/
def occLlCache (b : Obs) : Bool :=
  b.own .llCache
    && b.gated .cacheMaintenance (b.choice 32 .llCache)
    && b.gated .statusOnly (!b.has .pmuv3p4 && b.choice 35 .llCache)
    && b.gated .byPrefetchInstruction (if b.implements .llCacheRw then b.implements .llCachePrfm else b.inSet 57 .llCache 0)
    && b.gated .byHardwarePrefetcher (if b.implements .llCacheRw then b.implements .llCacheHwprf else b.inSet 57 .llCache 1)

/-- R996 LL_CACHE_RW (0x8298): "The counter counts each access counted by LL_CACHE that is due to a demand Memory-read operation or
demand Memory-write operation." -/
def occLlCacheRw (b : Obs) : Bool := occLlCache b && b.own .llCacheRw

/-- R309 LL_CACHE_MISS (0x0033): "If the LL_CACHE_RW event is implemented, the counter counts each access counted by LL_CACHE_RW
that is not completed by the Last level cache." -/
def occLlCacheMiss (b : Obs) : Bool :=
  b.own .llCacheMiss
    && b.never .completedAbove
    && (if b.implements .llCacheRw then occLlCacheRw b else occLlCache b)
    && b.gated .cacheMaintenance (b.choice 32 .llCacheMiss)

/-- R310 DTLB_WALK (0x0034): "The counter counts each access counted by L1D_TLB that causes a refill of a data or unified TLB
involving at least one translation table walk access." -/
def occDtlbWalk (b : Obs) : Bool :=
  occL1dTlb b
    && b.own .dtlbWalk
    && b.gated .updatesExistingEntry (b.has .armv8p7 || b.choice 58 .dtlbWalk)
    && b.never .tlbMaintenance
    && b.never .faultEpd
    && !(b.has .e0pd && b.is .faultE0pd)
    && !(b.has .sve && b.is .faultNfd)
    && b.gated .faultOther (b.choice 59 .dtlbWalk)

/-- R311 ITLB_WALK (0x0035): "The counter counts each access counted by L1I_TLB that causes a refill of an instruction TLB involving
at least one translation table walk access." -/
def occItlbWalk (b : Obs) : Bool :=
  occL1iTlb b
    && b.own .itlbWalk
    && b.gated .updatesExistingEntry (b.has .armv8p7 || b.choice 58 .itlbWalk)
    && b.never .tlbMaintenance
    && b.never .faultEpd
    && !(b.has .e0pd && b.is .faultE0pd)
    && b.gated .faultOther (b.choice 59 .itlbWalk)

/-- R312 LL_CACHE_RD (0x0036): "If the LL_CACHE_RW event is implemented, the counter counts each access counted by LL_CACHE_RW that
is a Memory-read operation." -/
def occLlCacheRd (b : Obs) : Bool := b.own .llCacheRd && (if b.implements .llCacheRw then occLlCacheRw b else occLlCache b)

/-- R313 LL_CACHE_MISS_RD (0x0037): "The counter counts each access counted by both LL_CACHE_MISS and LL_CACHE_RD." -/
def occLlCacheMissRd (b : Obs) : Bool := occLlCacheMiss b && occLlCacheRd b

/-- R314 REMOTE_ACCESS_RD (0x0038): "The counter counts each access counted by REMOTE_ACCESS that is a Memory-read operation." -/
def occRemoteAccessRd (b : Obs) : Bool := occRemoteAccess b && b.own .remoteAccessRd

/-- R315 L1D_CACHE_LMISS_RD (0x0039): "The counter counts each Memory-read operation to the Level 1 data or unified cache counted by
L1D_CACHE that incurs additional latency because it returns data from outside of the Level 1 data or unified cache of this PE." -/
def occL1dCacheLmissRd (b : Obs) : Bool :=
  occL1dCache b
    && b.own .l1dCacheLmissRd
    && (b.is .lmissExtension || (b.never .lowImpact && b.never .previousMiss))
    && b.gated .cacheMaintenance (b.choice 60 .l1dCacheLmissRd)

/-- R317 OP_SPEC (0x003B): "The counter counts each operation speculatively executed executed by the PE." -/
def occOpSpec (b : Obs) : Bool := b.own .opSpec

/-- R316 OP_RETIRED (0x003A): "The counter counts each operation counted by OP_SPEC that would be executed in a Simple sequential
execution of the program." -/
def occOpRetired (b : Obs) : Bool := occOpSpec b && b.own .opRetired

/-- R321 STALL_SLOT (0x003F): "The counter increments by the number of instruction or operation Slots that were not occupied by an
instruction or operation Attributable to the PE on each cycle." Counted once a Processor cycle with the number of Slots of
`slotsIdle` (40_common_event_rules.md R123, R1560); U64, U65. -/
def occStallSlot (b : Obs) : Bool := occCpuCycles b

/-- R319 STALL_SLOT_BACKEND (0x003D): "The counter counts each Slot counted by STALL_SLOT where an Attributable instruction or
operation for the PE is available on the Slot to dispatch from the frontend to the backend, but is not sent for execution
because the backend is unable to accept the available instruction or operation for the PE." Counted with the Slots of
`slotsBackend`; U50, U61, U62. -/
def occStallSlotBackend (b : Obs) : Bool := occStallSlot b

/-- R320 STALL_SLOT_FRONTEND (0x003E): "The counter counts each Slot counted by STALL_SLOT where no Attributable instruction or
operation was sent for execution and there was no Attributable instruction or operation available to dispatch for the PE from
the frontend for the Slot." Counted with the Slots of `slotsFrontend`; U50, U63. -/
def occStallSlotFrontend (b : Obs) : Bool := occStallSlot b

/-- R701 L1D_CACHE_RW (0x8140): "The counter counts each access counted by L1D_CACHE that is due to a demand Memory-read operation
or demand Memory-write operation." -/
def occL1dCacheRw (b : Obs) : Bool := occL1dCache b && b.own .l1dCacheRw

/-- R322 L1D_CACHE_RD (0x0040): "If the L1D_CACHE_RW event is implemented, the counter counts each access counted by L1D_CACHE_RW
that is a Memory-read operation." -/
def occL1dCacheRd (b : Obs) : Bool :=
  b.own .l1dCacheRd
    && (if b.implements .l1dCacheRw then occL1dCacheRw b else occL1dCache b)

/-- R323 L1D_CACHE_WR (0x0041): "If the L1D_CACHE_RW event is implemented, the counter counts each access counted by L1D_CACHE_RW
that is a Memory-write operation." -/
def occL1dCacheWr (b : Obs) : Bool :=
  b.own .l1dCacheWr
    && (if b.implements .l1dCacheRw then occL1dCacheRw b else occL1dCache b)

/-- R324 L1D_CACHE_REFILL_RD (0x0042): "The counter counts each access counted by both L1D_CACHE_RD and L1D_CACHE_REFILL." -/
def occL1dCacheRefillRd (b : Obs) : Bool := occL1dCacheRd b && occL1dCacheRefill b

/-- R325 L1D_CACHE_REFILL_WR (0x0043): "The counter counts each access counted by both L1D_CACHE_REFILL and L1D_CACHE_WR." -/
def occL1dCacheRefillWr (b : Obs) : Bool := occL1dCacheRefill b && occL1dCacheWr b

/-- R326 L1D_CACHE_REFILL_INNER (0x0044): "The counter counts each access counted by L1D_CACHE_REFILL that generates a refill
satisfied by transfer from another cache inside of the immediate cluster." -/
def occL1dCacheRefillInner (b : Obs) : Bool :=
  occL1dCacheRefill b
    && b.own .l1dCacheRefillInner
    && b.inSet 66 .l1dCacheRefillInner b.occ.component

/-- R327 L1D_CACHE_REFILL_OUTER (0x0045): "The counter counts each access counted by L1D_CACHE_REFILL that generates a refill
satisfied by transfer from outside of the immediate cluster." -/
def occL1dCacheRefillOuter (b : Obs) : Bool :=
  occL1dCacheRefill b
    && b.own .l1dCacheRefillOuter
    && b.inSet 66 .l1dCacheRefillOuter b.occ.component

/-- R328 L1D_CACHE_WB_VICTIM (0x0046): "The counter counts each write-back counted by L1D_CACHE_WB that occurs because the line is
allocated for an access made by the PE." -/
def occL1dCacheWbVictim (b : Obs) : Bool := occL1dCacheWb b && b.own .l1dCacheWbVictim

/-- R329 L1D_CACHE_WB_CLEAN (0x0047): "The counter counts each write-back counted by L1D_CACHE_WB that occurs because of a coherency
operation made by another PE or, optionally, the execution of a cache maintenance instruction." -/
def occL1dCacheWbClean (b : Obs) : Bool :=
  occL1dCacheWb b
    && b.own .l1dCacheWbClean
    && b.gated .cacheMaintenance (b.choice 67 .l1dCacheWbClean)
    && b.never .transferWithoutWriteBack

/-- R330 L1D_CACHE_INVAL (0x0048): "The counter counts each invalidation of a cache line in the Level 1 data or unified cache. For
example:" -/
def occL1dCacheInval (b : Obs) : Bool :=
  b.own .l1dCacheInval
    && b.never .refillInvalidates
    && b.gated .setWayMaintenance (b.has .pmuv3p4 && b.choice 68 .l1dCacheInval)

/-- R685 L1D_TLB_RW (0x8130): "The counter counts each access counted by L1D_TLB that is due to a demand Memory-read operation or
demand Memory-write operation." -/
def occL1dTlbRw (b : Obs) : Bool := occL1dTlb b && b.own .l1dTlbRw

/-- R333 L1D_TLB_RD (0x004E): "If the L1D_TLB_RW event is implemented, the counter counts each access counted by L1D_TLB_RW that is
a Memory-read operation." -/
def occL1dTlbRd (b : Obs) : Bool := b.own .l1dTlbRd && (if b.implements .l1dTlbRw then occL1dTlbRw b else occL1dTlb b)

/-- R331 L1D_TLB_REFILL_RD (0x004C): "The counter counts each access counted by both L1D_TLB_RD and L1D_TLB_REFILL." -/
def occL1dTlbRefillRd (b : Obs) : Bool := occL1dTlbRd b && occL1dTlbRefill b

/-- R334 L1D_TLB_WR (0x004F): "If the L1D_TLB_RW event is implemented, the counter counts each access counted by L1D_TLB_RW that is
a Memory-write operation." -/
def occL1dTlbWr (b : Obs) : Bool := b.own .l1dTlbWr && (if b.implements .l1dTlbRw then occL1dTlbRw b else occL1dTlb b)

/-- R332 L1D_TLB_REFILL_WR (0x004D): "The counter counts each access counted by both L1D_TLB_REFILL and L1D_TLB_WR." -/
def occL1dTlbRefillWr (b : Obs) : Bool := occL1dTlbRefill b && occL1dTlbWr b

/-- R709 L2D_CACHE_RW (0x8148): "The counter counts each access counted by L2D_CACHE that is due to a demand Memory-read operation
or demand Memory-write operation." -/
def occL2dCacheRw (b : Obs) : Bool := occL2dCache b && b.own .l2dCacheRw

/-- R335 L2D_CACHE_RD (0x0050): "If the L2D_CACHE_RW event is implemented, the counter counts each access counted by L2D_CACHE_RW
that is a Memory-read operation." -/
def occL2dCacheRd (b : Obs) : Bool :=
  b.own .l2dCacheRd
    && (if b.implements .l2dCacheRw then occL2dCacheRw b else occL2dCache b)

/-- R336 L2D_CACHE_WR (0x0051): "If the L2D_CACHE_RW event is implemented, the counter counts each access counted by L2D_CACHE_RW
that is a Memory-write operation." -/
def occL2dCacheWr (b : Obs) : Bool :=
  b.own .l2dCacheWr
    && (if b.implements .l2dCacheRw then occL2dCacheRw b else occL2dCache b)

/-- R337 L2D_CACHE_REFILL_RD (0x0052): "The counter counts each access counted by both L2D_CACHE_RD and L2D_CACHE_REFILL." -/
def occL2dCacheRefillRd (b : Obs) : Bool := occL2dCacheRd b && occL2dCacheRefill b

/-- R338 L2D_CACHE_REFILL_WR (0x0053): "The counter counts each access counted by both L2D_CACHE_REFILL and L2D_CACHE_WR." -/
def occL2dCacheRefillWr (b : Obs) : Bool := occL2dCacheRefill b && occL2dCacheWr b

/-- R339 L2D_CACHE_WB_VICTIM (0x0056): "The counter counts each write-back counted by L2D_CACHE_WB that occurs because the line is
allocated for an access made by the PE." -/
def occL2dCacheWbVictim (b : Obs) : Bool := occL2dCacheWb b && b.own .l2dCacheWbVictim

/-- R340 L2D_CACHE_WB_CLEAN (0x0057): "The counter counts each write-back counted by L2D_CACHE_WB that occurs because of a coherency
operation made by another PE or, optionally, the execution of a cache maintenance instruction." -/
def occL2dCacheWbClean (b : Obs) : Bool :=
  occL2dCacheWb b
    && b.own .l2dCacheWbClean
    && b.gated .cacheMaintenance (b.choice 67 .l2dCacheWbClean)
    && b.never .transferWithoutWriteBack

/-- R341 L2D_CACHE_INVAL (0x0058): "The counter counts each invalidation of a cache line in the Level 2 data or unified cache. For
example:" -/
def occL2dCacheInval (b : Obs) : Bool :=
  b.own .l2dCacheInval
    && b.never .refillInvalidates
    && b.gated .setWayMaintenance (b.has .pmuv3p4 && b.choice 68 .l2dCacheInval)

/-- R344 L2D_TLB_RD (0x005E): "The counter counts each access counted by L2D_TLB that is a Memory-read operation." -/
def occL2dTlbRd (b : Obs) : Bool := occL2dTlb b && b.own .l2dTlbRd

/-- R342 L2D_TLB_REFILL_RD (0x005C): "The counter counts each access counted by both L2D_TLB_RD and L2D_TLB_REFILL." -/
def occL2dTlbRefillRd (b : Obs) : Bool := occL2dTlbRd b && occL2dTlbRefill b

/-- R345 L2D_TLB_WR (0x005F): "The counter counts each access counted by L2D_TLB that is a Memory-write operation." -/
def occL2dTlbWr (b : Obs) : Bool := occL2dTlb b && b.own .l2dTlbWr

/-- R343 L2D_TLB_REFILL_WR (0x005D): "The counter counts each access counted by both L2D_TLB_REFILL and L2D_TLB_WR." -/
def occL2dTlbRefillWr (b : Obs) : Bool := occL2dTlbRefill b && occL2dTlbWr b

end Sys2Proof.Machine
end

