-- ==== Sys2Proof/Machine/Occ2.lean ====
section
/-!
DEFINITION. `Occ(E)` (40_common_event_rules.md R120, R122) of the events, part 2 of 8: which occurrences a counter sees as
occurrences of E. Each definition conjoins the clauses of the event's own rule; a parent ("counted by X") stands before its
children, so the parts follow that order and not the order of the numbers.
-/

namespace Sys2Proof.Machine

/-- R346 BUS_ACCESS_RD (0x0060): "The counter counts each access counted by BUS_ACCESS that is a Memory-read operation." -/
def occBusAccessRd (b : Obs) : Bool := occBusAccess b && b.own .busAccessRd

/-- R347 BUS_ACCESS_WR (0x0061): "The counter counts each access counted by BUS_ACCESS that is a Memory-write operation." -/
def occBusAccessWr (b : Obs) : Bool := occBusAccess b && b.own .busAccessWr

/-- R348 BUS_ACCESS_SHARED (0x0062): "The counter counts each access counted by BUS_ACCESS that is Normal, Cacheable, Shareable."
U69, U70: the translation of the attributes is the environment's; the set says which attributes on the bus are Shareable. -/
def occBusAccessShared (b : Obs) : Bool :=
  occBusAccess b
    && b.own .busAccessShared
    && b.inSet 69 .busAccessShared b.occ.component

/-- R349 BUS_ACCESS_NOT_SHARED (0x0063): "The counter counts each access counted by BUS_ACCESS that is not counted by
BUS_ACCESS_SHARED." U70, U71. -/
def occBusAccessNotShared (b : Obs) : Bool := occBusAccess b && !occBusAccessShared b

/-- R350 BUS_ACCESS_NORMAL (0x0064): "The counter counts each access counted by BUS_ACCESS that is to Normal or bulk memory." -/
def occBusAccessNormal (b : Obs) : Bool := occBusAccess b && b.own .busAccessNormal

/-- R351 BUS_ACCESS_PERIPH (0x0065): "The counter counts each access counted by BUS_ACCESS that is not counted by
BUS_ACCESS_NORMAL." -/
def occBusAccessPeriph (b : Obs) : Bool := occBusAccess b && !occBusAccessNormal b

/-- R1003 MEM_ACCESS_RW (0x82A0): "The counter counts each access counted by MEM_ACCESS that is a demand Memory-read operation or
demand Memory-write operation." -/
def occMemAccessRw (b : Obs) : Bool := occMemAccess b && b.own .memAccessRw

/-- R352 MEM_ACCESS_RD (0x0066): "If the MEM_ACCESS_RW event is implemented, the counter counts each access counted by MEM_ACCESS_RW
that is a Memory-read operation." -/
def occMemAccessRd (b : Obs) : Bool :=
  b.own .memAccessRd
    && (if b.implements .memAccessRw then occMemAccessRw b else occMemAccess b)

/-- R353 MEM_ACCESS_WR (0x0067): "If the MEM_ACCESS_RW event is implemented, the counter counts each access counted by MEM_ACCESS_RW
that is a Memory-write operation." -/
def occMemAccessWr (b : Obs) : Bool :=
  b.own .memAccessWr
    && (if b.implements .memAccessRw then occMemAccessRw b else occMemAccess b)

/-- R356 UNALIGNED_LDST_SPEC (0x006A): "The counter counts each access counted by MEM_ACCESS that is an unaligned Memory-read
operation or unaligned Memory-write operation." -/
def occUnalignedLdstSpec (b : Obs) : Bool := occMemAccess b && b.own .unalignedLdstSpec

/-- R354 UNALIGNED_LD_SPEC (0x0068): "The counter counts each unaligned access counted by UNALIGNED_LDST_SPEC that is a Memory-read
operation." -/
def occUnalignedLdSpec (b : Obs) : Bool := occUnalignedLdstSpec b && b.own .unalignedLdSpec

/-- R355 UNALIGNED_ST_SPEC (0x0069): "The counter counts each unaligned access counted by UNALIGNED_LDST_SPEC that is a Memory-write
operation." -/
def occUnalignedStSpec (b : Obs) : Bool := occUnalignedLdstSpec b && b.own .unalignedStSpec

/-- R357 LDREX_SPEC (0x006C): "The counter counts each speculatively executed Load-Exclusive instruction." U72, U74: one definition
of speculatively executed for both. -/
def occLdrexSpec (b : Obs) : Bool := b.own .ldrexSpec && b.inSet 72 .ldrexSpec b.occ.opClass

/-- R360 STREX_SPEC (0x006F): "The counter counts each speculatively executed Store-Exclusive instruction." U72, U74: one definition
of speculatively executed for both. -/
def occStrexSpec (b : Obs) : Bool := b.own .strexSpec && b.inSet 72 .ldrexSpec b.occ.opClass

/-- R358 STREX_PASS_SPEC (0x006D): "The counter counts each speculatively executed Store-Exclusive instruction counted by STREX_SPEC
that completed a write." -/
def occStrexPassSpec (b : Obs) : Bool := occStrexSpec b && b.own .strexPassSpec

/-- R359 STREX_FAIL_SPEC (0x006E): "The counter counts each speculatively executed Store-Exclusive instruction counted by STREX_SPEC
that fails to complete a write." -/
def occStrexFailSpec (b : Obs) : Bool :=
  occStrexSpec b
    && b.own .strexFailSpec
    && b.gated .failsConditionCode (b.choice 73 .strexFailSpec)

/-- R557 PRF_SPEC (0x8087): "The counter counts each speculatively executed prefetch operation due to any of the following A64
instructions:" -/
def occPrfSpec (b : Obs) : Bool :=
  b.own .prfSpec
    && (if b.aarch32 then b.inSet 116 .prfSpec b.occ.opClass
      else b.oneOf [.scalarPrfm, .scalarPrfum, .scalarRprfm, .svePrfb, .svePrfd, .svePrfh, .svePrfw])

/-- R363 LDST_SPEC (0x0072): "The counter counts each operation counted by INST_SPEC that is a load operation or a store operation. See
LD_SPEC and ST_SPEC for these classifications." U75, U77. That U77 decides where PRF_SPEC is not implemented too is the model's choice:
log 73. Logs 41 and 70. -/
def occLdstSpec (b : Obs) : Bool :=
  occInstSpec b
    && (if occPrfSpec b then b.choice 75 .ldSpec || b.choice 77 .ldstSpec else b.own .ldSpec || b.own .stSpec)

/-- R361 LD_SPEC (0x0070): "The counter counts each operation counted by LDST_SPEC that is a load operation." U75; U76 is the choice
U77 of LDST_SPEC. -/
def occLdSpec (b : Obs) : Bool := occLdstSpec b && (if occPrfSpec b then b.choice 75 .ldSpec else b.own .ldSpec)

/-- R362 ST_SPEC (0x0071): "The counter counts each operation counted by LDST_SPEC that is a store operation." -/
def occStSpec (b : Obs) : Bool := occLdstSpec b && b.own .stSpec

/-- R366 VFP_SPEC (0x0075): "The counter counts each operation counted by INST_SPEC that is a scalar floating-point operation." -/
def occVfpSpec (b : Obs) : Bool :=
  occInstSpec b
    && b.own .vfpSpec
    && b.never .aseScalar
    && b.never .simdFloatingPoint
    && b.never .integerDataProcessing
    && b.never .loadOrStore

/-- A Software change of the PC for PC_WRITE_SPEC (R367) and BR_INDIRECT_SPEC (R371): "Software change of the PC operations are defined
by the PC_WRITE_RETIRED event", so no exception but the identified ones is one (60_exceptions.md R1504). Log 72. -/
def Obs.pcChangeSpec (b : Obs) : Bool := b.own .pcWriteSpec && b.exceptionIdentified && b.pcGroup (b.pcWriteIncludes)

/-- R367 PC_WRITE_SPEC (0x0076): "The counter counts each operation counted by INST_SPEC that is a Software change of the PC." U78. -/
def occPcWriteSpec (b : Obs) : Bool :=
  occInstSpec b
    && b.pcChangeSpec
    && b.gated .branchNotTaken (b.has .pmuv3p8 || b.choice 78 .pcWriteSpec)

/-- R368 CRYPTO_SPEC (0x0077): "The counter counts each operation counted by INST_SPEC that is a cryptographic operation." -/
def occCryptoSpec (b : Obs) : Bool :=
  occInstSpec b
    && b.own .cryptoSpec
    && b.never .asePmullLong
    && b.never .svePmullLong
    && b.gated .sve2Cryptographic (b.has .sve2)

/-- An Advanced SIMD data-processing operation (ASE_SPEC R365). Log 70. -/
def Obs.classAseSpec (b : Obs) : Bool :=
  b.own .aseSpec
    && b.never .integerDataProcessing
    && (b.never .scalarFloatingPoint || (b.is .aseScalar))
    && b.never .loadOrStore
    && !occCryptoSpec b
    && b.gated .asePmullLong (b.has .crypto)

/-- An SME data-processing operation (SME_SPEC R1147). Log 70. -/
def Obs.classSmeSpec (b : Obs) : Bool :=
  b.own .smeSpec && b.is .operatesOnZaOrZt && b.never .loadOrStore && b.never .nonSimdSme

/-- An SVE data-processing operation (SVE_SPEC R511). What CRYPTO_SPEC counts is left out only where the Cryptographic Extension is
implemented. Log 70. -/
def Obs.classSveSpec (b : Obs) : Bool :=
  b.own .sveSpec
    && b.never .loadOrStore
    && !(b.has .crypto && occCryptoSpec b)
    && !(b.has .sme && b.classSmeSpec)

/-- R1148 SE_SPEC (0x835D): "The counter counts each operation counted by INST_SPEC that is an Advanced SIMD, SVE, or SME
data-processing operation." -/
def occSeSpec (b : Obs) : Bool := occInstSpec b && (b.classAseSpec || b.classSveSpec || b.classSmeSpec)

/-- R364 DP_SPEC (0x0073): "The counter counts each operation counted by INST_SPEC that is an integer data-processing operation." An
operation due to a prefetch instruction that U75 and U77 leave is one, in AArch32 state too. A non-SIMD SVE one is counted as the list
says, only where SVE_SPEC is implemented. The model's choices, where the general sentence and the "That is" list differ: what none of the
events named counts and the list does not name (an ISB, SVC, HVC, SMC, BRK or BKPT that PC_WRITE_SPEC does not count, a branch not taken with
U78 false) is one where it is supplied (log 74); what the list names and one of those events counts (a non-SIMD SVE operation that SVE_SPEC
counts) is none (log 78). Logs 60 and 63. -/
def occDpSpec (b : Obs) : Bool :=
  occInstSpec b
    && (if occPrfSpec b then !(b.choice 75 .ldSpec || b.choice 77 .ldstSpec) else b.own .dpSpec)
    && !occLdstSpec b
    && !occPcWriteSpec b
    && !occVfpSpec b
    && !occSeSpec b
    && !occCryptoSpec b
    && b.gated .nonSimdSve (b.has .sve && b.implements .sveSpec)

/-- R512 ASE_SVE_SPEC (0x8057): "The counter counts each operation counted by INST_SPEC that is an Advanced SIMD data-processing
operation or an SVE data-processing operation." -/
def occAseSveSpec (b : Obs) : Bool := occInstSpec b && (b.classAseSpec || b.classSveSpec)

/-- R365 ASE_SPEC (0x0074): "The counter counts each operation counted by ASE_SVE_SPEC that is an Advanced SIMD data-processing
operation." -/
def occAseSpec (b : Obs) : Bool := occAseSveSpec b && b.classAseSpec

/-- R369 BR_IMMED_SPEC (0x0078): "The counter counts each speculatively executed immediate branch instruction." U79; conflict C1. -/
def occBrImmedSpec (b : Obs) : Bool :=
  b.own .brImmedSpec
    && (if b.is .contextSynchronization then b.pcWriteIncludes 3 && b.choice 79 .brImmedSpec
      else if b.aarch32 then b.oneOf [.a32B, .a32Bl, .a32BlxLabel, .a32Cbz, .a32Cbnz] else b.oneOf [.a64B, .a64BCond, .a64Bl, .a64Cbz, .a64Cbnz, .a64Tbz, .a64Tbnz, .a64BcCond, .a64CbccImm, .a64CbccReg, .a64Cbbcc, .a64Cbhcc])

/-- R370 BR_RETURN_SPEC (0x0079): "The counter counts each speculatively executed procedure return instruction." -/
def occBrReturnSpec (b : Obs) : Bool := b.own .brReturnSpec && b.procedureReturn

/-- R371 BR_INDIRECT_SPEC (0x007A): "The counter counts each speculatively executed indirect branch instruction. ... Software change
of the PC has the same definition as for the PC_WRITE_SPEC event." Taken or not. U11. Logs 51 and 72. -/
def occBrIndirectSpec (b : Obs) : Bool :=
  b.own .brIndirectSpec
    && b.pcChangeSpec
    && b.notExceptionGenerating
    && !occBrImmedSpec b

/-- R372 ISB_SPEC (0x007C): "The counter counts each speculatively executed Instruction Synchronization Barrier instruction." -/
def occIsbSpec (b : Obs) : Bool := b.own .isbSpec

/-- R373 DSB_SPEC (0x007D): "The counter counts each speculatively executed data synchronization and speculative load barrier
instruction." -/
def occDsbSpec (b : Obs) : Bool := b.own .dsbSpec

/-- R374 DMB_SPEC (0x007E): "The counter counts each speculatively executed data memory barrier instruction." Conflict C2, decision
D14. -/
def occDmbSpec (b : Obs) : Bool :=
  (if b.is .cp15Dsb then b.impl.dmbCp15Dsb && b.own .dsbSpec else b.own .dmbSpec)
    && b.never .impliedBarrier

/-- R375 CSDB_SPEC (0x007F): "The counter counts each speculatively executed control speculation barrier instruction." -/
def occCsdbSpec (b : Obs) : Bool := b.own .csdbSpec

/-- R376 RC_LD_SPEC (0x0090): "The counter counts each speculatively executed Memory-read operation with acquire or acquirepc
semantics." -/
def occRcLdSpec (b : Obs) : Bool := b.own .rcLdSpec

/-- R377 RC_ST_SPEC (0x0091): "The counter counts each speculatively executed Memory-write operation with release semantics." -/
def occRcStSpec (b : Obs) : Bool := b.own .rcStSpec

/-- R717 L3D_CACHE_RW (0x8150): "The counter counts each access counted by L3D_CACHE that is due to a demand Memory-read operation
or demand Memory-write operation." -/
def occL3dCacheRw (b : Obs) : Bool := occL3dCache b && b.own .l3dCacheRw

/-- R824 L3D_CACHE_HIT_RW (0x81CE): "The counter counts each demand access counted by L3D_CACHE_RW that hits in the Level 3 data or
unified cache." -/
def occL3dCacheHitRw (b : Obs) : Bool := occL3dCacheRw b && b.own .l3dCacheHitRw

/-- R391 L3D_CACHE_HIT_RW_FEXT_PROP (0x00AE): "The counter counts each demand access first hit counted by L3D_CACHE_HIT_RW where the
cache line was fetched in response to an external propagating transaction." -/
def occL3dCacheHitRwFextProp (b : Obs) : Bool :=
  occL3dCacheHitRw b
    && b.own .l3dCacheHitRwFextProp
    && b.never .laterHit
    && b.never .lineAlreadyReported

/-- R378 L3D_CACHE_HIT_WR_FEXT_PROP (0x0092): "The counter counts each demand access first hit counted by L3D_CACHE_HIT_RW_FEXT_PROP
due to a demand Memory-write operation." -/
def occL3dCacheHitWrFextProp (b : Obs) : Bool := occL3dCacheHitRwFextProp b && b.own .l3dCacheHitWrFextProp

/-- R379 L3D_CACHE_RD (0x00A0): "If the L3D_CACHE_RW event is implemented, the counter counts each access counted by L3D_CACHE_RW
that is a Memory-read operation." -/
def occL3dCacheRd (b : Obs) : Bool :=
  b.own .l3dCacheRd
    && (if b.implements .l3dCacheRw then occL3dCacheRw b else occL3dCache b)

/-- R380 L3D_CACHE_WR (0x00A1): "If the L3D_CACHE_RW event is implemented, the counter counts each access counted by L3D_CACHE_RW
that is a Memory-write operation." -/
def occL3dCacheWr (b : Obs) : Bool :=
  b.own .l3dCacheWr
    && (if b.implements .l3dCacheRw then occL3dCacheRw b else occL3dCache b)

/-- R381 L3D_CACHE_REFILL_RD (0x00A2): "The counter counts each access counted by both L3D_CACHE_RD and L3D_CACHE_REFILL." -/
def occL3dCacheRefillRd (b : Obs) : Bool := occL3dCacheRd b && occL3dCacheRefill b

/-- R382 L3D_CACHE_REFILL_WR (0x00A3): "The counter counts each access counted by both L3D_CACHE_REFILL and L3D_CACHE_WR." -/
def occL3dCacheRefillWr (b : Obs) : Bool := occL3dCacheRefill b && occL3dCacheWr b

/-- R383 L3D_CACHE_WB_VICTIM (0x00A6): "The counter counts each write-back counted by L3D_CACHE_WB that occurs because the line is
allocated for an access made by the PE." -/
def occL3dCacheWbVictim (b : Obs) : Bool := occL3dCacheWb b && b.own .l3dCacheWbVictim

/-- R384 L3D_CACHE_WB_CLEAN (0x00A7): "The counter counts each write-back counted by L3D_CACHE_WB that occurs because of a coherency
operation made by another PE or, optionally, the execution of a cache maintenance instruction." -/
def occL3dCacheWbClean (b : Obs) : Bool :=
  occL3dCacheWb b
    && b.own .l3dCacheWbClean
    && b.gated .cacheMaintenance (b.choice 67 .l3dCacheWbClean)
    && b.never .transferWithoutWriteBack

/-- R385 L3D_CACHE_INVAL (0x00A8): "The counter counts each invalidation of a cache line in the Level 3 data or unified cache. For
example:" -/
def occL3dCacheInval (b : Obs) : Bool :=
  b.own .l3dCacheInval
    && b.never .refillInvalidates
    && b.gated .setWayMaintenance (b.has .pmuv3p4 && b.choice 68 .l3dCacheInval)

/-- R823 L2D_CACHE_HIT_RW (0x81CD): "The counter counts each demand access counted by L2D_CACHE_RW that hits in the Level 2 data or
unified cache." -/
def occL2dCacheHitRw (b : Obs) : Bool := occL2dCacheRw b && b.own .l2dCacheHitRw

/-- R388 L2D_CACHE_HIT_RW_FEXT_PROP (0x00AB): "The counter counts each demand access first hit counted by L2D_CACHE_HIT_RW where the
cache line was fetched in response to an external propagating transaction." -/
def occL2dCacheHitRwFextProp (b : Obs) : Bool :=
  occL2dCacheHitRw b
    && b.own .l2dCacheHitRwFextProp
    && b.never .laterHit
    && b.never .lineAlreadyReported

/-- R386 L2D_CACHE_HIT_RD_FEXT_PROP (0x00A9): "The counter counts each demand access first hit counted by L2D_CACHE_HIT_RW_FEXT_PROP
due to a demand Memory-read operation." -/
def occL2dCacheHitRdFextProp (b : Obs) : Bool := occL2dCacheHitRwFextProp b && b.own .l2dCacheHitRdFextProp

/-- R387 L2D_CACHE_HIT_WR_FEXT_PROP (0x00AA): "The counter counts each demand access first hit counted by L2D_CACHE_HIT_RW_FEXT_PROP
due to a demand Memory-write operation." -/
def occL2dCacheHitWrFextProp (b : Obs) : Bool := occL2dCacheHitRwFextProp b && b.own .l2dCacheHitWrFextProp

/-- R389 L3D_CACHE_EXT_PROP (0x00AC): "The counter counts each operation that writes into the level 3 data cache that is initiated
by an external propagating transaction." -/
def occL3dCacheExtProp (b : Obs) : Bool := b.own .l3dCacheExtProp && !occL3dCacheRefill b

/-- R390 L3D_CACHE_EXT_PROP_PRFM_IR (0x00AD): "The counter counts each access counted by L3D_CACHE_EXT_PROP that happens after local
PE executes a prefetch with intent to read on the location." -/
def occL3dCacheExtPropPrfmIr (b : Obs) : Bool := occL3dCacheExtProp b && b.own .l3dCacheExtPropPrfmIr

/-- R392 L3D_CACHE_HIT_RD_FEXT_PROP (0x00AF): "The counter counts each demand access first hit counted by L3D_CACHE_HIT_RW_FEXT_PROP
due to a demand Memory-read operation." -/
def occL3dCacheHitRdFextProp (b : Obs) : Bool := occL3dCacheHitRwFextProp b && b.own .l3dCacheHitRdFextProp

/-- R393 STSHH_SPEC (0x00B0): "The counter counts each speculatively executed STSHH instruction." -/
def occStshhSpec (b : Obs) : Bool := b.own .stshhSpec

/-- R394 STSHH_KEEP_SPEC (0x00B1): "The counter counts each speculatively executed STSHH KEEP instruction counted by STSHH_SPEC." -/
def occStshhKeepSpec (b : Obs) : Bool := occStshhSpec b && b.own .stshhKeepSpec

/-- R395 STSHH_STRM_SPEC (0x00B2): "The counter counts each speculatively executed STSHH STRM instruction counted by STSHH_SPEC." -/
def occStshhStrmSpec (b : Obs) : Bool := occStshhSpec b && b.own .stshhStrmSpec

/-- R558 BASE_LDST_REG_SPEC (0x8088): "The counter counts each speculatively executed operation that reads from or writes to memory
due to a general-purpose register load, store, or prefetch instruction." -/
def occBaseLdstRegSpec (b : Obs) : Bool := b.own .baseLdstRegSpec && b.aarch32In 117 .baseLdstRegSpec

/-- R561 BASE_PRF_SPEC (0x808B): "The counter counts each speculatively executed prefetch operation counted by BASE_LDST_REG_SPEC
due to any of the following A64 instructions:" -/
def occBasePrfSpec (b : Obs) : Bool :=
  occBaseLdstRegSpec b
    && b.own .basePrfSpec
    && (if b.aarch32 then b.inSet 116 .basePrfSpec b.occ.opClass
      else b.oneOf [.scalarPrfm, .scalarPrfum, .scalarRprfm])

/-- R396 PRFM_IR_SPEC (0x00B3): "The counter counts each speculatively executed PRFM IR instruction counted by BASE_PRF_SPEC." -/
def occPrfmIrSpec (b : Obs) : Bool := occBasePrfSpec b && b.own .prfmIrSpec

/-- R397 MEM_ACCESS_WR_STSHH (0x00B4): "The counter counts each access counted by MEM_ACCESS_WR that has an associated store shared
hint." -/
def occMemAccessWrStshh (b : Obs) : Bool := occMemAccessWr b && b.own .memAccessWrStshh

/-- R398 MEM_ACCESS_WR_STSHH_KEEP (0x00B5): "The counter counts each access counted by MEM_ACCESS_WR_STSHH that has an associated
KEEP policy." -/
def occMemAccessWrStshhKeep (b : Obs) : Bool := occMemAccessWrStshh b && b.own .memAccessWrStshhKeep

/-- R399 MEM_ACCESS_WR_STSHH_STRM (0x00B6): "The counter counts each access counted by MEM_ACCESS_WR_STSHH that has an associated
STRM policy." -/
def occMemAccessWrStshhStrm (b : Obs) : Bool := occMemAccessWrStshh b && b.own .memAccessWrStshhStrm

/-- R400 MEM_ACCESS_WR_STSHH_KEEP_NEAR (0x00B7): "The counter counts each access counted by MEM_ACCESS_WR_STSHH_KEEP that does not
initiate a transaction downstream of the local PE caches." -/
def occMemAccessWrStshhKeepNear (b : Obs) : Bool := occMemAccessWrStshhKeep b && b.own .memAccessWrStshhKeepNear

/-- R401 MEM_ACCESS_WR_STSHH_KEEP_FAR (0x00B8): "The counter counts each access counted by MEM_ACCESS_WR_STSHH_KEEP that initiates a
transaction downstream of the local PE caches." -/
def occMemAccessWrStshhKeepFar (b : Obs) : Bool := occMemAccessWrStshhKeep b && b.own .memAccessWrStshhKeepFar

/-- R402 L1D_CACHE_EXT_PROP (0x00B9): "The counter counts each operation that writes into the level 1 data cache that is initiated
by an external propagating transaction." -/
def occL1dCacheExtProp (b : Obs) : Bool := b.own .l1dCacheExtProp && !occL1dCacheRefill b

/-- R403 L1D_CACHE_EXT_PROP_PRFM_IR (0x00BA): "The counter counts each access counted by L1D_CACHE_EXT_PROP that happens after local
PE executes a prefetch with intent to read on the location." -/
def occL1dCacheExtPropPrfmIr (b : Obs) : Bool := occL1dCacheExtProp b && b.own .l1dCacheExtPropPrfmIr

/-- R822 L1D_CACHE_HIT_RW (0x81CC): "The counter counts each demand access counted by L1D_CACHE_RW that hits in the Level 1 data or
unified cache." -/
def occL1dCacheHitRw (b : Obs) : Bool := occL1dCacheRw b && b.own .l1dCacheHitRw

/-- R406 L1D_CACHE_HIT_RW_FEXT_PROP (0x00BD): "The counter counts each demand access first hit counted by L1D_CACHE_HIT_RW where the
cache line was fetched in response to an external propagating transaction." -/
def occL1dCacheHitRwFextProp (b : Obs) : Bool :=
  occL1dCacheHitRw b
    && b.own .l1dCacheHitRwFextProp
    && b.never .laterHit
    && b.never .lineAlreadyReported

/-- R404 L1D_CACHE_HIT_RD_FEXT_PROP (0x00BB): "The counter counts each demand access first hit counted by L1D_CACHE_HIT_RW_FEXT_PROP
due to a demand Memory-read operation." -/
def occL1dCacheHitRdFextProp (b : Obs) : Bool := occL1dCacheHitRwFextProp b && b.own .l1dCacheHitRdFextProp

/-- R405 L1D_CACHE_HIT_WR_FEXT_PROP (0x00BC): "The counter counts each demand access first hit counted by L1D_CACHE_HIT_RW_FEXT_PROP
due to a demand Memory-write operation." -/
def occL1dCacheHitWrFextProp (b : Obs) : Bool := occL1dCacheHitRwFextProp b && b.own .l1dCacheHitWrFextProp

/-- R407 L2D_CACHE_EXT_PROP (0x00BE): "The counter counts each operation that writes into the level 2 data cache that is initiated
by an external propagating transaction." -/
def occL2dCacheExtProp (b : Obs) : Bool := b.own .l2dCacheExtProp && !occL2dCacheRefill b

/-- R408 L2D_CACHE_EXT_PROP_PRFM_IR (0x00BF): "The counter counts each access counted by L2D_CACHE_EXT_PROP that happens after local
PE executes a prefetch with intent to read on the location." -/
def occL2dCacheExtPropPrfmIr (b : Obs) : Bool := occL2dCacheExtProp b && b.own .l2dCacheExtPropPrfmIr

/-- R409 SAMPLE_POP (0x4000): "The counter counts each operation that might be sampled, whether or not the operation was sampled." -/
def occSamplePop (b : Obs) : Bool := b.own .samplePop && b.never .profilingDisabled

/-- R410 SAMPLE_FEED (0x4001): "The counter counts each time the sample interval counter reaches zero and is reloaded, and the
sample does not collide with the previous sample." A reload at zero is an occurrence of exactly one of SAMPLE_FEED and
SAMPLE_COLLISION (10_state.md R47). -/
def occSampleFeed (b : Obs) : Bool := (b.own .sampleFeed || b.own .sampleCollision) && b.never .sampleCollides

/-- R411 SAMPLE_FILTRATE (0x4002): "The counter counts each sample counted by SAMPLE_FEED that is not removed by filtering." -/
def occSampleFiltrate (b : Obs) : Bool := occSampleFeed b && b.own .sampleFiltrate && b.never .sampleRemoved

/-- R412 SAMPLE_COLLISION (0x4003): "The counter counts each time the sample interval counter reaches zero and is reloaded, and the
sample collides with a previous sample." See SAMPLE_FEED. -/
def occSampleCollision (b : Obs) : Bool := (b.own .sampleFeed || b.own .sampleCollision) && b.is .sampleCollides

/-- R413 CNT_CYCLES (0x4004): "The counter increments at a constant frequency equal to the rate of increment of the System Counter,
CNTPCT_EL0." -/
def occCntCycles (b : Obs) : Bool := b.own .cntCycles

/-- R736 STALL_BACKEND_MEMBOUND (0x8164): "The counter counts each cycle counted by STALL_BACKEND when the backend is waiting for a
memory access to complete." U144. -/
def occStallBackendMembound (b : Obs) : Bool := occStallBackend b && b.own .stallBackendMembound

/-- R414 STALL_BACKEND_MEM (0x4005): "The counter counts each cycle counted by STALL_BACKEND_MEMBOUND where there is a demand data
miss in the last level of data or unified cache within the PE clock domain." A cycle with a non-cacheable access in progress and no such
miss is counted with Armv8.7, and otherwise by U80. Log 65. -/
def occStallBackendMem (b : Obs) : Bool :=
  occStallBackendMembound b
    && (b.missLast .stallBackendMem .dataMissLast .nonCacheableInProgress
      || (b.is .nonCacheableInProgress && (b.has .armv8p7 || b.choice 80 .stallBackendMem)))

/-- R702 L1I_CACHE_RD (0x8141): "The counter counts each access counted by L1I_CACHE that is due to a demand Instruction memory
access." -/
def occL1iCacheRd (b : Obs) : Bool := occL1iCache b && b.own .l1iCacheRd

/-- R415 L1I_CACHE_LMISS (0x4006): "If the L1I_CACHE_RD event is implemented, the counter counts each access to the Level 1
instruction or unified cache counted by L1I_CACHE_RD that incurs additional latency because it returns instructions from outside
of the Level 1 instruction or unified cache of this PE." -/
def occL1iCacheLmiss (b : Obs) : Bool :=
  b.own .l1iCacheLmiss
    && (b.is .lmissExtension || (b.never .lowImpact && b.never .previousMiss))
    && (if b.implements .l1iCacheRd then occL1iCacheRd b else occL1iCache b)
    && b.gated .cacheMaintenance (b.choice 60 .l1iCacheLmiss)

/-- R416 L2D_CACHE_LMISS_RD (0x4009): "The counter counts each Memory-read operation to the Level 2 data or unified cache counted by
L2D_CACHE that incurs additional latency because it returns data from outside of the Level 1 and Level 2 data or unified caches
of this PE." -/
def occL2dCacheLmissRd (b : Obs) : Bool :=
  occL2dCache b
    && b.own .l2dCacheLmissRd
    && (b.is .lmissExtension || (b.never .lowImpact && b.never .previousMiss))
    && b.gated .cacheMaintenance (b.choice 60 .l2dCacheLmissRd)

/-- R710 L2I_CACHE_RD (0x8149): "The counter counts each access counted by L2I_CACHE that is due to a demand Instruction memory
access." -/
def occL2iCacheRd (b : Obs) : Bool := occL2iCache b && b.own .l2iCacheRd

/-- R417 L2I_CACHE_LMISS (0x400A): "If the L2I_CACHE_RD event is implemented, the counter counts each access to the Level 2
instruction or unified cache counted by L2I_CACHE_RD that incurs additional latency because it returns instructions from outside
of the Level 1 and Level 2 instruction or unified caches of this PE." -/
def occL2iCacheLmiss (b : Obs) : Bool :=
  b.own .l2iCacheLmiss
    && (b.is .lmissExtension || (b.never .lowImpact && b.never .previousMiss))
    && (if b.implements .l2iCacheRd then occL2iCacheRd b else occL2iCache b)
    && b.gated .cacheMaintenance (b.choice 60 .l2iCacheLmiss)

/-- R418 L3D_CACHE_LMISS_RD (0x400B): "The counter counts each Memory-read operation to the Level 3 data or unified cache counted by
L3D_CACHE that incurs additional latency because it returns data from outside of the Level 1 to Level 3 data or unified caches
of this PE." -/
def occL3dCacheLmissRd (b : Obs) : Bool :=
  occL3dCache b
    && b.own .l3dCacheLmissRd
    && (b.is .lmissExtension || (b.never .lowImpact && b.never .previousMiss))
    && b.gated .cacheMaintenance (b.choice 60 .l3dCacheLmissRd)

/-- R419 TRCEXTOUT0 (0x4010): "The counter counts each event signaled by the trace unit on external event 0." U81 says whether the
event is an input of the ETE, which this machine does not have. -/
def occTrcextout0 (b : Obs) : Bool := b.own .trcextout0

/-- R420 TRCEXTOUT1 (0x4011): "The counter counts each event signaled by the trace unit on external event 1." U81 says whether the
event is an input of the ETE, which this machine does not have. -/
def occTrcextout1 (b : Obs) : Bool := b.own .trcextout1

/-- R421 TRCEXTOUT2 (0x4012): "The counter counts each event signaled by the trace unit on external event 2." U81 says whether the
event is an input of the ETE, which this machine does not have. -/
def occTrcextout2 (b : Obs) : Bool := b.own .trcextout2

/-- R422 TRCEXTOUT3 (0x4013): "The counter counts each event signaled by the trace unit on external event 3." U81 says whether the
event is an input of the ETE, which this machine does not have. -/
def occTrcextout3 (b : Obs) : Bool := b.own .trcextout3

/-- R423 CTI_TRIGOUT4 (0x4018): "The counter counts each event signaled on CTI output trigger 4." -/
def occCtiTrigout4 (b : Obs) : Bool := b.own .ctiTrigout4

/-- R424 CTI_TRIGOUT5 (0x4019): "The counter counts each event signaled on CTI output trigger 5." -/
def occCtiTrigout5 (b : Obs) : Bool := b.own .ctiTrigout5

/-- R425 CTI_TRIGOUT6 (0x401A): "The counter counts each event signaled on CTI output trigger 6." -/
def occCtiTrigout6 (b : Obs) : Bool := b.own .ctiTrigout6

/-- R426 CTI_TRIGOUT7 (0x401B): "The counter counts each event signaled on CTI output trigger 7." -/
def occCtiTrigout7 (b : Obs) : Bool := b.own .ctiTrigout7

/-- R427 LDST_ALIGN_LAT (0x4020): "The counter counts each access counted by MEM_ACCESS that incurred additional latency due to the
alignment of the address and size of data being accessed." -/
def occLdstAlignLat (b : Obs) : Bool := occMemAccess b && b.own .ldstAlignLat

/-- R428 LD_ALIGN_LAT (0x4021): "The counter counts each Memory-read operation counted by LDST_ALIGN_LAT." -/
def occLdAlignLat (b : Obs) : Bool := occLdstAlignLat b && b.own .ldAlignLat

/-- R429 ST_ALIGN_LAT (0x4022): "The counter counts each Memory-write operation counted by LDST_ALIGN_LAT." -/
def occStAlignLat (b : Obs) : Bool := occLdstAlignLat b && b.own .stAlignLat

/-- R430 MEM_ACCESS_CHECKED (0x4024): "The counter counts each memory access counted by MEM_ACCESS that accesses an Allocation Tag
due to a Tag Check operation." -/
def occMemAccessChecked (b : Obs) : Bool :=
  occMemAccess b
    && b.own .memAccessChecked
    && b.gated .tagCheckFaultsIgnored (b.choice 82 .memAccessChecked)

/-- R431 MEM_ACCESS_CHECKED_RD (0x4025): "The counter counts each Memory-read operation counted by MEM_ACCESS_CHECKED." -/
def occMemAccessCheckedRd (b : Obs) : Bool :=
  occMemAccessChecked b
    && b.own .memAccessCheckedRd
    && b.gated .tagCheckFaultsIgnored (b.choice 82 .memAccessCheckedRd)

/-- R432 MEM_ACCESS_CHECKED_WR (0x4026): "The counter counts each Memory-write operation counted by MEM_ACCESS_CHECKED." -/
def occMemAccessCheckedWr (b : Obs) : Bool :=
  occMemAccessChecked b
    && b.own .memAccessCheckedWr
    && b.gated .tagCheckFaultsIgnored (b.choice 82 .memAccessCheckedWr)

/-- R433 SIMD_INST_SPEC (0x8004): "The counter counts each speculatively executed operation due to any of:" -/
def occSimdInstSpec (b : Obs) : Bool :=
  b.own .simdInstSpec
    && b.never .nonSimdDataProcessing
    && b.gated .otherScalarLoadStore (!b.has .armv9p5 && b.choice 23 .simdInstSpec)
    && b.aarch32In 83 .simdInstSpec

/-- R1147 SME_SPEC (0x835C): "The counter counts each operation counted by SE_SPEC that is an SME data-processing operation." -/
def occSmeSpec (b : Obs) : Bool := occSeSpec b && b.classSmeSpec

/-- Classified as an Advanced SIMD operation (ASE_INST_SPEC R434). U84. Log 70. -/
def Obs.classAseInstSpec (b : Obs) : Bool :=
  b.own .aseInstSpec
    && b.gated .aseCryptographic (b.has .crypto)
    && b.never .integerDataProcessing
    && (b.never .scalarFloatingPoint || (b.is .aseScalar))
    && b.gated .aseScalar (b.choice 84 .aseInstSpec)

/-- Classified as an SME operation (SME_INST_SPEC R1149). Log 70. -/
def Obs.classSmeInstSpec (b : Obs) : Bool := b.own .smeInstSpec && b.is .operatesOnZaOrZt && b.never .nonSimdSme

/-- R435 SVE_INST_SPEC (0x8006): "The counter counts each speculatively executed operation that is classified as an SVE operation."
U85. -/
def occSveInstSpec (b : Obs) : Bool :=
  b.own .sveInstSpec
    && !(b.has .sme && occSmeSpec b)
    && b.gated .nonSimdSve (b.choice 85 .sveInstSpec)

/-- R1150 SE_INST_SPEC (0x835F): "The counter counts each speculatively executed operation counted by INST_SPEC that is classified
as an Advanced SIMD, SVE, or SME operation." -/
def occSeInstSpec (b : Obs) : Bool := occInstSpec b && (b.classAseInstSpec || occSveInstSpec b || b.classSmeInstSpec)

/-- R436 ASE_SVE_INST_SPEC (0x8007): "The counter counts each speculatively executed operation counted by SE_INST_SPEC that is
classified as an Advanced SIMD operation or an SVE operation." -/
def occAseSveInstSpec (b : Obs) : Bool := occSeInstSpec b && (b.classAseInstSpec || occSveInstSpec b)

/-- R434 ASE_INST_SPEC (0x8005): "The counter counts each speculatively executed operation counted by ASE_SVE_INST_SPEC that is
classified as an Advanced SIMD operation." -/
def occAseInstSpec (b : Obs) : Bool := occAseSveInstSpec b && b.classAseInstSpec

/-- R437 UOP_SPEC (0x8008): "The counter counts each speculatively executed microarchitectural operation." -/
def occUopSpec (b : Obs) : Bool := b.own .uopSpec

/-- R440 ASE_SVE_UOP_SPEC (0x800B): "The counter counts each speculatively executed microarchitectural operation counted by UOP_SPEC
due to an A64 Advanced SIMD or SVE instruction." -/
def occAseSveUopSpec (b : Obs) : Bool :=
  occUopSpec b
    && b.own .aseSveUopSpec
    && b.gated .aseScalar (b.choice 89 .aseSveUopSpec)
    && b.gated .nonSimdSve (b.choice 89 .aseSveUopSpec)
    && b.aarch32In 87 .aseSveUopSpec

/-- R438 ASE_UOP_SPEC (0x8009): "The counter counts each speculatively executed microarchitectural operation counted by
ASE_SVE_UOP_SPEC due to an A64 Advanced SIMD instruction." -/
def occAseUopSpec (b : Obs) : Bool :=
  occAseSveUopSpec b
    && b.own .aseUopSpec
    && b.gated .aseScalar (b.choice 86 .aseUopSpec)
    && b.aarch32In 87 .aseUopSpec

/-- R439 SVE_UOP_SPEC (0x800A): "The counter counts each speculatively executed microarchitectural operation counted by
ASE_SVE_UOP_SPEC due to an SVE instruction." -/
def occSveUopSpec (b : Obs) : Bool :=
  occAseSveUopSpec b
    && b.own .sveUopSpec
    && b.gated .nonSimdSve (b.choice 88 .sveUopSpec)

/-- R441 SIMD_UOP_SPEC (0x800C): "The counter counts each speculatively executed microarchitectural operation counted by UOP_SPEC
due to any of:" -/
def occSimdUopSpec (b : Obs) : Bool :=
  occUopSpec b
    && b.own .simdUopSpec
    && b.never .nonSimdSve
    && b.never .aseScalar
    && b.aarch32In 87 .simdUopSpec

/-- R442 SVE_MATH_SPEC (0x800E): "The counter counts each speculatively executed math function operation due to any of the following
instructions:" -/
def occSveMathSpec (b : Obs) : Bool := b.own .sveMathSpec && (b.oneOf [.sveFexpa, .sveFtmad, .sveFtsmul, .sveFtssel])

/-- R443 FP_SPEC (0x8010): "The counter counts each speculatively executed floating-point data-processing operation due to any of:"
"Any operation counted by INT_SPEC is not counted": INT_SPEC excludes the operations of this event. U90; U91, one
Boolean for data movement, conditional select and conversion alike; U92. -/
def occFpSpec (b : Obs) : Bool :=
  b.own .fpSpec
    && (!b.oneOf [.scalarFabsScalar, .scalarFnegScalar, .aseFabsVector, .aseFnegVector, .aseFrecpe, .aseFrsqrte, .sveFabs, .sveFexpa, .sveFneg, .sveFrecpe, .sveFrsqrte, .sveFtssel] || (b.has .armv9p5 && b.has .afp) || b.choice 90 .fpSpec)
    && b.gated .dataMovement (b.choice 91 .fpSpec)
    && b.gated .conditionalSelect (b.choice 91 .fpSpec)
    && b.gated .fpConversion (b.choice 91 .fpSpec)
    && b.aarch32In 92 .fpSpec

/-- What ASE_SVE_FP_SPEC (0x8013, R446) says of an operation before "That is, each operation counted by": its children ASE, SVE and SME are cut to it, and it is their union (40_common_event_rules.md R122). -/
def baseAseSveFp (b : Obs) : Bool := occFpSpec b && b.own .aseSveFpSpec && b.aarch32In 93 .aseSveFpSpec

/-- R444 ASE_FP_SPEC (0x8011): "The counter counts each speculatively executed floating-point operation counted by ASE_SVE_FP_SPEC
due to an A64 Advanced SIMD instruction." -/
def occAseFpSpec (b : Obs) : Bool :=
  occFpSpec b
    && b.own .aseFpSpec
    && baseAseSveFp b
    && b.aarch32In 93 .aseFpSpec
    && b.aarch32In 92 .seFpSpec

/-- R445 SVE_FP_SPEC (0x8012): "The counter counts each speculatively executed floating-point operation counted by ASE_SVE_FP_SPEC
due to an SVE instruction." -/
def occSveFpSpec (b : Obs) : Bool := occFpSpec b && b.own .sveFpSpec && baseAseSveFp b && b.aarch32In 92 .seFpSpec

/-- R1142 SME_FP_SPEC (0x8352): "The counter counts each speculatively executed floating-point data-processing operation counted by
SE_FP_SPEC due to an instruction which reads from or writes to any part of the ZA array." -/
def occSmeFpSpec (b : Obs) : Bool := occFpSpec b && b.own .smeFpSpec && b.aarch32In 92 .seFpSpec

/-- R446 ASE_SVE_FP_SPEC (0x8013): "The counter counts each speculatively executed floating-point operation counted by SE_FP_SPEC
due to an A64 Advanced SIMD or SVE instruction." -/
def occAseSveFpSpec (b : Obs) : Bool := baseAseSveFp b && (occAseFpSpec b || occSveFpSpec b || occSmeFpSpec b)

/-- R447 FP_HP_SPEC (0x8014): "The counter counts each speculatively executed floating-point operation counted by FP_SPEC where the
largest type is half-precision." -/
def occFpHpSpec (b : Obs) : Bool := occFpSpec b && b.own .fpHpSpec

/-- R450 ASE_SVE_FP_HP_SPEC (0x8017): "The counter counts each speculatively executed half-precision floating-point operation
counted by FP_HP_SPEC due to an Advanced SIMD or SVE instruction." -/
def occAseSveFpHpSpec (b : Obs) : Bool := occFpHpSpec b && b.own .aseSveFpHpSpec

/-- R1143 SE_FP_SPEC (0x8353): "The counter counts each speculatively executed floating-point data-processing operation counted by
FP_SPEC due to an A64 Advanced SIMD, SVE, or SME operation." -/
def occSeFpSpec (b : Obs) : Bool := (occAseFpSpec b || occSveFpSpec b || occSmeFpSpec b)

/-- R448 ASE_FP_HP_SPEC (0x8015): "The counter counts each speculatively executed half-precision floating-point data-processing
operation counted by ASE_SVE_FP_HP_SPEC due to an Advanced SIMD instruction." -/
def occAseFpHpSpec (b : Obs) : Bool :=
  occAseSveFpHpSpec b
    && occSeFpSpec b
    && b.own .aseFpHpSpec
    && b.aarch32In 158 .seFpHpSpec

/-- R449 SVE_FP_HP_SPEC (0x8016): "The counter counts each speculatively executed half-precision floating-point data-processing
operation counted by ASE_SVE_FP_HP_SPEC due to an SVE instruction." -/
def occSveFpHpSpec (b : Obs) : Bool :=
  occAseSveFpHpSpec b
    && occSeFpSpec b
    && b.own .sveFpHpSpec
    && b.aarch32In 158 .seFpHpSpec

/-- R451 FP_SP_SPEC (0x8018): "The counter counts each speculatively executed floating-point operation counted by FP_SPEC where the
largest type is single-precision." -/
def occFpSpSpec (b : Obs) : Bool := occFpSpec b && b.own .fpSpSpec

/-- R454 ASE_SVE_FP_SP_SPEC (0x801B): "The counter counts each speculatively executed single-precision floating-point
data-processing operation counted by FP_SP_SPEC due to an Advanced SIMD or SVE instruction." -/
def occAseSveFpSpSpec (b : Obs) : Bool := occFpSpSpec b && b.own .aseSveFpSpSpec

/-- R452 ASE_FP_SP_SPEC (0x8019): "The counter counts each speculatively executed single-precision floating-point data-processing
operation counted by ASE_SVE_FP_SP_SPEC due to an Advanced SIMD instruction." -/
def occAseFpSpSpec (b : Obs) : Bool :=
  occAseSveFpSpSpec b
    && occSeFpSpec b
    && b.own .aseFpSpSpec
    && b.aarch32In 160 .seFpSpSpec

/-- R453 SVE_FP_SP_SPEC (0x801A): "The counter counts each speculatively executed single-precision floating-point data-processing
operation counted by ASE_SVE_FP_SP_SPEC due to an SVE instruction." -/
def occSveFpSpSpec (b : Obs) : Bool :=
  occAseSveFpSpSpec b
    && occSeFpSpec b
    && b.own .sveFpSpSpec
    && b.aarch32In 160 .seFpSpSpec

/-- R455 FP_DP_SPEC (0x801C): "The counter counts each speculatively executed floating-point data-processing operation counted by
FP_SPEC where the largest type is double-precision." -/
def occFpDpSpec (b : Obs) : Bool := occFpSpec b && b.own .fpDpSpec

/-- R458 ASE_SVE_FP_DP_SPEC (0x801F): "The counter counts each speculatively executed double-precision floating-point
data-processing operation due to an Advanced SIMD or SVE instruction." -/
def occAseSveFpDpSpec (b : Obs) : Bool := b.own .aseSveFpDpSpec

/-- R456 ASE_FP_DP_SPEC (0x801D): "The counter counts each speculatively executed double-precision floating-point data-processing
operation counted by ASE_SVE_FP_DP_SPEC due to an Advanced SIMD instruction." -/
def occAseFpDpSpec (b : Obs) : Bool :=
  occAseSveFpDpSpec b
    && occSeFpSpec b
    && b.own .aseFpDpSpec
    && b.aarch32In 162 .seFpDpSpec

/-- R457 SVE_FP_DP_SPEC (0x801E): "The counter counts each speculatively executed double-precision floating-point data-processing
operation counted by ASE_SVE_FP_DP_SPEC due to an SVE instruction." -/
def occSveFpDpSpec (b : Obs) : Bool :=
  occAseSveFpDpSpec b
    && occSeFpSpec b
    && b.own .sveFpDpSpec
    && b.aarch32In 162 .seFpDpSpec

/-- R459 FP_DIV_SPEC (0x8020): "The counter counts each speculatively executed floating-point divide operation counted by FP_SPEC
due to any of the following A64 instructions:" -/
def occFpDivSpec (b : Obs) : Bool :=
  occFpSpec b
    && b.own .fpDivSpec
    && (if b.aarch32 then b.inSet 94 .fpDivSpec b.occ.opClass
      else b.oneOf [.scalarFdiv, .aseFdiv, .sveFdiv, .sveFdivr])

/-- R462 ASE_SVE_FP_DIV_SPEC (0x8023): "The counter counts each speculatively executed floating-point divide operation counted by
FP_DIV_SPEC due to any of the following A64 instructions:" -/
def occAseSveFpDivSpec (b : Obs) : Bool :=
  occFpDivSpec b
    && b.own .aseSveFpDivSpec
    && (if b.aarch32 then b.inSet 94 .aseSveFpDivSpec b.occ.opClass
      else b.oneOf [.aseFdiv, .sveFdiv, .sveFdivr])

/-- R460 ASE_FP_DIV_SPEC (0x8021): "The counter counts each speculatively executed floating-point divide operation counted by
ASE_SVE_FP_DIV_SPEC due to any of the following A64 instructions:" -/
def occAseFpDivSpec (b : Obs) : Bool :=
  occAseSveFpDivSpec b
    && b.own .aseFpDivSpec
    && (if b.aarch32 then b.inSet 94 .aseFpDivSpec b.occ.opClass
      else b.oneOf [.aseFdiv])

/-- R461 SVE_FP_DIV_SPEC (0x8022): "The counter counts each speculatively executed floating-point divide operation counted by
ASE_SVE_FP_DIV_SPEC due to any of the following instructions:" -/
def occSveFpDivSpec (b : Obs) : Bool := occAseSveFpDivSpec b && b.own .sveFpDivSpec && (b.oneOf [.sveFdiv, .sveFdivr])

/-- R463 FP_SQRT_SPEC (0x8024): "The counter counts each speculatively executed floating-point square-root operation counted by
FP_SPEC due to any of the following A64 instructions:" -/
def occFpSqrtSpec (b : Obs) : Bool :=
  occFpSpec b
    && b.own .fpSqrtSpec
    && (if b.aarch32 then b.inSet 95 .fpSqrtSpec b.occ.opClass
      else b.oneOf [.scalarFsqrt, .aseFsqrt, .sveFsqrt])

/-- R466 ASE_SVE_FP_SQRT_SPEC (0x8027): "The counter counts each speculatively executed floating-point square-root operation counted
by FP_SQRT_SPEC due to any of the following A64 instructions:" -/
def occAseSveFpSqrtSpec (b : Obs) : Bool :=
  occFpSqrtSpec b
    && b.own .aseSveFpSqrtSpec
    && (if b.aarch32 then b.inSet 95 .aseSveFpSqrtSpec b.occ.opClass
      else b.oneOf [.aseFsqrt, .sveFsqrt])

/-- R464 ASE_FP_SQRT_SPEC (0x8025): "The counter counts each speculatively executed floating-point square-root operation counted by
ASE_SVE_FP_SQRT_SPEC due to any of the following A64 instructions:" -/
def occAseFpSqrtSpec (b : Obs) : Bool :=
  occAseSveFpSqrtSpec b
    && b.own .aseFpSqrtSpec
    && (if b.aarch32 then b.inSet 95 .aseFpSqrtSpec b.occ.opClass
      else b.oneOf [.aseFsqrt])

/-- R465 SVE_FP_SQRT_SPEC (0x8026): "The counter counts each speculatively executed floating-point square-root operation counted by
ASE_SVE_FP_SQRT_SPEC due to any of the following instructions:" -/
def occSveFpSqrtSpec (b : Obs) : Bool := occAseSveFpSqrtSpec b && b.own .sveFpSqrtSpec && (b.oneOf [.sveFsqrt])

/-- R467 FP_FMA_SPEC (0x8028): "The counter counts each speculatively executed floating-point fused multiply-add or
multiply-subtract operation counted by FP_SPEC due to any of the following A64 instructions:" -/
def occFpFmaSpec (b : Obs) : Bool :=
  occFpSpec b
    && b.own .fpFmaSpec
    && (if b.aarch32 then b.inSet 96 .fpFmaSpec b.occ.opClass
      else b.oneOf [.scalarFmadd, .scalarFmsub, .scalarFnmadd, .scalarFnmsub, .aseFmla, .aseFmls, .sveBfmlalb, .sveBfmlalt, .sveFcmla, .sveFmad, .sveFmla, .sveFmls, .sveFmsb, .sveFnmad, .sveFnmla, .sveFnmls, .sveFnmsb, .sveFtmad, .sve2Bfmla, .sve2Bfmls, .sve2Bfmlslb, .sve2Bfmlslt, .sve2Fmlalb, .sve2Fmlallbb, .sve2Fmlallbt, .sve2Fmlalltb, .sve2Fmlalltt, .sve2Fmlalt, .sve2Fmlslb, .sve2Fmlslt, .sme2Bfmla, .sme2Bfmlal, .sme2Bfmls, .sme2Bfmlsl, .sme2Fmla, .sme2Fmlal, .sme2Fmlall, .sme2Fmls, .sme2Fmlsl]
        || (b.has .bf16 && b.oneOf [.aseBfmlalb, .aseBfmlalt])
        || (b.has .fcma && b.oneOf [.aseFcmla])
        || (b.has .fp8fma && b.oneOf [.aseFmlalb, .aseFmlallbb, .aseFmlallbt, .aseFmlalltb, .aseFmlalltt, .aseFmlalt])
        || (b.has .fhm && b.oneOf [.aseFmlal, .aseFmlal2, .aseFmlsl, .aseFmlsl2]))

/-- R470 ASE_SVE_FP_FMA_SPEC (0x802B): "The counter counts each speculatively executed floating-point fused multiply-add or
multiply-subtract operation counted by FP_FMA_SPEC due to any of the following A64 instructions:" -/
def occAseSveFpFmaSpec (b : Obs) : Bool :=
  occFpFmaSpec b
    && b.own .aseSveFpFmaSpec
    && (if b.aarch32 then b.inSet 96 .aseSveFpFmaSpec b.occ.opClass
      else b.oneOf [.aseFmla, .aseFmls, .sveBfmlalb, .sveBfmlalt, .sveFcmla, .sveFmad, .sveFmla, .sveFmls, .sveFmsb, .sveFnmad, .sveFnmla, .sveFnmls, .sveFnmsb, .sveFtmad, .sve2Bfmla, .sve2Bfmls, .sve2Bfmlslb, .sve2Bfmlslt, .sve2Fmlalb, .sve2Fmlallbb, .sve2Fmlallbt, .sve2Fmlalltb, .sve2Fmlalltt, .sve2Fmlalt, .sve2Fmlslb, .sve2Fmlslt]
        || (b.has .bf16 && b.oneOf [.aseBfmlalb, .aseBfmlalt])
        || (b.has .fcma && b.oneOf [.aseFcmla])
        || (b.has .fp8fma && b.oneOf [.aseFmlalb, .aseFmlallbb, .aseFmlallbt, .aseFmlalltb, .aseFmlalltt, .aseFmlalt])
        || (b.has .fhm && b.oneOf [.aseFmlal, .aseFmlal2, .aseFmlsl, .aseFmlsl2]))

/-- R468 ASE_FP_FMA_SPEC (0x8029): "The counter counts each speculatively executed floating-point fused multiply-add or
multiply-subtract operation counted by ASE_SVE_FP_FMA_SPEC due to any of the following A64 instructions:" -/
def occAseFpFmaSpec (b : Obs) : Bool :=
  occAseSveFpFmaSpec b
    && occSeFpSpec b
    && b.own .aseFpFmaSpec
    && (if b.aarch32 then b.inSet 96 .aseFpFmaSpec b.occ.opClass
      else b.oneOf [.aseFmla, .aseFmls]
        || (b.has .bf16 && b.oneOf [.aseBfmlalb, .aseBfmlalt])
        || (b.has .fcma && b.oneOf [.aseFcmla])
        || (b.has .fp8fma && b.oneOf [.aseFmlalb, .aseFmlallbb, .aseFmlallbt, .aseFmlalltb, .aseFmlalltt, .aseFmlalt])
        || (b.has .fhm && b.oneOf [.aseFmlal, .aseFmlal2, .aseFmlsl, .aseFmlsl2]))

/-- R469 SVE_FP_FMA_SPEC (0x802A): "The counter counts each speculatively executed floating-point fused multiply-add or
multiply-subtract operation counted by ASE_SVE_FP_FMA_SPEC due to any of the following instructions:" -/
def occSveFpFmaSpec (b : Obs) : Bool :=
  occAseSveFpFmaSpec b
    && occSeFpSpec b
    && b.own .sveFpFmaSpec
    && (b.oneOf [.sveBfmlalb, .sveBfmlalt, .sveFcmla, .sveFmad, .sveFmla, .sveFmls, .sveFmsb, .sveFnmad, .sveFnmla, .sveFnmls, .sveFnmsb, .sveFtmad, .sve2Bfmla, .sve2Bfmls, .sve2Bfmlslb, .sve2Bfmlslt, .sve2Fmlalb, .sve2Fmlallbb, .sve2Fmlallbt, .sve2Fmlalltb, .sve2Fmlalltt, .sve2Fmlalt, .sve2Fmlslb, .sve2Fmlslt])

/-- R471 FP_MUL_SPEC (0x802C): "The counter counts each speculatively executed floating-point multiply operation counted by FP_SPEC
due to any of the following A64 instructions:" -/
def occFpMulSpec (b : Obs) : Bool :=
  occFpSpec b
    && b.own .fpMulSpec
    && (if b.aarch32 then b.inSet 97 .fpMulSpec b.occ.opClass
      else b.oneOf [.scalarFmul, .scalarFmulx, .aseFmul, .aseFmulx, .sveFmul, .sveFmulx, .sveFtsmul, .sve2Bfmul])

/-- R474 ASE_SVE_FP_MUL_SPEC (0x802F): "The counter counts each speculatively executed floating-point fused multiply-add or
multiply-subtract operation counted by FP_MUL_SPEC due to any of the following A64 instructions:" -/
def occAseSveFpMulSpec (b : Obs) : Bool :=
  occFpMulSpec b
    && b.own .aseSveFpMulSpec
    && (if b.aarch32 then b.inSet 96 .aseSveFpMulSpec b.occ.opClass
      else b.oneOf [.aseFmul, .aseFmulx, .sveFmul, .sveFmulx, .sveFtsmul, .sve2Bfmul])

/-- R472 ASE_FP_MUL_SPEC (0x802D): "The counter counts each speculatively executed floating-point multiply operation counted by
ASE_SVE_FP_MUL_SPEC due to any of the following A64 instructions:" -/
def occAseFpMulSpec (b : Obs) : Bool :=
  occAseSveFpMulSpec b
    && b.own .aseFpMulSpec
    && (if b.aarch32 then b.inSet 97 .aseFpMulSpec b.occ.opClass
      else b.oneOf [.aseFmul, .aseFmulx])

/-- R473 SVE_FP_MUL_SPEC (0x802E): "The counter counts each speculatively executed floating-point multiply operation counted by
ASE_SVE_FP_MUL_SPEC due to any of the following instructions:" -/
def occSveFpMulSpec (b : Obs) : Bool :=
  occAseSveFpMulSpec b
    && b.own .sveFpMulSpec
    && (b.oneOf [.sveFmul, .sveFmulx, .sveFtsmul, .sve2Bfmul])

/-- R475 FP_ADDSUB_SPEC (0x8030): "The counter counts each speculatively executed floating-point add or subtract operation counted
by FP_SPEC due to any of the following A64 instructions:" -/
def occFpAddsubSpec (b : Obs) : Bool :=
  occFpSpec b
    && b.own .fpAddsubSpec
    && (if b.aarch32 then b.inSet 98 .fpAddsubSpec b.occ.opClass
      else b.oneOf [.scalarFadd, .scalarFsub, .aseFabd, .aseFadd, .aseFsub, .sveFabd, .sveFadd, .sveFsub, .sveFsubr, .sve2Bfadd, .sve2Bfsub, .sme2Bfadd, .sme2Bfsub, .sme2Fadd, .sme2Fsub])

/-- R478 ASE_SVE_FP_ADDSUB_SPEC (0x8033): "The counter counts each speculatively executed floating-point add or subtract operation
counted by FP_ADDSUB_SPEC due to any of the following A64 instructions:" -/
def occAseSveFpAddsubSpec (b : Obs) : Bool :=
  occFpAddsubSpec b
    && b.own .aseSveFpAddsubSpec
    && (if b.aarch32 then b.inSet 98 .aseSveFpAddsubSpec b.occ.opClass
      else b.oneOf [.aseFabd, .aseFadd, .aseFsub, .sveFabd, .sveFadd, .sveFsub, .sveFsubr, .sve2Bfadd, .sve2Bfsub])

/-- R476 ASE_FP_ADDSUB_SPEC (0x8031): "The counter counts each speculatively executed floating-point add or subtract operation
counted by ASE_SVE_FP_ADDSUB_SPEC due to any of the following A64 instructions:" -/
def occAseFpAddsubSpec (b : Obs) : Bool :=
  occAseSveFpAddsubSpec b
    && occSeFpSpec b
    && b.own .aseFpAddsubSpec
    && (if b.aarch32 then b.inSet 98 .aseFpAddsubSpec b.occ.opClass
      else b.oneOf [.aseFabd, .aseFadd, .aseFsub])

end Sys2Proof.Machine
end

