-- ==== Sys2Proof/Machine/Occ3.lean ====
section
/-!
DEFINITION. `Occ(E)` (40_common_event_rules.md R120, R122) of the events, part 3 of 8: which occurrences a counter sees as
occurrences of E. Each definition conjoins the clauses of the event's own rule; a parent ("counted by X") stands before its
children, so the parts follow that order and not the order of the numbers.
-/

namespace Sys2Proof.Machine

/-- R477 SVE_FP_ADDSUB_SPEC (0x8032): "The counter counts each speculatively executed floating-point add or subtract operation
counted by ASE_SVE_FP_ADDSUB_SPEC due to any of the following instructions:" -/
def occSveFpAddsubSpec (b : Obs) : Bool :=
  occAseSveFpAddsubSpec b
    && occSeFpSpec b
    && b.own .sveFpAddsubSpec
    && (b.oneOf [.sveFabd, .sveFadd, .sveFsub, .sveFsubr, .sve2Bfadd, .sve2Bfsub])

/-- R479 FP_RECPE_SPEC (0x8034): "The counter counts each speculatively executed floating-point reciprocal estimate operation
counted by FP_SPEC due to any of the following A64 instructions:" -/
def occFpRecpeSpec (b : Obs) : Bool :=
  occFpSpec b
    && b.own .fpRecpeSpec
    && (if b.aarch32 then b.inSet 99 .fpRecpeSpec b.occ.opClass
      else b.oneOf [.aseFrecpe, .aseFrsqrte, .sveFrecpe, .sveFrsqrte])

/-- R482 ASE_SVE_FP_RECPE_SPEC (0x8037): "The counter counts each speculatively executed floating-point reciprocal estimate
operation counted by FP_RECPE_SPEC due to any of the following A64 instructions:" -/
def occAseSveFpRecpeSpec (b : Obs) : Bool :=
  occFpRecpeSpec b
    && b.own .aseSveFpRecpeSpec
    && (if b.aarch32 then b.inSet 99 .aseSveFpRecpeSpec b.occ.opClass
      else b.oneOf [.aseFrecpe, .aseFrsqrte, .sveFrecpe, .sveFrsqrte])

/-- R480 ASE_FP_RECPE_SPEC (0x8035): "The counter counts each speculatively executed floating-point reciprocal estimate operation
counted by ASE_SVE_FP_RECPE_SPEC due to any of the following A64 instructions:" -/
def occAseFpRecpeSpec (b : Obs) : Bool :=
  occAseSveFpRecpeSpec b
    && b.own .aseFpRecpeSpec
    && (if b.aarch32 then b.inSet 99 .aseFpRecpeSpec b.occ.opClass
      else b.oneOf [.aseFrecpe, .aseFrsqrte])

/-- R481 SVE_FP_RECPE_SPEC (0x8036): "The counter counts each speculatively executed floating-point reciprocal estimate operation
counted by ASE_SVE_FP_RECPE_SPEC due to any of the following instructions:" -/
def occSveFpRecpeSpec (b : Obs) : Bool :=
  occAseSveFpRecpeSpec b
    && b.own .sveFpRecpeSpec
    && (b.oneOf [.sveFrecpe, .sveFrsqrte])

/-- R483 FP_CVT_SPEC (0x8038): "The counter counts each speculatively executed floating-point convert operation due to any of:" -/
def occFpCvtSpec (b : Obs) : Bool := b.own .fpCvtSpec && b.aarch32In 100 .fpCvtSpec

/-- R486 ASE_SVE_FP_CVT_SPEC (0x803B): "The counter counts each speculatively executed floating-point convert operation counted by
FP_CVT_SPEC due to an A64 Advanced SIMD instruction." -/
def occAseSveFpCvtSpec (b : Obs) : Bool := occFpCvtSpec b && b.own .aseSveFpCvtSpec && b.aarch32In 101 .aseSveFpCvtSpec

/-- R484 ASE_FP_CVT_SPEC (0x8039): "The counter counts each speculatively executed floating-point convert operation counted by
ASE_SVE_FP_CVT_SPEC due to an A64 Advanced SIMD instruction." -/
def occAseFpCvtSpec (b : Obs) : Bool := occAseSveFpCvtSpec b && b.own .aseFpCvtSpec && b.aarch32In 101 .aseFpCvtSpec

/-- R485 SVE_FP_CVT_SPEC (0x803A): "The counter counts each speculatively executed floating-point convert operation counted by
ASE_SVE_FP_CVT_SPEC due to an SVE instruction." -/
def occSveFpCvtSpec (b : Obs) : Bool := occAseSveFpCvtSpec b && b.own .sveFpCvtSpec

/-- R487 SVE_FP_AREDUCE_SPEC (0x803C): "The counter counts each speculatively executed floating-point accumulating reduction
operation counted by SVE_FP_SPEC due to any of the following instructions:" -/
def occSveFpAreduceSpec (b : Obs) : Bool := occSveFpSpec b && b.own .sveFpAreduceSpec && (b.oneOf [.sveFadda])

/-- R490 ASE_SVE_FP_VREDUCE_SPEC (0x803F): "The counter counts each speculatively executed floating-point reduction operation
counted by ASE_SVE_FP_SPEC due to any of the following A64 instructions:" -/
def occAseSveFpVreduceSpec (b : Obs) : Bool :=
  occAseSveFpSpec b
    && b.own .aseSveFpVreduceSpec
    && (if b.aarch32 then b.inSet 103 .aseSveFpVreduceSpec b.occ.opClass
      else b.oneOf [.aseFaddp, .aseFmaxnmp, .aseFmaxnmv, .aseFmaxp, .aseFmaxv, .aseFminnmp, .aseFminnmv, .aseFminp, .aseFminv, .sveFaddv, .sveFmaxnmv, .sveFmaxv, .sveFminnmv, .sveFminv, .sve2Faddp, .sve2Faddqv, .sve2Fmaxnmp, .sve2Fmaxnmqv, .sve2Fmaxp, .sve2Fmaxqv, .sve2Fminnmp, .sve2Fminnmqv, .sve2Fminp, .sve2Fminqv])

/-- R1347 ASE_FP_VREDUCE_SPEC (0x8431): "The counter counts each speculatively executed floating-point treewise reduction or
pairwise operation counted by ASE_SVE_FP_VREDUCE_SPEC due to any of the following A64 instructions:" -/
def occAseFpVreduceSpec (b : Obs) : Bool :=
  occAseSveFpVreduceSpec b
    && b.own .aseFpVreduceSpec
    && (b.oneOf [.aseFaddp, .aseFmaxnmp, .aseFmaxnmv, .aseFmaxp, .aseFmaxv, .aseFminnmp, .aseFminnmv, .aseFminp, .aseFminv])

/-- R488 ASE_FP_PREDUCE_SPEC (0x803D): "The counter counts each speculatively executed floating-point pairwise add step or pairwise
reduce step operation counted by ASE_FP_VREDUCE_SPEC due to any of the following A64 instructions:" U102 decides in AArch32
state among what the parent counts. Log 58. -/
def occAseFpPreduceSpec (b : Obs) : Bool :=
  occAseFpVreduceSpec b
    && b.own .aseFpPreduceSpec
    && (if b.aarch32 then b.inSet 102 .aseFpPreduceSpec b.occ.opClass
      else b.oneOf [.aseFaddp, .aseFmaxnmp, .aseFmaxp, .aseFminnmp, .aseFminp])

/-- R489 SVE_FP_VREDUCE_SPEC (0x803E): "The counter counts each speculatively executed floating-point treewise reduction or pairwise
operations counted by ASE_SVE_FP_VREDUCE_SPEC due to any of the following instructions:" -/
def occSveFpVreduceSpec (b : Obs) : Bool :=
  occAseSveFpVreduceSpec b
    && b.own .sveFpVreduceSpec
    && (b.oneOf [.sveFaddv, .sveFmaxnmv, .sveFmaxv, .sveFminnmv, .sveFminv, .sve2Faddp, .sve2Faddqv, .sve2Fmaxnmp, .sve2Fmaxnmqv, .sve2Fmaxp, .sve2Fmaxqv, .sve2Fminnmp, .sve2Fminnmqv, .sve2Fminp, .sve2Fminqv])

/-- R491 INT_SPEC (0x8040): "The counter counts each speculatively executed integer arithmetic operation due to any of:" -/
def occIntSpec (b : Obs) : Bool :=
  b.own .intSpec
    && (!b.oneOf [.scalarFabsScalar, .scalarFnegScalar, .aseFabsVector, .aseFnegVector, .aseFrecpe, .aseFrsqrte, .sveFabs, .sveFexpa, .sveFneg, .sveFrecpe, .sveFrsqrte, .sveFtssel] || b.choice 104 .intSpec)
    && b.gated .dataMovement (b.choice 104 .intSpec)
    && b.gated .conditionalSelect (b.choice 104 .intSpec)
    && b.gated .fpConversion (b.choice 104 .intSpec)
    && !occFpSpec b
    && b.aarch32In 105 .intSpec

/-- What ASE_SVE_INT_SPEC (0x8043, R494) says of an operation before "That is, each operation counted by": its children ASE, SVE and SME are cut to it, and it is their union (40_common_event_rules.md R122). -/
def baseAseSveInt (b : Obs) : Bool := occIntSpec b && b.own .aseSveIntSpec && b.aarch32In 106 .aseSveIntSpec

/-- R492 ASE_INT_SPEC (0x8041): "The counter counts each speculatively executed integer operation counted by ASE_SVE_INT_SPEC due to
an A64 Advanced SIMD instruction." -/
def occAseIntSpec (b : Obs) : Bool :=
  occIntSpec b
    && b.own .aseIntSpec
    && baseAseSveInt b
    && b.aarch32In 106 .aseIntSpec
    && b.aarch32In 163 .seIntSpec

/-- R493 SVE_INT_SPEC (0x8042): "The counter counts each speculatively executed integer operation counted by ASE_SVE_INT_SPEC due to
an SVE instruction." -/
def occSveIntSpec (b : Obs) : Bool := occIntSpec b && b.own .sveIntSpec && baseAseSveInt b && b.aarch32In 163 .seIntSpec

/-- R1174 SME_INT_SPEC (0x8378): "The counter counts each speculatively executed integer data-processing operation counted by
SE_INT_SPEC due to an instruction which reads from or writes to any part of the ZA array." -/
def occSmeIntSpec (b : Obs) : Bool := occIntSpec b && b.own .smeIntSpec && b.aarch32In 163 .seIntSpec

/-- R494 ASE_SVE_INT_SPEC (0x8043): "The counter counts each speculatively executed integer arithmetic operation counted by
SE_INT_SPEC due to an A64 Advanced SIMD or SVE instruction." -/
def occAseSveIntSpec (b : Obs) : Bool := baseAseSveInt b && (occAseIntSpec b || occSveIntSpec b || occSmeIntSpec b)

/-- R495 INT_DIV_SPEC (0x8044): "The counter counts each speculatively executed integer divide operation counted by INT_SPEC due to
any of the following A64 instructions:" -/
def occIntDivSpec (b : Obs) : Bool :=
  occIntSpec b
    && b.own .intDivSpec
    && (if b.aarch32 then b.inSet 107 .intDivSpec b.occ.opClass
      else b.oneOf [.scalarSdiv, .scalarUdiv, .sveSdiv, .sveSdivr, .sveUdiv, .sveUdivr])

/-- R496 INT_DIV64_SPEC (0x8045): "The counter counts each speculatively executed integer divide operation counted by INT_SPEC due
to any of the following A64 instructions:" -/
def occIntDiv64Spec (b : Obs) : Bool :=
  occIntSpec b
    && b.own .intDiv64Spec
    && (b.oneOf [.scalarSdiv, .scalarUdiv, .sveSdiv, .sveSdivr, .sveUdiv, .sveUdivr])

/-- R497 SVE_INT_DIV_SPEC (0x8046): "The counter counts each speculatively executed integer divide operation counted by INT_DIV_SPEC
due to any of the following instructions:" -/
def occSveIntDivSpec (b : Obs) : Bool :=
  occIntDivSpec b
    && b.own .sveIntDivSpec
    && (b.oneOf [.sveSdiv, .sveSdivr, .sveUdiv, .sveUdivr])

/-- R498 SVE_INT_DIV64_SPEC (0x8047): "The counter counts each speculatively executed integer 64-bit divide operation counted by
INT_DIV64_SPEC due to any of the following instructions:" -/
def occSveIntDiv64Spec (b : Obs) : Bool :=
  occIntDiv64Spec b
    && b.own .sveIntDiv64Spec
    && (b.oneOf [.sveSdiv, .sveSdivr, .sveUdiv, .sveUdivr])

/-- R499 INT_MUL_SPEC (0x8048): "The counter counts each speculatively executed integer multiply or multiply-accumulate operation
counted by INT_SPEC due to any of the following A64 instructions:" -/
def occIntMulSpec (b : Obs) : Bool :=
  occIntSpec b
    && b.own .intMulSpec
    && (if b.aarch32 then b.inSet 108 .intMulSpec b.occ.opClass
      else b.oneOf [.scalarMadd, .scalarMsub, .scalarMul, .scalarSmaddl, .scalarSmulh, .scalarUmaddl, .scalarUmulh, .aseMla, .aseMls, .aseMul, .asePmul, .asePmull, .asePmull2, .aseSmlal, .aseSmlal2, .aseSmlsl, .aseSmlsl2, .aseSmull, .aseSmull2, .aseSqdmlal, .aseSqdmlal2, .aseSqdmlsl, .aseSqdmlsl2, .aseSqdmulh, .aseSqdmull, .aseSqdmull2, .aseSqrdmulh, .aseUmlal, .aseUmlal2, .aseUmlsl, .aseUmlsl2, .aseUmull, .aseUmull2, .sveMad, .sveMlaVectors, .sveMlsVectors, .sveMsb, .sveMul, .sveSmulhPredicated, .sveUmulhPredicated, .sve2Cmla, .sve2MlaIndexed, .sve2MlsIndexed, .sve2Mul, .sve2Pmul, .sve2Smlalb, .sve2Smlalt, .sve2Smlslb, .sve2Smlslt, .sve2SmulhUnpredicated, .sve2Smullb, .sve2Smullt, .sve2Sqdmlalb, .sve2Sqdmlalbt, .sve2Sqdmlalt, .sve2Sqdmlslb, .sve2Sqdmlslbt, .sve2Sqdmlslt, .sve2Sqdmulh, .sve2Sqdmullb, .sve2Sqdmullt, .sve2Sqrdcmlah, .sve2Sqrdmlah, .sve2Sqrdmlsh, .sve2Sqrdmulh, .sve2Umlalb, .sve2Umlalt, .sve2Umlslb, .sve2Umlslt, .sve2UmulhUnpredicated, .sve2Umullb, .sve2Umullt, .sme2Smlal, .sme2Smlall, .sme2Smlsl, .sme2Smlsll, .sme2Sumlall, .sme2Umlal, .sme2Umlall, .sme2Umlsl, .sme2Umlsll, .sme2Usmlall]
        || (b.has .rdm && b.oneOf [.aseSqrdmlah, .aseSqrdmlsh]))

/-- R502 ASE_SVE_INT_MUL_SPEC (0x804B): "The counter counts each speculatively executed integer multiply or multiply-accumulate
operation counted by INT_MUL_SPEC due to any of the following A64 instructions:" -/
def occAseSveIntMulSpec (b : Obs) : Bool :=
  occIntMulSpec b
    && b.own .aseSveIntMulSpec
    && (if b.aarch32 then b.inSet 108 .aseSveIntMulSpec b.occ.opClass
      else b.oneOf [.aseMla, .aseMls, .aseMul, .asePmul, .asePmull, .asePmull2, .aseSmlal, .aseSmlal2, .aseSmlsl, .aseSmlsl2, .aseSmull, .aseSmull2, .aseSqdmlal, .aseSqdmlal2, .aseSqdmlsl, .aseSqdmlsl2, .aseSqdmulh, .aseSqdmull, .aseSqdmull2, .aseSqrdmulh, .aseUmlal, .aseUmlal2, .aseUmlsl, .aseUmlsl2, .aseUmull, .aseUmull2, .sveMad, .sveMlaVectors, .sveMlsVectors, .sveMsb, .sveMul, .sveSmulhPredicated, .sveUmulhPredicated, .sve2Cmla, .sve2MlaIndexed, .sve2MlsIndexed, .sve2Mul, .sve2Pmul, .sve2Smlalb, .sve2Smlalt, .sve2Smlslb, .sve2Smlslt, .sve2SmulhUnpredicated, .sve2Smullb, .sve2Smullt, .sve2Sqdmlalb, .sve2Sqdmlalbt, .sve2Sqdmlalt, .sve2Sqdmlslb, .sve2Sqdmlslbt, .sve2Sqdmlslt, .sve2Sqdmulh, .sve2Sqdmullb, .sve2Sqdmullt, .sve2Sqrdcmlah, .sve2Sqrdmlah, .sve2Sqrdmlsh, .sve2Sqrdmulh, .sve2Umlalb, .sve2Umlalt, .sve2Umlslb, .sve2Umlslt, .sve2UmulhUnpredicated, .sve2Umullb, .sve2Umullt]
        || (b.has .rdm && b.oneOf [.aseSqrdmlah, .aseSqrdmlsh]))

/-- R1175 SE_INT_SPEC (0x8379): "The counter counts each speculatively executed integer data-processing operation counted by
INT_SPEC due to an A64 Advanced SIMD, SVE, or SME operation." -/
def occSeIntSpec (b : Obs) : Bool := (occAseIntSpec b || occSveIntSpec b || occSmeIntSpec b)

/-- R500 ASE_INT_MUL_SPEC (0x8049): "The counter counts each speculatively executed integer multiply or multiply-accumulate
operation counted by ASE_SVE_INT_MUL_SPEC due to any of the following A64 instructions:" -/
def occAseIntMulSpec (b : Obs) : Bool :=
  occAseSveIntMulSpec b
    && occSeIntSpec b
    && b.own .aseIntMulSpec
    && (if b.aarch32 then b.inSet 108 .aseIntMulSpec b.occ.opClass
      else b.oneOf [.aseMla, .aseMls, .aseMul, .asePmul, .asePmull, .asePmull2, .aseSmlal, .aseSmlal2, .aseSmlsl, .aseSmlsl2, .aseSmull, .aseSmull2, .aseSqdmlal, .aseSqdmlal2, .aseSqdmlsl, .aseSqdmlsl2, .aseSqdmulh, .aseSqdmull, .aseSqdmull2, .aseSqrdmulh, .aseUmlal, .aseUmlal2, .aseUmlsl, .aseUmlsl2, .aseUmull, .aseUmull2]
        || (b.has .rdm && b.oneOf [.aseSqrdmlah, .aseSqrdmlsh]))

/-- R501 SVE_INT_MUL_SPEC (0x804A): "The counter counts each speculatively executed integer multiply or multiply-accumulate
operation counted by ASE_SVE_INT_MUL_SPEC due to any of the following instructions:" -/
def occSveIntMulSpec (b : Obs) : Bool :=
  occAseSveIntMulSpec b
    && occSeIntSpec b
    && b.own .sveIntMulSpec
    && (b.oneOf [.sveMad, .sveMlaVectors, .sveMlsVectors, .sveMsb, .sveMul, .sveSmulhPredicated, .sveUmulhPredicated, .sve2Cmla, .sve2MlaIndexed, .sve2MlsIndexed, .sve2Mul, .sve2Pmul, .sve2Smlalb, .sve2Smlalt, .sve2Smlslb, .sve2Smlslt, .sve2SmulhUnpredicated, .sve2Smullb, .sve2Smullt, .sve2Sqdmlalb, .sve2Sqdmlalbt, .sve2Sqdmlalt, .sve2Sqdmlslb, .sve2Sqdmlslbt, .sve2Sqdmlslt, .sve2Sqdmulh, .sve2Sqdmullb, .sve2Sqdmullt, .sve2Sqrdcmlah, .sve2Sqrdmlah, .sve2Sqrdmlsh, .sve2Sqrdmulh, .sve2Umlalb, .sve2Umlalt, .sve2Umlslb, .sve2Umlslt, .sve2UmulhUnpredicated, .sve2Umullb, .sve2Umullt])

/-- R503 INT_MUL64_SPEC (0x804C): "The counter counts each speculatively executed 64 × 64 integer multiply operation counted by
INT_SPEC due to any of the following A64 instructions:" -/
def occIntMul64Spec (b : Obs) : Bool :=
  occIntSpec b
    && b.own .intMul64Spec
    && (b.oneOf [.scalarMadd, .scalarMsub, .scalarMul, .scalarSmulh, .scalarUmulh, .sveMad, .sveMlaVectors, .sveMlsVectors, .sveMsb, .sveMulVectorsPredicated, .sveSmulhPredicated, .sveUmulhPredicated, .sve2CmlaVectors, .sve2MlaIndexed, .sve2MlsIndexed, .sve2Mul, .sve2SmulhUnpredicated, .sve2Sqdmulh, .sve2SqrdcmlahVectors, .sve2Sqrdmlah, .sve2Sqrdmlsh, .sve2Sqrdmulh, .sve2UmulhUnpredicated])

/-- R504 SVE_INT_MUL64_SPEC (0x804D): "The counter counts each speculatively executed 64 × 64 integer multiply operation counted by
INT_MUL64_SPEC due to any of the following instructions:" -/
def occSveIntMul64Spec (b : Obs) : Bool :=
  occIntMul64Spec b
    && b.own .sveIntMul64Spec
    && (b.oneOf [.sveMad, .sveMlaVectors, .sveMlsVectors, .sveMsb, .sveMulVectorsPredicated, .sveSmulhPredicated, .sveUmulhPredicated, .sve2CmlaVectors, .sve2MlaIndexed, .sve2MlsIndexed, .sve2Mul, .sve2SmulhUnpredicated, .sve2Sqdmulh, .sve2SqrdcmlahVectors, .sve2Sqrdmlah, .sve2Sqrdmlsh, .sve2Sqrdmulh, .sve2UmulhUnpredicated])

/-- R505 INT_MULH64_SPEC (0x804E): "The counter counts each speculatively executed widening 64 × 64 integer multiply operation
counted by INT_SPEC due to any of the following A64 instructions:" -/
def occIntMulh64Spec (b : Obs) : Bool :=
  occIntSpec b
    && b.own .intMulh64Spec
    && (b.oneOf [.scalarSmulh, .scalarUmulh, .sveSmulhPredicated, .sveUmulhPredicated, .sve2SmulhUnpredicated, .sve2Sqdmulh, .sve2Sqrdmulh, .sve2UmulhUnpredicated])

/-- R506 SVE_INT_MULH64_SPEC (0x804F): "The counter counts each speculatively executed 64 × 64 integer multiply returning high part
operation counted by INT_MULH64_SPEC due to any of the following instructions:" -/
def occSveIntMulh64Spec (b : Obs) : Bool :=
  occIntMulh64Spec b
    && b.own .sveIntMulh64Spec
    && (b.oneOf [.sveSmulhPredicated, .sveUmulhPredicated, .sve2SmulhUnpredicated, .sve2Sqdmulh, .sve2Sqrdmulh, .sve2UmulhUnpredicated])

/-- R510 FP_BF16_SPEC (0x8054): "The counter counts each speculatively executed floating-point data-processing operation counted by
FP_SPEC where the largest type is BFloat16." -/
def occFpBf16Spec (b : Obs) : Bool := occFpSpec b && b.own .fpBf16Spec

/-- R509 ASE_SVE_FP_BF16_SPEC (0x8053): "The counter counts each speculatively executed BFloat16 floating-point data-processing
operation counted by FP_BF16_SPEC due to an Advanced SIMD or SVE instruction." -/
def occAseSveFpBf16Spec (b : Obs) : Bool := occFpBf16Spec b && b.own .aseSveFpBf16Spec

/-- R507 ASE_FP_BF16_SPEC (0x8051): "The counter counts each speculatively executed BFloat16 floating-point data-processing
operation counted by ASE_SVE_FP_BF16_SPEC due to an Advanced SIMD instruction." -/
def occAseFpBf16Spec (b : Obs) : Bool := occAseSveFpBf16Spec b && b.own .aseFpBf16Spec

/-- R508 SVE_FP_BF16_SPEC (0x8052): "The counter counts each speculatively executed BFloat16 floating-point data-processing
operation counted by ASE_SVE_FP_BF16_SPEC due to an SVE instruction." -/
def occSveFpBf16Spec (b : Obs) : Bool := occAseSveFpBf16Spec b && occSeFpSpec b && b.own .sveFpBf16Spec

/-- R511 SVE_SPEC (0x8056): "The counter counts each operation counted by ASE_SVE_SPEC that is an SVE data-processing operation." -/
def occSveSpec (b : Obs) : Bool := occAseSveSpec b && b.classSveSpec

/-- R513 NONFP_SPEC (0x8058): "The counter counts each speculatively executed data-processing operation due to any of:" In
AArch32 state item U109 chooses among the operations that the four sentences count. Log 61. -/
def occNonfpSpec (b : Obs) : Bool :=
  b.own .nonfpSpec
    && (if b.is .aseInstruction || b.is .sveInstruction || b.is .smeInstruction then !occFpSpec b else occDpSpec b)
    && b.aarch32In 109 .nonfpSpec

/-- R516 ASE_SVE_NONFP_SPEC (0x805B): "The counter counts each speculatively executed non-floating-point operation counted by
NONFP_SPEC due to an A64 Advanced SIMD or SVE instruction." -/
def occAseSveNonfpSpec (b : Obs) : Bool := occNonfpSpec b && b.own .aseSveNonfpSpec && b.aarch32In 110 .aseSveNonfpSpec

/-- R514 ASE_NONFP_SPEC (0x8059): "The counter counts each speculatively executed non-floating-point operation counted by
ASE_SVE_NONFP_SPEC due to an A64 Advanced SIMD instruction." -/
def occAseNonfpSpec (b : Obs) : Bool := occAseSveNonfpSpec b && b.own .aseNonfpSpec && b.aarch32In 110 .aseNonfpSpec

/-- R515 SVE_NONFP_SPEC (0x805A): "The counter counts each speculatively executed non-floating-point operation counted by
ASE_SVE_NONFP_SPEC due to an SVE instruction." -/
def occSveNonfpSpec (b : Obs) : Bool := occAseSveNonfpSpec b && b.own .sveNonfpSpec

/-- R519 ASE_SVE_INT_VREDUCE_SPEC (0x805F): "The counter counts each speculatively executed across-vector and pairwise integer
reduction operation counted by INT_SPEC due to any of the following A64 instructions:" -/
def occAseSveIntVreduceSpec (b : Obs) : Bool :=
  occIntSpec b
    && b.own .aseSveIntVreduceSpec
    && (if b.aarch32 then b.inSet 111 .aseSveIntVreduceSpec b.occ.opClass
      else b.oneOf [.aseAddp, .aseAddv, .aseSadalp, .aseSaddlp, .aseSaddlv, .aseSmaxp, .aseSmaxv, .aseSminp, .aseSminv, .aseUadalp, .aseUaddlp, .aseUaddlv, .aseUmaxp, .aseUmaxv, .aseUminp, .aseUminv, .sveAndv, .sveEorv, .sveOrv, .sveSaddv, .sveSmaxv, .sveSminv, .sveUaddv, .sveUmaxv, .sveUminv, .sve2Addp, .sve2Addqv, .sve2Andqv, .sve2Eorqv, .sve2Orqv, .sve2Sadalp, .sve2Smaxp, .sve2Smaxqv, .sve2Sminp, .sve2Sminqv, .sve2Uadalp, .sve2Umaxp, .sve2Umaxqv, .sve2Uminp, .sve2Uminqv])

/-- R517 ASE_INT_VREDUCE_SPEC (0x805D): "The counter counts each speculatively executed across-vector and pairwise integer reduction
operation counted by ASE_SVE_INT_VREDUCE_SPEC due to any of the following A64 instructions:" -/
def occAseIntVreduceSpec (b : Obs) : Bool :=
  occAseSveIntVreduceSpec b
    && b.own .aseIntVreduceSpec
    && (if b.aarch32 then b.inSet 111 .aseIntVreduceSpec b.occ.opClass
      else b.oneOf [.aseAddp, .aseAddv, .aseSadalp, .aseSaddlp, .aseSaddlv, .aseSmaxp, .aseSmaxv, .aseSminp, .aseSminv, .aseUadalp, .aseUaddlp, .aseUaddlv, .aseUmaxp, .aseUmaxv, .aseUminp, .aseUminv])

/-- R518 SVE_INT_VREDUCE_SPEC (0x805E): "The counter counts each speculatively executed across-vector and pairwise integer reduction
operation counted by ASE_SVE_INT_VREDUCE_SPEC due to any of the following instructions:" -/
def occSveIntVreduceSpec (b : Obs) : Bool :=
  occAseSveIntVreduceSpec b
    && b.own .sveIntVreduceSpec
    && (b.oneOf [.sveAndv, .sveEorv, .sveOrv, .sveSaddv, .sveSmaxv, .sveSminv, .sveUaddv, .sveUmaxv, .sveUminv, .sve2Addp, .sve2Addqv, .sve2Andqv, .sve2Eorqv, .sve2Orqv, .sve2Sadalp, .sve2Smaxp, .sve2Smaxqv, .sve2Sminp, .sve2Sminqv, .sve2Uadalp, .sve2Umaxp, .sve2Umaxqv, .sve2Uminp, .sve2Uminqv])

/-- R520 SVE_PERM_SPEC (0x8060): "The counter counts each speculatively executed vector or predicate permute operation due to any of
the following instructions:" -/
def occSvePermSpec (b : Obs) : Bool :=
  b.own .svePermSpec
    && (b.oneOf [.sveClasta, .sveClastb, .sveCompact, .sveCpySimdfpScalar, .sveCpyScalar, .sveDupIndexed, .sveDupScalar, .sveExt, .sveInsr, .sveLasta, .sveLastb, .svePunpkhi, .svePunpklo, .sveRevVector, .sveRevb, .sveRevh, .sveRevw, .sveSplice, .sveSunpkhi, .sveSunpklo, .sveTbl, .sveTrn1, .sveTrn2, .sveUunpkhi, .sveUunpklo, .sveUzp1, .sveUzp2, .sveZip1, .sveZip2, .sve2Expand, .sve2Revd, .sve2Tbx, .sve2Tbxq])

/-- R521 SVE_PERM_IGRANULE_SPEC (0x8061): "The counter counts each speculatively executed vector or predicate permute operation
within a 128-bit vector granule or 16-bit predicate granule due to any of the following instructions:" -/
def occSvePermIgranuleSpec (b : Obs) : Bool :=
  b.own .svePermIgranuleSpec
    && (b.oneOf [.sveRevb, .sveRevh, .sveRevw, .sveTrn1Vectors, .sveTrn2Vectors, .sve2Revd])

/-- R522 SVE_PERM_XGRANULE_SPEC (0x8062): "The counter counts each speculatively executed vector or predicate permute operation that
can cross between 128-bit vector granules or 16-bit predicate granules due to any of the following instructions:" -/
def occSvePermXgranuleSpec (b : Obs) : Bool :=
  b.own .svePermXgranuleSpec
    && (b.oneOf [.sveClasta, .sveClastb, .sveCompact, .sveCpySimdfpScalar, .sveCpyScalar, .sveDupIndexed, .sveDupScalar, .sveExt, .sveInsr, .sveLasta, .sveLastb, .svePunpkhi, .svePunpklo, .sveRevVector, .sveSplice, .sveSunpkhi, .sveSunpklo, .sveTbl, .sveTrn1Predicates, .sveTrn2Predicates, .sveUunpkhi, .sveUunpklo, .sveUzp1, .sveUzp2, .sveZip1, .sveZip2, .sve2Expand, .sve2Tbx, .sve2Tbxq])

/-- R523 SVE_PERM_VARIABLE_SPEC (0x8063): "The counter counts each speculatively executed variable vector permute operation due to
any of the following instructions:" -/
def occSvePermVariableSpec (b : Obs) : Bool :=
  b.own .svePermVariableSpec
    && (b.oneOf [.sveClasta, .sveClastb, .sveCompact, .sveLasta, .sveLastb, .sveSplice, .sveTbl, .sve2Expand])

/-- R524 SVE_XPIPE_SPEC (0x8064): "The counter counts each speculatively executed cross-pipeline transfer operation due to any of
the following instructions:" -/
def occSveXpipeSpec (b : Obs) : Bool :=
  b.own .sveXpipeSpec
    && (b.oneOf [.sveClastaScalar, .sveClastbScalar, .sveCntpPredicate, .sveCpyScalar, .sveDecpScalar, .sveDupScalar, .sveIncpScalar, .sveIndexImmediateScalar, .sveIndexScalarImmediate, .sveIndexScalars, .sveInsrScalar, .sveLastaScalar, .sveLastbScalar, .sveSqdecpScalar, .sveSqincpScalar, .sveUqdecpScalar, .sveUqincpScalar, .sveWhilelePredicate, .sveWhileloPredicate, .sveWhilelsPredicate, .sveWhileltPredicate, .sve2CntpPredicateAsCounter, .sve2Firstp, .sve2Lastp, .sve2Psel, .sve2Whilege, .sve2Whilegt, .sve2Whilehi, .sve2Whilehs, .sve2Whilele, .sve2Whilelo, .sve2Whilels, .sve2Whilelt, .sve2Whilerw, .sve2Whilewr])

/-- R525 SVE_XPIPE_Z2R_SPEC (0x8065): "The counter counts each speculatively executed vector to general-purpose scalar
cross-pipeline transfer operation counted by SVE_XPIPE_SPEC due to any of the following instructions:" -/
def occSveXpipeZ2rSpec (b : Obs) : Bool :=
  occSveXpipeSpec b
    && b.own .sveXpipeZ2rSpec
    && (b.oneOf [.sveClastaScalar, .sveClastbScalar, .sveCntpPredicate, .sveDecpScalar, .sveIncpScalar, .sveLastaScalar, .sveLastbScalar, .sveSqdecpScalar, .sveSqincpScalar, .sveUqdecpScalar, .sveUqincpScalar, .sve2CntpPredicateAsCounter, .sve2Firstp, .sve2Lastp])

/-- R526 SVE_XPIPE_R2Z_SPEC (0x8066): "The counter counts each speculatively executed general-purpose scalar to vector
cross-pipeline transfer operation counted by SVE_XPIPE_SPEC due to any of the following instructions:" -/
def occSveXpipeR2zSpec (b : Obs) : Bool :=
  occSveXpipeSpec b
    && b.own .sveXpipeR2zSpec
    && (b.oneOf [.sveCpyScalar, .sveDupScalar, .sveIndexImmediateScalar, .sveIndexScalarImmediate, .sveIndexScalars, .sveInsrScalar, .sveWhilelePredicate, .sveWhileloPredicate, .sveWhilelsPredicate, .sveWhileltPredicate, .sve2Psel, .sve2Whilege, .sve2Whilegt, .sve2Whilehi, .sve2Whilehs, .sve2Whilele, .sve2Whilelo, .sve2Whilels, .sve2Whilelt, .sve2Whilerw, .sve2Whilewr])

/-- R527 SVE_PGEN_NVEC_SPEC (0x8067): "The counter counts each speculatively executed predicate-generating operation that does not
read vector registers due to any of the following instructions:" -/
def occSvePgenNvecSpec (b : Obs) : Bool :=
  b.own .svePgenNvecSpec
    && (b.oneOf [.sveAndPredicates, .sveAnds, .sveBicPredicates, .sveBics, .sveBrka, .sveBrkas, .sveBrkb, .sveBrkbs, .sveBrkn, .sveBrkns, .sveBrkpa, .sveBrkpas, .sveBrkpb, .sveBrkpbs, .sveEorPredicates, .sveEors, .sveNand, .sveNands, .sveNor, .sveNors, .sveOrnPredicates, .sveOrns, .sveOrrPredicates, .sveOrrs, .svePfalse, .svePfirst, .svePnext, .svePtruePredicate, .svePtrues, .svePunpkhi, .svePunpklo, .sveRdffr, .sveRdffrs, .sveRevPredicate, .sveSelPredicates, .sveTrn1Predicates, .sveTrn2Predicates, .sveUzp1Predicates, .sveUzp2Predicates, .sveZip1Predicates, .sveZip2Predicates, .sve2Pext, .sve2PtruePredicateAsCounter])

/-- R528 SVE_PGEN_SPEC (0x8068): "The counter counts each speculatively executed predicate-generating operation due to any of the
following instructions:" -/
def occSvePgenSpec (b : Obs) : Bool :=
  b.own .svePgenSpec
    && (b.oneOf [.sveAndPredicates, .sveAnds, .sveBicPredicates, .sveBics, .sveBrka, .sveBrkas, .sveBrkb, .sveBrkbs, .sveBrkn, .sveBrkns, .sveBrkpa, .sveBrkpas, .sveBrkpb, .sveBrkpbs, .sveCmpcc, .sveEorPredicates, .sveEors, .sveFaccc, .sveFcmcc, .sveNand, .sveNands, .sveNor, .sveNors, .sveOrnPredicates, .sveOrns, .sveOrrPredicates, .sveOrrs, .svePfalse, .svePfirst, .svePnext, .svePtruePredicate, .svePtrues, .svePunpkhi, .svePunpklo, .sveRdffr, .sveRdffrs, .sveRevPredicate, .sveSelPredicates, .sveTrn1Predicates, .sveTrn2Predicates, .sveUzp1Predicates, .sveUzp2Predicates, .sveWhilelePredicate, .sveWhileloPredicate, .sveWhilelsPredicate, .sveWhileltPredicate, .sveZip1Predicates, .sveZip2Predicates, .sve2Match, .sve2Nmatch, .sve2Pext, .sve2PmovToPredicate, .sve2Psel, .sve2PtruePredicateAsCounter, .sve2Whilege, .sve2Whilegt, .sve2Whilehi, .sve2Whilehs, .sve2Whilele, .sve2Whilelo, .sve2Whilels, .sve2Whilelt, .sve2Whilerw, .sve2Whilewr])

/-- R529 SVE_PGEN_FLG_SPEC (0x8069): "The counter counts each speculatively executed predicate-generating operation that sets
condition flags due to any of the following instructions:" -/
def occSvePgenFlgSpec (b : Obs) : Bool :=
  b.own .svePgenFlgSpec
    && (b.oneOf [.sveAnds, .sveBics, .sveBrkas, .sveBrkbs, .sveBrkns, .sveBrkpas, .sveBrkpbs, .sveCmpcc, .sveEors, .sveNands, .sveNors, .sveOrns, .sveOrrs, .svePfirst, .svePnext, .svePtrues, .sveRdffrs, .sveWhilelePredicate, .sveWhileloPredicate, .sveWhilelsPredicate, .sveWhileltPredicate, .sve2Match, .sve2Nmatch, .sve2Whilege, .sve2Whilegt, .sve2Whilehi, .sve2Whilehs, .sve2Whilele, .sve2Whilelo, .sve2Whilels, .sve2Whilelt, .sve2Whilerw, .sve2Whilewr])

/-- R530 SVE_PGEN_CMP_SPEC (0x806A): "The counter counts each speculatively executed vector compare operation due to any of the
following instructions:" -/
def occSvePgenCmpSpec (b : Obs) : Bool := b.own .svePgenCmpSpec && (b.oneOf [.sveCmpcc, .sveFaccc, .sveFcmcc])

/-- R531 SVE_PGEN_FCM_SPEC (0x806B): "The counter counts each speculatively executed vector floating-point compare operation due to
any of the following instructions:" -/
def occSvePgenFcmSpec (b : Obs) : Bool := b.own .svePgenFcmSpec && (b.oneOf [.sveFaccc, .sveFcmcc])

/-- R532 SVE_PGEN_LOGIC_SPEC (0x806C): "The counter counts each speculatively executed predicate logical operation due to any of the
following instructions:" -/
def occSvePgenLogicSpec (b : Obs) : Bool :=
  b.own .svePgenLogicSpec
    && (b.oneOf [.sveAndPredicates, .sveAnds, .sveBicPredicates, .sveBics, .sveEorPredicates, .sveEors, .sveNand, .sveNands, .sveNor, .sveNors, .sveOrnPredicates, .sveOrns, .sveOrrPredicates, .sveOrrs])

/-- R533 SVE_PPERM_SPEC (0x806D): "The counter counts each speculatively executed predicate permute operation due to any of the
following instructions:" -/
def occSvePpermSpec (b : Obs) : Bool :=
  b.own .svePpermSpec
    && (b.oneOf [.svePunpkhi, .svePunpklo, .sveRevPredicate, .sveTrn1Predicates, .sveTrn2Predicates, .sveUzp1Predicates, .sveUzp2Predicates, .sveZip1Predicates, .sveZip2Predicates])

/-- R534 SVE_PSCAN_SPEC (0x806E): "The counter counts each speculatively executed predicate scanning and generation operation due to
any of the following instructions:" -/
def occSvePscanSpec (b : Obs) : Bool :=
  b.own .svePscanSpec
    && (b.oneOf [.sveBrka, .sveBrkas, .sveBrkb, .sveBrkbs, .sveBrkn, .sveBrkns, .sveBrkpa, .sveBrkpas, .sveBrkpb, .sveBrkpbs, .svePfirst, .svePnext])

/-- R535 SVE_PCNT_SPEC (0x806F): "The counter counts each speculatively executed predicate population count operation due to any of
the following instructions:" -/
def occSvePcntSpec (b : Obs) : Bool :=
  b.own .svePcntSpec
    && (b.oneOf [.sveCntpPredicate, .sveDecp, .sveIncp, .sveSqdecp, .sveSqincp, .sveUqdecp, .sveUqincp, .sve2CntpPredicateAsCounter])

/-- R536 SVE_PLOOP_WHILE_SPEC (0x8070): "The counter counts each speculatively executed counted predicate generation operation due
to any of the following instructions:" -/
def occSvePloopWhileSpec (b : Obs) : Bool :=
  b.own .svePloopWhileSpec
    && (b.oneOf [.sveWhilelePredicate, .sveWhileloPredicate, .sveWhilelsPredicate, .sveWhileltPredicate, .sve2Whilege, .sve2Whilegt, .sve2Whilehi, .sve2Whilehs, .sve2Whilele, .sve2Whilelo, .sve2Whilels, .sve2Whilelt])

/-- R537 SVE_PLOOP_TEST_SPEC (0x8071): "The counter counts each speculatively executed loop predicate test operation due to any of
the following instructions:" -/
def occSvePloopTestSpec (b : Obs) : Bool :=
  b.own .svePloopTestSpec
    && (b.oneOf [.sveBrkas, .sveBrkbs, .sveBrkns, .sveBrkpas, .sveBrkpbs, .sveWhilelePredicate, .sveWhileloPredicate, .sveWhilelsPredicate, .sveWhileltPredicate, .sve2Whilege, .sve2Whilegt, .sve2Whilehi, .sve2Whilehs, .sve2Whilele, .sve2Whilelo, .sve2Whilels, .sve2Whilelt])

/-- R538 SVE_PLOOP_ELTS_SPEC (0x8072): "The counter counts each speculatively executed loop predicate generation operation due to
any of the following instructions:" -/
def occSvePloopEltsSpec (b : Obs) : Bool :=
  b.own .svePloopEltsSpec
    && (b.oneOf [.sveWhilelePredicate, .sveWhileloPredicate, .sveWhilelsPredicate, .sveWhileltPredicate, .sve2Whilege, .sve2Whilegt, .sve2Whilehi, .sve2Whilehs, .sve2Whilele, .sve2Whilelo, .sve2Whilels, .sve2Whilelt])

/-- R539 SVE_PLOOP_TERM_SPEC (0x8073): "The counter counts each speculatively executed loop-terminating predicate generation
operation due to any of:" The SVE WHILE names are read as the (predicate) forms, and the SVE2 WHILE names are the four it prints. Log 68. -/
def occSvePloopTermSpec (b : Obs) : Bool :=
  b.own .svePloopTermSpec
    && ((b.oneOf [.sveWhilelePredicate, .sveWhileloPredicate, .sveWhilelsPredicate, .sveWhileltPredicate, .sve2Whilege, .sve2Whilegt, .sve2Whilehi, .sve2Whilehs] && b.is .setsNToZero)
      || (b.oneOf [.sveBrkas, .sveBrkbs, .sveBrkns, .sveBrkpas, .sveBrkpbs] && b.is .setsCToOne)
      || (b.oneOf [.sveCtermeq, .sveCtermne] && b.is .setsNToOne && b.is .setsVToZero))

/-- R540 SVE_PRED_SPEC (0x8074): "The counter counts each speculatively executed predicated SIMD operation." U112, which SME
operations are not under. -/
def occSvePredSpec (b : Obs) : Bool :=
  b.own .svePredSpec
    && b.is .governed
    && (b.is .smeInstruction || b.gated .governedWithoutZWrite (b.choice 112 .svePredSpec))

/-- R545 SVE_PRED_NOT_FULL_SPEC (0x8079): "The counter counts each speculatively executed predicated SIMD data-processing, load, or
store operation counted by SVE_PRED_SPEC where at least one element is Inactive." -/
def occSvePredNotFullSpec (b : Obs) : Bool := occSvePredSpec b && b.own .svePredNotFullSpec && !b.is .allActive

/-- R541 SVE_PRED_EMPTY_SPEC (0x8075): "The counter counts each speculatively executed predicated SIMD operation counted by
SVE_PRED_NOT_FULL_SPEC where all elements are Inactive." -/
def occSvePredEmptySpec (b : Obs) : Bool := occSvePredNotFullSpec b && b.is .allInactive

/-- R542 SVE_PRED_FULL_SPEC (0x8076): "The counter counts each speculatively executed predicated SIMD operation counted by
SVE_PRED_SPEC where all elements are Active." -/
def occSvePredFullSpec (b : Obs) : Bool := occSvePredSpec b && b.is .allActive

/-- R543 SVE_PRED_PARTIAL_SPEC (0x8077): "The counter counts each speculatively executed predicated SIMD operation counted by
SVE_PRED_NOT_FULL_SPEC where neither all elements are Active nor all elements are Inactive." -/
def occSvePredPartialSpec (b : Obs) : Bool := occSvePredNotFullSpec b && !b.is .allInactive

/-- R544 SVE_UNPRED_SPEC (0x8078): "The counter counts each speculatively executed SIMD operation due to any of:" Conflict C8. -/
def occSveUnpredSpec (b : Obs) : Bool := b.own .sveUnpredSpec && b.never .governed

/-- R546 SVE_MOVPRFX_SPEC (0x807C): "The counter counts each speculatively executed operation due to any of the following
instructions:" -/
def occSveMovprfxSpec (b : Obs) : Bool := b.own .sveMovprfxSpec && (b.oneOf [.sveMovprfx])

/-- R547 SVE_MOVPRFX_Z_SPEC (0x807D): "The counter counts each speculatively executed operation counted by SVE_MOVPRFX_SPEC where
the operation uses zeroing predication." -/
def occSveMovprfxZSpec (b : Obs) : Bool := occSveMovprfxSpec b && b.own .sveMovprfxZSpec

/-- R548 SVE_MOVPRFX_M_SPEC (0x807E): "The counter counts each speculatively executed operation counted by SVE_MOVPRFX_SPEC where
the operation uses merging predication." -/
def occSveMovprfxMSpec (b : Obs) : Bool := occSveMovprfxSpec b && b.own .sveMovprfxMSpec

/-- R549 SVE_MOVPRFX_U_SPEC (0x807F): "The counter counts each speculatively executed operation counted by SVE_MOVPRFX_SPEC where
the MOVPRFX is not fused with the prefixed instruction." -/
def occSveMovprfxUSpec (b : Obs) : Bool := occSveMovprfxSpec b && b.own .sveMovprfxUSpec

/-- R554 ASE_SVE_LDST_SPEC (0x8084): "The counter counts each speculatively executed operation that reads from or writes to memory
due to an A64 Advanced SIMD or SVE load, store, or prefetch instruction." -/
def occAseSveLdstSpec (b : Obs) : Bool := b.own .aseSveLdstSpec && b.aarch32In 113 .aseSveLdstSpec

/-- R550 SVE_LDST_SPEC (0x8080): "The counter counts each speculatively executed operation that reads from or writes to memory
counted by ASE_SVE_LDST_SPEC due to an SVE load, store, or prefetch instruction." Conflict C9. -/
def occSveLdstSpec (b : Obs) : Bool :=
  occAseSveLdstSpec b
    && b.own .sveLdstSpec
    && b.never .zaOrZtLoadStore
    && b.gated .smeInstruction (b.has .sme)

/-- R551 SVE_LD_SPEC (0x8081): "The counter counts each speculatively executed operation that reads from memory counted by
SVE_LDST_SPEC due to an SVE load instruction." -/
def occSveLdSpec (b : Obs) : Bool := occSveLdstSpec b && b.own .sveLdSpec

/-- R552 SVE_ST_SPEC (0x8082): "The counter counts each speculatively executed operation that writes to memory counted by
SVE_LDST_SPEC due to an SVE store instruction." -/
def occSveStSpec (b : Obs) : Bool := occSveLdstSpec b && b.own .sveStSpec

/-- R553 SVE_PRF_SPEC (0x8083): "The counter counts each speculatively executed prefetch operation counted by SVE_LDST_SPEC due to
any of the following instructions:" -/
def occSvePrfSpec (b : Obs) : Bool :=
  occSveLdstSpec b
    && b.own .svePrfSpec
    && (b.oneOf [.svePrfb, .svePrfd, .svePrfh, .svePrfw])

/-- R555 ASE_SVE_LD_SPEC (0x8085): "The counter counts each speculatively executed operation that reads from memory counted by
ASE_SVE_LDST_SPEC due to an A64 Advanced SIMD or SVE load instruction." -/
def occAseSveLdSpec (b : Obs) : Bool := occAseSveLdstSpec b && b.own .aseSveLdSpec && b.aarch32In 114 .aseSveLdSpec

/-- R556 ASE_SVE_ST_SPEC (0x8086): "The counter counts each speculatively executed operation that writes to memory counted by
ASE_SVE_LDST_SPEC due to an A64 Advanced SIMD or SVE store instruction." -/
def occAseSveStSpec (b : Obs) : Bool := occAseSveLdstSpec b && b.own .aseSveStSpec && b.aarch32In 115 .aseSveStSpec

/-- R559 BASE_LD_REG_SPEC (0x8089): "The counter counts each speculatively executed operation that reads from memory counted by
BASE_LDST_REG_SPEC due to a general-purpose register load instruction." -/
def occBaseLdRegSpec (b : Obs) : Bool := occBaseLdstRegSpec b && b.own .baseLdRegSpec && b.aarch32In 118 .baseLdRegSpec

/-- R560 BASE_ST_REG_SPEC (0x808A): "The counter counts each speculatively executed operation that writes to memory counted by
BASE_LDST_REG_SPEC due to a general-purpose register store instruction." -/
def occBaseStRegSpec (b : Obs) : Bool :=
  occBaseLdstRegSpec b
    && b.own .baseStRegSpec
    && b.gated .dcZva (b.choice 119 .baseStRegSpec)
    && b.aarch32In 120 .baseStRegSpec

/-- R562 FPASE_LDST_REG_SPEC (0x808C): "The counter counts each speculatively executed operation that reads from or writes to memory
due to any of the following A64 instructions:" -/
def occFpaseLdstRegSpec (b : Obs) : Bool :=
  b.own .fpaseLdstRegSpec
    && (if b.aarch32 then b.inSet 121 .fpaseLdstRegSpec b.occ.opClass
      else b.oneOf [.scalarLdpSimdfp, .scalarLdrSimdfp, .scalarStpSimdfp, .scalarStrSimdfp, .aseLd1, .aseLd1r, .aseLdnp, .aseLdp, .aseLdr, .aseLdur, .aseSt1, .aseStnp, .aseStp, .aseStr, .aseStur]
        || (b.has .lrcpc3 && b.oneOf [.aseLdap1, .aseLdapur, .aseStl1, .aseStlur]))

/-- R563 FPASE_LD_REG_SPEC (0x808D): "The counter counts each speculatively executed operation that reads from memory counted by
FPASE_LDST_REG_SPEC due to any of the following A64 instructions:" -/
def occFpaseLdRegSpec (b : Obs) : Bool :=
  occFpaseLdstRegSpec b
    && b.own .fpaseLdRegSpec
    && (if b.aarch32 then b.inSet 118 .fpaseLdRegSpec b.occ.opClass
      else b.oneOf [.scalarLdpSimdfp, .scalarLdrSimdfp, .aseLd1, .aseLd1r, .aseLdnp, .aseLdp, .aseLdr, .aseLdur]
        || (b.has .lrcpc3 && b.oneOf [.aseLdap1, .aseLdapur]))

/-- R564 FPASE_ST_REG_SPEC (0x808E): "The counter counts each speculatively executed operation that writes to memory counted by
FPASE_LDST_REG_SPEC due to any of the following A64 instructions:" -/
def occFpaseStRegSpec (b : Obs) : Bool :=
  occFpaseLdstRegSpec b
    && b.own .fpaseStRegSpec
    && (if b.aarch32 then b.inSet 120 .fpaseStRegSpec b.occ.opClass
      else b.oneOf [.scalarStpSimdfp, .scalarStrSimdfp, .aseSt1, .aseStnp, .aseStp, .aseStr, .aseStur]
        || (b.has .lrcpc3 && b.oneOf [.aseStl1, .aseStlur]))

/-- R565 SVE_LDST_REG_SPEC (0x8090): "The counter counts each speculatively executed SVE register load or store operation due to any
of the following instructions:" -/
def occSveLdstRegSpec (b : Obs) : Bool := b.own .sveLdstRegSpec && (b.oneOf [.sveLdr, .sveStr])

/-- R566 SVE_LDR_REG_SPEC (0x8091): "The counter counts each speculatively executed operation that reads from memory counted by
SVE_LDST_REG_SPEC due to any of the following instructions:" -/
def occSveLdrRegSpec (b : Obs) : Bool := occSveLdstRegSpec b && b.own .sveLdrRegSpec && (b.oneOf [.sveLdr])

/-- R567 SVE_STR_REG_SPEC (0x8092): "The counter counts each speculatively executed operation that writes to memory counted by
SVE_LDST_REG_SPEC due to any of the following instructions:" -/
def occSveStrRegSpec (b : Obs) : Bool := occSveLdstRegSpec b && b.own .sveStrRegSpec && (b.oneOf [.sveStr])

/-- R568 SVE_LDST_PREG_SPEC (0x8094): "The counter counts each speculatively executed SVE predicate register load or store operation
due to any of the following instructions:" -/
def occSveLdstPregSpec (b : Obs) : Bool := b.own .sveLdstPregSpec && (b.oneOf [.sveLdrPredicate, .sveStrPredicate])

/-- R569 SVE_LDR_PREG_SPEC (0x8095): "The counter counts each speculatively executed operation that reads from memory counted by
SVE_LDST_PREG_SPEC due to any of the following instructions:" -/
def occSveLdrPregSpec (b : Obs) : Bool := occSveLdstPregSpec b && b.own .sveLdrPregSpec && (b.oneOf [.sveLdrPredicate])

/-- R570 SVE_STR_PREG_SPEC (0x8096): "The counter counts each speculatively executed operation that writes to memory counted by
SVE_LDST_PREG_SPEC due to any of the following instructions:" -/
def occSveStrPregSpec (b : Obs) : Bool := occSveLdstPregSpec b && b.own .sveStrPregSpec && (b.oneOf [.sveStrPredicate])

/-- R571 SVE_LDST_ZREG_SPEC (0x8098): "The counter counts each speculatively executed SVE vector register load or store operation
due to any of the following instructions:" -/
def occSveLdstZregSpec (b : Obs) : Bool := b.own .sveLdstZregSpec && (b.oneOf [.sveLdrVector, .sveStrVector])

/-- R572 SVE_LDR_ZREG_SPEC (0x8099): "The counter counts each speculatively executed operation that reads from memory counted by
SVE_LDST_ZREG_SPEC due to any of the following instructions:" -/
def occSveLdrZregSpec (b : Obs) : Bool := occSveLdstZregSpec b && b.own .sveLdrZregSpec && (b.oneOf [.sveLdrVector])

/-- R573 SVE_STR_ZREG_SPEC (0x809A): "The counter counts each speculatively executed operation that writes to memory counted by
SVE_LDST_ZREG_SPEC due to any of the following instructions:" -/
def occSveStrZregSpec (b : Obs) : Bool := occSveLdstZregSpec b && b.own .sveStrZregSpec && (b.oneOf [.sveStrVector])

/-- R574 SVE_LDST_CONTIG_SPEC (0x809C): "The counter counts each speculatively executed SVE predictated single vector contiguous
element load, store, or prefetch operation due to any of:" Conflict C10, decision D15. -/
def occSveLdstContigSpec (b : Obs) : Bool :=
  b.own .sveLdstContigSpec
    && b.gated .smeInstruction (b.has .sme && (b.oneOf [.smeLd1b, .smeLd1d, .smeLd1h, .smeLd1q, .smeLd1w, .smeLdnt1b, .smeLdnt1d, .smeLdnt1h, .smeLdnt1q, .smeSt1b, .smeSt1d, .smeSt1h, .smeSt1q, .smeSt1w, .smeStnt1b, .smeStnt1d, .smeStnt1h] || b.sveContigExtra .sveLdstContigSpec))

/-- R575 SVE_LD_CONTIG_SPEC (0x809D): "The counter counts each speculatively executed operation that reads from memory counted by
SVE_LDST_CONTIG_SPEC due to any of:" Conflict C10, decision D15. -/
def occSveLdContigSpec (b : Obs) : Bool :=
  occSveLdstContigSpec b
    && b.own .sveLdContigSpec
    && b.gated .smeInstruction (b.has .sme && (b.oneOf [.smeLd1b, .smeLd1d, .smeLd1h, .smeLd1q, .smeLd1w, .smeLdnt1b, .smeLdnt1d, .smeLdnt1h] || b.sveContigExtra .sveLdContigSpec))

/-- R576 SVE_ST_CONTIG_SPEC (0x809E): "The counter counts each speculatively executed operation that writes to memory counted by
SVE_LDST_CONTIG_SPEC due to any of:" Conflict C10, decision D15. -/
def occSveStContigSpec (b : Obs) : Bool :=
  occSveLdstContigSpec b
    && b.own .sveStContigSpec
    && b.gated .smeInstruction (b.has .sme && (b.oneOf [.smeSt1b, .smeSt1d, .smeSt1h, .smeSt1q, .smeSt1w, .smeStnt1b, .smeStnt1d, .smeStnt1h, .smeStnt1q] || b.sveContigExtra .sveStContigSpec))

/-- R577 SVE_PRF_CONTIG_SPEC (0x809F): "The counter counts each speculatively executed operation counted by SVE_LDST_CONTIG_SPEC due
to an SVE predicated single contiguous element prefetch instruction." -/
def occSvePrfContigSpec (b : Obs) : Bool := occSveLdstContigSpec b && b.own .svePrfContigSpec

/-- R578 SVE_LDSTNT_CONTIG_SPEC (0x80A0): "The counter counts each speculatively executed SVE non-temporal contiguous element load
or store operation." -/
def occSveLdstntContigSpec (b : Obs) : Bool := b.own .sveLdstntContigSpec

/-- R579 SVE_LDNT_CONTIG_SPEC (0x80A1): "The counter counts each speculatively executed operation that reads from memory with a
non-temporal hint counted by SVE_LDSTNT_CONTIG_SPEC due to an SVE non-temporal contiguous element load instruction." -/
def occSveLdntContigSpec (b : Obs) : Bool :=
  occSveLdstntContigSpec b
    && b.own .sveLdntContigSpec
    && b.gated .smeInstruction (b.has .sme)

/-- R580 SVE_STNT_CONTIG_SPEC (0x80A2): "The counter counts each speculatively executed operation that writes to memory with a
non-temporal hint counted by SVE_LDSTNT_CONTIG_SPEC due to an SVE non-temporal contiguous element store instruction." -/
def occSveStntContigSpec (b : Obs) : Bool :=
  occSveLdstntContigSpec b
    && b.own .sveStntContigSpec
    && b.gated .smeInstruction (b.has .sme)

/-- R581 ASE_SVE_LDST_MULTI_SPEC (0x80A4): "The counter counts each speculatively executed operation due to an A64 Advanced SIMD or
SVE multiple vector contiguous structure load or store instruction." -/
def occAseSveLdstMultiSpec (b : Obs) : Bool := b.own .aseSveLdstMultiSpec && b.aarch32In 122 .aseSveLdstMultiSpec

/-- R582 ASE_SVE_LD_MULTI_SPEC (0x80A5): "The counter counts each speculatively executed operation that reads from memory counted by
ASE_SVE_LDST_MULTI_SPEC due to an A64 Advanced SIMD or SVE multiple vector contiguous structure load instruction." -/
def occAseSveLdMultiSpec (b : Obs) : Bool :=
  occAseSveLdstMultiSpec b
    && b.own .aseSveLdMultiSpec
    && b.aarch32In 123 .aseSveLdMultiSpec

/-- R583 ASE_SVE_ST_MULTI_SPEC (0x80A6): "The counter counts each speculatively executed operation that writes to memory counted by
ASE_SVE_LDST_MULTI_SPEC due to an A64 Advanced SIMD or SVE multiple vector contiguous structure store instruction." -/
def occAseSveStMultiSpec (b : Obs) : Bool :=
  occAseSveLdstMultiSpec b
    && b.own .aseSveStMultiSpec
    && b.aarch32In 124 .aseSveStMultiSpec

/-- R584 SVE_LDST_MULTI_SPEC (0x80A8): "The counter counts each speculatively executed operation that reads from or writes to memory
due to an SVE multiple vector contiguous structure load or store instruction." -/
def occSveLdstMultiSpec (b : Obs) : Bool := b.own .sveLdstMultiSpec

/-- R585 SVE_LD_MULTI_SPEC (0x80A9): "The counter counts each speculatively executed operation that reads from memory counted by
SVE_LDST_MULTI_SPEC due to an SVE multiple vector contiguous structure load instruction." -/
def occSveLdMultiSpec (b : Obs) : Bool :=
  occSveLdstMultiSpec b
    && b.own .sveLdMultiSpec
    && b.gated .smeInstruction (b.has .sme)

/-- R586 SVE_ST_MULTI_SPEC (0x80AA): "The counter counts each speculatively executed operation that writes to memory counted by
SVE_LDST_MULTI_SPEC due to an SVE multiple vector contiguous structure store instruction." -/
def occSveStMultiSpec (b : Obs) : Bool :=
  occSveLdstMultiSpec b
    && b.own .sveStMultiSpec
    && b.gated .smeInstruction (b.has .sme)

/-- R587 SVE_LDST_NONCONTIG_SPEC (0x80AC): "The counter counts each speculatively executed operation that reads from or writes to
memory due to an SVE non-contiguous gather-load, scatter-store, or gather-prefetch instruction." -/
def occSveLdstNoncontigSpec (b : Obs) : Bool := b.own .sveLdstNoncontigSpec

/-- R588 SVE_LD_GATHER_SPEC (0x80AD): "The counter counts each speculatively executed operation that reads from memory counted by
SVE_LDST_NONCONTIG_SPEC due to an SVE non-contiguous gather-load instruction." -/
def occSveLdGatherSpec (b : Obs) : Bool := occSveLdstNoncontigSpec b && b.own .sveLdGatherSpec

/-- R589 SVE_ST_SCATTER_SPEC (0x80AE): "The counter counts each speculatively executed operation that writes to memory counted by
SVE_LDST_NONCONTIG_SPEC due to an SVE non-contiguous scatter-store instruction." -/
def occSveStScatterSpec (b : Obs) : Bool := occSveLdstNoncontigSpec b && b.own .sveStScatterSpec

/-- R590 SVE_PRF_GATHER_SPEC (0x80AF): "The counter counts each speculatively executed prefetch operation counted by
SVE_LDST_NONCONTIG_SPEC due to an SVE non-contiguous gather-prefetch instruction." -/
def occSvePrfGatherSpec (b : Obs) : Bool := occSveLdstNoncontigSpec b && b.own .svePrfGatherSpec

/-- R591 SVE_LDST64_NONCONTIG_SPEC (0x80B0): "The counter counts each speculatively executed operation that reads from or writes to
memory due to an SVE non-continguous gather-load, scatter-store, or gather-prefetch operation with 64-bit vector elements in the
address." -/
def occSveLdst64NoncontigSpec (b : Obs) : Bool := b.own .sveLdst64NoncontigSpec

/-- R592 SVE_LD64_GATHER_SPEC (0x80B1): "The counter counts each speculatively executed operation that reads from memory counted by
SVE_LDST64_NONCONTIG_SPEC due to an SVE non-contiguous gather-load instruction with 64-bit vector elements in the address." -/
def occSveLd64GatherSpec (b : Obs) : Bool := occSveLdst64NoncontigSpec b && b.own .sveLd64GatherSpec

/-- R593 SVE_ST64_SCATTER_SPEC (0x80B2): "The counter counts each speculatively executed operation that writes to memory counted by
SVE_LDST64_NONCONTIG_SPEC due to an SVE non-contiguous scatter-store instruction with 64-bit vector elements in the address." -/
def occSveSt64ScatterSpec (b : Obs) : Bool := occSveLdst64NoncontigSpec b && b.own .sveSt64ScatterSpec

/-- R594 SVE_PRF64_GATHER_SPEC (0x80B3): "The counter counts each speculatively executed prefetch operation counted by
SVE_LDST64_NONCONTIG_SPEC due to an SVE non-contiguous gather-prefetch instruction with 64-bit vector elements in the address." -/
def occSvePrf64GatherSpec (b : Obs) : Bool := occSveLdst64NoncontigSpec b && b.own .svePrf64GatherSpec

/-- R595 ASE_SVE_UNALIGNED_LDST_SPEC (0x80B4): "The counter counts each speculatively executed A64 Advanced SIMD or SVE load or
store instruction where either:" -/
def occAseSveUnalignedLdstSpec (b : Obs) : Bool := b.own .aseSveUnalignedLdstSpec && b.aarch32In 125 .aseSveUnalignedLdstSpec

/-- R596 ASE_SVE_UNALIGNED_LD_SPEC (0x80B5): "The counter counts each unaligned memory access counted by ASE_SVE_UNALIGNED_LDST_SPEC
due to an A64 Advanced SIMD or SVE load instruction." -/
def occAseSveUnalignedLdSpec (b : Obs) : Bool :=
  occAseSveUnalignedLdstSpec b
    && b.own .aseSveUnalignedLdSpec
    && b.aarch32In 126 .aseSveUnalignedLdSpec

/-- R597 ASE_SVE_UNALIGNED_ST_SPEC (0x80B6): "The counter counts each unaligned memory access counted by ASE_SVE_UNALIGNED_LDST_SPEC
due to an A64 Advanced SIMD or SVE store instruction." -/
def occAseSveUnalignedStSpec (b : Obs) : Bool :=
  occAseSveUnalignedLdstSpec b
    && b.own .aseSveUnalignedStSpec
    && b.aarch32In 127 .aseSveUnalignedStSpec

/-- R598 ASE_SVE_UNALIGNED_CONTIG_LDST_SPEC (0x80B8): "The counter counts each speculatively executed Advanced SIMD or SVE
contiguous load or store operation where the address is not aligned to the minimum of the in-memory size of the vector and the
cache line size, in bytes." -/
def occAseSveUnalignedContigLdstSpec (b : Obs) : Bool :=
  b.own .aseSveUnalignedContigLdstSpec
    && b.aarch32In 128 .aseSveUnalignedContigLdstSpec

/-- R599 ASE_SVE_UNALIGNED_CONTIG_LD_SPEC (0x80B9): "The counter counts each unaligned memory access counted by
ASE_SVE_UNALIGNED_CONTIG_LDST_SPEC due to an A64 Advanced SIMD or SVE load instruction." -/
def occAseSveUnalignedContigLdSpec (b : Obs) : Bool :=
  occAseSveUnalignedContigLdstSpec b
    && b.own .aseSveUnalignedContigLdSpec
    && b.aarch32In 129 .aseSveUnalignedContigLdSpec

/-- R600 ASE_SVE_UNALIGNED_CONTIG_ST_SPEC (0x80BA): "The counter counts each unaligned memory access counted by
ASE_SVE_UNALIGNED_CONTIG_LDST_SPEC due to a A64 Advanced SIMD or SVE store instruction." -/
def occAseSveUnalignedContigStSpec (b : Obs) : Bool :=
  occAseSveUnalignedContigLdstSpec b
    && b.own .aseSveUnalignedContigStSpec
    && b.aarch32In 130 .aseSveUnalignedContigStSpec

/-- R601 SVE_LDFF_SPEC (0x80BC): "The counter counts each speculatively executed Memory-read operation counted by SVE_LD_SPEC due to
an SVE First-fault or Non-fault load instruction." -/
def occSveLdffSpec (b : Obs) : Bool := occSveLdSpec b && b.own .sveLdffSpec

/-- R602 SVE_LDFF_FAULT_SPEC (0x80BD): "The counter counts each speculatively executed Memory-read operation counted by
SVE_LDFF_SPEC due to an SVE First-fault or Non-fault load instruction that writes 0 to at least one bit in FFR." -/
def occSveLdffFaultSpec (b : Obs) : Bool := occSveLdffSpec b && b.own .sveLdffFaultSpec

/-- R604 FP_FIXED_OPS_SPEC (0x80C1): "The counter increments by v for each speculatively executed non-scalable element arithmetic
operation, due to an instruction where the type was floating-point." -/
def occFpFixedOpsSpec (b : Obs) : Bool := b.own .fpFixedOpsSpec

/-- R603 FP_SCALE_OPS_SPEC (0x80C0): "The counter increments by v for each speculatively executed scalable element arithmetic
operation, due to an instruction where the type was floating-point." -/
def occFpScaleOpsSpec (b : Obs) : Bool := b.own .fpScaleOpsSpec && !occFpFixedOpsSpec b

/-- R619 FP_SCALE2_OPS_SPEC (0x80D0): "The counter increments by v for each speculatively executed scalable tile arithmetic
operation, due to an instruction where the type was floating-point." -/
def occFpScale2OpsSpec (b : Obs) : Bool := b.own .fpScale2OpsSpec && !occFpFixedOpsSpec b && !occFpScaleOpsSpec b

/-- R605 FP_HP_SCALE_OPS_SPEC (0x80C2): "The counter increments by v for each speculatively executed scalable element arithmetic
operation, due to an instruction where the largest type was half-precision floating-point." -/
def occFpHpScaleOpsSpec (b : Obs) : Bool := b.own .fpHpScaleOpsSpec && !occFpFixedOpsSpec b && !occFpScale2OpsSpec b

/-- R606 FP_HP_FIXED_OPS_SPEC (0x80C3): "The counter increments by v for each speculatively executed non-scalable element arithmetic
operation, due to an instruction where the largest type was half-precision floating-point." -/
def occFpHpFixedOpsSpec (b : Obs) : Bool := b.own .fpHpFixedOpsSpec && !occFpScaleOpsSpec b && !occFpScale2OpsSpec b

/-- R607 FP_SP_SCALE_OPS_SPEC (0x80C4): "The counter increments by v for each speculatively executed scalable element arithmetic
operation, due to an instruction where the largest type was single-precision floating-point." -/
def occFpSpScaleOpsSpec (b : Obs) : Bool := b.own .fpSpScaleOpsSpec && !occFpFixedOpsSpec b && !occFpScale2OpsSpec b

/-- R608 FP_SP_FIXED_OPS_SPEC (0x80C5): "The counter increments by v for each speculatively executed non-scalable element arithmetic
operation, due to an instruction where the largest type was single-precision floating-point." -/
def occFpSpFixedOpsSpec (b : Obs) : Bool := b.own .fpSpFixedOpsSpec && !occFpScaleOpsSpec b && !occFpScale2OpsSpec b

/-- R609 FP_DP_SCALE_OPS_SPEC (0x80C6): "The counter increments by v for each speculatively executed scalable element arithmetic
operation, due to an instruction where the largest type was double-precision floating-point." -/
def occFpDpScaleOpsSpec (b : Obs) : Bool := b.own .fpDpScaleOpsSpec && !occFpFixedOpsSpec b && !occFpScale2OpsSpec b

/-- R610 FP_DP_FIXED_OPS_SPEC (0x80C7): "The counter increments by v for each speculatively executed non-scalable element arithmetic
operation, due to an instruction where the largest type was double-precision floating-point." -/
def occFpDpFixedOpsSpec (b : Obs) : Bool := b.own .fpDpFixedOpsSpec && !occFpScaleOpsSpec b && !occFpScale2OpsSpec b

/-- R612 INT_FIXED_OPS_SPEC (0x80C9): "The counter increments by v for each speculatively executed non-scalable element arithmetic
operation, due to an instruction where the type was integer." -/
def occIntFixedOpsSpec (b : Obs) : Bool := b.own .intFixedOpsSpec && !occFpScaleOpsSpec b && !occFpScale2OpsSpec b

/-- R611 INT_SCALE_OPS_SPEC (0x80C8): "The counter increments by v for each speculatively executed scalable element arithmetic
operation, due to an instruction where the type was integer." -/
def occIntScaleOpsSpec (b : Obs) : Bool :=
  b.own .intScaleOpsSpec
    && !occFpFixedOpsSpec b
    && !occFpScale2OpsSpec b
    && !occIntFixedOpsSpec b

/-- R613 LDST_SCALE_OPS_SPEC (0x80CA): "The counter counts each speculatively executed Memory-read operation or Memory-write
operation due to any of:" -/
def occLdstScaleOpsSpec (b : Obs) : Bool :=
  b.own .ldstScaleOpsSpec
    && b.is .scalableVectorLoadStore
    && b.never .loadAndReplicate
    && b.never .tagLoadStore

/-- R614 LDST_FIXED_OPS_SPEC (0x80CB): "The counter counts each speculatively executed Memory-read operation or Memory-write
operation due to any of:" -/
def occLdstFixedOpsSpec (b : Obs) : Bool :=
  b.own .ldstFixedOpsSpec
    && (b.never .scalableVectorLoadStore || b.is .loadAndReplicate)

/-- R615 LD_SCALE_OPS_SPEC (0x80CC): "The counter counts each speculatively executed Memory-read operation counted by
LDST_SCALE_OPS_SPEC due to any of:" -/
def occLdScaleOpsSpec (b : Obs) : Bool :=
  occLdstScaleOpsSpec b
    && b.own .ldScaleOpsSpec
    && b.is .scalableVectorLoadStore
    && b.never .loadAndReplicate
    && b.never .tagLoadStore

/-- R616 LD_FIXED_OPS_SPEC (0x80CD): "The counter counts each speculatively executed Memory-read operation counted by
LDST_FIXED_OPS_SPEC." -/
def occLdFixedOpsSpec (b : Obs) : Bool := occLdstFixedOpsSpec b && b.own .ldFixedOpsSpec

/-- R617 ST_SCALE_OPS_SPEC (0x80CE): "The counter counts each speculatively executed Memory-write operation counted by
LDST_SCALE_OPS_SPEC due to any of:" -/
def occStScaleOpsSpec (b : Obs) : Bool :=
  occLdstScaleOpsSpec b
    && b.own .stScaleOpsSpec
    && b.is .scalableVectorLoadStore
    && b.never .loadAndReplicate
    && b.never .tagLoadStore

/-- R618 ST_FIXED_OPS_SPEC (0x80CF): "The counter counts each Memory-write operation counted by LDST_FIXED_OPS_SPEC." -/
def occStFixedOpsSpec (b : Obs) : Bool := occLdstFixedOpsSpec b && b.own .stFixedOpsSpec

/-- R620 FP_HP_SCALE2_OPS_SPEC (0x80D2): "The counter increments by v for each speculatively executed scalable tile arithmetic
operation, due to an instruction where the largest type was half-precision floating-point." -/
def occFpHpScale2OpsSpec (b : Obs) : Bool := b.own .fpHpScale2OpsSpec && !occFpFixedOpsSpec b && !occFpScaleOpsSpec b

/-- R621 FP_BF16_SCALE2_OPS_SPEC (0x80D3): "The counter increments by v for each speculatively executed scalable tile arithmetic
operation, due to an instruction where the largest type was BFloat16 floating-point." -/
def occFpBf16Scale2OpsSpec (b : Obs) : Bool := b.own .fpBf16Scale2OpsSpec && !occFpFixedOpsSpec b && !occFpScaleOpsSpec b

/-- R622 FP_SP_SCALE2_OPS_SPEC (0x80D4): "The counter increments by v for each speculatively executed scalable tile arithmetic
operation, due to an instruction where the largest type was single-precision floating-point." -/
def occFpSpScale2OpsSpec (b : Obs) : Bool := b.own .fpSpScale2OpsSpec && !occFpFixedOpsSpec b && !occFpScaleOpsSpec b

/-- R623 FP_DP_SCALE2_OPS_SPEC (0x80D6): "The counter increments by v for each speculatively executed scalable tile arithmetic
operation, due to an instruction where the largest type was double-precision floating-point." -/
def occFpDpScale2OpsSpec (b : Obs) : Bool := b.own .fpDpScale2OpsSpec && !occFpFixedOpsSpec b && !occFpScaleOpsSpec b

/-- R624 INT_SCALE2_OPS_SPEC (0x80D8): "The counter increments by v for each speculatively executed scalable tile arithmetic
operation, due to an instruction where the type was integer." -/
def occIntScale2OpsSpec (b : Obs) : Bool :=
  b.own .intScale2OpsSpec
    && !occFpFixedOpsSpec b
    && !occFpScaleOpsSpec b
    && !occIntFixedOpsSpec b
    && !occIntScaleOpsSpec b

/-- R625 LDST_SCALE_BYTES_SPEC (0x80DA): "The counter counts each byte speculatively read or written due to any of:" -/
def occLdstScaleBytesSpec (b : Obs) : Bool :=
  b.own .ldstScaleBytesSpec
    && b.is .scalableVectorLoadStore
    && b.never .loadAndReplicate

/-- R626 LDST_FIXED_BYTES_SPEC (0x80DB): "The counter counts each byte speculatively read or written due to any of:" -/
def occLdstFixedBytesSpec (b : Obs) : Bool :=
  b.own .ldstFixedBytesSpec
    && (b.never .scalableVectorLoadStore || b.is .loadAndReplicate)

/-- R627 LD_SCALE_BYTES_SPEC (0x80DC): "The counter counts each speculatively read byte due to any of:" -/
def occLdScaleBytesSpec (b : Obs) : Bool :=
  b.own .ldScaleBytesSpec
    && b.is .scalableVectorLoadStore
    && b.never .loadAndReplicate

end Sys2Proof.Machine
end

