-- ==== Sys2Proof/Machine/Occ4.lean ====
section
/-!
DEFINITION. `Occ(E)` (40_common_event_rules.md R120, R122) of the events, part 4 of 8: which occurrences a counter sees as
occurrences of E. Each definition conjoins the clauses of the event's own rule; a parent ("counted by X") stands before its
children, so the parts follow that order and not the order of the numbers.
-/

namespace Sys2Proof.Machine

/-- R628 LD_FIXED_BYTES_SPEC (0x80DD): "The counter counts each speculatively read byte counted by LDST_FIXED_BYTES_SPEC." -/
def occLdFixedBytesSpec (b : Obs) : Bool := occLdstFixedBytesSpec b && b.own .ldFixedBytesSpec

/-- R629 ST_SCALE_BYTES_SPEC (0x80DE): "The counter counts each speculatively written byte due to any of:" -/
def occStScaleBytesSpec (b : Obs) : Bool :=
  b.own .stScaleBytesSpec
    && b.is .scalableVectorLoadStore
    && b.never .loadAndReplicate

/-- R630 ST_FIXED_BYTES_SPEC (0x80DF): "The counter counts each speculatively written byte counted by LDST_FIXED_BYTES_SPEC." -/
def occStFixedBytesSpec (b : Obs) : Bool := occLdstFixedBytesSpec b && b.own .stFixedBytesSpec

/-- R633 ASE_SVE_INT8_SPEC (0x80E3): "The counter counts each operation counted by ASE_SVE_INT_SPEC where the largest type is 8-bit
integer." -/
def occAseSveInt8Spec (b : Obs) : Bool := occAseSveIntSpec b && b.own .aseSveInt8Spec

/-- R631 ASE_INT8_SPEC (0x80E1): "The counter counts each operation counted by ASE_SVE_INT8_SPEC that is an Advanced SIMD
operation." -/
def occAseInt8Spec (b : Obs) : Bool :=
  occAseSveInt8Spec b
    && occSeIntSpec b
    && b.own .aseInt8Spec
    && b.aarch32In 156 .seInt8Spec

/-- R632 SVE_INT8_SPEC (0x80E2): "The counter counts each operation counted by ASE_SVE_INT8_SPEC that is an SVE operation." -/
def occSveInt8Spec (b : Obs) : Bool :=
  occAseSveInt8Spec b
    && occSeIntSpec b
    && b.own .sveInt8Spec
    && b.aarch32In 156 .seInt8Spec

/-- R636 ASE_SVE_INT16_SPEC (0x80E7): "The counter counts each operation counted by ASE_SVE_INT_SPEC where the largest type is
16-bit integer." -/
def occAseSveInt16Spec (b : Obs) : Bool := occAseSveIntSpec b && b.own .aseSveInt16Spec

/-- R634 ASE_INT16_SPEC (0x80E5): "The counter counts each operation counted by ASE_SVE_INT16_SPEC that is an Advanced SIMD
operation." -/
def occAseInt16Spec (b : Obs) : Bool :=
  occAseSveInt16Spec b
    && occSeIntSpec b
    && b.own .aseInt16Spec
    && b.aarch32In 157 .seInt16Spec

/-- R635 SVE_INT16_SPEC (0x80E6): "The counter counts each operation counted by ASE_SVE_INT16_SPEC that is an SVE operation." -/
def occSveInt16Spec (b : Obs) : Bool :=
  occAseSveInt16Spec b
    && occSeIntSpec b
    && b.own .sveInt16Spec
    && b.aarch32In 157 .seInt16Spec

/-- R637 FP_BF16_SCALE_OPS_SPEC (0x80E8): "The counter increments by v for each speculatively executed scalable element arithmetic
operation, due to an instruction where the largest type was BFloat16 floating-point." -/
def occFpBf16ScaleOpsSpec (b : Obs) : Bool := b.own .fpBf16ScaleOpsSpec && !occFpFixedOpsSpec b && !occFpScale2OpsSpec b

/-- R640 ASE_SVE_INT32_SPEC (0x80EB): "The counter counts each operation counted by ASE_SVE_INT_SPEC where the largest type is
32-bit integer." -/
def occAseSveInt32Spec (b : Obs) : Bool := occAseSveIntSpec b && b.own .aseSveInt32Spec

/-- R638 ASE_INT32_SPEC (0x80E9): "The counter counts each operation counted by ASE_SVE_INT32_SPEC that is an Advanced SIMD
operation." -/
def occAseInt32Spec (b : Obs) : Bool :=
  occAseSveInt32Spec b
    && occSeIntSpec b
    && b.own .aseInt32Spec
    && b.aarch32In 159 .seInt32Spec

/-- R639 SVE_INT32_SPEC (0x80EA): "The counter counts each operation counted by ASE_SVE_INT32_SPEC that is an SVE operation." -/
def occSveInt32Spec (b : Obs) : Bool :=
  occAseSveInt32Spec b
    && occSeIntSpec b
    && b.own .sveInt32Spec
    && b.aarch32In 159 .seInt32Spec

/-- R643 ASE_SVE_INT64_SPEC (0x80EF): "The counter counts each operation counted by ASE_SVE_INT_SPEC where the largest type is
64-bit integer." -/
def occAseSveInt64Spec (b : Obs) : Bool := occAseSveIntSpec b && b.own .aseSveInt64Spec

/-- R641 ASE_INT64_SPEC (0x80ED): "The counter counts each operation counted by ASE_SVE_INT64_SPEC that is an Advanced SIMD
operation." -/
def occAseInt64Spec (b : Obs) : Bool :=
  occAseSveInt64Spec b
    && occSeIntSpec b
    && b.own .aseInt64Spec
    && b.aarch32In 161 .seInt64Spec

/-- R642 SVE_INT64_SPEC (0x80EE): "The counter counts each operation counted by ASE_SVE_INT64_SPEC that is an SVE operation." -/
def occSveInt64Spec (b : Obs) : Bool :=
  occAseSveInt64Spec b
    && occSeIntSpec b
    && b.own .sveInt64Spec
    && b.aarch32In 161 .seInt64Spec

/-- R646 ASE_SVE_FP_DOT_SPEC (0x80F3): "The counter counts each dot-product operation counted by FP_SPEC due to any of the following
A64 instructions:" -/
def occAseSveFpDotSpec (b : Obs) : Bool :=
  occFpSpec b
    && b.own .aseSveFpDotSpec
    && (if b.aarch32 then b.inSet 132 .aseSveFpDotSpec b.occ.opClass
      else b.oneOf [.sveBfdot, .sve2Fdot]
        || (b.has .bf16 && b.oneOf [.aseBfdot])
        || (b.has .fp8dot2 && b.oneOf [.aseFdot2WayByElement, .aseFdot2WayVector])
        || (b.has .fp8dot4 && b.oneOf [.aseFdot4WayByElement, .aseFdot4WayVector]))

/-- R644 ASE_FP_DOT_SPEC (0x80F1): "The counter counts each dot-product operation counted by ASE_SVE_FP_DOT_SPEC due to any of the
following A64 instructions:" -/
def occAseFpDotSpec (b : Obs) : Bool :=
  occAseSveFpDotSpec b
    && occSeFpSpec b
    && b.own .aseFpDotSpec
    && (if b.aarch32 then b.inSet 132 .aseFpDotSpec b.occ.opClass
      else (b.has .bf16 && b.oneOf [.aseBfdot])
        || (b.has .fp8dot2 && b.oneOf [.aseFdot2WayByElement, .aseFdot2WayVector])
        || (b.has .fp8dot4 && b.oneOf [.aseFdot4WayByElement, .aseFdot4WayVector]))

/-- R645 SVE_FP_DOT_SPEC (0x80F2): "The counter counts each dot-product operation counted by ASE_SVE_FP_DOT_SPEC due to any of the
following instructions:" -/
def occSveFpDotSpec (b : Obs) : Bool :=
  occAseSveFpDotSpec b
    && occSeFpSpec b
    && b.own .sveFpDotSpec
    && (b.oneOf [.sveBfdot, .sve2Fdot])

/-- R649 ASE_SVE_FP_MMLA_SPEC (0x80F7): "The counter counts each floating-point matrix multiply operation counted by FP_SPEC due to
any of the following A64 instructions:" -/
def occAseSveFpMmlaSpec (b : Obs) : Bool :=
  occFpSpec b
    && b.own .aseSveFpMmlaSpec
    && (if b.aarch32 then b.inSet 133 .aseSveFpMmlaSpec b.occ.opClass
      else b.oneOf [.sveBfmmlaWidening, .sveFmmlaNonWidening, .sve2Fmmla]
        || (b.has .bf16 && b.oneOf [.aseBfmmla])
        || (b.has .f8f16mm && b.oneOf [.aseFmmla8BitFloatingPointToHalfPrecision, .aseFmmla8BitFloatingPointToSinglePrecision]))

/-- R647 ASE_FP_MMLA_SPEC (0x80F5): "The counter counts each floating-point matrix multiply operation counted by
ASE_SVE_FP_MMLA_SPEC due to any of the following A64 instructions:" -/
def occAseFpMmlaSpec (b : Obs) : Bool :=
  occAseSveFpMmlaSpec b
    && b.own .aseFpMmlaSpec
    && (if b.aarch32 then b.inSet 133 .aseFpMmlaSpec b.occ.opClass
      else (b.has .bf16 && b.oneOf [.aseBfmmla])
        || (b.has .f8f16mm && b.oneOf [.aseFmmla8BitFloatingPointToHalfPrecision, .aseFmmla8BitFloatingPointToSinglePrecision]))

/-- R648 SVE_FP_MMLA_SPEC (0x80F6): "The counter counts each floating-point matrix multiply operation counted by
ASE_SVE_FP_MMLA_SPEC due to any of the following instructions:" -/
def occSveFpMmlaSpec (b : Obs) : Bool :=
  occAseSveFpMmlaSpec b
    && b.own .sveFpMmlaSpec
    && (b.oneOf [.sveBfmmlaWidening, .sveFmmlaNonWidening, .sve2Fmmla])

/-- R652 ASE_SVE_INT_DOT_SPEC (0x80FB): "The counter counts each integer dot product operation counted by INT_SPEC due to any of the
following A64 instructions:" -/
def occAseSveIntDotSpec (b : Obs) : Bool :=
  occIntSpec b
    && b.own .aseSveIntDotSpec
    && (if b.aarch32 then b.inSet 134 .aseSveIntDotSpec b.occ.opClass
      else b.oneOf [.sveSdot, .sveSudot, .sveUdot, .sveUsdot, .sve2Cdot, .sve2Sdot, .sve2Udot]
        || (b.has .dotprod && b.oneOf [.aseSdot, .aseUdot])
        || (b.has .i8mm && b.oneOf [.aseSudotByElement, .aseUsdot]))

/-- R650 ASE_INT_DOT_SPEC (0x80F9): "The counter counts each integer dot product operation counted by ASE_SVE_INT_DOT_SPEC due to
any of the following A64 instructions:" -/
def occAseIntDotSpec (b : Obs) : Bool :=
  occAseSveIntDotSpec b
    && occSeIntSpec b
    && b.own .aseIntDotSpec
    && (if b.aarch32 then b.inSet 134 .aseIntDotSpec b.occ.opClass
      else (b.has .dotprod && b.oneOf [.aseSdot, .aseUdot])
        || (b.has .i8mm && b.oneOf [.aseSudotByElement, .aseUsdot]))

/-- R651 SVE_INT_DOT_SPEC (0x80FA): "The counter counts each integer dot product operation counted by ASE_SVE_INT_DOT_SPEC due to
any of the following instructions:" -/
def occSveIntDotSpec (b : Obs) : Bool :=
  occAseSveIntDotSpec b
    && occSeIntSpec b
    && b.own .sveIntDotSpec
    && (b.oneOf [.sveSdot, .sveSudot, .sveUdot, .sveUsdot, .sve2Cdot, .sve2Sdot, .sve2Udot])

/-- R655 ASE_SVE_INT_MMLA_SPEC (0x80FF): "The counter counts each integer matrix multiply operation counted by INT_SPEC due to any
of the following A64 instructions:" -/
def occAseSveIntMmlaSpec (b : Obs) : Bool :=
  occIntSpec b
    && b.own .aseSveIntMmlaSpec
    && (if b.aarch32 then b.inSet 135 .aseSveIntMmlaSpec b.occ.opClass
      else b.oneOf [.sveSmmla, .sveUmmla, .sveUsmmla]
        || (b.has .i8mm && b.oneOf [.aseSmmlaVector, .aseUmmlaVector, .aseUsmmlaVector]))

/-- R653 ASE_INT_MMLA_SPEC (0x80FD): "The counter counts each integer matrix multiply operation counted by ASE_SVE_INT_MMLA_SPEC due
to any of the following A64 instructions:" -/
def occAseIntMmlaSpec (b : Obs) : Bool :=
  occAseSveIntMmlaSpec b
    && b.own .aseIntMmlaSpec
    && (if b.aarch32 then b.inSet 135 .aseIntMmlaSpec b.occ.opClass
      else (b.has .i8mm && b.oneOf [.aseSmmlaVector, .aseUmmlaVector, .aseUsmmlaVector]))

/-- R654 SVE_INT_MMLA_SPEC (0x80FE): "The counter counts each integer matrix multiply operation counted by ASE_SVE_INT_MMLA_SPEC due
to any of the following instructions:" -/
def occSveIntMmlaSpec (b : Obs) : Bool :=
  occAseSveIntMmlaSpec b
    && b.own .sveIntMmlaSpec
    && (b.oneOf [.sveSmmla, .sveUmmla, .sveUsmmla])

/-- R668 BR_PRED_RETIRED (0x811C): "The counter counts each instruction counted by BR_RETIRED that is not counted by
BR_MIS_PRED_RETIRED." -/
def occBrPredRetired (b : Obs) : Bool := occBrRetired b && !occBrMisPredRetired b

/-- R656 BR_IMMED_PRED_RETIRED (0x8110): "The counter counts each instruction counted by both BR_IMMED_RETIRED and BR_PRED_RETIRED." -/
def occBrImmedPredRetired (b : Obs) : Bool := occBrImmedRetired b && occBrPredRetired b

/-- R657 BR_IMMED_MIS_PRED_RETIRED (0x8111): "The counter counts each instruction counted by both BR_IMMED_RETIRED and
BR_MIS_PRED_RETIRED." -/
def occBrImmedMisPredRetired (b : Obs) : Bool := occBrImmedRetired b && occBrMisPredRetired b

/-- R658 BR_IND_PRED_RETIRED (0x8112): "The counter counts each instruction counted by both BR_IND_RETIRED and BR_PRED_RETIRED." -/
def occBrIndPredRetired (b : Obs) : Bool := occBrIndRetired b && occBrPredRetired b

/-- R659 BR_IND_MIS_PRED_RETIRED (0x8113): "The counter counts each instruction counted by both BR_IND_RETIRED and
BR_MIS_PRED_RETIRED." -/
def occBrIndMisPredRetired (b : Obs) : Bool := occBrIndRetired b && occBrMisPredRetired b

/-- R660 BR_RETURN_PRED_RETIRED (0x8114): "The counter counts each instruction counted by BR_IND_PRED_RETIRED where if taken, the
branch would be counted by BR_RETURN_RETIRED." -/
def occBrReturnPredRetired (b : Obs) : Bool := occBrIndPredRetired b && b.own .brReturnPredRetired && b.procedureReturn

/-- R661 BR_RETURN_MIS_PRED_RETIRED (0x8115): "The counter counts each instruction counted by BR_IND_MIS_PRED_RETIRED where if
taken, the branch would also be counted by BR_RETURN_RETIRED." -/
def occBrReturnMisPredRetired (b : Obs) : Bool :=
  occBrIndMisPredRetired b
    && b.own .brReturnMisPredRetired
    && b.procedureReturn

/-- R662 BR_INDNR_PRED_RETIRED (0x8116): "The counter counts each instruction counted by BR_IND_PRED_RETIRED where if taken, the
branch would not be counted by BR_RETURN_RETIRED." -/
def occBrIndnrPredRetired (b : Obs) : Bool := occBrIndPredRetired b && b.own .brIndnrPredRetired && !b.procedureReturn

/-- R663 BR_INDNR_MIS_PRED_RETIRED (0x8117): "The counter counts each instruction counted by BR_IND_MIS_PRED_RETIRED where if taken,
the branch would not be counted by BR_RETURN_RETIRED." -/
def occBrIndnrMisPredRetired (b : Obs) : Bool :=
  occBrIndMisPredRetired b
    && b.own .brIndnrMisPredRetired
    && !b.procedureReturn

/-- R664 BR_TAKEN_PRED_RETIRED (0x8118): "The counter counts each instruction counted by both BR_PRED_RETIRED and PC_WRITE_RETIRED." -/
def occBrTakenPredRetired (b : Obs) : Bool := occBrPredRetired b && occPcWriteRetired b

/-- R665 BR_TAKEN_MIS_PRED_RETIRED (0x8119): "The counter counts each instruction counted by both BR_MIS_PRED_RETIRED and
PC_WRITE_RETIRED." -/
def occBrTakenMisPredRetired (b : Obs) : Bool := occBrMisPredRetired b && occPcWriteRetired b

/-- R666 BR_SKIP_PRED_RETIRED (0x811A): "The counter counts each instruction counted by both BR_PRED_RETIRED and BR_SKIP_RETIRED." -/
def occBrSkipPredRetired (b : Obs) : Bool := occBrPredRetired b && occBrSkipRetired b

/-- R667 BR_SKIP_MIS_PRED_RETIRED (0x811B): "The counter counts each instruction counted by both BR_MIS_PRED_RETIRED and
BR_SKIP_RETIRED." -/
def occBrSkipMisPredRetired (b : Obs) : Bool := occBrMisPredRetired b && occBrSkipRetired b

/-- R669 INST_FETCH_PERCYC (0x8120): "The counter increments by the number of instruction fetches counted by INST_FETCH in progress
on each Processor cycle." -/
def occInstFetchPercyc (b : Obs) : Bool := b.processorCycle

/-- R670 MEM_ACCESS_RD_PERCYC (0x8121): "The counter increments by the number of data memory reads counted by MEM_ACCESS_RD in
progress on each Processor cycle." -/
def occMemAccessRdPercyc (b : Obs) : Bool := b.processorCycle

/-- R671 SAMPLE_FEED_DS (0x8122): "The counter counts each SPE sample that is a load operations where PMSDSFR_EL1[ S ] is 1 and S is
bits [5:0] of the sampled Data Source." -/
def occSampleFeedDs (b : Obs) : Bool := b.own .sampleFeedDs

/-- R672 SAMPLE_BUFFER_FULL (0x8123): "The counter counts each Profiling Buffer full management event." -/
def occSampleBufferFull (b : Obs) : Bool := b.own .sampleBufferFull

/-- R673 INST_FETCH (0x8124): "The counter counts each Instruction memory access." -/
def occInstFetch (b : Obs) : Bool :=
  b.own .instFetch
    && b.never .dataAccess
    && b.never .translationTableWalk
    && b.never .refillAccess
    && b.never .cacheMaintenance

/-- R674 BUS_REQ_RD_PERCYC (0x8125): "The counter increments by the number of bus read transactions counted by BUS_REQ_RD in
progress on each Processor cycle." -/
def occBusReqRdPercyc (b : Obs) : Bool := b.processorCycle

/-- R675 BUS_REQ_WR_PERCYC (0x8126): "The counter increments by the number of bus write transactions counted by BUS_REQ_WR in
progress on each Processor cycle." -/
def occBusReqWrPercyc (b : Obs) : Bool := b.processorCycle

/-- R676 PMU_SNAPSHOT (0x8127): "The counter counts each PMU snapshot Capture event that was successful, that is, PMSSCR_EL1.NC is
set to 0." -/
def occPmuSnapshot (b : Obs) : Bool := b.own .pmuSnapshot && b.never .captureFailed && (!b.occ.ctx.debug || b.draw 136)

/-- R677 DTLB_WALK_PERCYC (0x8128): "The counter increments by the number of data translation table walks counted by DTLB_WALK in
progress on each Processor cycle." -/
def occDtlbWalkPercyc (b : Obs) : Bool := b.processorCycle

/-- R678 ITLB_WALK_PERCYC (0x8129): "The counter increments by the number of instruction translation table walks counted by
ITLB_WALK in progress on each Processor cycle." -/
def occItlbWalkPercyc (b : Obs) : Bool := b.processorCycle

/-- R679 SAMPLE_FEED_BR (0x812A): "The counter counts each sample counted by SAMPLE_FEED that is a branch operation." -/
def occSampleFeedBr (b : Obs) : Bool := occSampleFeed b && b.own .sampleFeedBr

/-- R680 SAMPLE_FEED_LD (0x812B): "The counter counts each sample counted by SAMPLE_FEED that is a load or load atomic operation." -/
def occSampleFeedLd (b : Obs) : Bool := occSampleFeed b && b.own .sampleFeedLd

/-- R681 SAMPLE_FEED_ST (0x812C): "The counter counts each sample counted by SAMPLE_FEED that is a store or atomic operation,
including load atomic operations." -/
def occSampleFeedSt (b : Obs) : Bool := occSampleFeed b && b.own .sampleFeedSt

/-- R682 SAMPLE_FEED_OP (0x812D): "The counter counts each sample counted by SAMPLE_FEED that meets the sample type filter
constraints." -/
def occSampleFeedOp (b : Obs) : Bool := occSampleFeed b && b.own .sampleFeedOp && b.never .typeFilterZero

/-- R683 SAMPLE_FEED_EVENT (0x812E): "The counter counts each sample counted by SAMPLE_FEED that meets the Events packet filter
constraints." -/
def occSampleFeedEvent (b : Obs) : Bool := occSampleFeed b && b.own .sampleFeedEvent

/-- R684 SAMPLE_FEED_LAT (0x812F): "The counter counts each sample counted by SAMPLE_FEED that meets the sample latency filter
constraints." -/
def occSampleFeedLat (b : Obs) : Bool := occSampleFeed b && b.own .sampleFeedLat

/-- R686 L1I_TLB_RD (0x8131): "The counter counts each access counted by L1I_TLB that is due to a demand Instruction memory access." -/
def occL1iTlbRd (b : Obs) : Bool := occL1iTlb b && b.own .l1iTlbRd

/-- R1073 L1D_TLB_PRF (0x82FC): "The counter counts each access counted by L1D_TLB that is due to a prefetch instruction, or
hardware prefetch." -/
def occL1dTlbPrf (b : Obs) : Bool :=
  occL1dTlb b
    && b.own .l1dTlbPrf
    && b.never .faultEpd
    && !(b.has .e0pd && b.is .faultE0pd)
    && !(b.has .sve && b.is .faultNfd)
    && b.gated .faultOther (b.choice 59 .l1dTlbPrf)

/-- R687 L1D_TLB_PRFM (0x8132): "The counter counts each access counted by L1D_TLB_PRF that is due to a prefetch instruction." -/
def occL1dTlbPrfm (b : Obs) : Bool := occL1dTlbPrf b && b.own .l1dTlbPrfm

/-- R1074 L1I_TLB_PRF (0x82FD): "The counter counts each access counted by L1I_TLB that is due to a prefetch instruction, or
hardware prefetch." -/
def occL1iTlbPrf (b : Obs) : Bool :=
  occL1iTlb b
    && b.own .l1iTlbPrf
    && b.never .faultEpd
    && !(b.has .e0pd && b.is .faultE0pd)
    && b.gated .faultOther (b.choice 59 .l1iTlbPrf)

/-- R688 L1I_TLB_PRFM (0x8133): "The counter counts each access counted by L1I_TLB_PRF that is due to a prefetch instruction." -/
def occL1iTlbPrfm (b : Obs) : Bool := occL1iTlbPrf b && b.own .l1iTlbPrfm

/-- R689 DTLB_HWUPD (0x8134): "The counter counts each access counted by L1D_TLB that causes a hardware update of a translation
table entry." -/
def occDtlbHwupd (b : Obs) : Bool :=
  occL1dTlb b
    && b.own .dtlbHwupd
    && b.never .faultEpd
    && b.never .faultE0pd
    && !(b.has .sve && b.is .faultNfd)
    && b.gated .faultOther (b.choice 59 .dtlbHwupd)

/-- R690 ITLB_HWUPD (0x8135): "The counter counts each access counted by L1I_TLB that causes a hardware update of a translation
table entry." -/
def occItlbHwupd (b : Obs) : Bool :=
  occL1iTlb b
    && b.own .itlbHwupd
    && b.never .faultEpd
    && b.never .faultE0pd
    && b.gated .faultOther (b.choice 59 .itlbHwupd)

/-- R691 DTLB_STEP (0x8136): "The counter counts each translation table walk access due to a refill of the data or unified TLB." -/
def occDtlbStep (b : Obs) : Bool :=
  b.own .dtlbStep
    && b.never .faultEpd
    && b.never .faultE0pd
    && !(b.has .sve && b.is .faultNfd)
    && b.gated .faultOther (b.choice 137 .dtlbStep)

/-- R692 ITLB_STEP (0x8137): "The counter counts each translation table walk access due to a refill of the instruction TLB." -/
def occItlbStep (b : Obs) : Bool :=
  b.own .itlbStep
    && b.never .faultEpd
    && b.never .faultE0pd
    && b.gated .faultOther (b.choice 137 .itlbStep)

/-- R693 DTLB_WALK_LARGE (0x8138): "The counter counts each translation table walk counted by DTLB_WALK where the result of the walk
yields a large page size." -/
def occDtlbWalkLarge (b : Obs) : Bool :=
  occDtlbWalk b
    && b.inSet 138 .dtlbWalkLarge b.occ.pageSize
    && b.never .faultEpd
    && b.never .faultE0pd
    && b.never .faultNfd
    && b.never .faultOther

/-- R694 ITLB_WALK_LARGE (0x8139): "The counter counts each translation table walk counted by ITLB_WALK where the result of the walk
yields a large page size." -/
def occItlbWalkLarge (b : Obs) : Bool :=
  occItlbWalk b
    && b.inSet 138 .itlbWalkLarge b.occ.pageSize
    && b.never .faultEpd
    && b.never .faultE0pd
    && b.never .faultNfd
    && b.never .faultOther

/-- R695 DTLB_WALK_SMALL (0x813A): "The counter counts each translation table walk counted by DTLB_WALK where the result of the walk
yields a small page size." -/
def occDtlbWalkSmall (b : Obs) : Bool :=
  occDtlbWalk b
    && !b.inSet 138 .dtlbWalkLarge b.occ.pageSize
    && b.never .faultEpd
    && b.never .faultE0pd
    && b.never .faultNfd
    && b.never .faultOther

/-- R696 ITLB_WALK_SMALL (0x813B): "The counter counts each translation table walk counted by ITLB_WALK where the result of the walk
yields a small page size." -/
def occItlbWalkSmall (b : Obs) : Bool :=
  occItlbWalk b
    && !b.inSet 138 .itlbWalkLarge b.occ.pageSize
    && b.never .faultEpd
    && b.never .faultE0pd
    && b.never .faultNfd
    && b.never .faultOther

/-- R697 DTLB_WALK_RW (0x813C): "The counter counts each demand access counted by L1D_TLB_RW that causes a refill or update of a
data or unified TLB involving at least one translation table walk access." -/
def occDtlbWalkRw (b : Obs) : Bool :=
  occL1dTlbRw b
    && b.own .dtlbWalkRw
    && b.never .tlbMaintenance
    && b.never .faultEpd
    && !(b.has .e0pd && b.is .faultE0pd)
    && !(b.has .sve && b.is .faultNfd)
    && b.gated .faultOther (b.choice 139 .dtlbWalkRw)

/-- R698 ITLB_WALK_RD (0x813D): "The counter counts each demand access counted by L1I_TLB_RD that causes a refill or update of an
instruction TLB involving at least one translation table walk access." -/
def occItlbWalkRd (b : Obs) : Bool :=
  occL1iTlbRd b
    && b.own .itlbWalkRd
    && b.never .tlbMaintenance
    && b.never .faultEpd
    && !(b.has .e0pd && b.is .faultE0pd)
    && b.gated .faultOther (b.choice 139 .itlbWalkRd)

/-- R699 DTLB_WALK_PRFM (0x813E): "The counter counts each software prefetch access counted by L1D_TLB_PRFM that causes a refill or
update of a data or unified TLB involving at least one translation table walk access." -/
def occDtlbWalkPrfm (b : Obs) : Bool :=
  occL1dTlbPrfm b
    && b.own .dtlbWalkPrfm
    && b.never .tlbMaintenance
    && b.never .faultEpd
    && !(b.has .e0pd && b.is .faultE0pd)
    && !(b.has .sve && b.is .faultNfd)
    && b.gated .faultOther (b.choice 140 .dtlbWalkPrfm)

/-- R700 ITLB_WALK_PRFM (0x813F): "The counter counts each software prefetch access counted by L1I_TLB_PRFM that causes a refill or
update of an instruction TLB involving at least one translation table walk access." -/
def occItlbWalkPrfm (b : Obs) : Bool :=
  occL1iTlbPrfm b
    && b.own .itlbWalkPrfm
    && b.never .tlbMaintenance
    && b.never .faultEpd
    && !(b.has .e0pd && b.is .faultE0pd)
    && b.gated .faultOther (b.choice 140 .itlbWalkPrfm)

/-- R978 L1D_CACHE_PRF (0x8284): "The counter counts each access counted by L1D_CACHE that is due to a prefetch instruction, or
hardware prefetch." -/
def occL1dCachePrf (b : Obs) : Bool := occL1dCache b && b.own .l1dCachePrf

/-- R703 L1D_CACHE_PRFM (0x8142): "The counter counts each access counted by L1D_CACHE_PRF that is due to a prefetch instruction." -/
def occL1dCachePrfm (b : Obs) : Bool := occL1dCachePrf b && b.own .l1dCachePrfm

/-- R976 L1I_CACHE_PRF (0x8280): "The counter counts each access counted by L1I_CACHE that is due to a prefetch instruction, or
hardware prefetch." -/
def occL1iCachePrf (b : Obs) : Bool := occL1iCache b && b.own .l1iCachePrf

/-- R704 L1I_CACHE_PRFM (0x8143): "The counter counts each access counted by L1I_CACHE_PRF that is due to a prefetch instruction." -/
def occL1iCachePrfm (b : Obs) : Bool := occL1iCachePrf b && b.own .l1iCachePrfm

/-- R705 L1D_CACHE_MISS (0x8144): "The counter counts each demand access counted by L1D_CACHE_RW that misses in the Level 1 data or
unified cache, causing an access to outside of the Level 1 caches of this PE." -/
def occL1dCacheMiss (b : Obs) : Bool := occL1dCacheRw b && b.own .l1dCacheMiss

/-- R706 L1I_CACHE_HWPRF (0x8145): "The counter counts each access counted by L1I_CACHE_PRF that is due to a hardware prefetch." -/
def occL1iCacheHwprf (b : Obs) : Bool := occL1iCachePrf b && b.own .l1iCacheHwprf && b.never .peInstructionPrefetch

/-- R707 L1D_CACHE_REFILL_PRFM (0x8146): "The counter counts each access counted by L1D_CACHE_PRFM that causes a refill of the Level
1 data or unified cache from outside of the Level 1 data or unified cache." -/
def occL1dCacheRefillPrfm (b : Obs) : Bool := occL1dCachePrfm b && b.own .l1dCacheRefillPrfm

/-- R708 L1I_CACHE_REFILL_PRFM (0x8147): "The counter counts each access counted by L1I_CACHE_PRFM that causes a refill of the Level
1 instruction or unified cache from outside of the Level 1 instruction or unified cache." -/
def occL1iCacheRefillPrfm (b : Obs) : Bool := occL1iCachePrfm b && b.own .l1iCacheRefillPrfm

/-- R979 L2D_CACHE_PRF (0x8285): "The counter counts each access counted by L2D_CACHE that is due to a prefetch instruction, or
hardware prefetch." -/
def occL2dCachePrf (b : Obs) : Bool := occL2dCache b && b.own .l2dCachePrf

/-- R711 L2D_CACHE_PRFM (0x814A): "The counter counts each access counted by L2D_CACHE_PRF that is due to a prefetch instruction." -/
def occL2dCachePrfm (b : Obs) : Bool := occL2dCachePrf b && b.own .l2dCachePrfm

/-- R977 L2I_CACHE_PRF (0x8281): "The counter counts each access counted by L2I_CACHE that is due to a prefetch instruction, or
hardware prefetch." -/
def occL2iCachePrf (b : Obs) : Bool := occL2iCache b && b.own .l2iCachePrf

/-- R712 L2I_CACHE_PRFM (0x814B): "The counter counts each access counted by L2I_CACHE_PRF that is due to a prefetch instruction." -/
def occL2iCachePrfm (b : Obs) : Bool := occL2iCachePrf b && b.own .l2iCachePrfm

/-- R713 L2D_CACHE_MISS (0x814C): "The counter counts each demand access counted by L2D_CACHE_RW that misses in the Level 1 and
Level 2 data or unified caches, causing an access to outside of the Level 1 and Level 2 caches of this PE." -/
def occL2dCacheMiss (b : Obs) : Bool := occL2dCacheRw b && b.own .l2dCacheMiss

/-- R714 L2I_CACHE_HWPRF (0x814D): "The counter counts each access counted by L2I_CACHE_PRF that is due to a hardware prefetch." -/
def occL2iCacheHwprf (b : Obs) : Bool := occL2iCachePrf b && b.own .l2iCacheHwprf

/-- R715 L2D_CACHE_REFILL_PRFM (0x814E): "The counter counts each access counted by L2D_CACHE_PRFM that causes a refill of the Level
2 data or unified cache, or any Level 1 data, instruction, or unified cache of this PE, from outside of those caches." -/
def occL2dCacheRefillPrfm (b : Obs) : Bool := occL2dCachePrfm b && b.own .l2dCacheRefillPrfm

/-- R716 L2I_CACHE_REFILL_PRFM (0x814F): "The counter counts each access counted by L2I_CACHE_PRFM that causes a refill of the Level
2 instruction or unified cache, or any Level 1 data, instruction, or unified cache of this PE, from outside of those caches." -/
def occL2iCacheRefillPrfm (b : Obs) : Bool := occL2iCachePrfm b && b.own .l2iCacheRefillPrfm

/-- R980 L3D_CACHE_PRF (0x8286): "The counter counts each access counted by L3D_CACHE that is due to a prefetch instruction, or
hardware prefetch." -/
def occL3dCachePrf (b : Obs) : Bool := occL3dCache b && b.own .l3dCachePrf

/-- R718 L3D_CACHE_PRFM (0x8151): "The counter counts each access counted by L3D_CACHE_PRF that is due to a prefetch instruction." -/
def occL3dCachePrfm (b : Obs) : Bool := occL3dCachePrf b && b.own .l3dCachePrfm

/-- R719 L3D_CACHE_MISS (0x8152): "The counter counts each demand access counted by L3D_CACHE_RW that misses in the Level 1 to Level
3 data or unified caches, causing an access to outside of the Level 1 to Level 3 caches of this PE." -/
def occL3dCacheMiss (b : Obs) : Bool := occL3dCacheRw b && b.own .l3dCacheMiss

/-- R720 L3D_CACHE_REFILL_PRFM (0x8153): "The counter counts each access counted by L3D_CACHE_PRFM that causes a refill of the Level
3 data or unified cache, or any Level 1 or Level 2 data, instruction, or unified cache of this PE, from outside of those
caches." -/
def occL3dCacheRefillPrfm (b : Obs) : Bool := occL3dCachePrfm b && b.own .l3dCacheRefillPrfm

/-- R721 L1D_CACHE_HWPRF (0x8154): "The counter counts each access counted by L1D_CACHE_PRF that is due to a hardware prefetch." -/
def occL1dCacheHwprf (b : Obs) : Bool := occL1dCachePrf b && b.own .l1dCacheHwprf

/-- R722 L2D_CACHE_HWPRF (0x8155): "The counter counts each access counted by L2D_CACHE_PRF that is due to a hardware prefetch." -/
def occL2dCacheHwprf (b : Obs) : Bool := occL2dCachePrf b && b.own .l2dCacheHwprf

/-- R723 L3D_CACHE_HWPRF (0x8156): "The counter counts each access counted by L3D_CACHE_PRF that is due to a hardware prefetch." -/
def occL3dCacheHwprf (b : Obs) : Bool := occL3dCachePrf b && b.own .l3dCacheHwprf

/-- R981 LL_CACHE_PRF (0x8287): "The counter counts each access counted by LL_CACHE that is due to a prefetch instruction, or
hardware prefetch." -/
def occLlCachePrf (b : Obs) : Bool := occLlCache b && b.own .llCachePrf

/-- R724 LL_CACHE_HWPRF (0x8157): "The counter counts each access counted by LL_CACHE_PRF that is due to a hardware prefetch." -/
def occLlCacheHwprf (b : Obs) : Bool := occLlCachePrf b && b.own .llCacheHwprf

/-- R725 STALL_FRONTEND_MEMBOUND (0x8158): "The counter counts each cycle counted by STALL_FRONTEND when no instructions are
delivered from the memory system." U141. -/
def occStallFrontendMembound (b : Obs) : Bool := occStallFrontend b && b.own .stallFrontendMembound

/-- R727 STALL_FRONTEND_L2I (0x815A): "The counter counts each cycle counted by STALL_FRONTEND_MEMBOUND when there is a demand
instruction miss in the second level of instruction or unified cache." -/
def occStallFrontendL2i (b : Obs) : Bool :=
  occStallFrontendMembound b
    && (b.own .stallFrontendL2i || b.is .instructionMissL2)
    && !b.missLast .stallFrontendMem .instructionMissLast .nonCacheableFetch

/-- R726 STALL_FRONTEND_L1I (0x8159): "The counter counts each cycle counted by STALL_FRONTEND_MEMBOUND when there is a demand
instruction miss in the first level of instruction cache." -/
def occStallFrontendL1i (b : Obs) : Bool :=
  occStallFrontendMembound b
    && b.own .stallFrontendL1i
    && !(b.implements .stallFrontendL2i && occStallFrontendL2i b)
    && !b.missLast .stallFrontendMem .instructionMissLast .nonCacheableFetch

/-- R728 STALL_FRONTEND_MEM (0x815B): "The counter counts each cycle counted by STALL_FRONTEND_MEMBOUND when there is a demand
instruction miss in the last level of instruction or unified cache within the PE clock domain or a non-cacheable instruction
fetch in progress." -/
def occStallFrontendMem (b : Obs) : Bool :=
  occStallFrontendMembound b
    && (b.own .stallFrontendMem || b.is .instructionMissLast || b.is .nonCacheableFetch)

/-- R729 STALL_FRONTEND_TLB (0x815C): "The counter counts each cycle counted by STALL_FRONTEND_MEMBOUND when there is a demand
instruction miss in the instruction or unified TLB." -/
def occStallFrontendTlb (b : Obs) : Bool := occStallFrontendMembound b && b.own .stallFrontendTlb

/-- R730 STALL_BACKEND_BUSY_SMCU (0x815D): "The counter counts each cycle counted by CPU_CYCLES when the backend is not able to
accept an operation because the SMCU is busy, for any reason." -/
def occStallBackendBusySmcu (b : Obs) : Bool := occCpuCycles b && b.own .stallBackendBusySmcu

/-- R731 STALL_BACKEND_BUSY_SMCU_UNALL (0x815E): "The counter counts each cycle counted by STALL_BACKEND_BUSY_SMCU when the backend
is stalled awaiting allocation of processing resources on an SMCU." -/
def occStallBackendBusySmcuUnall (b : Obs) : Bool := occStallBackendBusySmcu b && b.own .stallBackendBusySmcuUnall

/-- R732 STALL_FRONTEND_CPUBOUND (0x8160): "The counter counts each cycle counted by STALL_FRONTEND when the frontend is stalled on
a frontend processor resource, not including memory." U142. -/
def occStallFrontendCpubound (b : Obs) : Bool := occStallFrontend b && b.own .stallFrontendCpubound

/-- R733 STALL_FRONTEND_FLOW (0x8161): "The counter counts each cycle counted by STALL_FRONTEND_CPUBOUND when the frontend is
stalled on unavailability of prediction flow resources." -/
def occStallFrontendFlow (b : Obs) : Bool := occStallFrontendCpubound b && b.own .stallFrontendFlow

/-- R734 STALL_FRONTEND_FLUSH (0x8162): "The counter counts each cycle counted by STALL_FRONTEND_CPUBOUND when the frontend is
recovering from a pipeline flush." U143. -/
def occStallFrontendFlush (b : Obs) : Bool := occStallFrontendCpubound b && b.own .stallFrontendFlush

/-- R735 STALL_FRONTEND_RENAME (0x8163): "The counter counts each cycle counted by STALL_FRONTEND_CPUBOUND when operations are
available from the frontend but at least one is not ready to be sent to the backend because no rename register is available."
Zero where STALL_BACKEND_RENAME is implemented and counts such stalls (R744). That an operation which waits for a rename register is not
"available to dispatch" for STALL_FRONTEND (R293) in such a cycle is the model's choice: log 75. Log 46. -/
def occStallFrontendRename (b : Obs) : Bool :=
  occStallFrontendCpubound b
    && b.own .stallFrontendRename
    && !b.backendCountsRename

/-- R738 STALL_BACKEND_L2D (0x8166): "The counter counts each cycle counted by STALL_BACKEND_MEMBOUND when there is a demand data
miss in the second level of data or unified cache." -/
def occStallBackendL2d (b : Obs) : Bool :=
  occStallBackendMembound b
    && (b.own .stallBackendL2d || b.is .dataMissL2)
    && !b.missLast .stallBackendMem .dataMissLast .nonCacheableInProgress

/-- R737 STALL_BACKEND_L1D (0x8165): "The counter counts each cycle counted by STALL_BACKEND_MEMBOUND when there is a demand data
miss in the first level of data or unified cache." -/
def occStallBackendL1d (b : Obs) : Bool :=
  occStallBackendMembound b
    && b.own .stallBackendL1d
    && !(b.implements .stallBackendL2d && occStallBackendL2d b)
    && !b.missLast .stallBackendMem .dataMissLast .nonCacheableInProgress

/-- R739 STALL_BACKEND_TLB (0x8167): "The counter counts each cycle counted by STALL_BACKEND_MEMBOUND when there is a demand data
miss in the data or unified TLB." -/
def occStallBackendTlb (b : Obs) : Bool := occStallBackendMembound b && b.own .stallBackendTlb

/-- R740 STALL_BACKEND_ST (0x8168): "The counter counts each cycle counted by STALL_BACKEND_MEMBOUND when the backend is stalled
waiting for a store." -/
def occStallBackendSt (b : Obs) : Bool := occStallBackendMembound b && b.own .stallBackendSt

/-- R741 STALL_BACKEND_CPUBOUND (0x816A): "The counter counts each cycle counted by STALL_BACKEND when the backend is stalled on a
processor resource, not including memory." U145. -/
def occStallBackendCpubound (b : Obs) : Bool := occStallBackend b && b.own .stallBackendCpubound

/-- R742 STALL_BACKEND_BUSY (0x816B): "The counter counts each cycle counted by STALL_BACKEND when operations are available from the
frontend but the backend is not able to accept an operation because an execution unit is busy." -/
def occStallBackendBusy (b : Obs) : Bool := occStallBackend b && b.own .stallBackendBusy

/-- R743 STALL_BACKEND_ILOCK (0x816C): "The counter counts each cycle counted by STALL_BACKEND when operations are available from
the frontend but at least one is not ready to be sent to the backend because of an input dependency." -/
def occStallBackendIlock (b : Obs) : Bool := occStallBackend b && b.own .stallBackendIlock

/-- R744 STALL_BACKEND_RENAME (0x816D): "The counter counts each cycle counted by STALL_BACKEND_CPUBOUND when operations are
available from the frontend but at least one is not ready to be sent to the backend because no rename register is available."
Zero where STALL_FRONTEND_RENAME is implemented and counts such stalls (R735). That an operation which waits for a rename register is
"available to dispatch" for STALL_BACKEND (R294) in such a cycle: log 75. Log 46. -/
def occStallBackendRename (b : Obs) : Bool :=
  occStallBackendCpubound b
    && b.own .stallBackendRename
    && !b.frontendCountsRename

/-- R745 STALL_BACKEND_ATOMIC (0x816E): "The counter counts each cycle counted by STALL_BACKEND_MEMBOUND when the backend is
processing an Atomic operation." -/
def occStallBackendAtomic (b : Obs) : Bool := occStallBackendMembound b && b.own .stallBackendAtomic

/-- R746 STALL_BACKEND_MEMCPYSET (0x816F): "The counter counts each cycle counted by STALL_BACKEND_MEMBOUND when the backend is
processing an Memory Copy or Set instruction." -/
def occStallBackendMemcpyset (b : Obs) : Bool := occStallBackendMembound b && b.own .stallBackendMemcpyset

/-- R751 CAS_SPEC (0x8174): "The counter counts each Compare and Swap operation." -/
def occCasSpec (b : Obs) : Bool := b.own .casSpec

/-- R749 CAS_NEAR_SPEC (0x8172): "The counter counts each Compare and Swap operation counted by CAS_SPEC that executes locally to
the PE." -/
def occCasNearSpec (b : Obs) : Bool := occCasSpec b && b.inSet 146 .casNearSpec b.occ.component

/-- R747 CAS_NEAR_FAIL (0x8170): "The counter counts each Compare and Swap operation counted by CAS_NEAR_SPEC that does not update
the location accessed." -/
def occCasNearFail (b : Obs) : Bool := occCasNearSpec b && !b.is .locationUpdated

/-- R748 CAS_NEAR_PASS (0x8171): "The counter counts each Compare and Swap operation counted by CAS_NEAR_SPEC that updates the
location accessed." -/
def occCasNearPass (b : Obs) : Bool := occCasNearSpec b && b.is .locationUpdated

/-- R750 CAS_FAR_SPEC (0x8173): "The counter counts each Compare and Swap operation counted by CAS_SPEC that does not execute
locally to the PE." -/
def occCasFarSpec (b : Obs) : Bool := occCasSpec b && !b.inSet 146 .casNearSpec b.occ.component

/-- R754 LSE_LDST_SPEC (0x8177): "The counter counts each operation counted by LDST_SPEC that is an Atomic memory operation." -/
def occLseLdstSpec (b : Obs) : Bool := occLdstSpec b && b.own .lseLdstSpec

/-- R752 LSE_LD_SPEC (0x8175): "The counter counts each Atomic memory operation counted by LSE_LDST_SPEC that returns a value to the
PE, including Swap and Compare-and-Swap operations." -/
def occLseLdSpec (b : Obs) : Bool := occLseLdstSpec b && b.own .lseLdSpec

/-- R753 LSE_ST_SPEC (0x8176): "The counter counts each Atomic memory operation counted by LSE_LDST_SPEC that does not return a
value to the PE." -/
def occLseStSpec (b : Obs) : Bool := occLseLdstSpec b && b.own .lseStSpec

/-- R755 REMOTE_ACCESS_WR (0x8178): "The counter counts each access counted by REMOTE_ACCESS that is a Memory-write operation." -/
def occRemoteAccessWr (b : Obs) : Bool := occRemoteAccess b && b.own .remoteAccessWr

/-- R756 BR_HINT_COND_PRED_RETIRED (0x8184): "The counter counts each branch counted by both BR_HINT_COND_RETIRED and
BR_PRED_RETIRED." -/
def occBrHintCondPredRetired (b : Obs) : Bool := occBrHintCondRetired b && occBrPredRetired b

/-- R757 BR_HINT_COND_MIS_PRED_RETIRED (0x8185): "The counter counts each branch counted by both BR_HINT_COND_RETIRED and
BR_MIS_PRED_RETIRED." -/
def occBrHintCondMisPredRetired (b : Obs) : Bool := occBrHintCondRetired b && occBrMisPredRetired b

/-- R758 UOP_RETIRED (0x8186): "The counter counts each micro-operation that would be executed in a Simple sequential execution of
the program." -/
def occUopRetired (b : Obs) : Bool := b.own .uopRetired

/-- R759 DTLB_WALK_BLOCK (0x8188): "The counter counts each translation table walk counted by DTLB_WALK where the result of the walk
yields a Block." Of two stages both must be a Block, whatever the granule sizes. Log 57. -/
def occDtlbWalkBlock (b : Obs) : Bool :=
  occDtlbWalk b
    && (b.is .stage1Block || b.is .stage2Block)
    && b.never .stage1Page
    && b.never .stage2Page
    && b.never .faultEpd
    && b.never .faultE0pd
    && b.never .faultNfd
    && b.never .faultOther

/-- R760 ITLB_WALK_BLOCK (0x8189): "The counter counts each translation table walk counted by ITLB_WALK where the result of the walk
yields a Block." Conflict C5. Of two stages both must be a Block, whatever the granule sizes. Log 57. -/
def occItlbWalkBlock (b : Obs) : Bool :=
  occItlbWalk b
    && (b.is .stage1Block || b.is .stage2Block)
    && b.never .stage1Page
    && b.never .stage2Page
    && b.never .faultEpd
    && b.never .faultE0pd
    && b.never .faultNfd
    && b.never .faultOther

/-- R761 DTLB_WALK_PAGE (0x818A): "The counter counts each translation table walk counted by DTLB_WALK where the result of the walk
yields a Page." Conflict C6. Of two stages either may be a Page, whatever the granule sizes. Log 57. -/
def occDtlbWalkPage (b : Obs) : Bool :=
  occDtlbWalk b
    && (b.is .stage1Page || b.is .stage2Page)
    && b.never .faultEpd
    && b.never .faultE0pd
    && b.never .faultNfd
    && b.never .faultOther

/-- R762 ITLB_WALK_PAGE (0x818B): "The counter counts each translation table walk counted by ITLB_WALK where the result of the walk
yields a Page." Of two stages either may be a Page, whatever the granule sizes. Log 57. -/
def occItlbWalkPage (b : Obs) : Bool :=
  occItlbWalk b
    && (b.is .stage1Page || b.is .stage2Page)
    && b.never .faultEpd
    && b.never .faultE0pd
    && b.never .faultNfd
    && b.never .faultOther

/-- R765 BUS_REQ (0x818F): "The counter counts each request generated by a Memory-read operation or Memory-write operation that
accesses outside of the boundary of the PE and its closely-coupled caches." U47: the same choice as BUS_ACCESS; U45, U46, U48. -/
def occBusReq (b : Obs) : Bool := b.own .busReq && b.gated .noDataTransfer (b.choice 47 .busAccess)

/-- R763 BUS_REQ_RD (0x818D): "The counter counts each transaction counted by BUS_REQ that is a Memory-read operation." -/
def occBusReqRd (b : Obs) : Bool := occBusReq b && b.own .busReqRd

/-- R764 BUS_REQ_WR (0x818E): "The counter counts each transaction counted by BUS_REQ that is a Memory-write operation." -/
def occBusReqWr (b : Obs) : Bool := occBusReq b && b.own .busReqWr

/-- R766 ISNP_HIT_RD (0x8190): "The counter counts each snoop generated by the PE in response to a demand Instruction memory access
that hits in a cache outside of the cache hierarchy of this PE." -/
def occIsnpHitRd (b : Obs) : Bool := b.own .isnpHitRd && b.never .snoopedSide

/-- R767 ISNP_HIT_NEAR_RD (0x8191): "The counter counts each snoop generated by the PE in response to a demand Instruction memory
access counted by ISNP_HIT_RD that hits in a cache outside of the cache hierarchy of this PE in the local PE cluster." -/
def occIsnpHitNearRd (b : Obs) : Bool := occIsnpHitRd b && b.own .isnpHitNearRd && b.never .snoopedSide

/-- R768 ISNP_HIT_FAR_RD (0x8192): "The counter counts each snoop generated by the PE in response to a demand Instruction memory
access counted by ISNP_HIT_RD that hits in a cache outside the local PE cluster on the same device." -/
def occIsnpHitFarRd (b : Obs) : Bool := occIsnpHitRd b && b.own .isnpHitFarRd && b.never .snoopedSide

/-- R769 ISNP_HIT_REMOTE_RD (0x8193): "The counter counts each snoop generated by the PE in response to a demand Instruction memory
access counted by ISNP_HIT_RD that hits in a cache on a remote device." -/
def occIsnpHitRemoteRd (b : Obs) : Bool := occIsnpHitRd b && b.own .isnpHitRemoteRd && b.never .snoopedSide

/-- R778 DSNP_HIT_RW (0x819C): "The counter counts each snoop generated by the PE in response to a demand Memory-read operation or
demand Memory-write operation that hits in a cache outside of the cache hierarchy of this PE." -/
def occDsnpHitRw (b : Obs) : Bool := b.own .dsnpHitRw && b.never .snoopedSide

/-- R770 DSNP_HIT_RD (0x8194): "The counter counts each snoop generated by the PE in response to a demand Memory-read operation
counted by DSNP_HIT_RW that hits in a cache outside of the cache hierarchy of this PE." -/
def occDsnpHitRd (b : Obs) : Bool := occDsnpHitRw b && b.own .dsnpHitRd && b.never .snoopedSide

/-- R771 DSNP_HIT_NEAR_RD (0x8195): "The counter counts each snoop generated by the PE in response to a demand Memory-read operation
counted by DSNP_HIT_RD that hits in a cache outside of the cache hierarchy of this PE in the local PE cluster." -/
def occDsnpHitNearRd (b : Obs) : Bool := occDsnpHitRd b && b.own .dsnpHitNearRd && b.never .snoopedSide

/-- R772 DSNP_HIT_FAR_RD (0x8196): "The counter counts each snoop generated by the PE in response to a demand Memory-read operation
counted by DSNP_HIT_RD that hits in a cache outside the local PE cluster on the same device." -/
def occDsnpHitFarRd (b : Obs) : Bool := occDsnpHitRd b && b.own .dsnpHitFarRd && b.never .snoopedSide

/-- R773 DSNP_HIT_REMOTE_RD (0x8197): "The counter counts each snoop generated by the PE in response to a demand Memory-read
operation counted by DSNP_HIT_RD that hits in a cache on a remote device." -/
def occDsnpHitRemoteRd (b : Obs) : Bool := occDsnpHitRd b && b.own .dsnpHitRemoteRd && b.never .snoopedSide

/-- R774 DSNP_HIT_WR (0x8198): "The counter counts each snoop generated by the PE in response to a demand Memory-write operation
counted by DSNP_HIT_RW that hits in a cache outside of the cache hierarchy of this PE." -/
def occDsnpHitWr (b : Obs) : Bool := occDsnpHitRw b && b.own .dsnpHitWr && b.never .snoopedSide

/-- R775 DSNP_HIT_NEAR_WR (0x8199): "The counter counts each snoop generated by the PE in response to a demand Memory-write
operation counted by DSNP_HIT_WR that hits in a cache outside of the cache hierarchy of this PE in the local PE cluster." -/
def occDsnpHitNearWr (b : Obs) : Bool := occDsnpHitWr b && b.own .dsnpHitNearWr && b.never .snoopedSide

end Sys2Proof.Machine
end

