-- ==== Sys2Proof/Machine/Occ5.lean ====
section
/-!
DEFINITION. `Occ(E)` (40_common_event_rules.md R120, R122) of the events, part 5 of 8: which occurrences a counter sees as
occurrences of E. Each definition conjoins the clauses of the event's own rule; a parent ("counted by X") stands before its
children, so the parts follow that order and not the order of the numbers.
-/

namespace Sys2Proof.Machine

/-- R776 DSNP_HIT_FAR_WR (0x819A): "The counter counts each snoop generated by the PE in response to a demand Memory-write operation
counted by DSNP_HIT_WR that hits in a cache outside the local PE cluster on the same device." -/
def occDsnpHitFarWr (b : Obs) : Bool := occDsnpHitWr b && b.own .dsnpHitFarWr && b.never .snoopedSide

/-- R777 DSNP_HIT_REMOTE_WR (0x819B): "The counter counts each snoop generated by the PE in response to a demand Memory-write
operation counted by DSNP_HIT_WR that hits in a cache on a remote device." -/
def occDsnpHitRemoteWr (b : Obs) : Bool := occDsnpHitWr b && b.own .dsnpHitRemoteWr && b.never .snoopedSide

/-- R779 DSNP_HIT_NEAR_RW (0x819D): "The counter counts each snoop generated by the PE in response to a demand Memory-read operation
or demand Memory-write operation counted by DSNP_HIT_RW that hits in a cache outside of the cache hierarchy of this PE in the
local PE cluster." -/
def occDsnpHitNearRw (b : Obs) : Bool := occDsnpHitRw b && b.own .dsnpHitNearRw && b.never .snoopedSide

/-- R780 DSNP_HIT_FAR_RW (0x819E): "The counter counts each snoop generated by the PE in response to a demand Memory-read operation
or demand Memory-write operation counted by DSNP_HIT_RW that hits in a cache outside the local PE cluster on the same device." -/
def occDsnpHitFarRw (b : Obs) : Bool := occDsnpHitRw b && b.own .dsnpHitFarRw && b.never .snoopedSide

/-- R781 DSNP_HIT_REMOTE_RW (0x819F): "The counter counts each snoop generated by the PE in response to a demand Memory-read
operation or demand Memory-write operation counted by DSNP_HIT_RW that hits in a cache on a remote device." -/
def occDsnpHitRemoteRw (b : Obs) : Bool := occDsnpHitRw b && b.own .dsnpHitRemoteRw && b.never .snoopedSide

/-- R992 DSNP_HIT_PRF (0x8294): "The counter counts each snoop generated by the PE in response to a data prefetch instruction, or by
a data hardware prefetch that hits in a cache outside of the cache hierarchy of this PE." -/
def occDsnpHitPrf (b : Obs) : Bool := b.own .dsnpHitPrf && b.never .snoopedSide

/-- R782 DSNP_HIT_PRFM (0x81A0): "The counter counts each snoop generated by the PE in response to a data prefetch instruction
counted by DSNP_HIT_PRF that hits in a cache outside of the cache hierarchy of this PE." -/
def occDsnpHitPrfm (b : Obs) : Bool := occDsnpHitPrf b && b.own .dsnpHitPrfm && b.never .snoopedSide

/-- R783 DSNP_HIT_NEAR_PRFM (0x81A1): "The counter counts each snoop generated by the PE in response to a data prefetch instruction
counted by DSNP_HIT_PRFM that hits in a cache outside of the cache hierarchy of this PE in the local PE cluster." -/
def occDsnpHitNearPrfm (b : Obs) : Bool := occDsnpHitPrfm b && b.own .dsnpHitNearPrfm && b.never .snoopedSide

/-- R784 DSNP_HIT_FAR_PRFM (0x81A2): "The counter counts each snoop generated by the PE in response to a data prefetch instruction
counted by DSNP_HIT_PRFM that hits in a cache outside the local PE cluster on the same device." -/
def occDsnpHitFarPrfm (b : Obs) : Bool := occDsnpHitPrfm b && b.own .dsnpHitFarPrfm && b.never .snoopedSide

/-- R785 DSNP_HIT_REMOTE_PRFM (0x81A3): "The counter counts each snoop generated by the PE in response to a data prefetch
instruction counted by DSNP_HIT_PRFM that hits in a cache on a remote device." -/
def occDsnpHitRemotePrfm (b : Obs) : Bool := occDsnpHitPrfm b && b.own .dsnpHitRemotePrfm && b.never .snoopedSide

/-- R786 DSNP_HIT_HWPRF (0x81A4): "The counter counts each snoop generated by a data hardware prefetch counted by DSNP_HIT_PRF that
hits in a cache outside of the cache hierarchy of this PE." -/
def occDsnpHitHwprf (b : Obs) : Bool := occDsnpHitPrf b && b.own .dsnpHitHwprf && b.never .snoopedSide

/-- R787 DSNP_HIT_NEAR_HWPRF (0x81A5): "The counter counts each snoop generated by a data hardware prefetch counted by
DSNP_HIT_HWPRF that hits in a cache outside of the cache hierarchy of this PE in the local PE cluster." -/
def occDsnpHitNearHwprf (b : Obs) : Bool := occDsnpHitHwprf b && b.own .dsnpHitNearHwprf && b.never .snoopedSide

/-- R788 DSNP_HIT_FAR_HWPRF (0x81A6): "The counter counts each snoop generated by a data hardware prefetch counted by DSNP_HIT_HWPRF
that hits in a cache outside the local PE cluster on the same device." -/
def occDsnpHitFarHwprf (b : Obs) : Bool := occDsnpHitHwprf b && b.own .dsnpHitFarHwprf && b.never .snoopedSide

/-- R789 DSNP_HIT_REMOTE_HWPRF (0x81A7): "The counter counts each snoop generated by a data hardware prefetch counted by
DSNP_HIT_HWPRF that hits in a cache on a remote device." -/
def occDsnpHitRemoteHwprf (b : Obs) : Bool := occDsnpHitHwprf b && b.own .dsnpHitRemoteHwprf && b.never .snoopedSide

/-- R988 ISNP_HIT_PRF (0x8290): "The counter counts each snoop generated by the PE in response to an instruction prefetch
instruction, or by an instruction hardware prefetch that hits in a cache outside of the cache hierarchy of this PE." -/
def occIsnpHitPrf (b : Obs) : Bool := b.own .isnpHitPrf && b.never .snoopedSide

/-- R790 ISNP_HIT_PRFM (0x81A8): "The counter counts each snoop generated by the PE in response to an instruction prefetch
instruction counted by ISNP_HIT_PRF that hits in a cache outside of the cache hierarchy of this PE." -/
def occIsnpHitPrfm (b : Obs) : Bool := occIsnpHitPrf b && b.own .isnpHitPrfm && b.never .snoopedSide

/-- R791 ISNP_HIT_NEAR_PRFM (0x81A9): "The counter counts each snoop generated by the PE in response to an instruction prefetch
instruction counted by ISNP_HIT_PRFM that hits in a cache outside of the cache hierarchy of this PE in the local PE cluster." -/
def occIsnpHitNearPrfm (b : Obs) : Bool := occIsnpHitPrfm b && b.own .isnpHitNearPrfm && b.never .snoopedSide

/-- R792 ISNP_HIT_FAR_PRFM (0x81AA): "The counter counts each snoop generated by the PE in response to an instruction prefetch
instruction counted by ISNP_HIT_PRFM that hits in a cache outside the local PE cluster on the same device." -/
def occIsnpHitFarPrfm (b : Obs) : Bool := occIsnpHitPrfm b && b.own .isnpHitFarPrfm && b.never .snoopedSide

/-- R793 ISNP_HIT_REMOTE_PRFM (0x81AB): "The counter counts each snoop generated by the PE in response to an instruction prefetch
instruction counted by ISNP_HIT_PRFM that hits in a cache on a remote device." -/
def occIsnpHitRemotePrfm (b : Obs) : Bool := occIsnpHitPrfm b && b.own .isnpHitRemotePrfm && b.never .snoopedSide

/-- R794 ISNP_HIT_HWPRF (0x81AC): "The counter counts each snoop generated by an instruction hardware prefetch counted by
ISNP_HIT_PRF that hits in a cache outside of the cache hierarchy of this PE." -/
def occIsnpHitHwprf (b : Obs) : Bool := occIsnpHitPrf b && b.own .isnpHitHwprf && b.never .snoopedSide

/-- R795 ISNP_HIT_NEAR_HWPRF (0x81AD): "The counter counts each snoop generated by an instruction hardware prefetch counted by
ISNP_HIT_HWPRF that hits in a cache outside of the cache hierarchy of this PE in the local PE cluster." -/
def occIsnpHitNearHwprf (b : Obs) : Bool := occIsnpHitHwprf b && b.own .isnpHitNearHwprf && b.never .snoopedSide

/-- R796 ISNP_HIT_FAR_HWPRF (0x81AE): "The counter counts each snoop generated by an instruction hardware prefetch counted by
ISNP_HIT_HWPRF that hits in a cache outside the local PE cluster on the same device." -/
def occIsnpHitFarHwprf (b : Obs) : Bool := occIsnpHitHwprf b && b.own .isnpHitFarHwprf && b.never .snoopedSide

/-- R797 ISNP_HIT_REMOTE_HWPRF (0x81AF): "The counter counts each snoop generated by an instruction hardware prefetch counted by
ISNP_HIT_HWPRF that hits in a cache on a remote device." -/
def occIsnpHitRemoteHwprf (b : Obs) : Bool := occIsnpHitHwprf b && b.own .isnpHitRemoteHwprf && b.never .snoopedSide

/-- R798 ISNP_HIT (0x81B0): "The counter counts each snoop that hits in a cache outside of the cache hierarchy of this PE." -/
def occIsnpHit (b : Obs) : Bool := b.own .isnpHit && b.never .snoopedSide

/-- R799 ISNP_HIT_NEAR (0x81B1): "The counter counts each snoop counted by ISNP_HIT that hits in a cache outside of the cache
hierarchy of this PE in the local PE cluster." -/
def occIsnpHitNear (b : Obs) : Bool := occIsnpHit b && b.own .isnpHitNear && b.never .snoopedSide

/-- R800 ISNP_HIT_FAR (0x81B2): "The counter counts each snoop counted by ISNP_HIT that hits in a cache outside the local PE cluster
on the same device." -/
def occIsnpHitFar (b : Obs) : Bool := occIsnpHit b && b.own .isnpHitFar && b.never .snoopedSide

/-- R801 ISNP_HIT_REMOTE (0x81B3): "The counter counts each snoop counted by ISNP_HIT that hits in a cache on a remote device." -/
def occIsnpHitRemote (b : Obs) : Bool := occIsnpHit b && b.own .isnpHitRemote && b.never .snoopedSide

/-- R802 DSNP_HIT (0x81B4): "The counter counts each snoop that hits in a cache outside of the cache hierarchy of this PE." -/
def occDsnpHit (b : Obs) : Bool := b.own .dsnpHit && b.never .snoopedSide

/-- R803 DSNP_HIT_NEAR (0x81B5): "The counter counts each snoop counted by DSNP_HIT that hits in a cache outside of the cache
hierarchy of this PE in the local PE cluster." -/
def occDsnpHitNear (b : Obs) : Bool := occDsnpHit b && b.own .dsnpHitNear && b.never .snoopedSide

/-- R804 DSNP_HIT_FAR (0x81B6): "The counter counts each snoop counted by DSNP_HIT that hits in a cache outside the local PE cluster
on the same device." -/
def occDsnpHitFar (b : Obs) : Bool := occDsnpHit b && b.own .dsnpHitFar && b.never .snoopedSide

/-- R805 DSNP_HIT_REMOTE (0x81B7): "The counter counts each snoop counted by DSNP_HIT that hits in a cache on a remote device." -/
def occDsnpHitRemote (b : Obs) : Bool := occDsnpHit b && b.own .dsnpHitRemote && b.never .snoopedSide

/-- R806 L1I_CACHE_REFILL_HWPRF (0x81B8): "The counter counts each hardware prefetch counted by L1I_CACHE_HWPRF that causes a refill
of the Level 1 instruction or unified cache from outside of the Level 1 instruction or unified cache." -/
def occL1iCacheRefillHwprf (b : Obs) : Bool := occL1iCacheHwprf b && b.own .l1iCacheRefillHwprf

/-- R807 L2I_CACHE_REFILL_HWPRF (0x81B9): "The counter counts each hardware prefetch counted by L2I_CACHE_HWPRF that causes a refill
of the Level 2 instruction or unified cache, or any Level 1 data, instruction, or unified cache of this PE, from outside of
those caches." -/
def occL2iCacheRefillHwprf (b : Obs) : Bool := occL2iCacheHwprf b && b.own .l2iCacheRefillHwprf

/-- R808 L1D_CACHE_REFILL_HWPRF (0x81BC): "The counter counts each hardware prefetch counted by L1D_CACHE_HWPRF that causes a refill
of the Level 1 data or unified cache from outside of the Level 1 data or unified cache." -/
def occL1dCacheRefillHwprf (b : Obs) : Bool := occL1dCacheHwprf b && b.own .l1dCacheRefillHwprf

/-- R809 L2D_CACHE_REFILL_HWPRF (0x81BD): "The counter counts each hardware prefetch counted by L2D_CACHE_HWPRF that causes a refill
of the Level 2 data or unified cache, or any Level 1 data, instruction, or unified cache of this PE, from outside of those
caches." -/
def occL2dCacheRefillHwprf (b : Obs) : Bool := occL2dCacheHwprf b && b.own .l2dCacheRefillHwprf

/-- R810 L3D_CACHE_REFILL_HWPRF (0x81BE): "The counter counts each hardware prefetch counted by L3D_CACHE_HWPRF that causes a refill
of the Level 3 data or unified cache, or any Level 1 or Level 2 data, instruction, or unified cache of this PE, from outside of
those caches." -/
def occL3dCacheRefillHwprf (b : Obs) : Bool := occL3dCacheHwprf b && b.own .l3dCacheRefillHwprf

/-- R811 LL_CACHE_REFILL_HWPRF (0x81BF): "The counter counts each hardware prefetch counted by LL_CACHE_HWPRF that causes a refill
of the Last level cache, or any other data, instruction, or unified cache of this PE, from outside of those caches." -/
def occLlCacheRefillHwprf (b : Obs) : Bool := occLlCacheHwprf b && b.own .llCacheRefillHwprf

/-- R812 L1I_CACHE_HIT_RD (0x81C0): "The counter counts each demand fetch counted by L1I_CACHE_RD that hits in the Level 1
instruction or unified cache." -/
def occL1iCacheHitRd (b : Obs) : Bool := occL1iCacheRd b && b.own .l1iCacheHitRd

/-- R813 L2I_CACHE_HIT_RD (0x81C1): "The counter counts each demand fetch counted by L2I_CACHE_RD that hits in the Level 2
instruction or unified cache." -/
def occL2iCacheHitRd (b : Obs) : Bool := occL2iCacheRd b && b.own .l2iCacheHitRd

/-- R814 L1D_CACHE_HIT_RD (0x81C4): "The counter counts each demand read counted by L1D_CACHE_RD that hits in the Level 1 data or
unified cache." -/
def occL1dCacheHitRd (b : Obs) : Bool := occL1dCacheRd b && b.own .l1dCacheHitRd

/-- R815 L2D_CACHE_HIT_RD (0x81C5): "The counter counts each demand read counted by L2D_CACHE_RD that hits in the Level 2 data or
unified cache." -/
def occL2dCacheHitRd (b : Obs) : Bool := occL2dCacheRd b && b.own .l2dCacheHitRd

/-- R816 L3D_CACHE_HIT_RD (0x81C6): "The counter counts each demand read counted by L3D_CACHE_RD that hits in the Level 3 data or
unified cache." -/
def occL3dCacheHitRd (b : Obs) : Bool := occL3dCacheRd b && b.own .l3dCacheHitRd

/-- R817 LL_CACHE_HIT_RD (0x81C7): "The counter counts each demand read counted by LL_CACHE_RD that hits in the Last level cache." -/
def occLlCacheHitRd (b : Obs) : Bool := occLlCacheRd b && b.own .llCacheHitRd

/-- R818 L1D_CACHE_HIT_WR (0x81C8): "The counter counts each demand write counted by L1D_CACHE_WR that hits in the Level 1 data or
unified cache." -/
def occL1dCacheHitWr (b : Obs) : Bool := occL1dCacheWr b && b.own .l1dCacheHitWr

/-- R819 L2D_CACHE_HIT_WR (0x81C9): "The counter counts each demand write counted by L2D_CACHE_WR that hits in the Level 2 data or
unified cache." -/
def occL2dCacheHitWr (b : Obs) : Bool := occL2dCacheWr b && b.own .l2dCacheHitWr

/-- R820 L3D_CACHE_HIT_WR (0x81CA): "The counter counts each demand write counted by L3D_CACHE_WR that hits in the Level 3 data or
unified cache." -/
def occL3dCacheHitWr (b : Obs) : Bool := occL3dCacheWr b && b.own .l3dCacheHitWr

/-- R1001 LL_CACHE_WR (0x829D): "If the LL_CACHE_RW event is implemented, the counter counts each access counted by LL_CACHE_RW that
is a Memory-write operation." -/
def occLlCacheWr (b : Obs) : Bool := b.own .llCacheWr && (if b.implements .llCacheRw then occLlCacheRw b else occLlCache b)

/-- R821 LL_CACHE_HIT_WR (0x81CB): "The counter counts each demand write counted by LL_CACHE_WR that hits in the Last level cache." -/
def occLlCacheHitWr (b : Obs) : Bool := occLlCacheWr b && b.own .llCacheHitWr

/-- R825 LL_CACHE_HIT_RW (0x81CF): "The counter counts each demand access counted by LL_CACHE_RW that hits in the Last level cache." -/
def occLlCacheHitRw (b : Obs) : Bool := occLlCacheRw b && b.own .llCacheHitRw

/-- R854 L1I_CACHE_HIT_RD_FPRF (0x81F0): "The counter counts each demand fetch first hit counted by L1I_CACHE_HIT_RD where the cache
line was fetched in response to a prefetch instruction or by a hardware prefetcher." -/
def occL1iCacheHitRdFprf (b : Obs) : Bool :=
  occL1iCacheHitRd b
    && b.own .l1iCacheHitRdFprf
    && b.never .laterHit
    && b.never .lineAlreadyReported

/-- R826 L1I_CACHE_HIT_RD_FPRFM (0x81D0): "The counter counts each demand fetch first hit counted by L1I_CACHE_HIT_RD_FPRF where the
cache line was fetched in response to a prefetch instruction." -/
def occL1iCacheHitRdFprfm (b : Obs) : Bool :=
  occL1iCacheHitRdFprf b
    && b.own .l1iCacheHitRdFprfm
    && b.never .laterHit
    && b.never .lineAlreadyReported

/-- R855 L2I_CACHE_HIT_RD_FPRF (0x81F1): "The counter counts each demand fetch first hit counted by L2I_CACHE_HIT_RD where the cache
line was fetched in response to a prefetch instruction or by a hardware prefetcher." -/
def occL2iCacheHitRdFprf (b : Obs) : Bool :=
  occL2iCacheHitRd b
    && b.own .l2iCacheHitRdFprf
    && b.never .laterHit
    && b.never .lineAlreadyReported

/-- R827 L2I_CACHE_HIT_RD_FPRFM (0x81D1): "The counter counts each demand fetch first hit counted by L2I_CACHE_HIT_RD_FPRF where the
cache line was fetched in response to a prefetch instruction." -/
def occL2iCacheHitRdFprfm (b : Obs) : Bool :=
  occL2iCacheHitRdFprf b
    && b.own .l2iCacheHitRdFprfm
    && b.never .laterHit
    && b.never .lineAlreadyReported

/-- R864 L1D_CACHE_HIT_RW_FPRF (0x81FC): "The counter counts each demand access first hit counted by L1D_CACHE_HIT_RW where the
cache line was fetched in response to a prefetch instruction or by a hardware prefetcher." -/
def occL1dCacheHitRwFprf (b : Obs) : Bool :=
  occL1dCacheHitRw b
    && b.own .l1dCacheHitRwFprf
    && b.never .laterHit
    && b.never .lineAlreadyReported

/-- R836 L1D_CACHE_HIT_RW_FPRFM (0x81DC): "The counter counts each demand access first hit counted by L1D_CACHE_HIT_RW_FPRF where
the cache line was fetched in response to a prefetch instruction." -/
def occL1dCacheHitRwFprfm (b : Obs) : Bool :=
  occL1dCacheHitRwFprf b
    && b.own .l1dCacheHitRwFprfm
    && b.never .laterHit
    && b.never .lineAlreadyReported

/-- R828 L1D_CACHE_HIT_RD_FPRFM (0x81D4): "The counter counts each first hit counted by L1D_CACHE_HIT_RW_FPRFM that is due to a
demand Memory-read operation." -/
def occL1dCacheHitRdFprfm (b : Obs) : Bool := occL1dCacheHitRwFprfm b && b.own .l1dCacheHitRdFprfm

/-- R865 L2D_CACHE_HIT_RW_FPRF (0x81FD): "The counter counts each demand access first hit counted by L2D_CACHE_HIT_RW where the
cache line was fetched in response to a prefetch instruction or by a hardware prefetcher." -/
def occL2dCacheHitRwFprf (b : Obs) : Bool :=
  occL2dCacheHitRw b
    && b.own .l2dCacheHitRwFprf
    && b.never .laterHit
    && b.never .lineAlreadyReported

/-- R837 L2D_CACHE_HIT_RW_FPRFM (0x81DD): "The counter counts each demand access first hit counted by L2D_CACHE_HIT_RW_FPRF where
the cache line was fetched in response to a prefetch instruction." -/
def occL2dCacheHitRwFprfm (b : Obs) : Bool :=
  occL2dCacheHitRwFprf b
    && b.own .l2dCacheHitRwFprfm
    && b.never .laterHit
    && b.never .lineAlreadyReported

/-- R829 L2D_CACHE_HIT_RD_FPRFM (0x81D5): "The counter counts each first hit counted by L2D_CACHE_HIT_RW_FPRFM that is due to a
demand Memory-read operation." -/
def occL2dCacheHitRdFprfm (b : Obs) : Bool := occL2dCacheHitRwFprfm b && b.own .l2dCacheHitRdFprfm

/-- R866 L3D_CACHE_HIT_RW_FPRF (0x81FE): "The counter counts each demand access first hit counted by L3D_CACHE_HIT_RW where the
cache line was fetched in response to a prefetch instruction or by a hardware prefetcher." -/
def occL3dCacheHitRwFprf (b : Obs) : Bool :=
  occL3dCacheHitRw b
    && b.own .l3dCacheHitRwFprf
    && b.never .laterHit
    && b.never .lineAlreadyReported

/-- R838 L3D_CACHE_HIT_RW_FPRFM (0x81DE): "The counter counts each demand access first hit counted by L3D_CACHE_HIT_RW_FPRF where
the cache line was fetched in response to a prefetch instruction." -/
def occL3dCacheHitRwFprfm (b : Obs) : Bool :=
  occL3dCacheHitRwFprf b
    && b.own .l3dCacheHitRwFprfm
    && b.never .laterHit
    && b.never .lineAlreadyReported

/-- R830 L3D_CACHE_HIT_RD_FPRFM (0x81D6): "The counter counts each first hit counted by L3D_CACHE_HIT_RW_FPRFM that is due to a
demand Memory-read operation." -/
def occL3dCacheHitRdFprfm (b : Obs) : Bool := occL3dCacheHitRwFprfm b && b.own .l3dCacheHitRdFprfm

/-- R867 LL_CACHE_HIT_RW_FPRF (0x81FF): "The counter counts each demand access first hit counted by LL_CACHE_HIT_RW where the cache
line was fetched in response to a prefetch instruction or by a hardware prefetcher." -/
def occLlCacheHitRwFprf (b : Obs) : Bool :=
  occLlCacheHitRw b
    && b.own .llCacheHitRwFprf
    && b.never .laterHit
    && b.never .lineAlreadyReported

/-- R839 LL_CACHE_HIT_RW_FPRFM (0x81DF): "The counter counts each demand access first hit counted by LL_CACHE_HIT_RW_FPRF where the
cache line was fetched in response to a prefetch instruction." -/
def occLlCacheHitRwFprfm (b : Obs) : Bool :=
  occLlCacheHitRwFprf b
    && b.own .llCacheHitRwFprfm
    && b.never .laterHit
    && b.never .lineAlreadyReported

/-- R831 LL_CACHE_HIT_RD_FPRFM (0x81D7): "The counter counts each first hit counted by LL_CACHE_HIT_RW_FPRFM that is due to a demand
Memory-read operation." -/
def occLlCacheHitRdFprfm (b : Obs) : Bool := occLlCacheHitRwFprfm b && b.own .llCacheHitRdFprfm

/-- R832 L1D_CACHE_HIT_WR_FPRFM (0x81D8): "The counter counts each first hit counted by L1D_CACHE_HIT_RW_FPRFM that is due to a
demand Memory-write operation." -/
def occL1dCacheHitWrFprfm (b : Obs) : Bool := occL1dCacheHitRwFprfm b && b.own .l1dCacheHitWrFprfm

/-- R833 L2D_CACHE_HIT_WR_FPRFM (0x81D9): "The counter counts each first hit counted by L2D_CACHE_HIT_RW_FPRFM that is due to a
demand Memory-write operation." -/
def occL2dCacheHitWrFprfm (b : Obs) : Bool := occL2dCacheHitRwFprfm b && b.own .l2dCacheHitWrFprfm

/-- R834 L3D_CACHE_HIT_WR_FPRFM (0x81DA): "The counter counts each first hit counted by L3D_CACHE_HIT_RW_FPRFM that is due to a
demand Memory-write operation." -/
def occL3dCacheHitWrFprfm (b : Obs) : Bool := occL3dCacheHitRwFprfm b && b.own .l3dCacheHitWrFprfm

/-- R835 LL_CACHE_HIT_WR_FPRFM (0x81DB): "The counter counts each first hit counted by LL_CACHE_HIT_RW_FPRFM that is due to a demand
Memory-write operation." -/
def occLlCacheHitWrFprfm (b : Obs) : Bool := occLlCacheHitRwFprfm b && b.own .llCacheHitWrFprfm

/-- R840 L1I_CACHE_HIT_RD_FHWPRF (0x81E0): "The counter counts each demand fetch first hit counted by L1I_CACHE_HIT_RD_FPRF where
the cache line was fetched by a hardware prefetcher." -/
def occL1iCacheHitRdFhwprf (b : Obs) : Bool :=
  occL1iCacheHitRdFprf b
    && b.own .l1iCacheHitRdFhwprf
    && b.never .laterHit
    && b.never .lineAlreadyReported

/-- R841 L2I_CACHE_HIT_RD_FHWPRF (0x81E1): "The counter counts each demand fetch first hit counted by L2I_CACHE_HIT_RD_FPRF where
the cache line was fetched by a hardware prefetcher." -/
def occL2iCacheHitRdFhwprf (b : Obs) : Bool :=
  occL2iCacheHitRdFprf b
    && b.own .l2iCacheHitRdFhwprf
    && b.never .laterHit
    && b.never .lineAlreadyReported

/-- R850 L1D_CACHE_HIT_RW_FHWPRF (0x81EC): "The counter counts each demand access first hit counted by L1D_CACHE_HIT_RW_FPRF where
the cache line was fetched by a hardware prefetcher." -/
def occL1dCacheHitRwFhwprf (b : Obs) : Bool :=
  occL1dCacheHitRwFprf b
    && b.own .l1dCacheHitRwFhwprf
    && b.never .laterHit
    && b.never .lineAlreadyReported

/-- R842 L1D_CACHE_HIT_RD_FHWPRF (0x81E4): "The counter counts each first hit counted by L1D_CACHE_HIT_RW_FHWPRF that is due to a
demand Memory-read operation." -/
def occL1dCacheHitRdFhwprf (b : Obs) : Bool := occL1dCacheHitRwFhwprf b && b.own .l1dCacheHitRdFhwprf

/-- R851 L2D_CACHE_HIT_RW_FHWPRF (0x81ED): "The counter counts each demand access first hit counted by L2D_CACHE_HIT_RW_FPRF where
the cache line was fetched by a hardware prefetcher." -/
def occL2dCacheHitRwFhwprf (b : Obs) : Bool :=
  occL2dCacheHitRwFprf b
    && b.own .l2dCacheHitRwFhwprf
    && b.never .laterHit
    && b.never .lineAlreadyReported

/-- R843 L2D_CACHE_HIT_RD_FHWPRF (0x81E5): "The counter counts each first hit counted by L2D_CACHE_HIT_RW_FHWPRF that is due to a
demand Memory-read operation." -/
def occL2dCacheHitRdFhwprf (b : Obs) : Bool := occL2dCacheHitRwFhwprf b && b.own .l2dCacheHitRdFhwprf

/-- R852 L3D_CACHE_HIT_RW_FHWPRF (0x81EE): "The counter counts each demand access first hit counted by L3D_CACHE_HIT_RW_FPRF where
the cache line was fetched by a hardware prefetcher." -/
def occL3dCacheHitRwFhwprf (b : Obs) : Bool :=
  occL3dCacheHitRwFprf b
    && b.own .l3dCacheHitRwFhwprf
    && b.never .laterHit
    && b.never .lineAlreadyReported

/-- R844 L3D_CACHE_HIT_RD_FHWPRF (0x81E6): "The counter counts each first hit counted by L3D_CACHE_HIT_RW_FHWPRF that is due to a
demand Memory-read operation." -/
def occL3dCacheHitRdFhwprf (b : Obs) : Bool := occL3dCacheHitRwFhwprf b && b.own .l3dCacheHitRdFhwprf

/-- R853 LL_CACHE_HIT_RW_FHWPRF (0x81EF): "The counter counts each demand access first hit counted by LL_CACHE_HIT_RW_FPRF where the
cache line was fetched by a hardware prefetcher." -/
def occLlCacheHitRwFhwprf (b : Obs) : Bool :=
  occLlCacheHitRwFprf b
    && b.own .llCacheHitRwFhwprf
    && b.never .laterHit
    && b.never .lineAlreadyReported

/-- R845 LL_CACHE_HIT_RD_FHWPRF (0x81E7): "The counter counts each first hit counted by LL_CACHE_HIT_RW_FHWPRF that is due to a
demand Memory-read operation." -/
def occLlCacheHitRdFhwprf (b : Obs) : Bool := occLlCacheHitRwFhwprf b && b.own .llCacheHitRdFhwprf

/-- R846 L1D_CACHE_HIT_WR_FHWPRF (0x81E8): "The counter counts each first hit counted by L1D_CACHE_HIT_RW_FHWPRF that is due to a
demand Memory-write operation." -/
def occL1dCacheHitWrFhwprf (b : Obs) : Bool := occL1dCacheHitRwFhwprf b && b.own .l1dCacheHitWrFhwprf

/-- R847 L2D_CACHE_HIT_WR_FHWPRF (0x81E9): "The counter counts each first hit counted by L2D_CACHE_HIT_RW_FHWPRF that is due to a
demand Memory-write operation." -/
def occL2dCacheHitWrFhwprf (b : Obs) : Bool := occL2dCacheHitRwFhwprf b && b.own .l2dCacheHitWrFhwprf

/-- R848 L3D_CACHE_HIT_WR_FHWPRF (0x81EA): "The counter counts each first hit counted by L3D_CACHE_HIT_RW_FHWPRF that is due to a
demand Memory-write operation." -/
def occL3dCacheHitWrFhwprf (b : Obs) : Bool := occL3dCacheHitRwFhwprf b && b.own .l3dCacheHitWrFhwprf

/-- R849 LL_CACHE_HIT_WR_FHWPRF (0x81EB): "The counter counts each first hit counted by LL_CACHE_HIT_RW_FHWPRF that is due to a
demand Memory-write operation." -/
def occLlCacheHitWrFhwprf (b : Obs) : Bool := occLlCacheHitRwFhwprf b && b.own .llCacheHitWrFhwprf

/-- R856 L1D_CACHE_HIT_RD_FPRF (0x81F4): "The counter counts each first hit counted by L1D_CACHE_HIT_RW_FPRF that is due to a demand
Memory-read operation." -/
def occL1dCacheHitRdFprf (b : Obs) : Bool := occL1dCacheHitRwFprf b && b.own .l1dCacheHitRdFprf

/-- R857 L2D_CACHE_HIT_RD_FPRF (0x81F5): "The counter counts each first hit counted by L2D_CACHE_HIT_RW_FPRF that is due to a demand
Memory-read operation." -/
def occL2dCacheHitRdFprf (b : Obs) : Bool := occL2dCacheHitRwFprf b && b.own .l2dCacheHitRdFprf

/-- R858 L3D_CACHE_HIT_RD_FPRF (0x81F6): "The counter counts each first hit counted by L3D_CACHE_HIT_RW_FPRF that is due to a demand
Memory-read operation." -/
def occL3dCacheHitRdFprf (b : Obs) : Bool := occL3dCacheHitRwFprf b && b.own .l3dCacheHitRdFprf

/-- R859 LL_CACHE_HIT_RD_FPRF (0x81F7): "The counter counts each first hit counted by LL_CACHE_HIT_RW_FPRF that is due to a demand
Memory-read operation." -/
def occLlCacheHitRdFprf (b : Obs) : Bool := occLlCacheHitRwFprf b && b.own .llCacheHitRdFprf

/-- R860 L1D_CACHE_HIT_WR_FPRF (0x81F8): "The counter counts each first hit counted by L1D_CACHE_HIT_RW_FPRF that is due to a demand
Memory-write operation." -/
def occL1dCacheHitWrFprf (b : Obs) : Bool := occL1dCacheHitRwFprf b && b.own .l1dCacheHitWrFprf

/-- R861 L2D_CACHE_HIT_WR_FPRF (0x81F9): "The counter counts each first hit counted by L2D_CACHE_HIT_RW_FPRF that is due to a demand
Memory-write operation." -/
def occL2dCacheHitWrFprf (b : Obs) : Bool := occL2dCacheHitRwFprf b && b.own .l2dCacheHitWrFprf

/-- R862 L3D_CACHE_HIT_WR_FPRF (0x81FA): "The counter counts each first hit counted by L3D_CACHE_HIT_RW_FPRF that is due to a demand
Memory-write operation." -/
def occL3dCacheHitWrFprf (b : Obs) : Bool := occL3dCacheHitRwFprf b && b.own .l3dCacheHitWrFprf

/-- R863 LL_CACHE_HIT_WR_FPRF (0x81FB): "The counter counts each first hit counted by LL_CACHE_HIT_RW_FPRF that is due to a demand
Memory-write operation." -/
def occLlCacheHitWrFprf (b : Obs) : Bool := occLlCacheHitRwFprf b && b.own .llCacheHitWrFprf

/-- R868 L1I_CACHE_HIT (0x8200): "The counter counts each access counted by L1I_CACHE that hits in the Level 1 instruction or
unified cache." -/
def occL1iCacheHit (b : Obs) : Bool := occL1iCache b && b.own .l1iCacheHit

/-- R869 L2I_CACHE_HIT (0x8201): "The counter counts each access counted by L2I_CACHE that hits in the Level 2 instruction or
unified cache." -/
def occL2iCacheHit (b : Obs) : Bool := occL2iCache b && b.own .l2iCacheHit

/-- R870 L1D_CACHE_HIT (0x8204): "The counter counts each access counted by L1D_CACHE that hits in the Level 1 data or unified
cache." -/
def occL1dCacheHit (b : Obs) : Bool := occL1dCache b && b.own .l1dCacheHit

/-- R871 L2D_CACHE_HIT (0x8205): "The counter counts each access counted by L2D_CACHE that hits in the Level 2 data or unified
cache." -/
def occL2dCacheHit (b : Obs) : Bool := occL2dCache b && b.own .l2dCacheHit

/-- R872 L3D_CACHE_HIT (0x8206): "The counter counts each access counted by L3D_CACHE that hits in the Level 3 data or unified
cache." -/
def occL3dCacheHit (b : Obs) : Bool := occL3dCache b && b.own .l3dCacheHit

/-- R873 LL_CACHE_HIT (0x8207): "The counter counts each access counted by LL_CACHE that hits in the Last level cache." -/
def occLlCacheHit (b : Obs) : Bool := occLlCache b && b.own .llCacheHit

/-- R874 L1I_CACHE_HIT_PRFM (0x8208): "The counter counts each software prefetch counted by L1I_CACHE_PRFM that hits in the Level 1
instruction or unified cache." -/
def occL1iCacheHitPrfm (b : Obs) : Bool := occL1iCachePrfm b && b.own .l1iCacheHitPrfm

/-- R875 L2I_CACHE_HIT_PRFM (0x8209): "The counter counts each software prefetch counted by L2I_CACHE_PRFM that hits in the Level 2
instruction or unified cache." -/
def occL2iCacheHitPrfm (b : Obs) : Bool := occL2iCachePrfm b && b.own .l2iCacheHitPrfm

/-- R876 L1D_CACHE_HIT_PRFM (0x820C): "The counter counts each software prefetch counted by L1D_CACHE_PRFM that hits in the Level 1
data or unified cache." -/
def occL1dCacheHitPrfm (b : Obs) : Bool := occL1dCachePrfm b && b.own .l1dCacheHitPrfm

/-- R877 L2D_CACHE_HIT_PRFM (0x820D): "The counter counts each software prefetch counted by L2D_CACHE_PRFM that hits in the Level 2
data or unified cache." -/
def occL2dCacheHitPrfm (b : Obs) : Bool := occL2dCachePrfm b && b.own .l2dCacheHitPrfm

/-- R878 L3D_CACHE_HIT_PRFM (0x820E): "The counter counts each software prefetch counted by L3D_CACHE_PRFM that hits in the Level 3
data or unified cache." -/
def occL3dCacheHitPrfm (b : Obs) : Bool := occL3dCachePrfm b && b.own .l3dCacheHitPrfm

/-- R997 LL_CACHE_PRFM (0x8299): "The counter counts each access counted by LL_CACHE_PRF that is due to a prefetch instruction." -/
def occLlCachePrfm (b : Obs) : Bool := occLlCachePrf b && b.own .llCachePrfm

/-- R879 LL_CACHE_HIT_PRFM (0x820F): "The counter counts each software prefetch counted by LL_CACHE_PRFM that hits in the Last level
cache." -/
def occLlCacheHitPrfm (b : Obs) : Bool := occLlCachePrfm b && b.own .llCacheHitPrfm

/-- R880 L1D_CACHE_HITM_RD (0x8214): "The counter counts each cache access counted by L1D_CACHE_HIT_RD that accesses a previously
modified cache location." -/
def occL1dCacheHitmRd (b : Obs) : Bool := occL1dCacheHitRd b && b.own .l1dCacheHitmRd

/-- R881 L2D_CACHE_HITM_RD (0x8215): "The counter counts each cache access counted by L2D_CACHE_HIT_RD that accesses a previously
modified cache location." -/
def occL2dCacheHitmRd (b : Obs) : Bool := occL2dCacheHitRd b && b.own .l2dCacheHitmRd

/-- R882 L3D_CACHE_HITM_RD (0x8216): "The counter counts each cache access counted by L3D_CACHE_HIT_RD that accesses a previously
modified cache location." -/
def occL3dCacheHitmRd (b : Obs) : Bool := occL3dCacheHitRd b && b.own .l3dCacheHitmRd

/-- R883 LL_CACHE_HITM_RD (0x8217): "The counter counts each cache access counted by LL_CACHE_HIT_RD that accesses a previously
modified cache location." -/
def occLlCacheHitmRd (b : Obs) : Bool := occLlCacheHitRd b && b.own .llCacheHitmRd

/-- R884 L1D_CACHE_HITM_WR (0x8218): "The counter counts each cache access counted by L1D_CACHE_HIT_WR that accesses a previously
modified cache location." -/
def occL1dCacheHitmWr (b : Obs) : Bool := occL1dCacheHitWr b && b.own .l1dCacheHitmWr

/-- R885 L2D_CACHE_HITM_WR (0x8219): "The counter counts each cache access counted by L2D_CACHE_HIT_WR that accesses a previously
modified cache location." -/
def occL2dCacheHitmWr (b : Obs) : Bool := occL2dCacheHitWr b && b.own .l2dCacheHitmWr

/-- R886 L3D_CACHE_HITM_WR (0x821A): "The counter counts each cache access counted by L3D_CACHE_HIT_WR that accesses a previously
modified cache location." -/
def occL3dCacheHitmWr (b : Obs) : Bool := occL3dCacheHitWr b && b.own .l3dCacheHitmWr

/-- R887 LL_CACHE_HITM_WR (0x821B): "The counter counts each cache access counted by LL_CACHE_HIT_WR that accesses a previously
modified cache location." -/
def occLlCacheHitmWr (b : Obs) : Bool := occLlCacheHitWr b && b.own .llCacheHitmWr

/-- R888 L1D_CACHE_HITM_RW (0x821C): "The counter counts each cache access counted by L1D_CACHE_HIT_RW that accesses a previously
modified cache location." -/
def occL1dCacheHitmRw (b : Obs) : Bool := occL1dCacheHitRw b && b.own .l1dCacheHitmRw

/-- R889 L2D_CACHE_HITM_RW (0x821D): "The counter counts each cache access counted by L2D_CACHE_HIT_RW that accesses a previously
modified cache location." -/
def occL2dCacheHitmRw (b : Obs) : Bool := occL2dCacheHitRw b && b.own .l2dCacheHitmRw

/-- R890 L3D_CACHE_HITM_RW (0x821E): "The counter counts each cache access counted by L3D_CACHE_HIT_RW that accesses a previously
modified cache location." -/
def occL3dCacheHitmRw (b : Obs) : Bool := occL3dCacheHitRw b && b.own .l3dCacheHitmRw

/-- R891 LL_CACHE_HITM_RW (0x821F): "The counter counts each cache access counted by LL_CACHE_HIT_RW that accesses a previously
modified cache location." -/
def occLlCacheHitmRw (b : Obs) : Bool := occLlCacheHitRw b && b.own .llCacheHitmRw

/-- R892 DSNP_HITM_RD (0x8224): "The counter counts each snoop generated by the PE in response to a demand Memory-read operation
counted by DSNP_HIT_RD that accesses a previously modified cache location." -/
def occDsnpHitmRd (b : Obs) : Bool := occDsnpHitRd b && b.own .dsnpHitmRd

/-- R893 DSNP_HITM_NEAR_RD (0x8225): "The counter counts each snoop generated by the PE in response to a demand Memory-read
operation counted by DSNP_HIT_NEAR_RD that accesses a previously modified cache location." -/
def occDsnpHitmNearRd (b : Obs) : Bool := occDsnpHitNearRd b && b.own .dsnpHitmNearRd

/-- R894 DSNP_HITM_FAR_RD (0x8226): "The counter counts each snoop generated by the PE in response to a demand Memory-read operation
counted by DSNP_HIT_FAR_RD that accesses a previously modified cache location." -/
def occDsnpHitmFarRd (b : Obs) : Bool := occDsnpHitFarRd b && b.own .dsnpHitmFarRd

/-- R895 DSNP_HITM_REMOTE_RD (0x8227): "The counter counts each snoop generated by the PE in response to a demand Memory-read
operation counted by DSNP_HIT_REMOTE_RD that accesses a previously modified cache location." -/
def occDsnpHitmRemoteRd (b : Obs) : Bool := occDsnpHitRemoteRd b && b.own .dsnpHitmRemoteRd

/-- R896 DSNP_HITM_WR (0x8228): "The counter counts each snoop generated by the PE in response to a demand Memory-write operation
counted by DSNP_HIT_WR that accesses a previously modified cache location." -/
def occDsnpHitmWr (b : Obs) : Bool := occDsnpHitWr b && b.own .dsnpHitmWr

/-- R897 DSNP_HITM_NEAR_WR (0x8229): "The counter counts each snoop generated by the PE in response to a demand Memory-write
operation counted by DSNP_HIT_NEAR_WR that accesses a previously modified cache location." -/
def occDsnpHitmNearWr (b : Obs) : Bool := occDsnpHitNearWr b && b.own .dsnpHitmNearWr

/-- R898 DSNP_HITM_FAR_WR (0x822A): "The counter counts each snoop generated by the PE in response to a demand Memory-write
operation counted by DSNP_HIT_FAR_WR that accesses a previously modified cache location." -/
def occDsnpHitmFarWr (b : Obs) : Bool := occDsnpHitFarWr b && b.own .dsnpHitmFarWr

/-- R899 DSNP_HITM_REMOTE_WR (0x822B): "The counter counts each snoop generated by the PE in response to a demand Memory-write
operation counted by DSNP_HIT_REMOTE_WR that accesses a previously modified cache location." -/
def occDsnpHitmRemoteWr (b : Obs) : Bool := occDsnpHitRemoteWr b && b.own .dsnpHitmRemoteWr

/-- R900 DSNP_HITM_RW (0x822C): "The counter counts each snoop generated by the PE in response to a demand Memory-read operation or
demand Memory-write operation counted by DSNP_HIT_RW that accesses a previously modified cache location." -/
def occDsnpHitmRw (b : Obs) : Bool := occDsnpHitRw b && b.own .dsnpHitmRw

/-- R901 DSNP_HITM_NEAR_RW (0x822D): "The counter counts each snoop generated by the PE in response to a demand Memory-read
operation or demand Memory-write operation counted by DSNP_HIT_NEAR_RW that accesses a previously modified cache location." -/
def occDsnpHitmNearRw (b : Obs) : Bool := occDsnpHitNearRw b && b.own .dsnpHitmNearRw

/-- R902 DSNP_HITM_FAR_RW (0x822E): "The counter counts each snoop generated by the PE in response to a demand Memory-read operation
or demand Memory-write operation counted by DSNP_HIT_FAR_RW that accesses a previously modified cache location." -/
def occDsnpHitmFarRw (b : Obs) : Bool := occDsnpHitFarRw b && b.own .dsnpHitmFarRw

/-- R903 DSNP_HITM_REMOTE_RW (0x822F): "The counter counts each snoop generated by the PE in response to a demand Memory-read
operation or demand Memory-write operation counted by DSNP_HIT_REMOTE_RW that accesses a previously modified cache location." -/
def occDsnpHitmRemoteRw (b : Obs) : Bool := occDsnpHitRemoteRw b && b.own .dsnpHitmRemoteRw

/-- R904 LOCAL_MEM (0x8230): "The counter counts each Memory-read operation or Memory-write operation access to external memory
attached to this device." U147. -/
def occLocalMem (b : Obs) : Bool := b.own .localMem && !b.localAsRemote

/-- R907 LOCAL_MEM_RW (0x8233): "The counter counts each access counted by LOCAL_MEM that is a demand Memory-read operation or
demand Memory-write operation." U148, the one Boolean that LOCAL_MEM_PRFM reads too. Log 42. -/
def occLocalMemRw (b : Obs) : Bool :=
  occLocalMem b
    && (if b.is .prefetchToCache then b.choice 148 .localMemRw else b.own .localMemRw)

/-- R905 LOCAL_MEM_RD (0x8231): "The counter counts each access counted by LOCAL_MEM_RW that is a demand Memory-read operation." -/
def occLocalMemRd (b : Obs) : Bool := occLocalMemRw b && b.own .localMemRd

/-- R906 LOCAL_MEM_WR (0x8232): "The counter counts each access counted by LOCAL_MEM_RW that is a demand Memory-write operation." -/
def occLocalMemWr (b : Obs) : Bool := occLocalMemRw b && b.own .localMemWr

/-- R908 LOCAL_MEM_PRFM (0x8234): "The counter counts each access counted by LOCAL_MEM that is due to a prefetch instruction."
U148, the Boolean of LOCAL_MEM_RW: what that event does not count of it this one does. Log 42. -/
def occLocalMemPrfm (b : Obs) : Bool :=
  occLocalMem b
    && (if b.is .prefetchToCache then !b.choice 148 .localMemRw else b.own .localMemPrfm)

/-- R911 LOCAL_MEM_LDST_RETIRED (0x8237): "The counter counts each Memory-reading instruction or Memory-writing instruction
architecturally executed counted by LDST_ANY_RETIRED that accessed external memory attached to this device." -/
def occLocalMemLdstRetired (b : Obs) : Bool := occLdstAnyRetired b && b.own .localMemLdstRetired

/-- R909 LOCAL_MEM_LD_RETIRED (0x8235): "The counter counts each architecturally executed instruction counted by
LOCAL_MEM_LDST_RETIRED that is a Memory-reading instruction." -/
def occLocalMemLdRetired (b : Obs) : Bool := occLocalMemLdstRetired b && b.own .localMemLdRetired

/-- R910 LOCAL_MEM_ST_RETIRED (0x8236): "The counter counts each architecturally executed instruction counted by
LOCAL_MEM_LDST_RETIRED that is a Memory-writing instruction." -/
def occLocalMemStRetired (b : Obs) : Bool := occLocalMemLdstRetired b && b.own .localMemStRetired

/-- R912 REMOTE_MEM (0x8238): "The counter counts each Memory-read operation or Memory-write operation access counted by
REMOTE_ACCESS to external memory attached to a remote device." U147. -/
def occRemoteMem (b : Obs) : Bool := occRemoteAccess b && (b.localAsRemote || b.own .remoteMem)

/-- R915 REMOTE_MEM_RW (0x823B): "The counter counts each access counted by REMOTE_MEM that is a demand Memory-read operation or
demand Memory-write operation." -/
def occRemoteMemRw (b : Obs) : Bool := occRemoteMem b && b.own .remoteMemRw

/-- R913 REMOTE_MEM_RD (0x8239): "The counter counts each access counted by REMOTE_MEM_RW that is a demand Memory-read operation." -/
def occRemoteMemRd (b : Obs) : Bool := occRemoteMemRw b && b.own .remoteMemRd

/-- R914 REMOTE_MEM_WR (0x823A): "The counter counts each access counted by REMOTE_MEM_RW that is a demand Memory-write operation." -/
def occRemoteMemWr (b : Obs) : Bool := occRemoteMemRw b && b.own .remoteMemWr

/-- R916 REMOTE_MEM_PRFM (0x823C): "The counter counts each access counted by REMOTE_MEM that is due to a prefetch instruction." -/
def occRemoteMemPrfm (b : Obs) : Bool := occRemoteMem b && b.own .remoteMemPrfm

/-- R919 REMOTE_MEM_LDST_RETIRED (0x823F): "The counter counts each Memory-reading instruction or Memory-writing instruction
architecturally executed counted by LDST_ANY_RETIRED that accessed external memory attached to a remote device." -/
def occRemoteMemLdstRetired (b : Obs) : Bool := occLdstAnyRetired b && b.own .remoteMemLdstRetired

/-- R917 REMOTE_MEM_LD_RETIRED (0x823D): "The counter counts each architecturally executed instruction counted by
REMOTE_MEM_LDST_RETIRED that is a Memory-reading instruction." -/
def occRemoteMemLdRetired (b : Obs) : Bool := occRemoteMemLdstRetired b && b.own .remoteMemLdRetired

/-- R918 REMOTE_MEM_ST_RETIRED (0x823E): "The counter counts each architecturally executed instruction counted by
REMOTE_MEM_LDST_RETIRED that is a Memory-writing instruction." -/
def occRemoteMemStRetired (b : Obs) : Bool := occRemoteMemLdstRetired b && b.own .remoteMemStRetired

/-- R920 L1I_LFB_HIT_RD (0x8240): "The counter counts each demand access counted by L1I_CACHE_HIT_RD that hits a recently fetched
line in the Level 1 instruction or unified cache." -/
def occL1iLfbHitRd (b : Obs) : Bool := occL1iCacheHitRd b && b.own .l1iLfbHitRd

/-- R921 L2I_LFB_HIT_RD (0x8241): "The counter counts each demand access counted by L2I_CACHE_HIT_RD that hits a recently fetched
line in the Level 2 instruction or unified cache." -/
def occL2iLfbHitRd (b : Obs) : Bool := occL2iCacheHitRd b && b.own .l2iLfbHitRd

/-- R922 L1D_LFB_HIT_RD (0x8244): "The counter counts each demand access counted by L1D_CACHE_HIT_RD that hits a recently fetched
line in the Level 1 data or unified cache." -/
def occL1dLfbHitRd (b : Obs) : Bool := occL1dCacheHitRd b && b.own .l1dLfbHitRd

/-- R923 L2D_LFB_HIT_RD (0x8245): "The counter counts each demand access counted by L2D_CACHE_HIT_RD that hits a recently fetched
line in the Level 2 data or unified cache." -/
def occL2dLfbHitRd (b : Obs) : Bool := occL2dCacheHitRd b && b.own .l2dLfbHitRd

/-- R924 L3D_LFB_HIT_RD (0x8246): "The counter counts each demand access counted by L3D_CACHE_HIT_RD that hits a recently fetched
line in the Level 3 data or unified cache." -/
def occL3dLfbHitRd (b : Obs) : Bool := occL3dCacheHitRd b && b.own .l3dLfbHitRd

/-- R925 LL_LFB_HIT_RD (0x8247): "The counter counts each demand access counted by LL_CACHE_HIT_RD that hits a recently fetched line
in the Last level cache." -/
def occLlLfbHitRd (b : Obs) : Bool := occLlCacheHitRd b && b.own .llLfbHitRd

end Sys2Proof.Machine
end

