-- ==== Sys2Proof/Machine/Occ6.lean ====
section
/-!
DEFINITION. `Occ(E)` (40_common_event_rules.md R120, R122) of the events, part 6 of 8: which occurrences a counter sees as
occurrences of E. Each definition conjoins the clauses of the event's own rule; a parent ("counted by X") stands before its
children, so the parts follow that order and not the order of the numbers.
-/

namespace Sys2Proof.Machine

/-- R926 L1D_LFB_HIT_WR (0x8248): "The counter counts each demand access counted by L1D_CACHE_HIT_WR that hits a recently fetched
line in the Level 1 data or unified cache." -/
def occL1dLfbHitWr (b : Obs) : Bool := occL1dCacheHitWr b && b.own .l1dLfbHitWr

/-- R927 L2D_LFB_HIT_WR (0x8249): "The counter counts each demand access counted by L2D_CACHE_HIT_WR that hits a recently fetched
line in the Level 2 data or unified cache." -/
def occL2dLfbHitWr (b : Obs) : Bool := occL2dCacheHitWr b && b.own .l2dLfbHitWr

/-- R928 L3D_LFB_HIT_WR (0x824A): "The counter counts each demand access counted by L3D_CACHE_HIT_WR that hits a recently fetched
line in the Level 3 data or unified cache." -/
def occL3dLfbHitWr (b : Obs) : Bool := occL3dCacheHitWr b && b.own .l3dLfbHitWr

/-- R929 LL_LFB_HIT_WR (0x824B): "The counter counts each demand access counted by LL_CACHE_HIT_WR that hits a recently fetched line
in the Last level cache." -/
def occLlLfbHitWr (b : Obs) : Bool := occLlCacheHitWr b && b.own .llLfbHitWr

/-- R930 L1D_LFB_HIT_RW (0x824C): "The counter counts each demand access counted by L1D_CACHE_HIT_RW that hits a recently fetched
line in the Level 1 data or unified cache." -/
def occL1dLfbHitRw (b : Obs) : Bool := occL1dCacheHitRw b && b.own .l1dLfbHitRw

/-- R931 L2D_LFB_HIT_RW (0x824D): "The counter counts each demand access counted by L2D_CACHE_HIT_RW that hits a recently fetched
line in the Level 2 data or unified cache." -/
def occL2dLfbHitRw (b : Obs) : Bool := occL2dCacheHitRw b && b.own .l2dLfbHitRw

/-- R932 L3D_LFB_HIT_RW (0x824E): "The counter counts each demand access counted by L3D_CACHE_HIT_RW that hits a recently fetched
line in the Level 3 data or unified cache." -/
def occL3dLfbHitRw (b : Obs) : Bool := occL3dCacheHitRw b && b.own .l3dLfbHitRw

/-- R933 LL_LFB_HIT_RW (0x824F): "The counter counts each demand access counted by LL_CACHE_HIT_RW that hits a recently fetched line
in the Last level cache." -/
def occLlLfbHitRw (b : Obs) : Bool := occLlCacheHitRw b && b.own .llLfbHitRw

/-- R962 L1I_LFB_HIT_RD_FPRF (0x8270): "The counter counts each demand fetch line-fill buffer first hit counted by L1I_LFB_HIT_RD
where the cache line was fetched in response to a prefetch instruction or by a hardware prefetcher." -/
def occL1iLfbHitRdFprf (b : Obs) : Bool :=
  occL1iLfbHitRd b
    && b.own .l1iLfbHitRdFprf
    && b.never .laterHit
    && b.never .lineAlreadyReported

/-- R934 L1I_LFB_HIT_RD_FPRFM (0x8250): "The counter counts each demand fetch line-fill buffer first hit counted by
L1I_LFB_HIT_RD_FPRF where the cache line was fetched in response to a prefetch instruction." -/
def occL1iLfbHitRdFprfm (b : Obs) : Bool :=
  occL1iLfbHitRdFprf b
    && b.own .l1iLfbHitRdFprfm
    && b.never .laterHit
    && b.never .lineAlreadyReported

/-- R963 L2I_LFB_HIT_RD_FPRF (0x8271): "The counter counts each demand fetch line-fill buffer first hit counted by L2I_LFB_HIT_RD
where the cache line was fetched in response to a prefetch instruction or by a hardware prefetcher." -/
def occL2iLfbHitRdFprf (b : Obs) : Bool :=
  occL2iLfbHitRd b
    && b.own .l2iLfbHitRdFprf
    && b.never .laterHit
    && b.never .lineAlreadyReported

/-- R935 L2I_LFB_HIT_RD_FPRFM (0x8251): "The counter counts each demand fetch line-fill buffer first hit counted by
L2I_LFB_HIT_RD_FPRF where the cache line was fetched in response to a prefetch instruction." -/
def occL2iLfbHitRdFprfm (b : Obs) : Bool :=
  occL2iLfbHitRdFprf b
    && b.own .l2iLfbHitRdFprfm
    && b.never .laterHit
    && b.never .lineAlreadyReported

/-- R972 L1D_LFB_HIT_RW_FPRF (0x827C): "The counter counts each demand access line-fill buffer first hit counted by L1D_LFB_HIT_RW
where the cache line was fetched in response to a prefetch instruction or by a hardware prefetcher." -/
def occL1dLfbHitRwFprf (b : Obs) : Bool :=
  occL1dLfbHitRw b
    && b.own .l1dLfbHitRwFprf
    && b.never .laterHit
    && b.never .lineAlreadyReported

/-- R944 L1D_LFB_HIT_RW_FPRFM (0x825C): "The counter counts each demand access line-fill buffer first hit counted by
L1D_LFB_HIT_RW_FPRF where the cache line was fetched in response to a prefetch instruction." -/
def occL1dLfbHitRwFprfm (b : Obs) : Bool :=
  occL1dLfbHitRwFprf b
    && b.own .l1dLfbHitRwFprfm
    && b.never .laterHit
    && b.never .lineAlreadyReported

/-- R936 L1D_LFB_HIT_RD_FPRFM (0x8254): "The counter counts each line-fill buffer first hit counted by L1D_LFB_HIT_RW_FPRFM that is
due to a demand Memory-read operation." -/
def occL1dLfbHitRdFprfm (b : Obs) : Bool := occL1dLfbHitRwFprfm b && b.own .l1dLfbHitRdFprfm

/-- R973 L2D_LFB_HIT_RW_FPRF (0x827D): "The counter counts each demand access line-fill buffer first hit counted by L2D_LFB_HIT_RW
where the cache line was fetched in response to a prefetch instruction or by a hardware prefetcher." -/
def occL2dLfbHitRwFprf (b : Obs) : Bool :=
  occL2dLfbHitRw b
    && b.own .l2dLfbHitRwFprf
    && b.never .laterHit
    && b.never .lineAlreadyReported

/-- R945 L2D_LFB_HIT_RW_FPRFM (0x825D): "The counter counts each demand access line-fill buffer first hit counted by
L2D_LFB_HIT_RW_FPRF where the cache line was fetched in response to a prefetch instruction." -/
def occL2dLfbHitRwFprfm (b : Obs) : Bool :=
  occL2dLfbHitRwFprf b
    && b.own .l2dLfbHitRwFprfm
    && b.never .laterHit
    && b.never .lineAlreadyReported

/-- R937 L2D_LFB_HIT_RD_FPRFM (0x8255): "The counter counts each line-fill buffer first hit counted by L2D_LFB_HIT_RW_FPRFM that is
due to a demand Memory-read operation." -/
def occL2dLfbHitRdFprfm (b : Obs) : Bool := occL2dLfbHitRwFprfm b && b.own .l2dLfbHitRdFprfm

/-- R974 L3D_LFB_HIT_RW_FPRF (0x827E): "The counter counts each demand access line-fill buffer first hit counted by L3D_LFB_HIT_RW
where the cache line was fetched in response to a prefetch instruction or by a hardware prefetcher." -/
def occL3dLfbHitRwFprf (b : Obs) : Bool :=
  occL3dLfbHitRw b
    && b.own .l3dLfbHitRwFprf
    && b.never .laterHit
    && b.never .lineAlreadyReported

/-- R946 L3D_LFB_HIT_RW_FPRFM (0x825E): "The counter counts each demand access line-fill buffer first hit counted by
L3D_LFB_HIT_RW_FPRF where the cache line was fetched in response to a prefetch instruction." -/
def occL3dLfbHitRwFprfm (b : Obs) : Bool :=
  occL3dLfbHitRwFprf b
    && b.own .l3dLfbHitRwFprfm
    && b.never .laterHit
    && b.never .lineAlreadyReported

/-- R938 L3D_LFB_HIT_RD_FPRFM (0x8256): "The counter counts each line-fill buffer first hit counted by L3D_LFB_HIT_RW_FPRFM that is
due to a demand Memory-read operation." -/
def occL3dLfbHitRdFprfm (b : Obs) : Bool := occL3dLfbHitRwFprfm b && b.own .l3dLfbHitRdFprfm

/-- R975 LL_LFB_HIT_RW_FPRF (0x827F): "The counter counts each demand access line-fill buffer first hit counted by LL_LFB_HIT_RW
where the cache line was fetched in response to a prefetch instruction or by a hardware prefetcher." -/
def occLlLfbHitRwFprf (b : Obs) : Bool :=
  occLlLfbHitRw b
    && b.own .llLfbHitRwFprf
    && b.never .laterHit
    && b.never .lineAlreadyReported

/-- R947 LL_LFB_HIT_RW_FPRFM (0x825F): "The counter counts each demand access line-fill buffer first hit counted by
LL_LFB_HIT_RW_FPRF where the cache line was fetched in response to a prefetch instruction." -/
def occLlLfbHitRwFprfm (b : Obs) : Bool :=
  occLlLfbHitRwFprf b
    && b.own .llLfbHitRwFprfm
    && b.never .laterHit
    && b.never .lineAlreadyReported

/-- R939 LL_LFB_HIT_RD_FPRFM (0x8257): "The counter counts each line-fill buffer first hit counted by LL_LFB_HIT_RW_FPRFM that is
due to a demand Memory-read operation." -/
def occLlLfbHitRdFprfm (b : Obs) : Bool := occLlLfbHitRwFprfm b && b.own .llLfbHitRdFprfm

/-- R940 L1D_LFB_HIT_WR_FPRFM (0x8258): "The counter counts each line-fill buffer first hit counted by L1D_LFB_HIT_RW_FPRFM that is
due to a demand Memory-write operation." -/
def occL1dLfbHitWrFprfm (b : Obs) : Bool := occL1dLfbHitRwFprfm b && b.own .l1dLfbHitWrFprfm

/-- R941 L2D_LFB_HIT_WR_FPRFM (0x8259): "The counter counts each line-fill buffer first hit counted by L2D_LFB_HIT_RW_FPRFM that is
due to a demand Memory-write operation." -/
def occL2dLfbHitWrFprfm (b : Obs) : Bool := occL2dLfbHitRwFprfm b && b.own .l2dLfbHitWrFprfm

/-- R942 L3D_LFB_HIT_WR_FPRFM (0x825A): "The counter counts each line-fill buffer first hit counted by L3D_LFB_HIT_RW_FPRFM that is
due to a demand Memory-write operation." -/
def occL3dLfbHitWrFprfm (b : Obs) : Bool := occL3dLfbHitRwFprfm b && b.own .l3dLfbHitWrFprfm

/-- R943 LL_LFB_HIT_WR_FPRFM (0x825B): "The counter counts each line-fill buffer first hit counted by LL_LFB_HIT_RW_FPRFM that is
due to a demand Memory-write operation." -/
def occLlLfbHitWrFprfm (b : Obs) : Bool := occLlLfbHitRwFprfm b && b.own .llLfbHitWrFprfm

/-- R948 L1I_LFB_HIT_RD_FHWPRF (0x8260): "The counter counts each demand fetch line-fill buffer first hit counted by
L1I_LFB_HIT_RD_FPRF where the cache line was fetched by a hardware prefetcher." -/
def occL1iLfbHitRdFhwprf (b : Obs) : Bool :=
  occL1iLfbHitRdFprf b
    && b.own .l1iLfbHitRdFhwprf
    && b.never .laterHit
    && b.never .lineAlreadyReported

/-- R949 L2I_LFB_HIT_RD_FHWPRF (0x8261): "The counter counts each demand fetch line-fill buffer first hit counted by
L2I_LFB_HIT_RD_FPRF where the cache line was fetched by a hardware prefetcher." -/
def occL2iLfbHitRdFhwprf (b : Obs) : Bool :=
  occL2iLfbHitRdFprf b
    && b.own .l2iLfbHitRdFhwprf
    && b.never .laterHit
    && b.never .lineAlreadyReported

/-- R958 L1D_LFB_HIT_RW_FHWPRF (0x826C): "The counter counts each demand access line-fill buffer first hit counted by
L1D_LFB_HIT_RW_FPRF where the cache line was fetched by a hardware prefetcher." -/
def occL1dLfbHitRwFhwprf (b : Obs) : Bool :=
  occL1dLfbHitRwFprf b
    && b.own .l1dLfbHitRwFhwprf
    && b.never .laterHit
    && b.never .lineAlreadyReported

/-- R950 L1D_LFB_HIT_RD_FHWPRF (0x8264): "The counter counts each line-fill buffer first hit counted by L1D_LFB_HIT_RW_FHWPRF that
is due to a demand Memory-read operation." -/
def occL1dLfbHitRdFhwprf (b : Obs) : Bool := occL1dLfbHitRwFhwprf b && b.own .l1dLfbHitRdFhwprf

/-- R959 L2D_LFB_HIT_RW_FHWPRF (0x826D): "The counter counts each demand access line-fill buffer first hit counted by
L2D_LFB_HIT_RW_FPRF where the cache line was fetched by a hardware prefetcher." -/
def occL2dLfbHitRwFhwprf (b : Obs) : Bool :=
  occL2dLfbHitRwFprf b
    && b.own .l2dLfbHitRwFhwprf
    && b.never .laterHit
    && b.never .lineAlreadyReported

/-- R951 L2D_LFB_HIT_RD_FHWPRF (0x8265): "The counter counts each line-fill buffer first hit counted by L2D_LFB_HIT_RW_FHWPRF that
is due to a demand Memory-read operation." -/
def occL2dLfbHitRdFhwprf (b : Obs) : Bool := occL2dLfbHitRwFhwprf b && b.own .l2dLfbHitRdFhwprf

/-- R960 L3D_LFB_HIT_RW_FHWPRF (0x826E): "The counter counts each demand access line-fill buffer first hit counted by
L3D_LFB_HIT_RW_FPRF where the cache line was fetched by a hardware prefetcher." -/
def occL3dLfbHitRwFhwprf (b : Obs) : Bool :=
  occL3dLfbHitRwFprf b
    && b.own .l3dLfbHitRwFhwprf
    && b.never .laterHit
    && b.never .lineAlreadyReported

/-- R952 L3D_LFB_HIT_RD_FHWPRF (0x8266): "The counter counts each line-fill buffer first hit counted by L3D_LFB_HIT_RW_FHWPRF that
is due to a demand Memory-read operation." -/
def occL3dLfbHitRdFhwprf (b : Obs) : Bool := occL3dLfbHitRwFhwprf b && b.own .l3dLfbHitRdFhwprf

/-- R961 LL_LFB_HIT_RW_FHWPRF (0x826F): "The counter counts each demand access line-fill buffer first hit counted by
LL_LFB_HIT_RW_FPRF where the cache line was fetched by a hardware prefetcher." -/
def occLlLfbHitRwFhwprf (b : Obs) : Bool :=
  occLlLfbHitRwFprf b
    && b.own .llLfbHitRwFhwprf
    && b.never .laterHit
    && b.never .lineAlreadyReported

/-- R953 LL_LFB_HIT_RD_FHWPRF (0x8267): "The counter counts each line-fill buffer first hit counted by LL_LFB_HIT_RW_FHWPRF that is
due to a demand Memory-read operation." -/
def occLlLfbHitRdFhwprf (b : Obs) : Bool := occLlLfbHitRwFhwprf b && b.own .llLfbHitRdFhwprf

/-- R954 L1D_LFB_HIT_WR_FHWPRF (0x8268): "The counter counts each line-fill buffer first hit counted by L1D_LFB_HIT_RW_FHWPRF that
is due to a demand Memory-write operation." -/
def occL1dLfbHitWrFhwprf (b : Obs) : Bool := occL1dLfbHitRwFhwprf b && b.own .l1dLfbHitWrFhwprf

/-- R955 L2D_LFB_HIT_WR_FHWPRF (0x8269): "The counter counts each line-fill buffer first hit counted by L2D_LFB_HIT_RW_FHWPRF that
is due to a demand Memory-write operation." -/
def occL2dLfbHitWrFhwprf (b : Obs) : Bool := occL2dLfbHitRwFhwprf b && b.own .l2dLfbHitWrFhwprf

/-- R956 L3D_LFB_HIT_WR_FHWPRF (0x826A): "The counter counts each line-fill buffer first hit counted by L3D_LFB_HIT_RW_FHWPRF that
is due to a demand Memory-write operation." -/
def occL3dLfbHitWrFhwprf (b : Obs) : Bool := occL3dLfbHitRwFhwprf b && b.own .l3dLfbHitWrFhwprf

/-- R957 LL_LFB_HIT_WR_FHWPRF (0x826B): "The counter counts each line-fill buffer first hit counted by LL_LFB_HIT_RW_FHWPRF that is
due to a demand Memory-write operation." -/
def occLlLfbHitWrFhwprf (b : Obs) : Bool := occLlLfbHitRwFhwprf b && b.own .llLfbHitWrFhwprf

/-- R964 L1D_LFB_HIT_RD_FPRF (0x8274): "The counter counts each line-fill buffer first hit counted by L1D_LFB_HIT_RW_FPRF that is
due to a demand Memory-read operation." -/
def occL1dLfbHitRdFprf (b : Obs) : Bool := occL1dLfbHitRwFprf b && b.own .l1dLfbHitRdFprf

/-- R965 L2D_LFB_HIT_RD_FPRF (0x8275): "The counter counts each line-fill buffer first hit counted by L2D_LFB_HIT_RW_FPRF that is
due to a demand Memory-read operation." -/
def occL2dLfbHitRdFprf (b : Obs) : Bool := occL2dLfbHitRwFprf b && b.own .l2dLfbHitRdFprf

/-- R966 L3D_LFB_HIT_RD_FPRF (0x8276): "The counter counts each line-fill buffer first hit counted by L3D_LFB_HIT_RW_FPRF that is
due to a demand Memory-read operation." -/
def occL3dLfbHitRdFprf (b : Obs) : Bool := occL3dLfbHitRwFprf b && b.own .l3dLfbHitRdFprf

/-- R967 LL_LFB_HIT_RD_FPRF (0x8277): "The counter counts each line-fill buffer first hit counted by LL_LFB_HIT_RW_FPRF that is due
to a demand Memory-read operation." -/
def occLlLfbHitRdFprf (b : Obs) : Bool := occLlLfbHitRwFprf b && b.own .llLfbHitRdFprf

/-- R968 L1D_LFB_HIT_WR_FPRF (0x8278): "The counter counts each line-fill buffer first hit counted by L1D_LFB_HIT_RW_FPRF that is
due to a demand Memory-write operation." -/
def occL1dLfbHitWrFprf (b : Obs) : Bool := occL1dLfbHitRwFprf b && b.own .l1dLfbHitWrFprf

/-- R969 L2D_LFB_HIT_WR_FPRF (0x8279): "The counter counts each line-fill buffer first hit counted by L2D_LFB_HIT_RW_FPRF that is
due to a demand Memory-write operation." -/
def occL2dLfbHitWrFprf (b : Obs) : Bool := occL2dLfbHitRwFprf b && b.own .l2dLfbHitWrFprf

/-- R970 L3D_LFB_HIT_WR_FPRF (0x827A): "The counter counts each line-fill buffer first hit counted by L3D_LFB_HIT_RW_FPRF that is
due to a demand Memory-write operation." -/
def occL3dLfbHitWrFprf (b : Obs) : Bool := occL3dLfbHitRwFprf b && b.own .l3dLfbHitWrFprf

/-- R971 LL_LFB_HIT_WR_FPRF (0x827B): "The counter counts each line-fill buffer first hit counted by LL_LFB_HIT_RW_FPRF that is due
to a demand Memory-write operation." -/
def occLlLfbHitWrFprf (b : Obs) : Bool := occLlLfbHitRwFprf b && b.own .llLfbHitWrFprf

/-- R982 L1I_CACHE_REFILL_PRF (0x8288): "The counter counts each access counted by L1I_CACHE_PRF that causes a refill of the Level 1
instruction or unified cache from outside of the Level 1 instruction or unified cache." -/
def occL1iCacheRefillPrf (b : Obs) : Bool := occL1iCachePrf b && b.own .l1iCacheRefillPrf

/-- R983 L2I_CACHE_REFILL_PRF (0x8289): "The counter counts each access counted by L2I_CACHE_PRF that causes a refill of the Level 2
instruction or unified cache, or any Level 1 data, instruction, or unified cache of this PE, from outside of those caches." -/
def occL2iCacheRefillPrf (b : Obs) : Bool := occL2iCachePrf b && b.own .l2iCacheRefillPrf

/-- R984 L1D_CACHE_REFILL_PRF (0x828C): "The counter counts each access counted by L1D_CACHE_PRF that causes a refill of the Level 1
data or unified cache from outside of the Level 1 data or unified cache." -/
def occL1dCacheRefillPrf (b : Obs) : Bool := occL1dCachePrf b && b.own .l1dCacheRefillPrf

/-- R985 L2D_CACHE_REFILL_PRF (0x828D): "The counter counts each access counted by L2D_CACHE_PRF that causes a refill of the Level 2
data or unified cache, or any Level 1 data, instruction, or unified cache of this PE, from outside of those caches." -/
def occL2dCacheRefillPrf (b : Obs) : Bool := occL2dCachePrf b && b.own .l2dCacheRefillPrf

/-- R986 L3D_CACHE_REFILL_PRF (0x828E): "The counter counts each access counted by L3D_CACHE_PRF that causes a refill of the Level 3
data or unified cache, or any Level 1 or Level 2 data, instruction, or unified cache of this PE, from outside of those caches." -/
def occL3dCacheRefillPrf (b : Obs) : Bool := occL3dCachePrf b && b.own .l3dCacheRefillPrf

/-- R987 LL_CACHE_REFILL_PRF (0x828F): "The counter counts each access counted by LL_CACHE_PRF that causes a refill of the Last
level cache, or any other data, instruction, or unified cache of this PE, from outside of those caches." -/
def occLlCacheRefillPrf (b : Obs) : Bool := occLlCachePrf b && b.own .llCacheRefillPrf

/-- R989 ISNP_HIT_NEAR_PRF (0x8291): "The counter counts each snoop generated by the PE in response to an instruction prefetch
instruction, or by an instruction hardware prefetch counted by ISNP_HIT_PRF that hits in a cache outside of the cache hierarchy
of this PE in the local PE cluster." -/
def occIsnpHitNearPrf (b : Obs) : Bool := occIsnpHitPrf b && b.own .isnpHitNearPrf && b.never .snoopedSide

/-- R990 ISNP_HIT_FAR_PRF (0x8292): "The counter counts each snoop generated by the PE in response to an instruction prefetch
instruction, or by an instruction hardware prefetch counted by ISNP_HIT_PRF that hits in a cache outside the local PE cluster on
the same device." -/
def occIsnpHitFarPrf (b : Obs) : Bool := occIsnpHitPrf b && b.own .isnpHitFarPrf && b.never .snoopedSide

/-- R991 ISNP_HIT_REMOTE_PRF (0x8293): "The counter counts each snoop generated by the PE in response to an instruction prefetch
instruction, or by an instruction hardware prefetch counted by ISNP_HIT_PRF that hits in a cache on a remote device." -/
def occIsnpHitRemotePrf (b : Obs) : Bool := occIsnpHitPrf b && b.own .isnpHitRemotePrf && b.never .snoopedSide

/-- R993 DSNP_HIT_NEAR_PRF (0x8295): "The counter counts each snoop generated by the PE in response to a data prefetch instruction,
or by a data hardware prefetch counted by DSNP_HIT_PRF that hits in a cache outside of the cache hierarchy of this PE in the
local PE cluster." -/
def occDsnpHitNearPrf (b : Obs) : Bool := occDsnpHitPrf b && b.own .dsnpHitNearPrf && b.never .snoopedSide

/-- R994 DSNP_HIT_FAR_PRF (0x8296): "The counter counts each snoop generated by the PE in response to a data prefetch instruction,
or by a data hardware prefetch counted by DSNP_HIT_PRF that hits in a cache outside the local PE cluster on the same device." -/
def occDsnpHitFarPrf (b : Obs) : Bool := occDsnpHitPrf b && b.own .dsnpHitFarPrf && b.never .snoopedSide

/-- R995 DSNP_HIT_REMOTE_PRF (0x8297): "The counter counts each snoop generated by the PE in response to a data prefetch
instruction, or by a data hardware prefetch counted by DSNP_HIT_PRF that hits in a cache on a remote device." -/
def occDsnpHitRemotePrf (b : Obs) : Bool := occDsnpHitPrf b && b.own .dsnpHitRemotePrf && b.never .snoopedSide

/-- R998 LL_CACHE_REFILL (0x829A): "The counter counts each access counted by LL_CACHE that causes a refill of the Last level cache,
or any other data, instruction, or unified cache of this PE, from outside of those caches." -/
def occLlCacheRefill (b : Obs) : Bool :=
  occLlCache b
    && b.own .llCacheRefill
    && b.never .previousMiss
    && b.never .missWithoutRefill
    && b.gated .cacheMaintenance (b.choice 32 .llCacheRefill)

/-- R999 LL_CACHE_REFILL_PRFM (0x829B): "The counter counts each access counted by LL_CACHE_PRFM that causes a refill of the Last
level cache, or any other data, instruction, or unified cache of this PE, from outside of those caches." -/
def occLlCacheRefillPrfm (b : Obs) : Bool := occLlCachePrfm b && b.own .llCacheRefillPrfm

/-- R1000 LL_CACHE_WB (0x829C): "The counter counts each write-back of data from the Last level cache to outside of the Level 1 to
Last level caches." U42, U43. Logs 59
and 62. -/
def occLlCacheWb (b : Obs) : Bool :=
  b.own .llCacheWb
    && b.writeBackIncluded .llCacheWb
    && b.never .invalidationOnly
    && b.never .writeThrough
    && b.never .refillOfOtherCache

/-- R1002 LL_CACHE_REFILL_WR (0x829F): "The counter counts each access counted by both LL_CACHE_REFILL and LL_CACHE_WR." -/
def occLlCacheRefillWr (b : Obs) : Bool := occLlCacheRefill b && occLlCacheWr b

/-- R1004 INST_FETCH_RD (0x82A1): "The counter counts each fetch counted by INST_FETCH that is a demand Instruction memory access." -/
def occInstFetchRd (b : Obs) : Bool := occInstFetch b && b.own .instFetchRd

/-- R1005 MEM_ACCESS_PRFM (0x82A2): "The counter counts each access counted by MEM_ACCESS that is due to a prefetch instruction." -/
def occMemAccessPrfm (b : Obs) : Bool := occMemAccess b && b.own .memAccessPrfm

/-- R1006 INST_FETCH_PRFM (0x82A3): "The counter counts each fetch counted by INST_FETCH that is due to a prefetch instruction." -/
def occInstFetchPrfm (b : Obs) : Bool := occInstFetch b && b.own .instFetchPrfm

/-- R1007 L1I_CACHE_MISS_RETIRED (0x82B0): "The counter counts each instruction architecturally executed counted by INST_RETIRED
that missed in Level 1 instruction or unified cache when fetched." -/
def occL1iCacheMissRetired (b : Obs) : Bool := occInstRetired b && b.own .l1iCacheMissRetired

/-- R1008 L2I_CACHE_MISS_RETIRED (0x82B1): "The counter counts each instruction architecturally executed counted by INST_RETIRED
that missed in Level 2 instruction or unified cache when fetched." -/
def occL2iCacheMissRetired (b : Obs) : Bool := occInstRetired b && b.own .l2iCacheMissRetired

/-- R1017 L1D_CACHE_MISS_LDST_RETIRED (0x82BC): "The counter counts each architecturally executed Memory-reading instruction or
Memory-writing instruction counted by LDST_ANY_RETIRED that missed in Level 1 data or unified cache." -/
def occL1dCacheMissLdstRetired (b : Obs) : Bool := occLdstAnyRetired b && b.own .l1dCacheMissLdstRetired

/-- R1009 L1D_CACHE_MISS_LD_RETIRED (0x82B4): "The counter counts each architecturally executed instruction counted by
L1D_CACHE_MISS_LDST_RETIRED that is a Memory-reading instruction." -/
def occL1dCacheMissLdRetired (b : Obs) : Bool := occL1dCacheMissLdstRetired b && b.own .l1dCacheMissLdRetired

/-- R1018 L2D_CACHE_MISS_LDST_RETIRED (0x82BD): "The counter counts each architecturally executed Memory-reading instruction or
Memory-writing instruction counted by LDST_ANY_RETIRED that missed in Level 2 data or unified cache." -/
def occL2dCacheMissLdstRetired (b : Obs) : Bool := occLdstAnyRetired b && b.own .l2dCacheMissLdstRetired

/-- R1010 L2D_CACHE_MISS_LD_RETIRED (0x82B5): "The counter counts each architecturally executed instruction counted by
L2D_CACHE_MISS_LDST_RETIRED that is a Memory-reading instruction." -/
def occL2dCacheMissLdRetired (b : Obs) : Bool := occL2dCacheMissLdstRetired b && b.own .l2dCacheMissLdRetired

/-- R1019 L3D_CACHE_MISS_LDST_RETIRED (0x82BE): "The counter counts each architecturally executed Memory-reading instruction or
Memory-writing instruction counted by LDST_ANY_RETIRED that missed in Level 3 data or unified cache." -/
def occL3dCacheMissLdstRetired (b : Obs) : Bool := occLdstAnyRetired b && b.own .l3dCacheMissLdstRetired

/-- R1011 L3D_CACHE_MISS_LD_RETIRED (0x82B6): "The counter counts each architecturally executed instruction counted by
L3D_CACHE_MISS_LDST_RETIRED that is a Memory-reading instruction." -/
def occL3dCacheMissLdRetired (b : Obs) : Bool := occL3dCacheMissLdstRetired b && b.own .l3dCacheMissLdRetired

/-- R1020 LL_CACHE_MISS_LDST_RETIRED (0x82BF): "The counter counts each architecturally executed Memory-reading instruction or
Memory-writing instruction counted by LDST_ANY_RETIRED that missed in Last level cache." -/
def occLlCacheMissLdstRetired (b : Obs) : Bool := occLdstAnyRetired b && b.own .llCacheMissLdstRetired

/-- R1012 LL_CACHE_MISS_LD_RETIRED (0x82B7): "The counter counts each architecturally executed instruction counted by
LL_CACHE_MISS_LDST_RETIRED that is a Memory-reading instruction." -/
def occLlCacheMissLdRetired (b : Obs) : Bool := occLlCacheMissLdstRetired b && b.own .llCacheMissLdRetired

/-- R1013 L1D_CACHE_MISS_ST_RETIRED (0x82B8): "The counter counts each architecturally executed instruction counted by
L1D_CACHE_MISS_LDST_RETIRED that is a Memory-writing instruction." -/
def occL1dCacheMissStRetired (b : Obs) : Bool := occL1dCacheMissLdstRetired b && b.own .l1dCacheMissStRetired

/-- R1014 L2D_CACHE_MISS_ST_RETIRED (0x82B9): "The counter counts each architecturally executed instruction counted by
L2D_CACHE_MISS_LDST_RETIRED that is a Memory-writing instruction." -/
def occL2dCacheMissStRetired (b : Obs) : Bool := occL2dCacheMissLdstRetired b && b.own .l2dCacheMissStRetired

/-- R1015 L3D_CACHE_MISS_ST_RETIRED (0x82BA): "The counter counts each architecturally executed instruction counted by
L3D_CACHE_MISS_LDST_RETIRED that is a Memory-writing instruction." -/
def occL3dCacheMissStRetired (b : Obs) : Bool := occL3dCacheMissLdstRetired b && b.own .l3dCacheMissStRetired

/-- R1016 LL_CACHE_MISS_ST_RETIRED (0x82BB): "The counter counts each architecturally executed instruction counted by
LL_CACHE_MISS_LDST_RETIRED that is a Memory-writing instruction." -/
def occLlCacheMissStRetired (b : Obs) : Bool := occLlCacheMissLdstRetired b && b.own .llCacheMissStRetired

/-- R1057 L1D_CACHE_HIT_LDST_RETIRED (0x82EC): "The counter counts each architecturally executed Memory-reading instruction or
Memory-writing instruction counted by LDST_ANY_RETIRED that hit in Level 1 data or unified cache." -/
def occL1dCacheHitLdstRetired (b : Obs) : Bool := occLdstAnyRetired b && b.own .l1dCacheHitLdstRetired

/-- R1029 L1D_CACHE_HITM_LDST_RETIRED (0x82CC): "The counter counts each architecturally executed Memory-reading instruction or
Memory-writing instruction counted by L1D_CACHE_HIT_LDST_RETIRED that hit modified data in Level 1 data or unified cache." -/
def occL1dCacheHitmLdstRetired (b : Obs) : Bool := occL1dCacheHitLdstRetired b && b.own .l1dCacheHitmLdstRetired

/-- R1021 L1D_CACHE_HITM_LD_RETIRED (0x82C4): "The counter counts each architecturally executed instruction counted by
L1D_CACHE_HITM_LDST_RETIRED that is a Memory-reading instruction." -/
def occL1dCacheHitmLdRetired (b : Obs) : Bool := occL1dCacheHitmLdstRetired b && b.own .l1dCacheHitmLdRetired

/-- R1058 L2D_CACHE_HIT_LDST_RETIRED (0x82ED): "The counter counts each architecturally executed Memory-reading instruction or
Memory-writing instruction counted by LDST_ANY_RETIRED that hit in Level 2 data or unified cache." -/
def occL2dCacheHitLdstRetired (b : Obs) : Bool := occLdstAnyRetired b && b.own .l2dCacheHitLdstRetired

/-- R1030 L2D_CACHE_HITM_LDST_RETIRED (0x82CD): "The counter counts each architecturally executed Memory-reading instruction or
Memory-writing instruction counted by L2D_CACHE_HIT_LDST_RETIRED that hit modified data in Level 2 data or unified cache." -/
def occL2dCacheHitmLdstRetired (b : Obs) : Bool := occL2dCacheHitLdstRetired b && b.own .l2dCacheHitmLdstRetired

/-- R1022 L2D_CACHE_HITM_LD_RETIRED (0x82C5): "The counter counts each architecturally executed instruction counted by
L2D_CACHE_HITM_LDST_RETIRED that is a Memory-reading instruction." -/
def occL2dCacheHitmLdRetired (b : Obs) : Bool := occL2dCacheHitmLdstRetired b && b.own .l2dCacheHitmLdRetired

/-- R1059 L3D_CACHE_HIT_LDST_RETIRED (0x82EE): "The counter counts each architecturally executed Memory-reading instruction or
Memory-writing instruction counted by LDST_ANY_RETIRED that hit in Level 3 data or unified cache." -/
def occL3dCacheHitLdstRetired (b : Obs) : Bool := occLdstAnyRetired b && b.own .l3dCacheHitLdstRetired

/-- R1031 L3D_CACHE_HITM_LDST_RETIRED (0x82CE): "The counter counts each architecturally executed Memory-reading instruction or
Memory-writing instruction counted by L3D_CACHE_HIT_LDST_RETIRED that hit modified data in Level 3 data or unified cache." -/
def occL3dCacheHitmLdstRetired (b : Obs) : Bool := occL3dCacheHitLdstRetired b && b.own .l3dCacheHitmLdstRetired

/-- R1023 L3D_CACHE_HITM_LD_RETIRED (0x82C6): "The counter counts each architecturally executed instruction counted by
L3D_CACHE_HITM_LDST_RETIRED that is a Memory-reading instruction." -/
def occL3dCacheHitmLdRetired (b : Obs) : Bool := occL3dCacheHitmLdstRetired b && b.own .l3dCacheHitmLdRetired

/-- R1060 LL_CACHE_HIT_LDST_RETIRED (0x82EF): "The counter counts each architecturally executed Memory-reading instruction or
Memory-writing instruction counted by LDST_ANY_RETIRED that hit in Last level cache." -/
def occLlCacheHitLdstRetired (b : Obs) : Bool := occLdstAnyRetired b && b.own .llCacheHitLdstRetired

/-- R1032 LL_CACHE_HITM_LDST_RETIRED (0x82CF): "The counter counts each architecturally executed Memory-reading instruction or
Memory-writing instruction counted by LL_CACHE_HIT_LDST_RETIRED that hit modified data in Last level cache." -/
def occLlCacheHitmLdstRetired (b : Obs) : Bool := occLlCacheHitLdstRetired b && b.own .llCacheHitmLdstRetired

/-- R1024 LL_CACHE_HITM_LD_RETIRED (0x82C7): "The counter counts each architecturally executed instruction counted by
LL_CACHE_HITM_LDST_RETIRED that is a Memory-reading instruction." -/
def occLlCacheHitmLdRetired (b : Obs) : Bool := occLlCacheHitmLdstRetired b && b.own .llCacheHitmLdRetired

/-- R1025 L1D_CACHE_HITM_ST_RETIRED (0x82C8): "The counter counts each architecturally executed instruction counted by
L1D_CACHE_HITM_LDST_RETIRED that is a Memory-writing instruction." -/
def occL1dCacheHitmStRetired (b : Obs) : Bool := occL1dCacheHitmLdstRetired b && b.own .l1dCacheHitmStRetired

/-- R1026 L2D_CACHE_HITM_ST_RETIRED (0x82C9): "The counter counts each architecturally executed instruction counted by
L2D_CACHE_HITM_LDST_RETIRED that is a Memory-writing instruction." -/
def occL2dCacheHitmStRetired (b : Obs) : Bool := occL2dCacheHitmLdstRetired b && b.own .l2dCacheHitmStRetired

/-- R1027 L3D_CACHE_HITM_ST_RETIRED (0x82CA): "The counter counts each architecturally executed instruction counted by
L3D_CACHE_HITM_LDST_RETIRED that is a Memory-writing instruction." -/
def occL3dCacheHitmStRetired (b : Obs) : Bool := occL3dCacheHitmLdstRetired b && b.own .l3dCacheHitmStRetired

/-- R1028 LL_CACHE_HITM_ST_RETIRED (0x82CB): "The counter counts each architecturally executed instruction counted by
LL_CACHE_HITM_LDST_RETIRED that is a Memory-writing instruction." -/
def occLlCacheHitmStRetired (b : Obs) : Bool := occLlCacheHitmLdstRetired b && b.own .llCacheHitmStRetired

/-- R1047 L1I_CACHE_HIT_RETIRED (0x82E0): "The counter counts each instruction architecturally executed counted by INST_RETIRED that
hit in Level 1 instruction or unified cache when fetched." -/
def occL1iCacheHitRetired (b : Obs) : Bool := occInstRetired b && b.own .l1iCacheHitRetired

/-- R1033 L1I_LFB_HIT_RETIRED (0x82D0): "The counter counts each instruction architecturally executed counted by
L1I_CACHE_HIT_RETIRED that hit a recently fetched line in Level 1 instruction or unified cache when fetched." -/
def occL1iLfbHitRetired (b : Obs) : Bool := occL1iCacheHitRetired b && b.own .l1iLfbHitRetired

/-- R1048 L2I_CACHE_HIT_RETIRED (0x82E1): "The counter counts each instruction architecturally executed counted by INST_RETIRED that
hit in Level 2 instruction or unified cache when fetched." -/
def occL2iCacheHitRetired (b : Obs) : Bool := occInstRetired b && b.own .l2iCacheHitRetired

/-- R1034 L2I_LFB_HIT_RETIRED (0x82D1): "The counter counts each instruction architecturally executed counted by
L2I_CACHE_HIT_RETIRED that hit a recently fetched line in Level 2 instruction or unified cache when fetched." -/
def occL2iLfbHitRetired (b : Obs) : Bool := occL2iCacheHitRetired b && b.own .l2iLfbHitRetired

/-- R1043 L1D_LFB_HIT_LDST_RETIRED (0x82DC): "The counter counts each architecturally executed Memory-reading instruction or
Memory-writing instruction counted by L1D_CACHE_HIT_LDST_RETIRED that hit a recently fetched line in Level 1 data or unified
cache." -/
def occL1dLfbHitLdstRetired (b : Obs) : Bool := occL1dCacheHitLdstRetired b && b.own .l1dLfbHitLdstRetired

/-- R1035 L1D_LFB_HIT_LD_RETIRED (0x82D4): "The counter counts each architecturally executed instruction counted by
L1D_LFB_HIT_LDST_RETIRED that is a Memory-reading instruction." -/
def occL1dLfbHitLdRetired (b : Obs) : Bool := occL1dLfbHitLdstRetired b && b.own .l1dLfbHitLdRetired

/-- R1044 L2D_LFB_HIT_LDST_RETIRED (0x82DD): "The counter counts each architecturally executed Memory-reading instruction or
Memory-writing instruction counted by L2D_CACHE_HIT_LDST_RETIRED that hit a recently fetched line in Level 2 data or unified
cache." -/
def occL2dLfbHitLdstRetired (b : Obs) : Bool := occL2dCacheHitLdstRetired b && b.own .l2dLfbHitLdstRetired

/-- R1036 L2D_LFB_HIT_LD_RETIRED (0x82D5): "The counter counts each architecturally executed instruction counted by
L2D_LFB_HIT_LDST_RETIRED that is a Memory-reading instruction." -/
def occL2dLfbHitLdRetired (b : Obs) : Bool := occL2dLfbHitLdstRetired b && b.own .l2dLfbHitLdRetired

/-- R1045 L3D_LFB_HIT_LDST_RETIRED (0x82DE): "The counter counts each architecturally executed Memory-reading instruction or
Memory-writing instruction counted by L3D_CACHE_HIT_LDST_RETIRED that hit a recently fetched line in Level 3 data or unified
cache." -/
def occL3dLfbHitLdstRetired (b : Obs) : Bool := occL3dCacheHitLdstRetired b && b.own .l3dLfbHitLdstRetired

/-- R1037 L3D_LFB_HIT_LD_RETIRED (0x82D6): "The counter counts each architecturally executed instruction counted by
L3D_LFB_HIT_LDST_RETIRED that is a Memory-reading instruction." -/
def occL3dLfbHitLdRetired (b : Obs) : Bool := occL3dLfbHitLdstRetired b && b.own .l3dLfbHitLdRetired

/-- R1046 LL_LFB_HIT_LDST_RETIRED (0x82DF): "The counter counts each architecturally executed Memory-reading instruction or
Memory-writing instruction counted by LL_CACHE_HIT_LDST_RETIRED that hit a recently fetched line in Last level cache." -/
def occLlLfbHitLdstRetired (b : Obs) : Bool := occLlCacheHitLdstRetired b && b.own .llLfbHitLdstRetired

/-- R1038 LL_LFB_HIT_LD_RETIRED (0x82D7): "The counter counts each architecturally executed instruction counted by
LL_LFB_HIT_LDST_RETIRED that is a Memory-reading instruction." -/
def occLlLfbHitLdRetired (b : Obs) : Bool := occLlLfbHitLdstRetired b && b.own .llLfbHitLdRetired

/-- R1039 L1D_LFB_HIT_ST_RETIRED (0x82D8): "The counter counts each architecturally executed instruction counted by
L1D_LFB_HIT_LDST_RETIRED that is a Memory-writing instruction." -/
def occL1dLfbHitStRetired (b : Obs) : Bool := occL1dLfbHitLdstRetired b && b.own .l1dLfbHitStRetired

/-- R1040 L2D_LFB_HIT_ST_RETIRED (0x82D9): "The counter counts each architecturally executed instruction counted by
L2D_LFB_HIT_LDST_RETIRED that is a Memory-writing instruction." -/
def occL2dLfbHitStRetired (b : Obs) : Bool := occL2dLfbHitLdstRetired b && b.own .l2dLfbHitStRetired

/-- R1041 L3D_LFB_HIT_ST_RETIRED (0x82DA): "The counter counts each architecturally executed instruction counted by
L3D_LFB_HIT_LDST_RETIRED that is a Memory-writing instruction." -/
def occL3dLfbHitStRetired (b : Obs) : Bool := occL3dLfbHitLdstRetired b && b.own .l3dLfbHitStRetired

/-- R1042 LL_LFB_HIT_ST_RETIRED (0x82DB): "The counter counts each architecturally executed instruction counted by
LL_LFB_HIT_LDST_RETIRED that is a Memory-writing instruction." -/
def occLlLfbHitStRetired (b : Obs) : Bool := occLlLfbHitLdstRetired b && b.own .llLfbHitStRetired

/-- R1049 L1D_CACHE_HIT_LD_RETIRED (0x82E4): "The counter counts each architecturally executed instruction counted by
L1D_CACHE_HIT_LDST_RETIRED that is a Memory-reading instruction." -/
def occL1dCacheHitLdRetired (b : Obs) : Bool := occL1dCacheHitLdstRetired b && b.own .l1dCacheHitLdRetired

/-- R1050 L2D_CACHE_HIT_LD_RETIRED (0x82E5): "The counter counts each architecturally executed instruction counted by
L2D_CACHE_HIT_LDST_RETIRED that is a Memory-reading instruction." -/
def occL2dCacheHitLdRetired (b : Obs) : Bool := occL2dCacheHitLdstRetired b && b.own .l2dCacheHitLdRetired

/-- R1051 L3D_CACHE_HIT_LD_RETIRED (0x82E6): "The counter counts each architecturally executed instruction counted by
L3D_CACHE_HIT_LDST_RETIRED that is a Memory-reading instruction." -/
def occL3dCacheHitLdRetired (b : Obs) : Bool := occL3dCacheHitLdstRetired b && b.own .l3dCacheHitLdRetired

/-- R1052 LL_CACHE_HIT_LD_RETIRED (0x82E7): "The counter counts each architecturally executed instruction counted by
LL_CACHE_HIT_LDST_RETIRED that is a Memory-reading instruction." -/
def occLlCacheHitLdRetired (b : Obs) : Bool := occLlCacheHitLdstRetired b && b.own .llCacheHitLdRetired

/-- R1053 L1D_CACHE_HIT_ST_RETIRED (0x82E8): "The counter counts each architecturally executed instruction counted by
L1D_CACHE_HIT_LDST_RETIRED that is a Memory-writing instruction." -/
def occL1dCacheHitStRetired (b : Obs) : Bool := occL1dCacheHitLdstRetired b && b.own .l1dCacheHitStRetired

/-- R1054 L2D_CACHE_HIT_ST_RETIRED (0x82E9): "The counter counts each architecturally executed instruction counted by
L2D_CACHE_HIT_LDST_RETIRED that is a Memory-writing instruction." -/
def occL2dCacheHitStRetired (b : Obs) : Bool := occL2dCacheHitLdstRetired b && b.own .l2dCacheHitStRetired

/-- R1055 L3D_CACHE_HIT_ST_RETIRED (0x82EA): "The counter counts each architecturally executed instruction counted by
L3D_CACHE_HIT_LDST_RETIRED that is a Memory-writing instruction." -/
def occL3dCacheHitStRetired (b : Obs) : Bool := occL3dCacheHitLdstRetired b && b.own .l3dCacheHitStRetired

/-- R1056 LL_CACHE_HIT_ST_RETIRED (0x82EB): "The counter counts each architecturally executed instruction counted by
LL_CACHE_HIT_LDST_RETIRED that is a Memory-writing instruction." -/
def occLlCacheHitStRetired (b : Obs) : Bool := occLlCacheHitLdstRetired b && b.own .llCacheHitStRetired

/-- R1061 ITLB_HIT_RETIRED (0x82F0): "The counter counts each instruction which was architecturally executed counted by INST_RETIRED
that did not cause a refill of an instruction TLB involving at least one translation table walk access." The fault clauses read the faults
of the occurrence, whichever access of the instruction made them. Log 69. -/
def occItlbHitRetired (b : Obs) : Bool :=
  occInstRetired b
    && b.own .itlbHitRetired
    && b.never .faultEpd
    && !(b.has .e0pd && b.is .faultE0pd)
    && b.gated .faultOther (b.choice 149 .itlbHitRetired)

/-- R1064 DTLB_HIT_LDST_RETIRED (0x82F3): "The counter counts each Memory-reading instruction or Memory-writing instruction
architecturally executed counted by LDST_ANY_RETIRED that did not cause a refill of a data TLB involving at least one
translation table walk access." -/
def occDtlbHitLdstRetired (b : Obs) : Bool := occLdstAnyRetired b && b.own .dtlbHitLdstRetired

/-- R1062 DTLB_HIT_LD_RETIRED (0x82F1): "The counter counts each Memory-reading instruction architecturally executed counted by
DTLB_HIT_LDST_RETIRED that did not cause a refill of a data TLB involving at least one translation table walk access." -/
def occDtlbHitLdRetired (b : Obs) : Bool := occDtlbHitLdstRetired b && b.own .dtlbHitLdRetired

/-- R1063 DTLB_HIT_ST_RETIRED (0x82F2): "The counter counts each Memory-writing instruction architecturally executed counted by
DTLB_HIT_LDST_RETIRED that did not cause a refill of a data TLB involving at least one translation table walk access." -/
def occDtlbHitStRetired (b : Obs) : Bool := occDtlbHitLdstRetired b && b.own .dtlbHitStRetired

/-- R1065 ITLB_WALK_RETIRED (0x82F4): "The counter counts each instruction which was architecturally executed counted by
INST_RETIRED that caused a refill of an instruction TLB involving at least one translation table walk access." The fault clauses read the faults
of the occurrence, whichever access of the instruction made them. Log 69. -/
def occItlbWalkRetired (b : Obs) : Bool :=
  occInstRetired b
    && b.own .itlbWalkRetired
    && b.never .faultEpd
    && !(b.has .e0pd && b.is .faultE0pd)
    && b.gated .faultOther (b.choice 149 .itlbWalkRetired)

/-- R1068 DTLB_WALK_LDST_RETIRED (0x82F7): "The counter counts each Memory-reading instruction or Memory-writing instruction
architecturally executed counted by LDST_ANY_RETIRED that caused a refill of a data TLB involving at least one translation table
walk access." The fault clauses read the faults
of the occurrence, whichever access of the instruction made them. Log 69. -/
def occDtlbWalkLdstRetired (b : Obs) : Bool :=
  occLdstAnyRetired b
    && b.own .dtlbWalkLdstRetired
    && b.never .faultEpd
    && !(b.has .e0pd && b.is .faultE0pd)
    && !(b.has .sve && b.is .faultNfd)
    && b.gated .faultOther (b.choice 152 .dtlbWalkLdstRetired)

/-- R1066 DTLB_WALK_LD_RETIRED (0x82F5): "The counter counts each Memory-reading instruction architecturally executed counted by
DTLB_WALK_LDST_RETIRED that caused a refill of a data TLB involving at least one translation table walk access." The fault clauses read the faults
of the occurrence, whichever access of the instruction made them. Log 69. -/
def occDtlbWalkLdRetired (b : Obs) : Bool :=
  occDtlbWalkLdstRetired b
    && b.own .dtlbWalkLdRetired
    && b.never .faultEpd
    && !(b.has .e0pd && b.is .faultE0pd)
    && !(b.has .sve && b.is .faultNfd)
    && b.gated .faultOther (b.choice 150 .dtlbWalkLdRetired)

/-- R1067 DTLB_WALK_ST_RETIRED (0x82F6): "The counter counts each Memory-writing instruction architecturally executed counted by
DTLB_WALK_LDST_RETIRED that caused a refill of a data TLB involving at least one translation table walk access." The fault clauses read the faults
of the occurrence, whichever access of the instruction made them. Log 69. -/
def occDtlbWalkStRetired (b : Obs) : Bool :=
  occDtlbWalkLdstRetired b
    && b.own .dtlbWalkStRetired
    && b.never .faultEpd
    && !(b.has .e0pd && b.is .faultE0pd)
    && !(b.has .sve && b.is .faultNfd)
    && b.gated .faultOther (b.choice 151 .dtlbWalkStRetired)

/-- R1069 DTLB_WALK_PRF (0x82F8): "The counter counts each software prefetch or hardware prefetch access counted by L1D_TLB_PRF that
causes a refill or update of a data or unified TLB involving at least one translation table walk access." -/
def occDtlbWalkPrf (b : Obs) : Bool :=
  occL1dTlbPrf b
    && b.own .dtlbWalkPrf
    && b.never .tlbMaintenance
    && b.never .faultEpd
    && !(b.has .e0pd && b.is .faultE0pd)
    && !(b.has .sve && b.is .faultNfd)
    && b.gated .faultOther (b.choice 153 .dtlbWalkPrf)

/-- R1070 ITLB_WALK_PRF (0x82F9): "The counter counts each software prefetch or hardware prefetch access counted by L1I_TLB_PRF that
causes a refill or update of an instruction TLB involving at least one translation table walk access." -/
def occItlbWalkPrf (b : Obs) : Bool :=
  occL1iTlbPrf b
    && b.own .itlbWalkPrf
    && b.never .tlbMaintenance
    && b.never .faultEpd
    && !(b.has .e0pd && b.is .faultE0pd)
    && b.gated .faultOther (b.choice 153 .itlbWalkPrf)

/-- R1075 L1D_TLB_HWPRF (0x82FE): "The counter counts each access counted by L1D_TLB_PRF that is due to a hardware prefetch." -/
def occL1dTlbHwprf (b : Obs) : Bool :=
  occL1dTlbPrf b
    && b.own .l1dTlbHwprf
    && b.never .faultEpd
    && !(b.has .e0pd && b.is .faultE0pd)
    && !(b.has .sve && b.is .faultNfd)
    && b.gated .faultOther (b.choice 59 .l1dTlbHwprf)

/-- R1071 DTLB_WALK_HWPRF (0x82FA): "The counter counts each hardware prefetch access counted by L1D_TLB_HWPRF that causes a refill
or update of a data or unified TLB involving at least one translation table walk access." -/
def occDtlbWalkHwprf (b : Obs) : Bool :=
  occL1dTlbHwprf b
    && b.own .dtlbWalkHwprf
    && b.never .tlbMaintenance
    && b.never .faultEpd
    && !(b.has .e0pd && b.is .faultE0pd)
    && !(b.has .sve && b.is .faultNfd)
    && b.gated .faultOther (b.choice 154 .dtlbWalkHwprf)

/-- R1076 L1I_TLB_HWPRF (0x82FF): "The counter counts each access counted by L1I_TLB_PRF that is due to a hardware prefetch." -/
def occL1iTlbHwprf (b : Obs) : Bool :=
  occL1iTlbPrf b
    && b.own .l1iTlbHwprf
    && b.never .faultEpd
    && !(b.has .e0pd && b.is .faultE0pd)
    && b.gated .faultOther (b.choice 59 .l1iTlbHwprf)

/-- R1072 ITLB_WALK_HWPRF (0x82FB): "The counter counts each hardware prefetch access counted by L1I_TLB_HWPRF that causes a refill
or update of an instruction TLB involving at least one translation table walk access." -/
def occItlbWalkHwprf (b : Obs) : Bool :=
  occL1iTlbHwprf b
    && b.own .itlbWalkHwprf
    && b.never .tlbMaintenance
    && b.never .faultEpd
    && !(b.has .e0pd && b.is .faultE0pd)
    && b.gated .faultOther (b.choice 154 .itlbWalkHwprf)

/-- R1085 DSNP_HITM_LDST_RETIRED (0x830C): "The counter counts each architecturally executed Memory-reading instruction or
Memory-writing instruction counted by LDST_ANY_RETIRED that hit modified data in a data cache outside the cache hierarchy of
this PE." -/
def occDsnpHitmLdstRetired (b : Obs) : Bool := occLdstAnyRetired b && b.own .dsnpHitmLdstRetired

/-- R1077 DSNP_HITM_LD_RETIRED (0x8304): "The counter counts each architecturally executed instruction counted by
DSNP_HITM_LDST_RETIRED that is a Memory-reading instruction." -/
def occDsnpHitmLdRetired (b : Obs) : Bool := occDsnpHitmLdstRetired b && b.own .dsnpHitmLdRetired

/-- R1086 DSNP_HITM_NEAR_LDST_RETIRED (0x830D): "The counter counts each architecturally executed Memory-reading instruction or
Memory-writing instruction counted by DSNP_HITM_LDST_RETIRED that hit modified data outside of the cache hierarchy of this PE in
the local PE cluster." -/
def occDsnpHitmNearLdstRetired (b : Obs) : Bool := occDsnpHitmLdstRetired b && b.own .dsnpHitmNearLdstRetired

/-- R1078 DSNP_HITM_NEAR_LD_RETIRED (0x8305): "The counter counts each architecturally executed instruction counted by
DSNP_HITM_NEAR_LDST_RETIRED that is a Memory-reading instruction." -/
def occDsnpHitmNearLdRetired (b : Obs) : Bool := occDsnpHitmNearLdstRetired b && b.own .dsnpHitmNearLdRetired

/-- R1087 DSNP_HITM_FAR_LDST_RETIRED (0x830E): "The counter counts each architecturally executed Memory-reading instruction or
Memory-writing instruction counted by DSNP_HITM_LDST_RETIRED that hit modified data outside the local PE cluster on the same
device." -/
def occDsnpHitmFarLdstRetired (b : Obs) : Bool := occDsnpHitmLdstRetired b && b.own .dsnpHitmFarLdstRetired

/-- R1079 DSNP_HITM_FAR_LD_RETIRED (0x8306): "The counter counts each architecturally executed instruction counted by
DSNP_HITM_FAR_LDST_RETIRED that is a Memory-reading instruction." -/
def occDsnpHitmFarLdRetired (b : Obs) : Bool := occDsnpHitmFarLdstRetired b && b.own .dsnpHitmFarLdRetired

/-- R1088 DSNP_HITM_REMOTE_LDST_RETIRED (0x830F): "The counter counts each architecturally executed Memory-reading instruction or
Memory-writing instruction counted by DSNP_HITM_LDST_RETIRED that hit modified data on a remote device." -/
def occDsnpHitmRemoteLdstRetired (b : Obs) : Bool := occDsnpHitmLdstRetired b && b.own .dsnpHitmRemoteLdstRetired

/-- R1080 DSNP_HITM_REMOTE_LD_RETIRED (0x8307): "The counter counts each architecturally executed instruction counted by
DSNP_HITM_REMOTE_LDST_RETIRED that is a Memory-reading instruction." -/
def occDsnpHitmRemoteLdRetired (b : Obs) : Bool := occDsnpHitmRemoteLdstRetired b && b.own .dsnpHitmRemoteLdRetired

/-- R1081 DSNP_HITM_ST_RETIRED (0x8308): "The counter counts each architecturally executed instruction counted by
DSNP_HITM_LDST_RETIRED that is a Memory-writing instruction." -/
def occDsnpHitmStRetired (b : Obs) : Bool := occDsnpHitmLdstRetired b && b.own .dsnpHitmStRetired

/-- R1082 DSNP_HITM_NEAR_ST_RETIRED (0x8309): "The counter counts each architecturally executed instruction counted by
DSNP_HITM_NEAR_LDST_RETIRED that is a Memory-writing instruction." -/
def occDsnpHitmNearStRetired (b : Obs) : Bool := occDsnpHitmNearLdstRetired b && b.own .dsnpHitmNearStRetired

/-- R1083 DSNP_HITM_FAR_ST_RETIRED (0x830A): "The counter counts each architecturally executed instruction counted by
DSNP_HITM_FAR_LDST_RETIRED that is a Memory-writing instruction." -/
def occDsnpHitmFarStRetired (b : Obs) : Bool := occDsnpHitmFarLdstRetired b && b.own .dsnpHitmFarStRetired

/-- R1084 DSNP_HITM_REMOTE_ST_RETIRED (0x830B): "The counter counts each architecturally executed instruction counted by
DSNP_HITM_REMOTE_LDST_RETIRED that is a Memory-writing instruction." -/
def occDsnpHitmRemoteStRetired (b : Obs) : Bool := occDsnpHitmRemoteLdstRetired b && b.own .dsnpHitmRemoteStRetired

/-- R1089 ISNP_HIT_RETIRED (0x8310): "The counter counts each instruction architecturally executed counted by INST_RETIRED that hit
in an instruction cache outside the cache hierarchy of this PE when fetched." -/
def occIsnpHitRetired (b : Obs) : Bool := occInstRetired b && b.own .isnpHitRetired

end Sys2Proof.Machine
end

