-- ==== Sys2Proof/Machine/Occ7.lean ====
section
/-!
DEFINITION. `Occ(E)` (40_common_event_rules.md R120, R122) of the events, part 7 of 8: which occurrences a counter sees as
occurrences of E. Each definition conjoins the clauses of the event's own rule; a parent ("counted by X") stands before its
children, so the parts follow that order and not the order of the numbers.
-/

namespace Sys2Proof.Machine

/-- R1090 ISNP_HIT_NEAR_RETIRED (0x8311): "The counter counts each instruction architecturally executed counted by ISNP_HIT_RETIRED
that hit outside of the cache hierarchy of this PE in the local PE cluster when fetched." -/
def occIsnpHitNearRetired (b : Obs) : Bool := occIsnpHitRetired b && b.own .isnpHitNearRetired

/-- R1091 ISNP_HIT_FAR_RETIRED (0x8312): "The counter counts each instruction architecturally executed counted by ISNP_HIT_RETIRED
that hit outside the local PE cluster on the same device when fetched." -/
def occIsnpHitFarRetired (b : Obs) : Bool := occIsnpHitRetired b && b.own .isnpHitFarRetired

/-- R1092 ISNP_HIT_REMOTE_RETIRED (0x8313): "The counter counts each instruction architecturally executed counted by
ISNP_HIT_RETIRED that hit on a remote device when fetched." -/
def occIsnpHitRemoteRetired (b : Obs) : Bool := occIsnpHitRetired b && b.own .isnpHitRemoteRetired

/-- R1101 DSNP_HIT_LDST_RETIRED (0x831C): "The counter counts each architecturally executed Memory-reading instruction or
Memory-writing instruction counted by LDST_ANY_RETIRED that hit in a data cache outside the cache hierarchy of this PE." -/
def occDsnpHitLdstRetired (b : Obs) : Bool := occLdstAnyRetired b && b.own .dsnpHitLdstRetired

/-- R1093 DSNP_HIT_LD_RETIRED (0x8314): "The counter counts each architecturally executed instruction counted by
DSNP_HIT_LDST_RETIRED that is a Memory-reading instruction." -/
def occDsnpHitLdRetired (b : Obs) : Bool := occDsnpHitLdstRetired b && b.own .dsnpHitLdRetired

/-- R1102 DSNP_HIT_NEAR_LDST_RETIRED (0x831D): "The counter counts each architecturally executed Memory-reading instruction or
Memory-writing instruction counted by DSNP_HIT_LDST_RETIRED that hit outside of the cache hierarchy of this PE in the local PE
cluster." -/
def occDsnpHitNearLdstRetired (b : Obs) : Bool := occDsnpHitLdstRetired b && b.own .dsnpHitNearLdstRetired

/-- R1094 DSNP_HIT_NEAR_LD_RETIRED (0x8315): "The counter counts each architecturally executed instruction counted by
DSNP_HIT_NEAR_LDST_RETIRED that is a Memory-reading instruction." -/
def occDsnpHitNearLdRetired (b : Obs) : Bool := occDsnpHitNearLdstRetired b && b.own .dsnpHitNearLdRetired

/-- R1103 DSNP_HIT_FAR_LDST_RETIRED (0x831E): "The counter counts each architecturally executed Memory-reading instruction or
Memory-writing instruction counted by DSNP_HIT_LDST_RETIRED that hit outside the local PE cluster on the same device." -/
def occDsnpHitFarLdstRetired (b : Obs) : Bool := occDsnpHitLdstRetired b && b.own .dsnpHitFarLdstRetired

/-- R1095 DSNP_HIT_FAR_LD_RETIRED (0x8316): "The counter counts each architecturally executed instruction counted by
DSNP_HIT_FAR_LDST_RETIRED that is a Memory-reading instruction." -/
def occDsnpHitFarLdRetired (b : Obs) : Bool := occDsnpHitFarLdstRetired b && b.own .dsnpHitFarLdRetired

/-- R1104 DSNP_HIT_REMOTE_LDST_RETIRED (0x831F): "The counter counts each architecturally executed Memory-reading instruction or
Memory-writing instruction counted by DSNP_HIT_LDST_RETIRED that hit on a remote device." -/
def occDsnpHitRemoteLdstRetired (b : Obs) : Bool := occDsnpHitLdstRetired b && b.own .dsnpHitRemoteLdstRetired

/-- R1096 DSNP_HIT_REMOTE_LD_RETIRED (0x8317): "The counter counts each architecturally executed instruction counted by
DSNP_HIT_REMOTE_LDST_RETIRED that is a Memory-reading instruction." -/
def occDsnpHitRemoteLdRetired (b : Obs) : Bool := occDsnpHitRemoteLdstRetired b && b.own .dsnpHitRemoteLdRetired

/-- R1097 DSNP_HIT_ST_RETIRED (0x8318): "The counter counts each architecturally executed instruction counted by
DSNP_HIT_LDST_RETIRED that is a Memory-writing instruction." -/
def occDsnpHitStRetired (b : Obs) : Bool := occDsnpHitLdstRetired b && b.own .dsnpHitStRetired

/-- R1098 DSNP_HIT_NEAR_ST_RETIRED (0x8319): "The counter counts each architecturally executed instruction counted by
DSNP_HIT_NEAR_LDST_RETIRED that is a Memory-writing instruction." -/
def occDsnpHitNearStRetired (b : Obs) : Bool := occDsnpHitNearLdstRetired b && b.own .dsnpHitNearStRetired

/-- R1099 DSNP_HIT_FAR_ST_RETIRED (0x831A): "The counter counts each architecturally executed instruction counted by
DSNP_HIT_FAR_LDST_RETIRED that is a Memory-writing instruction." -/
def occDsnpHitFarStRetired (b : Obs) : Bool := occDsnpHitFarLdstRetired b && b.own .dsnpHitFarStRetired

/-- R1100 DSNP_HIT_REMOTE_ST_RETIRED (0x831B): "The counter counts each architecturally executed instruction counted by
DSNP_HIT_REMOTE_LDST_RETIRED that is a Memory-writing instruction." -/
def occDsnpHitRemoteStRetired (b : Obs) : Bool := occDsnpHitRemoteLdstRetired b && b.own .dsnpHitRemoteStRetired

/-- R1105 L1D_CACHE_REFILL_PERCYC (0x8320): "The counter increments by the number of Level 1 data or unified cache refills counted
by L1D_CACHE_REFILL in progress on each Processor cycle." -/
def occL1dCacheRefillPercyc (b : Obs) : Bool := b.processorCycle

/-- R1106 L2D_CACHE_REFILL_PERCYC (0x8321): "The counter increments by the number of Level 2 data or unified cache refills counted
by L2D_CACHE_REFILL in progress on each Processor cycle." -/
def occL2dCacheRefillPercyc (b : Obs) : Bool := b.processorCycle

/-- R1107 L3D_CACHE_REFILL_PERCYC (0x8322): "The counter increments by the number of Level 3 data or unified cache refills counted
by L3D_CACHE_REFILL in progress on each Processor cycle." -/
def occL3dCacheRefillPercyc (b : Obs) : Bool := b.processorCycle

/-- R1108 L1I_CACHE_REFILL_PERCYC (0x8324): "The counter increments by the number of Level 1 instruction or unified cache refills
counted by L1I_CACHE_REFILL in progress on each Processor cycle." -/
def occL1iCacheRefillPercyc (b : Obs) : Bool := b.processorCycle

/-- R1109 L2I_CACHE_REFILL_PERCYC (0x8325): "The counter increments by the number of Level 2 instruction or unified cache refills
counted by L2I_CACHE_REFILL in progress on each Processor cycle." -/
def occL2iCacheRefillPercyc (b : Obs) : Bool := b.processorCycle

/-- R1110 REMOTE_CACHE_HIT_RD (0x8328): "The counter counts each cache hit on a remote device due to a demand read." -/
def occRemoteCacheHitRd (b : Obs) : Bool := b.own .remoteCacheHitRd

/-- R1111 REMOTE_CACHE_HITM_RD (0x8329): "The counter counts each cache hit on a remote device counted by REMOTE_CACHE_HIT_RD that
accesses a previously modified location." -/
def occRemoteCacheHitmRd (b : Obs) : Bool := occRemoteCacheHitRd b && b.own .remoteCacheHitmRd

/-- R1112 REMOTE_LFB_HIT_RD (0x832A): "The counter counts each cache hit on a remote device counted by REMOTE_CACHE_HIT_RD that hits
a recently fetched line." -/
def occRemoteLfbHitRd (b : Obs) : Bool := occRemoteCacheHitRd b && b.own .remoteLfbHitRd

/-- R1113 REMOTE_CACHE_HIT_PRFM (0x832B): "The counter counts each cache hit on a remote device due to a software prefetch." -/
def occRemoteCacheHitPrfm (b : Obs) : Bool := b.own .remoteCacheHitPrfm

/-- R1114 STALL_BACKEND_ATOMIC_FP (0x832C): "The counter counts each cycle counted by STALL_BACKEND_ATOMIC when the backend is
processing an Atomic in-memory floating-point operation." -/
def occStallBackendAtomicFp (b : Obs) : Bool := occStallBackendAtomic b && b.own .stallBackendAtomicFp

/-- R1117 LSE_FP_LDST_SPEC (0x832F): "The counter counts each in-memory floating-point operation counted by LSE_LDST_SPEC that
atomically loads a value from memory, operates on the value, and stores the result of the operation to memory." -/
def occLseFpLdstSpec (b : Obs) : Bool := occLseLdstSpec b && b.own .lseFpLdstSpec

/-- R1115 LSE_FP_LD_SPEC (0x832D): "The counter counts each in-memory floating-point operation counted by LSE_FP_LDST_SPEC that
atomically loads a value from memory, operates on that value, stores the result of the operation to memory, and writes the
initially loaded value to a destination register." -/
def occLseFpLdSpec (b : Obs) : Bool := occLseFpLdstSpec b && b.own .lseFpLdSpec

/-- R1116 LSE_FP_ST_SPEC (0x832E): "The counter counts each in-memory floating-point operation counted by LSE_FP_LDST_SPEC that
atomically loads a value from memory, operates on that value, stores the result of the operation to memory, and does not write
the initially loaded value to a destination register." -/
def occLseFpStSpec (b : Obs) : Bool := occLseFpLdstSpec b && b.own .lseFpStSpec

/-- R1118 L1GCS_CACHE (0x8330): "The counter counts each GCS data read operation or GCS data write operation that causes a cache
access to at least a Level 1 cache." -/
def occL1gcsCache (b : Obs) : Bool :=
  b.own .l1gcsCache
    && (!b.impl.separateGcsCache || (b.gated .cacheMaintenance (b.choice 32 .l1gcsCache) && b.never .statusOnly))

/-- R1119 L1GCS_CACHE_RW (0x8331): "The counter counts each access counted by L1GCS_CACHE that is due to a demand Memory-read
operation or demand Memory-write operation." -/
def occL1gcsCacheRw (b : Obs) : Bool := occL1gcsCache b && b.own .l1gcsCacheRw

/-- R1120 L1GCS_CACHE_HWPRF (0x8332): "The counter counts each access counted by L1GCS_CACHE that is due to a GCS hardware
prefetcher." -/
def occL1gcsCacheHwprf (b : Obs) : Bool := occL1gcsCache b && b.own .l1gcsCacheHwprf

/-- R1121 L1GCS_CACHE_MISS (0x8334): "The counter counts each access counted by L1GCS_CACHE_RW that misses in the Level 1 caches
causing an access to outside of the Level 1 caches of this PE." -/
def occL1gcsCacheMiss (b : Obs) : Bool := occL1gcsCacheRw b && b.own .l1gcsCacheMiss

/-- R1122 L1GCS_CACHE_MISS_RD (0x8335): "The counter counts each access counted by L1GCS_CACHE_MISS that is also a Memory-read
operation." -/
def occL1gcsCacheMissRd (b : Obs) : Bool :=
  occL1gcsCacheMiss b
    && b.own .l1gcsCacheMissRd
    && b.gated .cacheMaintenance (b.choice 32 .l1gcsCacheMissRd)

/-- R1123 L1GCS_CACHE_HIT_RW (0x8336): "The counter counts each access counted by L1GCS_CACHE_RW that hits in a Level 1 cache." -/
def occL1gcsCacheHitRw (b : Obs) : Bool := occL1gcsCacheRw b && b.own .l1gcsCacheHitRw

/-- R1124 L1GCS_CACHE_HIT_RW_FHWPRF (0x8337): "The counter counts each demand access first hit counted by L1GCS_CACHE_HIT_RW where
the cache line was fetched by a GCS hardware prefetcher." -/
def occL1gcsCacheHitRwFhwprf (b : Obs) : Bool :=
  occL1gcsCacheHitRw b
    && b.own .l1gcsCacheHitRwFhwprf
    && b.never .laterHit
    && b.never .lineAlreadyReported

/-- R1125 L1GCS_CACHE_REFILL (0x8338): "The counter counts each access counted by L1GCS_CACHE that causes a refill of a Level 1
cache from outside of the Level 1 cache." -/
def occL1gcsCacheRefill (b : Obs) : Bool :=
  occL1gcsCache b
    && b.own .l1gcsCacheRefill
    && b.never .previousMiss
    && b.never .missWithoutRefill

/-- R1126 L1GCS_CACHE_REFILL_HWPRF (0x8339): "The counter counts each hardware prefetch counted by L1GCS_CACHE_HWPRF that causes a
refill of a Level 1 cache from outside of the Level 1 cache." -/
def occL1gcsCacheRefillHwprf (b : Obs) : Bool := occL1gcsCacheHwprf b && b.own .l1gcsCacheRefillHwprf

/-- R1127 L1GCS_CACHE_REFILL_PERCYC (0x833A): "The counter increments by the number of Level 1 GCS cache refills counted by
L1GCS_CACHE_REFILL in progress on each Processor cycle." -/
def occL1gcsCacheRefillPercyc (b : Obs) : Bool := b.processorCycle

/-- R1128 L1GCS_LFB_HIT_RW (0x833C): "The counter counts each demand access counted by L1GCS_CACHE_HIT_RW that hits a recently
fetched line in a Level 1 cache." -/
def occL1gcsLfbHitRw (b : Obs) : Bool := occL1gcsCacheHitRw b && b.own .l1gcsLfbHitRw

/-- R1129 L1GCS_LFB_HIT_RW_FHWPRF (0x833D): "The counter counts each demand access line-fill buffer first hit counted by
L1GCS_LFB_HIT_RW where the cache line was fetched by a GCS hardware prefetcher." -/
def occL1gcsLfbHitRwFhwprf (b : Obs) : Bool := occL1gcsLfbHitRw b && b.own .l1gcsLfbHitRwFhwprf

/-- R1130 L1GCS_CACHE_INVAL (0x833E): "The counter counts each invalidation of a cache line in a Level 1 GCS cache." -/
def occL1gcsCacheInval (b : Obs) : Bool := b.own .l1gcsCacheInval && b.never .refillInvalidates

/-- R1131 L1GCS_TLB (0x8340): "The counter counts each GCS data read operation or GCS data write operation that causes a TLB access
to at least a Level 1 TLB." -/
def occL1gcsTlb (b : Obs) : Bool := b.own .l1gcsTlb && b.never .tlbMaintenance

/-- R1132 L1GCS_TLB_RW (0x8341): "The counter counts each access counted by L1GCS_TLB that is due to a demand Memory-read operation
or demand Memory-write operation." -/
def occL1gcsTlbRw (b : Obs) : Bool := occL1gcsTlb b && b.own .l1gcsTlbRw

/-- R1133 L1GCS_TLB_HWPRF (0x8342): "The counter counts each access counted by L1GCS_TLB that is due to a GCS hardware prefetch." -/
def occL1gcsTlbHwprf (b : Obs) : Bool := occL1gcsTlb b && b.own .l1gcsTlbHwprf

/-- R1134 GCSTLB_WALK (0x8344): "The counter counts each access counted by L1GCS_TLB that causes a refill of a TLB involving at
least one translation table walk access." Conflict C7: the union of the two lists. -/
def occGcstlbWalk (b : Obs) : Bool :=
  occL1gcsTlb b
    && b.own .gcstlbWalk
    && !(b.has .e0pd && b.is .faultE0pd)
    && b.never .faultEpd
    && b.never .tlbMaintenance
    && b.gated .faultOther (b.choice 59 .gcstlbWalk)
    && !(b.has .sve && b.is .faultNfd)

/-- R1135 GCSTLB_WALK_RW (0x8345): "The counter counts each demand access counted by both GCSTLB_WALK and L1GCS_TLB_RW." -/
def occGcstlbWalkRw (b : Obs) : Bool := occGcstlbWalk b && occL1gcsTlbRw b

/-- R1136 GCSTLB_WALK_PERCYC (0x8346): "The counter increments by the number of translation table walks counted by GCSTLB_WALK in
progress on each Processor cycle." -/
def occGcstlbWalkPercyc (b : Obs) : Bool := b.processorCycle

/-- R1137 GCSTLB_WALK_STEP (0x8347): "The counter counts each translation table walk access due to a refill of a TLB." -/
def occGcstlbWalkStep (b : Obs) : Bool :=
  b.own .gcstlbWalkStep
    && b.never .faultEpd
    && b.never .faultE0pd
    && b.gated .faultOther (b.choice 155 .gcstlbWalkStep)

/-- R1138 SAMPLE_FEED_FP (0x8348): "The counter counts each sample counted by SAMPLE_FEED that is a floating-point data-processing,
load, or store operation." -/
def occSampleFeedFp (b : Obs) : Bool := occSampleFeed b && b.own .sampleFeedFp

/-- R1139 SAMPLE_FEED_SIMD (0x8349): "The counter counts each sample counted by SAMPLE_FEED that is a SIMD data-processing, load, or
store operation." -/
def occSampleFeedSimd (b : Obs) : Bool := occSampleFeed b && b.own .sampleFeedSimd

/-- R1140 STALL_BACKEND_L1GCS (0x8350): "The counter counts each cycle counted by STALL_BACKEND_MEMBOUND when there is a demand data
miss in a first level cache." -/
def occStallBackendL1gcs (b : Obs) : Bool :=
  occStallBackendMembound b
    && b.own .stallBackendL1gcs
    && !(b.implements .stallBackendL2d && occStallBackendL2d b)
    && !b.missLast .stallBackendMem .dataMissLast .nonCacheableInProgress

/-- R1141 STALL_BACKEND_GCSTLB (0x8351): "The counter counts each cycle counted by STALL_BACKEND_MEMBOUND when there is a demand
data miss in a TLB." -/
def occStallBackendGcstlb (b : Obs) : Bool := occStallBackendMembound b && b.own .stallBackendGcstlb

/-- R1144 SVE_CMP_IGRANULE_SPEC (0x8354): "The counter counts each speculatively executed SVE in-granule comparison operation
counted by SVE_SPEC due to an instruction that detects or counts matching elements between segments in vectors." -/
def occSveCmpIgranuleSpec (b : Obs) : Bool :=
  occSveSpec b
    && (b.own .sveCmpIgranuleSpec || b.oneOf [.sveMatch, .sveNmatch, .sveHistseg])

/-- R1145 SVE_CMP_XGRANULE_SPEC (0x8355): "The counter counts each speculatively executed SVE cross-granule comparison operation
counted by SVE_SPEC due to due to an instruction that detects or counts matching elements between vectors." -/
def occSveCmpXgranuleSpec (b : Obs) : Bool := occSveSpec b && (b.own .sveCmpXgranuleSpec || b.oneOf [.sveHistcnt])

/-- R1146 SVE_BITPERM_SPEC (0x8356): "The counter counts each speculatively executed SVE permute operation counted by SVE_SPEC due
to an instruction that permutes bits within elements of a vector." -/
def occSveBitpermSpec (b : Obs) : Bool := occSveSpec b && (b.own .sveBitpermSpec || b.oneOf [.sveBdep, .sveBext, .sveBgrp])

/-- R1149 SME_INST_SPEC (0x835E): "The counter counts each speculatively executed operation counted by SE_INST_SPEC that is
classified as an SME operation." -/
def occSmeInstSpec (b : Obs) : Bool := occSeInstSpec b && b.classSmeInstSpec

/-- R1151 SME_INT8_SPEC (0x8360): "The counter counts each speculatively executed 8-bit integer data-processing operation counted by
SME_INT_SPEC due to an instruction which reads from or writes to any part of the ZA array." -/
def occSmeInt8Spec (b : Obs) : Bool := occSmeIntSpec b && occSeIntSpec b && b.own .smeInt8Spec && b.aarch32In 156 .seInt8Spec

/-- R1152 SE_INT8_SPEC (0x8361): "The counter counts each speculatively executed 8-bit integer data-processing operation counted by
SE_INT_SPEC due to an A64 Advanced SIMD, SVE, or SME operation." -/
def occSeInt8Spec (b : Obs) : Bool := (occAseInt8Spec b || occSveInt8Spec b || occSmeInt8Spec b)

/-- R1153 SME_FP_BF16_SPEC (0x8362): "The counter counts each speculatively executed BFloat16 floating-point data-processing
operation counted by SME_FP_SPEC due to an instruction which reads from or writes to any part of the ZA array." -/
def occSmeFpBf16Spec (b : Obs) : Bool := occSmeFpSpec b && occSeFpSpec b && b.own .smeFpBf16Spec

/-- R1154 SE_FP_BF16_SPEC (0x8363): "The counter counts each speculatively executed BFloat16 floating-point data-processing
operation counted by SE_FP_SPEC due to an A64 Advanced SIMD, SVE, or SME operation." -/
def occSeFpBf16Spec (b : Obs) : Bool :=
  (occSveFpBf16Spec b || occSmeFpBf16Spec b
      || (b.impl.seFpBf16IncludesAse && occAseFpBf16Spec b && occSeFpSpec b))

/-- R1155 SME_INT16_SPEC (0x8364): "The counter counts each speculatively executed 16-bit integer data-processing operation counted
by SME_INT_SPEC due to an instruction which reads from or writes to any part of the ZA array." -/
def occSmeInt16Spec (b : Obs) : Bool :=
  occSmeIntSpec b
    && occSeIntSpec b
    && b.own .smeInt16Spec
    && b.aarch32In 157 .seInt16Spec

/-- R1156 SE_INT16_SPEC (0x8365): "The counter counts each speculatively executed 16-bit integer data-processing operation counted
by SE_INT_SPEC due to an A64 Advanced SIMD, SVE, or SME operation." -/
def occSeInt16Spec (b : Obs) : Bool := (occAseInt16Spec b || occSveInt16Spec b || occSmeInt16Spec b)

/-- R1157 SME_FP_HP_SPEC (0x8366): "The counter counts each speculatively executed half-precision floating-point data-processing
operation counted by SME_FP_SPEC due to an instruction which reads from or writes to any part of the ZA array." -/
def occSmeFpHpSpec (b : Obs) : Bool := occSmeFpSpec b && occSeFpSpec b && b.own .smeFpHpSpec && b.aarch32In 158 .seFpHpSpec

/-- R1158 SE_FP_HP_SPEC (0x8367): "The counter counts each speculatively executed half-precision floating-point data-processing
operation counted by SE_FP_SPEC due to an A64 Advanced SIMD, SVE, or SME operation." -/
def occSeFpHpSpec (b : Obs) : Bool := (occAseFpHpSpec b || occSveFpHpSpec b || occSmeFpHpSpec b)

/-- R1159 SME_INT32_SPEC (0x8368): "The counter counts each speculatively executed 32-bit integer data-processing operation counted
by SME_INT_SPEC due to an instruction which reads from or writes to any part of the ZA array." -/
def occSmeInt32Spec (b : Obs) : Bool :=
  occSmeIntSpec b
    && occSeIntSpec b
    && b.own .smeInt32Spec
    && b.aarch32In 159 .seInt32Spec

/-- R1160 SE_INT32_SPEC (0x8369): "The counter counts each speculatively executed 32-bit integer data-processing operation counted
by SE_INT_SPEC due to an A64 Advanced SIMD, SVE, or SME operation." -/
def occSeInt32Spec (b : Obs) : Bool := (occAseInt32Spec b || occSveInt32Spec b || occSmeInt32Spec b)

/-- R1161 SME_FP_SP_SPEC (0x836A): "The counter counts each speculatively executed single-precision floating-point data-processing
operation counted by SME_FP_SPEC due to an instruction which reads from or writes to any part of the ZA array." -/
def occSmeFpSpSpec (b : Obs) : Bool := occSmeFpSpec b && occSeFpSpec b && b.own .smeFpSpSpec && b.aarch32In 160 .seFpSpSpec

/-- R1162 SE_FP_SP_SPEC (0x836B): "The counter counts each speculatively executed single-precision floating-point data-processing
operation counted by SE_FP_SPEC due to an A64 Advanced SIMD, SVE, or SME operation." -/
def occSeFpSpSpec (b : Obs) : Bool := (occAseFpSpSpec b || occSveFpSpSpec b || occSmeFpSpSpec b)

/-- R1163 SME_INT64_SPEC (0x836C): "The counter counts each speculatively executed 64-bit integer data-processing operation counted
by SME_INT_SPEC due to an instruction which reads from or writes to any part of the ZA array." -/
def occSmeInt64Spec (b : Obs) : Bool :=
  occSmeIntSpec b
    && occSeIntSpec b
    && b.own .smeInt64Spec
    && b.aarch32In 161 .seInt64Spec

/-- R1164 SE_INT64_SPEC (0x836D): "The counter counts each speculatively executed 64-bit integer data-processing operation counted
by SE_INT_SPEC due to an A64 Advanced SIMD, SVE, or SME operation." -/
def occSeInt64Spec (b : Obs) : Bool := (occAseInt64Spec b || occSveInt64Spec b || occSmeInt64Spec b)

/-- R1165 SME_FP_DP_SPEC (0x836E): "The counter counts each speculatively executed double-precision floating-point data-processing
operation counted by SME_FP_SPEC due to an instruction which reads from or writes to any part of the ZA array." -/
def occSmeFpDpSpec (b : Obs) : Bool := occSmeFpSpec b && occSeFpSpec b && b.own .smeFpDpSpec && b.aarch32In 162 .seFpDpSpec

/-- R1166 SE_FP_DP_SPEC (0x836F): "The counter counts each speculatively executed double-precision floating-point data-processing
operation counted by SE_FP_SPEC due to an A64 Advanced SIMD, SVE, or SME operation." -/
def occSeFpDpSpec (b : Obs) : Bool := (occAseFpDpSpec b || occSveFpDpSpec b || occSmeFpDpSpec b)

/-- R1167 SME_FP_ADDSUB_SPEC (0x8370): "The counter counts each speculatively executed floating-point addition or subtraction
operation counted by SE_FP_ADDSUB_SPEC due to any of the following instructions:" -/
def occSmeFpAddsubSpec (b : Obs) : Bool :=
  occSeFpSpec b
    && b.own .smeFpAddsubSpec
    && (b.oneOf [.sme2Bfadd, .sme2Bfsub, .sme2Fadd, .sme2Fsub])

/-- R1168 SE_FP_ADDSUB_SPEC (0x8371): "The counter counts each speculatively executed floating-point addition or subtraction
operation counted by SE_FP_SPEC due to an A64 Advanced SIMD, SVE, or SME operation." -/
def occSeFpAddsubSpec (b : Obs) : Bool := (occAseFpAddsubSpec b || occSveFpAddsubSpec b || occSmeFpAddsubSpec b)

/-- R1169 SME_FP_FMA_SPEC (0x8372): "The counter counts each speculatively executed floating-point multiply-add, multiply-add long,
multiply-subtract, or multiply-subtract long operation counted by SE_FP_FMA_SPEC due to any of the following instructions:" -/
def occSmeFpFmaSpec (b : Obs) : Bool :=
  occSeFpSpec b
    && b.own .smeFpFmaSpec
    && (b.oneOf [.sme2Bfmla, .sme2Bfmlal, .sme2Bfmls, .sme2Bfmlsl, .sme2Fmla, .sme2Fmlal, .sme2Fmlall, .sme2Fmls, .sme2Fmlsl])

/-- R1170 SE_FP_FMA_SPEC (0x8373): "The counter counts each speculatively executed floating-point multiply-add, multiply-add long,
multiply-subtract, or multiply-subtract long operation counted by SE_FP_SPEC due to an A64 Advanced SIMD, SVE, or SME
operation." -/
def occSeFpFmaSpec (b : Obs) : Bool := (occAseFpFmaSpec b || occSveFpFmaSpec b || occSmeFpFmaSpec b)

/-- R1171 SME_FP_DOT_SPEC (0x8374): "The counter counts each speculatively executed floating-point dot product operation counted by
SE_FP_DOT_SPEC due to any of the following instructions:" -/
def occSmeFpDotSpec (b : Obs) : Bool :=
  occSeFpSpec b
    && b.own .smeFpDotSpec
    && (b.oneOf [.sme2Bfdot, .sme2Bfvdot, .sme2Fdot, .sme2Fvdot, .sme2Fvdotb, .sme2Fvdott])

/-- R1172 SE_FP_DOT_SPEC (0x8375): "The counter counts each speculatively executed floating-point dot product operation counted by
SE_FP_SPEC due to any of the following A64 instructions:" The names are those of the three events it unites. Log 64. -/
def occSeFpDotSpec (b : Obs) : Bool := (occAseFpDotSpec b || occSveFpDotSpec b || occSmeFpDotSpec b)

/-- R1173 SME_FP_MOPA_SPEC (0x8376): "The counter counts each speculatively executed floating-point outer product and accumulate, or
outer product and subtract operation counted by SE_FP_SPEC due to any of the following instructions:" -/
def occSmeFpMopaSpec (b : Obs) : Bool :=
  occSeFpSpec b
    && b.own .smeFpMopaSpec
    && (b.oneOf [.sme2Bfmopa, .sme2Bfmops, .sme2Fmopa, .sme2Fmops])

/-- R1176 SME_INT_MUL_SPEC (0x837A): "The counter counts each speculatively executed integer multiply, multiply-add, or
multiply-subtract operation counted by SE_INT_MUL_SPEC due to any of the following instructions:" -/
def occSmeIntMulSpec (b : Obs) : Bool :=
  occSeIntSpec b
    && b.own .smeIntMulSpec
    && (b.oneOf [.sme2Smlal, .sme2Smlall, .sme2Smlsl, .sme2Smlsll, .sme2Sumlall, .sme2Umlal, .sme2Umlall, .sme2Umlsl, .sme2Umlsll, .sme2Usmlall])

/-- R1177 SE_INT_MUL_SPEC (0x837B): "The counter counts each speculatively executed integer multiply, multiply-add, or
multiply-subtract operation counted by SE_INT_SPEC due to an A64 Advanced SIMD, SVE, or SME operation." -/
def occSeIntMulSpec (b : Obs) : Bool := (occAseIntMulSpec b || occSveIntMulSpec b || occSmeIntMulSpec b)

/-- R1178 SME_INT_DOT_SPEC (0x837C): "The counter counts each speculatively executed integer dot product operation counted by
SE_INT_DOT_SPEC due to any of the following instructions:" -/
def occSmeIntDotSpec (b : Obs) : Bool :=
  occSeIntSpec b
    && b.own .smeIntDotSpec
    && (b.oneOf [.sme2Sdot, .sme2Sudot, .sme2Suvdot, .sme2Svdot, .sme2Udot, .sme2Usdot, .sme2Usvdot, .sme2Uvdot])

/-- R1179 SE_INT_DOT_SPEC (0x837D): "The counter counts each speculatively executed integer dot product operation counted by
SE_INT_SPEC due to any of the following A64 instructions:" The names are those of the three events it unites. Log 64. -/
def occSeIntDotSpec (b : Obs) : Bool := (occAseIntDotSpec b || occSveIntDotSpec b || occSmeIntDotSpec b)

/-- R1180 SME_INT_MOPA_SPEC (0x837E): "The counter counts each speculatively executed integer outer product and accumulate, or outer
product and subtract operation counted by SE_INT_SPEC due to any of the following instructions:" -/
def occSmeIntMopaSpec (b : Obs) : Bool :=
  occSeIntSpec b
    && b.own .smeIntMopaSpec
    && (b.oneOf [.sme2Bmopa, .sme2Bmops, .sme2Smopa, .sme2Smops, .sme2Sumopa4Way, .sme2Sumops, .sme2Umopa, .sme2Umops, .sme2Usmopa4Way, .sme2Usmops])

/-- R1181 ZA_ACTIVE (0x8380): "The counter counts each cycle counted by CPU_CYCLES when PSTATE.ZA is 1." -/
def occZaActive (b : Obs) : Bool := occCpuCycles b && b.is .pstateZa

/-- R1183 SME_PRED2_SPEC (0x8384): "The counter counts each speculatively executed 2D operation which targets the ZA array counted
by SVE_PRED_SPEC due to an SME instruction with a Governing predicate operand that determines the Active elements." -/
def occSmePred2Spec (b : Obs) : Bool := occSvePredSpec b && b.own .smePred2Spec

/-- R1182 SME_PRED2_NOT_FULL_SPEC (0x8381): "The counter counts each speculatively executed predicated 2D SME operation which
targets the ZA array counted by SME_PRED2_SPEC where at least one element is Inactive." -/
def occSmePred2NotFullSpec (b : Obs) : Bool := occSmePred2Spec b && b.own .smePred2NotFullSpec

/-- R1184 SME_PRED2_EMPTY_SPEC (0x8385): "The counter counts each speculatively executed predicated 2D SME operation which targets
the ZA array counted by SME_PRED2_NOT_FULL_SPEC where all elements are Inactive." -/
def occSmePred2EmptySpec (b : Obs) : Bool := occSmePred2NotFullSpec b && b.own .smePred2EmptySpec

/-- R1185 SME_PRED2_FULL_SPEC (0x8386): "The counter counts each speculatively executed predicated 2D SME operation which targets
the ZA array counted by SME_PRED2_SPEC where all elements are Active." -/
def occSmePred2FullSpec (b : Obs) : Bool := occSmePred2Spec b && b.own .smePred2FullSpec

/-- R1186 SME_PRED2_PARTIAL_SPEC (0x8387): "The counter counts each speculatively executed predicated 2D SME operation which targets
the ZA array counted by SME_PRED2_NOT_FULL_SPEC where neither all elements are Active nor all elements are Inactive." -/
def occSmePred2PartialSpec (b : Obs) : Bool := occSmePred2NotFullSpec b && b.own .smePred2PartialSpec

/-- R1193 SME_LDST_REG_SPEC (0x8390): "The counter counts each speculatively executed operation that reads from or writes to memory
counted by SME_INST_SPEC that was due to an unpredicated instruction targeting the ZA array or ZT register." -/
def occSmeLdstRegSpec (b : Obs) : Bool := occSmeInstSpec b && b.own .smeLdstRegSpec && (b.oneOf [.sme2Ldr, .sme2Str])

/-- R1187 SME_LDST_ZAREG_SPEC (0x8388): "The counter counts each speculatively executed operation that reads from or writes to
memory counted by SME_LDST_REG_SPEC that was due to an unpredicated instruction targeting the ZA array." -/
def occSmeLdstZaregSpec (b : Obs) : Bool :=
  occSmeLdstRegSpec b
    && b.own .smeLdstZaregSpec
    && (b.oneOf [.sme2LdrArrayVector, .sme2StrArrayVector])

/-- R1188 SME_LD_ZAREG_SPEC (0x8389): "The counter counts each speculatively executed operation that reads from memory counted by
SME_LDST_ZAREG_SPEC that was due to an unpredicated instruction targeting the ZA array." -/
def occSmeLdZaregSpec (b : Obs) : Bool := occSmeLdstZaregSpec b && b.own .smeLdZaregSpec && (b.oneOf [.sme2LdrArrayVector])

/-- R1189 SME_ST_ZAREG_SPEC (0x838A): "The counter counts each speculatively executed operation that writes to memory counted by
SME_LDST_ZAREG_SPEC that was due to an unpredicated instruction targeting the ZA array." -/
def occSmeStZaregSpec (b : Obs) : Bool := occSmeLdstZaregSpec b && b.own .smeStZaregSpec && (b.oneOf [.sme2StrArrayVector])

/-- R1190 SME_LDST_ZTREG_SPEC (0x838C): "The counter counts each speculatively executed operation that reads from or writes to
memory counted by SME_LDST_REG_SPEC that was due to an unpredicated instruction targeting the ZT register." -/
def occSmeLdstZtregSpec (b : Obs) : Bool :=
  occSmeLdstRegSpec b
    && b.own .smeLdstZtregSpec
    && (b.oneOf [.sme2LdrTable, .sme2StrTable])

/-- R1191 SME_LD_ZTREG_SPEC (0x838D): "The counter counts each speculatively executed operation that reads from memory counted by
SME_LDST_ZTREG_SPEC that was due to an unpredicated instruction targeting the ZT register." -/
def occSmeLdZtregSpec (b : Obs) : Bool := occSmeLdstZtregSpec b && b.own .smeLdZtregSpec && (b.oneOf [.sme2LdrTable])

/-- R1192 SME_ST_ZTREG_SPEC (0x838E): "The counter counts each speculatively executed operation that writes to memory counted by
SME_LDST_ZTREG_SPEC that was due to an unpredicated instruction targeting the ZT register." -/
def occSmeStZtregSpec (b : Obs) : Bool := occSmeLdstZtregSpec b && b.own .smeStZtregSpec && (b.oneOf [.sme2StrTable])

/-- R1194 SME_LD_REG_SPEC (0x8391): "The counter counts each speculatively executed operation that reads from memory counted by
SME_LDST_REG_SPEC that was due to an unpredicated instruction targeting the ZA array or ZT register." -/
def occSmeLdRegSpec (b : Obs) : Bool := occSmeLdstRegSpec b && b.own .smeLdRegSpec && (b.oneOf [.sme2Ldr])

/-- R1195 SME_ST_REG_SPEC (0x8392): "The counter counts each speculatively executed operation that writes to memory counted by
SME_LDST_REG_SPEC that was due to an unpredicated instruction targeting the ZA array or ZT register." -/
def occSmeStRegSpec (b : Obs) : Bool := occSmeLdstRegSpec b && b.own .smeStRegSpec && (b.oneOf [.sme2Str])

/-- R1196 SME_LDST_TILE_SPEC (0x8394): "The counter counts each speculatively executed operation that reads from or writes to memory
counted by SME_INST_SPEC that was due to an instruction with at least one governing predicate which is targeting the ZA array." -/
def occSmeLdstTileSpec (b : Obs) : Bool :=
  occSmeInstSpec b
    && b.own .smeLdstTileSpec
    && (b.oneOf [.sme2Ld1bScalarPlusScalarTileSlice, .sme2Ld1dScalarPlusScalarTileSlice, .sme2Ld1hScalarPlusScalarTileSlice, .sme2Ld1q, .sme2Ld1wScalarPlusScalarTileSlice, .sme2St1bScalarPlusScalarTileSlice, .sme2St1dScalarPlusScalarTileSlice, .sme2St1hScalarPlusScalarTileSlice, .sme2St1q, .sme2St1wScalarPlusScalarTileSlice])

/-- R1197 SME_LD_TILE_SPEC (0x8395): "The counter counts each speculatively executed operation that reads from memory counted by
SME_LDST_TILE_SPEC that was due to an instruction with at least one governing predicate which is targeting the ZA array." -/
def occSmeLdTileSpec (b : Obs) : Bool :=
  occSmeLdstTileSpec b
    && b.own .smeLdTileSpec
    && (b.oneOf [.sme2Ld1bScalarPlusScalarTileSlice, .sme2Ld1dScalarPlusScalarTileSlice, .sme2Ld1hScalarPlusScalarTileSlice, .sme2Ld1q, .sme2Ld1wScalarPlusScalarTileSlice])

/-- R1198 SME_ST_TILE_SPEC (0x8396): "The counter counts each speculatively executed operation that writes to memory counted by
SME_LDST_TILE_SPEC that was due to an instruction with at least one governing predicate which is targeting the ZA array." -/
def occSmeStTileSpec (b : Obs) : Bool :=
  occSmeLdstTileSpec b
    && b.own .smeStTileSpec
    && (b.oneOf [.sme2St1bScalarPlusScalarTileSlice, .sme2St1dScalarPlusScalarTileSlice, .sme2St1hScalarPlusScalarTileSlice, .sme2St1q, .sme2St1wScalarPlusScalarTileSlice])

/-- R1202 SE_LUT_SPEC (0x839B): "The counter counts each speculatively executed LUT operation counted by SE_INST_SPEC that returns a
value from a lookup table made up of a ZT register, Z or V register which is indexed by values from a Z or V register." -/
def occSeLutSpec (b : Obs) : Bool := occSeInstSpec b && b.own .seLutSpec

/-- R1199 ASE_LUT_SPEC (0x8398): "The counter counts each speculatively executed LUT operation counted by SE_LUT_SPEC that returns a
value from a lookup table made up of a V register which is indexed by values from a V register." -/
def occAseLutSpec (b : Obs) : Bool := occSeLutSpec b && b.own .aseLutSpec

/-- R1200 SVE_LUT_SPEC (0x8399): "The counter counts each speculatively executed LUT operation counted by SE_LUT_SPEC that returns a
value from a lookup table made up of a Z register which is indexed by values from a Z register." -/
def occSveLutSpec (b : Obs) : Bool :=
  occSeLutSpec b
    && b.own .sveLutSpec
    && (b.oneOf [.sve2Luti28BitAnd16Bit, .sve2Luti48BitAnd16Bit])

/-- R1201 SME_LUT_SPEC (0x839A): "The counter counts each speculatively executed LUT operation counted by SE_LUT_SPEC that returns a
value from a lookup table made up of a ZT register which is indexed by values from a Z register." -/
def occSmeLutSpec (b : Obs) : Bool := occSeLutSpec b && b.own .smeLutSpec && (b.oneOf [.sme2Luti2, .sme2Luti4])

/-- R1203 N1_CACHE_HIT_RD (0x83A0): "The counter counts each cache hit at distance 1 due to a demand read." -/
def occN1CacheHitRd (b : Obs) : Bool := b.own .n1CacheHitRd && b.distance == 1

/-- R1204 N2_CACHE_HIT_RD (0x83A1): "The counter counts each cache hit at distance 2 due to a demand read." -/
def occN2CacheHitRd (b : Obs) : Bool := b.own .n2CacheHitRd && b.distance == 2

/-- R1205 N3_CACHE_HIT_RD (0x83A2): "The counter counts each cache hit at distance 3 due to a demand read." -/
def occN3CacheHitRd (b : Obs) : Bool := b.own .n3CacheHitRd && b.distance == 3

/-- R1206 N4_CACHE_HIT_RD (0x83A3): "The counter counts each cache hit at distance 4 due to a demand read." -/
def occN4CacheHitRd (b : Obs) : Bool := b.own .n4CacheHitRd && b.distance == 4

/-- R1207 N1_CACHE_HIT_PRFM (0x83A4): "The counter counts each cache hit at distance 1 due to a software prefetch." -/
def occN1CacheHitPrfm (b : Obs) : Bool := b.own .n1CacheHitPrfm && b.distance == 1

/-- R1208 N2_CACHE_HIT_PRFM (0x83A5): "The counter counts each cache hit at distance 2 due to a software prefetch." -/
def occN2CacheHitPrfm (b : Obs) : Bool := b.own .n2CacheHitPrfm && b.distance == 2

/-- R1209 N3_CACHE_HIT_PRFM (0x83A6): "The counter counts each cache hit at distance 3 due to a software prefetch." -/
def occN3CacheHitPrfm (b : Obs) : Bool := b.own .n3CacheHitPrfm && b.distance == 3

/-- R1210 N4_CACHE_HIT_PRFM (0x83A7): "The counter counts each cache hit at distance 4 due to a software prefetch." -/
def occN4CacheHitPrfm (b : Obs) : Bool := b.own .n4CacheHitPrfm && b.distance == 4

/-- R1211 N1_CACHE1_HIT_RD (0x83A8): "The counter counts each demand read counted by N1_CACHE_HIT_RD due to a demand read accessing
a first cache type at distance 1." -/
def occN1Cache1HitRd (b : Obs) : Bool := occN1CacheHitRd b && b.own .n1Cache1HitRd && b.cacheType == 1

/-- R1212 N2_CACHE1_HIT_RD (0x83A9): "The counter counts each demand read counted by N2_CACHE_HIT_RD due to a demand read accessing
a first cache type at distance 2." -/
def occN2Cache1HitRd (b : Obs) : Bool := occN2CacheHitRd b && b.own .n2Cache1HitRd && b.cacheType == 1

/-- R1213 N3_CACHE1_HIT_RD (0x83AA): "The counter counts each demand read counted by N3_CACHE_HIT_RD due to a demand read accessing
a first cache type at distance 3." -/
def occN3Cache1HitRd (b : Obs) : Bool := occN3CacheHitRd b && b.own .n3Cache1HitRd && b.cacheType == 1

/-- R1214 N4_CACHE1_HIT_RD (0x83AB): "The counter counts each demand read counted by N4_CACHE_HIT_RD due to a demand read accessing
a first cache type at distance 4." -/
def occN4Cache1HitRd (b : Obs) : Bool := occN4CacheHitRd b && b.own .n4Cache1HitRd && b.cacheType == 1

/-- R1215 N1_CACHE1_HIT_PRFM (0x83AC): "The counter counts each software prefetch counted by N1_CACHE_HIT_PRFM due to a software
prefetch accessing a first cache type at distance 1." -/
def occN1Cache1HitPrfm (b : Obs) : Bool := occN1CacheHitPrfm b && b.own .n1Cache1HitPrfm && b.cacheType == 1

/-- R1216 N2_CACHE1_HIT_PRFM (0x83AD): "The counter counts each software prefetch counted by N2_CACHE_HIT_PRFM due to a software
prefetch accessing a first cache type at distance 2." -/
def occN2Cache1HitPrfm (b : Obs) : Bool := occN2CacheHitPrfm b && b.own .n2Cache1HitPrfm && b.cacheType == 1

/-- R1217 N3_CACHE1_HIT_PRFM (0x83AE): "The counter counts each software prefetch counted by N3_CACHE_HIT_PRFM due to a software
prefetch accessing a first cache type at distance 3." -/
def occN3Cache1HitPrfm (b : Obs) : Bool := occN3CacheHitPrfm b && b.own .n3Cache1HitPrfm && b.cacheType == 1

/-- R1218 N4_CACHE1_HIT_PRFM (0x83AF): "The counter counts each software prefetch counted by N4_CACHE_HIT_PRFM due to a software
prefetch accessing a first cache type at distance 4." -/
def occN4Cache1HitPrfm (b : Obs) : Bool := occN4CacheHitPrfm b && b.own .n4Cache1HitPrfm && b.cacheType == 1

/-- R1219 N1_CACHE2_HIT_RD (0x83B0): "The counter counts each demand read counted by N1_CACHE_HIT_RD due to a demand read accessing
a second cache type at distance 1." -/
def occN1Cache2HitRd (b : Obs) : Bool := occN1CacheHitRd b && b.own .n1Cache2HitRd && b.cacheType == 2

/-- R1220 N2_CACHE2_HIT_RD (0x83B1): "The counter counts each demand read counted by N2_CACHE_HIT_RD due to a demand read accessing
a second cache type at distance 2." -/
def occN2Cache2HitRd (b : Obs) : Bool := occN2CacheHitRd b && b.own .n2Cache2HitRd && b.cacheType == 2

/-- R1221 N3_CACHE2_HIT_RD (0x83B2): "The counter counts each demand read counted by N3_CACHE_HIT_RD due to a demand read accessing
a second cache type at distance 3." -/
def occN3Cache2HitRd (b : Obs) : Bool := occN3CacheHitRd b && b.own .n3Cache2HitRd && b.cacheType == 2

/-- R1222 N4_CACHE2_HIT_RD (0x83B3): "The counter counts each demand read counted by N4_CACHE_HIT_RD due to a demand read accessing
a second cache type at distance 4." -/
def occN4Cache2HitRd (b : Obs) : Bool := occN4CacheHitRd b && b.own .n4Cache2HitRd && b.cacheType == 2

/-- R1223 N1_CACHE2_HIT_PRFM (0x83B4): "The counter counts each software prefetch counted by N1_CACHE_HIT_PRFM due to a software
prefetch accessing a second cache type at distance 1." -/
def occN1Cache2HitPrfm (b : Obs) : Bool := occN1CacheHitPrfm b && b.own .n1Cache2HitPrfm && b.cacheType == 2

/-- R1224 N2_CACHE2_HIT_PRFM (0x83B5): "The counter counts each software prefetch counted by N2_CACHE_HIT_PRFM due to a software
prefetch accessing a second cache type at distance 2." -/
def occN2Cache2HitPrfm (b : Obs) : Bool := occN2CacheHitPrfm b && b.own .n2Cache2HitPrfm && b.cacheType == 2

/-- R1225 N3_CACHE2_HIT_PRFM (0x83B6): "The counter counts each software prefetch counted by N3_CACHE_HIT_PRFM due to a software
prefetch accessing a second cache type at distance 3." -/
def occN3Cache2HitPrfm (b : Obs) : Bool := occN3CacheHitPrfm b && b.own .n3Cache2HitPrfm && b.cacheType == 2

/-- R1226 N4_CACHE2_HIT_PRFM (0x83B7): "The counter counts each software prefetch counted by N4_CACHE_HIT_PRFM due to a software
prefetch accessing a second cache type at distance 4." -/
def occN4Cache2HitPrfm (b : Obs) : Bool := occN4CacheHitPrfm b && b.own .n4Cache2HitPrfm && b.cacheType == 2

/-- R1227 N1_CACHE3_HIT_RD (0x83B8): "The counter counts each demand read counted by N1_CACHE_HIT_RD due to a demand read accessing
a third cache type at distance 1." -/
def occN1Cache3HitRd (b : Obs) : Bool := occN1CacheHitRd b && b.own .n1Cache3HitRd && b.cacheType == 3

/-- R1228 N2_CACHE3_HIT_RD (0x83B9): "The counter counts each demand read counted by N2_CACHE_HIT_RD due to a demand read accessing
a third cache type at distance 2." -/
def occN2Cache3HitRd (b : Obs) : Bool := occN2CacheHitRd b && b.own .n2Cache3HitRd && b.cacheType == 3

/-- R1229 N3_CACHE3_HIT_RD (0x83BA): "The counter counts each demand read counted by N3_CACHE_HIT_RD due to a demand read accessing
a third cache type at distance 3." -/
def occN3Cache3HitRd (b : Obs) : Bool := occN3CacheHitRd b && b.own .n3Cache3HitRd && b.cacheType == 3

/-- R1230 N4_CACHE3_HIT_RD (0x83BB): "The counter counts each demand read counted by N4_CACHE_HIT_RD due to a demand read accessing
a third cache type at distance 4." -/
def occN4Cache3HitRd (b : Obs) : Bool := occN4CacheHitRd b && b.own .n4Cache3HitRd && b.cacheType == 3

/-- R1231 N1_CACHE3_HIT_PRFM (0x83BC): "The counter counts each software prefetch counted by N1_CACHE_HIT_PRFM due to a software
prefetch accessing a third cache type at distance 1." -/
def occN1Cache3HitPrfm (b : Obs) : Bool := occN1CacheHitPrfm b && b.own .n1Cache3HitPrfm && b.cacheType == 3

/-- R1232 N2_CACHE3_HIT_PRFM (0x83BD): "The counter counts each software prefetch counted by N2_CACHE_HIT_PRFM due to a software
prefetch accessing a third cache type at distance 2." -/
def occN2Cache3HitPrfm (b : Obs) : Bool := occN2CacheHitPrfm b && b.own .n2Cache3HitPrfm && b.cacheType == 3

/-- R1233 N3_CACHE3_HIT_PRFM (0x83BE): "The counter counts each software prefetch counted by N3_CACHE_HIT_PRFM due to a software
prefetch accessing a third cache type at distance 3." -/
def occN3Cache3HitPrfm (b : Obs) : Bool := occN3CacheHitPrfm b && b.own .n3Cache3HitPrfm && b.cacheType == 3

/-- R1234 N4_CACHE3_HIT_PRFM (0x83BF): "The counter counts each software prefetch counted by N4_CACHE_HIT_PRFM due to a software
prefetch accessing a third cache type at distance 4." -/
def occN4Cache3HitPrfm (b : Obs) : Bool := occN4CacheHitPrfm b && b.own .n4Cache3HitPrfm && b.cacheType == 3

/-- R1235 N1_CACHE_HITM_RD (0x83C0): "The counter counts each demand read counted by N1_CACHE_HIT_RD that accesses a previously
modified location in a cache at distance 1." -/
def occN1CacheHitmRd (b : Obs) : Bool := occN1CacheHitRd b && b.own .n1CacheHitmRd

/-- R1236 N2_CACHE_HITM_RD (0x83C1): "The counter counts each demand read counted by N2_CACHE_HIT_RD that accesses a previously
modified location in a cache at distance 2." -/
def occN2CacheHitmRd (b : Obs) : Bool := occN2CacheHitRd b && b.own .n2CacheHitmRd

/-- R1237 N3_CACHE_HITM_RD (0x83C2): "The counter counts each demand read counted by N3_CACHE_HIT_RD that accesses a previously
modified location in a cache at distance 3." -/
def occN3CacheHitmRd (b : Obs) : Bool := occN3CacheHitRd b && b.own .n3CacheHitmRd

/-- R1238 N4_CACHE_HITM_RD (0x83C3): "The counter counts each demand read counted by N4_CACHE_HIT_RD that accesses a previously
modified location in a cache at distance 4." -/
def occN4CacheHitmRd (b : Obs) : Bool := occN4CacheHitRd b && b.own .n4CacheHitmRd

/-- R1239 N1_LFB_HIT_RD (0x83C4): "The counter counts each demand read counted by N1_CACHE_HIT_RD that hits a recently fetched line
in a cache at distance 1." -/
def occN1LfbHitRd (b : Obs) : Bool := occN1CacheHitRd b && b.own .n1LfbHitRd

/-- R1240 N2_LFB_HIT_RD (0x83C5): "The counter counts each demand read counted by N2_CACHE_HIT_RD that hits a recently fetched line
in a cache at distance 2." -/
def occN2LfbHitRd (b : Obs) : Bool := occN2CacheHitRd b && b.own .n2LfbHitRd

/-- R1241 N3_LFB_HIT_RD (0x83C6): "The counter counts each demand read counted by N3_CACHE_HIT_RD that hits a recently fetched line
in a cache at distance 3." -/
def occN3LfbHitRd (b : Obs) : Bool := occN3CacheHitRd b && b.own .n3LfbHitRd

/-- R1242 N4_LFB_HIT_RD (0x83C7): "The counter counts each demand read counted by N4_CACHE_HIT_RD that hits a recently fetched line
in a cache at distance 4." -/
def occN4LfbHitRd (b : Obs) : Bool := occN4CacheHitRd b && b.own .n4LfbHitRd

/-- R1243 N1_CACHE1_HITM_RD (0x83C8): "The counter counts each demand read counted by N1_CACHE_HITM_RD that accesses a previously
modified location in a first cache type at distance 1." -/
def occN1Cache1HitmRd (b : Obs) : Bool := occN1CacheHitmRd b && b.own .n1Cache1HitmRd && b.cacheType == 1

/-- R1244 N2_CACHE1_HITM_RD (0x83C9): "The counter counts each demand read counted by N2_CACHE_HITM_RD that accesses a previously
modified location in a first cache type at distance 2." -/
def occN2Cache1HitmRd (b : Obs) : Bool := occN2CacheHitmRd b && b.own .n2Cache1HitmRd && b.cacheType == 1

/-- R1245 N3_CACHE1_HITM_RD (0x83CA): "The counter counts each demand read counted by N3_CACHE_HITM_RD that accesses a previously
modified location in a first cache type at distance 3." -/
def occN3Cache1HitmRd (b : Obs) : Bool := occN3CacheHitmRd b && b.own .n3Cache1HitmRd && b.cacheType == 1

/-- R1246 N4_CACHE1_HITM_RD (0x83CB): "The counter counts each demand read counted by N4_CACHE_HITM_RD that accesses a previously
modified location in a first cache type at distance 4." -/
def occN4Cache1HitmRd (b : Obs) : Bool := occN4CacheHitmRd b && b.own .n4Cache1HitmRd && b.cacheType == 1

end Sys2Proof.Machine
end

