-- ==== Sys2Proof/Machine/Occ8.lean ====
section
/-!
DEFINITION. `Occ(E)` (40_common_event_rules.md R120, R122) of the events, part 8 of 8: which occurrences a counter sees as
occurrences of E. Each definition conjoins the clauses of the event's own rule; a parent ("counted by X") stands before its
children, so the parts follow that order and not the order of the numbers.
-/

namespace Sys2Proof.Machine

/-- R1247 N1_LFB1_HIT_RD (0x83CC): "The counter counts each demand read counted by N1_LFB_HIT_RD that hits a recently fetched line
in a first cache type at distance 1." -/
def occN1Lfb1HitRd (b : Obs) : Bool := occN1LfbHitRd b && b.own .n1Lfb1HitRd && b.cacheType == 1

/-- R1248 N2_LFB1_HIT_RD (0x83CD): "The counter counts each demand read counted by N2_LFB_HIT_RD that hits a recently fetched line
in a first cache type at distance 2." -/
def occN2Lfb1HitRd (b : Obs) : Bool := occN2LfbHitRd b && b.own .n2Lfb1HitRd && b.cacheType == 1

/-- R1249 N3_LFB1_HIT_RD (0x83CE): "The counter counts each demand read counted by N3_LFB_HIT_RD that hits a recently fetched line
in a first cache type at distance 3." -/
def occN3Lfb1HitRd (b : Obs) : Bool := occN3LfbHitRd b && b.own .n3Lfb1HitRd && b.cacheType == 1

/-- R1250 N4_LFB1_HIT_RD (0x83CF): "The counter counts each demand read counted by N4_LFB_HIT_RD that hits a recently fetched line
in a first cache type at distance 4." -/
def occN4Lfb1HitRd (b : Obs) : Bool := occN4LfbHitRd b && b.own .n4Lfb1HitRd && b.cacheType == 1

/-- R1251 N1_CACHE2_HITM_RD (0x83D0): "The counter counts each demand read counted by N1_CACHE_HITM_RD that accesses a previously
modified location in a second cache type at distance 1." -/
def occN1Cache2HitmRd (b : Obs) : Bool := occN1CacheHitmRd b && b.own .n1Cache2HitmRd && b.cacheType == 2

/-- R1252 N2_CACHE2_HITM_RD (0x83D1): "The counter counts each demand read counted by N2_CACHE_HITM_RD that accesses a previously
modified location in a second cache type at distance 2." -/
def occN2Cache2HitmRd (b : Obs) : Bool := occN2CacheHitmRd b && b.own .n2Cache2HitmRd && b.cacheType == 2

/-- R1253 N3_CACHE2_HITM_RD (0x83D2): "The counter counts each demand read counted by N3_CACHE_HITM_RD that accesses a previously
modified location in a second cache type at distance 3." -/
def occN3Cache2HitmRd (b : Obs) : Bool := occN3CacheHitmRd b && b.own .n3Cache2HitmRd && b.cacheType == 2

/-- R1254 N4_CACHE2_HITM_RD (0x83D3): "The counter counts each demand read counted by N4_CACHE_HITM_RD that accesses a previously
modified location in a second cache type at distance 4." -/
def occN4Cache2HitmRd (b : Obs) : Bool := occN4CacheHitmRd b && b.own .n4Cache2HitmRd && b.cacheType == 2

/-- R1255 N1_LFB2_HIT_RD (0x83D4): "The counter counts each demand read counted by N1_LFB_HIT_RD that hits a recently fetched line
in a second cache type at distance 1." -/
def occN1Lfb2HitRd (b : Obs) : Bool := occN1LfbHitRd b && b.own .n1Lfb2HitRd && b.cacheType == 2

/-- R1256 N2_LFB2_HIT_RD (0x83D5): "The counter counts each demand read counted by N2_LFB_HIT_RD that hits a recently fetched line
in a second cache type at distance 2." -/
def occN2Lfb2HitRd (b : Obs) : Bool := occN2LfbHitRd b && b.own .n2Lfb2HitRd && b.cacheType == 2

/-- R1257 N3_LFB2_HIT_RD (0x83D6): "The counter counts each demand read counted by N3_LFB_HIT_RD that hits a recently fetched line
in a second cache type at distance 3." -/
def occN3Lfb2HitRd (b : Obs) : Bool := occN3LfbHitRd b && b.own .n3Lfb2HitRd && b.cacheType == 2

/-- R1258 N4_LFB2_HIT_RD (0x83D7): "The counter counts each demand read counted by N4_LFB_HIT_RD that hits a recently fetched line
in a second cache type at distance 4." -/
def occN4Lfb2HitRd (b : Obs) : Bool := occN4LfbHitRd b && b.own .n4Lfb2HitRd && b.cacheType == 2

/-- R1259 N1_CACHE3_HITM_RD (0x83D8): "The counter counts each demand read counted by N1_CACHE_HITM_RD that accesses a previously
modified location in a third cache type at distance 1." -/
def occN1Cache3HitmRd (b : Obs) : Bool := occN1CacheHitmRd b && b.own .n1Cache3HitmRd && b.cacheType == 3

/-- R1260 N2_CACHE3_HITM_RD (0x83D9): "The counter counts each demand read counted by N2_CACHE_HITM_RD that accesses a previously
modified location in a third cache type at distance 2." -/
def occN2Cache3HitmRd (b : Obs) : Bool := occN2CacheHitmRd b && b.own .n2Cache3HitmRd && b.cacheType == 3

/-- R1261 N3_CACHE3_HITM_RD (0x83DA): "The counter counts each demand read counted by N3_CACHE_HITM_RD that accesses a previously
modified location in a third cache type at distance 3." -/
def occN3Cache3HitmRd (b : Obs) : Bool := occN3CacheHitmRd b && b.own .n3Cache3HitmRd && b.cacheType == 3

/-- R1262 N4_CACHE3_HITM_RD (0x83DB): "The counter counts each demand read counted by N4_CACHE_HITM_RD that accesses a previously
modified location in a third cache type at distance 4." -/
def occN4Cache3HitmRd (b : Obs) : Bool := occN4CacheHitmRd b && b.own .n4Cache3HitmRd && b.cacheType == 3

/-- R1263 N1_LFB3_HIT_RD (0x83DC): "The counter counts each demand read counted by N1_LFB_HIT_RD that hits a recently fetched line
in a third cache type at distance 1." -/
def occN1Lfb3HitRd (b : Obs) : Bool := occN1LfbHitRd b && b.own .n1Lfb3HitRd && b.cacheType == 3

/-- R1264 N2_LFB3_HIT_RD (0x83DD): "The counter counts each demand read counted by N2_LFB_HIT_RD that hits a recently fetched line
in a third cache type at distance 2." -/
def occN2Lfb3HitRd (b : Obs) : Bool := occN2LfbHitRd b && b.own .n2Lfb3HitRd && b.cacheType == 3

/-- R1265 N3_LFB3_HIT_RD (0x83DE): "The counter counts each demand read counted by N3_LFB_HIT_RD that hits a recently fetched line
in a third cache type at distance 3." -/
def occN3Lfb3HitRd (b : Obs) : Bool := occN3LfbHitRd b && b.own .n3Lfb3HitRd && b.cacheType == 3

/-- R1266 N4_LFB3_HIT_RD (0x83DF): "The counter counts each demand read counted by N4_LFB_HIT_RD that hits a recently fetched line
in a third cache type at distance 4." -/
def occN4Lfb3HitRd (b : Obs) : Bool := occN4LfbHitRd b && b.own .n4Lfb3HitRd && b.cacheType == 3

/-- R1267 N1_MEM_RD (0x83E0): "The counter counts each demand read to memory at distance 1." -/
def occN1MemRd (b : Obs) : Bool := b.own .n1MemRd && b.distance == 1

/-- R1268 N2_MEM_RD (0x83E1): "The counter counts each demand read to memory at distance 2." -/
def occN2MemRd (b : Obs) : Bool := b.own .n2MemRd && b.distance == 2

/-- R1269 N3_MEM_RD (0x83E2): "The counter counts each demand read to memory at distance 3." -/
def occN3MemRd (b : Obs) : Bool := b.own .n3MemRd && b.distance == 3

/-- R1270 N4_MEM_RD (0x83E3): "The counter counts each demand read to memory at distance 4." -/
def occN4MemRd (b : Obs) : Bool := b.own .n4MemRd && b.distance == 4

/-- R1271 N1_MEM_PRFM (0x83E4): "The counter counts each software prefetch to memory at distance 1." -/
def occN1MemPrfm (b : Obs) : Bool := b.own .n1MemPrfm && b.distance == 1

/-- R1272 N2_MEM_PRFM (0x83E5): "The counter counts each software prefetch to memory at distance 2." -/
def occN2MemPrfm (b : Obs) : Bool := b.own .n2MemPrfm && b.distance == 2

/-- R1273 N3_MEM_PRFM (0x83E6): "The counter counts each software prefetch to memory at distance 3." -/
def occN3MemPrfm (b : Obs) : Bool := b.own .n3MemPrfm && b.distance == 3

/-- R1274 N4_MEM_PRFM (0x83E7): "The counter counts each software prefetch to memory at distance 4." -/
def occN4MemPrfm (b : Obs) : Bool := b.own .n4MemPrfm && b.distance == 4

/-- R1275 N1_MEM1_RD (0x83E8): "The counter counts each demand read counted by N1_MEM_RD to a first memory type at distance 1." -/
def occN1Mem1Rd (b : Obs) : Bool := occN1MemRd b && b.own .n1Mem1Rd && b.memoryType == 1

/-- R1276 N2_MEM1_RD (0x83E9): "The counter counts each demand read counted by N2_MEM_RD to a first memory type at distance 2." -/
def occN2Mem1Rd (b : Obs) : Bool := occN2MemRd b && b.own .n2Mem1Rd && b.memoryType == 1

/-- R1277 N3_MEM1_RD (0x83EA): "The counter counts each demand read counted by N3_MEM_RD to a first memory type at distance 3." -/
def occN3Mem1Rd (b : Obs) : Bool := occN3MemRd b && b.own .n3Mem1Rd && b.memoryType == 1

/-- R1278 N4_MEM1_RD (0x83EB): "The counter counts each demand read counted by N4_MEM_RD to a first memory type at distance 4." -/
def occN4Mem1Rd (b : Obs) : Bool := occN4MemRd b && b.own .n4Mem1Rd && b.memoryType == 1

/-- R1279 N1_MEM1_PRFM (0x83EC): "The counter counts each software prefetch counted by N1_MEM_PRFM to a first memory type at
distance 1." -/
def occN1Mem1Prfm (b : Obs) : Bool := occN1MemPrfm b && b.own .n1Mem1Prfm && b.memoryType == 1

/-- R1280 N2_MEM1_PRFM (0x83ED): "The counter counts each software prefetch counted by N2_MEM_PRFM to a first memory type at
distance 2." -/
def occN2Mem1Prfm (b : Obs) : Bool := occN2MemPrfm b && b.own .n2Mem1Prfm && b.memoryType == 1

/-- R1281 N3_MEM1_PRFM (0x83EE): "The counter counts each software prefetch counted by N3_MEM_PRFM to a first memory type at
distance 3." -/
def occN3Mem1Prfm (b : Obs) : Bool := occN3MemPrfm b && b.own .n3Mem1Prfm && b.memoryType == 1

/-- R1282 N4_MEM1_PRFM (0x83EF): "The counter counts each software prefetch counted by N4_MEM_PRFM to a first memory type at
distance 4." -/
def occN4Mem1Prfm (b : Obs) : Bool := occN4MemPrfm b && b.own .n4Mem1Prfm && b.memoryType == 1

/-- R1283 N1_MEM2_RD (0x83F0): "The counter counts each demand read counted by N1_MEM_RD to a second memory type at distance 1." -/
def occN1Mem2Rd (b : Obs) : Bool := occN1MemRd b && b.own .n1Mem2Rd && b.memoryType == 2

/-- R1284 N2_MEM2_RD (0x83F1): "The counter counts each demand read counted by N2_MEM_RD to a second memory type at distance 2." -/
def occN2Mem2Rd (b : Obs) : Bool := occN2MemRd b && b.own .n2Mem2Rd && b.memoryType == 2

/-- R1285 N3_MEM2_RD (0x83F2): "The counter counts each demand read counted by N3_MEM_RD to a second memory type at distance 3." -/
def occN3Mem2Rd (b : Obs) : Bool := occN3MemRd b && b.own .n3Mem2Rd && b.memoryType == 2

/-- R1286 N4_MEM2_RD (0x83F3): "The counter counts each demand read counted by N4_MEM_RD to a second memory type at distance 4." -/
def occN4Mem2Rd (b : Obs) : Bool := occN4MemRd b && b.own .n4Mem2Rd && b.memoryType == 2

/-- R1287 N1_MEM2_PRFM (0x83F4): "The counter counts each software prefetch counted by N1_MEM_PRFM to a second memory type at
distance 1." -/
def occN1Mem2Prfm (b : Obs) : Bool := occN1MemPrfm b && b.own .n1Mem2Prfm && b.memoryType == 2

/-- R1288 N2_MEM2_PRFM (0x83F5): "The counter counts each software prefetch counted by N2_MEM_PRFM to a second memory type at
distance 2." -/
def occN2Mem2Prfm (b : Obs) : Bool := occN2MemPrfm b && b.own .n2Mem2Prfm && b.memoryType == 2

/-- R1289 N3_MEM2_PRFM (0x83F6): "The counter counts each software prefetch counted by N3_MEM_PRFM to a second memory type at
distance 3." -/
def occN3Mem2Prfm (b : Obs) : Bool := occN3MemPrfm b && b.own .n3Mem2Prfm && b.memoryType == 2

/-- R1290 N4_MEM2_PRFM (0x83F7): "The counter counts each software prefetch counted by N4_MEM_PRFM to a second memory type at
distance 4." -/
def occN4Mem2Prfm (b : Obs) : Bool := occN4MemPrfm b && b.own .n4Mem2Prfm && b.memoryType == 2

/-- R1291 N1_MEM3_RD (0x83F8): "The counter counts each demand read counted by N1_MEM_RD to a third memory type at distance 1." -/
def occN1Mem3Rd (b : Obs) : Bool := occN1MemRd b && b.own .n1Mem3Rd && b.memoryType == 3

/-- R1292 N2_MEM3_RD (0x83F9): "The counter counts each demand read counted by N2_MEM_RD to a third memory type at distance 2." -/
def occN2Mem3Rd (b : Obs) : Bool := occN2MemRd b && b.own .n2Mem3Rd && b.memoryType == 3

/-- R1293 N3_MEM3_RD (0x83FA): "The counter counts each demand read counted by N3_MEM_RD to a third memory type at distance 3." -/
def occN3Mem3Rd (b : Obs) : Bool := occN3MemRd b && b.own .n3Mem3Rd && b.memoryType == 3

/-- R1294 N4_MEM3_RD (0x83FB): "The counter counts each demand read counted by N4_MEM_RD to a third memory type at distance 4." -/
def occN4Mem3Rd (b : Obs) : Bool := occN4MemRd b && b.own .n4Mem3Rd && b.memoryType == 3

/-- R1295 N1_MEM3_PRFM (0x83FC): "The counter counts each software prefetch counted by N1_MEM_PRFM to a third memory type at
distance 1." -/
def occN1Mem3Prfm (b : Obs) : Bool := occN1MemPrfm b && b.own .n1Mem3Prfm && b.memoryType == 3

/-- R1296 N2_MEM3_PRFM (0x83FD): "The counter counts each software prefetch counted by N2_MEM_PRFM to a third memory type at
distance 2." -/
def occN2Mem3Prfm (b : Obs) : Bool := occN2MemPrfm b && b.own .n2Mem3Prfm && b.memoryType == 3

/-- R1297 N3_MEM3_PRFM (0x83FE): "The counter counts each software prefetch counted by N3_MEM_PRFM to a third memory type at
distance 3." -/
def occN3Mem3Prfm (b : Obs) : Bool := occN3MemPrfm b && b.own .n3Mem3Prfm && b.memoryType == 3

/-- R1298 N4_MEM3_PRFM (0x83FF): "The counter counts each software prefetch counted by N4_MEM_PRFM to a third memory type at
distance 4." -/
def occN4Mem3Prfm (b : Obs) : Bool := occN4MemPrfm b && b.own .n4Mem3Prfm && b.memoryType == 3

/-- R1299 ISNP_HIT_N1_RD (0x8400): "The counter counts each snoop generated by the PE in response to a demand Instruction memory
access counted by ISNP_HIT_RD that hits in a cache at distance 1." -/
def occIsnpHitN1Rd (b : Obs) : Bool := occIsnpHitRd b && b.own .isnpHitN1Rd && b.never .snoopedSide && b.distance == 1

/-- R1300 ISNP_HIT_N2_RD (0x8401): "The counter counts each snoop generated by the PE in response to a demand Instruction memory
access counted by ISNP_HIT_RD that hits in a cache at distance 2." -/
def occIsnpHitN2Rd (b : Obs) : Bool := occIsnpHitRd b && b.own .isnpHitN2Rd && b.never .snoopedSide && b.distance == 2

/-- R1301 ISNP_HIT_N3_RD (0x8402): "The counter counts each snoop generated by the PE in response to a demand Instruction memory
access counted by ISNP_HIT_RD that hits in a cache at distance 3." -/
def occIsnpHitN3Rd (b : Obs) : Bool := occIsnpHitRd b && b.own .isnpHitN3Rd && b.never .snoopedSide && b.distance == 3

/-- R1302 ISNP_HIT_N4_RD (0x8403): "The counter counts each snoop generated by the PE in response to a demand Instruction memory
access counted by ISNP_HIT_RD that hits in a cache at distance 4." -/
def occIsnpHitN4Rd (b : Obs) : Bool := occIsnpHitRd b && b.own .isnpHitN4Rd && b.never .snoopedSide && b.distance == 4

/-- R1303 DSNP_HIT_N1_RD (0x8404): "The counter counts each snoop generated by the PE in response to a demand Memory-read operation
counted by DSNP_HIT_RD that hits in a cache at distance 1." -/
def occDsnpHitN1Rd (b : Obs) : Bool := occDsnpHitRd b && b.own .dsnpHitN1Rd && b.never .snoopedSide && b.distance == 1

/-- R1304 DSNP_HIT_N2_RD (0x8405): "The counter counts each snoop generated by the PE in response to a demand Memory-read operation
counted by DSNP_HIT_RD that hits in a cache at distance 2." -/
def occDsnpHitN2Rd (b : Obs) : Bool := occDsnpHitRd b && b.own .dsnpHitN2Rd && b.never .snoopedSide && b.distance == 2

/-- R1305 DSNP_HIT_N3_RD (0x8406): "The counter counts each snoop generated by the PE in response to a demand Memory-read operation
counted by DSNP_HIT_RD that hits in a cache at distance 3." -/
def occDsnpHitN3Rd (b : Obs) : Bool := occDsnpHitRd b && b.own .dsnpHitN3Rd && b.never .snoopedSide && b.distance == 3

/-- R1306 DSNP_HIT_N4_RD (0x8407): "The counter counts each snoop generated by the PE in response to a demand Memory-read operation
counted by DSNP_HIT_RD that hits in a cache at distance 4." -/
def occDsnpHitN4Rd (b : Obs) : Bool := occDsnpHitRd b && b.own .dsnpHitN4Rd && b.never .snoopedSide && b.distance == 4

/-- R1307 DSNP_HIT_N1_WR (0x8408): "The counter counts each snoop generated by the PE in response to a demand Memory-write operation
counted by DSNP_HIT_WR that hits in a cache at distance 1." -/
def occDsnpHitN1Wr (b : Obs) : Bool := occDsnpHitWr b && b.own .dsnpHitN1Wr && b.never .snoopedSide && b.distance == 1

/-- R1308 DSNP_HIT_N2_WR (0x8409): "The counter counts each snoop generated by the PE in response to a demand Memory-write operation
counted by DSNP_HIT_WR that hits in a cache at distance 2." -/
def occDsnpHitN2Wr (b : Obs) : Bool := occDsnpHitWr b && b.own .dsnpHitN2Wr && b.never .snoopedSide && b.distance == 2

/-- R1309 DSNP_HIT_N3_WR (0x840A): "The counter counts each snoop generated by the PE in response to a demand Memory-write operation
counted by DSNP_HIT_WR that hits in a cache at distance 3." -/
def occDsnpHitN3Wr (b : Obs) : Bool := occDsnpHitWr b && b.own .dsnpHitN3Wr && b.never .snoopedSide && b.distance == 3

/-- R1310 DSNP_HIT_N4_WR (0x840B): "The counter counts each snoop generated by the PE in response to a demand Memory-write operation
counted by DSNP_HIT_WR that hits in a cache at distance 4." -/
def occDsnpHitN4Wr (b : Obs) : Bool := occDsnpHitWr b && b.own .dsnpHitN4Wr && b.never .snoopedSide && b.distance == 4

/-- R1311 DSNP_HIT_N1_RW (0x840C): "The counter counts each snoop generated by the PE in response to a demand Memory-read operation
or demand Memory-write operation counted by DSNP_HIT_RW that hits in a cache at distance 1." -/
def occDsnpHitN1Rw (b : Obs) : Bool := occDsnpHitRw b && b.own .dsnpHitN1Rw && b.never .snoopedSide && b.distance == 1

/-- R1312 DSNP_HIT_N2_RW (0x840D): "The counter counts each snoop generated by the PE in response to a demand Memory-read operation
or demand Memory-write operation counted by DSNP_HIT_RW that hits in a cache at distance 2." -/
def occDsnpHitN2Rw (b : Obs) : Bool := occDsnpHitRw b && b.own .dsnpHitN2Rw && b.never .snoopedSide && b.distance == 2

/-- R1313 DSNP_HIT_N3_RW (0x840E): "The counter counts each snoop generated by the PE in response to a demand Memory-read operation
or demand Memory-write operation counted by DSNP_HIT_RW that hits in a cache at distance 3." -/
def occDsnpHitN3Rw (b : Obs) : Bool := occDsnpHitRw b && b.own .dsnpHitN3Rw && b.never .snoopedSide && b.distance == 3

/-- R1314 DSNP_HIT_N4_RW (0x840F): "The counter counts each snoop generated by the PE in response to a demand Memory-read operation
or demand Memory-write operation counted by DSNP_HIT_RW that hits in a cache at distance 4." -/
def occDsnpHitN4Rw (b : Obs) : Bool := occDsnpHitRw b && b.own .dsnpHitN4Rw && b.never .snoopedSide && b.distance == 4

/-- R1315 DSNP_HIT_N1_PRFM (0x8410): "The counter counts each snoop generated by the PE in response to a data prefetch instruction
counted by DSNP_HIT_PRFM that hits in a cache at distance 1." -/
def occDsnpHitN1Prfm (b : Obs) : Bool := occDsnpHitPrfm b && b.own .dsnpHitN1Prfm && b.never .snoopedSide && b.distance == 1

/-- R1316 DSNP_HIT_N2_PRFM (0x8411): "The counter counts each snoop generated by the PE in response to a data prefetch instruction
counted by DSNP_HIT_PRFM that hits in a cache at distance 2." -/
def occDsnpHitN2Prfm (b : Obs) : Bool := occDsnpHitPrfm b && b.own .dsnpHitN2Prfm && b.never .snoopedSide && b.distance == 2

/-- R1317 DSNP_HIT_N3_PRFM (0x8412): "The counter counts each snoop generated by the PE in response to a data prefetch instruction
counted by DSNP_HIT_PRFM that hits in a cache at distance 3." -/
def occDsnpHitN3Prfm (b : Obs) : Bool := occDsnpHitPrfm b && b.own .dsnpHitN3Prfm && b.never .snoopedSide && b.distance == 3

/-- R1318 DSNP_HIT_N4_PRFM (0x8413): "The counter counts each snoop generated by the PE in response to a data prefetch instruction
counted by DSNP_HIT_PRFM that hits in a cache at distance 4." -/
def occDsnpHitN4Prfm (b : Obs) : Bool := occDsnpHitPrfm b && b.own .dsnpHitN4Prfm && b.never .snoopedSide && b.distance == 4

/-- R1319 DSNP_HIT_N1_HWPRF (0x8414): "The counter counts each snoop generated by a data hardware prefetch counted by DSNP_HIT_HWPRF
that hits in a cache at distance 1." -/
def occDsnpHitN1Hwprf (b : Obs) : Bool :=
  occDsnpHitHwprf b
    && b.own .dsnpHitN1Hwprf
    && b.never .snoopedSide
    && b.distance == 1

/-- R1320 DSNP_HIT_N2_HWPRF (0x8415): "The counter counts each snoop generated by a data hardware prefetch counted by DSNP_HIT_HWPRF
that hits in a cache at distance 2." -/
def occDsnpHitN2Hwprf (b : Obs) : Bool :=
  occDsnpHitHwprf b
    && b.own .dsnpHitN2Hwprf
    && b.never .snoopedSide
    && b.distance == 2

/-- R1321 DSNP_HIT_N3_HWPRF (0x8416): "The counter counts each snoop generated by a data hardware prefetch counted by DSNP_HIT_HWPRF
that hits in a cache at distance 3." -/
def occDsnpHitN3Hwprf (b : Obs) : Bool :=
  occDsnpHitHwprf b
    && b.own .dsnpHitN3Hwprf
    && b.never .snoopedSide
    && b.distance == 3

/-- R1322 DSNP_HIT_N4_HWPRF (0x8417): "The counter counts each snoop generated by a data hardware prefetch counted by DSNP_HIT_HWPRF
that hits in a cache at distance 4." -/
def occDsnpHitN4Hwprf (b : Obs) : Bool :=
  occDsnpHitHwprf b
    && b.own .dsnpHitN4Hwprf
    && b.never .snoopedSide
    && b.distance == 4

/-- R1323 ISNP_HIT_N1_PRFM (0x8418): "The counter counts each snoop generated by the PE in response to an instruction prefetch
instruction counted by ISNP_HIT_PRFM that hits in a cache at distance 1." -/
def occIsnpHitN1Prfm (b : Obs) : Bool := occIsnpHitPrfm b && b.own .isnpHitN1Prfm && b.never .snoopedSide && b.distance == 1

/-- R1324 ISNP_HIT_N2_PRFM (0x8419): "The counter counts each snoop generated by the PE in response to an instruction prefetch
instruction counted by ISNP_HIT_PRFM that hits in a cache at distance 2." -/
def occIsnpHitN2Prfm (b : Obs) : Bool := occIsnpHitPrfm b && b.own .isnpHitN2Prfm && b.never .snoopedSide && b.distance == 2

/-- R1325 ISNP_HIT_N3_PRFM (0x841A): "The counter counts each snoop generated by the PE in response to an instruction prefetch
instruction counted by ISNP_HIT_PRFM that hits in a cache at distance 3." -/
def occIsnpHitN3Prfm (b : Obs) : Bool := occIsnpHitPrfm b && b.own .isnpHitN3Prfm && b.never .snoopedSide && b.distance == 3

/-- R1326 ISNP_HIT_N4_PRFM (0x841B): "The counter counts each snoop generated by the PE in response to an instruction prefetch
instruction counted by ISNP_HIT_PRFM that hits in a cache at distance 4." -/
def occIsnpHitN4Prfm (b : Obs) : Bool := occIsnpHitPrfm b && b.own .isnpHitN4Prfm && b.never .snoopedSide && b.distance == 4

/-- R1327 ISNP_HIT_N1_HWPRF (0x841C): "The counter counts each snoop generated by an instruction hardware prefetch counted by
ISNP_HIT_HWPRF that hits in a cache at distance 1." -/
def occIsnpHitN1Hwprf (b : Obs) : Bool :=
  occIsnpHitHwprf b
    && b.own .isnpHitN1Hwprf
    && b.never .snoopedSide
    && b.distance == 1

/-- R1328 ISNP_HIT_N2_HWPRF (0x841D): "The counter counts each snoop generated by an instruction hardware prefetch counted by
ISNP_HIT_HWPRF that hits in a cache at distance 2." -/
def occIsnpHitN2Hwprf (b : Obs) : Bool :=
  occIsnpHitHwprf b
    && b.own .isnpHitN2Hwprf
    && b.never .snoopedSide
    && b.distance == 2

/-- R1329 ISNP_HIT_N3_HWPRF (0x841E): "The counter counts each snoop generated by an instruction hardware prefetch counted by
ISNP_HIT_HWPRF that hits in a cache at distance 3." -/
def occIsnpHitN3Hwprf (b : Obs) : Bool :=
  occIsnpHitHwprf b
    && b.own .isnpHitN3Hwprf
    && b.never .snoopedSide
    && b.distance == 3

/-- R1330 ISNP_HIT_N4_HWPRF (0x841F): "The counter counts each snoop generated by an instruction hardware prefetch counted by
ISNP_HIT_HWPRF that hits in a cache at distance 4." -/
def occIsnpHitN4Hwprf (b : Obs) : Bool :=
  occIsnpHitHwprf b
    && b.own .isnpHitN4Hwprf
    && b.never .snoopedSide
    && b.distance == 4

/-- R1331 DSNP_HIT_N1_PRF (0x8420): "The counter counts each snoop generated by the PE in response to a data prefetch instruction,
or by a data hardware prefetch counted by DSNP_HIT_PRF that hits in a cache at distance 1." -/
def occDsnpHitN1Prf (b : Obs) : Bool := occDsnpHitPrf b && b.own .dsnpHitN1Prf && b.never .snoopedSide && b.distance == 1

/-- R1332 DSNP_HIT_N2_PRF (0x8421): "The counter counts each snoop generated by the PE in response to a data prefetch instruction,
or by a data hardware prefetch counted by DSNP_HIT_PRF that hits in a cache at distance 2." -/
def occDsnpHitN2Prf (b : Obs) : Bool := occDsnpHitPrf b && b.own .dsnpHitN2Prf && b.never .snoopedSide && b.distance == 2

/-- R1333 DSNP_HIT_N3_PRF (0x8422): "The counter counts each snoop generated by the PE in response to a data prefetch instruction,
or by a data hardware prefetch counted by DSNP_HIT_PRF that hits in a cache at distance 3." -/
def occDsnpHitN3Prf (b : Obs) : Bool := occDsnpHitPrf b && b.own .dsnpHitN3Prf && b.never .snoopedSide && b.distance == 3

/-- R1334 DSNP_HIT_N4_PRF (0x8423): "The counter counts each snoop generated by the PE in response to a data prefetch instruction,
or by a data hardware prefetch counted by DSNP_HIT_PRF that hits in a cache at distance 4." -/
def occDsnpHitN4Prf (b : Obs) : Bool := occDsnpHitPrf b && b.own .dsnpHitN4Prf && b.never .snoopedSide && b.distance == 4

/-- R1335 ISNP_HIT_N1_PRF (0x8424): "The counter counts each snoop generated by the PE in response to an instruction prefetch
instruction, or by an instruction hardware prefetch counted by ISNP_HIT_PRF that hits in a cache at distance 1." -/
def occIsnpHitN1Prf (b : Obs) : Bool := occIsnpHitPrf b && b.own .isnpHitN1Prf && b.never .snoopedSide && b.distance == 1

/-- R1336 ISNP_HIT_N2_PRF (0x8425): "The counter counts each snoop generated by the PE in response to an instruction prefetch
instruction, or by an instruction hardware prefetch counted by ISNP_HIT_PRF that hits in a cache at distance 2." -/
def occIsnpHitN2Prf (b : Obs) : Bool := occIsnpHitPrf b && b.own .isnpHitN2Prf && b.never .snoopedSide && b.distance == 2

/-- R1337 ISNP_HIT_N3_PRF (0x8426): "The counter counts each snoop generated by the PE in response to an instruction prefetch
instruction, or by an instruction hardware prefetch counted by ISNP_HIT_PRF that hits in a cache at distance 3." -/
def occIsnpHitN3Prf (b : Obs) : Bool := occIsnpHitPrf b && b.own .isnpHitN3Prf && b.never .snoopedSide && b.distance == 3

/-- R1338 ISNP_HIT_N4_PRF (0x8427): "The counter counts each snoop generated by the PE in response to an instruction prefetch
instruction, or by an instruction hardware prefetch counted by ISNP_HIT_PRF that hits in a cache at distance 4." -/
def occIsnpHitN4Prf (b : Obs) : Bool := occIsnpHitPrf b && b.own .isnpHitN4Prf && b.never .snoopedSide && b.distance == 4

/-- R1339 ISNP_HIT_N1 (0x8428): "The counter counts each snoop counted by ISNP_HIT that hits in a cache at distance 1." -/
def occIsnpHitN1 (b : Obs) : Bool := occIsnpHit b && b.own .isnpHitN1 && b.never .snoopedSide && b.distance == 1

/-- R1340 ISNP_HIT_N2 (0x8429): "The counter counts each snoop counted by ISNP_HIT that hits in a cache at distance 2." -/
def occIsnpHitN2 (b : Obs) : Bool := occIsnpHit b && b.own .isnpHitN2 && b.never .snoopedSide && b.distance == 2

/-- R1341 ISNP_HIT_N3 (0x842A): "The counter counts each snoop counted by ISNP_HIT that hits in a cache at distance 3." -/
def occIsnpHitN3 (b : Obs) : Bool := occIsnpHit b && b.own .isnpHitN3 && b.never .snoopedSide && b.distance == 3

/-- R1342 ISNP_HIT_N4 (0x842B): "The counter counts each snoop counted by ISNP_HIT that hits in a cache at distance 4." -/
def occIsnpHitN4 (b : Obs) : Bool := occIsnpHit b && b.own .isnpHitN4 && b.never .snoopedSide && b.distance == 4

/-- R1343 DSNP_HIT_N1 (0x842C): "The counter counts each snoop counted by DSNP_HIT that hits in a cache at distance 1." -/
def occDsnpHitN1 (b : Obs) : Bool := occDsnpHit b && b.own .dsnpHitN1 && b.never .snoopedSide && b.distance == 1

/-- R1344 DSNP_HIT_N2 (0x842D): "The counter counts each snoop counted by DSNP_HIT that hits in a cache at distance 2." -/
def occDsnpHitN2 (b : Obs) : Bool := occDsnpHit b && b.own .dsnpHitN2 && b.never .snoopedSide && b.distance == 2

/-- R1345 DSNP_HIT_N3 (0x842E): "The counter counts each snoop counted by DSNP_HIT that hits in a cache at distance 3." -/
def occDsnpHitN3 (b : Obs) : Bool := occDsnpHit b && b.own .dsnpHitN3 && b.never .snoopedSide && b.distance == 3

/-- R1346 DSNP_HIT_N4 (0x842F): "The counter counts each snoop counted by DSNP_HIT that hits in a cache at distance 4." -/
def occDsnpHitN4 (b : Obs) : Bool := occDsnpHit b && b.own .dsnpHitN4 && b.never .snoopedSide && b.distance == 4

/-- R1348 SVE_FP_PREDUCE_SPEC (0x8432): "The counter counts each speculatively executed floating-point pairwise add step or pairwise
reduce step operation counted by SVE_FP_VREDUCE_SPEC due to any of the following instructions:" -/
def occSveFpPreduceSpec (b : Obs) : Bool :=
  occSveFpVreduceSpec b
    && b.own .sveFpPreduceSpec
    && (b.oneOf [.sve2Faddp, .sve2Fmaxnmp, .sve2Fmaxp, .sve2Fminnmp, .sve2Fminp])

/-- R1349 DSNP_HITM_N1_RD (0x8434): "The counter counts each snoop generated by the PE in response to a demand Memory-read operation
counted by DSNP_HIT_N1_RD that accesses a previously modified cache location." -/
def occDsnpHitmN1Rd (b : Obs) : Bool := occDsnpHitN1Rd b && b.own .dsnpHitmN1Rd

/-- R1350 DSNP_HITM_N2_RD (0x8435): "The counter counts each snoop generated by the PE in response to a demand Memory-read operation
counted by DSNP_HIT_N2_RD that accesses a previously modified cache location." -/
def occDsnpHitmN2Rd (b : Obs) : Bool := occDsnpHitN2Rd b && b.own .dsnpHitmN2Rd

/-- R1351 DSNP_HITM_N3_RD (0x8436): "The counter counts each snoop generated by the PE in response to a demand Memory-read operation
counted by DSNP_HIT_N3_RD that accesses a previously modified cache location." -/
def occDsnpHitmN3Rd (b : Obs) : Bool := occDsnpHitN3Rd b && b.own .dsnpHitmN3Rd

/-- R1352 DSNP_HITM_N4_RD (0x8437): "The counter counts each snoop generated by the PE in response to a demand Memory-read operation
counted by DSNP_HIT_N4_RD that accesses a previously modified cache location." -/
def occDsnpHitmN4Rd (b : Obs) : Bool := occDsnpHitN4Rd b && b.own .dsnpHitmN4Rd

/-- R1353 DSNP_HITM_N1_WR (0x8438): "The counter counts each snoop generated by the PE in response to a demand Memory-write
operation counted by DSNP_HIT_N1_WR that accesses a previously modified cache location." -/
def occDsnpHitmN1Wr (b : Obs) : Bool := occDsnpHitN1Wr b && b.own .dsnpHitmN1Wr

/-- R1354 DSNP_HITM_N2_WR (0x8439): "The counter counts each snoop generated by the PE in response to a demand Memory-write
operation counted by DSNP_HIT_N2_WR that accesses a previously modified cache location." -/
def occDsnpHitmN2Wr (b : Obs) : Bool := occDsnpHitN2Wr b && b.own .dsnpHitmN2Wr

/-- R1355 DSNP_HITM_N3_WR (0x843A): "The counter counts each snoop generated by the PE in response to a demand Memory-write
operation counted by DSNP_HIT_N3_WR that accesses a previously modified cache location." -/
def occDsnpHitmN3Wr (b : Obs) : Bool := occDsnpHitN3Wr b && b.own .dsnpHitmN3Wr

/-- R1356 DSNP_HITM_N4_WR (0x843B): "The counter counts each snoop generated by the PE in response to a demand Memory-write
operation counted by DSNP_HIT_N4_WR that accesses a previously modified cache location." -/
def occDsnpHitmN4Wr (b : Obs) : Bool := occDsnpHitN4Wr b && b.own .dsnpHitmN4Wr

/-- R1357 DSNP_HITM_N1_RW (0x843C): "The counter counts each snoop generated by the PE in response to a demand Memory-read operation
or demand Memory-write operation counted by DSNP_HIT_N1_RW that accesses a previously modified cache location." -/
def occDsnpHitmN1Rw (b : Obs) : Bool := occDsnpHitN1Rw b && b.own .dsnpHitmN1Rw

/-- R1358 DSNP_HITM_N2_RW (0x843D): "The counter counts each snoop generated by the PE in response to a demand Memory-read operation
or demand Memory-write operation counted by DSNP_HIT_N2_RW that accesses a previously modified cache location." -/
def occDsnpHitmN2Rw (b : Obs) : Bool := occDsnpHitN2Rw b && b.own .dsnpHitmN2Rw

/-- R1359 DSNP_HITM_N3_RW (0x843E): "The counter counts each snoop generated by the PE in response to a demand Memory-read operation
or demand Memory-write operation counted by DSNP_HIT_N3_RW that accesses a previously modified cache location." -/
def occDsnpHitmN3Rw (b : Obs) : Bool := occDsnpHitN3Rw b && b.own .dsnpHitmN3Rw

/-- R1360 DSNP_HITM_N4_RW (0x843F): "The counter counts each snoop generated by the PE in response to a demand Memory-read operation
or demand Memory-write operation counted by DSNP_HIT_N4_RW that accesses a previously modified cache location." -/
def occDsnpHitmN4Rw (b : Obs) : Bool := occDsnpHitN4Rw b && b.own .dsnpHitmN4Rw

/-- R1382 FP_SP_MIN_SPEC (0x8470): "The counter counts each floating-point operation counted by FP_SPEC due to an instruction where
the smallest type was single-precision floating-point." -/
def occFpSpMinSpec (b : Obs) : Bool := occFpSpec b && b.own .fpSpMinSpec

/-- R1369 SE_FP_SP_MIN_SPEC (0x8450): "The counter counts each Advanced SIMD, SVE, or SME data processing operation counted by
FP_SP_MIN_SPEC due to an instruction where the smallest type was single-precision floating-point." -/
def occSeFpSpMinSpec (b : Obs) : Bool := occFpSpMinSpec b && b.own .seFpSpMinSpec

/-- R1365 ASE_SVE_FP_SP_MIN_SPEC (0x8448): "The counter counts each Advanced SIMD or SVE data-processing operation counted by
SE_FP_SP_MIN_SPEC due to an instruction where the smallest type was single-precision floating-point." -/
def occAseSveFpSpMinSpec (b : Obs) : Bool := occSeFpSpMinSpec b && b.own .aseSveFpSpMinSpec

/-- R1361 ASE_FP_SP_MIN_SPEC (0x8440): "The counter counts each Advanced SIMD data-processing operation counted by
ASE_SVE_FP_SP_MIN_SPEC due to an instruction where the smallest type was single-precision floating-point." -/
def occAseFpSpMinSpec (b : Obs) : Bool := occAseSveFpSpMinSpec b && b.own .aseFpSpMinSpec

/-- R1383 FP_HP_MIN_SPEC (0x8472): "The counter counts each floating-point operation counted by FP_SPEC due to an instruction where
the smallest type was half-precision floating-point." -/
def occFpHpMinSpec (b : Obs) : Bool := occFpSpec b && b.own .fpHpMinSpec

/-- R1370 SE_FP_HP_MIN_SPEC (0x8452): "The counter counts each Advanced SIMD, SVE, or SME data processing operation counted by
FP_HP_MIN_SPEC due to an instruction where the smallest type was half-precision floating-point." -/
def occSeFpHpMinSpec (b : Obs) : Bool := occFpHpMinSpec b && b.own .seFpHpMinSpec

/-- R1366 ASE_SVE_FP_HP_MIN_SPEC (0x844A): "The counter counts each Advanced SIMD or SVE data-processing operation counted by
SE_FP_HP_MIN_SPEC due to an instruction where the smallest type was half-precision floating-point." -/
def occAseSveFpHpMinSpec (b : Obs) : Bool := occSeFpHpMinSpec b && b.own .aseSveFpHpMinSpec

/-- R1362 ASE_FP_HP_MIN_SPEC (0x8442): "The counter counts each Advanced SIMD data-processing operation counted by
ASE_SVE_FP_HP_MIN_SPEC due to an instruction where the smallest type was half-precision floating-point." -/
def occAseFpHpMinSpec (b : Obs) : Bool := occAseSveFpHpMinSpec b && b.own .aseFpHpMinSpec

/-- R1384 FP_BF16_MIN_SPEC (0x8473): "The counter counts each floating-point operation counted by FP_SPEC due to an instruction
where the smallest type was BFloat16 floating-point." -/
def occFpBf16MinSpec (b : Obs) : Bool := occFpSpec b && b.own .fpBf16MinSpec

/-- R1371 SE_FP_BF16_MIN_SPEC (0x8453): "The counter counts each Advanced SIMD, SVE, or SME data processing operation counted by
FP_BF16_MIN_SPEC due to an instruction where the smallest type was BFloat16 floating-point." -/
def occSeFpBf16MinSpec (b : Obs) : Bool := occFpBf16MinSpec b && b.own .seFpBf16MinSpec

/-- R1367 ASE_SVE_FP_BF16_MIN_SPEC (0x844B): "The counter counts each Advanced SIMD or SVE data-processing operation counted by
SE_FP_BF16_MIN_SPEC due to an instruction where the smallest type was BFloat16 floating-point." -/
def occAseSveFpBf16MinSpec (b : Obs) : Bool := occSeFpBf16MinSpec b && b.own .aseSveFpBf16MinSpec

/-- R1363 ASE_FP_BF16_MIN_SPEC (0x8443): "The counter counts each Advanced SIMD data-processing operation counted by
ASE_SVE_FP_BF16_MIN_SPEC due to an instruction where the smallest type was BFloat16 floating-point." -/
def occAseFpBf16MinSpec (b : Obs) : Bool := occAseSveFpBf16MinSpec b && b.own .aseFpBf16MinSpec

/-- R1385 FP_FP8_MIN_SPEC (0x8474): "The counter counts each floating-point operation counted by FP_SPEC due to an instruction where
the smallest type was 8-bit floating-point." -/
def occFpFp8MinSpec (b : Obs) : Bool := occFpSpec b && b.own .fpFp8MinSpec

/-- R1372 SE_FP_FP8_MIN_SPEC (0x8454): "The counter counts each Advanced SIMD, SVE, or SME data processing operation counted by
FP_FP8_MIN_SPEC due to an instruction where the smallest type was 8-bit floating-point." -/
def occSeFpFp8MinSpec (b : Obs) : Bool := occFpFp8MinSpec b && b.own .seFpFp8MinSpec

/-- R1368 ASE_SVE_FP_FP8_MIN_SPEC (0x844C): "The counter counts each Advanced SIMD or SVE data-processing operation counted by
SE_FP_FP8_MIN_SPEC due to an instruction where the smallest type was 8-bit floating-point." -/
def occAseSveFpFp8MinSpec (b : Obs) : Bool := occSeFpFp8MinSpec b && b.own .aseSveFpFp8MinSpec

/-- R1364 ASE_FP_FP8_MIN_SPEC (0x8444): "The counter counts each Advanced SIMD data-processing operation counted by
ASE_SVE_FP_FP8_MIN_SPEC due to an instruction where the smallest type was 8-bit floating-point." -/
def occAseFpFp8MinSpec (b : Obs) : Bool := occAseSveFpFp8MinSpec b && b.own .aseFpFp8MinSpec

/-- R1373 SME_FP_SP_MIN_SPEC (0x8458): "The counter counts each SME data-processing operation counted by SE_FP_SP_MIN_SPEC due to an
instruction where the smallest type was single-precision floating-point." -/
def occSmeFpSpMinSpec (b : Obs) : Bool := occSeFpSpMinSpec b && b.own .smeFpSpMinSpec

/-- R1374 SME_FP_HP_MIN_SPEC (0x845A): "The counter counts each SME data-processing operation counted by SE_FP_HP_MIN_SPEC due to an
instruction where the smallest type was half-precision floating-point." -/
def occSmeFpHpMinSpec (b : Obs) : Bool := occSeFpHpMinSpec b && b.own .smeFpHpMinSpec

/-- R1375 SME_FP_BF16_MIN_SPEC (0x845B): "The counter counts each SME data-processing operation counted by SE_FP_BF16_MIN_SPEC due
to an instruction where the smallest type was BFloat16 floating-point." -/
def occSmeFpBf16MinSpec (b : Obs) : Bool := occSeFpBf16MinSpec b && b.own .smeFpBf16MinSpec

/-- R1376 SME_FP_FP8_MIN_SPEC (0x845C): "The counter counts each SME data-processing operation counted by SE_FP_FP8_MIN_SPEC due to
an instruction where the smallest type was 8-bit floating-point." -/
def occSmeFpFp8MinSpec (b : Obs) : Bool := occSeFpFp8MinSpec b && b.own .smeFpFp8MinSpec

/-- R1377 SVE_FP_SP_MIN_SPEC (0x8460): "The counter counts each SVE data-processing operation counted by ASE_SVE_FP_SP_MIN_SPEC due
to an instruction where the smallest type was single-precision floating-point." -/
def occSveFpSpMinSpec (b : Obs) : Bool := occAseSveFpSpMinSpec b && b.own .sveFpSpMinSpec

/-- R1378 SVE_FP_HP_MIN_SPEC (0x8462): "The counter counts each SVE data-processing operation counted by ASE_SVE_FP_HP_MIN_SPEC due
to an instruction where the smallest type was half-precision floating-point." -/
def occSveFpHpMinSpec (b : Obs) : Bool := occAseSveFpHpMinSpec b && b.own .sveFpHpMinSpec

/-- R1379 SVE_FP_BF16_MIN_SPEC (0x8463): "The counter counts each SVE data-processing operation counted by ASE_SVE_FP_BF16_MIN_SPEC
due to an instruction where the smallest type was BFloat16 floating-point." -/
def occSveFpBf16MinSpec (b : Obs) : Bool := occAseSveFpBf16MinSpec b && b.own .sveFpBf16MinSpec

/-- R1380 SVE_FP_FP8_MIN_SPEC (0x8464): "The counter counts each SVE data-processing operation counted by ASE_SVE_FP_FP8_MIN_SPEC
due to an instruction where the smallest type was 8-bit floating-point." -/
def occSveFpFp8MinSpec (b : Obs) : Bool := occAseSveFpFp8MinSpec b && b.own .sveFpFp8MinSpec

/-- R1381 FP_BF16_FIXED_OPS_SPEC (0x846B): "The counter increments by v for each speculatively executed non-scalable element
arithmetic operation, due to an instruction where the largest type was BFloat16 floating-point." -/
def occFpBf16FixedOpsSpec (b : Obs) : Bool := b.own .fpBf16FixedOpsSpec && !occFpScaleOpsSpec b && !occFpScale2OpsSpec b

/-- R1386 FP_SP_FIXED_MIN_OPS_SPEC (0x8480): "The counter increments by v for each speculatively executed non-scalable element
arithmetic operation, due to an instruction where the smallest type was single-precision floating-point." -/
def occFpSpFixedMinOpsSpec (b : Obs) : Bool := b.own .fpSpFixedMinOpsSpec && !occFpScaleOpsSpec b && !occFpScale2OpsSpec b

/-- R1387 FP_HP_FIXED_MIN_OPS_SPEC (0x8482): "The counter increments by v for each speculatively executed non-scalable element
arithmetic operation, due to an instruction where the smallest type was half-precision floating-point." -/
def occFpHpFixedMinOpsSpec (b : Obs) : Bool := b.own .fpHpFixedMinOpsSpec && !occFpScaleOpsSpec b && !occFpScale2OpsSpec b

/-- R1388 FP_BF16_FIXED_MIN_OPS_SPEC (0x8483): "The counter increments by v for each speculatively executed non-scalable element
arithmetic operation, due to an instruction where the smallest type was BFloat16 floating-point." -/
def occFpBf16FixedMinOpsSpec (b : Obs) : Bool :=
  b.own .fpBf16FixedMinOpsSpec
    && !occFpScaleOpsSpec b
    && !occFpScale2OpsSpec b

/-- R1389 FP_FP8_FIXED_MIN_OPS_SPEC (0x8484): "The counter increments by v for each speculatively executed non-scalable element
arithmetic operation, due to an instruction where the smallest type was 8-bit floating-point." -/
def occFpFp8FixedMinOpsSpec (b : Obs) : Bool := b.own .fpFp8FixedMinOpsSpec && !occFpScaleOpsSpec b && !occFpScale2OpsSpec b

/-- R1390 FP_SP_SCALE_MIN_OPS_SPEC (0x8488): "The counter increments by v for each speculatively executed scalable element
arithmetic operation, due to an instruction where the smallest type was single-precision floating-point." -/
def occFpSpScaleMinOpsSpec (b : Obs) : Bool := b.own .fpSpScaleMinOpsSpec && !occFpFixedOpsSpec b && !occFpScale2OpsSpec b

/-- R1391 FP_HP_SCALE_MIN_OPS_SPEC (0x848A): "The counter increments by v for each speculatively executed scalable element
arithmetic operation, due to an instruction where the smallest type was half-precision floating-point." -/
def occFpHpScaleMinOpsSpec (b : Obs) : Bool := b.own .fpHpScaleMinOpsSpec && !occFpFixedOpsSpec b && !occFpScale2OpsSpec b

/-- R1392 FP_BF16_SCALE_MIN_OPS_SPEC (0x848B): "The counter increments by v for each speculatively executed scalable element
arithmetic operation, due to an instruction where the smallest type was BFloat16 floating-point." -/
def occFpBf16ScaleMinOpsSpec (b : Obs) : Bool :=
  b.own .fpBf16ScaleMinOpsSpec
    && !occFpFixedOpsSpec b
    && !occFpScale2OpsSpec b

/-- R1393 FP_FP8_SCALE_MIN_OPS_SPEC (0x848C): "The counter increments by v for each speculatively executed scalable element
arithmetic operation, due to an instruction where the smallest type was 8-bit floating-point." -/
def occFpFp8ScaleMinOpsSpec (b : Obs) : Bool := b.own .fpFp8ScaleMinOpsSpec && !occFpFixedOpsSpec b && !occFpScale2OpsSpec b

/-- R1394 FP_SP_SCALE2_MIN_OPS_SPEC (0x8490): "The counter increments by v for each speculatively executed scalable tile arithmetic
operation, due to an instruction where the smallest type was single-precision floating-point." -/
def occFpSpScale2MinOpsSpec (b : Obs) : Bool := b.own .fpSpScale2MinOpsSpec && !occFpFixedOpsSpec b && !occFpScaleOpsSpec b

/-- R1395 FP_HP_SCALE2_MIN_OPS_SPEC (0x8492): "The counter increments by v for each speculatively executed scalable tile arithmetic
operation, due to an instruction where the smallest type was half-precision floating-point." -/
def occFpHpScale2MinOpsSpec (b : Obs) : Bool := b.own .fpHpScale2MinOpsSpec && !occFpFixedOpsSpec b && !occFpScaleOpsSpec b

/-- R1396 FP_BF16_SCALE2_MIN_OPS_SPEC (0x8493): "The counter increments by v for each speculatively executed scalable tile
arithmetic operation, due to an instruction where the smallest type was BFloat16 floating-point." -/
def occFpBf16Scale2MinOpsSpec (b : Obs) : Bool :=
  b.own .fpBf16Scale2MinOpsSpec
    && !occFpFixedOpsSpec b
    && !occFpScaleOpsSpec b

/-- R1397 FP_FP8_SCALE2_MIN_OPS_SPEC (0x8494): "The counter increments by v for each speculatively executed scalable tile arithmetic
operation, due to an instruction where the smallest type was 8-bit floating-point." -/
def occFpFp8Scale2MinOpsSpec (b : Obs) : Bool := b.own .fpFp8Scale2MinOpsSpec && !occFpFixedOpsSpec b && !occFpScaleOpsSpec b

end Sys2Proof.Machine
end

