-- ==== Sys2Proof/Machine/Ops.lean ====
section
/-!
DEFINITION. The named operations over the counters, shared by every meaning: reading and writing a counter, `Count` with the
overflow it causes (40_common_event_rules.md R121), the conditions of CHAIN, PMU_OVFS and PMU_HOVFS (R126 to R128), and fetching
the event number that the next piece of work selects (30_encoding.md R91). No event raises an exception
(60_exceptions.md R1500), so there is no exception entry or return.
-/

namespace Sys2Proof.Machine

/-- Event counter n of PE p. -/
def State.counter? (s : State) (p n : Nat) : Option Counter := s.pes[p]?.bind (fun q => q.counters[n]?)

/-- `s` with PE p changed. -/
def State.modifyPe (s : State) (p : Nat) (f : Pe → Pe) : State := { s with pes := s.pes.modify p f }

/-- `s` with event counter n of PE p changed. -/
def State.modifyCounter (s : State) (p n : Nat) (f : Counter → Counter) : State :=
  s.modifyPe p (fun q => { q with counters := q.counters.modify n f })

/-- `s` with another count in event counter n of PE p. -/
def State.setCount (s : State) (p n : Nat) (v : CountWord) : State := s.modifyCounter p n (fun c => { c with count := v })

/-- `s` with the first offer taken from the agenda. -/
def State.dropOffer (s : State) : State := { s with agenda := s.agenda.tail }

/-- `s` with offers put before the rest of the agenda. -/
def State.offerFirst (s : State) (l : List Offer) : State := { s with agenda := l ++ s.agenda }

/-- `s` with one more output. -/
def State.emit (s : State) (o : Output) : State := { s with out := s.out ++ [o] }

/-- The numbers of the two events delivered outside the PMU (30_encoding.md R102). -/
def ovfsWord : EvtWord := 0x400D

/-- See `ovfsWord`. -/
def hovfsWord : EvtWord := 0x400F

/-- An overflow is offered to the consumers of PMU_OVFS and PMU_HOVFS (40_common_event_rules.md R127, R128). -/
def overflowOffers (c : OverflowCause) : List Offer :=
  [{ happening := .overflow c, sink := .consumer ovfsWord }, { happening := .overflow c, sink := .consumer hovfsWord }]

/-- After overflow of an even counter's bits [31:0], the odd counter of the pair is offered it, if there is one (R121). -/
def chainOffers (s : State) (p n : Nat) (ovf32 : Bool) (withheld : List OverflowSource) : List Offer :=
  if ovf32 && n % 2 = 0 && n + 1 < s.impl.numCounters then
    [{ happening := .lowOverflow s.draws withheld, sink := .counter p (n + 1) }]
  else []

/-- Count(E, k) on counter n of PE p whose count is `old`: the addition, then the pair's odd counter, then the overflow events, in
the order of R121. export_allowed (R128) of this overflow is false where the environment has put its counter into `withheld`, which the
pair's odd counter is given too. -/
def State.countAt (s : State) (p n : Nat) (old : CountWord) (k : Nat) (withheld : List OverflowSource) : State :=
  let ovf32 := overflow32 old k
  let ovf64 := overflow64 s.impl old k
  let cause : OverflowCause := 
    { source := .counter p n, ovf32 := ovf32, ovf64 := ovf64, exportAllowed := !withheld.contains (.counter p n) }
  let s' := s.modifyCounter p n (fun c => { c with count := addCount s.impl old k })
  { s' with
    draws := s.draws + 1
    agenda := chainOffers s p n ovf32 withheld ++ (if ovf32 || ovf64 then overflowOffers cause else []) ++ s.agenda }

end Sys2Proof.Machine

namespace Sys2Proof

/-- counts(n, E) beyond decode: the events that a counter can count (30_encoding.md R102, R103). -/
def Impl.countable (impl : Impl) (e : Instr) : Bool :=
  e != .pmuOvfs && e != .pmuHovfs && (e != .trbTrig || impl.trbTrigCountable)

end Sys2Proof

namespace Sys2Proof.Machine

/-- What counter `c` of PE p sees of an occurrence. -/
def State.observe (s : State) (p : Nat) (c : Counter) (serial : Nat) (o : Occurrence) : Obs :=
  { impl := s.impl, pe := p, mt := c.mt.effective, serial := serial, occ := o }

/-- The counting rule of R121 for every event but the four with an algorithm: the offered occurrence is counted with increment `k`
if the event can be counted, the filter lets it through, it is attributed to the counter and it is an occurrence of the event. The
offer is taken from the agenda in any case. -/
def countEvent (e : Instr) (a : Attribution) (occ : Obs → Bool) (k : Obs → Nat) (s : State) :
    Host.Outcome State Fault Refusal :=
  match s.agenda with
  | ⟨.occurs serial o, .counter p n⟩ :: _ =>
    match s.counter? p n with
    | some c =>
      if s.impl.countable e && c.filter.passes o.ctx && (s.observe p c serial o).attributedTo e a o.pe o.owners
          && occ (s.observe p c serial o) then
        .next (s.dropOffer.countAt p n c.count (k (s.observe p c serial o)) o.withheld)
      else .next s.dropOffer
    | none => .next s.dropOffer
  | _ => .next s.dropOffer

/-- The Effective value of HPMN, HLP, LP, EPMN of PE p as the pair rule reads them (40_common_event_rules.md R126):
chain_enabled(n). -/
def chainEnabled (impl : Impl) (q : Pe) (n : Nat) : Bool :=
  !impl.has .pmuv3p5
    || (!impl.haveEl2 && !q.lp.effective)
    || (impl.haveEl2 && n < q.hpmn.effective && !q.lp.effective)
    || (impl.haveEl2 && q.hpmn.effective ≤ n && !q.hlp.effective)

/-- The pair straddles a range boundary: the odd counter m is HPMN with EL2 (U15), or EPMN with FEAT_PMUv3_EXTPMN (U16). -/
def straddlesHpmn (impl : Impl) (q : Pe) (m : Nat) : Bool := impl.haveEl2 && m = q.hpmn.effective

/-- See `straddlesHpmn`. -/
def straddlesEpmn (impl : Impl) (q : Pe) (m : Nat) : Bool := impl.has .pmuv3Extpmn && m = q.epmn.effective

/-- What CHAIN does to the odd counter of a pair (R126). -/
inductive ChainOutcome where
  /-- It does not count. -/
  | ignores
  /-- It counts one. -/
  | counts
  /-- Its count becomes a free value (item U17). -/
  | anyCount
  deriving DecidableEq, Repr

/-- Counted or not, by a Boolean. -/
def ChainOutcome.ofBool (x : Bool) : ChainOutcome := if x then .counts else .ignores

/-- What the odd counter m does on the overflow of the counter before it (R126): at a boundary it is UNPREDICTABLE whether it counts
(U15, U16); where software did not program it to count in all Exception levels and states the count becomes UNPREDICTABLE (U17): one
more, or by the other outcome of the draw any value. Log 17. -/
def chainOutcome (impl : Impl) (q : Pe) (c : Counter) (m serial : Nat) : ChainOutcome :=
  if m % 2 = 1 && chainEnabled impl q (m - 1) then
    if straddlesHpmn impl q m then .ofBool (Config.drawBool 15 serial)
    else if straddlesEpmn impl q m then .ofBool (Config.drawBool 16 serial)
    else if c.chainFilterAll || Config.drawBool 17 serial then .counts
    else .anyCount
  else .ignores

/-- The free count of item U17, within the W bits of the counter. -/
def freeCountOf (impl : Impl) (serial : Nat) : CountWord :=
  BitVec.ofNat 64 ((Config.freeCount serial).toNat % 2 ^ Impl.counterWidth impl)

/-- The first range of event counters (decision D10). -/
def firstRange (impl : Impl) (q : Pe) (n : Nat) : Bool := !impl.haveEl2 || n < q.hpmn.effective

/-- The second range of event counters (decision D10). -/
def secondRange (impl : Impl) (q : Pe) (n : Nat) : Bool := impl.haveEl2 && q.hpmn.effective ≤ n

/-- "One of the following is true" of PMU_OVFS and PMU_HOVFS, for the bit LP or HLP (R127, R128). -/
def overflowSelected (impl : Impl) (long : Bool) (c : OverflowCause) : Bool :=
  (c.ovf32 && (!impl.has .pmuv3p5 || !long)) || (c.ovf64 && impl.has .pmuv3p5 && long)

/-- Occ(PMU_OVFS) (R127). -/
def isPmuOvfs (s : State) (c : OverflowCause) : Bool :=
  match c.source with
  | .counter p n =>
    match s.pes[p]? with
    | some q => q.inten.getLsbD n && overflowSelected s.impl q.lp.effective c && firstRange s.impl q n
    | none => false
  | .cycleCounter p =>
    match s.pes[p]? with
    | some q => q.inten.getLsbD 31 && ((c.ovf32 && !q.lc.effective) || (c.ovf64 && q.lc.effective))
    | none => false
  | .instructionCounter p =>
    match s.pes[p]? with
    | some q => s.impl.has .pmuv3Icntr && q.f0 && c.ovf64
    | none => false

/-- Occ(PMU_HOVFS) (R128). -/
def isPmuHovfs (s : State) (c : OverflowCause) : Bool :=
  match c.source with
  | .counter p n =>
    match s.pes[p]? with
    | some q => q.inten.getLsbD n && overflowSelected s.impl q.hlp.effective c && secondRange s.impl q n
    | none => false
  | .cycleCounter _ => false
  | .instructionCounter _ => false

/-- The PE an overflow is of. -/
def OverflowSource.pe : OverflowSource → Nat
  | .counter p _ => p
  | .cycleCounter p => p
  | .instructionCounter p => p

/-- "The event is not transmitted to a trace unit if SelfHostedTraceEnabled() is TRUE and TRFCR_EL2.E2TRE is 0" (R128). -/
def hovfsTransmitted (s : State) (c : OverflowCause) : Bool :=
  match s.pes[c.source.pe]? with
  | some q => !(q.selfHosted && !q.e2tre)
  | none => false

/-- Delivery of an overflow event to its consumer: an output, and no counter changes (R127: "This event cannot be counted by the
PMU"). -/
def deliverOverflow (e : Instr) (isOcc : State → OverflowCause → Bool) (exported : State → OverflowCause → Bool)
    (s : State) : Host.Outcome State Fault Refusal :=
  match s.agenda with
  | ⟨.overflow c, .consumer _⟩ :: _ =>
    if isOcc s c then .next (s.dropOffer.emit (.overflow e c (exported s c))) else .next s.dropOffer
  | _ => .next s.dropOffer

/-- A counter of PE p counts a write of PMSWINC by PE `writer` (R125): its own, or, in a multithreaded implementation with Effective
MT 1, one of a PE with the same affinity. -/
def countsSoftwareWrite (impl : Impl) (writer p : Nat) (mt : Bool) : Bool :=
  writer = p || (impl.multithreaded && mt && impl.sameProcessor p writer)

/-- The event number selected for a sink (30_encoding.md R91): the fetch. -/
def State.selectedWord (s : State) : Sink → Option EvtWord
  | .counter p n => (s.counter? p n).map (fun c => c.evtCount)
  | .consumer w => some w

/-- The event the machine executes for an offer (30_encoding.md R103). The number of a consumer outside the PMU is decoded too, so that
PMU_OVFS and PMU_HOVFS are delivered where 0x400D and 0x400F are implemented, and nowhere else. Log 19. -/
def State.selected (s : State) (k : Sink) : Option Instr := (s.selectedWord k).bind (decodeFor s.impl)

/-- Every event counter, PE by PE. -/
def State.allCounters (s : State) : List (Nat × Nat) :=
  (List.range s.pes.length).flatMap (fun p => (List.range s.impl.numCounters).map (fun n => (p, n)))

/-- Every event counter once, those of `order` first (decision D12: the environment chooses the order). -/
def State.offerOrder (s : State) (order : List (Nat × Nat)) : List (Nat × Nat) :=
  let first := (order.filter s.allCounters.contains).eraseDups
  first ++ s.allCounters.filter (fun q => !first.contains q)

/-- A happening offered to every event counter. -/
def State.offerAll (s : State) (h : Happening) (order : List (Nat × Nat)) : State :=
  { s with agenda := (s.offerOrder order).map (fun q => { happening := h, sink := .counter q.1 q.2 }) ++ s.agenda }

/-- The occurrence that `State.placeWord` offers: it is supplied as an occurrence of every event, by PE 0, active. Log 38. -/
def anyOccurrence : Occurrence := { pe := some 0, owners := [0], supplied := .except [], active := [0] }

/-- Event counter 0 of PE 0 selects the number `w` (30_encoding.md R91) and is offered an occurrence next. -/
def State.placeWord (s : State) (w : EvtWord) : State :=
  { s.modifyCounter 0 0 (fun c => { c with evtCount := w }) with
    agenda := [{ happening := .occurs 0 anyOccurrence, sink := .counter 0 0 }] }

end Sys2Proof.Machine
end

