-- ==== Sys2Proof/Machine/Tables.lean ====
section
/-!
DEFINITION. The counting rules as tables over the events: `Occ(E)` (40_common_event_rules.md R120), to whom it is attributed (R129) and by
how much it increments (R123). The statements are written with them; each meaning names its own entries.
-/

namespace Sys2Proof.Machine

/-- Occ(E) (R120, R122). -/
def occOf : Instr → Obs → Bool
  | .swIncr => occSwIncr
  | .ldRetired => occLdRetired
  | .stRetired => occStRetired
  | .instRetired => occInstRetired
  | .excTaken => occExcTaken
  | .excReturn => occExcReturn
  | .cidWriteRetired => occCidWriteRetired
  | .pcWriteRetired => occPcWriteRetired
  | .brImmedRetired => occBrImmedRetired
  | .brReturnRetired => occBrReturnRetired
  | .unalignedLdstRetired => occUnalignedLdstRetired
  | .ttbrWriteRetired => occTtbrWriteRetired
  | .chain => occChain
  | .brRetired => occBrRetired
  | .excUndef => occExcUndef
  | .excSvc => occExcSvc
  | .excPabort => occExcPabort
  | .excDabort => occExcDabort
  | .excIrq => occExcIrq
  | .excFiq => occExcFiq
  | .excSmc => occExcSmc
  | .excHvc => occExcHvc
  | .excTrapPabort => occExcTrapPabort
  | .excTrapDabort => occExcTrapDabort
  | .excTrapOther => occExcTrapOther
  | .excTrapIrq => occExcTrapIrq
  | .excTrapFiq => occExcTrapFiq
  | .trbWrap => occTrbWrap
  | .pmuOvfs => occPmuOvfs
  | .trbTrig => occTrbTrig
  | .pmuHovfs => occPmuHovfs
  | .simdInstRetired => occSimdInstRetired
  | .aseInstRetired => occAseInstRetired
  | .sveInstRetired => occSveInstRetired
  | .aseSveInstRetired => occAseSveInstRetired
  | .brSkipRetired => occBrSkipRetired
  | .brImmedTakenRetired => occBrImmedTakenRetired
  | .brImmedSkipRetired => occBrImmedSkipRetired
  | .brIndTakenRetired => occBrIndTakenRetired
  | .brIndSkipRetired => occBrIndSkipRetired
  | .brIndnrTakenRetired => occBrIndnrTakenRetired
  | .brIndnrSkipRetired => occBrIndnrSkipRetired
  | .brReturnAnyRetired => occBrReturnAnyRetired
  | .brReturnSkipRetired => occBrReturnSkipRetired
  | .brIndRetired => occBrIndRetired
  | .brIndnrRetired => occBrIndnrRetired
  | .brbFiltrate => occBrbFiltrate
  | .brnlIndnrTakenRetired => occBrnlIndnrTakenRetired
  | .blTakenRetired => occBlTakenRetired
  | .brnlTakenRetired => occBrnlTakenRetired
  | .blIndTakenRetired => occBlIndTakenRetired
  | .brnlIndTakenRetired => occBrnlIndTakenRetired
  | .blImmedTakenRetired => occBlImmedTakenRetired
  | .brnlImmedTakenRetired => occBrnlImmedTakenRetired
  | .brUncondRetired => occBrUncondRetired
  | .brCondRetired => occBrCondRetired
  | .brCondTakenRetired => occBrCondTakenRetired
  | .brHintCondRetired => occBrHintCondRetired
  | .aseSveRetired => occAseSveRetired
  | .ldAnyRetired => occLdAnyRetired
  | .stAnyRetired => occStAnyRetired
  | .ldstAnyRetired => occLdstAnyRetired
  | .dpRetired => occDpRetired
  | .aseRetired => occAseRetired
  | .vfpRetired => occVfpRetired
  | .sveRetired => occSveRetired
  | .cryptoRetired => occCryptoRetired
  | .prfRetired => occPrfRetired
  | .smeRetired => occSmeRetired
  | .seRetired => occSeRetired
  | .smeInstRetired => occSmeInstRetired
  | .seInstRetired => occSeInstRetired
  | .l1iCacheRefill => occL1iCacheRefill
  | .l1iTlbRefill => occL1iTlbRefill
  | .l1dCacheRefill => occL1dCacheRefill
  | .l1dCache => occL1dCache
  | .l1dTlbRefill => occL1dTlbRefill
  | .brMisPred => occBrMisPred
  | .cpuCycles => occCpuCycles
  | .brPred => occBrPred
  | .memAccess => occMemAccess
  | .l1iCache => occL1iCache
  | .l1dCacheWb => occL1dCacheWb
  | .l2dCache => occL2dCache
  | .l2dCacheRefill => occL2dCacheRefill
  | .l2dCacheWb => occL2dCacheWb
  | .busAccess => occBusAccess
  | .memoryError => occMemoryError
  | .instSpec => occInstSpec
  | .busCycles => occBusCycles
  | .l1dCacheAllocate => occL1dCacheAllocate
  | .l2dCacheAllocate => occL2dCacheAllocate
  | .brMisPredRetired => occBrMisPredRetired
  | .stallFrontend => occStallFrontend
  | .stallBackend => occStallBackend
  | .l1dTlb => occL1dTlb
  | .l1iTlb => occL1iTlb
  | .l2iCache => occL2iCache
  | .l2iCacheRefill => occL2iCacheRefill
  | .l3dCacheAllocate => occL3dCacheAllocate
  | .l3dCacheRefill => occL3dCacheRefill
  | .l3dCache => occL3dCache
  | .l3dCacheWb => occL3dCacheWb
  | .l2dTlbRefill => occL2dTlbRefill
  | .l2iTlbRefill => occL2iTlbRefill
  | .l2dTlb => occL2dTlb
  | .l2iTlb => occL2iTlb
  | .remoteAccess => occRemoteAccess
  | .llCache => occLlCache
  | .llCacheMiss => occLlCacheMiss
  | .dtlbWalk => occDtlbWalk
  | .itlbWalk => occItlbWalk
  | .llCacheRd => occLlCacheRd
  | .llCacheMissRd => occLlCacheMissRd
  | .remoteAccessRd => occRemoteAccessRd
  | .l1dCacheLmissRd => occL1dCacheLmissRd
  | .opRetired => occOpRetired
  | .opSpec => occOpSpec
  | .stall => occStall
  | .stallSlotBackend => occStallSlotBackend
  | .stallSlotFrontend => occStallSlotFrontend
  | .stallSlot => occStallSlot
  | .l1dCacheRd => occL1dCacheRd
  | .l1dCacheWr => occL1dCacheWr
  | .l1dCacheRefillRd => occL1dCacheRefillRd
  | .l1dCacheRefillWr => occL1dCacheRefillWr
  | .l1dCacheRefillInner => occL1dCacheRefillInner
  | .l1dCacheRefillOuter => occL1dCacheRefillOuter
  | .l1dCacheWbVictim => occL1dCacheWbVictim
  | .l1dCacheWbClean => occL1dCacheWbClean
  | .l1dCacheInval => occL1dCacheInval
  | .l1dTlbRefillRd => occL1dTlbRefillRd
  | .l1dTlbRefillWr => occL1dTlbRefillWr
  | .l1dTlbRd => occL1dTlbRd
  | .l1dTlbWr => occL1dTlbWr
  | .l2dCacheRd => occL2dCacheRd
  | .l2dCacheWr => occL2dCacheWr
  | .l2dCacheRefillRd => occL2dCacheRefillRd
  | .l2dCacheRefillWr => occL2dCacheRefillWr
  | .l2dCacheWbVictim => occL2dCacheWbVictim
  | .l2dCacheWbClean => occL2dCacheWbClean
  | .l2dCacheInval => occL2dCacheInval
  | .l2dTlbRefillRd => occL2dTlbRefillRd
  | .l2dTlbRefillWr => occL2dTlbRefillWr
  | .l2dTlbRd => occL2dTlbRd
  | .l2dTlbWr => occL2dTlbWr
  | .busAccessRd => occBusAccessRd
  | .busAccessWr => occBusAccessWr
  | .busAccessShared => occBusAccessShared
  | .busAccessNotShared => occBusAccessNotShared
  | .busAccessNormal => occBusAccessNormal
  | .busAccessPeriph => occBusAccessPeriph
  | .memAccessRd => occMemAccessRd
  | .memAccessWr => occMemAccessWr
  | .unalignedLdSpec => occUnalignedLdSpec
  | .unalignedStSpec => occUnalignedStSpec
  | .unalignedLdstSpec => occUnalignedLdstSpec
  | .ldrexSpec => occLdrexSpec
  | .strexPassSpec => occStrexPassSpec
  | .strexFailSpec => occStrexFailSpec
  | .strexSpec => occStrexSpec
  | .ldSpec => occLdSpec
  | .stSpec => occStSpec
  | .ldstSpec => occLdstSpec
  | .dpSpec => occDpSpec
  | .aseSpec => occAseSpec
  | .vfpSpec => occVfpSpec
  | .pcWriteSpec => occPcWriteSpec
  | .cryptoSpec => occCryptoSpec
  | .brImmedSpec => occBrImmedSpec
  | .brReturnSpec => occBrReturnSpec
  | .brIndirectSpec => occBrIndirectSpec
  | .isbSpec => occIsbSpec
  | .dsbSpec => occDsbSpec
  | .dmbSpec => occDmbSpec
  | .csdbSpec => occCsdbSpec
  | .rcLdSpec => occRcLdSpec
  | .rcStSpec => occRcStSpec
  | .l3dCacheHitWrFextProp => occL3dCacheHitWrFextProp
  | .l3dCacheRd => occL3dCacheRd
  | .l3dCacheWr => occL3dCacheWr
  | .l3dCacheRefillRd => occL3dCacheRefillRd
  | .l3dCacheRefillWr => occL3dCacheRefillWr
  | .l3dCacheWbVictim => occL3dCacheWbVictim
  | .l3dCacheWbClean => occL3dCacheWbClean
  | .l3dCacheInval => occL3dCacheInval
  | .l2dCacheHitRdFextProp => occL2dCacheHitRdFextProp
  | .l2dCacheHitWrFextProp => occL2dCacheHitWrFextProp
  | .l2dCacheHitRwFextProp => occL2dCacheHitRwFextProp
  | .l3dCacheExtProp => occL3dCacheExtProp
  | .l3dCacheExtPropPrfmIr => occL3dCacheExtPropPrfmIr
  | .l3dCacheHitRwFextProp => occL3dCacheHitRwFextProp
  | .l3dCacheHitRdFextProp => occL3dCacheHitRdFextProp
  | .stshhSpec => occStshhSpec
  | .stshhKeepSpec => occStshhKeepSpec
  | .stshhStrmSpec => occStshhStrmSpec
  | .prfmIrSpec => occPrfmIrSpec
  | .memAccessWrStshh => occMemAccessWrStshh
  | .memAccessWrStshhKeep => occMemAccessWrStshhKeep
  | .memAccessWrStshhStrm => occMemAccessWrStshhStrm
  | .memAccessWrStshhKeepNear => occMemAccessWrStshhKeepNear
  | .memAccessWrStshhKeepFar => occMemAccessWrStshhKeepFar
  | .l1dCacheExtProp => occL1dCacheExtProp
  | .l1dCacheExtPropPrfmIr => occL1dCacheExtPropPrfmIr
  | .l1dCacheHitRdFextProp => occL1dCacheHitRdFextProp
  | .l1dCacheHitWrFextProp => occL1dCacheHitWrFextProp
  | .l1dCacheHitRwFextProp => occL1dCacheHitRwFextProp
  | .l2dCacheExtProp => occL2dCacheExtProp
  | .l2dCacheExtPropPrfmIr => occL2dCacheExtPropPrfmIr
  | .samplePop => occSamplePop
  | .sampleFeed => occSampleFeed
  | .sampleFiltrate => occSampleFiltrate
  | .sampleCollision => occSampleCollision
  | .cntCycles => occCntCycles
  | .stallBackendMem => occStallBackendMem
  | .l1iCacheLmiss => occL1iCacheLmiss
  | .l2dCacheLmissRd => occL2dCacheLmissRd
  | .l2iCacheLmiss => occL2iCacheLmiss
  | .l3dCacheLmissRd => occL3dCacheLmissRd
  | .trcextout0 => occTrcextout0
  | .trcextout1 => occTrcextout1
  | .trcextout2 => occTrcextout2
  | .trcextout3 => occTrcextout3
  | .ctiTrigout4 => occCtiTrigout4
  | .ctiTrigout5 => occCtiTrigout5
  | .ctiTrigout6 => occCtiTrigout6
  | .ctiTrigout7 => occCtiTrigout7
  | .ldstAlignLat => occLdstAlignLat
  | .ldAlignLat => occLdAlignLat
  | .stAlignLat => occStAlignLat
  | .memAccessChecked => occMemAccessChecked
  | .memAccessCheckedRd => occMemAccessCheckedRd
  | .memAccessCheckedWr => occMemAccessCheckedWr
  | .simdInstSpec => occSimdInstSpec
  | .aseInstSpec => occAseInstSpec
  | .sveInstSpec => occSveInstSpec
  | .aseSveInstSpec => occAseSveInstSpec
  | .uopSpec => occUopSpec
  | .aseUopSpec => occAseUopSpec
  | .sveUopSpec => occSveUopSpec
  | .aseSveUopSpec => occAseSveUopSpec
  | .simdUopSpec => occSimdUopSpec
  | .sveMathSpec => occSveMathSpec
  | .fpSpec => occFpSpec
  | .aseFpSpec => occAseFpSpec
  | .sveFpSpec => occSveFpSpec
  | .aseSveFpSpec => occAseSveFpSpec
  | .fpHpSpec => occFpHpSpec
  | .aseFpHpSpec => occAseFpHpSpec
  | .sveFpHpSpec => occSveFpHpSpec
  | .aseSveFpHpSpec => occAseSveFpHpSpec
  | .fpSpSpec => occFpSpSpec
  | .aseFpSpSpec => occAseFpSpSpec
  | .sveFpSpSpec => occSveFpSpSpec
  | .aseSveFpSpSpec => occAseSveFpSpSpec
  | .fpDpSpec => occFpDpSpec
  | .aseFpDpSpec => occAseFpDpSpec
  | .sveFpDpSpec => occSveFpDpSpec
  | .aseSveFpDpSpec => occAseSveFpDpSpec
  | .fpDivSpec => occFpDivSpec
  | .aseFpDivSpec => occAseFpDivSpec
  | .sveFpDivSpec => occSveFpDivSpec
  | .aseSveFpDivSpec => occAseSveFpDivSpec
  | .fpSqrtSpec => occFpSqrtSpec
  | .aseFpSqrtSpec => occAseFpSqrtSpec
  | .sveFpSqrtSpec => occSveFpSqrtSpec
  | .aseSveFpSqrtSpec => occAseSveFpSqrtSpec
  | .fpFmaSpec => occFpFmaSpec
  | .aseFpFmaSpec => occAseFpFmaSpec
  | .sveFpFmaSpec => occSveFpFmaSpec
  | .aseSveFpFmaSpec => occAseSveFpFmaSpec
  | .fpMulSpec => occFpMulSpec
  | .aseFpMulSpec => occAseFpMulSpec
  | .sveFpMulSpec => occSveFpMulSpec
  | .aseSveFpMulSpec => occAseSveFpMulSpec
  | .fpAddsubSpec => occFpAddsubSpec
  | .aseFpAddsubSpec => occAseFpAddsubSpec
  | .sveFpAddsubSpec => occSveFpAddsubSpec
  | .aseSveFpAddsubSpec => occAseSveFpAddsubSpec
  | .fpRecpeSpec => occFpRecpeSpec
  | .aseFpRecpeSpec => occAseFpRecpeSpec
  | .sveFpRecpeSpec => occSveFpRecpeSpec
  | .aseSveFpRecpeSpec => occAseSveFpRecpeSpec
  | .fpCvtSpec => occFpCvtSpec
  | .aseFpCvtSpec => occAseFpCvtSpec
  | .sveFpCvtSpec => occSveFpCvtSpec
  | .aseSveFpCvtSpec => occAseSveFpCvtSpec
  | .sveFpAreduceSpec => occSveFpAreduceSpec
  | .aseFpPreduceSpec => occAseFpPreduceSpec
  | .sveFpVreduceSpec => occSveFpVreduceSpec
  | .aseSveFpVreduceSpec => occAseSveFpVreduceSpec
  | .intSpec => occIntSpec
  | .aseIntSpec => occAseIntSpec
  | .sveIntSpec => occSveIntSpec
  | .aseSveIntSpec => occAseSveIntSpec
  | .intDivSpec => occIntDivSpec
  | .intDiv64Spec => occIntDiv64Spec
  | .sveIntDivSpec => occSveIntDivSpec
  | .sveIntDiv64Spec => occSveIntDiv64Spec
  | .intMulSpec => occIntMulSpec
  | .aseIntMulSpec => occAseIntMulSpec
  | .sveIntMulSpec => occSveIntMulSpec
  | .aseSveIntMulSpec => occAseSveIntMulSpec
  | .intMul64Spec => occIntMul64Spec
  | .sveIntMul64Spec => occSveIntMul64Spec
  | .intMulh64Spec => occIntMulh64Spec
  | .sveIntMulh64Spec => occSveIntMulh64Spec
  | .aseFpBf16Spec => occAseFpBf16Spec
  | .sveFpBf16Spec => occSveFpBf16Spec
  | .aseSveFpBf16Spec => occAseSveFpBf16Spec
  | .fpBf16Spec => occFpBf16Spec
  | .sveSpec => occSveSpec
  | .aseSveSpec => occAseSveSpec
  | .nonfpSpec => occNonfpSpec
  | .aseNonfpSpec => occAseNonfpSpec
  | .sveNonfpSpec => occSveNonfpSpec
  | .aseSveNonfpSpec => occAseSveNonfpSpec
  | .aseIntVreduceSpec => occAseIntVreduceSpec
  | .sveIntVreduceSpec => occSveIntVreduceSpec
  | .aseSveIntVreduceSpec => occAseSveIntVreduceSpec
  | .svePermSpec => occSvePermSpec
  | .svePermIgranuleSpec => occSvePermIgranuleSpec
  | .svePermXgranuleSpec => occSvePermXgranuleSpec
  | .svePermVariableSpec => occSvePermVariableSpec
  | .sveXpipeSpec => occSveXpipeSpec
  | .sveXpipeZ2rSpec => occSveXpipeZ2rSpec
  | .sveXpipeR2zSpec => occSveXpipeR2zSpec
  | .svePgenNvecSpec => occSvePgenNvecSpec
  | .svePgenSpec => occSvePgenSpec
  | .svePgenFlgSpec => occSvePgenFlgSpec
  | .svePgenCmpSpec => occSvePgenCmpSpec
  | .svePgenFcmSpec => occSvePgenFcmSpec
  | .svePgenLogicSpec => occSvePgenLogicSpec
  | .svePpermSpec => occSvePpermSpec
  | .svePscanSpec => occSvePscanSpec
  | .svePcntSpec => occSvePcntSpec
  | .svePloopWhileSpec => occSvePloopWhileSpec
  | .svePloopTestSpec => occSvePloopTestSpec
  | .svePloopEltsSpec => occSvePloopEltsSpec
  | .svePloopTermSpec => occSvePloopTermSpec
  | .svePredSpec => occSvePredSpec
  | .svePredEmptySpec => occSvePredEmptySpec
  | .svePredFullSpec => occSvePredFullSpec
  | .svePredPartialSpec => occSvePredPartialSpec
  | .sveUnpredSpec => occSveUnpredSpec
  | .svePredNotFullSpec => occSvePredNotFullSpec
  | .sveMovprfxSpec => occSveMovprfxSpec
  | .sveMovprfxZSpec => occSveMovprfxZSpec
  | .sveMovprfxMSpec => occSveMovprfxMSpec
  | .sveMovprfxUSpec => occSveMovprfxUSpec
  | .sveLdstSpec => occSveLdstSpec
  | .sveLdSpec => occSveLdSpec
  | .sveStSpec => occSveStSpec
  | .svePrfSpec => occSvePrfSpec
  | .aseSveLdstSpec => occAseSveLdstSpec
  | .aseSveLdSpec => occAseSveLdSpec
  | .aseSveStSpec => occAseSveStSpec
  | .prfSpec => occPrfSpec
  | .baseLdstRegSpec => occBaseLdstRegSpec
  | .baseLdRegSpec => occBaseLdRegSpec
  | .baseStRegSpec => occBaseStRegSpec
  | .basePrfSpec => occBasePrfSpec
  | .fpaseLdstRegSpec => occFpaseLdstRegSpec
  | .fpaseLdRegSpec => occFpaseLdRegSpec
  | .fpaseStRegSpec => occFpaseStRegSpec
  | .sveLdstRegSpec => occSveLdstRegSpec
  | .sveLdrRegSpec => occSveLdrRegSpec
  | .sveStrRegSpec => occSveStrRegSpec
  | .sveLdstPregSpec => occSveLdstPregSpec
  | .sveLdrPregSpec => occSveLdrPregSpec
  | .sveStrPregSpec => occSveStrPregSpec
  | .sveLdstZregSpec => occSveLdstZregSpec
  | .sveLdrZregSpec => occSveLdrZregSpec
  | .sveStrZregSpec => occSveStrZregSpec
  | .sveLdstContigSpec => occSveLdstContigSpec
  | .sveLdContigSpec => occSveLdContigSpec
  | .sveStContigSpec => occSveStContigSpec
  | .svePrfContigSpec => occSvePrfContigSpec
  | .sveLdstntContigSpec => occSveLdstntContigSpec
  | .sveLdntContigSpec => occSveLdntContigSpec
  | .sveStntContigSpec => occSveStntContigSpec
  | .aseSveLdstMultiSpec => occAseSveLdstMultiSpec
  | .aseSveLdMultiSpec => occAseSveLdMultiSpec
  | .aseSveStMultiSpec => occAseSveStMultiSpec
  | .sveLdstMultiSpec => occSveLdstMultiSpec
  | .sveLdMultiSpec => occSveLdMultiSpec
  | .sveStMultiSpec => occSveStMultiSpec
  | .sveLdstNoncontigSpec => occSveLdstNoncontigSpec
  | .sveLdGatherSpec => occSveLdGatherSpec
  | .sveStScatterSpec => occSveStScatterSpec
  | .svePrfGatherSpec => occSvePrfGatherSpec
  | .sveLdst64NoncontigSpec => occSveLdst64NoncontigSpec
  | .sveLd64GatherSpec => occSveLd64GatherSpec
  | .sveSt64ScatterSpec => occSveSt64ScatterSpec
  | .svePrf64GatherSpec => occSvePrf64GatherSpec
  | .aseSveUnalignedLdstSpec => occAseSveUnalignedLdstSpec
  | .aseSveUnalignedLdSpec => occAseSveUnalignedLdSpec
  | .aseSveUnalignedStSpec => occAseSveUnalignedStSpec
  | .aseSveUnalignedContigLdstSpec => occAseSveUnalignedContigLdstSpec
  | .aseSveUnalignedContigLdSpec => occAseSveUnalignedContigLdSpec
  | .aseSveUnalignedContigStSpec => occAseSveUnalignedContigStSpec
  | .sveLdffSpec => occSveLdffSpec
  | .sveLdffFaultSpec => occSveLdffFaultSpec
  | .fpScaleOpsSpec => occFpScaleOpsSpec
  | .fpFixedOpsSpec => occFpFixedOpsSpec
  | .fpHpScaleOpsSpec => occFpHpScaleOpsSpec
  | .fpHpFixedOpsSpec => occFpHpFixedOpsSpec
  | .fpSpScaleOpsSpec => occFpSpScaleOpsSpec
  | .fpSpFixedOpsSpec => occFpSpFixedOpsSpec
  | .fpDpScaleOpsSpec => occFpDpScaleOpsSpec
  | .fpDpFixedOpsSpec => occFpDpFixedOpsSpec
  | .intScaleOpsSpec => occIntScaleOpsSpec
  | .intFixedOpsSpec => occIntFixedOpsSpec
  | .ldstScaleOpsSpec => occLdstScaleOpsSpec
  | .ldstFixedOpsSpec => occLdstFixedOpsSpec
  | .ldScaleOpsSpec => occLdScaleOpsSpec
  | .ldFixedOpsSpec => occLdFixedOpsSpec
  | .stScaleOpsSpec => occStScaleOpsSpec
  | .stFixedOpsSpec => occStFixedOpsSpec
  | .fpScale2OpsSpec => occFpScale2OpsSpec
  | .fpHpScale2OpsSpec => occFpHpScale2OpsSpec
  | .fpBf16Scale2OpsSpec => occFpBf16Scale2OpsSpec
  | .fpSpScale2OpsSpec => occFpSpScale2OpsSpec
  | .fpDpScale2OpsSpec => occFpDpScale2OpsSpec
  | .intScale2OpsSpec => occIntScale2OpsSpec
  | .ldstScaleBytesSpec => occLdstScaleBytesSpec
  | .ldstFixedBytesSpec => occLdstFixedBytesSpec
  | .ldScaleBytesSpec => occLdScaleBytesSpec
  | .ldFixedBytesSpec => occLdFixedBytesSpec
  | .stScaleBytesSpec => occStScaleBytesSpec
  | .stFixedBytesSpec => occStFixedBytesSpec
  | .aseInt8Spec => occAseInt8Spec
  | .sveInt8Spec => occSveInt8Spec
  | .aseSveInt8Spec => occAseSveInt8Spec
  | .aseInt16Spec => occAseInt16Spec
  | .sveInt16Spec => occSveInt16Spec
  | .aseSveInt16Spec => occAseSveInt16Spec
  | .fpBf16ScaleOpsSpec => occFpBf16ScaleOpsSpec
  | .aseInt32Spec => occAseInt32Spec
  | .sveInt32Spec => occSveInt32Spec
  | .aseSveInt32Spec => occAseSveInt32Spec
  | .aseInt64Spec => occAseInt64Spec
  | .sveInt64Spec => occSveInt64Spec
  | .aseSveInt64Spec => occAseSveInt64Spec
  | .aseFpDotSpec => occAseFpDotSpec
  | .sveFpDotSpec => occSveFpDotSpec
  | .aseSveFpDotSpec => occAseSveFpDotSpec
  | .aseFpMmlaSpec => occAseFpMmlaSpec
  | .sveFpMmlaSpec => occSveFpMmlaSpec
  | .aseSveFpMmlaSpec => occAseSveFpMmlaSpec
  | .aseIntDotSpec => occAseIntDotSpec
  | .sveIntDotSpec => occSveIntDotSpec
  | .aseSveIntDotSpec => occAseSveIntDotSpec
  | .aseIntMmlaSpec => occAseIntMmlaSpec
  | .sveIntMmlaSpec => occSveIntMmlaSpec
  | .aseSveIntMmlaSpec => occAseSveIntMmlaSpec
  | .brImmedPredRetired => occBrImmedPredRetired
  | .brImmedMisPredRetired => occBrImmedMisPredRetired
  | .brIndPredRetired => occBrIndPredRetired
  | .brIndMisPredRetired => occBrIndMisPredRetired
  | .brReturnPredRetired => occBrReturnPredRetired
  | .brReturnMisPredRetired => occBrReturnMisPredRetired
  | .brIndnrPredRetired => occBrIndnrPredRetired
  | .brIndnrMisPredRetired => occBrIndnrMisPredRetired
  | .brTakenPredRetired => occBrTakenPredRetired
  | .brTakenMisPredRetired => occBrTakenMisPredRetired
  | .brSkipPredRetired => occBrSkipPredRetired
  | .brSkipMisPredRetired => occBrSkipMisPredRetired
  | .brPredRetired => occBrPredRetired
  | .instFetchPercyc => occInstFetchPercyc
  | .memAccessRdPercyc => occMemAccessRdPercyc
  | .sampleFeedDs => occSampleFeedDs
  | .sampleBufferFull => occSampleBufferFull
  | .instFetch => occInstFetch
  | .busReqRdPercyc => occBusReqRdPercyc
  | .busReqWrPercyc => occBusReqWrPercyc
  | .pmuSnapshot => occPmuSnapshot
  | .dtlbWalkPercyc => occDtlbWalkPercyc
  | .itlbWalkPercyc => occItlbWalkPercyc
  | .sampleFeedBr => occSampleFeedBr
  | .sampleFeedLd => occSampleFeedLd
  | .sampleFeedSt => occSampleFeedSt
  | .sampleFeedOp => occSampleFeedOp
  | .sampleFeedEvent => occSampleFeedEvent
  | .sampleFeedLat => occSampleFeedLat
  | .l1dTlbRw => occL1dTlbRw
  | .l1iTlbRd => occL1iTlbRd
  | .l1dTlbPrfm => occL1dTlbPrfm
  | .l1iTlbPrfm => occL1iTlbPrfm
  | .dtlbHwupd => occDtlbHwupd
  | .itlbHwupd => occItlbHwupd
  | .dtlbStep => occDtlbStep
  | .itlbStep => occItlbStep
  | .dtlbWalkLarge => occDtlbWalkLarge
  | .itlbWalkLarge => occItlbWalkLarge
  | .dtlbWalkSmall => occDtlbWalkSmall
  | .itlbWalkSmall => occItlbWalkSmall
  | .dtlbWalkRw => occDtlbWalkRw
  | .itlbWalkRd => occItlbWalkRd
  | .dtlbWalkPrfm => occDtlbWalkPrfm
  | .itlbWalkPrfm => occItlbWalkPrfm
  | .l1dCacheRw => occL1dCacheRw
  | .l1iCacheRd => occL1iCacheRd
  | .l1dCachePrfm => occL1dCachePrfm
  | .l1iCachePrfm => occL1iCachePrfm
  | .l1dCacheMiss => occL1dCacheMiss
  | .l1iCacheHwprf => occL1iCacheHwprf
  | .l1dCacheRefillPrfm => occL1dCacheRefillPrfm
  | .l1iCacheRefillPrfm => occL1iCacheRefillPrfm
  | .l2dCacheRw => occL2dCacheRw
  | .l2iCacheRd => occL2iCacheRd
  | .l2dCachePrfm => occL2dCachePrfm
  | .l2iCachePrfm => occL2iCachePrfm
  | .l2dCacheMiss => occL2dCacheMiss
  | .l2iCacheHwprf => occL2iCacheHwprf
  | .l2dCacheRefillPrfm => occL2dCacheRefillPrfm
  | .l2iCacheRefillPrfm => occL2iCacheRefillPrfm
  | .l3dCacheRw => occL3dCacheRw
  | .l3dCachePrfm => occL3dCachePrfm
  | .l3dCacheMiss => occL3dCacheMiss
  | .l3dCacheRefillPrfm => occL3dCacheRefillPrfm
  | .l1dCacheHwprf => occL1dCacheHwprf
  | .l2dCacheHwprf => occL2dCacheHwprf
  | .l3dCacheHwprf => occL3dCacheHwprf
  | .llCacheHwprf => occLlCacheHwprf
  | .stallFrontendMembound => occStallFrontendMembound
  | .stallFrontendL1i => occStallFrontendL1i
  | .stallFrontendL2i => occStallFrontendL2i
  | .stallFrontendMem => occStallFrontendMem
  | .stallFrontendTlb => occStallFrontendTlb
  | .stallBackendBusySmcu => occStallBackendBusySmcu
  | .stallBackendBusySmcuUnall => occStallBackendBusySmcuUnall
  | .stallFrontendCpubound => occStallFrontendCpubound
  | .stallFrontendFlow => occStallFrontendFlow
  | .stallFrontendFlush => occStallFrontendFlush
  | .stallFrontendRename => occStallFrontendRename
  | .stallBackendMembound => occStallBackendMembound
  | .stallBackendL1d => occStallBackendL1d
  | .stallBackendL2d => occStallBackendL2d
  | .stallBackendTlb => occStallBackendTlb
  | .stallBackendSt => occStallBackendSt
  | .stallBackendCpubound => occStallBackendCpubound
  | .stallBackendBusy => occStallBackendBusy
  | .stallBackendIlock => occStallBackendIlock
  | .stallBackendRename => occStallBackendRename
  | .stallBackendAtomic => occStallBackendAtomic
  | .stallBackendMemcpyset => occStallBackendMemcpyset
  | .casNearFail => occCasNearFail
  | .casNearPass => occCasNearPass
  | .casNearSpec => occCasNearSpec
  | .casFarSpec => occCasFarSpec
  | .casSpec => occCasSpec
  | .lseLdSpec => occLseLdSpec
  | .lseStSpec => occLseStSpec
  | .lseLdstSpec => occLseLdstSpec
  | .remoteAccessWr => occRemoteAccessWr
  | .brHintCondPredRetired => occBrHintCondPredRetired
  | .brHintCondMisPredRetired => occBrHintCondMisPredRetired
  | .uopRetired => occUopRetired
  | .dtlbWalkBlock => occDtlbWalkBlock
  | .itlbWalkBlock => occItlbWalkBlock
  | .dtlbWalkPage => occDtlbWalkPage
  | .itlbWalkPage => occItlbWalkPage
  | .busReqRd => occBusReqRd
  | .busReqWr => occBusReqWr
  | .busReq => occBusReq
  | .isnpHitRd => occIsnpHitRd
  | .isnpHitNearRd => occIsnpHitNearRd
  | .isnpHitFarRd => occIsnpHitFarRd
  | .isnpHitRemoteRd => occIsnpHitRemoteRd
  | .dsnpHitRd => occDsnpHitRd
  | .dsnpHitNearRd => occDsnpHitNearRd
  | .dsnpHitFarRd => occDsnpHitFarRd
  | .dsnpHitRemoteRd => occDsnpHitRemoteRd
  | .dsnpHitWr => occDsnpHitWr
  | .dsnpHitNearWr => occDsnpHitNearWr
  | .dsnpHitFarWr => occDsnpHitFarWr
  | .dsnpHitRemoteWr => occDsnpHitRemoteWr
  | .dsnpHitRw => occDsnpHitRw
  | .dsnpHitNearRw => occDsnpHitNearRw
  | .dsnpHitFarRw => occDsnpHitFarRw
  | .dsnpHitRemoteRw => occDsnpHitRemoteRw
  | .dsnpHitPrfm => occDsnpHitPrfm
  | .dsnpHitNearPrfm => occDsnpHitNearPrfm
  | .dsnpHitFarPrfm => occDsnpHitFarPrfm
  | .dsnpHitRemotePrfm => occDsnpHitRemotePrfm
  | .dsnpHitHwprf => occDsnpHitHwprf
  | .dsnpHitNearHwprf => occDsnpHitNearHwprf
  | .dsnpHitFarHwprf => occDsnpHitFarHwprf
  | .dsnpHitRemoteHwprf => occDsnpHitRemoteHwprf
  | .isnpHitPrfm => occIsnpHitPrfm
  | .isnpHitNearPrfm => occIsnpHitNearPrfm
  | .isnpHitFarPrfm => occIsnpHitFarPrfm
  | .isnpHitRemotePrfm => occIsnpHitRemotePrfm
  | .isnpHitHwprf => occIsnpHitHwprf
  | .isnpHitNearHwprf => occIsnpHitNearHwprf
  | .isnpHitFarHwprf => occIsnpHitFarHwprf
  | .isnpHitRemoteHwprf => occIsnpHitRemoteHwprf
  | .isnpHit => occIsnpHit
  | .isnpHitNear => occIsnpHitNear
  | .isnpHitFar => occIsnpHitFar
  | .isnpHitRemote => occIsnpHitRemote
  | .dsnpHit => occDsnpHit
  | .dsnpHitNear => occDsnpHitNear
  | .dsnpHitFar => occDsnpHitFar
  | .dsnpHitRemote => occDsnpHitRemote
  | .l1iCacheRefillHwprf => occL1iCacheRefillHwprf
  | .l2iCacheRefillHwprf => occL2iCacheRefillHwprf
  | .l1dCacheRefillHwprf => occL1dCacheRefillHwprf
  | .l2dCacheRefillHwprf => occL2dCacheRefillHwprf
  | .l3dCacheRefillHwprf => occL3dCacheRefillHwprf
  | .llCacheRefillHwprf => occLlCacheRefillHwprf
  | .l1iCacheHitRd => occL1iCacheHitRd
  | .l2iCacheHitRd => occL2iCacheHitRd
  | .l1dCacheHitRd => occL1dCacheHitRd
  | .l2dCacheHitRd => occL2dCacheHitRd
  | .l3dCacheHitRd => occL3dCacheHitRd
  | .llCacheHitRd => occLlCacheHitRd
  | .l1dCacheHitWr => occL1dCacheHitWr
  | .l2dCacheHitWr => occL2dCacheHitWr
  | .l3dCacheHitWr => occL3dCacheHitWr
  | .llCacheHitWr => occLlCacheHitWr
  | .l1dCacheHitRw => occL1dCacheHitRw
  | .l2dCacheHitRw => occL2dCacheHitRw
  | .l3dCacheHitRw => occL3dCacheHitRw
  | .llCacheHitRw => occLlCacheHitRw
  | .l1iCacheHitRdFprfm => occL1iCacheHitRdFprfm
  | .l2iCacheHitRdFprfm => occL2iCacheHitRdFprfm
  | .l1dCacheHitRdFprfm => occL1dCacheHitRdFprfm
  | .l2dCacheHitRdFprfm => occL2dCacheHitRdFprfm
  | .l3dCacheHitRdFprfm => occL3dCacheHitRdFprfm
  | .llCacheHitRdFprfm => occLlCacheHitRdFprfm
  | .l1dCacheHitWrFprfm => occL1dCacheHitWrFprfm
  | .l2dCacheHitWrFprfm => occL2dCacheHitWrFprfm
  | .l3dCacheHitWrFprfm => occL3dCacheHitWrFprfm
  | .llCacheHitWrFprfm => occLlCacheHitWrFprfm
  | .l1dCacheHitRwFprfm => occL1dCacheHitRwFprfm
  | .l2dCacheHitRwFprfm => occL2dCacheHitRwFprfm
  | .l3dCacheHitRwFprfm => occL3dCacheHitRwFprfm
  | .llCacheHitRwFprfm => occLlCacheHitRwFprfm
  | .l1iCacheHitRdFhwprf => occL1iCacheHitRdFhwprf
  | .l2iCacheHitRdFhwprf => occL2iCacheHitRdFhwprf
  | .l1dCacheHitRdFhwprf => occL1dCacheHitRdFhwprf
  | .l2dCacheHitRdFhwprf => occL2dCacheHitRdFhwprf
  | .l3dCacheHitRdFhwprf => occL3dCacheHitRdFhwprf
  | .llCacheHitRdFhwprf => occLlCacheHitRdFhwprf
  | .l1dCacheHitWrFhwprf => occL1dCacheHitWrFhwprf
  | .l2dCacheHitWrFhwprf => occL2dCacheHitWrFhwprf
  | .l3dCacheHitWrFhwprf => occL3dCacheHitWrFhwprf
  | .llCacheHitWrFhwprf => occLlCacheHitWrFhwprf
  | .l1dCacheHitRwFhwprf => occL1dCacheHitRwFhwprf
  | .l2dCacheHitRwFhwprf => occL2dCacheHitRwFhwprf
  | .l3dCacheHitRwFhwprf => occL3dCacheHitRwFhwprf
  | .llCacheHitRwFhwprf => occLlCacheHitRwFhwprf
  | .l1iCacheHitRdFprf => occL1iCacheHitRdFprf
  | .l2iCacheHitRdFprf => occL2iCacheHitRdFprf
  | .l1dCacheHitRdFprf => occL1dCacheHitRdFprf
  | .l2dCacheHitRdFprf => occL2dCacheHitRdFprf
  | .l3dCacheHitRdFprf => occL3dCacheHitRdFprf
  | .llCacheHitRdFprf => occLlCacheHitRdFprf
  | .l1dCacheHitWrFprf => occL1dCacheHitWrFprf
  | .l2dCacheHitWrFprf => occL2dCacheHitWrFprf
  | .l3dCacheHitWrFprf => occL3dCacheHitWrFprf
  | .llCacheHitWrFprf => occLlCacheHitWrFprf
  | .l1dCacheHitRwFprf => occL1dCacheHitRwFprf
  | .l2dCacheHitRwFprf => occL2dCacheHitRwFprf
  | .l3dCacheHitRwFprf => occL3dCacheHitRwFprf
  | .llCacheHitRwFprf => occLlCacheHitRwFprf
  | .l1iCacheHit => occL1iCacheHit
  | .l2iCacheHit => occL2iCacheHit
  | .l1dCacheHit => occL1dCacheHit
  | .l2dCacheHit => occL2dCacheHit
  | .l3dCacheHit => occL3dCacheHit
  | .llCacheHit => occLlCacheHit
  | .l1iCacheHitPrfm => occL1iCacheHitPrfm
  | .l2iCacheHitPrfm => occL2iCacheHitPrfm
  | .l1dCacheHitPrfm => occL1dCacheHitPrfm
  | .l2dCacheHitPrfm => occL2dCacheHitPrfm
  | .l3dCacheHitPrfm => occL3dCacheHitPrfm
  | .llCacheHitPrfm => occLlCacheHitPrfm
  | .l1dCacheHitmRd => occL1dCacheHitmRd
  | .l2dCacheHitmRd => occL2dCacheHitmRd
  | .l3dCacheHitmRd => occL3dCacheHitmRd
  | .llCacheHitmRd => occLlCacheHitmRd
  | .l1dCacheHitmWr => occL1dCacheHitmWr
  | .l2dCacheHitmWr => occL2dCacheHitmWr
  | .l3dCacheHitmWr => occL3dCacheHitmWr
  | .llCacheHitmWr => occLlCacheHitmWr
  | .l1dCacheHitmRw => occL1dCacheHitmRw
  | .l2dCacheHitmRw => occL2dCacheHitmRw
  | .l3dCacheHitmRw => occL3dCacheHitmRw
  | .llCacheHitmRw => occLlCacheHitmRw
  | .dsnpHitmRd => occDsnpHitmRd
  | .dsnpHitmNearRd => occDsnpHitmNearRd
  | .dsnpHitmFarRd => occDsnpHitmFarRd
  | .dsnpHitmRemoteRd => occDsnpHitmRemoteRd
  | .dsnpHitmWr => occDsnpHitmWr
  | .dsnpHitmNearWr => occDsnpHitmNearWr
  | .dsnpHitmFarWr => occDsnpHitmFarWr
  | .dsnpHitmRemoteWr => occDsnpHitmRemoteWr
  | .dsnpHitmRw => occDsnpHitmRw
  | .dsnpHitmNearRw => occDsnpHitmNearRw
  | .dsnpHitmFarRw => occDsnpHitmFarRw
  | .dsnpHitmRemoteRw => occDsnpHitmRemoteRw
  | .localMem => occLocalMem
  | .localMemRd => occLocalMemRd
  | .localMemWr => occLocalMemWr
  | .localMemRw => occLocalMemRw
  | .localMemPrfm => occLocalMemPrfm
  | .localMemLdRetired => occLocalMemLdRetired
  | .localMemStRetired => occLocalMemStRetired
  | .localMemLdstRetired => occLocalMemLdstRetired
  | .remoteMem => occRemoteMem
  | .remoteMemRd => occRemoteMemRd
  | .remoteMemWr => occRemoteMemWr
  | .remoteMemRw => occRemoteMemRw
  | .remoteMemPrfm => occRemoteMemPrfm
  | .remoteMemLdRetired => occRemoteMemLdRetired
  | .remoteMemStRetired => occRemoteMemStRetired
  | .remoteMemLdstRetired => occRemoteMemLdstRetired
  | .l1iLfbHitRd => occL1iLfbHitRd
  | .l2iLfbHitRd => occL2iLfbHitRd
  | .l1dLfbHitRd => occL1dLfbHitRd
  | .l2dLfbHitRd => occL2dLfbHitRd
  | .l3dLfbHitRd => occL3dLfbHitRd
  | .llLfbHitRd => occLlLfbHitRd
  | .l1dLfbHitWr => occL1dLfbHitWr
  | .l2dLfbHitWr => occL2dLfbHitWr
  | .l3dLfbHitWr => occL3dLfbHitWr
  | .llLfbHitWr => occLlLfbHitWr
  | .l1dLfbHitRw => occL1dLfbHitRw
  | .l2dLfbHitRw => occL2dLfbHitRw
  | .l3dLfbHitRw => occL3dLfbHitRw
  | .llLfbHitRw => occLlLfbHitRw
  | .l1iLfbHitRdFprfm => occL1iLfbHitRdFprfm
  | .l2iLfbHitRdFprfm => occL2iLfbHitRdFprfm
  | .l1dLfbHitRdFprfm => occL1dLfbHitRdFprfm
  | .l2dLfbHitRdFprfm => occL2dLfbHitRdFprfm
  | .l3dLfbHitRdFprfm => occL3dLfbHitRdFprfm
  | .llLfbHitRdFprfm => occLlLfbHitRdFprfm
  | .l1dLfbHitWrFprfm => occL1dLfbHitWrFprfm
  | .l2dLfbHitWrFprfm => occL2dLfbHitWrFprfm
  | .l3dLfbHitWrFprfm => occL3dLfbHitWrFprfm
  | .llLfbHitWrFprfm => occLlLfbHitWrFprfm
  | .l1dLfbHitRwFprfm => occL1dLfbHitRwFprfm
  | .l2dLfbHitRwFprfm => occL2dLfbHitRwFprfm
  | .l3dLfbHitRwFprfm => occL3dLfbHitRwFprfm
  | .llLfbHitRwFprfm => occLlLfbHitRwFprfm
  | .l1iLfbHitRdFhwprf => occL1iLfbHitRdFhwprf
  | .l2iLfbHitRdFhwprf => occL2iLfbHitRdFhwprf
  | .l1dLfbHitRdFhwprf => occL1dLfbHitRdFhwprf
  | .l2dLfbHitRdFhwprf => occL2dLfbHitRdFhwprf
  | .l3dLfbHitRdFhwprf => occL3dLfbHitRdFhwprf
  | .llLfbHitRdFhwprf => occLlLfbHitRdFhwprf
  | .l1dLfbHitWrFhwprf => occL1dLfbHitWrFhwprf
  | .l2dLfbHitWrFhwprf => occL2dLfbHitWrFhwprf
  | .l3dLfbHitWrFhwprf => occL3dLfbHitWrFhwprf
  | .llLfbHitWrFhwprf => occLlLfbHitWrFhwprf
  | .l1dLfbHitRwFhwprf => occL1dLfbHitRwFhwprf
  | .l2dLfbHitRwFhwprf => occL2dLfbHitRwFhwprf
  | .l3dLfbHitRwFhwprf => occL3dLfbHitRwFhwprf
  | .llLfbHitRwFhwprf => occLlLfbHitRwFhwprf
  | .l1iLfbHitRdFprf => occL1iLfbHitRdFprf
  | .l2iLfbHitRdFprf => occL2iLfbHitRdFprf
  | .l1dLfbHitRdFprf => occL1dLfbHitRdFprf
  | .l2dLfbHitRdFprf => occL2dLfbHitRdFprf
  | .l3dLfbHitRdFprf => occL3dLfbHitRdFprf
  | .llLfbHitRdFprf => occLlLfbHitRdFprf
  | .l1dLfbHitWrFprf => occL1dLfbHitWrFprf
  | .l2dLfbHitWrFprf => occL2dLfbHitWrFprf
  | .l3dLfbHitWrFprf => occL3dLfbHitWrFprf
  | .llLfbHitWrFprf => occLlLfbHitWrFprf
  | .l1dLfbHitRwFprf => occL1dLfbHitRwFprf
  | .l2dLfbHitRwFprf => occL2dLfbHitRwFprf
  | .l3dLfbHitRwFprf => occL3dLfbHitRwFprf
  | .llLfbHitRwFprf => occLlLfbHitRwFprf
  | .l1iCachePrf => occL1iCachePrf
  | .l2iCachePrf => occL2iCachePrf
  | .l1dCachePrf => occL1dCachePrf
  | .l2dCachePrf => occL2dCachePrf
  | .l3dCachePrf => occL3dCachePrf
  | .llCachePrf => occLlCachePrf
  | .l1iCacheRefillPrf => occL1iCacheRefillPrf
  | .l2iCacheRefillPrf => occL2iCacheRefillPrf
  | .l1dCacheRefillPrf => occL1dCacheRefillPrf
  | .l2dCacheRefillPrf => occL2dCacheRefillPrf
  | .l3dCacheRefillPrf => occL3dCacheRefillPrf
  | .llCacheRefillPrf => occLlCacheRefillPrf
  | .isnpHitPrf => occIsnpHitPrf
  | .isnpHitNearPrf => occIsnpHitNearPrf
  | .isnpHitFarPrf => occIsnpHitFarPrf
  | .isnpHitRemotePrf => occIsnpHitRemotePrf
  | .dsnpHitPrf => occDsnpHitPrf
  | .dsnpHitNearPrf => occDsnpHitNearPrf
  | .dsnpHitFarPrf => occDsnpHitFarPrf
  | .dsnpHitRemotePrf => occDsnpHitRemotePrf
  | .llCacheRw => occLlCacheRw
  | .llCachePrfm => occLlCachePrfm
  | .llCacheRefill => occLlCacheRefill
  | .llCacheRefillPrfm => occLlCacheRefillPrfm
  | .llCacheWb => occLlCacheWb
  | .llCacheWr => occLlCacheWr
  | .llCacheRefillWr => occLlCacheRefillWr
  | .memAccessRw => occMemAccessRw
  | .instFetchRd => occInstFetchRd
  | .memAccessPrfm => occMemAccessPrfm
  | .instFetchPrfm => occInstFetchPrfm
  | .l1iCacheMissRetired => occL1iCacheMissRetired
  | .l2iCacheMissRetired => occL2iCacheMissRetired
  | .l1dCacheMissLdRetired => occL1dCacheMissLdRetired
  | .l2dCacheMissLdRetired => occL2dCacheMissLdRetired
  | .l3dCacheMissLdRetired => occL3dCacheMissLdRetired
  | .llCacheMissLdRetired => occLlCacheMissLdRetired
  | .l1dCacheMissStRetired => occL1dCacheMissStRetired
  | .l2dCacheMissStRetired => occL2dCacheMissStRetired
  | .l3dCacheMissStRetired => occL3dCacheMissStRetired
  | .llCacheMissStRetired => occLlCacheMissStRetired
  | .l1dCacheMissLdstRetired => occL1dCacheMissLdstRetired
  | .l2dCacheMissLdstRetired => occL2dCacheMissLdstRetired
  | .l3dCacheMissLdstRetired => occL3dCacheMissLdstRetired
  | .llCacheMissLdstRetired => occLlCacheMissLdstRetired
  | .l1dCacheHitmLdRetired => occL1dCacheHitmLdRetired
  | .l2dCacheHitmLdRetired => occL2dCacheHitmLdRetired
  | .l3dCacheHitmLdRetired => occL3dCacheHitmLdRetired
  | .llCacheHitmLdRetired => occLlCacheHitmLdRetired
  | .l1dCacheHitmStRetired => occL1dCacheHitmStRetired
  | .l2dCacheHitmStRetired => occL2dCacheHitmStRetired
  | .l3dCacheHitmStRetired => occL3dCacheHitmStRetired
  | .llCacheHitmStRetired => occLlCacheHitmStRetired
  | .l1dCacheHitmLdstRetired => occL1dCacheHitmLdstRetired
  | .l2dCacheHitmLdstRetired => occL2dCacheHitmLdstRetired
  | .l3dCacheHitmLdstRetired => occL3dCacheHitmLdstRetired
  | .llCacheHitmLdstRetired => occLlCacheHitmLdstRetired
  | .l1iLfbHitRetired => occL1iLfbHitRetired
  | .l2iLfbHitRetired => occL2iLfbHitRetired
  | .l1dLfbHitLdRetired => occL1dLfbHitLdRetired
  | .l2dLfbHitLdRetired => occL2dLfbHitLdRetired
  | .l3dLfbHitLdRetired => occL3dLfbHitLdRetired
  | .llLfbHitLdRetired => occLlLfbHitLdRetired
  | .l1dLfbHitStRetired => occL1dLfbHitStRetired
  | .l2dLfbHitStRetired => occL2dLfbHitStRetired
  | .l3dLfbHitStRetired => occL3dLfbHitStRetired
  | .llLfbHitStRetired => occLlLfbHitStRetired
  | .l1dLfbHitLdstRetired => occL1dLfbHitLdstRetired
  | .l2dLfbHitLdstRetired => occL2dLfbHitLdstRetired
  | .l3dLfbHitLdstRetired => occL3dLfbHitLdstRetired
  | .llLfbHitLdstRetired => occLlLfbHitLdstRetired
  | .l1iCacheHitRetired => occL1iCacheHitRetired
  | .l2iCacheHitRetired => occL2iCacheHitRetired
  | .l1dCacheHitLdRetired => occL1dCacheHitLdRetired
  | .l2dCacheHitLdRetired => occL2dCacheHitLdRetired
  | .l3dCacheHitLdRetired => occL3dCacheHitLdRetired
  | .llCacheHitLdRetired => occLlCacheHitLdRetired
  | .l1dCacheHitStRetired => occL1dCacheHitStRetired
  | .l2dCacheHitStRetired => occL2dCacheHitStRetired
  | .l3dCacheHitStRetired => occL3dCacheHitStRetired
  | .llCacheHitStRetired => occLlCacheHitStRetired
  | .l1dCacheHitLdstRetired => occL1dCacheHitLdstRetired
  | .l2dCacheHitLdstRetired => occL2dCacheHitLdstRetired
  | .l3dCacheHitLdstRetired => occL3dCacheHitLdstRetired
  | .llCacheHitLdstRetired => occLlCacheHitLdstRetired
  | .itlbHitRetired => occItlbHitRetired
  | .dtlbHitLdRetired => occDtlbHitLdRetired
  | .dtlbHitStRetired => occDtlbHitStRetired
  | .dtlbHitLdstRetired => occDtlbHitLdstRetired
  | .itlbWalkRetired => occItlbWalkRetired
  | .dtlbWalkLdRetired => occDtlbWalkLdRetired
  | .dtlbWalkStRetired => occDtlbWalkStRetired
  | .dtlbWalkLdstRetired => occDtlbWalkLdstRetired
  | .dtlbWalkPrf => occDtlbWalkPrf
  | .itlbWalkPrf => occItlbWalkPrf
  | .dtlbWalkHwprf => occDtlbWalkHwprf
  | .itlbWalkHwprf => occItlbWalkHwprf
  | .l1dTlbPrf => occL1dTlbPrf
  | .l1iTlbPrf => occL1iTlbPrf
  | .l1dTlbHwprf => occL1dTlbHwprf
  | .l1iTlbHwprf => occL1iTlbHwprf
  | .dsnpHitmLdRetired => occDsnpHitmLdRetired
  | .dsnpHitmNearLdRetired => occDsnpHitmNearLdRetired
  | .dsnpHitmFarLdRetired => occDsnpHitmFarLdRetired
  | .dsnpHitmRemoteLdRetired => occDsnpHitmRemoteLdRetired
  | .dsnpHitmStRetired => occDsnpHitmStRetired
  | .dsnpHitmNearStRetired => occDsnpHitmNearStRetired
  | .dsnpHitmFarStRetired => occDsnpHitmFarStRetired
  | .dsnpHitmRemoteStRetired => occDsnpHitmRemoteStRetired
  | .dsnpHitmLdstRetired => occDsnpHitmLdstRetired
  | .dsnpHitmNearLdstRetired => occDsnpHitmNearLdstRetired
  | .dsnpHitmFarLdstRetired => occDsnpHitmFarLdstRetired
  | .dsnpHitmRemoteLdstRetired => occDsnpHitmRemoteLdstRetired
  | .isnpHitRetired => occIsnpHitRetired
  | .isnpHitNearRetired => occIsnpHitNearRetired
  | .isnpHitFarRetired => occIsnpHitFarRetired
  | .isnpHitRemoteRetired => occIsnpHitRemoteRetired
  | .dsnpHitLdRetired => occDsnpHitLdRetired
  | .dsnpHitNearLdRetired => occDsnpHitNearLdRetired
  | .dsnpHitFarLdRetired => occDsnpHitFarLdRetired
  | .dsnpHitRemoteLdRetired => occDsnpHitRemoteLdRetired
  | .dsnpHitStRetired => occDsnpHitStRetired
  | .dsnpHitNearStRetired => occDsnpHitNearStRetired
  | .dsnpHitFarStRetired => occDsnpHitFarStRetired
  | .dsnpHitRemoteStRetired => occDsnpHitRemoteStRetired
  | .dsnpHitLdstRetired => occDsnpHitLdstRetired
  | .dsnpHitNearLdstRetired => occDsnpHitNearLdstRetired
  | .dsnpHitFarLdstRetired => occDsnpHitFarLdstRetired
  | .dsnpHitRemoteLdstRetired => occDsnpHitRemoteLdstRetired
  | .l1dCacheRefillPercyc => occL1dCacheRefillPercyc
  | .l2dCacheRefillPercyc => occL2dCacheRefillPercyc
  | .l3dCacheRefillPercyc => occL3dCacheRefillPercyc
  | .l1iCacheRefillPercyc => occL1iCacheRefillPercyc
  | .l2iCacheRefillPercyc => occL2iCacheRefillPercyc
  | .remoteCacheHitRd => occRemoteCacheHitRd
  | .remoteCacheHitmRd => occRemoteCacheHitmRd
  | .remoteLfbHitRd => occRemoteLfbHitRd
  | .remoteCacheHitPrfm => occRemoteCacheHitPrfm
  | .stallBackendAtomicFp => occStallBackendAtomicFp
  | .lseFpLdSpec => occLseFpLdSpec
  | .lseFpStSpec => occLseFpStSpec
  | .lseFpLdstSpec => occLseFpLdstSpec
  | .l1gcsCache => occL1gcsCache
  | .l1gcsCacheRw => occL1gcsCacheRw
  | .l1gcsCacheHwprf => occL1gcsCacheHwprf
  | .l1gcsCacheMiss => occL1gcsCacheMiss
  | .l1gcsCacheMissRd => occL1gcsCacheMissRd
  | .l1gcsCacheHitRw => occL1gcsCacheHitRw
  | .l1gcsCacheHitRwFhwprf => occL1gcsCacheHitRwFhwprf
  | .l1gcsCacheRefill => occL1gcsCacheRefill
  | .l1gcsCacheRefillHwprf => occL1gcsCacheRefillHwprf
  | .l1gcsCacheRefillPercyc => occL1gcsCacheRefillPercyc
  | .l1gcsLfbHitRw => occL1gcsLfbHitRw
  | .l1gcsLfbHitRwFhwprf => occL1gcsLfbHitRwFhwprf
  | .l1gcsCacheInval => occL1gcsCacheInval
  | .l1gcsTlb => occL1gcsTlb
  | .l1gcsTlbRw => occL1gcsTlbRw
  | .l1gcsTlbHwprf => occL1gcsTlbHwprf
  | .gcstlbWalk => occGcstlbWalk
  | .gcstlbWalkRw => occGcstlbWalkRw
  | .gcstlbWalkPercyc => occGcstlbWalkPercyc
  | .gcstlbWalkStep => occGcstlbWalkStep
  | .sampleFeedFp => occSampleFeedFp
  | .sampleFeedSimd => occSampleFeedSimd
  | .stallBackendL1gcs => occStallBackendL1gcs
  | .stallBackendGcstlb => occStallBackendGcstlb
  | .smeFpSpec => occSmeFpSpec
  | .seFpSpec => occSeFpSpec
  | .sveCmpIgranuleSpec => occSveCmpIgranuleSpec
  | .sveCmpXgranuleSpec => occSveCmpXgranuleSpec
  | .sveBitpermSpec => occSveBitpermSpec
  | .smeSpec => occSmeSpec
  | .seSpec => occSeSpec
  | .smeInstSpec => occSmeInstSpec
  | .seInstSpec => occSeInstSpec
  | .smeInt8Spec => occSmeInt8Spec
  | .seInt8Spec => occSeInt8Spec
  | .smeFpBf16Spec => occSmeFpBf16Spec
  | .seFpBf16Spec => occSeFpBf16Spec
  | .smeInt16Spec => occSmeInt16Spec
  | .seInt16Spec => occSeInt16Spec
  | .smeFpHpSpec => occSmeFpHpSpec
  | .seFpHpSpec => occSeFpHpSpec
  | .smeInt32Spec => occSmeInt32Spec
  | .seInt32Spec => occSeInt32Spec
  | .smeFpSpSpec => occSmeFpSpSpec
  | .seFpSpSpec => occSeFpSpSpec
  | .smeInt64Spec => occSmeInt64Spec
  | .seInt64Spec => occSeInt64Spec
  | .smeFpDpSpec => occSmeFpDpSpec
  | .seFpDpSpec => occSeFpDpSpec
  | .smeFpAddsubSpec => occSmeFpAddsubSpec
  | .seFpAddsubSpec => occSeFpAddsubSpec
  | .smeFpFmaSpec => occSmeFpFmaSpec
  | .seFpFmaSpec => occSeFpFmaSpec
  | .smeFpDotSpec => occSmeFpDotSpec
  | .seFpDotSpec => occSeFpDotSpec
  | .smeFpMopaSpec => occSmeFpMopaSpec
  | .smeIntSpec => occSmeIntSpec
  | .seIntSpec => occSeIntSpec
  | .smeIntMulSpec => occSmeIntMulSpec
  | .seIntMulSpec => occSeIntMulSpec
  | .smeIntDotSpec => occSmeIntDotSpec
  | .seIntDotSpec => occSeIntDotSpec
  | .smeIntMopaSpec => occSmeIntMopaSpec
  | .zaActive => occZaActive
  | .smePred2NotFullSpec => occSmePred2NotFullSpec
  | .smePred2Spec => occSmePred2Spec
  | .smePred2EmptySpec => occSmePred2EmptySpec
  | .smePred2FullSpec => occSmePred2FullSpec
  | .smePred2PartialSpec => occSmePred2PartialSpec
  | .smeLdstZaregSpec => occSmeLdstZaregSpec
  | .smeLdZaregSpec => occSmeLdZaregSpec
  | .smeStZaregSpec => occSmeStZaregSpec
  | .smeLdstZtregSpec => occSmeLdstZtregSpec
  | .smeLdZtregSpec => occSmeLdZtregSpec
  | .smeStZtregSpec => occSmeStZtregSpec
  | .smeLdstRegSpec => occSmeLdstRegSpec
  | .smeLdRegSpec => occSmeLdRegSpec
  | .smeStRegSpec => occSmeStRegSpec
  | .smeLdstTileSpec => occSmeLdstTileSpec
  | .smeLdTileSpec => occSmeLdTileSpec
  | .smeStTileSpec => occSmeStTileSpec
  | .aseLutSpec => occAseLutSpec
  | .sveLutSpec => occSveLutSpec
  | .smeLutSpec => occSmeLutSpec
  | .seLutSpec => occSeLutSpec
  | .n1CacheHitRd => occN1CacheHitRd
  | .n2CacheHitRd => occN2CacheHitRd
  | .n3CacheHitRd => occN3CacheHitRd
  | .n4CacheHitRd => occN4CacheHitRd
  | .n1CacheHitPrfm => occN1CacheHitPrfm
  | .n2CacheHitPrfm => occN2CacheHitPrfm
  | .n3CacheHitPrfm => occN3CacheHitPrfm
  | .n4CacheHitPrfm => occN4CacheHitPrfm
  | .n1Cache1HitRd => occN1Cache1HitRd
  | .n2Cache1HitRd => occN2Cache1HitRd
  | .n3Cache1HitRd => occN3Cache1HitRd
  | .n4Cache1HitRd => occN4Cache1HitRd
  | .n1Cache1HitPrfm => occN1Cache1HitPrfm
  | .n2Cache1HitPrfm => occN2Cache1HitPrfm
  | .n3Cache1HitPrfm => occN3Cache1HitPrfm
  | .n4Cache1HitPrfm => occN4Cache1HitPrfm
  | .n1Cache2HitRd => occN1Cache2HitRd
  | .n2Cache2HitRd => occN2Cache2HitRd
  | .n3Cache2HitRd => occN3Cache2HitRd
  | .n4Cache2HitRd => occN4Cache2HitRd
  | .n1Cache2HitPrfm => occN1Cache2HitPrfm
  | .n2Cache2HitPrfm => occN2Cache2HitPrfm
  | .n3Cache2HitPrfm => occN3Cache2HitPrfm
  | .n4Cache2HitPrfm => occN4Cache2HitPrfm
  | .n1Cache3HitRd => occN1Cache3HitRd
  | .n2Cache3HitRd => occN2Cache3HitRd
  | .n3Cache3HitRd => occN3Cache3HitRd
  | .n4Cache3HitRd => occN4Cache3HitRd
  | .n1Cache3HitPrfm => occN1Cache3HitPrfm
  | .n2Cache3HitPrfm => occN2Cache3HitPrfm
  | .n3Cache3HitPrfm => occN3Cache3HitPrfm
  | .n4Cache3HitPrfm => occN4Cache3HitPrfm
  | .n1CacheHitmRd => occN1CacheHitmRd
  | .n2CacheHitmRd => occN2CacheHitmRd
  | .n3CacheHitmRd => occN3CacheHitmRd
  | .n4CacheHitmRd => occN4CacheHitmRd
  | .n1LfbHitRd => occN1LfbHitRd
  | .n2LfbHitRd => occN2LfbHitRd
  | .n3LfbHitRd => occN3LfbHitRd
  | .n4LfbHitRd => occN4LfbHitRd
  | .n1Cache1HitmRd => occN1Cache1HitmRd
  | .n2Cache1HitmRd => occN2Cache1HitmRd
  | .n3Cache1HitmRd => occN3Cache1HitmRd
  | .n4Cache1HitmRd => occN4Cache1HitmRd
  | .n1Lfb1HitRd => occN1Lfb1HitRd
  | .n2Lfb1HitRd => occN2Lfb1HitRd
  | .n3Lfb1HitRd => occN3Lfb1HitRd
  | .n4Lfb1HitRd => occN4Lfb1HitRd
  | .n1Cache2HitmRd => occN1Cache2HitmRd
  | .n2Cache2HitmRd => occN2Cache2HitmRd
  | .n3Cache2HitmRd => occN3Cache2HitmRd
  | .n4Cache2HitmRd => occN4Cache2HitmRd
  | .n1Lfb2HitRd => occN1Lfb2HitRd
  | .n2Lfb2HitRd => occN2Lfb2HitRd
  | .n3Lfb2HitRd => occN3Lfb2HitRd
  | .n4Lfb2HitRd => occN4Lfb2HitRd
  | .n1Cache3HitmRd => occN1Cache3HitmRd
  | .n2Cache3HitmRd => occN2Cache3HitmRd
  | .n3Cache3HitmRd => occN3Cache3HitmRd
  | .n4Cache3HitmRd => occN4Cache3HitmRd
  | .n1Lfb3HitRd => occN1Lfb3HitRd
  | .n2Lfb3HitRd => occN2Lfb3HitRd
  | .n3Lfb3HitRd => occN3Lfb3HitRd
  | .n4Lfb3HitRd => occN4Lfb3HitRd
  | .n1MemRd => occN1MemRd
  | .n2MemRd => occN2MemRd
  | .n3MemRd => occN3MemRd
  | .n4MemRd => occN4MemRd
  | .n1MemPrfm => occN1MemPrfm
  | .n2MemPrfm => occN2MemPrfm
  | .n3MemPrfm => occN3MemPrfm
  | .n4MemPrfm => occN4MemPrfm
  | .n1Mem1Rd => occN1Mem1Rd
  | .n2Mem1Rd => occN2Mem1Rd
  | .n3Mem1Rd => occN3Mem1Rd
  | .n4Mem1Rd => occN4Mem1Rd
  | .n1Mem1Prfm => occN1Mem1Prfm
  | .n2Mem1Prfm => occN2Mem1Prfm
  | .n3Mem1Prfm => occN3Mem1Prfm
  | .n4Mem1Prfm => occN4Mem1Prfm
  | .n1Mem2Rd => occN1Mem2Rd
  | .n2Mem2Rd => occN2Mem2Rd
  | .n3Mem2Rd => occN3Mem2Rd
  | .n4Mem2Rd => occN4Mem2Rd
  | .n1Mem2Prfm => occN1Mem2Prfm
  | .n2Mem2Prfm => occN2Mem2Prfm
  | .n3Mem2Prfm => occN3Mem2Prfm
  | .n4Mem2Prfm => occN4Mem2Prfm
  | .n1Mem3Rd => occN1Mem3Rd
  | .n2Mem3Rd => occN2Mem3Rd
  | .n3Mem3Rd => occN3Mem3Rd
  | .n4Mem3Rd => occN4Mem3Rd
  | .n1Mem3Prfm => occN1Mem3Prfm
  | .n2Mem3Prfm => occN2Mem3Prfm
  | .n3Mem3Prfm => occN3Mem3Prfm
  | .n4Mem3Prfm => occN4Mem3Prfm
  | .isnpHitN1Rd => occIsnpHitN1Rd
  | .isnpHitN2Rd => occIsnpHitN2Rd
  | .isnpHitN3Rd => occIsnpHitN3Rd
  | .isnpHitN4Rd => occIsnpHitN4Rd
  | .dsnpHitN1Rd => occDsnpHitN1Rd
  | .dsnpHitN2Rd => occDsnpHitN2Rd
  | .dsnpHitN3Rd => occDsnpHitN3Rd
  | .dsnpHitN4Rd => occDsnpHitN4Rd
  | .dsnpHitN1Wr => occDsnpHitN1Wr
  | .dsnpHitN2Wr => occDsnpHitN2Wr
  | .dsnpHitN3Wr => occDsnpHitN3Wr
  | .dsnpHitN4Wr => occDsnpHitN4Wr
  | .dsnpHitN1Rw => occDsnpHitN1Rw
  | .dsnpHitN2Rw => occDsnpHitN2Rw
  | .dsnpHitN3Rw => occDsnpHitN3Rw
  | .dsnpHitN4Rw => occDsnpHitN4Rw
  | .dsnpHitN1Prfm => occDsnpHitN1Prfm
  | .dsnpHitN2Prfm => occDsnpHitN2Prfm
  | .dsnpHitN3Prfm => occDsnpHitN3Prfm
  | .dsnpHitN4Prfm => occDsnpHitN4Prfm
  | .dsnpHitN1Hwprf => occDsnpHitN1Hwprf
  | .dsnpHitN2Hwprf => occDsnpHitN2Hwprf
  | .dsnpHitN3Hwprf => occDsnpHitN3Hwprf
  | .dsnpHitN4Hwprf => occDsnpHitN4Hwprf
  | .isnpHitN1Prfm => occIsnpHitN1Prfm
  | .isnpHitN2Prfm => occIsnpHitN2Prfm
  | .isnpHitN3Prfm => occIsnpHitN3Prfm
  | .isnpHitN4Prfm => occIsnpHitN4Prfm
  | .isnpHitN1Hwprf => occIsnpHitN1Hwprf
  | .isnpHitN2Hwprf => occIsnpHitN2Hwprf
  | .isnpHitN3Hwprf => occIsnpHitN3Hwprf
  | .isnpHitN4Hwprf => occIsnpHitN4Hwprf
  | .dsnpHitN1Prf => occDsnpHitN1Prf
  | .dsnpHitN2Prf => occDsnpHitN2Prf
  | .dsnpHitN3Prf => occDsnpHitN3Prf
  | .dsnpHitN4Prf => occDsnpHitN4Prf
  | .isnpHitN1Prf => occIsnpHitN1Prf
  | .isnpHitN2Prf => occIsnpHitN2Prf
  | .isnpHitN3Prf => occIsnpHitN3Prf
  | .isnpHitN4Prf => occIsnpHitN4Prf
  | .isnpHitN1 => occIsnpHitN1
  | .isnpHitN2 => occIsnpHitN2
  | .isnpHitN3 => occIsnpHitN3
  | .isnpHitN4 => occIsnpHitN4
  | .dsnpHitN1 => occDsnpHitN1
  | .dsnpHitN2 => occDsnpHitN2
  | .dsnpHitN3 => occDsnpHitN3
  | .dsnpHitN4 => occDsnpHitN4
  | .aseFpVreduceSpec => occAseFpVreduceSpec
  | .sveFpPreduceSpec => occSveFpPreduceSpec
  | .dsnpHitmN1Rd => occDsnpHitmN1Rd
  | .dsnpHitmN2Rd => occDsnpHitmN2Rd
  | .dsnpHitmN3Rd => occDsnpHitmN3Rd
  | .dsnpHitmN4Rd => occDsnpHitmN4Rd
  | .dsnpHitmN1Wr => occDsnpHitmN1Wr
  | .dsnpHitmN2Wr => occDsnpHitmN2Wr
  | .dsnpHitmN3Wr => occDsnpHitmN3Wr
  | .dsnpHitmN4Wr => occDsnpHitmN4Wr
  | .dsnpHitmN1Rw => occDsnpHitmN1Rw
  | .dsnpHitmN2Rw => occDsnpHitmN2Rw
  | .dsnpHitmN3Rw => occDsnpHitmN3Rw
  | .dsnpHitmN4Rw => occDsnpHitmN4Rw
  | .aseFpSpMinSpec => occAseFpSpMinSpec
  | .aseFpHpMinSpec => occAseFpHpMinSpec
  | .aseFpBf16MinSpec => occAseFpBf16MinSpec
  | .aseFpFp8MinSpec => occAseFpFp8MinSpec
  | .aseSveFpSpMinSpec => occAseSveFpSpMinSpec
  | .aseSveFpHpMinSpec => occAseSveFpHpMinSpec
  | .aseSveFpBf16MinSpec => occAseSveFpBf16MinSpec
  | .aseSveFpFp8MinSpec => occAseSveFpFp8MinSpec
  | .seFpSpMinSpec => occSeFpSpMinSpec
  | .seFpHpMinSpec => occSeFpHpMinSpec
  | .seFpBf16MinSpec => occSeFpBf16MinSpec
  | .seFpFp8MinSpec => occSeFpFp8MinSpec
  | .smeFpSpMinSpec => occSmeFpSpMinSpec
  | .smeFpHpMinSpec => occSmeFpHpMinSpec
  | .smeFpBf16MinSpec => occSmeFpBf16MinSpec
  | .smeFpFp8MinSpec => occSmeFpFp8MinSpec
  | .sveFpSpMinSpec => occSveFpSpMinSpec
  | .sveFpHpMinSpec => occSveFpHpMinSpec
  | .sveFpBf16MinSpec => occSveFpBf16MinSpec
  | .sveFpFp8MinSpec => occSveFpFp8MinSpec
  | .fpBf16FixedOpsSpec => occFpBf16FixedOpsSpec
  | .fpSpMinSpec => occFpSpMinSpec
  | .fpHpMinSpec => occFpHpMinSpec
  | .fpBf16MinSpec => occFpBf16MinSpec
  | .fpFp8MinSpec => occFpFp8MinSpec
  | .fpSpFixedMinOpsSpec => occFpSpFixedMinOpsSpec
  | .fpHpFixedMinOpsSpec => occFpHpFixedMinOpsSpec
  | .fpBf16FixedMinOpsSpec => occFpBf16FixedMinOpsSpec
  | .fpFp8FixedMinOpsSpec => occFpFp8FixedMinOpsSpec
  | .fpSpScaleMinOpsSpec => occFpSpScaleMinOpsSpec
  | .fpHpScaleMinOpsSpec => occFpHpScaleMinOpsSpec
  | .fpBf16ScaleMinOpsSpec => occFpBf16ScaleMinOpsSpec
  | .fpFp8ScaleMinOpsSpec => occFpFp8ScaleMinOpsSpec
  | .fpSpScale2MinOpsSpec => occFpSpScale2MinOpsSpec
  | .fpHpScale2MinOpsSpec => occFpHpScale2MinOpsSpec
  | .fpBf16Scale2MinOpsSpec => occFpBf16Scale2MinOpsSpec
  | .fpFp8Scale2MinOpsSpec => occFpFp8Scale2MinOpsSpec

/-- The attribution clause of an event (R129 to R131, R135, R136, R138); an event with none is counted by the PE it belongs to. -/
def attributionOf : Instr → Attribution
  | .l1iCacheRefill => .shared .l1iCache
  | .l1iTlbRefill => .shared .l1iTlb
  | .l1dCacheRefill => .shared .l1dCache
  | .l1dCache => .shared .l1dCache
  | .l1dTlbRefill => .shared .l1dTlb
  | .cpuCycles => .cycle
  | .l1iCache => .shared .l1iCache
  | .l1dCacheWb => .writeBack .l1dCache
  | .l2dCache => .shared .l2dCache
  | .l2dCacheRefill => .shared .l2dCache
  | .l2dCacheWb => .writeBack .l2dCache
  | .busCycles => .busCycle
  | .l1dCacheAllocate => .allocate
  | .l2dCacheAllocate => .allocate
  | .stallFrontend => .cycle
  | .stallBackend => .cycle
  | .l1dTlb => .shared .l1dTlb
  | .l1iTlb => .shared .l1iTlb
  | .l2iCache => .shared .l2iCache
  | .l2iCacheRefill => .shared .l2iCache
  | .l3dCacheAllocate => .allocate
  | .l3dCacheRefill => .shared .l3dCache
  | .l3dCache => .shared .l3dCache
  | .l3dCacheWb => .writeBack .l3dCache
  | .l2dTlbRefill => .shared .l2dTlb
  | .l2iTlbRefill => .shared .l2iTlb
  | .l2dTlb => .shared .l2dTlb
  | .l2iTlb => .shared .l2iTlb
  | .llCache => .shared .llCache
  | .llCacheMiss => .shared .llCache
  | .dtlbWalk => .shared .dtlb
  | .itlbWalk => .shared .itlb
  | .llCacheRd => .shared .llCache
  | .llCacheMissRd => .shared .llCache
  | .l1dCacheLmissRd => .shared .l1dCache
  | .stall => .cycle
  | .stallSlotBackend => .cycle
  | .stallSlotFrontend => .cycle
  | .stallSlot => .cycle
  | .l1dCacheRd => .shared .l1dCache
  | .l1dCacheWr => .shared .l1dCache
  | .l1dCacheRefillRd => .shared .l1dCache
  | .l1dCacheRefillWr => .shared .l1dCache
  | .l1dCacheRefillInner => .shared .l1dCache
  | .l1dCacheRefillOuter => .shared .l1dCache
  | .l1dCacheWbVictim => .writeBack .l1dCache
  | .l1dCacheWbClean => .writeBack .l1dCache
  | .l1dCacheInval => .invalidate
  | .l1dTlbRefillRd => .shared .l1dTlb
  | .l1dTlbRefillWr => .shared .l1dTlb
  | .l1dTlbRd => .shared .l1dTlb
  | .l1dTlbWr => .shared .l1dTlb
  | .l2dCacheRd => .shared .l2dCache
  | .l2dCacheWr => .shared .l2dCache
  | .l2dCacheRefillRd => .shared .l2dCache
  | .l2dCacheRefillWr => .shared .l2dCache
  | .l2dCacheWbVictim => .writeBack .l2dCache
  | .l2dCacheWbClean => .writeBack .l2dCache
  | .l2dCacheInval => .invalidate
  | .l2dTlbRefillRd => .shared .l2dTlb
  | .l2dTlbRefillWr => .shared .l2dTlb
  | .l2dTlbRd => .shared .l2dTlb
  | .l2dTlbWr => .shared .l2dTlb
  | .l3dCacheHitWrFextProp => .sharedAs .l3dCache .l3dCache
  | .l3dCacheRd => .shared .l3dCache
  | .l3dCacheWr => .shared .l3dCache
  | .l3dCacheRefillRd => .shared .l3dCache
  | .l3dCacheRefillWr => .shared .l3dCache
  | .l3dCacheWbVictim => .writeBack .l3dCache
  | .l3dCacheWbClean => .writeBack .l3dCache
  | .l3dCacheInval => .invalidate
  | .l2dCacheHitRdFextProp => .sharedAs .l2dCache .l2dCache
  | .l2dCacheHitWrFextProp => .sharedAs .l2dCache .l2dCache
  | .l2dCacheHitRwFextProp => .sharedAs .l2dCache .l2dCache
  | .l3dCacheExtProp => .atOwner
  | .l3dCacheExtPropPrfmIr => .atOwner
  | .l3dCacheHitRwFextProp => .sharedAs .l3dCache .l3dCache
  | .l3dCacheHitRdFextProp => .sharedAs .l3dCache .l3dCache
  | .l1dCacheExtProp => .atOwner
  | .l1dCacheExtPropPrfmIr => .atOwner
  | .l1dCacheHitRdFextProp => .sharedAs .l1dCache .l1dCache
  | .l1dCacheHitWrFextProp => .sharedAs .l1dCache .l1dCache
  | .l1dCacheHitRwFextProp => .sharedAs .l1dCache .l1dCache
  | .l2dCacheExtProp => .atOwner
  | .l2dCacheExtPropPrfmIr => .atOwner
  | .stallBackendMem => .cycle
  | .l1iCacheLmiss => .shared .l1iCache
  | .l2dCacheLmissRd => .shared .l2dCache
  | .l2iCacheLmiss => .shared .l2iCache
  | .l3dCacheLmissRd => .shared .l3dCache
  | .instFetchPercyc => .cycle
  | .memAccessRdPercyc => .cycle
  | .busReqRdPercyc => .cycle
  | .busReqWrPercyc => .cycle
  | .dtlbWalkPercyc => .cycle
  | .itlbWalkPercyc => .cycle
  | .l1dTlbRw => .shared .l1dTlb
  | .l1iTlbRd => .shared .l1iTlb
  | .l1dTlbPrfm => .shared .l1dTlb
  | .l1iTlbPrfm => .shared .l1iTlb
  | .dtlbHwupd => .shared .dtlb
  | .itlbHwupd => .shared .itlb
  | .dtlbStep => .shared .dtlb
  | .itlbStep => .shared .itlb
  | .dtlbWalkLarge => .shared .dtlb
  | .itlbWalkLarge => .shared .itlb
  | .dtlbWalkSmall => .shared .dtlb
  | .itlbWalkSmall => .shared .itlb
  | .dtlbWalkRw => .shared .dtlb
  | .itlbWalkRd => .shared .itlb
  | .dtlbWalkPrfm => .shared .dtlb
  | .itlbWalkPrfm => .shared .itlb
  | .l1dCacheRw => .sharedAs .l1dCache .l1dCache
  | .l1iCacheRd => .sharedAs .l1iCache .l1iCache
  | .l1dCachePrfm => .sharedAs .l1dCache .l1dCache
  | .l1iCachePrfm => .sharedAs .l1iCache .l1iCache
  | .l1dCacheMiss => .sharedAs .l1dCache .l1dCache
  | .l1iCacheHwprf => .sharedAs .l1iCache .l1iCache
  | .l1dCacheRefillPrfm => .sharedAs .l1dCache .l1dCache
  | .l1iCacheRefillPrfm => .sharedAs .l1iCache .l1iCache
  | .l2dCacheRw => .sharedAs .l2dCache .l2dCache
  | .l2iCacheRd => .sharedAs .l2iCache .l2iCache
  | .l2dCachePrfm => .sharedAs .l2dCache .l2dCache
  | .l2iCachePrfm => .sharedAs .l2iCache .l2iCache
  | .l2dCacheMiss => .sharedAs .l2dCache .l2dCache
  | .l2iCacheHwprf => .sharedAs .l2iCache .l2iCache
  | .l2dCacheRefillPrfm => .sharedAs .l2dCache .l2dCache
  | .l2iCacheRefillPrfm => .sharedAs .l2iCache .l2iCache
  | .l3dCacheRw => .sharedAs .l3dCache .l3dCache
  | .l3dCachePrfm => .sharedAs .l3dCache .l3dCache
  | .l3dCacheMiss => .sharedAs .l3dCache .l3dCache
  | .l3dCacheRefillPrfm => .sharedAs .l3dCache .l3dCache
  | .l1dCacheHwprf => .sharedAs .l1dCache .l1dCache
  | .l2dCacheHwprf => .sharedAs .l2dCache .l2dCache
  | .l3dCacheHwprf => .sharedAs .l3dCache .l3dCache
  | .llCacheHwprf => .sharedAs .llCache .llCache
  | .stallFrontendMembound => .cycle
  | .stallFrontendL1i => .cycle
  | .stallFrontendL2i => .cycle
  | .stallFrontendMem => .cycle
  | .stallFrontendTlb => .cycle
  | .stallBackendBusySmcu => .cycle
  | .stallBackendBusySmcuUnall => .cycle
  | .stallFrontendCpubound => .cycle
  | .stallFrontendFlow => .cycle
  | .stallFrontendFlush => .cycle
  | .stallFrontendRename => .cycle
  | .stallBackendMembound => .cycle
  | .stallBackendL1d => .cycle
  | .stallBackendL2d => .cycle
  | .stallBackendTlb => .cycle
  | .stallBackendSt => .cycle
  | .stallBackendCpubound => .cycle
  | .stallBackendBusy => .cycle
  | .stallBackendIlock => .cycle
  | .stallBackendRename => .cycle
  | .stallBackendAtomic => .cycle
  | .stallBackendMemcpyset => .cycle
  | .dtlbWalkBlock => .shared .dtlb
  | .itlbWalkBlock => .shared .itlb
  | .dtlbWalkPage => .shared .dtlb
  | .itlbWalkPage => .shared .itlb
  | .busReqRd => .sharedAs .busReq .bus
  | .busReqWr => .sharedAs .busReq .bus
  | .busReq => .shared .bus
  | .l1iCacheRefillHwprf => .sharedAs .l1iCache .l1iCache
  | .l2iCacheRefillHwprf => .sharedAs .l2iCache .l2iCache
  | .l1dCacheRefillHwprf => .sharedAs .l1dCache .l1dCache
  | .l2dCacheRefillHwprf => .sharedAs .l2dCache .l2dCache
  | .l3dCacheRefillHwprf => .sharedAs .l3dCache .l3dCache
  | .llCacheRefillHwprf => .sharedAs .llCache .llCache
  | .l1iCacheHitRd => .sharedAs .l1iCache .l1iCache
  | .l2iCacheHitRd => .sharedAs .l2iCache .l2iCache
  | .l1dCacheHitRd => .sharedAs .l1dCacheRd .l1dCache
  | .l2dCacheHitRd => .sharedAs .l2dCacheRd .l2dCache
  | .l3dCacheHitRd => .sharedAs .l3dCacheRd .l3dCache
  | .llCacheHitRd => .sharedAs .llCacheRd .llCache
  | .l1dCacheHitWr => .sharedAs .l1dCacheWr .l1dCache
  | .l2dCacheHitWr => .sharedAs .l2dCacheWr .l2dCache
  | .l3dCacheHitWr => .sharedAs .l3dCacheWr .l3dCache
  | .llCacheHitWr => .sharedAs .llCacheWr .llCache
  | .l1dCacheHitRw => .sharedAs .l1dCache .l1dCache
  | .l2dCacheHitRw => .sharedAs .l2dCache .l2dCache
  | .l3dCacheHitRw => .sharedAs .l3dCache .l3dCache
  | .llCacheHitRw => .sharedAs .llCache .llCache
  | .l1iCacheHitRdFprfm => .sharedAs .l1iCache .l1iCache
  | .l2iCacheHitRdFprfm => .sharedAs .l2iCache .l2iCache
  | .l1dCacheHitRdFprfm => .sharedAs .l1dCache .l1dCache
  | .l2dCacheHitRdFprfm => .sharedAs .l2dCache .l2dCache
  | .l3dCacheHitRdFprfm => .sharedAs .l3dCache .l3dCache
  | .llCacheHitRdFprfm => .sharedAs .llCache .llCache
  | .l1dCacheHitWrFprfm => .sharedAs .l1dCache .l1dCache
  | .l2dCacheHitWrFprfm => .sharedAs .l2dCache .l2dCache
  | .l3dCacheHitWrFprfm => .sharedAs .l3dCache .l3dCache
  | .llCacheHitWrFprfm => .sharedAs .llCache .llCache
  | .l1dCacheHitRwFprfm => .sharedAs .l1dCache .l1dCache
  | .l2dCacheHitRwFprfm => .sharedAs .l2dCache .l2dCache
  | .l3dCacheHitRwFprfm => .sharedAs .l3dCache .l3dCache
  | .llCacheHitRwFprfm => .sharedAs .llCache .llCache
  | .l1iCacheHitRdFhwprf => .sharedAs .l1iCache .l1iCache
  | .l2iCacheHitRdFhwprf => .sharedAs .l2iCache .l2iCache
  | .l1dCacheHitRdFhwprf => .sharedAs .l1dCache .l1dCache
  | .l2dCacheHitRdFhwprf => .sharedAs .l2dCache .l2dCache
  | .l3dCacheHitRdFhwprf => .sharedAs .l3dCache .l3dCache
  | .llCacheHitRdFhwprf => .sharedAs .llCache .llCache
  | .l1dCacheHitWrFhwprf => .sharedAs .l1dCache .l1dCache
  | .l2dCacheHitWrFhwprf => .sharedAs .l2dCache .l2dCache
  | .l3dCacheHitWrFhwprf => .sharedAs .l3dCache .l3dCache
  | .llCacheHitWrFhwprf => .sharedAs .llCache .llCache
  | .l1dCacheHitRwFhwprf => .sharedAs .l1dCache .l1dCache
  | .l2dCacheHitRwFhwprf => .sharedAs .l2dCache .l2dCache
  | .l3dCacheHitRwFhwprf => .sharedAs .l3dCache .l3dCache
  | .llCacheHitRwFhwprf => .sharedAs .llCache .llCache
  | .l1iCacheHitRdFprf => .sharedAs .l1iCache .l1iCache
  | .l2iCacheHitRdFprf => .sharedAs .l2iCache .l2iCache
  | .l1dCacheHitRdFprf => .sharedAs .l1dCache .l1dCache
  | .l2dCacheHitRdFprf => .sharedAs .l2dCache .l2dCache
  | .l3dCacheHitRdFprf => .sharedAs .l3dCache .l3dCache
  | .llCacheHitRdFprf => .sharedAs .llCache .llCache
  | .l1dCacheHitWrFprf => .sharedAs .l1dCache .l1dCache
  | .l2dCacheHitWrFprf => .sharedAs .l2dCache .l2dCache
  | .l3dCacheHitWrFprf => .sharedAs .l3dCache .l3dCache
  | .llCacheHitWrFprf => .sharedAs .llCache .llCache
  | .l1dCacheHitRwFprf => .sharedAs .l1dCache .l1dCache
  | .l2dCacheHitRwFprf => .sharedAs .l2dCache .l2dCache
  | .l3dCacheHitRwFprf => .sharedAs .l3dCache .l3dCache
  | .llCacheHitRwFprf => .sharedAs .llCache .llCache
  | .l1iCacheHit => .sharedAs .l1iCache .l1iCache
  | .l2iCacheHit => .sharedAs .l2iCache .l2iCache
  | .l1dCacheHit => .sharedAs .l1dCache .l1dCache
  | .l2dCacheHit => .sharedAs .l2dCache .l2dCache
  | .l3dCacheHit => .sharedAs .l3dCache .l3dCache
  | .llCacheHit => .sharedAs .llCache .llCache
  | .l1iCacheHitPrfm => .sharedAs .l1iCache .l1iCache
  | .l2iCacheHitPrfm => .sharedAs .l2iCache .l2iCache
  | .l1dCacheHitPrfm => .sharedAs .l1dCache .l1dCache
  | .l2dCacheHitPrfm => .sharedAs .l2dCache .l2dCache
  | .l3dCacheHitPrfm => .sharedAs .l3dCache .l3dCache
  | .llCacheHitPrfm => .sharedAs .llCache .llCache
  | .l1dCacheHitmRd => .sharedAs .l1dCacheRd .l1dCache
  | .l2dCacheHitmRd => .sharedAs .l2dCacheRd .l2dCache
  | .l3dCacheHitmRd => .sharedAs .l3dCacheRd .l3dCache
  | .llCacheHitmRd => .sharedAs .llCacheRd .llCache
  | .l1dCacheHitmWr => .sharedAs .l1dCacheWr .l1dCache
  | .l2dCacheHitmWr => .sharedAs .l2dCacheWr .l2dCache
  | .l3dCacheHitmWr => .sharedAs .l3dCacheWr .l3dCache
  | .llCacheHitmWr => .sharedAs .llCacheWr .llCache
  | .l1dCacheHitmRw => .sharedAs .l1dCache .l1dCache
  | .l2dCacheHitmRw => .sharedAs .l2dCache .l2dCache
  | .l3dCacheHitmRw => .sharedAs .l3dCache .l3dCache
  | .llCacheHitmRw => .sharedAs .llCache .llCache
  | .l1iLfbHitRd => .sharedAs .l1iCache .l1iCache
  | .l2iLfbHitRd => .sharedAs .l2iCache .l2iCache
  | .l1dLfbHitRd => .sharedAs .l1dCacheRd .l1dCache
  | .l2dLfbHitRd => .sharedAs .l2dCacheRd .l2dCache
  | .l3dLfbHitRd => .sharedAs .l3dCacheRd .l3dCache
  | .llLfbHitRd => .sharedAs .llCacheRd .llCache
  | .l1dLfbHitWr => .sharedAs .l1dCacheWr .l1dCache
  | .l2dLfbHitWr => .sharedAs .l2dCacheWr .l2dCache
  | .l3dLfbHitWr => .sharedAs .l3dCacheWr .l3dCache
  | .llLfbHitWr => .sharedAs .llCacheWr .llCache
  | .l1dLfbHitRw => .sharedAs .l1dCache .l1dCache
  | .l2dLfbHitRw => .sharedAs .l2dCache .l2dCache
  | .l3dLfbHitRw => .sharedAs .l3dCache .l3dCache
  | .llLfbHitRw => .sharedAs .llCache .llCache
  | .l1iLfbHitRdFprfm => .sharedAs .l1iCache .l1iCache
  | .l2iLfbHitRdFprfm => .sharedAs .l2iCache .l2iCache
  | .l1dLfbHitRdFprfm => .sharedAs .l1dCache .l1dCache
  | .l2dLfbHitRdFprfm => .sharedAs .l2dCache .l2dCache
  | .l3dLfbHitRdFprfm => .sharedAs .l3dCache .l3dCache
  | .llLfbHitRdFprfm => .sharedAs .llCache .llCache
  | .l1dLfbHitWrFprfm => .sharedAs .l1dCache .l1dCache
  | .l2dLfbHitWrFprfm => .sharedAs .l2dCache .l2dCache
  | .l3dLfbHitWrFprfm => .sharedAs .l3dCache .l3dCache
  | .llLfbHitWrFprfm => .sharedAs .llCache .llCache
  | .l1dLfbHitRwFprfm => .sharedAs .l1dCache .l1dCache
  | .l2dLfbHitRwFprfm => .sharedAs .l2dCache .l2dCache
  | .l3dLfbHitRwFprfm => .sharedAs .l3dCache .l3dCache
  | .llLfbHitRwFprfm => .sharedAs .llCache .llCache
  | .l1iLfbHitRdFhwprf => .sharedAs .l1iCache .l1iCache
  | .l2iLfbHitRdFhwprf => .sharedAs .l2iCache .l2iCache
  | .l1dLfbHitRdFhwprf => .sharedAs .l1dCache .l1dCache
  | .l2dLfbHitRdFhwprf => .sharedAs .l2dCache .l2dCache
  | .l3dLfbHitRdFhwprf => .sharedAs .l3dCache .l3dCache
  | .llLfbHitRdFhwprf => .sharedAs .llCache .llCache
  | .l1dLfbHitWrFhwprf => .sharedAs .l1dCache .l1dCache
  | .l2dLfbHitWrFhwprf => .sharedAs .l2dCache .l2dCache
  | .l3dLfbHitWrFhwprf => .sharedAs .l3dCache .l3dCache
  | .llLfbHitWrFhwprf => .sharedAs .llCache .llCache
  | .l1dLfbHitRwFhwprf => .sharedAs .l1dCache .l1dCache
  | .l2dLfbHitRwFhwprf => .sharedAs .l2dCache .l2dCache
  | .l3dLfbHitRwFhwprf => .sharedAs .l3dCache .l3dCache
  | .llLfbHitRwFhwprf => .sharedAs .llCache .llCache
  | .l1iLfbHitRdFprf => .sharedAs .l1iCache .l1iCache
  | .l2iLfbHitRdFprf => .sharedAs .l2iCache .l2iCache
  | .l1dLfbHitRdFprf => .sharedAs .l1dCache .l1dCache
  | .l2dLfbHitRdFprf => .sharedAs .l2dCache .l2dCache
  | .l3dLfbHitRdFprf => .sharedAs .l3dCache .l3dCache
  | .llLfbHitRdFprf => .sharedAs .llCache .llCache
  | .l1dLfbHitWrFprf => .sharedAs .l1dCache .l1dCache
  | .l2dLfbHitWrFprf => .sharedAs .l2dCache .l2dCache
  | .l3dLfbHitWrFprf => .sharedAs .l3dCache .l3dCache
  | .llLfbHitWrFprf => .sharedAs .llCache .llCache
  | .l1dLfbHitRwFprf => .sharedAs .l1dCache .l1dCache
  | .l2dLfbHitRwFprf => .sharedAs .l2dCache .l2dCache
  | .l3dLfbHitRwFprf => .sharedAs .l3dCache .l3dCache
  | .llLfbHitRwFprf => .sharedAs .llCache .llCache
  | .l1iCachePrf => .sharedAs .l1iCache .l1iCache
  | .l2iCachePrf => .sharedAs .l2iCache .l2iCache
  | .l1dCachePrf => .sharedAs .l1dCache .l1dCache
  | .l2dCachePrf => .sharedAs .l2dCache .l2dCache
  | .l3dCachePrf => .sharedAs .l3dCache .l3dCache
  | .llCachePrf => .sharedAs .llCache .llCache
  | .l1iCacheRefillPrf => .sharedAs .l1iCache .l1iCache
  | .l2iCacheRefillPrf => .sharedAs .l2iCache .l2iCache
  | .l1dCacheRefillPrf => .sharedAs .l1dCache .l1dCache
  | .l2dCacheRefillPrf => .sharedAs .l2dCache .l2dCache
  | .l3dCacheRefillPrf => .sharedAs .l3dCache .l3dCache
  | .llCacheRefillPrf => .sharedAs .llCache .llCache
  | .llCacheRw => .sharedAs .llCache .llCache
  | .llCachePrfm => .sharedAs .llCache .llCache
  | .llCacheRefill => .shared .llCache
  | .llCacheRefillPrfm => .sharedAs .llCache .llCache
  | .llCacheWb => .writeBack .llCache
  | .llCacheWr => .shared .llCache
  | .llCacheRefillWr => .shared .llCache
  | .dtlbWalkPrf => .shared .dtlb
  | .itlbWalkPrf => .shared .itlb
  | .dtlbWalkHwprf => .shared .dtlb
  | .itlbWalkHwprf => .shared .itlb
  | .l1dTlbPrf => .shared .l1dTlb
  | .l1iTlbPrf => .shared .l1iTlb
  | .l1dTlbHwprf => .shared .l1dTlb
  | .l1iTlbHwprf => .shared .l1iTlb
  | .l1dCacheRefillPercyc => .cycle
  | .l2dCacheRefillPercyc => .cycle
  | .l3dCacheRefillPercyc => .cycle
  | .l1iCacheRefillPercyc => .cycle
  | .l2iCacheRefillPercyc => .cycle
  | .stallBackendAtomicFp => .cycle
  | .l1gcsCacheMissRd => .shared .l1gcsCache
  | .l1gcsCacheRefill => .shared .l1gcsCache
  | .l1gcsCacheRefillPercyc => .cycle
  | .l1gcsCacheInval => .invalidate
  | .l1gcsTlb => .shared .l1gcsTlb
  | .l1gcsTlbRw => .shared .l1gcsTlb
  | .l1gcsTlbHwprf => .shared .l1gcsTlb
  | .gcstlbWalk => .shared .gcstlb
  | .gcstlbWalkRw => .shared .gcstlb
  | .gcstlbWalkPercyc => .cycle
  | .gcstlbWalkStep => .shared .gcstlb
  | .stallBackendL1gcs => .cycle
  | .stallBackendGcstlb => .cycle
  | .zaActive => .cycle
  | _ => .own

/-- The increment of an event (R123). -/
def incrementOf : Instr → Obs → Nat
  | .stallSlotBackend => incSlotsBackend
  | .stallSlotFrontend => incSlotsFrontend
  | .stallSlot => incSlots
  | .svePloopEltsSpec => incPredicateLoop
  | .fpScaleOpsSpec => incScale .fpScaleOpsSpec
  | .fpFixedOpsSpec => incFixed
  | .fpHpScaleOpsSpec => incScale .fpHpScaleOpsSpec
  | .fpHpFixedOpsSpec => incFixed
  | .fpSpScaleOpsSpec => incScale .fpSpScaleOpsSpec
  | .fpSpFixedOpsSpec => incFixed
  | .fpDpScaleOpsSpec => incScale .fpDpScaleOpsSpec
  | .fpDpFixedOpsSpec => incFixed
  | .intScaleOpsSpec => incScale .intScaleOpsSpec
  | .intFixedOpsSpec => incFixed
  | .ldstScaleOpsSpec => incScaleOps
  | .ldstFixedOpsSpec => incFixedOps
  | .ldScaleOpsSpec => incScaleOps
  | .ldFixedOpsSpec => incFixedOpsHalf
  | .stScaleOpsSpec => incScaleOps
  | .stFixedOpsSpec => incFixedOpsHalf
  | .fpScale2OpsSpec => incScale2 .fpScale2OpsSpec
  | .fpHpScale2OpsSpec => incScale2 .fpHpScale2OpsSpec
  | .fpBf16Scale2OpsSpec => incScale2 .fpBf16Scale2OpsSpec
  | .fpSpScale2OpsSpec => incScale2 .fpSpScale2OpsSpec
  | .fpDpScale2OpsSpec => incScale2 .fpDpScale2OpsSpec
  | .intScale2OpsSpec => incScale2 .intScale2OpsSpec
  | .ldstScaleBytesSpec => incScaleBytes .ldstScaleBytesSpec
  | .ldstFixedBytesSpec => incFixedBytes
  | .ldScaleBytesSpec => incScaleBytes .ldScaleBytesSpec
  | .ldFixedBytesSpec => incFixedBytesHalf
  | .stScaleBytesSpec => incScaleBytes .stScaleBytesSpec
  | .stFixedBytesSpec => incFixedBytesHalf
  | .fpBf16ScaleOpsSpec => incScale .fpBf16ScaleOpsSpec
  | .instFetchPercyc => incInProgress .instFetch .instFetch .own
  | .memAccessRdPercyc => incInProgress .memAccessRd .memAccessRd .own
  | .busReqRdPercyc => incInProgress .busReqRd .busReqRdPercyc (.shared .bus)
  | .busReqWrPercyc => incInProgress .busReqWr .busReqWrPercyc (.shared .bus)
  | .dtlbWalkPercyc => incInProgress .dtlbWalk .dtlbWalkPercyc (.shared .dtlb)
  | .itlbWalkPercyc => incInProgress .itlbWalk .itlbWalkPercyc (.shared .itlb)
  | .l1dCacheRefillPercyc => incInProgress .l1dCacheRefill .l1dCacheRefill (.shared .l1dCache)
  | .l2dCacheRefillPercyc => incInProgress .l2dCacheRefill .l2dCacheRefill (.shared .l2dCache)
  | .l3dCacheRefillPercyc => incInProgress .l3dCacheRefill .l3dCacheRefill (.shared .l3dCache)
  | .l1iCacheRefillPercyc => incInProgress .l1iCacheRefill .l1iCacheRefill (.shared .l1iCache)
  | .l2iCacheRefillPercyc => incInProgress .l2iCacheRefill .l2iCacheRefill (.shared .l2iCache)
  | .l1gcsCacheRefillPercyc => incInProgress .l1gcsCacheRefill .l1gcsCacheRefill (.shared .l1gcsCache)
  | .gcstlbWalkPercyc => incInProgress .gcstlbWalk .gcstlbWalkPercyc (.shared .gcstlb)
  | .fpBf16FixedOpsSpec => incFixed
  | .fpSpFixedMinOpsSpec => incFixed
  | .fpHpFixedMinOpsSpec => incFixed
  | .fpBf16FixedMinOpsSpec => incFixed
  | .fpFp8FixedMinOpsSpec => incFixed
  | .fpSpScaleMinOpsSpec => incScale .fpSpScaleMinOpsSpec
  | .fpHpScaleMinOpsSpec => incScale .fpHpScaleMinOpsSpec
  | .fpBf16ScaleMinOpsSpec => incScale .fpBf16ScaleMinOpsSpec
  | .fpFp8ScaleMinOpsSpec => incScale .fpFp8ScaleMinOpsSpec
  | .fpSpScale2MinOpsSpec => incScale2 .fpSpScale2MinOpsSpec
  | .fpHpScale2MinOpsSpec => incScale2 .fpHpScale2MinOpsSpec
  | .fpBf16Scale2MinOpsSpec => incScale2 .fpBf16Scale2MinOpsSpec
  | .fpFp8Scale2MinOpsSpec => incScale2 .fpFp8Scale2MinOpsSpec
  | _ => incUnit

/-- The events with an algorithm of their own (R125 to R128). -/
def hasAlgorithm : Instr → Bool
  | .swIncr => true
  | .chain => true
  | .pmuOvfs => true
  | .pmuHovfs => true
  | _ => false

end Sys2Proof.Machine
end

