-- ==== Sys2Proof/Machine/ArchitecturalEvents.lean ====
section
/-!
DEFINITION. The meanings of the 72 events of spec/41_architectural_events: each is `Count(E, k)` (40_common_event_rules.md R121)
with the event's own occurrences, attribution and increment, and the four events with an algorithm (R125 to R128).
-/

namespace Sys2Proof.Machine

/-- R200 SW_INCR (0x0000): a write of PMSWINC with bit [n] set (40_common_event_rules.md R125); no two writes are merged. The
value written has 64 bits, of which AArch32 state gives 32. -/
def execSwIncr (s : State) : Host.Outcome State Fault Refusal :=
  match s.agenda with
  | ⟨.pmswincWrite writer v ctx withheld, .counter p n⟩ :: _ =>
    match s.counter? p n with
    | some c =>
      if v.getLsbD n && c.filter.passes ctx && countsSoftwareWrite s.impl writer p c.mt.effective then
        .next (s.dropOffer.countAt p n c.count 1 withheld)
      else .next s.dropOffer
    | none => .next s.dropOffer
  | _ => .next s.dropOffer

/-- R201 LD_RETIRED (0x0006): Instruction architecturally executed, Condition code check pass, load. -/
def execLdRetired (s : State) : Host.Outcome State Fault Refusal :=
  countEvent .ldRetired .own occLdRetired incUnit s

/-- R202 ST_RETIRED (0x0007): Instruction architecturally executed, Condition code check pass, store. -/
def execStRetired (s : State) : Host.Outcome State Fault Refusal :=
  countEvent .stRetired .own occStRetired incUnit s

/-- R203 INST_RETIRED (0x0008): Instruction architecturally executed. -/
def execInstRetired (s : State) : Host.Outcome State Fault Refusal :=
  countEvent .instRetired .own occInstRetired incUnit s

/-- R204 EXC_TAKEN (0x0009): Exception taken. -/
def execExcTaken (s : State) : Host.Outcome State Fault Refusal :=
  countEvent .excTaken .own occExcTaken incUnit s

/-- R205 EXC_RETURN (0x000A): Instruction architecturally executed, Condition code check pass, exception return. -/
def execExcReturn (s : State) : Host.Outcome State Fault Refusal :=
  countEvent .excReturn .own occExcReturn incUnit s

/-- R206 CID_WRITE_RETIRED (0x000B): Instruction architecturally executed, Condition code check pass, write to CONTEXTIDR. -/
def execCidWriteRetired (s : State) : Host.Outcome State Fault Refusal :=
  countEvent .cidWriteRetired .own occCidWriteRetired incUnit s

/-- R207 PC_WRITE_RETIRED (0x000C): Instruction architecturally executed, Condition code check pass, Software change of the PC. -/
def execPcWriteRetired (s : State) : Host.Outcome State Fault Refusal :=
  countEvent .pcWriteRetired .own occPcWriteRetired incUnit s

/-- R208 BR_IMMED_RETIRED (0x000D): Branch instruction architecturally executed, immediate. -/
def execBrImmedRetired (s : State) : Host.Outcome State Fault Refusal :=
  countEvent .brImmedRetired .own occBrImmedRetired incUnit s

/-- R209 BR_RETURN_RETIRED (0x000E): Branch instruction architecturally executed, procedure return, taken. -/
def execBrReturnRetired (s : State) : Host.Outcome State Fault Refusal :=
  countEvent .brReturnRetired .own occBrReturnRetired incUnit s

/-- R210 UNALIGNED_LDST_RETIRED (0x000F): Instruction architecturally executed, Condition code check pass, unaligned load or store. -/
def execUnalignedLdstRetired (s : State) : Host.Outcome State Fault Refusal :=
  countEvent .unalignedLdstRetired .own occUnalignedLdstRetired incUnit s

/-- R211 TTBR_WRITE_RETIRED (0x001C): Instruction architecturally executed, Condition code check pass, write to TTBR. -/
def execTtbrWriteRetired (s : State) : Host.Outcome State Fault Refusal :=
  countEvent .ttbrWriteRetired .own occTtbrWriteRetired incUnit s

/-- R212 CHAIN (0x001E): the odd counter m of a pair counts the overflow of bits [31:0] of counter m - 1
(40_common_event_rules.md R126); no filter and no attribution is applied. -/
def execChain (s : State) : Host.Outcome State Fault Refusal :=
  match s.agenda with
  | ⟨.lowOverflow serial withheld, .counter p m⟩ :: _ =>
    match s.pes[p]?, s.counter? p m with
    | some q, some c =>
      match chainOutcome s.impl q c m serial with
      | .ignores => .next s.dropOffer
      | .counts => .next (s.dropOffer.countAt p m c.count 1 withheld)
      | .anyCount => .next (s.dropOffer.setCount p m (freeCountOf s.impl serial))
    | _, _ => .next s.dropOffer
  | _ => .next s.dropOffer

/-- R213 BR_RETIRED (0x0021): Instruction architecturally executed, branch. -/
def execBrRetired (s : State) : Host.Outcome State Fault Refusal :=
  countEvent .brRetired .own occBrRetired incUnit s

/-- R214 EXC_UNDEF (0x0081): Exception taken, other synchronous. -/
def execExcUndef (s : State) : Host.Outcome State Fault Refusal :=
  countEvent .excUndef .own occExcUndef incUnit s

/-- R215 EXC_SVC (0x0082): Exception taken, Supervisor Call. -/
def execExcSvc (s : State) : Host.Outcome State Fault Refusal :=
  countEvent .excSvc .own occExcSvc incUnit s

/-- R216 EXC_PABORT (0x0083): Exception taken, Instruction Abort. -/
def execExcPabort (s : State) : Host.Outcome State Fault Refusal :=
  countEvent .excPabort .own occExcPabort incUnit s

/-- R217 EXC_DABORT (0x0084): Exception taken, Data Abort or SError. -/
def execExcDabort (s : State) : Host.Outcome State Fault Refusal :=
  countEvent .excDabort .own occExcDabort incUnit s

/-- R218 EXC_IRQ (0x0086): Exception taken, IRQ. -/
def execExcIrq (s : State) : Host.Outcome State Fault Refusal :=
  countEvent .excIrq .own occExcIrq incUnit s

/-- R219 EXC_FIQ (0x0087): Exception taken, FIQ. -/
def execExcFiq (s : State) : Host.Outcome State Fault Refusal :=
  countEvent .excFiq .own occExcFiq incUnit s

/-- R220 EXC_SMC (0x0088): Exception taken, Secure Monitor Call. -/
def execExcSmc (s : State) : Host.Outcome State Fault Refusal :=
  countEvent .excSmc .own occExcSmc incUnit s

/-- R221 EXC_HVC (0x008A): Exception taken, Hypervisor Call. -/
def execExcHvc (s : State) : Host.Outcome State Fault Refusal :=
  countEvent .excHvc .own occExcHvc incUnit s

/-- R222 EXC_TRAP_PABORT (0x008B): Exception taken, Instruction Abort not Taken locally. -/
def execExcTrapPabort (s : State) : Host.Outcome State Fault Refusal :=
  countEvent .excTrapPabort .own occExcTrapPabort incUnit s

/-- R223 EXC_TRAP_DABORT (0x008C): Exception taken, Data Abort or SError not Taken locally. -/
def execExcTrapDabort (s : State) : Host.Outcome State Fault Refusal :=
  countEvent .excTrapDabort .own occExcTrapDabort incUnit s

/-- R224 EXC_TRAP_OTHER (0x008D): Exception taken, other traps not Taken locally. -/
def execExcTrapOther (s : State) : Host.Outcome State Fault Refusal :=
  countEvent .excTrapOther .own occExcTrapOther incUnit s

/-- R225 EXC_TRAP_IRQ (0x008E): Exception taken, IRQ not Taken locally. -/
def execExcTrapIrq (s : State) : Host.Outcome State Fault Refusal :=
  countEvent .excTrapIrq .own occExcTrapIrq incUnit s

/-- R226 EXC_TRAP_FIQ (0x008F): Exception taken, FIQ not Taken locally. -/
def execExcTrapFiq (s : State) : Host.Outcome State Fault Refusal :=
  countEvent .excTrapFiq .own occExcTrapFiq incUnit s

/-- R227 TRB_WRAP (0x400C): Trace buffer current write pointer wrapped. -/
def execTrbWrap (s : State) : Host.Outcome State Fault Refusal :=
  countEvent .trbWrap .own occTrbWrap incUnit s

/-- R228 PMU_OVFS (0x400D): delivered to the consumers outside the PMU, counted by no counter (40_common_event_rules.md R127). -/
def execPmuOvfs (s : State) : Host.Outcome State Fault Refusal :=
  deliverOverflow .pmuOvfs isPmuOvfs (fun _ c => c.exportAllowed) s

/-- R229 TRB_TRIG (0x400E): Trace buffer Trigger Event. -/
def execTrbTrig (s : State) : Host.Outcome State Fault Refusal :=
  countEvent .trbTrig .own occTrbTrig incUnit s

/-- R230 PMU_HOVFS (0x400F): delivered to the consumers outside the PMU, counted by no counter (40_common_event_rules.md R128). -/
def execPmuHovfs (s : State) : Host.Outcome State Fault Refusal :=
  deliverOverflow .pmuHovfs isPmuHovfs (fun s c => hovfsTransmitted s c && c.exportAllowed) s

/-- R231 SIMD_INST_RETIRED (0x8000): Instruction architecturally executed, SIMD. -/
def execSimdInstRetired (s : State) : Host.Outcome State Fault Refusal :=
  countEvent .simdInstRetired .own occSimdInstRetired incUnit s

/-- R232 ASE_INST_RETIRED (0x8001): Instruction architecturally executed, Advanced SIMD. -/
def execAseInstRetired (s : State) : Host.Outcome State Fault Refusal :=
  countEvent .aseInstRetired .own occAseInstRetired incUnit s

/-- R233 SVE_INST_RETIRED (0x8002): Instruction architecturally executed, SVE. -/
def execSveInstRetired (s : State) : Host.Outcome State Fault Refusal :=
  countEvent .sveInstRetired .own occSveInstRetired incUnit s

/-- R234 ASE_SVE_INST_RETIRED (0x8003): Instruction architecturally executed, Advanced SIMD or SVE. -/
def execAseSveInstRetired (s : State) : Host.Outcome State Fault Refusal :=
  countEvent .aseSveInstRetired .own occAseSveInstRetired incUnit s

/-- R235 BR_SKIP_RETIRED (0x8107): Branch instruction architecturally executed, not taken. -/
def execBrSkipRetired (s : State) : Host.Outcome State Fault Refusal :=
  countEvent .brSkipRetired .own occBrSkipRetired incUnit s

/-- R236 BR_IMMED_TAKEN_RETIRED (0x8108): Branch instruction architecturally executed, immediate, taken. -/
def execBrImmedTakenRetired (s : State) : Host.Outcome State Fault Refusal :=
  countEvent .brImmedTakenRetired .own occBrImmedTakenRetired incUnit s

/-- R237 BR_IMMED_SKIP_RETIRED (0x8109): Branch instruction architecturally executed, immediate, not taken. -/
def execBrImmedSkipRetired (s : State) : Host.Outcome State Fault Refusal :=
  countEvent .brImmedSkipRetired .own occBrImmedSkipRetired incUnit s

/-- R238 BR_IND_TAKEN_RETIRED (0x810A): Branch instruction architecturally executed, indirect, taken. -/
def execBrIndTakenRetired (s : State) : Host.Outcome State Fault Refusal :=
  countEvent .brIndTakenRetired .own occBrIndTakenRetired incUnit s

/-- R239 BR_IND_SKIP_RETIRED (0x810B): Branch instruction architecturally executed, indirect, not taken. -/
def execBrIndSkipRetired (s : State) : Host.Outcome State Fault Refusal :=
  countEvent .brIndSkipRetired .own occBrIndSkipRetired incUnit s

/-- R240 BR_INDNR_TAKEN_RETIRED (0x810C): Branch instruction architecturally executed, indirect excluding procedure return, taken. -/
def execBrIndnrTakenRetired (s : State) : Host.Outcome State Fault Refusal :=
  countEvent .brIndnrTakenRetired .own occBrIndnrTakenRetired incUnit s

/-- R241 BR_INDNR_SKIP_RETIRED (0x810D): Branch instruction architecturally executed, indirect excluding procedure return, not taken. -/
def execBrIndnrSkipRetired (s : State) : Host.Outcome State Fault Refusal :=
  countEvent .brIndnrSkipRetired .own occBrIndnrSkipRetired incUnit s

/-- R242 BR_RETURN_ANY_RETIRED (0x810E): Branch instruction architecturally executed, procedure return. -/
def execBrReturnAnyRetired (s : State) : Host.Outcome State Fault Refusal :=
  countEvent .brReturnAnyRetired .own occBrReturnAnyRetired incUnit s

/-- R243 BR_RETURN_SKIP_RETIRED (0x810F): Branch instruction architecturally executed, procedure return, not taken. -/
def execBrReturnSkipRetired (s : State) : Host.Outcome State Fault Refusal :=
  countEvent .brReturnSkipRetired .own occBrReturnSkipRetired incUnit s

/-- R244 BR_IND_RETIRED (0x811D): Instruction architecturally executed, indirect branch. -/
def execBrIndRetired (s : State) : Host.Outcome State Fault Refusal :=
  countEvent .brIndRetired .own occBrIndRetired incUnit s

/-- R245 BR_INDNR_RETIRED (0x811E): Branch instruction architecturally executed, indirect excluding procedure return. -/
def execBrIndnrRetired (s : State) : Host.Outcome State Fault Refusal :=
  countEvent .brIndnrRetired .own occBrIndnrRetired incUnit s

/-- R246 BRB_FILTRATE (0x811F): Branch Record captured. -/
def execBrbFiltrate (s : State) : Host.Outcome State Fault Refusal :=
  countEvent .brbFiltrate .own occBrbFiltrate incUnit s

/-- R247 BRNL_INDNR_TAKEN_RETIRED (0x8179): Branch instruction architecturally executed, indirect branch without link excluding procedure return, taken. -/
def execBrnlIndnrTakenRetired (s : State) : Host.Outcome State Fault Refusal :=
  countEvent .brnlIndnrTakenRetired .own occBrnlIndnrTakenRetired incUnit s

/-- R248 BL_TAKEN_RETIRED (0x817A): Branch instruction architecturally executed, branch with link, taken. -/
def execBlTakenRetired (s : State) : Host.Outcome State Fault Refusal :=
  countEvent .blTakenRetired .own occBlTakenRetired incUnit s

/-- R249 BRNL_TAKEN_RETIRED (0x817B): Branch instruction architecturally executed, branch without link, taken. -/
def execBrnlTakenRetired (s : State) : Host.Outcome State Fault Refusal :=
  countEvent .brnlTakenRetired .own occBrnlTakenRetired incUnit s

/-- R250 BL_IND_TAKEN_RETIRED (0x817C): Branch instruction architecturally executed, indirect branch with link, taken. -/
def execBlIndTakenRetired (s : State) : Host.Outcome State Fault Refusal :=
  countEvent .blIndTakenRetired .own occBlIndTakenRetired incUnit s

/-- R251 BRNL_IND_TAKEN_RETIRED (0x817D): Branch instruction architecturally executed, indirect branch without link, taken. -/
def execBrnlIndTakenRetired (s : State) : Host.Outcome State Fault Refusal :=
  countEvent .brnlIndTakenRetired .own occBrnlIndTakenRetired incUnit s

/-- R252 BL_IMMED_TAKEN_RETIRED (0x817E): Branch instruction architecturally executed, direct branch with link, taken. -/
def execBlImmedTakenRetired (s : State) : Host.Outcome State Fault Refusal :=
  countEvent .blImmedTakenRetired .own occBlImmedTakenRetired incUnit s

/-- R253 BRNL_IMMED_TAKEN_RETIRED (0x817F): Branch instruction architecturally executed, direct branch without link, taken. -/
def execBrnlImmedTakenRetired (s : State) : Host.Outcome State Fault Refusal :=
  countEvent .brnlImmedTakenRetired .own occBrnlImmedTakenRetired incUnit s

/-- R254 BR_UNCOND_RETIRED (0x8180): Branch instruction architecturally executed, unconditional branch. -/
def execBrUncondRetired (s : State) : Host.Outcome State Fault Refusal :=
  countEvent .brUncondRetired .own occBrUncondRetired incUnit s

/-- R255 BR_COND_RETIRED (0x8181): Branch instruction architecturally executed, conditional branch. -/
def execBrCondRetired (s : State) : Host.Outcome State Fault Refusal :=
  countEvent .brCondRetired .own occBrCondRetired incUnit s

/-- R256 BR_COND_TAKEN_RETIRED (0x8182): Branch instruction architecturally executed, conditional branch, taken. -/
def execBrCondTakenRetired (s : State) : Host.Outcome State Fault Refusal :=
  countEvent .brCondTakenRetired .own occBrCondTakenRetired incUnit s

/-- R257 BR_HINT_COND_RETIRED (0x8183): Branch instruction architecturally executed, hinted conditional. -/
def execBrHintCondRetired (s : State) : Host.Outcome State Fault Refusal :=
  countEvent .brHintCondRetired .own occBrHintCondRetired incUnit s

/-- R258 ASE_SVE_RETIRED (0x82A4): Instruction architecturally executed, Advanced SIMD data processing or SVE data processing. -/
def execAseSveRetired (s : State) : Host.Outcome State Fault Refusal :=
  countEvent .aseSveRetired .own occAseSveRetired incUnit s

/-- R259 LD_ANY_RETIRED (0x82A8): Instruction architecturally executed, load. -/
def execLdAnyRetired (s : State) : Host.Outcome State Fault Refusal :=
  countEvent .ldAnyRetired .own occLdAnyRetired incUnit s

/-- R260 ST_ANY_RETIRED (0x82A9): Instruction architecturally executed, store. -/
def execStAnyRetired (s : State) : Host.Outcome State Fault Refusal :=
  countEvent .stAnyRetired .own occStAnyRetired incUnit s

/-- R261 LDST_ANY_RETIRED (0x82AA): Instruction architecturally executed, load or store. -/
def execLdstAnyRetired (s : State) : Host.Outcome State Fault Refusal :=
  countEvent .ldstAnyRetired .own occLdstAnyRetired incUnit s

/-- R262 DP_RETIRED (0x82AB): Instruction architecturally executed, integer data processing. -/
def execDpRetired (s : State) : Host.Outcome State Fault Refusal :=
  countEvent .dpRetired .own occDpRetired incUnit s

/-- R263 ASE_RETIRED (0x82AC): Instruction architecturally executed, Advanced SIMD data processing. -/
def execAseRetired (s : State) : Host.Outcome State Fault Refusal :=
  countEvent .aseRetired .own occAseRetired incUnit s

/-- R264 VFP_RETIRED (0x82AD): Instruction architecturally executed, scalar floating-point data processing. -/
def execVfpRetired (s : State) : Host.Outcome State Fault Refusal :=
  countEvent .vfpRetired .own occVfpRetired incUnit s

/-- R265 SVE_RETIRED (0x82AE): Instruction architecturally executed, SVE data processing. -/
def execSveRetired (s : State) : Host.Outcome State Fault Refusal :=
  countEvent .sveRetired .own occSveRetired incUnit s

/-- R266 CRYPTO_RETIRED (0x82AF): Instruction architecturally executed, cryptographic data processing. -/
def execCryptoRetired (s : State) : Host.Outcome State Fault Refusal :=
  countEvent .cryptoRetired .own occCryptoRetired incUnit s

/-- R267 PRF_RETIRED (0x82B3): Instruction architecturally executed, prefetch. -/
def execPrfRetired (s : State) : Host.Outcome State Fault Refusal :=
  countEvent .prfRetired .own occPrfRetired incUnit s

/-- R268 SME_RETIRED (0x8358): Instruction architecturally executed, SME data processing. -/
def execSmeRetired (s : State) : Host.Outcome State Fault Refusal :=
  countEvent .smeRetired .own occSmeRetired incUnit s

/-- R269 SE_RETIRED (0x8359): Instruction architecturally executed, Advanced SIMD, SVE, or SME data processing. -/
def execSeRetired (s : State) : Host.Outcome State Fault Refusal :=
  countEvent .seRetired .own occSeRetired incUnit s

/-- R270 SME_INST_RETIRED (0x835A): Instruction architecturally executed, SME. -/
def execSmeInstRetired (s : State) : Host.Outcome State Fault Refusal :=
  countEvent .smeInstRetired .own occSmeInstRetired incUnit s

/-- R271 SE_INST_RETIRED (0x835B): Instruction architecturally executed, Advanced SIMD, SVE, or SME. -/
def execSeInstRetired (s : State) : Host.Outcome State Fault Refusal :=
  countEvent .seInstRetired .own occSeInstRetired incUnit s

end Sys2Proof.Machine
end

