-- ==== Sys2Proof/Machine/Uarch0001.lean ====
section
/-!
DEFINITION. The meanings of the 50 events of spec/42_uarch_0001_003F: each is `Count(E, k)` (40_common_event_rules.md R121)
with the event's own occurrences, attribution and increment.
-/

namespace Sys2Proof.Machine

/-- R272 L1I_CACHE_REFILL (0x0001): Level 1 instruction cache refill. -/
def execL1iCacheRefill (s : State) : Host.Outcome State Fault Refusal :=
  countEvent .l1iCacheRefill (.shared .l1iCache) occL1iCacheRefill incUnit s

/-- R273 L1I_TLB_REFILL (0x0002): Level 1 instruction TLB refill. -/
def execL1iTlbRefill (s : State) : Host.Outcome State Fault Refusal :=
  countEvent .l1iTlbRefill (.shared .l1iTlb) occL1iTlbRefill incUnit s

/-- R274 L1D_CACHE_REFILL (0x0003): Level 1 data cache refill. -/
def execL1dCacheRefill (s : State) : Host.Outcome State Fault Refusal :=
  countEvent .l1dCacheRefill (.shared .l1dCache) occL1dCacheRefill incUnit s

/-- R275 L1D_CACHE (0x0004): Level 1 data cache access. -/
def execL1dCache (s : State) : Host.Outcome State Fault Refusal :=
  countEvent .l1dCache (.shared .l1dCache) occL1dCache incUnit s

/-- R276 L1D_TLB_REFILL (0x0005): Level 1 data TLB refill. -/
def execL1dTlbRefill (s : State) : Host.Outcome State Fault Refusal :=
  countEvent .l1dTlbRefill (.shared .l1dTlb) occL1dTlbRefill incUnit s

/-- R277 BR_MIS_PRED (0x0010): Branch instruction speculatively executed, mispredicted or not predicted. -/
def execBrMisPred (s : State) : Host.Outcome State Fault Refusal :=
  countEvent .brMisPred .own occBrMisPred incUnit s

/-- R278 CPU_CYCLES (0x0011): Cycle. -/
def execCpuCycles (s : State) : Host.Outcome State Fault Refusal :=
  countEvent .cpuCycles .cycle occCpuCycles incUnit s

/-- R279 BR_PRED (0x0012): Predictable branch instruction speculatively executed. -/
def execBrPred (s : State) : Host.Outcome State Fault Refusal :=
  countEvent .brPred .own occBrPred incUnit s

/-- R280 MEM_ACCESS (0x0013): Data memory access. -/
def execMemAccess (s : State) : Host.Outcome State Fault Refusal :=
  countEvent .memAccess .own occMemAccess incUnit s

/-- R281 L1I_CACHE (0x0014): Level 1 instruction cache access. -/
def execL1iCache (s : State) : Host.Outcome State Fault Refusal :=
  countEvent .l1iCache (.shared .l1iCache) occL1iCache incUnit s

/-- R282 L1D_CACHE_WB (0x0015): Level 1 data cache write-back. -/
def execL1dCacheWb (s : State) : Host.Outcome State Fault Refusal :=
  countEvent .l1dCacheWb (.writeBack .l1dCache) occL1dCacheWb incUnit s

/-- R283 L2D_CACHE (0x0016): Level 2 data cache access. -/
def execL2dCache (s : State) : Host.Outcome State Fault Refusal :=
  countEvent .l2dCache (.shared .l2dCache) occL2dCache incUnit s

/-- R284 L2D_CACHE_REFILL (0x0017): Level 2 data cache refill. Which cache "the cache" of
the sharing clause S2 (R131) is, of those it names, the spec does not say: the model takes `l2dCache`. Log 76. -/
def execL2dCacheRefill (s : State) : Host.Outcome State Fault Refusal :=
  countEvent .l2dCacheRefill (.shared .l2dCache) occL2dCacheRefill incUnit s

/-- R285 L2D_CACHE_WB (0x0018): Level 2 data cache write-back. -/
def execL2dCacheWb (s : State) : Host.Outcome State Fault Refusal :=
  countEvent .l2dCacheWb (.writeBack .l2dCache) occL2dCacheWb incUnit s

/-- R286 BUS_ACCESS (0x0019): Bus access. An Unattributable bus transaction is counted by no counter. Log 67. -/
def execBusAccess (s : State) : Host.Outcome State Fault Refusal :=
  countEvent .busAccess .own occBusAccess incUnit s

/-- R287 MEMORY_ERROR (0x001A): Local memory error. -/
def execMemoryError (s : State) : Host.Outcome State Fault Refusal :=
  countEvent .memoryError .own occMemoryError incUnit s

/-- R288 INST_SPEC (0x001B): Operation speculatively executed. -/
def execInstSpec (s : State) : Host.Outcome State Fault Refusal :=
  countEvent .instSpec .own occInstSpec incUnit s

/-- R289 BUS_CYCLES (0x001D): Bus cycle. -/
def execBusCycles (s : State) : Host.Outcome State Fault Refusal :=
  countEvent .busCycles .busCycle occBusCycles incUnit s

/-- R290 L1D_CACHE_ALLOCATE (0x001F): Level 1 data cache allocation without refill. -/
def execL1dCacheAllocate (s : State) : Host.Outcome State Fault Refusal :=
  countEvent .l1dCacheAllocate .allocate occL1dCacheAllocate incUnit s

/-- R291 L2D_CACHE_ALLOCATE (0x0020): Level 2 data cache allocation without refill. -/
def execL2dCacheAllocate (s : State) : Host.Outcome State Fault Refusal :=
  countEvent .l2dCacheAllocate .allocate occL2dCacheAllocate incUnit s

/-- R292 BR_MIS_PRED_RETIRED (0x0022): Branch instruction architecturally executed, mispredicted. -/
def execBrMisPredRetired (s : State) : Host.Outcome State Fault Refusal :=
  countEvent .brMisPredRetired .own occBrMisPredRetired incUnit s

/-- R293 STALL_FRONTEND (0x0023): No operation sent for execution due to the frontend. -/
def execStallFrontend (s : State) : Host.Outcome State Fault Refusal :=
  countEvent .stallFrontend .cycle occStallFrontend incUnit s

/-- R294 STALL_BACKEND (0x0024): No operation sent for execution due to the backend. -/
def execStallBackend (s : State) : Host.Outcome State Fault Refusal :=
  countEvent .stallBackend .cycle occStallBackend incUnit s

/-- R295 L1D_TLB (0x0025): Level 1 data TLB access. -/
def execL1dTlb (s : State) : Host.Outcome State Fault Refusal :=
  countEvent .l1dTlb (.shared .l1dTlb) occL1dTlb incUnit s

/-- R296 L1I_TLB (0x0026): Level 1 instruction TLB access. -/
def execL1iTlb (s : State) : Host.Outcome State Fault Refusal :=
  countEvent .l1iTlb (.shared .l1iTlb) occL1iTlb incUnit s

/-- R297 L2I_CACHE (0x0027): Level 2 instruction cache access. -/
def execL2iCache (s : State) : Host.Outcome State Fault Refusal :=
  countEvent .l2iCache (.shared .l2iCache) occL2iCache incUnit s

/-- R298 L2I_CACHE_REFILL (0x0028): Level 2 instruction cache refill. Which cache "the cache" of
the sharing clause S2 (R131) is, of those it names, the spec does not say: the model takes `l2iCache`. Log 76. -/
def execL2iCacheRefill (s : State) : Host.Outcome State Fault Refusal :=
  countEvent .l2iCacheRefill (.shared .l2iCache) occL2iCacheRefill incUnit s

/-- R299 L3D_CACHE_ALLOCATE (0x0029): Level 3 data cache allocation without refill. -/
def execL3dCacheAllocate (s : State) : Host.Outcome State Fault Refusal :=
  countEvent .l3dCacheAllocate .allocate occL3dCacheAllocate incUnit s

/-- R300 L3D_CACHE_REFILL (0x002A): Level 3 data cache refill. Which cache "the cache" of
the sharing clause S2 (R131) is, of those it names, the spec does not say: the model takes `l3dCache`. Log 76. -/
def execL3dCacheRefill (s : State) : Host.Outcome State Fault Refusal :=
  countEvent .l3dCacheRefill (.shared .l3dCache) occL3dCacheRefill incUnit s

/-- R301 L3D_CACHE (0x002B): Level 3 data cache access. -/
def execL3dCache (s : State) : Host.Outcome State Fault Refusal :=
  countEvent .l3dCache (.shared .l3dCache) occL3dCache incUnit s

/-- R302 L3D_CACHE_WB (0x002C): Level 3 data cache write-back. -/
def execL3dCacheWb (s : State) : Host.Outcome State Fault Refusal :=
  countEvent .l3dCacheWb (.writeBack .l3dCache) occL3dCacheWb incUnit s

/-- R303 L2D_TLB_REFILL (0x002D): Level 2 data TLB refill. -/
def execL2dTlbRefill (s : State) : Host.Outcome State Fault Refusal :=
  countEvent .l2dTlbRefill (.shared .l2dTlb) occL2dTlbRefill incUnit s

/-- R304 L2I_TLB_REFILL (0x002E): Level 2 instruction TLB refill. -/
def execL2iTlbRefill (s : State) : Host.Outcome State Fault Refusal :=
  countEvent .l2iTlbRefill (.shared .l2iTlb) occL2iTlbRefill incUnit s

/-- R305 L2D_TLB (0x002F): Level 2 data TLB access. -/
def execL2dTlb (s : State) : Host.Outcome State Fault Refusal :=
  countEvent .l2dTlb (.shared .l2dTlb) occL2dTlb incUnit s

/-- R306 L2I_TLB (0x0030): Level 2 instruction TLB access. -/
def execL2iTlb (s : State) : Host.Outcome State Fault Refusal :=
  countEvent .l2iTlb (.shared .l2iTlb) occL2iTlb incUnit s

/-- R307 REMOTE_ACCESS (0x0031): Access to a remote device. -/
def execRemoteAccess (s : State) : Host.Outcome State Fault Refusal :=
  countEvent .remoteAccess .own occRemoteAccess incUnit s

/-- R308 LL_CACHE (0x0032): Last level cache access. -/
def execLlCache (s : State) : Host.Outcome State Fault Refusal :=
  countEvent .llCache (.shared .llCache) occLlCache incUnit s

/-- R309 LL_CACHE_MISS (0x0033): Last level cache miss. -/
def execLlCacheMiss (s : State) : Host.Outcome State Fault Refusal :=
  countEvent .llCacheMiss (.shared .llCache) occLlCacheMiss incUnit s

/-- R310 DTLB_WALK (0x0034): Data TLB access with at least one translation table walk. -/
def execDtlbWalk (s : State) : Host.Outcome State Fault Refusal :=
  countEvent .dtlbWalk (.shared .dtlb) occDtlbWalk incUnit s

/-- R311 ITLB_WALK (0x0035): Instruction TLB access with at least one translation table walk. -/
def execItlbWalk (s : State) : Host.Outcome State Fault Refusal :=
  countEvent .itlbWalk (.shared .itlb) occItlbWalk incUnit s

/-- R312 LL_CACHE_RD (0x0036): Last level cache access, read. -/
def execLlCacheRd (s : State) : Host.Outcome State Fault Refusal :=
  countEvent .llCacheRd (.shared .llCache) occLlCacheRd incUnit s

/-- R313 LL_CACHE_MISS_RD (0x0037): Last level cache miss, read. -/
def execLlCacheMissRd (s : State) : Host.Outcome State Fault Refusal :=
  countEvent .llCacheMissRd (.shared .llCache) occLlCacheMissRd incUnit s

/-- R314 REMOTE_ACCESS_RD (0x0038): Access to a remote device, read. -/
def execRemoteAccessRd (s : State) : Host.Outcome State Fault Refusal :=
  countEvent .remoteAccessRd .own occRemoteAccessRd incUnit s

/-- R315 L1D_CACHE_LMISS_RD (0x0039): Level 1 data cache long-latency read miss. -/
def execL1dCacheLmissRd (s : State) : Host.Outcome State Fault Refusal :=
  countEvent .l1dCacheLmissRd (.shared .l1dCache) occL1dCacheLmissRd incUnit s

/-- R316 OP_RETIRED (0x003A): Micro-operation architecturally executed. -/
def execOpRetired (s : State) : Host.Outcome State Fault Refusal :=
  countEvent .opRetired .own occOpRetired incUnit s

/-- R317 OP_SPEC (0x003B): Micro-operation speculatively executed. -/
def execOpSpec (s : State) : Host.Outcome State Fault Refusal :=
  countEvent .opSpec .own occOpSpec incUnit s

/-- R318 STALL (0x003C): No operation sent for execution. -/
def execStall (s : State) : Host.Outcome State Fault Refusal :=
  countEvent .stall .cycle occStall incUnit s

/-- R319 STALL_SLOT_BACKEND (0x003D): No operation sent for execution on a Slot due to the backend. -/
def execStallSlotBackend (s : State) : Host.Outcome State Fault Refusal :=
  countEvent .stallSlotBackend .cycle occStallSlotBackend incSlotsBackend s

/-- R320 STALL_SLOT_FRONTEND (0x003E): No operation sent for execution on a Slot due to the frontend. -/
def execStallSlotFrontend (s : State) : Host.Outcome State Fault Refusal :=
  countEvent .stallSlotFrontend .cycle occStallSlotFrontend incSlotsFrontend s

/-- R321 STALL_SLOT (0x003F): No operation sent for execution on a Slot. -/
def execStallSlot (s : State) : Host.Outcome State Fault Refusal :=
  countEvent .stallSlot .cycle occStallSlot incSlots s

end Sys2Proof.Machine
end

