-- ==== Sys2Proof/Machine/Uarch0040.lean ====
section
/-!
DEFINITION. The meanings of the 87 events of spec/43_uarch_0040_00BF: each is `Count(E, k)` (40_common_event_rules.md R121)
with the event's own occurrences, attribution and increment.
-/

namespace Sys2Proof.Machine

/-- R322 L1D_CACHE_RD (0x0040): Level 1 data cache access, read. -/
def execL1dCacheRd (s : State) : Host.Outcome State Fault Refusal :=
  countEvent .l1dCacheRd (.shared .l1dCache) occL1dCacheRd incUnit s

/-- R323 L1D_CACHE_WR (0x0041): Level 1 data cache access, write. -/
def execL1dCacheWr (s : State) : Host.Outcome State Fault Refusal :=
  countEvent .l1dCacheWr (.shared .l1dCache) occL1dCacheWr incUnit s

/-- R324 L1D_CACHE_REFILL_RD (0x0042): Level 1 data cache refill, read. -/
def execL1dCacheRefillRd (s : State) : Host.Outcome State Fault Refusal :=
  countEvent .l1dCacheRefillRd (.shared .l1dCache) occL1dCacheRefillRd incUnit s

/-- R325 L1D_CACHE_REFILL_WR (0x0043): Level 1 data cache refill, write. -/
def execL1dCacheRefillWr (s : State) : Host.Outcome State Fault Refusal :=
  countEvent .l1dCacheRefillWr (.shared .l1dCache) occL1dCacheRefillWr incUnit s

/-- R326 L1D_CACHE_REFILL_INNER (0x0044): Level 1 data cache refill, inner. -/
def execL1dCacheRefillInner (s : State) : Host.Outcome State Fault Refusal :=
  countEvent .l1dCacheRefillInner (.shared .l1dCache) occL1dCacheRefillInner incUnit s

/-- R327 L1D_CACHE_REFILL_OUTER (0x0045): Level 1 data cache refill, outer. -/
def execL1dCacheRefillOuter (s : State) : Host.Outcome State Fault Refusal :=
  countEvent .l1dCacheRefillOuter (.shared .l1dCache) occL1dCacheRefillOuter incUnit s

/-- R328 L1D_CACHE_WB_VICTIM (0x0046): Level 1 data cache write-back, victim. -/
def execL1dCacheWbVictim (s : State) : Host.Outcome State Fault Refusal :=
  countEvent .l1dCacheWbVictim (.writeBack .l1dCache) occL1dCacheWbVictim incUnit s

/-- R329 L1D_CACHE_WB_CLEAN (0x0047): Level 1 data cache write-back, cleaning and coherency. -/
def execL1dCacheWbClean (s : State) : Host.Outcome State Fault Refusal :=
  countEvent .l1dCacheWbClean (.writeBack .l1dCache) occL1dCacheWbClean incUnit s

/-- R330 L1D_CACHE_INVAL (0x0048): Level 1 data cache invalidate. -/
def execL1dCacheInval (s : State) : Host.Outcome State Fault Refusal :=
  countEvent .l1dCacheInval .invalidate occL1dCacheInval incUnit s

/-- R331 L1D_TLB_REFILL_RD (0x004C): Level 1 data TLB refill, read. -/
def execL1dTlbRefillRd (s : State) : Host.Outcome State Fault Refusal :=
  countEvent .l1dTlbRefillRd (.shared .l1dTlb) occL1dTlbRefillRd incUnit s

/-- R332 L1D_TLB_REFILL_WR (0x004D): Level 1 data TLB refill, write. -/
def execL1dTlbRefillWr (s : State) : Host.Outcome State Fault Refusal :=
  countEvent .l1dTlbRefillWr (.shared .l1dTlb) occL1dTlbRefillWr incUnit s

/-- R333 L1D_TLB_RD (0x004E): Level 1 data TLB access, read. -/
def execL1dTlbRd (s : State) : Host.Outcome State Fault Refusal :=
  countEvent .l1dTlbRd (.shared .l1dTlb) occL1dTlbRd incUnit s

/-- R334 L1D_TLB_WR (0x004F): Level 1 data TLB access, write. -/
def execL1dTlbWr (s : State) : Host.Outcome State Fault Refusal :=
  countEvent .l1dTlbWr (.shared .l1dTlb) occL1dTlbWr incUnit s

/-- R335 L2D_CACHE_RD (0x0050): Level 2 data cache access, read. -/
def execL2dCacheRd (s : State) : Host.Outcome State Fault Refusal :=
  countEvent .l2dCacheRd (.shared .l2dCache) occL2dCacheRd incUnit s

/-- R336 L2D_CACHE_WR (0x0051): Level 2 data cache access, write. -/
def execL2dCacheWr (s : State) : Host.Outcome State Fault Refusal :=
  countEvent .l2dCacheWr (.shared .l2dCache) occL2dCacheWr incUnit s

/-- R337 L2D_CACHE_REFILL_RD (0x0052): Level 2 data cache refill, read. Which cache "the cache"
of the sharing clause S2 (R131) is: as for L2D_CACHE_REFILL. Log 76. -/
def execL2dCacheRefillRd (s : State) : Host.Outcome State Fault Refusal :=
  countEvent .l2dCacheRefillRd (.shared .l2dCache) occL2dCacheRefillRd incUnit s

/-- R338 L2D_CACHE_REFILL_WR (0x0053): Level 2 data cache refill, write. Which cache "the cache"
of the sharing clause S2 (R131) is: as for L2D_CACHE_REFILL. Log 76. -/
def execL2dCacheRefillWr (s : State) : Host.Outcome State Fault Refusal :=
  countEvent .l2dCacheRefillWr (.shared .l2dCache) occL2dCacheRefillWr incUnit s

/-- R339 L2D_CACHE_WB_VICTIM (0x0056): Level 2 data cache write-back, victim. -/
def execL2dCacheWbVictim (s : State) : Host.Outcome State Fault Refusal :=
  countEvent .l2dCacheWbVictim (.writeBack .l2dCache) occL2dCacheWbVictim incUnit s

/-- R340 L2D_CACHE_WB_CLEAN (0x0057): Level 2 data cache write-back, cleaning and coherency. -/
def execL2dCacheWbClean (s : State) : Host.Outcome State Fault Refusal :=
  countEvent .l2dCacheWbClean (.writeBack .l2dCache) occL2dCacheWbClean incUnit s

/-- R341 L2D_CACHE_INVAL (0x0058): Level 2 data cache invalidate. -/
def execL2dCacheInval (s : State) : Host.Outcome State Fault Refusal :=
  countEvent .l2dCacheInval .invalidate occL2dCacheInval incUnit s

/-- R342 L2D_TLB_REFILL_RD (0x005C): Level 2 data TLB refill, read. -/
def execL2dTlbRefillRd (s : State) : Host.Outcome State Fault Refusal :=
  countEvent .l2dTlbRefillRd (.shared .l2dTlb) occL2dTlbRefillRd incUnit s

/-- R343 L2D_TLB_REFILL_WR (0x005D): Level 2 data TLB refill, write. -/
def execL2dTlbRefillWr (s : State) : Host.Outcome State Fault Refusal :=
  countEvent .l2dTlbRefillWr (.shared .l2dTlb) occL2dTlbRefillWr incUnit s

/-- R344 L2D_TLB_RD (0x005E): Level 2 data TLB access, read. -/
def execL2dTlbRd (s : State) : Host.Outcome State Fault Refusal :=
  countEvent .l2dTlbRd (.shared .l2dTlb) occL2dTlbRd incUnit s

/-- R345 L2D_TLB_WR (0x005F): Level 2 data TLB access, write. -/
def execL2dTlbWr (s : State) : Host.Outcome State Fault Refusal :=
  countEvent .l2dTlbWr (.shared .l2dTlb) occL2dTlbWr incUnit s

/-- R346 BUS_ACCESS_RD (0x0060): Bus access, read. -/
def execBusAccessRd (s : State) : Host.Outcome State Fault Refusal :=
  countEvent .busAccessRd .own occBusAccessRd incUnit s

/-- R347 BUS_ACCESS_WR (0x0061): Bus access, write. -/
def execBusAccessWr (s : State) : Host.Outcome State Fault Refusal :=
  countEvent .busAccessWr .own occBusAccessWr incUnit s

/-- R348 BUS_ACCESS_SHARED (0x0062): Bus access, Normal, Cacheable, Shareable. -/
def execBusAccessShared (s : State) : Host.Outcome State Fault Refusal :=
  countEvent .busAccessShared .own occBusAccessShared incUnit s

/-- R349 BUS_ACCESS_NOT_SHARED (0x0063): Bus access, not Normal, Cacheable, Shareable. -/
def execBusAccessNotShared (s : State) : Host.Outcome State Fault Refusal :=
  countEvent .busAccessNotShared .own occBusAccessNotShared incUnit s

/-- R350 BUS_ACCESS_NORMAL (0x0064): Bus access, normal. -/
def execBusAccessNormal (s : State) : Host.Outcome State Fault Refusal :=
  countEvent .busAccessNormal .own occBusAccessNormal incUnit s

/-- R351 BUS_ACCESS_PERIPH (0x0065): Bus access, peripheral. -/
def execBusAccessPeriph (s : State) : Host.Outcome State Fault Refusal :=
  countEvent .busAccessPeriph .own occBusAccessPeriph incUnit s

/-- R352 MEM_ACCESS_RD (0x0066): Data memory access, read. -/
def execMemAccessRd (s : State) : Host.Outcome State Fault Refusal :=
  countEvent .memAccessRd .own occMemAccessRd incUnit s

/-- R353 MEM_ACCESS_WR (0x0067): Data memory access, write. -/
def execMemAccessWr (s : State) : Host.Outcome State Fault Refusal :=
  countEvent .memAccessWr .own occMemAccessWr incUnit s

/-- R354 UNALIGNED_LD_SPEC (0x0068): Unaligned access, read. -/
def execUnalignedLdSpec (s : State) : Host.Outcome State Fault Refusal :=
  countEvent .unalignedLdSpec .own occUnalignedLdSpec incUnit s

/-- R355 UNALIGNED_ST_SPEC (0x0069): Unaligned access, write. -/
def execUnalignedStSpec (s : State) : Host.Outcome State Fault Refusal :=
  countEvent .unalignedStSpec .own occUnalignedStSpec incUnit s

/-- R356 UNALIGNED_LDST_SPEC (0x006A): Unaligned access. -/
def execUnalignedLdstSpec (s : State) : Host.Outcome State Fault Refusal :=
  countEvent .unalignedLdstSpec .own occUnalignedLdstSpec incUnit s

/-- R357 LDREX_SPEC (0x006C): Exclusive operation speculatively executed, Load-Exclusive. -/
def execLdrexSpec (s : State) : Host.Outcome State Fault Refusal :=
  countEvent .ldrexSpec .own occLdrexSpec incUnit s

/-- R358 STREX_PASS_SPEC (0x006D): Exclusive operation speculatively executed, Store-Exclusive pass. -/
def execStrexPassSpec (s : State) : Host.Outcome State Fault Refusal :=
  countEvent .strexPassSpec .own occStrexPassSpec incUnit s

/-- R359 STREX_FAIL_SPEC (0x006E): Exclusive operation speculatively executed, Store-Exclusive fail. -/
def execStrexFailSpec (s : State) : Host.Outcome State Fault Refusal :=
  countEvent .strexFailSpec .own occStrexFailSpec incUnit s

/-- R360 STREX_SPEC (0x006F): Exclusive operation speculatively executed, Store-Exclusive. -/
def execStrexSpec (s : State) : Host.Outcome State Fault Refusal :=
  countEvent .strexSpec .own occStrexSpec incUnit s

/-- R361 LD_SPEC (0x0070): Operation speculatively executed, load. -/
def execLdSpec (s : State) : Host.Outcome State Fault Refusal :=
  countEvent .ldSpec .own occLdSpec incUnit s

/-- R362 ST_SPEC (0x0071): Operation speculatively executed, store. -/
def execStSpec (s : State) : Host.Outcome State Fault Refusal :=
  countEvent .stSpec .own occStSpec incUnit s

/-- R363 LDST_SPEC (0x0072): Operation speculatively executed, load or store. -/
def execLdstSpec (s : State) : Host.Outcome State Fault Refusal :=
  countEvent .ldstSpec .own occLdstSpec incUnit s

/-- R364 DP_SPEC (0x0073): Operation speculatively executed, integer data processing. -/
def execDpSpec (s : State) : Host.Outcome State Fault Refusal :=
  countEvent .dpSpec .own occDpSpec incUnit s

/-- R365 ASE_SPEC (0x0074): Operation speculatively executed, Advanced SIMD data processing. -/
def execAseSpec (s : State) : Host.Outcome State Fault Refusal :=
  countEvent .aseSpec .own occAseSpec incUnit s

/-- R366 VFP_SPEC (0x0075): Operation speculatively executed, scalar floating-point data processing. -/
def execVfpSpec (s : State) : Host.Outcome State Fault Refusal :=
  countEvent .vfpSpec .own occVfpSpec incUnit s

/-- R367 PC_WRITE_SPEC (0x0076): Operation speculatively executed, Software change of the PC. -/
def execPcWriteSpec (s : State) : Host.Outcome State Fault Refusal :=
  countEvent .pcWriteSpec .own occPcWriteSpec incUnit s

/-- R368 CRYPTO_SPEC (0x0077): Operation speculatively executed, cryptographic data processing. -/
def execCryptoSpec (s : State) : Host.Outcome State Fault Refusal :=
  countEvent .cryptoSpec .own occCryptoSpec incUnit s

/-- R369 BR_IMMED_SPEC (0x0078): Branch speculatively executed, immediate branch. -/
def execBrImmedSpec (s : State) : Host.Outcome State Fault Refusal :=
  countEvent .brImmedSpec .own occBrImmedSpec incUnit s

/-- R370 BR_RETURN_SPEC (0x0079): Branch speculatively executed, procedure return. -/
def execBrReturnSpec (s : State) : Host.Outcome State Fault Refusal :=
  countEvent .brReturnSpec .own occBrReturnSpec incUnit s

/-- R371 BR_INDIRECT_SPEC (0x007A): Branch speculatively executed, indirect branch. -/
def execBrIndirectSpec (s : State) : Host.Outcome State Fault Refusal :=
  countEvent .brIndirectSpec .own occBrIndirectSpec incUnit s

/-- R372 ISB_SPEC (0x007C): Barrier speculatively executed, ISB. -/
def execIsbSpec (s : State) : Host.Outcome State Fault Refusal :=
  countEvent .isbSpec .own occIsbSpec incUnit s

/-- R373 DSB_SPEC (0x007D): Barrier speculatively executed, DSB. -/
def execDsbSpec (s : State) : Host.Outcome State Fault Refusal :=
  countEvent .dsbSpec .own occDsbSpec incUnit s

/-- R374 DMB_SPEC (0x007E): Barrier speculatively executed, DMB. -/
def execDmbSpec (s : State) : Host.Outcome State Fault Refusal :=
  countEvent .dmbSpec .own occDmbSpec incUnit s

/-- R375 CSDB_SPEC (0x007F): Barrier speculatively executed, CSDB. -/
def execCsdbSpec (s : State) : Host.Outcome State Fault Refusal :=
  countEvent .csdbSpec .own occCsdbSpec incUnit s

/-- R376 RC_LD_SPEC (0x0090): Release consistency operation speculatively executed, Load-Acquire. -/
def execRcLdSpec (s : State) : Host.Outcome State Fault Refusal :=
  countEvent .rcLdSpec .own occRcLdSpec incUnit s

/-- R377 RC_ST_SPEC (0x0091): Release consistency operation speculatively executed, Store-Release. -/
def execRcStSpec (s : State) : Host.Outcome State Fault Refusal :=
  countEvent .rcStSpec .own occRcStSpec incUnit s

/-- R378 L3D_CACHE_HIT_WR_FEXT_PROP (0x0092): Level 3 data cache demand access first hit, write, fetched by external propagating transaction. -/
def execL3dCacheHitWrFextProp (s : State) : Host.Outcome State Fault Refusal :=
  countEvent .l3dCacheHitWrFextProp (.sharedAs .l3dCache .l3dCache) occL3dCacheHitWrFextProp incUnit s

/-- R379 L3D_CACHE_RD (0x00A0): Level 3 data cache access, read. -/
def execL3dCacheRd (s : State) : Host.Outcome State Fault Refusal :=
  countEvent .l3dCacheRd (.shared .l3dCache) occL3dCacheRd incUnit s

/-- R380 L3D_CACHE_WR (0x00A1): Level 3 data cache access, write. -/
def execL3dCacheWr (s : State) : Host.Outcome State Fault Refusal :=
  countEvent .l3dCacheWr (.shared .l3dCache) occL3dCacheWr incUnit s

/-- R381 L3D_CACHE_REFILL_RD (0x00A2): Level 3 data cache refill, read. Which cache "the cache"
of the sharing clause S2 (R131) is: as for L3D_CACHE_REFILL. Log 76. -/
def execL3dCacheRefillRd (s : State) : Host.Outcome State Fault Refusal :=
  countEvent .l3dCacheRefillRd (.shared .l3dCache) occL3dCacheRefillRd incUnit s

/-- R382 L3D_CACHE_REFILL_WR (0x00A3): Level 3 data cache refill, write. Which cache "the cache"
of the sharing clause S2 (R131) is: as for L3D_CACHE_REFILL. Log 76. -/
def execL3dCacheRefillWr (s : State) : Host.Outcome State Fault Refusal :=
  countEvent .l3dCacheRefillWr (.shared .l3dCache) occL3dCacheRefillWr incUnit s

/-- R383 L3D_CACHE_WB_VICTIM (0x00A6): Level 3 data cache write-back, victim. -/
def execL3dCacheWbVictim (s : State) : Host.Outcome State Fault Refusal :=
  countEvent .l3dCacheWbVictim (.writeBack .l3dCache) occL3dCacheWbVictim incUnit s

/-- R384 L3D_CACHE_WB_CLEAN (0x00A7): Level 3 data cache write-back, cleaning and coherency. -/
def execL3dCacheWbClean (s : State) : Host.Outcome State Fault Refusal :=
  countEvent .l3dCacheWbClean (.writeBack .l3dCache) occL3dCacheWbClean incUnit s

/-- R385 L3D_CACHE_INVAL (0x00A8): Level 3 data cache invalidate. -/
def execL3dCacheInval (s : State) : Host.Outcome State Fault Refusal :=
  countEvent .l3dCacheInval .invalidate occL3dCacheInval incUnit s

/-- R386 L2D_CACHE_HIT_RD_FEXT_PROP (0x00A9): Level 2 data cache demand access first hit, read, fetched by external propagating transaction. -/
def execL2dCacheHitRdFextProp (s : State) : Host.Outcome State Fault Refusal :=
  countEvent .l2dCacheHitRdFextProp (.sharedAs .l2dCache .l2dCache) occL2dCacheHitRdFextProp incUnit s

/-- R387 L2D_CACHE_HIT_WR_FEXT_PROP (0x00AA): Level 2 data cache demand access first hit, write, fetched by external propagating transaction. -/
def execL2dCacheHitWrFextProp (s : State) : Host.Outcome State Fault Refusal :=
  countEvent .l2dCacheHitWrFextProp (.sharedAs .l2dCache .l2dCache) occL2dCacheHitWrFextProp incUnit s

/-- R388 L2D_CACHE_HIT_RW_FEXT_PROP (0x00AB): Level 2 data cache demand access first hit, fetched by external propagating transaction. -/
def execL2dCacheHitRwFextProp (s : State) : Host.Outcome State Fault Refusal :=
  countEvent .l2dCacheHitRwFextProp (.sharedAs .l2dCache .l2dCache) occL2dCacheHitRwFextProp incUnit s

/-- R389 L3D_CACHE_EXT_PROP (0x00AC): Level 3 data cache allocation due to external propagating transaction. -/
def execL3dCacheExtProp (s : State) : Host.Outcome State Fault Refusal :=
  countEvent .l3dCacheExtProp .atOwner occL3dCacheExtProp incUnit s

/-- R390 L3D_CACHE_EXT_PROP_PRFM_IR (0x00AD): Level 3 data cache allocation due to external propagating transaction after prefetch with intent to read. -/
def execL3dCacheExtPropPrfmIr (s : State) : Host.Outcome State Fault Refusal :=
  countEvent .l3dCacheExtPropPrfmIr .atOwner occL3dCacheExtPropPrfmIr incUnit s

/-- R391 L3D_CACHE_HIT_RW_FEXT_PROP (0x00AE): Level 3 data cache demand access first hit, fetched by external propagating transaction. -/
def execL3dCacheHitRwFextProp (s : State) : Host.Outcome State Fault Refusal :=
  countEvent .l3dCacheHitRwFextProp (.sharedAs .l3dCache .l3dCache) occL3dCacheHitRwFextProp incUnit s

/-- R392 L3D_CACHE_HIT_RD_FEXT_PROP (0x00AF): Level 3 data cache demand access first hit, read, fetched by external propagating transaction. -/
def execL3dCacheHitRdFextProp (s : State) : Host.Outcome State Fault Refusal :=
  countEvent .l3dCacheHitRdFextProp (.sharedAs .l3dCache .l3dCache) occL3dCacheHitRdFextProp incUnit s

/-- R393 STSHH_SPEC (0x00B0): Store shared hint instruction speculatively executed. -/
def execStshhSpec (s : State) : Host.Outcome State Fault Refusal :=
  countEvent .stshhSpec .own occStshhSpec incUnit s

/-- R394 STSHH_KEEP_SPEC (0x00B1): Store shared hint instruction speculatively executed with KEEP policy. -/
def execStshhKeepSpec (s : State) : Host.Outcome State Fault Refusal :=
  countEvent .stshhKeepSpec .own occStshhKeepSpec incUnit s

/-- R395 STSHH_STRM_SPEC (0x00B2): Store shared hint instruction speculatively executed with STRM policy. -/
def execStshhStrmSpec (s : State) : Host.Outcome State Fault Refusal :=
  countEvent .stshhStrmSpec .own occStshhStrmSpec incUnit s

/-- R396 PRFM_IR_SPEC (0x00B3): Prefetch with intent to read instruction speculatively executed. -/
def execPrfmIrSpec (s : State) : Host.Outcome State Fault Refusal :=
  countEvent .prfmIrSpec .own occPrfmIrSpec incUnit s

/-- R397 MEM_ACCESS_WR_STSHH (0x00B4): Memory write with store shared hint. -/
def execMemAccessWrStshh (s : State) : Host.Outcome State Fault Refusal :=
  countEvent .memAccessWrStshh .own occMemAccessWrStshh incUnit s

/-- R398 MEM_ACCESS_WR_STSHH_KEEP (0x00B5): Memory write with store shared hint with keep policy. -/
def execMemAccessWrStshhKeep (s : State) : Host.Outcome State Fault Refusal :=
  countEvent .memAccessWrStshhKeep .own occMemAccessWrStshhKeep incUnit s

/-- R399 MEM_ACCESS_WR_STSHH_STRM (0x00B6): Memory write with store shared hint with stream policy. -/
def execMemAccessWrStshhStrm (s : State) : Host.Outcome State Fault Refusal :=
  countEvent .memAccessWrStshhStrm .own occMemAccessWrStshhStrm incUnit s

/-- R400 MEM_ACCESS_WR_STSHH_KEEP_NEAR (0x00B7): Memory write with store shared hint with keep policy performed near. -/
def execMemAccessWrStshhKeepNear (s : State) : Host.Outcome State Fault Refusal :=
  countEvent .memAccessWrStshhKeepNear .own occMemAccessWrStshhKeepNear incUnit s

/-- R401 MEM_ACCESS_WR_STSHH_KEEP_FAR (0x00B8): Memory write with store shared hint with keep policy performed far. -/
def execMemAccessWrStshhKeepFar (s : State) : Host.Outcome State Fault Refusal :=
  countEvent .memAccessWrStshhKeepFar .own occMemAccessWrStshhKeepFar incUnit s

/-- R402 L1D_CACHE_EXT_PROP (0x00B9): Level 1 data cache allocation due to external propagating transaction. -/
def execL1dCacheExtProp (s : State) : Host.Outcome State Fault Refusal :=
  countEvent .l1dCacheExtProp .atOwner occL1dCacheExtProp incUnit s

/-- R403 L1D_CACHE_EXT_PROP_PRFM_IR (0x00BA): Level 1 data cache allocation due to external propagating transaction after prefetch with intent to read. -/
def execL1dCacheExtPropPrfmIr (s : State) : Host.Outcome State Fault Refusal :=
  countEvent .l1dCacheExtPropPrfmIr .atOwner occL1dCacheExtPropPrfmIr incUnit s

/-- R404 L1D_CACHE_HIT_RD_FEXT_PROP (0x00BB): Level 1 data cache demand access first hit, read, fetched by external propagating transaction. -/
def execL1dCacheHitRdFextProp (s : State) : Host.Outcome State Fault Refusal :=
  countEvent .l1dCacheHitRdFextProp (.sharedAs .l1dCache .l1dCache) occL1dCacheHitRdFextProp incUnit s

/-- R405 L1D_CACHE_HIT_WR_FEXT_PROP (0x00BC): Level 1 data cache demand access first hit, write, fetched by external propagating transaction. -/
def execL1dCacheHitWrFextProp (s : State) : Host.Outcome State Fault Refusal :=
  countEvent .l1dCacheHitWrFextProp (.sharedAs .l1dCache .l1dCache) occL1dCacheHitWrFextProp incUnit s

/-- R406 L1D_CACHE_HIT_RW_FEXT_PROP (0x00BD): Level 1 data cache demand access first hit, fetched by external propagating transaction. -/
def execL1dCacheHitRwFextProp (s : State) : Host.Outcome State Fault Refusal :=
  countEvent .l1dCacheHitRwFextProp (.sharedAs .l1dCache .l1dCache) occL1dCacheHitRwFextProp incUnit s

/-- R407 L2D_CACHE_EXT_PROP (0x00BE): Level 2 data cache allocation due to external propagating transaction. -/
def execL2dCacheExtProp (s : State) : Host.Outcome State Fault Refusal :=
  countEvent .l2dCacheExtProp .atOwner occL2dCacheExtProp incUnit s

/-- R408 L2D_CACHE_EXT_PROP_PRFM_IR (0x00BF): Level 2 data cache allocation due to external propagating transaction after prefetch with intent to read. -/
def execL2dCacheExtPropPrfmIr (s : State) : Host.Outcome State Fault Refusal :=
  countEvent .l2dCacheExtPropPrfmIr .atOwner occL2dCacheExtPropPrfmIr incUnit s

end Sys2Proof.Machine
end

