-- ==== Sys2Proof/Machine/Uarch4000.lean ====
section
/-!
DEFINITION. The meanings of the 24 events of spec/44_uarch_4000_403F: each is `Count(E, k)` (40_common_event_rules.md R121)
with the event's own occurrences, attribution and increment.
-/

namespace Sys2Proof.Machine

/-- R409 SAMPLE_POP (0x4000): Statistical Profiling sample population. -/
def execSamplePop (s : State) : Host.Outcome State Fault Refusal :=
  countEvent .samplePop .own occSamplePop incUnit s

/-- R410 SAMPLE_FEED (0x4001): Statistical Profiling sample taken. -/
def execSampleFeed (s : State) : Host.Outcome State Fault Refusal :=
  countEvent .sampleFeed .own occSampleFeed incUnit s

/-- R411 SAMPLE_FILTRATE (0x4002): Statistical Profiling sample taken and not removed by filtering. -/
def execSampleFiltrate (s : State) : Host.Outcome State Fault Refusal :=
  countEvent .sampleFiltrate .own occSampleFiltrate incUnit s

/-- R412 SAMPLE_COLLISION (0x4003): Statistical Profiling sample collided with previous sample. -/
def execSampleCollision (s : State) : Host.Outcome State Fault Refusal :=
  countEvent .sampleCollision .own occSampleCollision incUnit s

/-- R413 CNT_CYCLES (0x4004): Constant frequency cycles. -/
def execCntCycles (s : State) : Host.Outcome State Fault Refusal :=
  countEvent .cntCycles .own occCntCycles incUnit s

/-- R414 STALL_BACKEND_MEM (0x4005): Memory stall cycles. -/
def execStallBackendMem (s : State) : Host.Outcome State Fault Refusal :=
  countEvent .stallBackendMem .cycle occStallBackendMem incUnit s

/-- R415 L1I_CACHE_LMISS (0x4006): Level 1 instruction cache long-latency miss. -/
def execL1iCacheLmiss (s : State) : Host.Outcome State Fault Refusal :=
  countEvent .l1iCacheLmiss (.shared .l1iCache) occL1iCacheLmiss incUnit s

/-- R416 L2D_CACHE_LMISS_RD (0x4009): Level 2 data cache long-latency read miss. -/
def execL2dCacheLmissRd (s : State) : Host.Outcome State Fault Refusal :=
  countEvent .l2dCacheLmissRd (.shared .l2dCache) occL2dCacheLmissRd incUnit s

/-- R417 L2I_CACHE_LMISS (0x400A): Level 2 instruction cache long-latency miss. -/
def execL2iCacheLmiss (s : State) : Host.Outcome State Fault Refusal :=
  countEvent .l2iCacheLmiss (.shared .l2iCache) occL2iCacheLmiss incUnit s

/-- R418 L3D_CACHE_LMISS_RD (0x400B): Level 3 data cache long-latency read miss. -/
def execL3dCacheLmissRd (s : State) : Host.Outcome State Fault Refusal :=
  countEvent .l3dCacheLmissRd (.shared .l3dCache) occL3dCacheLmissRd incUnit s

/-- R419 TRCEXTOUT0 (0x4010): Trace unit external output 0. -/
def execTrcextout0 (s : State) : Host.Outcome State Fault Refusal :=
  countEvent .trcextout0 .own occTrcextout0 incUnit s

/-- R420 TRCEXTOUT1 (0x4011): Trace unit external output 1. -/
def execTrcextout1 (s : State) : Host.Outcome State Fault Refusal :=
  countEvent .trcextout1 .own occTrcextout1 incUnit s

/-- R421 TRCEXTOUT2 (0x4012): Trace unit external output 2. -/
def execTrcextout2 (s : State) : Host.Outcome State Fault Refusal :=
  countEvent .trcextout2 .own occTrcextout2 incUnit s

/-- R422 TRCEXTOUT3 (0x4013): Trace unit external output 3. -/
def execTrcextout3 (s : State) : Host.Outcome State Fault Refusal :=
  countEvent .trcextout3 .own occTrcextout3 incUnit s

/-- R423 CTI_TRIGOUT4 (0x4018): Cross-trigger Interface output trigger 4. -/
def execCtiTrigout4 (s : State) : Host.Outcome State Fault Refusal :=
  countEvent .ctiTrigout4 .own occCtiTrigout4 incUnit s

/-- R424 CTI_TRIGOUT5 (0x4019): Cross-trigger Interface output trigger 5. -/
def execCtiTrigout5 (s : State) : Host.Outcome State Fault Refusal :=
  countEvent .ctiTrigout5 .own occCtiTrigout5 incUnit s

/-- R425 CTI_TRIGOUT6 (0x401A): Cross-trigger Interface output trigger 6. -/
def execCtiTrigout6 (s : State) : Host.Outcome State Fault Refusal :=
  countEvent .ctiTrigout6 .own occCtiTrigout6 incUnit s

/-- R426 CTI_TRIGOUT7 (0x401B): Cross-trigger Interface output trigger 7. -/
def execCtiTrigout7 (s : State) : Host.Outcome State Fault Refusal :=
  countEvent .ctiTrigout7 .own occCtiTrigout7 incUnit s

/-- R427 LDST_ALIGN_LAT (0x4020): Access with additional latency from alignment. -/
def execLdstAlignLat (s : State) : Host.Outcome State Fault Refusal :=
  countEvent .ldstAlignLat .own occLdstAlignLat incUnit s

/-- R428 LD_ALIGN_LAT (0x4021): Load with additional latency from alignment. -/
def execLdAlignLat (s : State) : Host.Outcome State Fault Refusal :=
  countEvent .ldAlignLat .own occLdAlignLat incUnit s

/-- R429 ST_ALIGN_LAT (0x4022): Store with additional latency from alignment. -/
def execStAlignLat (s : State) : Host.Outcome State Fault Refusal :=
  countEvent .stAlignLat .own occStAlignLat incUnit s

/-- R430 MEM_ACCESS_CHECKED (0x4024): Checked data memory access. -/
def execMemAccessChecked (s : State) : Host.Outcome State Fault Refusal :=
  countEvent .memAccessChecked .own occMemAccessChecked incUnit s

/-- R431 MEM_ACCESS_CHECKED_RD (0x4025): Checked data memory access, read. -/
def execMemAccessCheckedRd (s : State) : Host.Outcome State Fault Refusal :=
  countEvent .memAccessCheckedRd .own occMemAccessCheckedRd incUnit s

/-- R432 MEM_ACCESS_CHECKED_WR (0x4026): Checked data memory access, write. -/
def execMemAccessCheckedWr (s : State) : Host.Outcome State Fault Refusal :=
  countEvent .memAccessCheckedWr .own occMemAccessCheckedWr incUnit s

end Sys2Proof.Machine
end

