-- ==== Sys2Proof/Machine/Uarch8004.lean ====
section
/-!
DEFINITION. The meanings of the 223 events of spec/45_uarch_8004_80FF: each is `Count(E, k)` (40_common_event_rules.md R121)
with the event's own occurrences, attribution and increment.
-/

namespace Sys2Proof.Machine

/-- R433 SIMD_INST_SPEC (0x8004): Operation speculatively executed, SIMD. -/
def execSimdInstSpec (s : State) : Host.Outcome State Fault Refusal :=
  countEvent .simdInstSpec .own occSimdInstSpec incUnit s

/-- R434 ASE_INST_SPEC (0x8005): Operation speculatively executed, Advanced SIMD. -/
def execAseInstSpec (s : State) : Host.Outcome State Fault Refusal :=
  countEvent .aseInstSpec .own occAseInstSpec incUnit s

/-- R435 SVE_INST_SPEC (0x8006): Operation speculatively executed, SVE. -/
def execSveInstSpec (s : State) : Host.Outcome State Fault Refusal :=
  countEvent .sveInstSpec .own occSveInstSpec incUnit s

/-- R436 ASE_SVE_INST_SPEC (0x8007): Operation speculatively executed, Advanced SIMD or SVE. -/
def execAseSveInstSpec (s : State) : Host.Outcome State Fault Refusal :=
  countEvent .aseSveInstSpec .own occAseSveInstSpec incUnit s

/-- R437 UOP_SPEC (0x8008): Microarchitectural operation speculatively executed. -/
def execUopSpec (s : State) : Host.Outcome State Fault Refusal :=
  countEvent .uopSpec .own occUopSpec incUnit s

/-- R438 ASE_UOP_SPEC (0x8009): Microarchitectural operation speculatively executed, Advanced SIMD. -/
def execAseUopSpec (s : State) : Host.Outcome State Fault Refusal :=
  countEvent .aseUopSpec .own occAseUopSpec incUnit s

/-- R439 SVE_UOP_SPEC (0x800A): Microarchitectural operation speculatively executed, SVE. -/
def execSveUopSpec (s : State) : Host.Outcome State Fault Refusal :=
  countEvent .sveUopSpec .own occSveUopSpec incUnit s

/-- R440 ASE_SVE_UOP_SPEC (0x800B): Microarchitectural operation speculatively executed, Advanced SIMD or SVE. -/
def execAseSveUopSpec (s : State) : Host.Outcome State Fault Refusal :=
  countEvent .aseSveUopSpec .own occAseSveUopSpec incUnit s

/-- R441 SIMD_UOP_SPEC (0x800C): Microarchitectural operation speculatively executed, SIMD. -/
def execSimdUopSpec (s : State) : Host.Outcome State Fault Refusal :=
  countEvent .simdUopSpec .own occSimdUopSpec incUnit s

/-- R442 SVE_MATH_SPEC (0x800E): Operation speculatively executed, SVE math accelerator. -/
def execSveMathSpec (s : State) : Host.Outcome State Fault Refusal :=
  countEvent .sveMathSpec .own occSveMathSpec incUnit s

/-- R443 FP_SPEC (0x8010): Floating-point operation speculatively executed, including SIMD. -/
def execFpSpec (s : State) : Host.Outcome State Fault Refusal :=
  countEvent .fpSpec .own occFpSpec incUnit s

/-- R444 ASE_FP_SPEC (0x8011): Floating-point operation speculatively executed, Advanced SIMD. -/
def execAseFpSpec (s : State) : Host.Outcome State Fault Refusal :=
  countEvent .aseFpSpec .own occAseFpSpec incUnit s

/-- R445 SVE_FP_SPEC (0x8012): Floating-point operation speculatively executed, SVE. -/
def execSveFpSpec (s : State) : Host.Outcome State Fault Refusal :=
  countEvent .sveFpSpec .own occSveFpSpec incUnit s

/-- R446 ASE_SVE_FP_SPEC (0x8013): Floating-point operation speculatively executed, Advanced SIMD or SVE. -/
def execAseSveFpSpec (s : State) : Host.Outcome State Fault Refusal :=
  countEvent .aseSveFpSpec .own occAseSveFpSpec incUnit s

/-- R447 FP_HP_SPEC (0x8014): Floating-point operation speculatively executed, half-precision. -/
def execFpHpSpec (s : State) : Host.Outcome State Fault Refusal :=
  countEvent .fpHpSpec .own occFpHpSpec incUnit s

/-- R448 ASE_FP_HP_SPEC (0x8015): Floating-point operation speculatively executed, Advanced SIMD half-precision, data-processing. -/
def execAseFpHpSpec (s : State) : Host.Outcome State Fault Refusal :=
  countEvent .aseFpHpSpec .own occAseFpHpSpec incUnit s

/-- R449 SVE_FP_HP_SPEC (0x8016): Floating-point operation speculatively executed, SVE half-precision, data-processing. -/
def execSveFpHpSpec (s : State) : Host.Outcome State Fault Refusal :=
  countEvent .sveFpHpSpec .own occSveFpHpSpec incUnit s

/-- R450 ASE_SVE_FP_HP_SPEC (0x8017): Floating-point operation speculatively executed, Advanced SIMD or SVE half-precision. -/
def execAseSveFpHpSpec (s : State) : Host.Outcome State Fault Refusal :=
  countEvent .aseSveFpHpSpec .own occAseSveFpHpSpec incUnit s

/-- R451 FP_SP_SPEC (0x8018): Floating-point operation speculatively executed, single-precision. -/
def execFpSpSpec (s : State) : Host.Outcome State Fault Refusal :=
  countEvent .fpSpSpec .own occFpSpSpec incUnit s

/-- R452 ASE_FP_SP_SPEC (0x8019): Floating-point operation speculatively executed, Advanced SIMD single-precision, data-processing. -/
def execAseFpSpSpec (s : State) : Host.Outcome State Fault Refusal :=
  countEvent .aseFpSpSpec .own occAseFpSpSpec incUnit s

/-- R453 SVE_FP_SP_SPEC (0x801A): Floating-point operation speculatively executed, SVE single-precision, data-processing. -/
def execSveFpSpSpec (s : State) : Host.Outcome State Fault Refusal :=
  countEvent .sveFpSpSpec .own occSveFpSpSpec incUnit s

/-- R454 ASE_SVE_FP_SP_SPEC (0x801B): Floating-point operation speculatively executed, Advanced SIMD or SVE single-precision, data-processing. -/
def execAseSveFpSpSpec (s : State) : Host.Outcome State Fault Refusal :=
  countEvent .aseSveFpSpSpec .own occAseSveFpSpSpec incUnit s

/-- R455 FP_DP_SPEC (0x801C): Floating-point operation speculatively executed, double-precision, data-processing. -/
def execFpDpSpec (s : State) : Host.Outcome State Fault Refusal :=
  countEvent .fpDpSpec .own occFpDpSpec incUnit s

/-- R456 ASE_FP_DP_SPEC (0x801D): Floating-point operation speculatively executed, Advanced SIMD double-precision, data-processing. -/
def execAseFpDpSpec (s : State) : Host.Outcome State Fault Refusal :=
  countEvent .aseFpDpSpec .own occAseFpDpSpec incUnit s

/-- R457 SVE_FP_DP_SPEC (0x801E): Floating-point operation speculatively executed, SVE double-precision, data-processing. -/
def execSveFpDpSpec (s : State) : Host.Outcome State Fault Refusal :=
  countEvent .sveFpDpSpec .own occSveFpDpSpec incUnit s

/-- R458 ASE_SVE_FP_DP_SPEC (0x801F): Floating-point operation speculatively executed, Advanced SIMD or SVE double-precision, data-processing. -/
def execAseSveFpDpSpec (s : State) : Host.Outcome State Fault Refusal :=
  countEvent .aseSveFpDpSpec .own occAseSveFpDpSpec incUnit s

/-- R459 FP_DIV_SPEC (0x8020): Floating-point operation speculatively executed, divide. -/
def execFpDivSpec (s : State) : Host.Outcome State Fault Refusal :=
  countEvent .fpDivSpec .own occFpDivSpec incUnit s

/-- R460 ASE_FP_DIV_SPEC (0x8021): Floating-point operation speculatively executed, Advanced SIMD divide. -/
def execAseFpDivSpec (s : State) : Host.Outcome State Fault Refusal :=
  countEvent .aseFpDivSpec .own occAseFpDivSpec incUnit s

/-- R461 SVE_FP_DIV_SPEC (0x8022): Floating-point operation speculatively executed, SVE divide. -/
def execSveFpDivSpec (s : State) : Host.Outcome State Fault Refusal :=
  countEvent .sveFpDivSpec .own occSveFpDivSpec incUnit s

/-- R462 ASE_SVE_FP_DIV_SPEC (0x8023): Floating-point operation speculatively executed, Advanced SIMD or SVE divide. -/
def execAseSveFpDivSpec (s : State) : Host.Outcome State Fault Refusal :=
  countEvent .aseSveFpDivSpec .own occAseSveFpDivSpec incUnit s

/-- R463 FP_SQRT_SPEC (0x8024): Floating-point operation speculatively executed, square root. -/
def execFpSqrtSpec (s : State) : Host.Outcome State Fault Refusal :=
  countEvent .fpSqrtSpec .own occFpSqrtSpec incUnit s

/-- R464 ASE_FP_SQRT_SPEC (0x8025): Floating-point operation speculatively executed, Advanced SIMD square root. -/
def execAseFpSqrtSpec (s : State) : Host.Outcome State Fault Refusal :=
  countEvent .aseFpSqrtSpec .own occAseFpSqrtSpec incUnit s

/-- R465 SVE_FP_SQRT_SPEC (0x8026): Floating-point operation speculatively executed, SVE square root. -/
def execSveFpSqrtSpec (s : State) : Host.Outcome State Fault Refusal :=
  countEvent .sveFpSqrtSpec .own occSveFpSqrtSpec incUnit s

/-- R466 ASE_SVE_FP_SQRT_SPEC (0x8027): Floating-point operation speculatively executed, Advanced SIMD or SVE squareroot. -/
def execAseSveFpSqrtSpec (s : State) : Host.Outcome State Fault Refusal :=
  countEvent .aseSveFpSqrtSpec .own occAseSveFpSqrtSpec incUnit s

/-- R467 FP_FMA_SPEC (0x8028): Floating-point operation speculatively executed, FMA. -/
def execFpFmaSpec (s : State) : Host.Outcome State Fault Refusal :=
  countEvent .fpFmaSpec .own occFpFmaSpec incUnit s

/-- R468 ASE_FP_FMA_SPEC (0x8029): Floating-point operation speculatively executed, Advanced SIMD FMA. -/
def execAseFpFmaSpec (s : State) : Host.Outcome State Fault Refusal :=
  countEvent .aseFpFmaSpec .own occAseFpFmaSpec incUnit s

/-- R469 SVE_FP_FMA_SPEC (0x802A): Floating-point operation speculatively executed, SVE FMA. -/
def execSveFpFmaSpec (s : State) : Host.Outcome State Fault Refusal :=
  countEvent .sveFpFmaSpec .own occSveFpFmaSpec incUnit s

/-- R470 ASE_SVE_FP_FMA_SPEC (0x802B): Floating-point operation speculatively executed, Advanced SIMD or SVE FMA. -/
def execAseSveFpFmaSpec (s : State) : Host.Outcome State Fault Refusal :=
  countEvent .aseSveFpFmaSpec .own occAseSveFpFmaSpec incUnit s

/-- R471 FP_MUL_SPEC (0x802C): Floating-point operation speculatively executed, multiply. -/
def execFpMulSpec (s : State) : Host.Outcome State Fault Refusal :=
  countEvent .fpMulSpec .own occFpMulSpec incUnit s

/-- R472 ASE_FP_MUL_SPEC (0x802D): Floating-point operation speculatively executed, Advanced SIMD multiply. -/
def execAseFpMulSpec (s : State) : Host.Outcome State Fault Refusal :=
  countEvent .aseFpMulSpec .own occAseFpMulSpec incUnit s

/-- R473 SVE_FP_MUL_SPEC (0x802E): Floating-point operation speculatively executed, SVE multiply. -/
def execSveFpMulSpec (s : State) : Host.Outcome State Fault Refusal :=
  countEvent .sveFpMulSpec .own occSveFpMulSpec incUnit s

/-- R474 ASE_SVE_FP_MUL_SPEC (0x802F): Floating-point operation speculatively executed, Advanced SIMD or SVE multiply. -/
def execAseSveFpMulSpec (s : State) : Host.Outcome State Fault Refusal :=
  countEvent .aseSveFpMulSpec .own occAseSveFpMulSpec incUnit s

/-- R475 FP_ADDSUB_SPEC (0x8030): Floating-point operation speculatively executed, add or subtract. -/
def execFpAddsubSpec (s : State) : Host.Outcome State Fault Refusal :=
  countEvent .fpAddsubSpec .own occFpAddsubSpec incUnit s

/-- R476 ASE_FP_ADDSUB_SPEC (0x8031): Floating-point operation speculatively executed, Advanced SIMD add or subtract. -/
def execAseFpAddsubSpec (s : State) : Host.Outcome State Fault Refusal :=
  countEvent .aseFpAddsubSpec .own occAseFpAddsubSpec incUnit s

/-- R477 SVE_FP_ADDSUB_SPEC (0x8032): Floating-point operation speculatively executed, SVE add or subtract. -/
def execSveFpAddsubSpec (s : State) : Host.Outcome State Fault Refusal :=
  countEvent .sveFpAddsubSpec .own occSveFpAddsubSpec incUnit s

/-- R478 ASE_SVE_FP_ADDSUB_SPEC (0x8033): Floating-point operation speculatively executed, Advanced SIMD or SVE add or subtract. -/
def execAseSveFpAddsubSpec (s : State) : Host.Outcome State Fault Refusal :=
  countEvent .aseSveFpAddsubSpec .own occAseSveFpAddsubSpec incUnit s

/-- R479 FP_RECPE_SPEC (0x8034): Floating-point operation speculatively executed, reciprocal estimate. -/
def execFpRecpeSpec (s : State) : Host.Outcome State Fault Refusal :=
  countEvent .fpRecpeSpec .own occFpRecpeSpec incUnit s

/-- R480 ASE_FP_RECPE_SPEC (0x8035): Floating-point operation speculatively executed, Advanced SIMD reciprocal estimate. -/
def execAseFpRecpeSpec (s : State) : Host.Outcome State Fault Refusal :=
  countEvent .aseFpRecpeSpec .own occAseFpRecpeSpec incUnit s

/-- R481 SVE_FP_RECPE_SPEC (0x8036): Floating-point operation speculatively executed, SVE reciprocal estimate. -/
def execSveFpRecpeSpec (s : State) : Host.Outcome State Fault Refusal :=
  countEvent .sveFpRecpeSpec .own occSveFpRecpeSpec incUnit s

/-- R482 ASE_SVE_FP_RECPE_SPEC (0x8037): Floating-point operation speculatively executed, Advanced SIMD or SVE reciprocal estimate. -/
def execAseSveFpRecpeSpec (s : State) : Host.Outcome State Fault Refusal :=
  countEvent .aseSveFpRecpeSpec .own occAseSveFpRecpeSpec incUnit s

/-- R483 FP_CVT_SPEC (0x8038): Floating-point operation speculatively executed, convert. -/
def execFpCvtSpec (s : State) : Host.Outcome State Fault Refusal :=
  countEvent .fpCvtSpec .own occFpCvtSpec incUnit s

/-- R484 ASE_FP_CVT_SPEC (0x8039): Floating-point operation speculatively executed, Advanced SIMD convert. -/
def execAseFpCvtSpec (s : State) : Host.Outcome State Fault Refusal :=
  countEvent .aseFpCvtSpec .own occAseFpCvtSpec incUnit s

/-- R485 SVE_FP_CVT_SPEC (0x803A): Floating-point operation speculatively executed, SVE convert. -/
def execSveFpCvtSpec (s : State) : Host.Outcome State Fault Refusal :=
  countEvent .sveFpCvtSpec .own occSveFpCvtSpec incUnit s

/-- R486 ASE_SVE_FP_CVT_SPEC (0x803B): Floating-point operation speculatively executed, Advanced SIMD or SVE convert. -/
def execAseSveFpCvtSpec (s : State) : Host.Outcome State Fault Refusal :=
  countEvent .aseSveFpCvtSpec .own occAseSveFpCvtSpec incUnit s

/-- R487 SVE_FP_AREDUCE_SPEC (0x803C): Floating-point operation speculatively executed, SVE accumulating reduction. -/
def execSveFpAreduceSpec (s : State) : Host.Outcome State Fault Refusal :=
  countEvent .sveFpAreduceSpec .own occSveFpAreduceSpec incUnit s

/-- R488 ASE_FP_PREDUCE_SPEC (0x803D): Floating-point operation speculatively executed, Advanced SIMD pairwise add step or pairwise reduce step. -/
def execAseFpPreduceSpec (s : State) : Host.Outcome State Fault Refusal :=
  countEvent .aseFpPreduceSpec .own occAseFpPreduceSpec incUnit s

/-- R489 SVE_FP_VREDUCE_SPEC (0x803E): Floating-point operation speculatively executed, SVE pairwise or reduction. -/
def execSveFpVreduceSpec (s : State) : Host.Outcome State Fault Refusal :=
  countEvent .sveFpVreduceSpec .own occSveFpVreduceSpec incUnit s

/-- R490 ASE_SVE_FP_VREDUCE_SPEC (0x803F): Floating-point operation speculatively executed, Advanced SIMD or SVE vector reduction. -/
def execAseSveFpVreduceSpec (s : State) : Host.Outcome State Fault Refusal :=
  countEvent .aseSveFpVreduceSpec .own occAseSveFpVreduceSpec incUnit s

/-- R491 INT_SPEC (0x8040): Integer operation speculatively executed. -/
def execIntSpec (s : State) : Host.Outcome State Fault Refusal :=
  countEvent .intSpec .own occIntSpec incUnit s

/-- R492 ASE_INT_SPEC (0x8041): Integer operation speculatively executed, Advanced SIMD. -/
def execAseIntSpec (s : State) : Host.Outcome State Fault Refusal :=
  countEvent .aseIntSpec .own occAseIntSpec incUnit s

/-- R493 SVE_INT_SPEC (0x8042): Integer operation speculatively executed, SVE. -/
def execSveIntSpec (s : State) : Host.Outcome State Fault Refusal :=
  countEvent .sveIntSpec .own occSveIntSpec incUnit s

/-- R494 ASE_SVE_INT_SPEC (0x8043): Integer operation speculatively executed, Advanced SIMD or SVE. -/
def execAseSveIntSpec (s : State) : Host.Outcome State Fault Refusal :=
  countEvent .aseSveIntSpec .own occAseSveIntSpec incUnit s

/-- R495 INT_DIV_SPEC (0x8044): Integer operation speculatively executed, divide. -/
def execIntDivSpec (s : State) : Host.Outcome State Fault Refusal :=
  countEvent .intDivSpec .own occIntDivSpec incUnit s

/-- R496 INT_DIV64_SPEC (0x8045): Integer operation speculatively executed, 64-bit divide. -/
def execIntDiv64Spec (s : State) : Host.Outcome State Fault Refusal :=
  countEvent .intDiv64Spec .own occIntDiv64Spec incUnit s

/-- R497 SVE_INT_DIV_SPEC (0x8046): Integer operation speculatively executed, SVE divide. -/
def execSveIntDivSpec (s : State) : Host.Outcome State Fault Refusal :=
  countEvent .sveIntDivSpec .own occSveIntDivSpec incUnit s

/-- R498 SVE_INT_DIV64_SPEC (0x8047): Integer operation speculatively executed, SVE 64-bit divide. -/
def execSveIntDiv64Spec (s : State) : Host.Outcome State Fault Refusal :=
  countEvent .sveIntDiv64Spec .own occSveIntDiv64Spec incUnit s

/-- R499 INT_MUL_SPEC (0x8048): Integer operation speculatively executed, multiply. -/
def execIntMulSpec (s : State) : Host.Outcome State Fault Refusal :=
  countEvent .intMulSpec .own occIntMulSpec incUnit s

/-- R500 ASE_INT_MUL_SPEC (0x8049): Integer operation speculatively executed, Advanced SIMD multiply. -/
def execAseIntMulSpec (s : State) : Host.Outcome State Fault Refusal :=
  countEvent .aseIntMulSpec .own occAseIntMulSpec incUnit s

/-- R501 SVE_INT_MUL_SPEC (0x804A): Integer operation speculatively executed, SVE multiply. -/
def execSveIntMulSpec (s : State) : Host.Outcome State Fault Refusal :=
  countEvent .sveIntMulSpec .own occSveIntMulSpec incUnit s

/-- R502 ASE_SVE_INT_MUL_SPEC (0x804B): Integer operation speculatively executed, Advanced SIMD or SVE multiply. -/
def execAseSveIntMulSpec (s : State) : Host.Outcome State Fault Refusal :=
  countEvent .aseSveIntMulSpec .own occAseSveIntMulSpec incUnit s

/-- R503 INT_MUL64_SPEC (0x804C): Integer operation speculatively executed, 64 × 64 multiply. -/
def execIntMul64Spec (s : State) : Host.Outcome State Fault Refusal :=
  countEvent .intMul64Spec .own occIntMul64Spec incUnit s

/-- R504 SVE_INT_MUL64_SPEC (0x804D): Integer operation speculatively executed, SVE 64 × 64 multiply. -/
def execSveIntMul64Spec (s : State) : Host.Outcome State Fault Refusal :=
  countEvent .sveIntMul64Spec .own occSveIntMul64Spec incUnit s

/-- R505 INT_MULH64_SPEC (0x804E): Integer operation speculatively executed, 64 × 64 multiply returning high part. -/
def execIntMulh64Spec (s : State) : Host.Outcome State Fault Refusal :=
  countEvent .intMulh64Spec .own occIntMulh64Spec incUnit s

/-- R506 SVE_INT_MULH64_SPEC (0x804F): Integer operation speculatively executed, SVE 64 × 64 multiply high part. -/
def execSveIntMulh64Spec (s : State) : Host.Outcome State Fault Refusal :=
  countEvent .sveIntMulh64Spec .own occSveIntMulh64Spec incUnit s

/-- R507 ASE_FP_BF16_SPEC (0x8051): Floating-point operation speculatively executed, Advanced SIMD BFloat16, data-processing. -/
def execAseFpBf16Spec (s : State) : Host.Outcome State Fault Refusal :=
  countEvent .aseFpBf16Spec .own occAseFpBf16Spec incUnit s

/-- R508 SVE_FP_BF16_SPEC (0x8052): Floating-point operation speculatively executed, SVE BFloat16, data-processing. -/
def execSveFpBf16Spec (s : State) : Host.Outcome State Fault Refusal :=
  countEvent .sveFpBf16Spec .own occSveFpBf16Spec incUnit s

/-- R509 ASE_SVE_FP_BF16_SPEC (0x8053): Floating-point operation speculatively executed, SVE or Advanced SIMD BFloat16, data-processing. -/
def execAseSveFpBf16Spec (s : State) : Host.Outcome State Fault Refusal :=
  countEvent .aseSveFpBf16Spec .own occAseSveFpBf16Spec incUnit s

/-- R510 FP_BF16_SPEC (0x8054): Floating-point operation speculatively executed, BFloat16, data-processing. -/
def execFpBf16Spec (s : State) : Host.Outcome State Fault Refusal :=
  countEvent .fpBf16Spec .own occFpBf16Spec incUnit s

/-- R511 SVE_SPEC (0x8056): Operation speculatively executed, SVE data processing. -/
def execSveSpec (s : State) : Host.Outcome State Fault Refusal :=
  countEvent .sveSpec .own occSveSpec incUnit s

/-- R512 ASE_SVE_SPEC (0x8057): Operation speculatively executed, Advanced SIMD data processing or SVE data processing. -/
def execAseSveSpec (s : State) : Host.Outcome State Fault Refusal :=
  countEvent .aseSveSpec .own occAseSveSpec incUnit s

/-- R513 NONFP_SPEC (0x8058): Non-floating-point operation speculatively executed. -/
def execNonfpSpec (s : State) : Host.Outcome State Fault Refusal :=
  countEvent .nonfpSpec .own occNonfpSpec incUnit s

/-- R514 ASE_NONFP_SPEC (0x8059): Non-floating-point operation speculatively executed, Advanced SIMD. -/
def execAseNonfpSpec (s : State) : Host.Outcome State Fault Refusal :=
  countEvent .aseNonfpSpec .own occAseNonfpSpec incUnit s

/-- R515 SVE_NONFP_SPEC (0x805A): Non-floating-point operation speculatively executed, SVE. -/
def execSveNonfpSpec (s : State) : Host.Outcome State Fault Refusal :=
  countEvent .sveNonfpSpec .own occSveNonfpSpec incUnit s

/-- R516 ASE_SVE_NONFP_SPEC (0x805B): Non-floating-point operation speculatively executed, Advanced SIMD or SVE. -/
def execAseSveNonfpSpec (s : State) : Host.Outcome State Fault Refusal :=
  countEvent .aseSveNonfpSpec .own occAseSveNonfpSpec incUnit s

/-- R517 ASE_INT_VREDUCE_SPEC (0x805D): Integer operation speculatively executed, Advanced SIMD reduction. -/
def execAseIntVreduceSpec (s : State) : Host.Outcome State Fault Refusal :=
  countEvent .aseIntVreduceSpec .own occAseIntVreduceSpec incUnit s

/-- R518 SVE_INT_VREDUCE_SPEC (0x805E): Integer operation speculatively executed, SVE reduction. -/
def execSveIntVreduceSpec (s : State) : Host.Outcome State Fault Refusal :=
  countEvent .sveIntVreduceSpec .own occSveIntVreduceSpec incUnit s

/-- R519 ASE_SVE_INT_VREDUCE_SPEC (0x805F): Integer operation speculatively executed, Advanced SIMD or SVE reduction. -/
def execAseSveIntVreduceSpec (s : State) : Host.Outcome State Fault Refusal :=
  countEvent .aseSveIntVreduceSpec .own occAseSveIntVreduceSpec incUnit s

/-- R520 SVE_PERM_SPEC (0x8060): Operation speculatively executed, SVE permute. -/
def execSvePermSpec (s : State) : Host.Outcome State Fault Refusal :=
  countEvent .svePermSpec .own occSvePermSpec incUnit s

/-- R521 SVE_PERM_IGRANULE_SPEC (0x8061): Operation speculatively executed, SVE intra-granule permute. -/
def execSvePermIgranuleSpec (s : State) : Host.Outcome State Fault Refusal :=
  countEvent .svePermIgranuleSpec .own occSvePermIgranuleSpec incUnit s

/-- R522 SVE_PERM_XGRANULE_SPEC (0x8062): Operation speculatively executed, SVE cross-granule permute. -/
def execSvePermXgranuleSpec (s : State) : Host.Outcome State Fault Refusal :=
  countEvent .svePermXgranuleSpec .own occSvePermXgranuleSpec incUnit s

/-- R523 SVE_PERM_VARIABLE_SPEC (0x8063): Operation speculatively executed, SVE programmable permute. -/
def execSvePermVariableSpec (s : State) : Host.Outcome State Fault Refusal :=
  countEvent .svePermVariableSpec .own occSvePermVariableSpec incUnit s

/-- R524 SVE_XPIPE_SPEC (0x8064): Operation speculatively executed, SVE cross-pipe. -/
def execSveXpipeSpec (s : State) : Host.Outcome State Fault Refusal :=
  countEvent .sveXpipeSpec .own occSveXpipeSpec incUnit s

/-- R525 SVE_XPIPE_Z2R_SPEC (0x8065): Operation speculatively executed, SVE vector to scalar cross-pipe. -/
def execSveXpipeZ2rSpec (s : State) : Host.Outcome State Fault Refusal :=
  countEvent .sveXpipeZ2rSpec .own occSveXpipeZ2rSpec incUnit s

/-- R526 SVE_XPIPE_R2Z_SPEC (0x8066): Operation speculatively executed, SVE scalar to vector cross-pipe. -/
def execSveXpipeR2zSpec (s : State) : Host.Outcome State Fault Refusal :=
  countEvent .sveXpipeR2zSpec .own occSveXpipeR2zSpec incUnit s

/-- R527 SVE_PGEN_NVEC_SPEC (0x8067): Operation speculatively executed, SVE predicate-only. -/
def execSvePgenNvecSpec (s : State) : Host.Outcome State Fault Refusal :=
  countEvent .svePgenNvecSpec .own occSvePgenNvecSpec incUnit s

/-- R528 SVE_PGEN_SPEC (0x8068): Operation speculatively executed, SVE predicate generating. -/
def execSvePgenSpec (s : State) : Host.Outcome State Fault Refusal :=
  countEvent .svePgenSpec .own occSvePgenSpec incUnit s

/-- R529 SVE_PGEN_FLG_SPEC (0x8069): Operation speculatively executed, SVE predicate flag setting. -/
def execSvePgenFlgSpec (s : State) : Host.Outcome State Fault Refusal :=
  countEvent .svePgenFlgSpec .own occSvePgenFlgSpec incUnit s

/-- R530 SVE_PGEN_CMP_SPEC (0x806A): Operation speculatively executed, SVE vector compare. -/
def execSvePgenCmpSpec (s : State) : Host.Outcome State Fault Refusal :=
  countEvent .svePgenCmpSpec .own occSvePgenCmpSpec incUnit s

/-- R531 SVE_PGEN_FCM_SPEC (0x806B): Floating-point operation speculatively executed, SVE vector compare. -/
def execSvePgenFcmSpec (s : State) : Host.Outcome State Fault Refusal :=
  countEvent .svePgenFcmSpec .own occSvePgenFcmSpec incUnit s

/-- R532 SVE_PGEN_LOGIC_SPEC (0x806C): Operation speculatively executed, SVE predicate logical. -/
def execSvePgenLogicSpec (s : State) : Host.Outcome State Fault Refusal :=
  countEvent .svePgenLogicSpec .own occSvePgenLogicSpec incUnit s

/-- R533 SVE_PPERM_SPEC (0x806D): Operation speculatively executed, SVE predicate permute. -/
def execSvePpermSpec (s : State) : Host.Outcome State Fault Refusal :=
  countEvent .svePpermSpec .own occSvePpermSpec incUnit s

/-- R534 SVE_PSCAN_SPEC (0x806E): Operation speculatively executed, SVE predicate scan. -/
def execSvePscanSpec (s : State) : Host.Outcome State Fault Refusal :=
  countEvent .svePscanSpec .own occSvePscanSpec incUnit s

/-- R535 SVE_PCNT_SPEC (0x806F): Operation speculatively executed, SVE predicate count. -/
def execSvePcntSpec (s : State) : Host.Outcome State Fault Refusal :=
  countEvent .svePcntSpec .own occSvePcntSpec incUnit s

/-- R536 SVE_PLOOP_WHILE_SPEC (0x8070): Operation speculatively executed, SVE predicate loop while. -/
def execSvePloopWhileSpec (s : State) : Host.Outcome State Fault Refusal :=
  countEvent .svePloopWhileSpec .own occSvePloopWhileSpec incUnit s

/-- R537 SVE_PLOOP_TEST_SPEC (0x8071): Operation speculatively executed, SVE predicate loop test. -/
def execSvePloopTestSpec (s : State) : Host.Outcome State Fault Refusal :=
  countEvent .svePloopTestSpec .own occSvePloopTestSpec incUnit s

/-- R538 SVE_PLOOP_ELTS_SPEC (0x8072): Operation speculatively executed, SVE predicate loop elements. -/
def execSvePloopEltsSpec (s : State) : Host.Outcome State Fault Refusal :=
  countEvent .svePloopEltsSpec .own occSvePloopEltsSpec incPredicateLoop s

/-- R539 SVE_PLOOP_TERM_SPEC (0x8073): Operation speculatively executed, SVE predicate loop termination. -/
def execSvePloopTermSpec (s : State) : Host.Outcome State Fault Refusal :=
  countEvent .svePloopTermSpec .own occSvePloopTermSpec incUnit s

/-- R540 SVE_PRED_SPEC (0x8074): Operation speculatively executed, SIMD predicated. -/
def execSvePredSpec (s : State) : Host.Outcome State Fault Refusal :=
  countEvent .svePredSpec .own occSvePredSpec incUnit s

/-- R541 SVE_PRED_EMPTY_SPEC (0x8075): Operation speculatively executed, SIMD predicated with no active elements. -/
def execSvePredEmptySpec (s : State) : Host.Outcome State Fault Refusal :=
  countEvent .svePredEmptySpec .own occSvePredEmptySpec incUnit s

/-- R542 SVE_PRED_FULL_SPEC (0x8076): Operation speculatively executed, SIMD predicated with all active elements. -/
def execSvePredFullSpec (s : State) : Host.Outcome State Fault Refusal :=
  countEvent .svePredFullSpec .own occSvePredFullSpec incUnit s

/-- R543 SVE_PRED_PARTIAL_SPEC (0x8077): Operation speculatively executed, SIMD predicated with partially active elements. -/
def execSvePredPartialSpec (s : State) : Host.Outcome State Fault Refusal :=
  countEvent .svePredPartialSpec .own occSvePredPartialSpec incUnit s

/-- R544 SVE_UNPRED_SPEC (0x8078): Operation speculatively executed, SVE unpredicated. -/
def execSveUnpredSpec (s : State) : Host.Outcome State Fault Refusal :=
  countEvent .sveUnpredSpec .own occSveUnpredSpec incUnit s

/-- R545 SVE_PRED_NOT_FULL_SPEC (0x8079): Operation speculatively executed, SVE predicated with at least one inactive element. -/
def execSvePredNotFullSpec (s : State) : Host.Outcome State Fault Refusal :=
  countEvent .svePredNotFullSpec .own occSvePredNotFullSpec incUnit s

/-- R546 SVE_MOVPRFX_SPEC (0x807C): Operation speculatively executed, SVE MOVPRFX. -/
def execSveMovprfxSpec (s : State) : Host.Outcome State Fault Refusal :=
  countEvent .sveMovprfxSpec .own occSveMovprfxSpec incUnit s

/-- R547 SVE_MOVPRFX_Z_SPEC (0x807D): Operation speculatively executed, SVE MOVPRFX zeroing predication. -/
def execSveMovprfxZSpec (s : State) : Host.Outcome State Fault Refusal :=
  countEvent .sveMovprfxZSpec .own occSveMovprfxZSpec incUnit s

/-- R548 SVE_MOVPRFX_M_SPEC (0x807E): Operation speculatively executed, SVE MOVPRFX merging predication. -/
def execSveMovprfxMSpec (s : State) : Host.Outcome State Fault Refusal :=
  countEvent .sveMovprfxMSpec .own occSveMovprfxMSpec incUnit s

/-- R549 SVE_MOVPRFX_U_SPEC (0x807F): Operation speculatively executed, SVE MOVPRFX unfused. -/
def execSveMovprfxUSpec (s : State) : Host.Outcome State Fault Refusal :=
  countEvent .sveMovprfxUSpec .own occSveMovprfxUSpec incUnit s

/-- R550 SVE_LDST_SPEC (0x8080): Operation speculatively executed, SVE load, store, or prefetch. -/
def execSveLdstSpec (s : State) : Host.Outcome State Fault Refusal :=
  countEvent .sveLdstSpec .own occSveLdstSpec incUnit s

/-- R551 SVE_LD_SPEC (0x8081): Operation speculatively executed, SVE load. -/
def execSveLdSpec (s : State) : Host.Outcome State Fault Refusal :=
  countEvent .sveLdSpec .own occSveLdSpec incUnit s

/-- R552 SVE_ST_SPEC (0x8082): Operation speculatively executed, SVE store. -/
def execSveStSpec (s : State) : Host.Outcome State Fault Refusal :=
  countEvent .sveStSpec .own occSveStSpec incUnit s

/-- R553 SVE_PRF_SPEC (0x8083): Operation speculatively executed, SVE prefetch. -/
def execSvePrfSpec (s : State) : Host.Outcome State Fault Refusal :=
  countEvent .svePrfSpec .own occSvePrfSpec incUnit s

/-- R554 ASE_SVE_LDST_SPEC (0x8084): Operation speculatively executed, Advanced SIMD or SVE load or store. -/
def execAseSveLdstSpec (s : State) : Host.Outcome State Fault Refusal :=
  countEvent .aseSveLdstSpec .own occAseSveLdstSpec incUnit s

/-- R555 ASE_SVE_LD_SPEC (0x8085): Operation speculatively executed, Advanced SIMD or SVE load. -/
def execAseSveLdSpec (s : State) : Host.Outcome State Fault Refusal :=
  countEvent .aseSveLdSpec .own occAseSveLdSpec incUnit s

/-- R556 ASE_SVE_ST_SPEC (0x8086): Operation speculatively executed, Advanced SIMD or SVE store. -/
def execAseSveStSpec (s : State) : Host.Outcome State Fault Refusal :=
  countEvent .aseSveStSpec .own occAseSveStSpec incUnit s

/-- R557 PRF_SPEC (0x8087): Operation speculatively executed, prefetch. -/
def execPrfSpec (s : State) : Host.Outcome State Fault Refusal :=
  countEvent .prfSpec .own occPrfSpec incUnit s

/-- R558 BASE_LDST_REG_SPEC (0x8088): Operation speculatively executed, general-purpose register load, store, or prefetch. -/
def execBaseLdstRegSpec (s : State) : Host.Outcome State Fault Refusal :=
  countEvent .baseLdstRegSpec .own occBaseLdstRegSpec incUnit s

/-- R559 BASE_LD_REG_SPEC (0x8089): Operation speculatively executed, general-purpose register load. -/
def execBaseLdRegSpec (s : State) : Host.Outcome State Fault Refusal :=
  countEvent .baseLdRegSpec .own occBaseLdRegSpec incUnit s

/-- R560 BASE_ST_REG_SPEC (0x808A): Operation speculatively executed, general-purpose register store. -/
def execBaseStRegSpec (s : State) : Host.Outcome State Fault Refusal :=
  countEvent .baseStRegSpec .own occBaseStRegSpec incUnit s

/-- R561 BASE_PRF_SPEC (0x808B): Operation speculatively executed, general-purpose register prefetch. -/
def execBasePrfSpec (s : State) : Host.Outcome State Fault Refusal :=
  countEvent .basePrfSpec .own occBasePrfSpec incUnit s

/-- R562 FPASE_LDST_REG_SPEC (0x808C): Operation speculatively executed, SIMD&FP register load or store. -/
def execFpaseLdstRegSpec (s : State) : Host.Outcome State Fault Refusal :=
  countEvent .fpaseLdstRegSpec .own occFpaseLdstRegSpec incUnit s

/-- R563 FPASE_LD_REG_SPEC (0x808D): Operation speculatively executed, SIMD&FP register load. -/
def execFpaseLdRegSpec (s : State) : Host.Outcome State Fault Refusal :=
  countEvent .fpaseLdRegSpec .own occFpaseLdRegSpec incUnit s

/-- R564 FPASE_ST_REG_SPEC (0x808E): Operation speculatively executed, SIMD&FP register store. -/
def execFpaseStRegSpec (s : State) : Host.Outcome State Fault Refusal :=
  countEvent .fpaseStRegSpec .own occFpaseStRegSpec incUnit s

/-- R565 SVE_LDST_REG_SPEC (0x8090): Operation speculatively executed, SVE unpredicated load or store register. -/
def execSveLdstRegSpec (s : State) : Host.Outcome State Fault Refusal :=
  countEvent .sveLdstRegSpec .own occSveLdstRegSpec incUnit s

/-- R566 SVE_LDR_REG_SPEC (0x8091): Operation speculatively executed, SVE unpredicated load register. -/
def execSveLdrRegSpec (s : State) : Host.Outcome State Fault Refusal :=
  countEvent .sveLdrRegSpec .own occSveLdrRegSpec incUnit s

/-- R567 SVE_STR_REG_SPEC (0x8092): Operation speculatively executed, SVE unpredicated store register. -/
def execSveStrRegSpec (s : State) : Host.Outcome State Fault Refusal :=
  countEvent .sveStrRegSpec .own occSveStrRegSpec incUnit s

/-- R568 SVE_LDST_PREG_SPEC (0x8094): Operation speculatively executed, SVE load or store predicate register. -/
def execSveLdstPregSpec (s : State) : Host.Outcome State Fault Refusal :=
  countEvent .sveLdstPregSpec .own occSveLdstPregSpec incUnit s

/-- R569 SVE_LDR_PREG_SPEC (0x8095): Operation speculatively executed, SVE load predicate register. -/
def execSveLdrPregSpec (s : State) : Host.Outcome State Fault Refusal :=
  countEvent .sveLdrPregSpec .own occSveLdrPregSpec incUnit s

/-- R570 SVE_STR_PREG_SPEC (0x8096): Operation speculatively executed, SVE store predicate register. -/
def execSveStrPregSpec (s : State) : Host.Outcome State Fault Refusal :=
  countEvent .sveStrPregSpec .own occSveStrPregSpec incUnit s

/-- R571 SVE_LDST_ZREG_SPEC (0x8098): Operation speculatively executed, SVE load or store vector register. -/
def execSveLdstZregSpec (s : State) : Host.Outcome State Fault Refusal :=
  countEvent .sveLdstZregSpec .own occSveLdstZregSpec incUnit s

/-- R572 SVE_LDR_ZREG_SPEC (0x8099): Operation speculatively executed, SVE load vector register. -/
def execSveLdrZregSpec (s : State) : Host.Outcome State Fault Refusal :=
  countEvent .sveLdrZregSpec .own occSveLdrZregSpec incUnit s

/-- R573 SVE_STR_ZREG_SPEC (0x809A): Operation speculatively executed, SVE store vector register. -/
def execSveStrZregSpec (s : State) : Host.Outcome State Fault Refusal :=
  countEvent .sveStrZregSpec .own occSveStrZregSpec incUnit s

/-- R574 SVE_LDST_CONTIG_SPEC (0x809C): Operation speculatively executed, SVE contiguous load, store, or prefetch element. -/
def execSveLdstContigSpec (s : State) : Host.Outcome State Fault Refusal :=
  countEvent .sveLdstContigSpec .own occSveLdstContigSpec incUnit s

/-- R575 SVE_LD_CONTIG_SPEC (0x809D): Operation speculatively executed, SVE single vector contiguous load element. -/
def execSveLdContigSpec (s : State) : Host.Outcome State Fault Refusal :=
  countEvent .sveLdContigSpec .own occSveLdContigSpec incUnit s

/-- R576 SVE_ST_CONTIG_SPEC (0x809E): Operation speculatively executed, SVE contiguous store element. -/
def execSveStContigSpec (s : State) : Host.Outcome State Fault Refusal :=
  countEvent .sveStContigSpec .own occSveStContigSpec incUnit s

/-- R577 SVE_PRF_CONTIG_SPEC (0x809F): Operation speculatively executed, SVE contiguous prefetch element. -/
def execSvePrfContigSpec (s : State) : Host.Outcome State Fault Refusal :=
  countEvent .svePrfContigSpec .own occSvePrfContigSpec incUnit s

/-- R578 SVE_LDSTNT_CONTIG_SPEC (0x80A0): Operation speculatively executed, SVE non-temporal contiguous load or store element. -/
def execSveLdstntContigSpec (s : State) : Host.Outcome State Fault Refusal :=
  countEvent .sveLdstntContigSpec .own occSveLdstntContigSpec incUnit s

/-- R579 SVE_LDNT_CONTIG_SPEC (0x80A1): Operation speculatively executed, SVE non-temporal contiguous load element. -/
def execSveLdntContigSpec (s : State) : Host.Outcome State Fault Refusal :=
  countEvent .sveLdntContigSpec .own occSveLdntContigSpec incUnit s

/-- R580 SVE_STNT_CONTIG_SPEC (0x80A2): Operation speculatively executed, SVE non-temporal contiguous store element. -/
def execSveStntContigSpec (s : State) : Host.Outcome State Fault Refusal :=
  countEvent .sveStntContigSpec .own occSveStntContigSpec incUnit s

/-- R581 ASE_SVE_LDST_MULTI_SPEC (0x80A4): Operation speculatively executed, Advanced SIMD or SVE contiguous load or store multiple vector. -/
def execAseSveLdstMultiSpec (s : State) : Host.Outcome State Fault Refusal :=
  countEvent .aseSveLdstMultiSpec .own occAseSveLdstMultiSpec incUnit s

/-- R582 ASE_SVE_LD_MULTI_SPEC (0x80A5): Operation speculatively executed, Advanced SIMD or SVE contiguous load multiple vector. -/
def execAseSveLdMultiSpec (s : State) : Host.Outcome State Fault Refusal :=
  countEvent .aseSveLdMultiSpec .own occAseSveLdMultiSpec incUnit s

/-- R583 ASE_SVE_ST_MULTI_SPEC (0x80A6): Operation speculatively executed, Advanced SIMD or SVE contiguous store multiple vector. -/
def execAseSveStMultiSpec (s : State) : Host.Outcome State Fault Refusal :=
  countEvent .aseSveStMultiSpec .own occAseSveStMultiSpec incUnit s

/-- R584 SVE_LDST_MULTI_SPEC (0x80A8): Operation speculatively executed, SVE contiguous load or store multiple vector. -/
def execSveLdstMultiSpec (s : State) : Host.Outcome State Fault Refusal :=
  countEvent .sveLdstMultiSpec .own occSveLdstMultiSpec incUnit s

/-- R585 SVE_LD_MULTI_SPEC (0x80A9): Operation speculatively executed, SVE contiguous load multiple vector. -/
def execSveLdMultiSpec (s : State) : Host.Outcome State Fault Refusal :=
  countEvent .sveLdMultiSpec .own occSveLdMultiSpec incUnit s

/-- R586 SVE_ST_MULTI_SPEC (0x80AA): Operation speculatively executed, SVE contiguous store multiple vector. -/
def execSveStMultiSpec (s : State) : Host.Outcome State Fault Refusal :=
  countEvent .sveStMultiSpec .own occSveStMultiSpec incUnit s

/-- R587 SVE_LDST_NONCONTIG_SPEC (0x80AC): Operation speculatively executed, SVE non-contiguous load, store, or prefetch. -/
def execSveLdstNoncontigSpec (s : State) : Host.Outcome State Fault Refusal :=
  countEvent .sveLdstNoncontigSpec .own occSveLdstNoncontigSpec incUnit s

/-- R588 SVE_LD_GATHER_SPEC (0x80AD): Operation speculatively executed, SVE gather-load. -/
def execSveLdGatherSpec (s : State) : Host.Outcome State Fault Refusal :=
  countEvent .sveLdGatherSpec .own occSveLdGatherSpec incUnit s

/-- R589 SVE_ST_SCATTER_SPEC (0x80AE): Operation speculatively executed, SVE scatter-store. -/
def execSveStScatterSpec (s : State) : Host.Outcome State Fault Refusal :=
  countEvent .sveStScatterSpec .own occSveStScatterSpec incUnit s

/-- R590 SVE_PRF_GATHER_SPEC (0x80AF): Operation speculatively executed, SVE gather-prefetch. -/
def execSvePrfGatherSpec (s : State) : Host.Outcome State Fault Refusal :=
  countEvent .svePrfGatherSpec .own occSvePrfGatherSpec incUnit s

/-- R591 SVE_LDST64_NONCONTIG_SPEC (0x80B0): Operation speculatively executed, SVE 64-bit non-contiguous load, store, or prefetch. -/
def execSveLdst64NoncontigSpec (s : State) : Host.Outcome State Fault Refusal :=
  countEvent .sveLdst64NoncontigSpec .own occSveLdst64NoncontigSpec incUnit s

/-- R592 SVE_LD64_GATHER_SPEC (0x80B1): Operation speculatively executed, SVE 64-bit gather-load. -/
def execSveLd64GatherSpec (s : State) : Host.Outcome State Fault Refusal :=
  countEvent .sveLd64GatherSpec .own occSveLd64GatherSpec incUnit s

/-- R593 SVE_ST64_SCATTER_SPEC (0x80B2): Operation speculatively executed, SVE 64-bit scatter-store. -/
def execSveSt64ScatterSpec (s : State) : Host.Outcome State Fault Refusal :=
  countEvent .sveSt64ScatterSpec .own occSveSt64ScatterSpec incUnit s

/-- R594 SVE_PRF64_GATHER_SPEC (0x80B3): Operation speculatively executed, SVE 64-bit gather-prefetch. -/
def execSvePrf64GatherSpec (s : State) : Host.Outcome State Fault Refusal :=
  countEvent .svePrf64GatherSpec .own occSvePrf64GatherSpec incUnit s

/-- R595 ASE_SVE_UNALIGNED_LDST_SPEC (0x80B4): Advanced SIMD or SVE unaligned access. -/
def execAseSveUnalignedLdstSpec (s : State) : Host.Outcome State Fault Refusal :=
  countEvent .aseSveUnalignedLdstSpec .own occAseSveUnalignedLdstSpec incUnit s

/-- R596 ASE_SVE_UNALIGNED_LD_SPEC (0x80B5): Advanced SIMD or SVE unaligned read. -/
def execAseSveUnalignedLdSpec (s : State) : Host.Outcome State Fault Refusal :=
  countEvent .aseSveUnalignedLdSpec .own occAseSveUnalignedLdSpec incUnit s

/-- R597 ASE_SVE_UNALIGNED_ST_SPEC (0x80B6): Advanced SIMD or SVE unaligned write. -/
def execAseSveUnalignedStSpec (s : State) : Host.Outcome State Fault Refusal :=
  countEvent .aseSveUnalignedStSpec .own occAseSveUnalignedStSpec incUnit s

/-- R598 ASE_SVE_UNALIGNED_CONTIG_LDST_SPEC (0x80B8): Advanced SIMD or SVE unaligned contiguous access. -/
def execAseSveUnalignedContigLdstSpec (s : State) : Host.Outcome State Fault Refusal :=
  countEvent .aseSveUnalignedContigLdstSpec .own occAseSveUnalignedContigLdstSpec incUnit s

/-- R599 ASE_SVE_UNALIGNED_CONTIG_LD_SPEC (0x80B9): Advanced SIMD or SVE unaligned contiguous read. -/
def execAseSveUnalignedContigLdSpec (s : State) : Host.Outcome State Fault Refusal :=
  countEvent .aseSveUnalignedContigLdSpec .own occAseSveUnalignedContigLdSpec incUnit s

/-- R600 ASE_SVE_UNALIGNED_CONTIG_ST_SPEC (0x80BA): Advanced SIMD or SVE unaligned contiguous write. -/
def execAseSveUnalignedContigStSpec (s : State) : Host.Outcome State Fault Refusal :=
  countEvent .aseSveUnalignedContigStSpec .own occAseSveUnalignedContigStSpec incUnit s

/-- R601 SVE_LDFF_SPEC (0x80BC): Operation speculatively executed, SVE first-fault load. -/
def execSveLdffSpec (s : State) : Host.Outcome State Fault Refusal :=
  countEvent .sveLdffSpec .own occSveLdffSpec incUnit s

/-- R602 SVE_LDFF_FAULT_SPEC (0x80BD): Operation speculatively executed, SVE first-fault load which set FFR bit to 0. -/
def execSveLdffFaultSpec (s : State) : Host.Outcome State Fault Refusal :=
  countEvent .sveLdffFaultSpec .own occSveLdffFaultSpec incUnit s

/-- R603 FP_SCALE_OPS_SPEC (0x80C0): Scalable element arithmetic operations speculatively executed, floating-point. -/
def execFpScaleOpsSpec (s : State) : Host.Outcome State Fault Refusal :=
  countEvent .fpScaleOpsSpec .own occFpScaleOpsSpec (incScale .fpScaleOpsSpec) s

/-- R604 FP_FIXED_OPS_SPEC (0x80C1): Non-scalable element arithmetic operations speculatively executed, floating-point. -/
def execFpFixedOpsSpec (s : State) : Host.Outcome State Fault Refusal :=
  countEvent .fpFixedOpsSpec .own occFpFixedOpsSpec incFixed s

/-- R605 FP_HP_SCALE_OPS_SPEC (0x80C2): Scalable element arithmetic operations speculatively executed, largest type is half-precision floating-point. -/
def execFpHpScaleOpsSpec (s : State) : Host.Outcome State Fault Refusal :=
  countEvent .fpHpScaleOpsSpec .own occFpHpScaleOpsSpec (incScale .fpHpScaleOpsSpec) s

/-- R606 FP_HP_FIXED_OPS_SPEC (0x80C3): Non-scalable element arithmetic operations speculatively executed, largest type is half-precision floating-point. -/
def execFpHpFixedOpsSpec (s : State) : Host.Outcome State Fault Refusal :=
  countEvent .fpHpFixedOpsSpec .own occFpHpFixedOpsSpec incFixed s

/-- R607 FP_SP_SCALE_OPS_SPEC (0x80C4): Scalable element arithmetic operations speculatively executed, largest type is single-precision floating-point. -/
def execFpSpScaleOpsSpec (s : State) : Host.Outcome State Fault Refusal :=
  countEvent .fpSpScaleOpsSpec .own occFpSpScaleOpsSpec (incScale .fpSpScaleOpsSpec) s

/-- R608 FP_SP_FIXED_OPS_SPEC (0x80C5): Non-scalable element arithmetic operations speculatively executed, largest type is single-precision floating-point. -/
def execFpSpFixedOpsSpec (s : State) : Host.Outcome State Fault Refusal :=
  countEvent .fpSpFixedOpsSpec .own occFpSpFixedOpsSpec incFixed s

/-- R609 FP_DP_SCALE_OPS_SPEC (0x80C6): Scalable element arithmetic operations speculatively executed, largest type is double-precision floating-point. -/
def execFpDpScaleOpsSpec (s : State) : Host.Outcome State Fault Refusal :=
  countEvent .fpDpScaleOpsSpec .own occFpDpScaleOpsSpec (incScale .fpDpScaleOpsSpec) s

/-- R610 FP_DP_FIXED_OPS_SPEC (0x80C7): Non-scalable element arithmetic operations speculatively executed, largest type is double-precision floating-point. -/
def execFpDpFixedOpsSpec (s : State) : Host.Outcome State Fault Refusal :=
  countEvent .fpDpFixedOpsSpec .own occFpDpFixedOpsSpec incFixed s

/-- R611 INT_SCALE_OPS_SPEC (0x80C8): Scalable element arithmetic operations speculatively executed, integer. -/
def execIntScaleOpsSpec (s : State) : Host.Outcome State Fault Refusal :=
  countEvent .intScaleOpsSpec .own occIntScaleOpsSpec (incScale .intScaleOpsSpec) s

/-- R612 INT_FIXED_OPS_SPEC (0x80C9): Non-scalable element arithmetic operations speculatively executed, integer. -/
def execIntFixedOpsSpec (s : State) : Host.Outcome State Fault Refusal :=
  countEvent .intFixedOpsSpec .own occIntFixedOpsSpec incFixed s

/-- R613 LDST_SCALE_OPS_SPEC (0x80CA): Scalable load or store element operations speculatively executed. -/
def execLdstScaleOpsSpec (s : State) : Host.Outcome State Fault Refusal :=
  countEvent .ldstScaleOpsSpec .own occLdstScaleOpsSpec incScaleOps s

/-- R614 LDST_FIXED_OPS_SPEC (0x80CB): Non-scalable load or store element operations speculatively executed. -/
def execLdstFixedOpsSpec (s : State) : Host.Outcome State Fault Refusal :=
  countEvent .ldstFixedOpsSpec .own occLdstFixedOpsSpec incFixedOps s

/-- R615 LD_SCALE_OPS_SPEC (0x80CC): Scalable load element operations speculatively executed. -/
def execLdScaleOpsSpec (s : State) : Host.Outcome State Fault Refusal :=
  countEvent .ldScaleOpsSpec .own occLdScaleOpsSpec incScaleOps s

/-- R616 LD_FIXED_OPS_SPEC (0x80CD): Non-scalable load element operations speculatively executed. -/
def execLdFixedOpsSpec (s : State) : Host.Outcome State Fault Refusal :=
  countEvent .ldFixedOpsSpec .own occLdFixedOpsSpec incFixedOpsHalf s

/-- R617 ST_SCALE_OPS_SPEC (0x80CE): Scalable store element operations speculatively executed. -/
def execStScaleOpsSpec (s : State) : Host.Outcome State Fault Refusal :=
  countEvent .stScaleOpsSpec .own occStScaleOpsSpec incScaleOps s

/-- R618 ST_FIXED_OPS_SPEC (0x80CF): Non-scalable store element operations speculatively executed. -/
def execStFixedOpsSpec (s : State) : Host.Outcome State Fault Refusal :=
  countEvent .stFixedOpsSpec .own occStFixedOpsSpec incFixedOpsHalf s

/-- R619 FP_SCALE2_OPS_SPEC (0x80D0): Scalable tile arithmetic operations speculatively executed, floating-point. -/
def execFpScale2OpsSpec (s : State) : Host.Outcome State Fault Refusal :=
  countEvent .fpScale2OpsSpec .own occFpScale2OpsSpec (incScale2 .fpScale2OpsSpec) s

/-- R620 FP_HP_SCALE2_OPS_SPEC (0x80D2): Scalable tile arithmetic operations speculatively executed, largest type is half-precision floating-point. -/
def execFpHpScale2OpsSpec (s : State) : Host.Outcome State Fault Refusal :=
  countEvent .fpHpScale2OpsSpec .own occFpHpScale2OpsSpec (incScale2 .fpHpScale2OpsSpec) s

/-- R621 FP_BF16_SCALE2_OPS_SPEC (0x80D3): Scalable tile arithmetic operations speculatively executed, largest type is BFloat16 floating-point. -/
def execFpBf16Scale2OpsSpec (s : State) : Host.Outcome State Fault Refusal :=
  countEvent .fpBf16Scale2OpsSpec .own occFpBf16Scale2OpsSpec (incScale2 .fpBf16Scale2OpsSpec) s

/-- R622 FP_SP_SCALE2_OPS_SPEC (0x80D4): Scalable tile arithmetic operations speculatively executed, largest type is single-precision floating-point. -/
def execFpSpScale2OpsSpec (s : State) : Host.Outcome State Fault Refusal :=
  countEvent .fpSpScale2OpsSpec .own occFpSpScale2OpsSpec (incScale2 .fpSpScale2OpsSpec) s

/-- R623 FP_DP_SCALE2_OPS_SPEC (0x80D6): Scalable tile arithmetic operations speculatively executed, largest type is double-precision floating-point. -/
def execFpDpScale2OpsSpec (s : State) : Host.Outcome State Fault Refusal :=
  countEvent .fpDpScale2OpsSpec .own occFpDpScale2OpsSpec (incScale2 .fpDpScale2OpsSpec) s

/-- R624 INT_SCALE2_OPS_SPEC (0x80D8): Scalable tile arithmetic operations speculatively executed, integer. -/
def execIntScale2OpsSpec (s : State) : Host.Outcome State Fault Refusal :=
  countEvent .intScale2OpsSpec .own occIntScale2OpsSpec (incScale2 .intScale2OpsSpec) s

/-- R625 LDST_SCALE_BYTES_SPEC (0x80DA): Scalable load and store bytes speculatively executed. -/
def execLdstScaleBytesSpec (s : State) : Host.Outcome State Fault Refusal :=
  countEvent .ldstScaleBytesSpec .own occLdstScaleBytesSpec (incScaleBytes .ldstScaleBytesSpec) s

/-- R626 LDST_FIXED_BYTES_SPEC (0x80DB): Non-scalable load and store bytes speculatively executed. -/
def execLdstFixedBytesSpec (s : State) : Host.Outcome State Fault Refusal :=
  countEvent .ldstFixedBytesSpec .own occLdstFixedBytesSpec incFixedBytes s

/-- R627 LD_SCALE_BYTES_SPEC (0x80DC): Scalable load bytes speculatively executed. -/
def execLdScaleBytesSpec (s : State) : Host.Outcome State Fault Refusal :=
  countEvent .ldScaleBytesSpec .own occLdScaleBytesSpec (incScaleBytes .ldScaleBytesSpec) s

/-- R628 LD_FIXED_BYTES_SPEC (0x80DD): Non-scalable load bytes speculatively executed. -/
def execLdFixedBytesSpec (s : State) : Host.Outcome State Fault Refusal :=
  countEvent .ldFixedBytesSpec .own occLdFixedBytesSpec incFixedBytesHalf s

/-- R629 ST_SCALE_BYTES_SPEC (0x80DE): Scalable store bytes speculatively executed. -/
def execStScaleBytesSpec (s : State) : Host.Outcome State Fault Refusal :=
  countEvent .stScaleBytesSpec .own occStScaleBytesSpec (incScaleBytes .stScaleBytesSpec) s

/-- R630 ST_FIXED_BYTES_SPEC (0x80DF): Non-scalable store bytes speculatively executed. -/
def execStFixedBytesSpec (s : State) : Host.Outcome State Fault Refusal :=
  countEvent .stFixedBytesSpec .own occStFixedBytesSpec incFixedBytesHalf s

/-- R631 ASE_INT8_SPEC (0x80E1): Integer operation speculatively executed, Advanced SIMD 8-bit. -/
def execAseInt8Spec (s : State) : Host.Outcome State Fault Refusal :=
  countEvent .aseInt8Spec .own occAseInt8Spec incUnit s

/-- R632 SVE_INT8_SPEC (0x80E2): Integer operation speculatively executed, SVE 8-bit. -/
def execSveInt8Spec (s : State) : Host.Outcome State Fault Refusal :=
  countEvent .sveInt8Spec .own occSveInt8Spec incUnit s

/-- R633 ASE_SVE_INT8_SPEC (0x80E3): Integer operation speculatively executed, Advanced SIMD or SVE 8-bit. -/
def execAseSveInt8Spec (s : State) : Host.Outcome State Fault Refusal :=
  countEvent .aseSveInt8Spec .own occAseSveInt8Spec incUnit s

/-- R634 ASE_INT16_SPEC (0x80E5): Integer operation speculatively executed, Advanced SIMD 16-bit. -/
def execAseInt16Spec (s : State) : Host.Outcome State Fault Refusal :=
  countEvent .aseInt16Spec .own occAseInt16Spec incUnit s

/-- R635 SVE_INT16_SPEC (0x80E6): Integer operation speculatively executed, SVE 16-bit. -/
def execSveInt16Spec (s : State) : Host.Outcome State Fault Refusal :=
  countEvent .sveInt16Spec .own occSveInt16Spec incUnit s

/-- R636 ASE_SVE_INT16_SPEC (0x80E7): Integer operation speculatively executed, Advanced SIMD or SVE 16-bit. -/
def execAseSveInt16Spec (s : State) : Host.Outcome State Fault Refusal :=
  countEvent .aseSveInt16Spec .own occAseSveInt16Spec incUnit s

/-- R637 FP_BF16_SCALE_OPS_SPEC (0x80E8): Scalable element arithmetic operations speculatively executed, largest type is BFloat16 floating-point. -/
def execFpBf16ScaleOpsSpec (s : State) : Host.Outcome State Fault Refusal :=
  countEvent .fpBf16ScaleOpsSpec .own occFpBf16ScaleOpsSpec (incScale .fpBf16ScaleOpsSpec) s

/-- R638 ASE_INT32_SPEC (0x80E9): Integer operation speculatively executed, Advanced SIMD 32-bit. -/
def execAseInt32Spec (s : State) : Host.Outcome State Fault Refusal :=
  countEvent .aseInt32Spec .own occAseInt32Spec incUnit s

/-- R639 SVE_INT32_SPEC (0x80EA): Integer operation speculatively executed, SVE 32-bit. -/
def execSveInt32Spec (s : State) : Host.Outcome State Fault Refusal :=
  countEvent .sveInt32Spec .own occSveInt32Spec incUnit s

/-- R640 ASE_SVE_INT32_SPEC (0x80EB): Integer operation speculatively executed, Advanced SIMD or SVE 32-bit. -/
def execAseSveInt32Spec (s : State) : Host.Outcome State Fault Refusal :=
  countEvent .aseSveInt32Spec .own occAseSveInt32Spec incUnit s

/-- R641 ASE_INT64_SPEC (0x80ED): Integer operation speculatively executed, Advanced SIMD 64-bit. -/
def execAseInt64Spec (s : State) : Host.Outcome State Fault Refusal :=
  countEvent .aseInt64Spec .own occAseInt64Spec incUnit s

/-- R642 SVE_INT64_SPEC (0x80EE): Integer operation speculatively executed, SVE 64-bit. -/
def execSveInt64Spec (s : State) : Host.Outcome State Fault Refusal :=
  countEvent .sveInt64Spec .own occSveInt64Spec incUnit s

/-- R643 ASE_SVE_INT64_SPEC (0x80EF): Integer operation speculatively executed, Advanced SIMD or SVE 64-bit. -/
def execAseSveInt64Spec (s : State) : Host.Outcome State Fault Refusal :=
  countEvent .aseSveInt64Spec .own occAseSveInt64Spec incUnit s

/-- R644 ASE_FP_DOT_SPEC (0x80F1): Floating-point operation speculatively executed, Advanced SIMD dot-product. -/
def execAseFpDotSpec (s : State) : Host.Outcome State Fault Refusal :=
  countEvent .aseFpDotSpec .own occAseFpDotSpec incUnit s

/-- R645 SVE_FP_DOT_SPEC (0x80F2): Floating-point operation speculatively executed, SVE dot-product. -/
def execSveFpDotSpec (s : State) : Host.Outcome State Fault Refusal :=
  countEvent .sveFpDotSpec .own occSveFpDotSpec incUnit s

/-- R646 ASE_SVE_FP_DOT_SPEC (0x80F3): Floating-point operation speculatively executed, Advanced SIMD or SVE dot-product. -/
def execAseSveFpDotSpec (s : State) : Host.Outcome State Fault Refusal :=
  countEvent .aseSveFpDotSpec .own occAseSveFpDotSpec incUnit s

/-- R647 ASE_FP_MMLA_SPEC (0x80F5): Floating-point operation speculatively executed, Advanced SIMD matrix multiply. -/
def execAseFpMmlaSpec (s : State) : Host.Outcome State Fault Refusal :=
  countEvent .aseFpMmlaSpec .own occAseFpMmlaSpec incUnit s

/-- R648 SVE_FP_MMLA_SPEC (0x80F6): Floating-point operation speculatively executed, SVE matrix multiply. -/
def execSveFpMmlaSpec (s : State) : Host.Outcome State Fault Refusal :=
  countEvent .sveFpMmlaSpec .own occSveFpMmlaSpec incUnit s

/-- R649 ASE_SVE_FP_MMLA_SPEC (0x80F7): Floating-point operation speculatively executed, Advanced SIMD or SVE matrix multiply. -/
def execAseSveFpMmlaSpec (s : State) : Host.Outcome State Fault Refusal :=
  countEvent .aseSveFpMmlaSpec .own occAseSveFpMmlaSpec incUnit s

/-- R650 ASE_INT_DOT_SPEC (0x80F9): Operation speculatively executed, Advanced SIMD integer dot-product. -/
def execAseIntDotSpec (s : State) : Host.Outcome State Fault Refusal :=
  countEvent .aseIntDotSpec .own occAseIntDotSpec incUnit s

/-- R651 SVE_INT_DOT_SPEC (0x80FA): Integer operation speculatively executed, SVE dot-product. -/
def execSveIntDotSpec (s : State) : Host.Outcome State Fault Refusal :=
  countEvent .sveIntDotSpec .own occSveIntDotSpec incUnit s

/-- R652 ASE_SVE_INT_DOT_SPEC (0x80FB): Integer operation speculatively executed, Advanced SIMD or SVE dot-product. -/
def execAseSveIntDotSpec (s : State) : Host.Outcome State Fault Refusal :=
  countEvent .aseSveIntDotSpec .own occAseSveIntDotSpec incUnit s

/-- R653 ASE_INT_MMLA_SPEC (0x80FD): Integer operation speculatively executed, Advanced SIMD matrix multiply. -/
def execAseIntMmlaSpec (s : State) : Host.Outcome State Fault Refusal :=
  countEvent .aseIntMmlaSpec .own occAseIntMmlaSpec incUnit s

/-- R654 SVE_INT_MMLA_SPEC (0x80FE): Integer operation speculatively executed, SVE matrix multiply. -/
def execSveIntMmlaSpec (s : State) : Host.Outcome State Fault Refusal :=
  countEvent .sveIntMmlaSpec .own occSveIntMmlaSpec incUnit s

/-- R655 ASE_SVE_INT_MMLA_SPEC (0x80FF): Integer operation speculatively executed, Advanced SIMD or SVE matrix multiply. -/
def execAseSveIntMmlaSpec (s : State) : Host.Outcome State Fault Refusal :=
  countEvent .aseSveIntMmlaSpec .own occAseSveIntMmlaSpec incUnit s

end Sys2Proof.Machine
end

