-- ==== Sys2Proof/Machine/Uarch8110.lean ====
section
/-!
DEFINITION. The meanings of the 156 events of spec/46_uarch_8110_81BF: each is `Count(E, k)` (40_common_event_rules.md R121)
with the event's own occurrences, attribution and increment.
-/

namespace Sys2Proof.Machine

/-- R656 BR_IMMED_PRED_RETIRED (0x8110): Branch instruction architecturally executed, predicted immediate. -/
def execBrImmedPredRetired (s : State) : Host.Outcome State Fault Refusal :=
  countEvent .brImmedPredRetired .own occBrImmedPredRetired incUnit s

/-- R657 BR_IMMED_MIS_PRED_RETIRED (0x8111): Branch instruction architecturally executed, mispredicted immediate. -/
def execBrImmedMisPredRetired (s : State) : Host.Outcome State Fault Refusal :=
  countEvent .brImmedMisPredRetired .own occBrImmedMisPredRetired incUnit s

/-- R658 BR_IND_PRED_RETIRED (0x8112): Branch instruction architecturally executed, predicted indirect. -/
def execBrIndPredRetired (s : State) : Host.Outcome State Fault Refusal :=
  countEvent .brIndPredRetired .own occBrIndPredRetired incUnit s

/-- R659 BR_IND_MIS_PRED_RETIRED (0x8113): Branch instruction architecturally executed, mispredicted indirect. -/
def execBrIndMisPredRetired (s : State) : Host.Outcome State Fault Refusal :=
  countEvent .brIndMisPredRetired .own occBrIndMisPredRetired incUnit s

/-- R660 BR_RETURN_PRED_RETIRED (0x8114): Branch instruction architecturally executed, predicted procedure return. -/
def execBrReturnPredRetired (s : State) : Host.Outcome State Fault Refusal :=
  countEvent .brReturnPredRetired .own occBrReturnPredRetired incUnit s

/-- R661 BR_RETURN_MIS_PRED_RETIRED (0x8115): Branch instruction architecturally executed, mispredicted procedure return. -/
def execBrReturnMisPredRetired (s : State) : Host.Outcome State Fault Refusal :=
  countEvent .brReturnMisPredRetired .own occBrReturnMisPredRetired incUnit s

/-- R662 BR_INDNR_PRED_RETIRED (0x8116): Branch instruction architecturally executed, predicted indirect excluding procedure return. -/
def execBrIndnrPredRetired (s : State) : Host.Outcome State Fault Refusal :=
  countEvent .brIndnrPredRetired .own occBrIndnrPredRetired incUnit s

/-- R663 BR_INDNR_MIS_PRED_RETIRED (0x8117): Branch instruction architecturally executed, mispredicted indirect excluding procedure return. -/
def execBrIndnrMisPredRetired (s : State) : Host.Outcome State Fault Refusal :=
  countEvent .brIndnrMisPredRetired .own occBrIndnrMisPredRetired incUnit s

/-- R664 BR_TAKEN_PRED_RETIRED (0x8118): Branch instruction architecturally executed, predicted branch, taken. -/
def execBrTakenPredRetired (s : State) : Host.Outcome State Fault Refusal :=
  countEvent .brTakenPredRetired .own occBrTakenPredRetired incUnit s

/-- R665 BR_TAKEN_MIS_PRED_RETIRED (0x8119): Branch instruction architecturally executed, mispredicted branch, taken. -/
def execBrTakenMisPredRetired (s : State) : Host.Outcome State Fault Refusal :=
  countEvent .brTakenMisPredRetired .own occBrTakenMisPredRetired incUnit s

/-- R666 BR_SKIP_PRED_RETIRED (0x811A): Branch instruction architecturally executed, predicted branch, not taken. -/
def execBrSkipPredRetired (s : State) : Host.Outcome State Fault Refusal :=
  countEvent .brSkipPredRetired .own occBrSkipPredRetired incUnit s

/-- R667 BR_SKIP_MIS_PRED_RETIRED (0x811B): Branch instruction architecturally executed, mispredicted branch, not taken. -/
def execBrSkipMisPredRetired (s : State) : Host.Outcome State Fault Refusal :=
  countEvent .brSkipMisPredRetired .own occBrSkipMisPredRetired incUnit s

/-- R668 BR_PRED_RETIRED (0x811C): Branch instruction architecturally executed, predicted branch. -/
def execBrPredRetired (s : State) : Host.Outcome State Fault Refusal :=
  countEvent .brPredRetired .own occBrPredRetired incUnit s

/-- R669 INST_FETCH_PERCYC (0x8120): Instruction fetches in progress. -/
def execInstFetchPercyc (s : State) : Host.Outcome State Fault Refusal :=
  countEvent .instFetchPercyc .cycle occInstFetchPercyc (incInProgress .instFetch .instFetch .own) s

/-- R670 MEM_ACCESS_RD_PERCYC (0x8121): Data memory reads in progress. -/
def execMemAccessRdPercyc (s : State) : Host.Outcome State Fault Refusal :=
  countEvent .memAccessRdPercyc .cycle occMemAccessRdPercyc (incInProgress .memAccessRd .memAccessRd .own) s

/-- R671 SAMPLE_FEED_DS (0x8122): Statistical Profiling sample taken, selected Data Source. -/
def execSampleFeedDs (s : State) : Host.Outcome State Fault Refusal :=
  countEvent .sampleFeedDs .own occSampleFeedDs incUnit s

/-- R672 SAMPLE_BUFFER_FULL (0x8123): Profiling Buffer full. -/
def execSampleBufferFull (s : State) : Host.Outcome State Fault Refusal :=
  countEvent .sampleBufferFull .own occSampleBufferFull incUnit s

/-- R673 INST_FETCH (0x8124): Instruction memory access. -/
def execInstFetch (s : State) : Host.Outcome State Fault Refusal :=
  countEvent .instFetch .own occInstFetch incUnit s

/-- R674 BUS_REQ_RD_PERCYC (0x8125): Bus read transactions in progress. -/
def execBusReqRdPercyc (s : State) : Host.Outcome State Fault Refusal :=
  countEvent .busReqRdPercyc .cycle occBusReqRdPercyc (incInProgress .busReqRd .busReqRdPercyc (.shared .bus)) s

/-- R675 BUS_REQ_WR_PERCYC (0x8126): Bus write transactions in progress. -/
def execBusReqWrPercyc (s : State) : Host.Outcome State Fault Refusal :=
  countEvent .busReqWrPercyc .cycle occBusReqWrPercyc (incInProgress .busReqWr .busReqWrPercyc (.shared .bus)) s

/-- R676 PMU_SNAPSHOT (0x8127): Successful PMU capture event. -/
def execPmuSnapshot (s : State) : Host.Outcome State Fault Refusal :=
  countEvent .pmuSnapshot .own occPmuSnapshot incUnit s

/-- R677 DTLB_WALK_PERCYC (0x8128): Data translation table walks in progress. -/
def execDtlbWalkPercyc (s : State) : Host.Outcome State Fault Refusal :=
  countEvent .dtlbWalkPercyc .cycle occDtlbWalkPercyc (incInProgress .dtlbWalk .dtlbWalkPercyc (.shared .dtlb)) s

/-- R678 ITLB_WALK_PERCYC (0x8129): Instruction translation table walks in progress. -/
def execItlbWalkPercyc (s : State) : Host.Outcome State Fault Refusal :=
  countEvent .itlbWalkPercyc .cycle occItlbWalkPercyc (incInProgress .itlbWalk .itlbWalkPercyc (.shared .itlb)) s

/-- R679 SAMPLE_FEED_BR (0x812A): Statistical Profiling sample taken, branch. -/
def execSampleFeedBr (s : State) : Host.Outcome State Fault Refusal :=
  countEvent .sampleFeedBr .own occSampleFeedBr incUnit s

/-- R680 SAMPLE_FEED_LD (0x812B): Statistical Profiling sample taken, load. -/
def execSampleFeedLd (s : State) : Host.Outcome State Fault Refusal :=
  countEvent .sampleFeedLd .own occSampleFeedLd incUnit s

/-- R681 SAMPLE_FEED_ST (0x812C): Statistical Profiling sample taken, store. -/
def execSampleFeedSt (s : State) : Host.Outcome State Fault Refusal :=
  countEvent .sampleFeedSt .own occSampleFeedSt incUnit s

/-- R682 SAMPLE_FEED_OP (0x812D): Statistical Profiling sample taken, matching type. -/
def execSampleFeedOp (s : State) : Host.Outcome State Fault Refusal :=
  countEvent .sampleFeedOp .own occSampleFeedOp incUnit s

/-- R683 SAMPLE_FEED_EVENT (0x812E): Statistical Profiling sample taken, matching events. -/
def execSampleFeedEvent (s : State) : Host.Outcome State Fault Refusal :=
  countEvent .sampleFeedEvent .own occSampleFeedEvent incUnit s

/-- R684 SAMPLE_FEED_LAT (0x812F): Statistical Profiling sample taken, exceeding minimum latency. -/
def execSampleFeedLat (s : State) : Host.Outcome State Fault Refusal :=
  countEvent .sampleFeedLat .own occSampleFeedLat incUnit s

/-- R685 L1D_TLB_RW (0x8130): Level 1 data TLB access, demand access. -/
def execL1dTlbRw (s : State) : Host.Outcome State Fault Refusal :=
  countEvent .l1dTlbRw (.shared .l1dTlb) occL1dTlbRw incUnit s

/-- R686 L1I_TLB_RD (0x8131): Level 1 instruction TLB access, demand access. -/
def execL1iTlbRd (s : State) : Host.Outcome State Fault Refusal :=
  countEvent .l1iTlbRd (.shared .l1iTlb) occL1iTlbRd incUnit s

/-- R687 L1D_TLB_PRFM (0x8132): Level 1 data TLB access, software prefetch. -/
def execL1dTlbPrfm (s : State) : Host.Outcome State Fault Refusal :=
  countEvent .l1dTlbPrfm (.shared .l1dTlb) occL1dTlbPrfm incUnit s

/-- R688 L1I_TLB_PRFM (0x8133): Level 1 instruction TLB access, software prefetch. -/
def execL1iTlbPrfm (s : State) : Host.Outcome State Fault Refusal :=
  countEvent .l1iTlbPrfm (.shared .l1iTlb) occL1iTlbPrfm incUnit s

/-- R689 DTLB_HWUPD (0x8134): Data TLB hardware update of translation table. Which TLB "the TLB" of the sharing clause S1 (R130) is, the
spec does not say: the model's choice is `dtlb`, apart from the `l1dTlb` of L1D_TLB, whose accesses the event counts. Log 71. -/
def execDtlbHwupd (s : State) : Host.Outcome State Fault Refusal :=
  countEvent .dtlbHwupd (.shared .dtlb) occDtlbHwupd incUnit s

/-- R690 ITLB_HWUPD (0x8135): Instruction TLB hardware update of translation table. Which TLB "the TLB" of the sharing clause S1 (R130)
is, the spec does not say: the model's choice is `itlb`, apart from the `l1iTlb` of L1I_TLB, whose accesses the event counts. Log 71. -/
def execItlbHwupd (s : State) : Host.Outcome State Fault Refusal :=
  countEvent .itlbHwupd (.shared .itlb) occItlbHwupd incUnit s

/-- R691 DTLB_STEP (0x8136): Data TLB translation table walk, step. -/
def execDtlbStep (s : State) : Host.Outcome State Fault Refusal :=
  countEvent .dtlbStep (.shared .dtlb) occDtlbStep incUnit s

/-- R692 ITLB_STEP (0x8137): Instruction TLB translation table walk, step. -/
def execItlbStep (s : State) : Host.Outcome State Fault Refusal :=
  countEvent .itlbStep (.shared .itlb) occItlbStep incUnit s

/-- R693 DTLB_WALK_LARGE (0x8138): Data TLB large page translation table walk. -/
def execDtlbWalkLarge (s : State) : Host.Outcome State Fault Refusal :=
  countEvent .dtlbWalkLarge (.shared .dtlb) occDtlbWalkLarge incUnit s

/-- R694 ITLB_WALK_LARGE (0x8139): Instruction TLB large page translation table walk. -/
def execItlbWalkLarge (s : State) : Host.Outcome State Fault Refusal :=
  countEvent .itlbWalkLarge (.shared .itlb) occItlbWalkLarge incUnit s

/-- R695 DTLB_WALK_SMALL (0x813A): Data TLB small page translation table walk. -/
def execDtlbWalkSmall (s : State) : Host.Outcome State Fault Refusal :=
  countEvent .dtlbWalkSmall (.shared .dtlb) occDtlbWalkSmall incUnit s

/-- R696 ITLB_WALK_SMALL (0x813B): Instruction TLB small page translation table walk. -/
def execItlbWalkSmall (s : State) : Host.Outcome State Fault Refusal :=
  countEvent .itlbWalkSmall (.shared .itlb) occItlbWalkSmall incUnit s

/-- R697 DTLB_WALK_RW (0x813C): Data TLB demand access, with at least one translation table walk. -/
def execDtlbWalkRw (s : State) : Host.Outcome State Fault Refusal :=
  countEvent .dtlbWalkRw (.shared .dtlb) occDtlbWalkRw incUnit s

/-- R698 ITLB_WALK_RD (0x813D): Instruction TLB demand access, with at least one translation table walk. -/
def execItlbWalkRd (s : State) : Host.Outcome State Fault Refusal :=
  countEvent .itlbWalkRd (.shared .itlb) occItlbWalkRd incUnit s

/-- R699 DTLB_WALK_PRFM (0x813E): Data TLB software prefetch, with at least one translation table walk. -/
def execDtlbWalkPrfm (s : State) : Host.Outcome State Fault Refusal :=
  countEvent .dtlbWalkPrfm (.shared .dtlb) occDtlbWalkPrfm incUnit s

/-- R700 ITLB_WALK_PRFM (0x813F): Instruction TLB software prefetch, with at least one translation table walk. -/
def execItlbWalkPrfm (s : State) : Host.Outcome State Fault Refusal :=
  countEvent .itlbWalkPrfm (.shared .itlb) occItlbWalkPrfm incUnit s

/-- R701 L1D_CACHE_RW (0x8140): Level 1 data cache demand access. -/
def execL1dCacheRw (s : State) : Host.Outcome State Fault Refusal :=
  countEvent .l1dCacheRw (.sharedAs .l1dCache .l1dCache) occL1dCacheRw incUnit s

/-- R702 L1I_CACHE_RD (0x8141): Level 1 instruction cache demand fetch. -/
def execL1iCacheRd (s : State) : Host.Outcome State Fault Refusal :=
  countEvent .l1iCacheRd (.sharedAs .l1iCache .l1iCache) occL1iCacheRd incUnit s

/-- R703 L1D_CACHE_PRFM (0x8142): Level 1 data cache software prefetch. -/
def execL1dCachePrfm (s : State) : Host.Outcome State Fault Refusal :=
  countEvent .l1dCachePrfm (.sharedAs .l1dCache .l1dCache) occL1dCachePrfm incUnit s

/-- R704 L1I_CACHE_PRFM (0x8143): Level 1 instruction cache software prefetch. -/
def execL1iCachePrfm (s : State) : Host.Outcome State Fault Refusal :=
  countEvent .l1iCachePrfm (.sharedAs .l1iCache .l1iCache) occL1iCachePrfm incUnit s

/-- R705 L1D_CACHE_MISS (0x8144): Level 1 data cache demand access miss. -/
def execL1dCacheMiss (s : State) : Host.Outcome State Fault Refusal :=
  countEvent .l1dCacheMiss (.sharedAs .l1dCache .l1dCache) occL1dCacheMiss incUnit s

/-- R706 L1I_CACHE_HWPRF (0x8145): Level 1 instruction cache hardware prefetch. -/
def execL1iCacheHwprf (s : State) : Host.Outcome State Fault Refusal :=
  countEvent .l1iCacheHwprf (.sharedAs .l1iCache .l1iCache) occL1iCacheHwprf incUnit s

/-- R707 L1D_CACHE_REFILL_PRFM (0x8146): Level 1 data cache refill, software prefetch. -/
def execL1dCacheRefillPrfm (s : State) : Host.Outcome State Fault Refusal :=
  countEvent .l1dCacheRefillPrfm (.sharedAs .l1dCache .l1dCache) occL1dCacheRefillPrfm incUnit s

/-- R708 L1I_CACHE_REFILL_PRFM (0x8147): Level 1 instruction cache refill, software prefetch. -/
def execL1iCacheRefillPrfm (s : State) : Host.Outcome State Fault Refusal :=
  countEvent .l1iCacheRefillPrfm (.sharedAs .l1iCache .l1iCache) occL1iCacheRefillPrfm incUnit s

/-- R709 L2D_CACHE_RW (0x8148): Level 2 data cache demand access. -/
def execL2dCacheRw (s : State) : Host.Outcome State Fault Refusal :=
  countEvent .l2dCacheRw (.sharedAs .l2dCache .l2dCache) occL2dCacheRw incUnit s

/-- R710 L2I_CACHE_RD (0x8149): Level 2 instruction cache demand fetch. -/
def execL2iCacheRd (s : State) : Host.Outcome State Fault Refusal :=
  countEvent .l2iCacheRd (.sharedAs .l2iCache .l2iCache) occL2iCacheRd incUnit s

/-- R711 L2D_CACHE_PRFM (0x814A): Level 2 data cache software prefetch. -/
def execL2dCachePrfm (s : State) : Host.Outcome State Fault Refusal :=
  countEvent .l2dCachePrfm (.sharedAs .l2dCache .l2dCache) occL2dCachePrfm incUnit s

/-- R712 L2I_CACHE_PRFM (0x814B): Level 2 instruction cache software prefetch. -/
def execL2iCachePrfm (s : State) : Host.Outcome State Fault Refusal :=
  countEvent .l2iCachePrfm (.sharedAs .l2iCache .l2iCache) occL2iCachePrfm incUnit s

/-- R713 L2D_CACHE_MISS (0x814C): Level 2 data cache demand access miss. -/
def execL2dCacheMiss (s : State) : Host.Outcome State Fault Refusal :=
  countEvent .l2dCacheMiss (.sharedAs .l2dCache .l2dCache) occL2dCacheMiss incUnit s

/-- R714 L2I_CACHE_HWPRF (0x814D): Level 2 instruction cache hardware prefetch. -/
def execL2iCacheHwprf (s : State) : Host.Outcome State Fault Refusal :=
  countEvent .l2iCacheHwprf (.sharedAs .l2iCache .l2iCache) occL2iCacheHwprf incUnit s

/-- R715 L2D_CACHE_REFILL_PRFM (0x814E): Level 2 data cache refill, software prefetch. -/
def execL2dCacheRefillPrfm (s : State) : Host.Outcome State Fault Refusal :=
  countEvent .l2dCacheRefillPrfm (.sharedAs .l2dCache .l2dCache) occL2dCacheRefillPrfm incUnit s

/-- R716 L2I_CACHE_REFILL_PRFM (0x814F): Level 2 instruction cache refill, software prefetch. -/
def execL2iCacheRefillPrfm (s : State) : Host.Outcome State Fault Refusal :=
  countEvent .l2iCacheRefillPrfm (.sharedAs .l2iCache .l2iCache) occL2iCacheRefillPrfm incUnit s

/-- R717 L3D_CACHE_RW (0x8150): Level 3 data cache demand access. -/
def execL3dCacheRw (s : State) : Host.Outcome State Fault Refusal :=
  countEvent .l3dCacheRw (.sharedAs .l3dCache .l3dCache) occL3dCacheRw incUnit s

/-- R718 L3D_CACHE_PRFM (0x8151): Level 3 data cache software prefetch. -/
def execL3dCachePrfm (s : State) : Host.Outcome State Fault Refusal :=
  countEvent .l3dCachePrfm (.sharedAs .l3dCache .l3dCache) occL3dCachePrfm incUnit s

/-- R719 L3D_CACHE_MISS (0x8152): Level 3 data cache demand access miss. -/
def execL3dCacheMiss (s : State) : Host.Outcome State Fault Refusal :=
  countEvent .l3dCacheMiss (.sharedAs .l3dCache .l3dCache) occL3dCacheMiss incUnit s

/-- R720 L3D_CACHE_REFILL_PRFM (0x8153): Level 3 data cache refill, software prefetch. -/
def execL3dCacheRefillPrfm (s : State) : Host.Outcome State Fault Refusal :=
  countEvent .l3dCacheRefillPrfm (.sharedAs .l3dCache .l3dCache) occL3dCacheRefillPrfm incUnit s

/-- R721 L1D_CACHE_HWPRF (0x8154): Level 1 data cache hardware prefetch. -/
def execL1dCacheHwprf (s : State) : Host.Outcome State Fault Refusal :=
  countEvent .l1dCacheHwprf (.sharedAs .l1dCache .l1dCache) occL1dCacheHwprf incUnit s

/-- R722 L2D_CACHE_HWPRF (0x8155): Level 2 data cache hardware prefetch. -/
def execL2dCacheHwprf (s : State) : Host.Outcome State Fault Refusal :=
  countEvent .l2dCacheHwprf (.sharedAs .l2dCache .l2dCache) occL2dCacheHwprf incUnit s

/-- R723 L3D_CACHE_HWPRF (0x8156): Level 3 data cache hardware prefetch. -/
def execL3dCacheHwprf (s : State) : Host.Outcome State Fault Refusal :=
  countEvent .l3dCacheHwprf (.sharedAs .l3dCache .l3dCache) occL3dCacheHwprf incUnit s

/-- R724 LL_CACHE_HWPRF (0x8157): Last level cache hardware prefetch. -/
def execLlCacheHwprf (s : State) : Host.Outcome State Fault Refusal :=
  countEvent .llCacheHwprf (.sharedAs .llCache .llCache) occLlCacheHwprf incUnit s

/-- R725 STALL_FRONTEND_MEMBOUND (0x8158): Frontend stall cycles, memory bound. -/
def execStallFrontendMembound (s : State) : Host.Outcome State Fault Refusal :=
  countEvent .stallFrontendMembound .cycle occStallFrontendMembound incUnit s

/-- R726 STALL_FRONTEND_L1I (0x8159): Frontend stall cycles, level 1 instruction cache. -/
def execStallFrontendL1i (s : State) : Host.Outcome State Fault Refusal :=
  countEvent .stallFrontendL1i .cycle occStallFrontendL1i incUnit s

/-- R727 STALL_FRONTEND_L2I (0x815A): Frontend stall cycles, level 2 instruction cache. -/
def execStallFrontendL2i (s : State) : Host.Outcome State Fault Refusal :=
  countEvent .stallFrontendL2i .cycle occStallFrontendL2i incUnit s

/-- R728 STALL_FRONTEND_MEM (0x815B): Frontend stall cycles, last level PE cache or memory. -/
def execStallFrontendMem (s : State) : Host.Outcome State Fault Refusal :=
  countEvent .stallFrontendMem .cycle occStallFrontendMem incUnit s

/-- R729 STALL_FRONTEND_TLB (0x815C): Frontend stall cycles, TLB. -/
def execStallFrontendTlb (s : State) : Host.Outcome State Fault Refusal :=
  countEvent .stallFrontendTlb .cycle occStallFrontendTlb incUnit s

/-- R730 STALL_BACKEND_BUSY_SMCU (0x815D): Backend stall cycles, SMCU busy. -/
def execStallBackendBusySmcu (s : State) : Host.Outcome State Fault Refusal :=
  countEvent .stallBackendBusySmcu .cycle occStallBackendBusySmcu incUnit s

/-- R731 STALL_BACKEND_BUSY_SMCU_UNALL (0x815E): Backend stall cycles, awaiting SMCU allocation. -/
def execStallBackendBusySmcuUnall (s : State) : Host.Outcome State Fault Refusal :=
  countEvent .stallBackendBusySmcuUnall .cycle occStallBackendBusySmcuUnall incUnit s

/-- R732 STALL_FRONTEND_CPUBOUND (0x8160): Frontend stall cycles, processor bound. -/
def execStallFrontendCpubound (s : State) : Host.Outcome State Fault Refusal :=
  countEvent .stallFrontendCpubound .cycle occStallFrontendCpubound incUnit s

/-- R733 STALL_FRONTEND_FLOW (0x8161): Frontend stall cycles, flow control. -/
def execStallFrontendFlow (s : State) : Host.Outcome State Fault Refusal :=
  countEvent .stallFrontendFlow .cycle occStallFrontendFlow incUnit s

/-- R734 STALL_FRONTEND_FLUSH (0x8162): Frontend stall cycles, flush recovery. -/
def execStallFrontendFlush (s : State) : Host.Outcome State Fault Refusal :=
  countEvent .stallFrontendFlush .cycle occStallFrontendFlush incUnit s

/-- R735 STALL_FRONTEND_RENAME (0x8163): Frontend stall cycles, rename full. -/
def execStallFrontendRename (s : State) : Host.Outcome State Fault Refusal :=
  countEvent .stallFrontendRename .cycle occStallFrontendRename incUnit s

/-- R736 STALL_BACKEND_MEMBOUND (0x8164): Backend stall cycles, memory bound. -/
def execStallBackendMembound (s : State) : Host.Outcome State Fault Refusal :=
  countEvent .stallBackendMembound .cycle occStallBackendMembound incUnit s

/-- R737 STALL_BACKEND_L1D (0x8165): Backend stall cycles, level 1 data cache. -/
def execStallBackendL1d (s : State) : Host.Outcome State Fault Refusal :=
  countEvent .stallBackendL1d .cycle occStallBackendL1d incUnit s

/-- R738 STALL_BACKEND_L2D (0x8166): Backend stall cycles, level 2 data cache. -/
def execStallBackendL2d (s : State) : Host.Outcome State Fault Refusal :=
  countEvent .stallBackendL2d .cycle occStallBackendL2d incUnit s

/-- R739 STALL_BACKEND_TLB (0x8167): Backend stall cycles, TLB. -/
def execStallBackendTlb (s : State) : Host.Outcome State Fault Refusal :=
  countEvent .stallBackendTlb .cycle occStallBackendTlb incUnit s

/-- R740 STALL_BACKEND_ST (0x8168): Backend stall cycles, store. -/
def execStallBackendSt (s : State) : Host.Outcome State Fault Refusal :=
  countEvent .stallBackendSt .cycle occStallBackendSt incUnit s

/-- R741 STALL_BACKEND_CPUBOUND (0x816A): Backend stall cycles, processor bound. -/
def execStallBackendCpubound (s : State) : Host.Outcome State Fault Refusal :=
  countEvent .stallBackendCpubound .cycle occStallBackendCpubound incUnit s

/-- R742 STALL_BACKEND_BUSY (0x816B): Backend stall cycles, backend busy. -/
def execStallBackendBusy (s : State) : Host.Outcome State Fault Refusal :=
  countEvent .stallBackendBusy .cycle occStallBackendBusy incUnit s

/-- R743 STALL_BACKEND_ILOCK (0x816C): Backend stall cycles, input dependency. -/
def execStallBackendIlock (s : State) : Host.Outcome State Fault Refusal :=
  countEvent .stallBackendIlock .cycle occStallBackendIlock incUnit s

/-- R744 STALL_BACKEND_RENAME (0x816D): Backend stall cycles, rename full. -/
def execStallBackendRename (s : State) : Host.Outcome State Fault Refusal :=
  countEvent .stallBackendRename .cycle occStallBackendRename incUnit s

/-- R745 STALL_BACKEND_ATOMIC (0x816E): Backend stall cycles, atomic operation. -/
def execStallBackendAtomic (s : State) : Host.Outcome State Fault Refusal :=
  countEvent .stallBackendAtomic .cycle occStallBackendAtomic incUnit s

/-- R746 STALL_BACKEND_MEMCPYSET (0x816F): Backend stall cycles, Memory Copy or Set operation. -/
def execStallBackendMemcpyset (s : State) : Host.Outcome State Fault Refusal :=
  countEvent .stallBackendMemcpyset .cycle occStallBackendMemcpyset incUnit s

/-- R747 CAS_NEAR_FAIL (0x8170): Atomic memory Operation speculatively executed, Compare and Swap fail. -/
def execCasNearFail (s : State) : Host.Outcome State Fault Refusal :=
  countEvent .casNearFail .own occCasNearFail incUnit s

/-- R748 CAS_NEAR_PASS (0x8171): Atomic memory Operation speculatively executed, Compare and Swap pass. -/
def execCasNearPass (s : State) : Host.Outcome State Fault Refusal :=
  countEvent .casNearPass .own occCasNearPass incUnit s

/-- R749 CAS_NEAR_SPEC (0x8172): Atomic memory Operation speculatively executed, Compare and Swap near. -/
def execCasNearSpec (s : State) : Host.Outcome State Fault Refusal :=
  countEvent .casNearSpec .own occCasNearSpec incUnit s

/-- R750 CAS_FAR_SPEC (0x8173): Atomic memory Operation speculatively executed, Compare and Swap far. -/
def execCasFarSpec (s : State) : Host.Outcome State Fault Refusal :=
  countEvent .casFarSpec .own occCasFarSpec incUnit s

/-- R751 CAS_SPEC (0x8174): Atomic memory Operation speculatively executed, Compare and Swap. -/
def execCasSpec (s : State) : Host.Outcome State Fault Refusal :=
  countEvent .casSpec .own occCasSpec incUnit s

/-- R752 LSE_LD_SPEC (0x8175): Atomic memory Operation speculatively executed, load. -/
def execLseLdSpec (s : State) : Host.Outcome State Fault Refusal :=
  countEvent .lseLdSpec .own occLseLdSpec incUnit s

/-- R753 LSE_ST_SPEC (0x8176): Atomic memory Operation speculatively executed, store. -/
def execLseStSpec (s : State) : Host.Outcome State Fault Refusal :=
  countEvent .lseStSpec .own occLseStSpec incUnit s

/-- R754 LSE_LDST_SPEC (0x8177): Atomic memory Operation speculatively executed, load or store. -/
def execLseLdstSpec (s : State) : Host.Outcome State Fault Refusal :=
  countEvent .lseLdstSpec .own occLseLdstSpec incUnit s

/-- R755 REMOTE_ACCESS_WR (0x8178): Access to a remote device, write. -/
def execRemoteAccessWr (s : State) : Host.Outcome State Fault Refusal :=
  countEvent .remoteAccessWr .own occRemoteAccessWr incUnit s

/-- R756 BR_HINT_COND_PRED_RETIRED (0x8184): Branch instruction architecturally executed, predicted hinted conditional. -/
def execBrHintCondPredRetired (s : State) : Host.Outcome State Fault Refusal :=
  countEvent .brHintCondPredRetired .own occBrHintCondPredRetired incUnit s

/-- R757 BR_HINT_COND_MIS_PRED_RETIRED (0x8185): Branch instruction architecturally executed, mispredicted hinted conditional. -/
def execBrHintCondMisPredRetired (s : State) : Host.Outcome State Fault Refusal :=
  countEvent .brHintCondMisPredRetired .own occBrHintCondMisPredRetired incUnit s

/-- R758 UOP_RETIRED (0x8186): Micro-operation architecturally executed. -/
def execUopRetired (s : State) : Host.Outcome State Fault Refusal :=
  countEvent .uopRetired .own occUopRetired incUnit s

/-- R759 DTLB_WALK_BLOCK (0x8188): Data TLB block translation table walk. -/
def execDtlbWalkBlock (s : State) : Host.Outcome State Fault Refusal :=
  countEvent .dtlbWalkBlock (.shared .dtlb) occDtlbWalkBlock incUnit s

/-- R760 ITLB_WALK_BLOCK (0x8189): Instruction TLB block translation table walk. -/
def execItlbWalkBlock (s : State) : Host.Outcome State Fault Refusal :=
  countEvent .itlbWalkBlock (.shared .itlb) occItlbWalkBlock incUnit s

/-- R761 DTLB_WALK_PAGE (0x818A): Data TLB page translation table walk. -/
def execDtlbWalkPage (s : State) : Host.Outcome State Fault Refusal :=
  countEvent .dtlbWalkPage (.shared .dtlb) occDtlbWalkPage incUnit s

/-- R762 ITLB_WALK_PAGE (0x818B): Instruction TLB page translation table walk. -/
def execItlbWalkPage (s : State) : Host.Outcome State Fault Refusal :=
  countEvent .itlbWalkPage (.shared .itlb) occItlbWalkPage incUnit s

/-- R763 BUS_REQ_RD (0x818D): Bus request, read. -/
def execBusReqRd (s : State) : Host.Outcome State Fault Refusal :=
  countEvent .busReqRd (.sharedAs .busReq .bus) occBusReqRd incUnit s

/-- R764 BUS_REQ_WR (0x818E): Bus request, write. -/
def execBusReqWr (s : State) : Host.Outcome State Fault Refusal :=
  countEvent .busReqWr (.sharedAs .busReq .bus) occBusReqWr incUnit s

/-- R765 BUS_REQ (0x818F): Bus request. -/
def execBusReq (s : State) : Host.Outcome State Fault Refusal :=
  countEvent .busReq (.shared .bus) occBusReq incUnit s

/-- R766 ISNP_HIT_RD (0x8190): Snoop hit, demand instruction fetch. -/
def execIsnpHitRd (s : State) : Host.Outcome State Fault Refusal :=
  countEvent .isnpHitRd .own occIsnpHitRd incUnit s

/-- R767 ISNP_HIT_NEAR_RD (0x8191): Snoop hit in near local cache, demand instruction fetch. -/
def execIsnpHitNearRd (s : State) : Host.Outcome State Fault Refusal :=
  countEvent .isnpHitNearRd .own occIsnpHitNearRd incUnit s

/-- R768 ISNP_HIT_FAR_RD (0x8192): Snoop hit in far local cache, demand instruction fetch. -/
def execIsnpHitFarRd (s : State) : Host.Outcome State Fault Refusal :=
  countEvent .isnpHitFarRd .own occIsnpHitFarRd incUnit s

/-- R769 ISNP_HIT_REMOTE_RD (0x8193): Snoop hit in remote cache, demand instruction fetch. -/
def execIsnpHitRemoteRd (s : State) : Host.Outcome State Fault Refusal :=
  countEvent .isnpHitRemoteRd .own occIsnpHitRemoteRd incUnit s

/-- R770 DSNP_HIT_RD (0x8194): Snoop hit, demand data read. -/
def execDsnpHitRd (s : State) : Host.Outcome State Fault Refusal :=
  countEvent .dsnpHitRd .own occDsnpHitRd incUnit s

/-- R771 DSNP_HIT_NEAR_RD (0x8195): Snoop hit in near local cache, demand data read. -/
def execDsnpHitNearRd (s : State) : Host.Outcome State Fault Refusal :=
  countEvent .dsnpHitNearRd .own occDsnpHitNearRd incUnit s

/-- R772 DSNP_HIT_FAR_RD (0x8196): Snoop hit in far local cache, demand data read. -/
def execDsnpHitFarRd (s : State) : Host.Outcome State Fault Refusal :=
  countEvent .dsnpHitFarRd .own occDsnpHitFarRd incUnit s

/-- R773 DSNP_HIT_REMOTE_RD (0x8197): Snoop hit in remote cache, demand data read. -/
def execDsnpHitRemoteRd (s : State) : Host.Outcome State Fault Refusal :=
  countEvent .dsnpHitRemoteRd .own occDsnpHitRemoteRd incUnit s

/-- R774 DSNP_HIT_WR (0x8198): Snoop hit, demand data write. -/
def execDsnpHitWr (s : State) : Host.Outcome State Fault Refusal :=
  countEvent .dsnpHitWr .own occDsnpHitWr incUnit s

/-- R775 DSNP_HIT_NEAR_WR (0x8199): Snoop hit in near local cache, demand data write. -/
def execDsnpHitNearWr (s : State) : Host.Outcome State Fault Refusal :=
  countEvent .dsnpHitNearWr .own occDsnpHitNearWr incUnit s

/-- R776 DSNP_HIT_FAR_WR (0x819A): Snoop hit in far local cache, demand data write. -/
def execDsnpHitFarWr (s : State) : Host.Outcome State Fault Refusal :=
  countEvent .dsnpHitFarWr .own occDsnpHitFarWr incUnit s

/-- R777 DSNP_HIT_REMOTE_WR (0x819B): Snoop hit in remote cache, demand data write. -/
def execDsnpHitRemoteWr (s : State) : Host.Outcome State Fault Refusal :=
  countEvent .dsnpHitRemoteWr .own occDsnpHitRemoteWr incUnit s

/-- R778 DSNP_HIT_RW (0x819C): Snoop hit, demand data access. -/
def execDsnpHitRw (s : State) : Host.Outcome State Fault Refusal :=
  countEvent .dsnpHitRw .own occDsnpHitRw incUnit s

/-- R779 DSNP_HIT_NEAR_RW (0x819D): Snoop hit in near local cache, demand data access. -/
def execDsnpHitNearRw (s : State) : Host.Outcome State Fault Refusal :=
  countEvent .dsnpHitNearRw .own occDsnpHitNearRw incUnit s

/-- R780 DSNP_HIT_FAR_RW (0x819E): Snoop hit in far local cache, demand data access. -/
def execDsnpHitFarRw (s : State) : Host.Outcome State Fault Refusal :=
  countEvent .dsnpHitFarRw .own occDsnpHitFarRw incUnit s

/-- R781 DSNP_HIT_REMOTE_RW (0x819F): Snoop hit in remote cache, demand data access. -/
def execDsnpHitRemoteRw (s : State) : Host.Outcome State Fault Refusal :=
  countEvent .dsnpHitRemoteRw .own occDsnpHitRemoteRw incUnit s

/-- R782 DSNP_HIT_PRFM (0x81A0): Snoop hit, software data prefetch. -/
def execDsnpHitPrfm (s : State) : Host.Outcome State Fault Refusal :=
  countEvent .dsnpHitPrfm .own occDsnpHitPrfm incUnit s

/-- R783 DSNP_HIT_NEAR_PRFM (0x81A1): Snoop hit in near local cache, software data prefetch. -/
def execDsnpHitNearPrfm (s : State) : Host.Outcome State Fault Refusal :=
  countEvent .dsnpHitNearPrfm .own occDsnpHitNearPrfm incUnit s

/-- R784 DSNP_HIT_FAR_PRFM (0x81A2): Snoop hit in far local cache, software data prefetch. -/
def execDsnpHitFarPrfm (s : State) : Host.Outcome State Fault Refusal :=
  countEvent .dsnpHitFarPrfm .own occDsnpHitFarPrfm incUnit s

/-- R785 DSNP_HIT_REMOTE_PRFM (0x81A3): Snoop hit in remote cache, software data prefetch. -/
def execDsnpHitRemotePrfm (s : State) : Host.Outcome State Fault Refusal :=
  countEvent .dsnpHitRemotePrfm .own occDsnpHitRemotePrfm incUnit s

/-- R786 DSNP_HIT_HWPRF (0x81A4): Snoop hit, hardware data prefetch. -/
def execDsnpHitHwprf (s : State) : Host.Outcome State Fault Refusal :=
  countEvent .dsnpHitHwprf .own occDsnpHitHwprf incUnit s

/-- R787 DSNP_HIT_NEAR_HWPRF (0x81A5): Snoop hit in near local cache, hardware data prefetch. -/
def execDsnpHitNearHwprf (s : State) : Host.Outcome State Fault Refusal :=
  countEvent .dsnpHitNearHwprf .own occDsnpHitNearHwprf incUnit s

/-- R788 DSNP_HIT_FAR_HWPRF (0x81A6): Snoop hit in far local cache, hardware data prefetch. -/
def execDsnpHitFarHwprf (s : State) : Host.Outcome State Fault Refusal :=
  countEvent .dsnpHitFarHwprf .own occDsnpHitFarHwprf incUnit s

/-- R789 DSNP_HIT_REMOTE_HWPRF (0x81A7): Snoop hit in remote cache, hardware data prefetch. -/
def execDsnpHitRemoteHwprf (s : State) : Host.Outcome State Fault Refusal :=
  countEvent .dsnpHitRemoteHwprf .own occDsnpHitRemoteHwprf incUnit s

/-- R790 ISNP_HIT_PRFM (0x81A8): Snoop hit, software instruction prefetch. -/
def execIsnpHitPrfm (s : State) : Host.Outcome State Fault Refusal :=
  countEvent .isnpHitPrfm .own occIsnpHitPrfm incUnit s

/-- R791 ISNP_HIT_NEAR_PRFM (0x81A9): Snoop hit in near local cache, software instruction prefetch. -/
def execIsnpHitNearPrfm (s : State) : Host.Outcome State Fault Refusal :=
  countEvent .isnpHitNearPrfm .own occIsnpHitNearPrfm incUnit s

/-- R792 ISNP_HIT_FAR_PRFM (0x81AA): Snoop hit in far local cache, software instruction prefetch. -/
def execIsnpHitFarPrfm (s : State) : Host.Outcome State Fault Refusal :=
  countEvent .isnpHitFarPrfm .own occIsnpHitFarPrfm incUnit s

/-- R793 ISNP_HIT_REMOTE_PRFM (0x81AB): Snoop hit in remote cache, software instruction prefetch. -/
def execIsnpHitRemotePrfm (s : State) : Host.Outcome State Fault Refusal :=
  countEvent .isnpHitRemotePrfm .own occIsnpHitRemotePrfm incUnit s

/-- R794 ISNP_HIT_HWPRF (0x81AC): Snoop hit, hardware instruction prefetch. -/
def execIsnpHitHwprf (s : State) : Host.Outcome State Fault Refusal :=
  countEvent .isnpHitHwprf .own occIsnpHitHwprf incUnit s

/-- R795 ISNP_HIT_NEAR_HWPRF (0x81AD): Snoop hit in near local cache, hardware instruction prefetch. -/
def execIsnpHitNearHwprf (s : State) : Host.Outcome State Fault Refusal :=
  countEvent .isnpHitNearHwprf .own occIsnpHitNearHwprf incUnit s

/-- R796 ISNP_HIT_FAR_HWPRF (0x81AE): Snoop hit in far local cache, hardware instruction prefetch. -/
def execIsnpHitFarHwprf (s : State) : Host.Outcome State Fault Refusal :=
  countEvent .isnpHitFarHwprf .own occIsnpHitFarHwprf incUnit s

/-- R797 ISNP_HIT_REMOTE_HWPRF (0x81AF): Snoop hit in remote cache, hardware instruction prefetch. -/
def execIsnpHitRemoteHwprf (s : State) : Host.Outcome State Fault Refusal :=
  countEvent .isnpHitRemoteHwprf .own occIsnpHitRemoteHwprf incUnit s

/-- R798 ISNP_HIT (0x81B0): Snoop hit, instruction. -/
def execIsnpHit (s : State) : Host.Outcome State Fault Refusal :=
  countEvent .isnpHit .own occIsnpHit incUnit s

/-- R799 ISNP_HIT_NEAR (0x81B1): Snoop hit in near local cache, instruction access. -/
def execIsnpHitNear (s : State) : Host.Outcome State Fault Refusal :=
  countEvent .isnpHitNear .own occIsnpHitNear incUnit s

/-- R800 ISNP_HIT_FAR (0x81B2): Snoop hit in far local cache, instruction access. -/
def execIsnpHitFar (s : State) : Host.Outcome State Fault Refusal :=
  countEvent .isnpHitFar .own occIsnpHitFar incUnit s

/-- R801 ISNP_HIT_REMOTE (0x81B3): Snoop hit in remote cache, instruction access. -/
def execIsnpHitRemote (s : State) : Host.Outcome State Fault Refusal :=
  countEvent .isnpHitRemote .own occIsnpHitRemote incUnit s

/-- R802 DSNP_HIT (0x81B4): Snoop hit, data. -/
def execDsnpHit (s : State) : Host.Outcome State Fault Refusal :=
  countEvent .dsnpHit .own occDsnpHit incUnit s

/-- R803 DSNP_HIT_NEAR (0x81B5): Snoop hit in near local cache, data access. -/
def execDsnpHitNear (s : State) : Host.Outcome State Fault Refusal :=
  countEvent .dsnpHitNear .own occDsnpHitNear incUnit s

/-- R804 DSNP_HIT_FAR (0x81B6): Snoop hit in far local cache, data access. -/
def execDsnpHitFar (s : State) : Host.Outcome State Fault Refusal :=
  countEvent .dsnpHitFar .own occDsnpHitFar incUnit s

/-- R805 DSNP_HIT_REMOTE (0x81B7): Snoop hit in remote cache, data access. -/
def execDsnpHitRemote (s : State) : Host.Outcome State Fault Refusal :=
  countEvent .dsnpHitRemote .own occDsnpHitRemote incUnit s

/-- R806 L1I_CACHE_REFILL_HWPRF (0x81B8): Level 1 instruction cache refill, hardware prefetch. -/
def execL1iCacheRefillHwprf (s : State) : Host.Outcome State Fault Refusal :=
  countEvent .l1iCacheRefillHwprf (.sharedAs .l1iCache .l1iCache) occL1iCacheRefillHwprf incUnit s

/-- R807 L2I_CACHE_REFILL_HWPRF (0x81B9): Level 2 instruction cache refill, hardware prefetch. -/
def execL2iCacheRefillHwprf (s : State) : Host.Outcome State Fault Refusal :=
  countEvent .l2iCacheRefillHwprf (.sharedAs .l2iCache .l2iCache) occL2iCacheRefillHwprf incUnit s

/-- R808 L1D_CACHE_REFILL_HWPRF (0x81BC): Level 1 data cache refill, hardware prefetch. -/
def execL1dCacheRefillHwprf (s : State) : Host.Outcome State Fault Refusal :=
  countEvent .l1dCacheRefillHwprf (.sharedAs .l1dCache .l1dCache) occL1dCacheRefillHwprf incUnit s

/-- R809 L2D_CACHE_REFILL_HWPRF (0x81BD): Level 2 data cache refill, hardware prefetch. -/
def execL2dCacheRefillHwprf (s : State) : Host.Outcome State Fault Refusal :=
  countEvent .l2dCacheRefillHwprf (.sharedAs .l2dCache .l2dCache) occL2dCacheRefillHwprf incUnit s

/-- R810 L3D_CACHE_REFILL_HWPRF (0x81BE): Level 3 data cache refill, hardware prefetch. -/
def execL3dCacheRefillHwprf (s : State) : Host.Outcome State Fault Refusal :=
  countEvent .l3dCacheRefillHwprf (.sharedAs .l3dCache .l3dCache) occL3dCacheRefillHwprf incUnit s

/-- R811 LL_CACHE_REFILL_HWPRF (0x81BF): Last level cache refill, hardware prefetch. -/
def execLlCacheRefillHwprf (s : State) : Host.Outcome State Fault Refusal :=
  countEvent .llCacheRefillHwprf (.sharedAs .llCache .llCache) occLlCacheRefillHwprf incUnit s

end Sys2Proof.Machine
end

