-- ==== Sys2Proof/Machine/Uarch81C0.lean ====
section
/-!
DEFINITION. The meanings of the 195 events of spec/47_uarch_81C0_82A3: each is `Count(E, k)` (40_common_event_rules.md R121)
with the event's own occurrences, attribution and increment.
-/

namespace Sys2Proof.Machine

/-- R812 L1I_CACHE_HIT_RD (0x81C0): Level 1 instruction cache demand fetch hit. -/
def execL1iCacheHitRd (s : State) : Host.Outcome State Fault Refusal :=
  countEvent .l1iCacheHitRd (.sharedAs .l1iCache .l1iCache) occL1iCacheHitRd incUnit s

/-- R813 L2I_CACHE_HIT_RD (0x81C1): Level 2 instruction cache demand fetch hit. -/
def execL2iCacheHitRd (s : State) : Host.Outcome State Fault Refusal :=
  countEvent .l2iCacheHitRd (.sharedAs .l2iCache .l2iCache) occL2iCacheHitRd incUnit s

/-- R814 L1D_CACHE_HIT_RD (0x81C4): Level 1 data cache demand access hit, read. -/
def execL1dCacheHitRd (s : State) : Host.Outcome State Fault Refusal :=
  countEvent .l1dCacheHitRd (.sharedAs .l1dCacheRd .l1dCache) occL1dCacheHitRd incUnit s

/-- R815 L2D_CACHE_HIT_RD (0x81C5): Level 2 data cache demand access hit, read. -/
def execL2dCacheHitRd (s : State) : Host.Outcome State Fault Refusal :=
  countEvent .l2dCacheHitRd (.sharedAs .l2dCacheRd .l2dCache) occL2dCacheHitRd incUnit s

/-- R816 L3D_CACHE_HIT_RD (0x81C6): Level 3 data cache demand access hit, read. -/
def execL3dCacheHitRd (s : State) : Host.Outcome State Fault Refusal :=
  countEvent .l3dCacheHitRd (.sharedAs .l3dCacheRd .l3dCache) occL3dCacheHitRd incUnit s

/-- R817 LL_CACHE_HIT_RD (0x81C7): Last level cache demand access hit, read. -/
def execLlCacheHitRd (s : State) : Host.Outcome State Fault Refusal :=
  countEvent .llCacheHitRd (.sharedAs .llCacheRd .llCache) occLlCacheHitRd incUnit s

/-- R818 L1D_CACHE_HIT_WR (0x81C8): Level 1 data cache demand access hit, write. -/
def execL1dCacheHitWr (s : State) : Host.Outcome State Fault Refusal :=
  countEvent .l1dCacheHitWr (.sharedAs .l1dCacheWr .l1dCache) occL1dCacheHitWr incUnit s

/-- R819 L2D_CACHE_HIT_WR (0x81C9): Level 2 data cache demand access hit, write. -/
def execL2dCacheHitWr (s : State) : Host.Outcome State Fault Refusal :=
  countEvent .l2dCacheHitWr (.sharedAs .l2dCacheWr .l2dCache) occL2dCacheHitWr incUnit s

/-- R820 L3D_CACHE_HIT_WR (0x81CA): Level 3 data cache demand access hit, write. -/
def execL3dCacheHitWr (s : State) : Host.Outcome State Fault Refusal :=
  countEvent .l3dCacheHitWr (.sharedAs .l3dCacheWr .l3dCache) occL3dCacheHitWr incUnit s

/-- R821 LL_CACHE_HIT_WR (0x81CB): Last level cache demand access hit, write. -/
def execLlCacheHitWr (s : State) : Host.Outcome State Fault Refusal :=
  countEvent .llCacheHitWr (.sharedAs .llCacheWr .llCache) occLlCacheHitWr incUnit s

/-- R822 L1D_CACHE_HIT_RW (0x81CC): Level 1 data cache demand access hit. -/
def execL1dCacheHitRw (s : State) : Host.Outcome State Fault Refusal :=
  countEvent .l1dCacheHitRw (.sharedAs .l1dCache .l1dCache) occL1dCacheHitRw incUnit s

/-- R823 L2D_CACHE_HIT_RW (0x81CD): Level 2 data cache demand access hit. -/
def execL2dCacheHitRw (s : State) : Host.Outcome State Fault Refusal :=
  countEvent .l2dCacheHitRw (.sharedAs .l2dCache .l2dCache) occL2dCacheHitRw incUnit s

/-- R824 L3D_CACHE_HIT_RW (0x81CE): Level 3 data cache demand access hit. -/
def execL3dCacheHitRw (s : State) : Host.Outcome State Fault Refusal :=
  countEvent .l3dCacheHitRw (.sharedAs .l3dCache .l3dCache) occL3dCacheHitRw incUnit s

/-- R825 LL_CACHE_HIT_RW (0x81CF): Last level cache demand access hit. -/
def execLlCacheHitRw (s : State) : Host.Outcome State Fault Refusal :=
  countEvent .llCacheHitRw (.sharedAs .llCache .llCache) occLlCacheHitRw incUnit s

/-- R826 L1I_CACHE_HIT_RD_FPRFM (0x81D0): Level 1 instruction cache demand fetch first hit, fetched by software prefetch. -/
def execL1iCacheHitRdFprfm (s : State) : Host.Outcome State Fault Refusal :=
  countEvent .l1iCacheHitRdFprfm (.sharedAs .l1iCache .l1iCache) occL1iCacheHitRdFprfm incUnit s

/-- R827 L2I_CACHE_HIT_RD_FPRFM (0x81D1): Level 2 instruction cache demand fetch first hit, fetched by software prefetch. -/
def execL2iCacheHitRdFprfm (s : State) : Host.Outcome State Fault Refusal :=
  countEvent .l2iCacheHitRdFprfm (.sharedAs .l2iCache .l2iCache) occL2iCacheHitRdFprfm incUnit s

/-- R828 L1D_CACHE_HIT_RD_FPRFM (0x81D4): Level 1 data cache demand access first hit, read, fetched by software prefetch. -/
def execL1dCacheHitRdFprfm (s : State) : Host.Outcome State Fault Refusal :=
  countEvent .l1dCacheHitRdFprfm (.sharedAs .l1dCache .l1dCache) occL1dCacheHitRdFprfm incUnit s

/-- R829 L2D_CACHE_HIT_RD_FPRFM (0x81D5): Level 2 data cache demand access first hit, read, fetched by software prefetch. -/
def execL2dCacheHitRdFprfm (s : State) : Host.Outcome State Fault Refusal :=
  countEvent .l2dCacheHitRdFprfm (.sharedAs .l2dCache .l2dCache) occL2dCacheHitRdFprfm incUnit s

/-- R830 L3D_CACHE_HIT_RD_FPRFM (0x81D6): Level 3 data cache demand access first hit, read, fetched by software prefetch. -/
def execL3dCacheHitRdFprfm (s : State) : Host.Outcome State Fault Refusal :=
  countEvent .l3dCacheHitRdFprfm (.sharedAs .l3dCache .l3dCache) occL3dCacheHitRdFprfm incUnit s

/-- R831 LL_CACHE_HIT_RD_FPRFM (0x81D7): Last level cache demand access first hit, read, fetched by software prefetch. -/
def execLlCacheHitRdFprfm (s : State) : Host.Outcome State Fault Refusal :=
  countEvent .llCacheHitRdFprfm (.sharedAs .llCache .llCache) occLlCacheHitRdFprfm incUnit s

/-- R832 L1D_CACHE_HIT_WR_FPRFM (0x81D8): Level 1 data cache demand access first hit, write, fetched by software prefetch. -/
def execL1dCacheHitWrFprfm (s : State) : Host.Outcome State Fault Refusal :=
  countEvent .l1dCacheHitWrFprfm (.sharedAs .l1dCache .l1dCache) occL1dCacheHitWrFprfm incUnit s

/-- R833 L2D_CACHE_HIT_WR_FPRFM (0x81D9): Level 2 data cache demand access first hit, write, fetched by software prefetch. -/
def execL2dCacheHitWrFprfm (s : State) : Host.Outcome State Fault Refusal :=
  countEvent .l2dCacheHitWrFprfm (.sharedAs .l2dCache .l2dCache) occL2dCacheHitWrFprfm incUnit s

/-- R834 L3D_CACHE_HIT_WR_FPRFM (0x81DA): Level 3 data cache demand access first hit, write, fetched by software prefetch. -/
def execL3dCacheHitWrFprfm (s : State) : Host.Outcome State Fault Refusal :=
  countEvent .l3dCacheHitWrFprfm (.sharedAs .l3dCache .l3dCache) occL3dCacheHitWrFprfm incUnit s

/-- R835 LL_CACHE_HIT_WR_FPRFM (0x81DB): Last level cache demand access first hit, write, fetched by software prefetch. -/
def execLlCacheHitWrFprfm (s : State) : Host.Outcome State Fault Refusal :=
  countEvent .llCacheHitWrFprfm (.sharedAs .llCache .llCache) occLlCacheHitWrFprfm incUnit s

/-- R836 L1D_CACHE_HIT_RW_FPRFM (0x81DC): Level 1 data cache demand access first hit, fetched by software prefetch. -/
def execL1dCacheHitRwFprfm (s : State) : Host.Outcome State Fault Refusal :=
  countEvent .l1dCacheHitRwFprfm (.sharedAs .l1dCache .l1dCache) occL1dCacheHitRwFprfm incUnit s

/-- R837 L2D_CACHE_HIT_RW_FPRFM (0x81DD): Level 2 data cache demand access first hit, fetched by software prefetch. -/
def execL2dCacheHitRwFprfm (s : State) : Host.Outcome State Fault Refusal :=
  countEvent .l2dCacheHitRwFprfm (.sharedAs .l2dCache .l2dCache) occL2dCacheHitRwFprfm incUnit s

/-- R838 L3D_CACHE_HIT_RW_FPRFM (0x81DE): Level 3 data cache demand access first hit, fetched by software prefetch. -/
def execL3dCacheHitRwFprfm (s : State) : Host.Outcome State Fault Refusal :=
  countEvent .l3dCacheHitRwFprfm (.sharedAs .l3dCache .l3dCache) occL3dCacheHitRwFprfm incUnit s

/-- R839 LL_CACHE_HIT_RW_FPRFM (0x81DF): Last level cache demand access first hit, fetched by software prefetch. -/
def execLlCacheHitRwFprfm (s : State) : Host.Outcome State Fault Refusal :=
  countEvent .llCacheHitRwFprfm (.sharedAs .llCache .llCache) occLlCacheHitRwFprfm incUnit s

/-- R840 L1I_CACHE_HIT_RD_FHWPRF (0x81E0): Level 1 instruction cache demand fetch first hit, fetched by hardware prefetcher. -/
def execL1iCacheHitRdFhwprf (s : State) : Host.Outcome State Fault Refusal :=
  countEvent .l1iCacheHitRdFhwprf (.sharedAs .l1iCache .l1iCache) occL1iCacheHitRdFhwprf incUnit s

/-- R841 L2I_CACHE_HIT_RD_FHWPRF (0x81E1): Level 2 instruction cache demand fetch first hit, fetched by hardware prefetcher. -/
def execL2iCacheHitRdFhwprf (s : State) : Host.Outcome State Fault Refusal :=
  countEvent .l2iCacheHitRdFhwprf (.sharedAs .l2iCache .l2iCache) occL2iCacheHitRdFhwprf incUnit s

/-- R842 L1D_CACHE_HIT_RD_FHWPRF (0x81E4): Level 1 data cache demand access first hit, read, fetched by hardware prefetcher. -/
def execL1dCacheHitRdFhwprf (s : State) : Host.Outcome State Fault Refusal :=
  countEvent .l1dCacheHitRdFhwprf (.sharedAs .l1dCache .l1dCache) occL1dCacheHitRdFhwprf incUnit s

/-- R843 L2D_CACHE_HIT_RD_FHWPRF (0x81E5): Level 2 data cache demand access first hit, read, fetched by hardware prefetcher. -/
def execL2dCacheHitRdFhwprf (s : State) : Host.Outcome State Fault Refusal :=
  countEvent .l2dCacheHitRdFhwprf (.sharedAs .l2dCache .l2dCache) occL2dCacheHitRdFhwprf incUnit s

/-- R844 L3D_CACHE_HIT_RD_FHWPRF (0x81E6): Level 3 data cache demand access first hit, read, fetched by hardware prefetcher. -/
def execL3dCacheHitRdFhwprf (s : State) : Host.Outcome State Fault Refusal :=
  countEvent .l3dCacheHitRdFhwprf (.sharedAs .l3dCache .l3dCache) occL3dCacheHitRdFhwprf incUnit s

/-- R845 LL_CACHE_HIT_RD_FHWPRF (0x81E7): Last level cache demand access first hit, read, fetched by hardware prefetcher. -/
def execLlCacheHitRdFhwprf (s : State) : Host.Outcome State Fault Refusal :=
  countEvent .llCacheHitRdFhwprf (.sharedAs .llCache .llCache) occLlCacheHitRdFhwprf incUnit s

/-- R846 L1D_CACHE_HIT_WR_FHWPRF (0x81E8): Level 1 data cache demand access first hit, write, fetched by hardware prefetcher. -/
def execL1dCacheHitWrFhwprf (s : State) : Host.Outcome State Fault Refusal :=
  countEvent .l1dCacheHitWrFhwprf (.sharedAs .l1dCache .l1dCache) occL1dCacheHitWrFhwprf incUnit s

/-- R847 L2D_CACHE_HIT_WR_FHWPRF (0x81E9): Level 2 data cache demand access first hit, write, fetched by hardware prefetcher. -/
def execL2dCacheHitWrFhwprf (s : State) : Host.Outcome State Fault Refusal :=
  countEvent .l2dCacheHitWrFhwprf (.sharedAs .l2dCache .l2dCache) occL2dCacheHitWrFhwprf incUnit s

/-- R848 L3D_CACHE_HIT_WR_FHWPRF (0x81EA): Level 3 data cache demand access first hit, write, fetched by hardware prefetcher. -/
def execL3dCacheHitWrFhwprf (s : State) : Host.Outcome State Fault Refusal :=
  countEvent .l3dCacheHitWrFhwprf (.sharedAs .l3dCache .l3dCache) occL3dCacheHitWrFhwprf incUnit s

/-- R849 LL_CACHE_HIT_WR_FHWPRF (0x81EB): Last level cache demand access first hit, write, fetched by hardware prefetcher. -/
def execLlCacheHitWrFhwprf (s : State) : Host.Outcome State Fault Refusal :=
  countEvent .llCacheHitWrFhwprf (.sharedAs .llCache .llCache) occLlCacheHitWrFhwprf incUnit s

/-- R850 L1D_CACHE_HIT_RW_FHWPRF (0x81EC): Level 1 data cache demand access first hit, fetched by hardware prefetcher. -/
def execL1dCacheHitRwFhwprf (s : State) : Host.Outcome State Fault Refusal :=
  countEvent .l1dCacheHitRwFhwprf (.sharedAs .l1dCache .l1dCache) occL1dCacheHitRwFhwprf incUnit s

/-- R851 L2D_CACHE_HIT_RW_FHWPRF (0x81ED): Level 2 data cache demand access first hit, fetched by hardware prefetcher. -/
def execL2dCacheHitRwFhwprf (s : State) : Host.Outcome State Fault Refusal :=
  countEvent .l2dCacheHitRwFhwprf (.sharedAs .l2dCache .l2dCache) occL2dCacheHitRwFhwprf incUnit s

/-- R852 L3D_CACHE_HIT_RW_FHWPRF (0x81EE): Level 3 data cache demand access first hit, fetched by hardware prefetcher. -/
def execL3dCacheHitRwFhwprf (s : State) : Host.Outcome State Fault Refusal :=
  countEvent .l3dCacheHitRwFhwprf (.sharedAs .l3dCache .l3dCache) occL3dCacheHitRwFhwprf incUnit s

/-- R853 LL_CACHE_HIT_RW_FHWPRF (0x81EF): Last level cache demand access first hit, fetched by hardware prefetcher. -/
def execLlCacheHitRwFhwprf (s : State) : Host.Outcome State Fault Refusal :=
  countEvent .llCacheHitRwFhwprf (.sharedAs .llCache .llCache) occLlCacheHitRwFhwprf incUnit s

/-- R854 L1I_CACHE_HIT_RD_FPRF (0x81F0): Level 1 instruction cache demand fetch first hit, fetched by prefetch. -/
def execL1iCacheHitRdFprf (s : State) : Host.Outcome State Fault Refusal :=
  countEvent .l1iCacheHitRdFprf (.sharedAs .l1iCache .l1iCache) occL1iCacheHitRdFprf incUnit s

/-- R855 L2I_CACHE_HIT_RD_FPRF (0x81F1): Level 2 instruction cache demand fetch first hit, fetched by prefetch. -/
def execL2iCacheHitRdFprf (s : State) : Host.Outcome State Fault Refusal :=
  countEvent .l2iCacheHitRdFprf (.sharedAs .l2iCache .l2iCache) occL2iCacheHitRdFprf incUnit s

/-- R856 L1D_CACHE_HIT_RD_FPRF (0x81F4): Level 1 data cache demand access first hit, read, fetched by prefetch. -/
def execL1dCacheHitRdFprf (s : State) : Host.Outcome State Fault Refusal :=
  countEvent .l1dCacheHitRdFprf (.sharedAs .l1dCache .l1dCache) occL1dCacheHitRdFprf incUnit s

/-- R857 L2D_CACHE_HIT_RD_FPRF (0x81F5): Level 2 data cache demand access first hit, read, fetched by prefetch. -/
def execL2dCacheHitRdFprf (s : State) : Host.Outcome State Fault Refusal :=
  countEvent .l2dCacheHitRdFprf (.sharedAs .l2dCache .l2dCache) occL2dCacheHitRdFprf incUnit s

/-- R858 L3D_CACHE_HIT_RD_FPRF (0x81F6): Level 3 data cache demand access first hit, read, fetched by prefetch. -/
def execL3dCacheHitRdFprf (s : State) : Host.Outcome State Fault Refusal :=
  countEvent .l3dCacheHitRdFprf (.sharedAs .l3dCache .l3dCache) occL3dCacheHitRdFprf incUnit s

/-- R859 LL_CACHE_HIT_RD_FPRF (0x81F7): Last level cache demand access first hit, read, fetched by prefetch. -/
def execLlCacheHitRdFprf (s : State) : Host.Outcome State Fault Refusal :=
  countEvent .llCacheHitRdFprf (.sharedAs .llCache .llCache) occLlCacheHitRdFprf incUnit s

/-- R860 L1D_CACHE_HIT_WR_FPRF (0x81F8): Level 1 data cache demand access first hit, write, fetched by prefetch. -/
def execL1dCacheHitWrFprf (s : State) : Host.Outcome State Fault Refusal :=
  countEvent .l1dCacheHitWrFprf (.sharedAs .l1dCache .l1dCache) occL1dCacheHitWrFprf incUnit s

/-- R861 L2D_CACHE_HIT_WR_FPRF (0x81F9): Level 2 data cache demand access first hit, write, fetched by prefetch. -/
def execL2dCacheHitWrFprf (s : State) : Host.Outcome State Fault Refusal :=
  countEvent .l2dCacheHitWrFprf (.sharedAs .l2dCache .l2dCache) occL2dCacheHitWrFprf incUnit s

/-- R862 L3D_CACHE_HIT_WR_FPRF (0x81FA): Level 3 data cache demand access first hit, write, fetched by prefetch. -/
def execL3dCacheHitWrFprf (s : State) : Host.Outcome State Fault Refusal :=
  countEvent .l3dCacheHitWrFprf (.sharedAs .l3dCache .l3dCache) occL3dCacheHitWrFprf incUnit s

/-- R863 LL_CACHE_HIT_WR_FPRF (0x81FB): Last level cache demand access first hit, write, fetched by prefetch. -/
def execLlCacheHitWrFprf (s : State) : Host.Outcome State Fault Refusal :=
  countEvent .llCacheHitWrFprf (.sharedAs .llCache .llCache) occLlCacheHitWrFprf incUnit s

/-- R864 L1D_CACHE_HIT_RW_FPRF (0x81FC): Level 1 data cache demand access first hit, fetched by prefetch. -/
def execL1dCacheHitRwFprf (s : State) : Host.Outcome State Fault Refusal :=
  countEvent .l1dCacheHitRwFprf (.sharedAs .l1dCache .l1dCache) occL1dCacheHitRwFprf incUnit s

/-- R865 L2D_CACHE_HIT_RW_FPRF (0x81FD): Level 2 data cache demand access first hit, fetched by prefetch. -/
def execL2dCacheHitRwFprf (s : State) : Host.Outcome State Fault Refusal :=
  countEvent .l2dCacheHitRwFprf (.sharedAs .l2dCache .l2dCache) occL2dCacheHitRwFprf incUnit s

/-- R866 L3D_CACHE_HIT_RW_FPRF (0x81FE): Level 3 data cache demand access first hit, fetched by prefetch. -/
def execL3dCacheHitRwFprf (s : State) : Host.Outcome State Fault Refusal :=
  countEvent .l3dCacheHitRwFprf (.sharedAs .l3dCache .l3dCache) occL3dCacheHitRwFprf incUnit s

/-- R867 LL_CACHE_HIT_RW_FPRF (0x81FF): Last level cache demand access first hit, fetched by prefetch. -/
def execLlCacheHitRwFprf (s : State) : Host.Outcome State Fault Refusal :=
  countEvent .llCacheHitRwFprf (.sharedAs .llCache .llCache) occLlCacheHitRwFprf incUnit s

/-- R868 L1I_CACHE_HIT (0x8200): Level 1 instruction cache hit. -/
def execL1iCacheHit (s : State) : Host.Outcome State Fault Refusal :=
  countEvent .l1iCacheHit (.sharedAs .l1iCache .l1iCache) occL1iCacheHit incUnit s

/-- R869 L2I_CACHE_HIT (0x8201): Level 2 instruction cache hit. -/
def execL2iCacheHit (s : State) : Host.Outcome State Fault Refusal :=
  countEvent .l2iCacheHit (.sharedAs .l2iCache .l2iCache) occL2iCacheHit incUnit s

/-- R870 L1D_CACHE_HIT (0x8204): Level 1 data cache hit. -/
def execL1dCacheHit (s : State) : Host.Outcome State Fault Refusal :=
  countEvent .l1dCacheHit (.sharedAs .l1dCache .l1dCache) occL1dCacheHit incUnit s

/-- R871 L2D_CACHE_HIT (0x8205): Level 2 data cache hit. -/
def execL2dCacheHit (s : State) : Host.Outcome State Fault Refusal :=
  countEvent .l2dCacheHit (.sharedAs .l2dCache .l2dCache) occL2dCacheHit incUnit s

/-- R872 L3D_CACHE_HIT (0x8206): Level 3 data cache hit. -/
def execL3dCacheHit (s : State) : Host.Outcome State Fault Refusal :=
  countEvent .l3dCacheHit (.sharedAs .l3dCache .l3dCache) occL3dCacheHit incUnit s

/-- R873 LL_CACHE_HIT (0x8207): Last level cache hit. -/
def execLlCacheHit (s : State) : Host.Outcome State Fault Refusal :=
  countEvent .llCacheHit (.sharedAs .llCache .llCache) occLlCacheHit incUnit s

/-- R874 L1I_CACHE_HIT_PRFM (0x8208): Level 1 instruction cache software prefetch hit. -/
def execL1iCacheHitPrfm (s : State) : Host.Outcome State Fault Refusal :=
  countEvent .l1iCacheHitPrfm (.sharedAs .l1iCache .l1iCache) occL1iCacheHitPrfm incUnit s

/-- R875 L2I_CACHE_HIT_PRFM (0x8209): Level 2 instruction cache software prefetch hit. -/
def execL2iCacheHitPrfm (s : State) : Host.Outcome State Fault Refusal :=
  countEvent .l2iCacheHitPrfm (.sharedAs .l2iCache .l2iCache) occL2iCacheHitPrfm incUnit s

/-- R876 L1D_CACHE_HIT_PRFM (0x820C): Level 1 data cache software prefetch hit. -/
def execL1dCacheHitPrfm (s : State) : Host.Outcome State Fault Refusal :=
  countEvent .l1dCacheHitPrfm (.sharedAs .l1dCache .l1dCache) occL1dCacheHitPrfm incUnit s

/-- R877 L2D_CACHE_HIT_PRFM (0x820D): Level 2 data cache software prefetch hit. -/
def execL2dCacheHitPrfm (s : State) : Host.Outcome State Fault Refusal :=
  countEvent .l2dCacheHitPrfm (.sharedAs .l2dCache .l2dCache) occL2dCacheHitPrfm incUnit s

/-- R878 L3D_CACHE_HIT_PRFM (0x820E): Level 3 data cache software prefetch hit. -/
def execL3dCacheHitPrfm (s : State) : Host.Outcome State Fault Refusal :=
  countEvent .l3dCacheHitPrfm (.sharedAs .l3dCache .l3dCache) occL3dCacheHitPrfm incUnit s

/-- R879 LL_CACHE_HIT_PRFM (0x820F): Last level cache software prefetch hit. -/
def execLlCacheHitPrfm (s : State) : Host.Outcome State Fault Refusal :=
  countEvent .llCacheHitPrfm (.sharedAs .llCache .llCache) occLlCacheHitPrfm incUnit s

/-- R880 L1D_CACHE_HITM_RD (0x8214): Level 1 data cache demand access hit modified, read. -/
def execL1dCacheHitmRd (s : State) : Host.Outcome State Fault Refusal :=
  countEvent .l1dCacheHitmRd (.sharedAs .l1dCacheRd .l1dCache) occL1dCacheHitmRd incUnit s

/-- R881 L2D_CACHE_HITM_RD (0x8215): Level 2 data cache demand access hit modified, read. -/
def execL2dCacheHitmRd (s : State) : Host.Outcome State Fault Refusal :=
  countEvent .l2dCacheHitmRd (.sharedAs .l2dCacheRd .l2dCache) occL2dCacheHitmRd incUnit s

/-- R882 L3D_CACHE_HITM_RD (0x8216): Level 3 data cache demand access hit modified, read. -/
def execL3dCacheHitmRd (s : State) : Host.Outcome State Fault Refusal :=
  countEvent .l3dCacheHitmRd (.sharedAs .l3dCacheRd .l3dCache) occL3dCacheHitmRd incUnit s

/-- R883 LL_CACHE_HITM_RD (0x8217): Last level cache demand access hit modified, read. -/
def execLlCacheHitmRd (s : State) : Host.Outcome State Fault Refusal :=
  countEvent .llCacheHitmRd (.sharedAs .llCacheRd .llCache) occLlCacheHitmRd incUnit s

/-- R884 L1D_CACHE_HITM_WR (0x8218): Level 1 data cache demand access hit modified, write. -/
def execL1dCacheHitmWr (s : State) : Host.Outcome State Fault Refusal :=
  countEvent .l1dCacheHitmWr (.sharedAs .l1dCacheWr .l1dCache) occL1dCacheHitmWr incUnit s

/-- R885 L2D_CACHE_HITM_WR (0x8219): Level 2 data cache demand access hit modified, write. -/
def execL2dCacheHitmWr (s : State) : Host.Outcome State Fault Refusal :=
  countEvent .l2dCacheHitmWr (.sharedAs .l2dCacheWr .l2dCache) occL2dCacheHitmWr incUnit s

/-- R886 L3D_CACHE_HITM_WR (0x821A): Level 3 data cache demand access hit modified, write. -/
def execL3dCacheHitmWr (s : State) : Host.Outcome State Fault Refusal :=
  countEvent .l3dCacheHitmWr (.sharedAs .l3dCacheWr .l3dCache) occL3dCacheHitmWr incUnit s

/-- R887 LL_CACHE_HITM_WR (0x821B): Last level cache demand access hit modified, write. -/
def execLlCacheHitmWr (s : State) : Host.Outcome State Fault Refusal :=
  countEvent .llCacheHitmWr (.sharedAs .llCacheWr .llCache) occLlCacheHitmWr incUnit s

/-- R888 L1D_CACHE_HITM_RW (0x821C): Level 1 data cache demand access hit modified. -/
def execL1dCacheHitmRw (s : State) : Host.Outcome State Fault Refusal :=
  countEvent .l1dCacheHitmRw (.sharedAs .l1dCache .l1dCache) occL1dCacheHitmRw incUnit s

/-- R889 L2D_CACHE_HITM_RW (0x821D): Level 2 data cache demand access hit modified. -/
def execL2dCacheHitmRw (s : State) : Host.Outcome State Fault Refusal :=
  countEvent .l2dCacheHitmRw (.sharedAs .l2dCache .l2dCache) occL2dCacheHitmRw incUnit s

/-- R890 L3D_CACHE_HITM_RW (0x821E): Level 3 data cache demand access hit modified. -/
def execL3dCacheHitmRw (s : State) : Host.Outcome State Fault Refusal :=
  countEvent .l3dCacheHitmRw (.sharedAs .l3dCache .l3dCache) occL3dCacheHitmRw incUnit s

/-- R891 LL_CACHE_HITM_RW (0x821F): Last level cache demand access hit modified. -/
def execLlCacheHitmRw (s : State) : Host.Outcome State Fault Refusal :=
  countEvent .llCacheHitmRw (.sharedAs .llCache .llCache) occLlCacheHitmRw incUnit s

/-- R892 DSNP_HITM_RD (0x8224): Snoop hit, demand data read, modified. -/
def execDsnpHitmRd (s : State) : Host.Outcome State Fault Refusal :=
  countEvent .dsnpHitmRd .own occDsnpHitmRd incUnit s

/-- R893 DSNP_HITM_NEAR_RD (0x8225): Snoop hit in near local cache, demand data read, modified. -/
def execDsnpHitmNearRd (s : State) : Host.Outcome State Fault Refusal :=
  countEvent .dsnpHitmNearRd .own occDsnpHitmNearRd incUnit s

/-- R894 DSNP_HITM_FAR_RD (0x8226): Snoop hit in far local cache, demand data read, modified. -/
def execDsnpHitmFarRd (s : State) : Host.Outcome State Fault Refusal :=
  countEvent .dsnpHitmFarRd .own occDsnpHitmFarRd incUnit s

/-- R895 DSNP_HITM_REMOTE_RD (0x8227): Snoop hit in remote cache, demand data read, modified. -/
def execDsnpHitmRemoteRd (s : State) : Host.Outcome State Fault Refusal :=
  countEvent .dsnpHitmRemoteRd .own occDsnpHitmRemoteRd incUnit s

/-- R896 DSNP_HITM_WR (0x8228): Snoop hit, demand data write, modified. -/
def execDsnpHitmWr (s : State) : Host.Outcome State Fault Refusal :=
  countEvent .dsnpHitmWr .own occDsnpHitmWr incUnit s

/-- R897 DSNP_HITM_NEAR_WR (0x8229): Snoop hit in near local cache, demand data write, modified. -/
def execDsnpHitmNearWr (s : State) : Host.Outcome State Fault Refusal :=
  countEvent .dsnpHitmNearWr .own occDsnpHitmNearWr incUnit s

/-- R898 DSNP_HITM_FAR_WR (0x822A): Snoop hit in far local cache, demand data write, modified. -/
def execDsnpHitmFarWr (s : State) : Host.Outcome State Fault Refusal :=
  countEvent .dsnpHitmFarWr .own occDsnpHitmFarWr incUnit s

/-- R899 DSNP_HITM_REMOTE_WR (0x822B): Snoop hit in remote cache, demand data write, modified. -/
def execDsnpHitmRemoteWr (s : State) : Host.Outcome State Fault Refusal :=
  countEvent .dsnpHitmRemoteWr .own occDsnpHitmRemoteWr incUnit s

/-- R900 DSNP_HITM_RW (0x822C): Snoop hit, demand data access, modified. -/
def execDsnpHitmRw (s : State) : Host.Outcome State Fault Refusal :=
  countEvent .dsnpHitmRw .own occDsnpHitmRw incUnit s

/-- R901 DSNP_HITM_NEAR_RW (0x822D): Snoop hit in near local cache, demand data access, modified. -/
def execDsnpHitmNearRw (s : State) : Host.Outcome State Fault Refusal :=
  countEvent .dsnpHitmNearRw .own occDsnpHitmNearRw incUnit s

/-- R902 DSNP_HITM_FAR_RW (0x822E): Snoop hit in far local cache, demand data access, modified. -/
def execDsnpHitmFarRw (s : State) : Host.Outcome State Fault Refusal :=
  countEvent .dsnpHitmFarRw .own occDsnpHitmFarRw incUnit s

/-- R903 DSNP_HITM_REMOTE_RW (0x822F): Snoop hit in remote cache, demand data access, modified. -/
def execDsnpHitmRemoteRw (s : State) : Host.Outcome State Fault Refusal :=
  countEvent .dsnpHitmRemoteRw .own occDsnpHitmRemoteRw incUnit s

/-- R904 LOCAL_MEM (0x8230): Access to memory attached to this device. -/
def execLocalMem (s : State) : Host.Outcome State Fault Refusal :=
  countEvent .localMem .own occLocalMem incUnit s

/-- R905 LOCAL_MEM_RD (0x8231): Access to memory attached to this device, demand access, read. -/
def execLocalMemRd (s : State) : Host.Outcome State Fault Refusal :=
  countEvent .localMemRd .own occLocalMemRd incUnit s

/-- R906 LOCAL_MEM_WR (0x8232): Access to memory attached to this device, demand access, write. -/
def execLocalMemWr (s : State) : Host.Outcome State Fault Refusal :=
  countEvent .localMemWr .own occLocalMemWr incUnit s

/-- R907 LOCAL_MEM_RW (0x8233): Access to memory attached to this device, demand access. -/
def execLocalMemRw (s : State) : Host.Outcome State Fault Refusal :=
  countEvent .localMemRw .own occLocalMemRw incUnit s

/-- R908 LOCAL_MEM_PRFM (0x8234): Access to memory attached to this device, software prefetch. -/
def execLocalMemPrfm (s : State) : Host.Outcome State Fault Refusal :=
  countEvent .localMemPrfm .own occLocalMemPrfm incUnit s

/-- R909 LOCAL_MEM_LD_RETIRED (0x8235): Load instruction architecturally executed, access to memory attached to this device. -/
def execLocalMemLdRetired (s : State) : Host.Outcome State Fault Refusal :=
  countEvent .localMemLdRetired .own occLocalMemLdRetired incUnit s

/-- R910 LOCAL_MEM_ST_RETIRED (0x8236): Store instruction architecturally executed, access to memory attached to this device. -/
def execLocalMemStRetired (s : State) : Host.Outcome State Fault Refusal :=
  countEvent .localMemStRetired .own occLocalMemStRetired incUnit s

/-- R911 LOCAL_MEM_LDST_RETIRED (0x8237): Load or store instruction architecturally executed, access to memory attached to this device. -/
def execLocalMemLdstRetired (s : State) : Host.Outcome State Fault Refusal :=
  countEvent .localMemLdstRetired .own occLocalMemLdstRetired incUnit s

/-- R912 REMOTE_MEM (0x8238): Access to memory attached to a remote device. -/
def execRemoteMem (s : State) : Host.Outcome State Fault Refusal :=
  countEvent .remoteMem .own occRemoteMem incUnit s

/-- R913 REMOTE_MEM_RD (0x8239): Access to memory attached to a remote device, demand access, read. -/
def execRemoteMemRd (s : State) : Host.Outcome State Fault Refusal :=
  countEvent .remoteMemRd .own occRemoteMemRd incUnit s

/-- R914 REMOTE_MEM_WR (0x823A): Access to memory attached to a remote device, demand access, write. -/
def execRemoteMemWr (s : State) : Host.Outcome State Fault Refusal :=
  countEvent .remoteMemWr .own occRemoteMemWr incUnit s

/-- R915 REMOTE_MEM_RW (0x823B): Access to memory attached to a remote device, demand access. -/
def execRemoteMemRw (s : State) : Host.Outcome State Fault Refusal :=
  countEvent .remoteMemRw .own occRemoteMemRw incUnit s

/-- R916 REMOTE_MEM_PRFM (0x823C): Access to memory attached to a remote device, software prefetch. -/
def execRemoteMemPrfm (s : State) : Host.Outcome State Fault Refusal :=
  countEvent .remoteMemPrfm .own occRemoteMemPrfm incUnit s

/-- R917 REMOTE_MEM_LD_RETIRED (0x823D): Load instruction architecturally executed, access to memory attached to a remote device. -/
def execRemoteMemLdRetired (s : State) : Host.Outcome State Fault Refusal :=
  countEvent .remoteMemLdRetired .own occRemoteMemLdRetired incUnit s

/-- R918 REMOTE_MEM_ST_RETIRED (0x823E): Store instruction architecturally executed, access to memory attached to a remote device. -/
def execRemoteMemStRetired (s : State) : Host.Outcome State Fault Refusal :=
  countEvent .remoteMemStRetired .own occRemoteMemStRetired incUnit s

/-- R919 REMOTE_MEM_LDST_RETIRED (0x823F): Load or store instruction architecturally executed, access to memory attached to a remote device. -/
def execRemoteMemLdstRetired (s : State) : Host.Outcome State Fault Refusal :=
  countEvent .remoteMemLdstRetired .own occRemoteMemLdstRetired incUnit s

/-- R920 L1I_LFB_HIT_RD (0x8240): Level 1 instruction cache demand fetch line-fill buffer hit. -/
def execL1iLfbHitRd (s : State) : Host.Outcome State Fault Refusal :=
  countEvent .l1iLfbHitRd (.sharedAs .l1iCache .l1iCache) occL1iLfbHitRd incUnit s

/-- R921 L2I_LFB_HIT_RD (0x8241): Level 2 instruction cache demand fetch line-fill buffer hit. -/
def execL2iLfbHitRd (s : State) : Host.Outcome State Fault Refusal :=
  countEvent .l2iLfbHitRd (.sharedAs .l2iCache .l2iCache) occL2iLfbHitRd incUnit s

/-- R922 L1D_LFB_HIT_RD (0x8244): Level 1 data cache demand access line-fill buffer hit, read. -/
def execL1dLfbHitRd (s : State) : Host.Outcome State Fault Refusal :=
  countEvent .l1dLfbHitRd (.sharedAs .l1dCacheRd .l1dCache) occL1dLfbHitRd incUnit s

/-- R923 L2D_LFB_HIT_RD (0x8245): Level 2 data cache demand access line-fill buffer hit, read. -/
def execL2dLfbHitRd (s : State) : Host.Outcome State Fault Refusal :=
  countEvent .l2dLfbHitRd (.sharedAs .l2dCacheRd .l2dCache) occL2dLfbHitRd incUnit s

/-- R924 L3D_LFB_HIT_RD (0x8246): Level 3 data cache demand access line-fill buffer hit, read. -/
def execL3dLfbHitRd (s : State) : Host.Outcome State Fault Refusal :=
  countEvent .l3dLfbHitRd (.sharedAs .l3dCacheRd .l3dCache) occL3dLfbHitRd incUnit s

/-- R925 LL_LFB_HIT_RD (0x8247): Last level cache demand access line-fill buffer hit, read. -/
def execLlLfbHitRd (s : State) : Host.Outcome State Fault Refusal :=
  countEvent .llLfbHitRd (.sharedAs .llCacheRd .llCache) occLlLfbHitRd incUnit s

/-- R926 L1D_LFB_HIT_WR (0x8248): Level 1 data cache demand access line-fill buffer hit, write. -/
def execL1dLfbHitWr (s : State) : Host.Outcome State Fault Refusal :=
  countEvent .l1dLfbHitWr (.sharedAs .l1dCacheWr .l1dCache) occL1dLfbHitWr incUnit s

/-- R927 L2D_LFB_HIT_WR (0x8249): Level 2 data cache demand access line-fill buffer hit, write. -/
def execL2dLfbHitWr (s : State) : Host.Outcome State Fault Refusal :=
  countEvent .l2dLfbHitWr (.sharedAs .l2dCacheWr .l2dCache) occL2dLfbHitWr incUnit s

/-- R928 L3D_LFB_HIT_WR (0x824A): Level 3 data cache demand access line-fill buffer hit, write. -/
def execL3dLfbHitWr (s : State) : Host.Outcome State Fault Refusal :=
  countEvent .l3dLfbHitWr (.sharedAs .l3dCacheWr .l3dCache) occL3dLfbHitWr incUnit s

/-- R929 LL_LFB_HIT_WR (0x824B): Last level cache demand access line-fill buffer hit, write. -/
def execLlLfbHitWr (s : State) : Host.Outcome State Fault Refusal :=
  countEvent .llLfbHitWr (.sharedAs .llCacheWr .llCache) occLlLfbHitWr incUnit s

/-- R930 L1D_LFB_HIT_RW (0x824C): Level 1 data cache demand access line-fill buffer hit. -/
def execL1dLfbHitRw (s : State) : Host.Outcome State Fault Refusal :=
  countEvent .l1dLfbHitRw (.sharedAs .l1dCache .l1dCache) occL1dLfbHitRw incUnit s

/-- R931 L2D_LFB_HIT_RW (0x824D): Level 2 data cache demand access line-fill buffer hit. -/
def execL2dLfbHitRw (s : State) : Host.Outcome State Fault Refusal :=
  countEvent .l2dLfbHitRw (.sharedAs .l2dCache .l2dCache) occL2dLfbHitRw incUnit s

/-- R932 L3D_LFB_HIT_RW (0x824E): Level 3 data cache demand access line-fill buffer hit. -/
def execL3dLfbHitRw (s : State) : Host.Outcome State Fault Refusal :=
  countEvent .l3dLfbHitRw (.sharedAs .l3dCache .l3dCache) occL3dLfbHitRw incUnit s

/-- R933 LL_LFB_HIT_RW (0x824F): Last level cache demand access line-fill buffer hit. -/
def execLlLfbHitRw (s : State) : Host.Outcome State Fault Refusal :=
  countEvent .llLfbHitRw (.sharedAs .llCache .llCache) occLlLfbHitRw incUnit s

/-- R934 L1I_LFB_HIT_RD_FPRFM (0x8250): Level 1 instruction cache demand fetch line-fill buffer first hit, recently fetched by software prefetch. -/
def execL1iLfbHitRdFprfm (s : State) : Host.Outcome State Fault Refusal :=
  countEvent .l1iLfbHitRdFprfm (.sharedAs .l1iCache .l1iCache) occL1iLfbHitRdFprfm incUnit s

/-- R935 L2I_LFB_HIT_RD_FPRFM (0x8251): Level 2 instruction cache demand fetch line-fill buffer first hit, recently fetched by software prefetch. -/
def execL2iLfbHitRdFprfm (s : State) : Host.Outcome State Fault Refusal :=
  countEvent .l2iLfbHitRdFprfm (.sharedAs .l2iCache .l2iCache) occL2iLfbHitRdFprfm incUnit s

/-- R936 L1D_LFB_HIT_RD_FPRFM (0x8254): Level 1 data cache demand access line-fill buffer first hit, read, recently fetched by software prefetch. -/
def execL1dLfbHitRdFprfm (s : State) : Host.Outcome State Fault Refusal :=
  countEvent .l1dLfbHitRdFprfm (.sharedAs .l1dCache .l1dCache) occL1dLfbHitRdFprfm incUnit s

/-- R937 L2D_LFB_HIT_RD_FPRFM (0x8255): Level 2 data cache demand access line-fill buffer first hit, read, recently fetched by software prefetch. -/
def execL2dLfbHitRdFprfm (s : State) : Host.Outcome State Fault Refusal :=
  countEvent .l2dLfbHitRdFprfm (.sharedAs .l2dCache .l2dCache) occL2dLfbHitRdFprfm incUnit s

/-- R938 L3D_LFB_HIT_RD_FPRFM (0x8256): Level 3 data cache demand access line-fill buffer first hit, read, recently fetched by software prefetch. -/
def execL3dLfbHitRdFprfm (s : State) : Host.Outcome State Fault Refusal :=
  countEvent .l3dLfbHitRdFprfm (.sharedAs .l3dCache .l3dCache) occL3dLfbHitRdFprfm incUnit s

/-- R939 LL_LFB_HIT_RD_FPRFM (0x8257): Last level cache demand access line-fill buffer first hit, read, recently fetched by software prefetch. -/
def execLlLfbHitRdFprfm (s : State) : Host.Outcome State Fault Refusal :=
  countEvent .llLfbHitRdFprfm (.sharedAs .llCache .llCache) occLlLfbHitRdFprfm incUnit s

/-- R940 L1D_LFB_HIT_WR_FPRFM (0x8258): Level 1 data cache demand access line-fill buffer first hit, write, recently fetched by software prefetch. -/
def execL1dLfbHitWrFprfm (s : State) : Host.Outcome State Fault Refusal :=
  countEvent .l1dLfbHitWrFprfm (.sharedAs .l1dCache .l1dCache) occL1dLfbHitWrFprfm incUnit s

/-- R941 L2D_LFB_HIT_WR_FPRFM (0x8259): Level 2 data cache demand access line-fill buffer first hit, write, recently fetched by software prefetch. -/
def execL2dLfbHitWrFprfm (s : State) : Host.Outcome State Fault Refusal :=
  countEvent .l2dLfbHitWrFprfm (.sharedAs .l2dCache .l2dCache) occL2dLfbHitWrFprfm incUnit s

/-- R942 L3D_LFB_HIT_WR_FPRFM (0x825A): Level 3 data cache demand access line-fill buffer first hit, write, recently fetched by software prefetch. -/
def execL3dLfbHitWrFprfm (s : State) : Host.Outcome State Fault Refusal :=
  countEvent .l3dLfbHitWrFprfm (.sharedAs .l3dCache .l3dCache) occL3dLfbHitWrFprfm incUnit s

/-- R943 LL_LFB_HIT_WR_FPRFM (0x825B): Last level cache demand access line-fill buffer first hit, write, recently fetched by software prefetch. -/
def execLlLfbHitWrFprfm (s : State) : Host.Outcome State Fault Refusal :=
  countEvent .llLfbHitWrFprfm (.sharedAs .llCache .llCache) occLlLfbHitWrFprfm incUnit s

/-- R944 L1D_LFB_HIT_RW_FPRFM (0x825C): Level 1 data cache demand access line-fill buffer first hit, recently fetched by software prefetch. -/
def execL1dLfbHitRwFprfm (s : State) : Host.Outcome State Fault Refusal :=
  countEvent .l1dLfbHitRwFprfm (.sharedAs .l1dCache .l1dCache) occL1dLfbHitRwFprfm incUnit s

/-- R945 L2D_LFB_HIT_RW_FPRFM (0x825D): Level 2 data cache demand access line-fill buffer first hit, recently fetched by software prefetch. -/
def execL2dLfbHitRwFprfm (s : State) : Host.Outcome State Fault Refusal :=
  countEvent .l2dLfbHitRwFprfm (.sharedAs .l2dCache .l2dCache) occL2dLfbHitRwFprfm incUnit s

/-- R946 L3D_LFB_HIT_RW_FPRFM (0x825E): Level 3 data cache demand access line-fill buffer first hit, recently fetched by software prefetch. -/
def execL3dLfbHitRwFprfm (s : State) : Host.Outcome State Fault Refusal :=
  countEvent .l3dLfbHitRwFprfm (.sharedAs .l3dCache .l3dCache) occL3dLfbHitRwFprfm incUnit s

/-- R947 LL_LFB_HIT_RW_FPRFM (0x825F): Last level cache demand access line-fill buffer first hit, recently fetched by software prefetch. -/
def execLlLfbHitRwFprfm (s : State) : Host.Outcome State Fault Refusal :=
  countEvent .llLfbHitRwFprfm (.sharedAs .llCache .llCache) occLlLfbHitRwFprfm incUnit s

/-- R948 L1I_LFB_HIT_RD_FHWPRF (0x8260): Level 1 instruction cache demand fetch line-fill buffer first hit, recently fetched by hardware prefetcher. -/
def execL1iLfbHitRdFhwprf (s : State) : Host.Outcome State Fault Refusal :=
  countEvent .l1iLfbHitRdFhwprf (.sharedAs .l1iCache .l1iCache) occL1iLfbHitRdFhwprf incUnit s

/-- R949 L2I_LFB_HIT_RD_FHWPRF (0x8261): Level 2 instruction cache demand fetch line-fill buffer first hit, recently fetched by hardware prefetcher. -/
def execL2iLfbHitRdFhwprf (s : State) : Host.Outcome State Fault Refusal :=
  countEvent .l2iLfbHitRdFhwprf (.sharedAs .l2iCache .l2iCache) occL2iLfbHitRdFhwprf incUnit s

/-- R950 L1D_LFB_HIT_RD_FHWPRF (0x8264): Level 1 data cache demand access line-fill buffer first hit, read, recently fetched by hardware prefetcher. -/
def execL1dLfbHitRdFhwprf (s : State) : Host.Outcome State Fault Refusal :=
  countEvent .l1dLfbHitRdFhwprf (.sharedAs .l1dCache .l1dCache) occL1dLfbHitRdFhwprf incUnit s

/-- R951 L2D_LFB_HIT_RD_FHWPRF (0x8265): Level 2 data cache demand access line-fill buffer first hit, read, recently fetched by hardware prefetcher. -/
def execL2dLfbHitRdFhwprf (s : State) : Host.Outcome State Fault Refusal :=
  countEvent .l2dLfbHitRdFhwprf (.sharedAs .l2dCache .l2dCache) occL2dLfbHitRdFhwprf incUnit s

/-- R952 L3D_LFB_HIT_RD_FHWPRF (0x8266): Level 3 data cache demand access line-fill buffer first hit, read, recently fetched by hardware prefetcher. -/
def execL3dLfbHitRdFhwprf (s : State) : Host.Outcome State Fault Refusal :=
  countEvent .l3dLfbHitRdFhwprf (.sharedAs .l3dCache .l3dCache) occL3dLfbHitRdFhwprf incUnit s

/-- R953 LL_LFB_HIT_RD_FHWPRF (0x8267): Last level cache demand access line-fill buffer first hit, read, recently fetched by hardware prefetcher. -/
def execLlLfbHitRdFhwprf (s : State) : Host.Outcome State Fault Refusal :=
  countEvent .llLfbHitRdFhwprf (.sharedAs .llCache .llCache) occLlLfbHitRdFhwprf incUnit s

/-- R954 L1D_LFB_HIT_WR_FHWPRF (0x8268): Level 1 data cache demand access line-fill buffer first hit, write, recently fetched by hardware prefetcher. -/
def execL1dLfbHitWrFhwprf (s : State) : Host.Outcome State Fault Refusal :=
  countEvent .l1dLfbHitWrFhwprf (.sharedAs .l1dCache .l1dCache) occL1dLfbHitWrFhwprf incUnit s

/-- R955 L2D_LFB_HIT_WR_FHWPRF (0x8269): Level 2 data cache demand access line-fill buffer first hit, write, recently fetched by hardware prefetcher. -/
def execL2dLfbHitWrFhwprf (s : State) : Host.Outcome State Fault Refusal :=
  countEvent .l2dLfbHitWrFhwprf (.sharedAs .l2dCache .l2dCache) occL2dLfbHitWrFhwprf incUnit s

/-- R956 L3D_LFB_HIT_WR_FHWPRF (0x826A): Level 3 data cache demand access line-fill buffer first hit, write, recently fetched by hardware prefetcher. -/
def execL3dLfbHitWrFhwprf (s : State) : Host.Outcome State Fault Refusal :=
  countEvent .l3dLfbHitWrFhwprf (.sharedAs .l3dCache .l3dCache) occL3dLfbHitWrFhwprf incUnit s

/-- R957 LL_LFB_HIT_WR_FHWPRF (0x826B): Last level cache demand access line-fill buffer first hit, write, recently fetched by hardware prefetcher. -/
def execLlLfbHitWrFhwprf (s : State) : Host.Outcome State Fault Refusal :=
  countEvent .llLfbHitWrFhwprf (.sharedAs .llCache .llCache) occLlLfbHitWrFhwprf incUnit s

/-- R958 L1D_LFB_HIT_RW_FHWPRF (0x826C): Level 1 data cache demand access line-fill buffer first hit, recently fetched by hardware prefetcher. -/
def execL1dLfbHitRwFhwprf (s : State) : Host.Outcome State Fault Refusal :=
  countEvent .l1dLfbHitRwFhwprf (.sharedAs .l1dCache .l1dCache) occL1dLfbHitRwFhwprf incUnit s

/-- R959 L2D_LFB_HIT_RW_FHWPRF (0x826D): Level 2 data cache demand access line-fill buffer first hit, recently fetched by hardware prefetcher. -/
def execL2dLfbHitRwFhwprf (s : State) : Host.Outcome State Fault Refusal :=
  countEvent .l2dLfbHitRwFhwprf (.sharedAs .l2dCache .l2dCache) occL2dLfbHitRwFhwprf incUnit s

/-- R960 L3D_LFB_HIT_RW_FHWPRF (0x826E): Level 3 data cache demand access line-fill buffer first hit, recently fetched by hardware prefetcher. -/
def execL3dLfbHitRwFhwprf (s : State) : Host.Outcome State Fault Refusal :=
  countEvent .l3dLfbHitRwFhwprf (.sharedAs .l3dCache .l3dCache) occL3dLfbHitRwFhwprf incUnit s

/-- R961 LL_LFB_HIT_RW_FHWPRF (0x826F): Last level cache demand access line-fill buffer first hit, recently fetched by hardware prefetcher. -/
def execLlLfbHitRwFhwprf (s : State) : Host.Outcome State Fault Refusal :=
  countEvent .llLfbHitRwFhwprf (.sharedAs .llCache .llCache) occLlLfbHitRwFhwprf incUnit s

/-- R962 L1I_LFB_HIT_RD_FPRF (0x8270): Level 1 instruction cache demand fetch line-fill buffer first hit, recently fetched by prefetch. -/
def execL1iLfbHitRdFprf (s : State) : Host.Outcome State Fault Refusal :=
  countEvent .l1iLfbHitRdFprf (.sharedAs .l1iCache .l1iCache) occL1iLfbHitRdFprf incUnit s

/-- R963 L2I_LFB_HIT_RD_FPRF (0x8271): Level 2 instruction cache demand fetch line-fill buffer first hit, recently fetched by prefetch. -/
def execL2iLfbHitRdFprf (s : State) : Host.Outcome State Fault Refusal :=
  countEvent .l2iLfbHitRdFprf (.sharedAs .l2iCache .l2iCache) occL2iLfbHitRdFprf incUnit s

/-- R964 L1D_LFB_HIT_RD_FPRF (0x8274): Level 1 data cache demand access line-fill buffer first hit, read, recently fetched by prefetch. -/
def execL1dLfbHitRdFprf (s : State) : Host.Outcome State Fault Refusal :=
  countEvent .l1dLfbHitRdFprf (.sharedAs .l1dCache .l1dCache) occL1dLfbHitRdFprf incUnit s

/-- R965 L2D_LFB_HIT_RD_FPRF (0x8275): Level 2 data cache demand access line-fill buffer first hit, read, recently fetched by prefetch. -/
def execL2dLfbHitRdFprf (s : State) : Host.Outcome State Fault Refusal :=
  countEvent .l2dLfbHitRdFprf (.sharedAs .l2dCache .l2dCache) occL2dLfbHitRdFprf incUnit s

/-- R966 L3D_LFB_HIT_RD_FPRF (0x8276): Level 3 data cache demand access line-fill buffer first hit, read, recently fetched by prefetch. -/
def execL3dLfbHitRdFprf (s : State) : Host.Outcome State Fault Refusal :=
  countEvent .l3dLfbHitRdFprf (.sharedAs .l3dCache .l3dCache) occL3dLfbHitRdFprf incUnit s

/-- R967 LL_LFB_HIT_RD_FPRF (0x8277): Last level cache demand access line-fill buffer first hit, read, recently fetched by prefetch. -/
def execLlLfbHitRdFprf (s : State) : Host.Outcome State Fault Refusal :=
  countEvent .llLfbHitRdFprf (.sharedAs .llCache .llCache) occLlLfbHitRdFprf incUnit s

/-- R968 L1D_LFB_HIT_WR_FPRF (0x8278): Level 1 data cache demand access line-fill buffer first hit, write, recently fetched by prefetch. -/
def execL1dLfbHitWrFprf (s : State) : Host.Outcome State Fault Refusal :=
  countEvent .l1dLfbHitWrFprf (.sharedAs .l1dCache .l1dCache) occL1dLfbHitWrFprf incUnit s

/-- R969 L2D_LFB_HIT_WR_FPRF (0x8279): Level 2 data cache demand access line-fill buffer first hit, write, recently fetched by prefetch. -/
def execL2dLfbHitWrFprf (s : State) : Host.Outcome State Fault Refusal :=
  countEvent .l2dLfbHitWrFprf (.sharedAs .l2dCache .l2dCache) occL2dLfbHitWrFprf incUnit s

/-- R970 L3D_LFB_HIT_WR_FPRF (0x827A): Level 3 data cache demand access line-fill buffer first hit, write, recently fetched by prefetch. -/
def execL3dLfbHitWrFprf (s : State) : Host.Outcome State Fault Refusal :=
  countEvent .l3dLfbHitWrFprf (.sharedAs .l3dCache .l3dCache) occL3dLfbHitWrFprf incUnit s

/-- R971 LL_LFB_HIT_WR_FPRF (0x827B): Last level cache demand access line-fill buffer first hit, write, recently fetched by prefetch. -/
def execLlLfbHitWrFprf (s : State) : Host.Outcome State Fault Refusal :=
  countEvent .llLfbHitWrFprf (.sharedAs .llCache .llCache) occLlLfbHitWrFprf incUnit s

/-- R972 L1D_LFB_HIT_RW_FPRF (0x827C): Level 1 data cache demand access line-fill buffer first hit, recently fetched by prefetch. -/
def execL1dLfbHitRwFprf (s : State) : Host.Outcome State Fault Refusal :=
  countEvent .l1dLfbHitRwFprf (.sharedAs .l1dCache .l1dCache) occL1dLfbHitRwFprf incUnit s

/-- R973 L2D_LFB_HIT_RW_FPRF (0x827D): Level 2 data cache demand access line-fill buffer first hit, recently fetched by prefetch. -/
def execL2dLfbHitRwFprf (s : State) : Host.Outcome State Fault Refusal :=
  countEvent .l2dLfbHitRwFprf (.sharedAs .l2dCache .l2dCache) occL2dLfbHitRwFprf incUnit s

/-- R974 L3D_LFB_HIT_RW_FPRF (0x827E): Level 3 data cache demand access line-fill buffer first hit, recently fetched by prefetch. -/
def execL3dLfbHitRwFprf (s : State) : Host.Outcome State Fault Refusal :=
  countEvent .l3dLfbHitRwFprf (.sharedAs .l3dCache .l3dCache) occL3dLfbHitRwFprf incUnit s

/-- R975 LL_LFB_HIT_RW_FPRF (0x827F): Last level cache demand access line-fill buffer first hit, recently fetched by prefetch. -/
def execLlLfbHitRwFprf (s : State) : Host.Outcome State Fault Refusal :=
  countEvent .llLfbHitRwFprf (.sharedAs .llCache .llCache) occLlLfbHitRwFprf incUnit s

/-- R976 L1I_CACHE_PRF (0x8280): Level 1 instruction cache, prefetch hit. -/
def execL1iCachePrf (s : State) : Host.Outcome State Fault Refusal :=
  countEvent .l1iCachePrf (.sharedAs .l1iCache .l1iCache) occL1iCachePrf incUnit s

/-- R977 L2I_CACHE_PRF (0x8281): Level 2 instruction cache, prefetch hit. -/
def execL2iCachePrf (s : State) : Host.Outcome State Fault Refusal :=
  countEvent .l2iCachePrf (.sharedAs .l2iCache .l2iCache) occL2iCachePrf incUnit s

/-- R978 L1D_CACHE_PRF (0x8284): Level 1 data cache, prefetch hit. -/
def execL1dCachePrf (s : State) : Host.Outcome State Fault Refusal :=
  countEvent .l1dCachePrf (.sharedAs .l1dCache .l1dCache) occL1dCachePrf incUnit s

/-- R979 L2D_CACHE_PRF (0x8285): Level 2 data cache, prefetch hit. -/
def execL2dCachePrf (s : State) : Host.Outcome State Fault Refusal :=
  countEvent .l2dCachePrf (.sharedAs .l2dCache .l2dCache) occL2dCachePrf incUnit s

/-- R980 L3D_CACHE_PRF (0x8286): Level 3 data cache, prefetch hit. -/
def execL3dCachePrf (s : State) : Host.Outcome State Fault Refusal :=
  countEvent .l3dCachePrf (.sharedAs .l3dCache .l3dCache) occL3dCachePrf incUnit s

/-- R981 LL_CACHE_PRF (0x8287): Last level cache, prefetch hit. -/
def execLlCachePrf (s : State) : Host.Outcome State Fault Refusal :=
  countEvent .llCachePrf (.sharedAs .llCache .llCache) occLlCachePrf incUnit s

/-- R982 L1I_CACHE_REFILL_PRF (0x8288): Level 1 instruction cache refill, prefetch hit. -/
def execL1iCacheRefillPrf (s : State) : Host.Outcome State Fault Refusal :=
  countEvent .l1iCacheRefillPrf (.sharedAs .l1iCache .l1iCache) occL1iCacheRefillPrf incUnit s

/-- R983 L2I_CACHE_REFILL_PRF (0x8289): Level 2 instruction cache refill, prefetch hit. -/
def execL2iCacheRefillPrf (s : State) : Host.Outcome State Fault Refusal :=
  countEvent .l2iCacheRefillPrf (.sharedAs .l2iCache .l2iCache) occL2iCacheRefillPrf incUnit s

/-- R984 L1D_CACHE_REFILL_PRF (0x828C): Level 1 data cache refill, prefetch hit. -/
def execL1dCacheRefillPrf (s : State) : Host.Outcome State Fault Refusal :=
  countEvent .l1dCacheRefillPrf (.sharedAs .l1dCache .l1dCache) occL1dCacheRefillPrf incUnit s

/-- R985 L2D_CACHE_REFILL_PRF (0x828D): Level 2 data cache refill, prefetch hit. -/
def execL2dCacheRefillPrf (s : State) : Host.Outcome State Fault Refusal :=
  countEvent .l2dCacheRefillPrf (.sharedAs .l2dCache .l2dCache) occL2dCacheRefillPrf incUnit s

/-- R986 L3D_CACHE_REFILL_PRF (0x828E): Level 3 data cache refill, prefetch hit. -/
def execL3dCacheRefillPrf (s : State) : Host.Outcome State Fault Refusal :=
  countEvent .l3dCacheRefillPrf (.sharedAs .l3dCache .l3dCache) occL3dCacheRefillPrf incUnit s

/-- R987 LL_CACHE_REFILL_PRF (0x828F): Last level cache refill, prefetch hit. -/
def execLlCacheRefillPrf (s : State) : Host.Outcome State Fault Refusal :=
  countEvent .llCacheRefillPrf (.sharedAs .llCache .llCache) occLlCacheRefillPrf incUnit s

/-- R988 ISNP_HIT_PRF (0x8290): Snoop hit, instruction prefetch. -/
def execIsnpHitPrf (s : State) : Host.Outcome State Fault Refusal :=
  countEvent .isnpHitPrf .own occIsnpHitPrf incUnit s

/-- R989 ISNP_HIT_NEAR_PRF (0x8291): Snoop hit in near local cache, instruction prefetch. -/
def execIsnpHitNearPrf (s : State) : Host.Outcome State Fault Refusal :=
  countEvent .isnpHitNearPrf .own occIsnpHitNearPrf incUnit s

/-- R990 ISNP_HIT_FAR_PRF (0x8292): Snoop hit in far local cache, instruction prefetch. -/
def execIsnpHitFarPrf (s : State) : Host.Outcome State Fault Refusal :=
  countEvent .isnpHitFarPrf .own occIsnpHitFarPrf incUnit s

/-- R991 ISNP_HIT_REMOTE_PRF (0x8293): Snoop hit in remote cache, instruction prefetch. -/
def execIsnpHitRemotePrf (s : State) : Host.Outcome State Fault Refusal :=
  countEvent .isnpHitRemotePrf .own occIsnpHitRemotePrf incUnit s

/-- R992 DSNP_HIT_PRF (0x8294): Snoop hit, data prefetch. -/
def execDsnpHitPrf (s : State) : Host.Outcome State Fault Refusal :=
  countEvent .dsnpHitPrf .own occDsnpHitPrf incUnit s

/-- R993 DSNP_HIT_NEAR_PRF (0x8295): Snoop hit in near local cache, data prefetch. -/
def execDsnpHitNearPrf (s : State) : Host.Outcome State Fault Refusal :=
  countEvent .dsnpHitNearPrf .own occDsnpHitNearPrf incUnit s

/-- R994 DSNP_HIT_FAR_PRF (0x8296): Snoop hit in far local cache, data prefetch. -/
def execDsnpHitFarPrf (s : State) : Host.Outcome State Fault Refusal :=
  countEvent .dsnpHitFarPrf .own occDsnpHitFarPrf incUnit s

/-- R995 DSNP_HIT_REMOTE_PRF (0x8297): Snoop hit in remote cache, data prefetch. -/
def execDsnpHitRemotePrf (s : State) : Host.Outcome State Fault Refusal :=
  countEvent .dsnpHitRemotePrf .own occDsnpHitRemotePrf incUnit s

/-- R996 LL_CACHE_RW (0x8298): Last level cache demand access. -/
def execLlCacheRw (s : State) : Host.Outcome State Fault Refusal :=
  countEvent .llCacheRw (.sharedAs .llCache .llCache) occLlCacheRw incUnit s

/-- R997 LL_CACHE_PRFM (0x8299): Last level cache software prefetch. -/
def execLlCachePrfm (s : State) : Host.Outcome State Fault Refusal :=
  countEvent .llCachePrfm (.sharedAs .llCache .llCache) occLlCachePrfm incUnit s

/-- R998 LL_CACHE_REFILL (0x829A): Last level cache refill. Which cache "the cache" of
the sharing clause S2 (R131) is, of those it names, the spec does not say: the model takes `llCache`. Log 76. -/
def execLlCacheRefill (s : State) : Host.Outcome State Fault Refusal :=
  countEvent .llCacheRefill (.shared .llCache) occLlCacheRefill incUnit s

/-- R999 LL_CACHE_REFILL_PRFM (0x829B): Last level cache refill, software prefetch. -/
def execLlCacheRefillPrfm (s : State) : Host.Outcome State Fault Refusal :=
  countEvent .llCacheRefillPrfm (.sharedAs .llCache .llCache) occLlCacheRefillPrfm incUnit s

/-- R1000 LL_CACHE_WB (0x829C): Last level cache write-back. -/
def execLlCacheWb (s : State) : Host.Outcome State Fault Refusal :=
  countEvent .llCacheWb (.writeBack .llCache) occLlCacheWb incUnit s

/-- R1001 LL_CACHE_WR (0x829D): Last level cache access, write. -/
def execLlCacheWr (s : State) : Host.Outcome State Fault Refusal :=
  countEvent .llCacheWr (.shared .llCache) occLlCacheWr incUnit s

/-- R1002 LL_CACHE_REFILL_WR (0x829F): Last level cache refill, write. Which cache "the cache"
of the sharing clause S2 (R131) is: as for LL_CACHE_REFILL. Log 76. -/
def execLlCacheRefillWr (s : State) : Host.Outcome State Fault Refusal :=
  countEvent .llCacheRefillWr (.shared .llCache) occLlCacheRefillWr incUnit s

/-- R1003 MEM_ACCESS_RW (0x82A0): Data memory access, demand access. -/
def execMemAccessRw (s : State) : Host.Outcome State Fault Refusal :=
  countEvent .memAccessRw .own occMemAccessRw incUnit s

/-- R1004 INST_FETCH_RD (0x82A1): Instruction memory access, demand fetch. -/
def execInstFetchRd (s : State) : Host.Outcome State Fault Refusal :=
  countEvent .instFetchRd .own occInstFetchRd incUnit s

/-- R1005 MEM_ACCESS_PRFM (0x82A2): Data memory access, software prefetch. -/
def execMemAccessPrfm (s : State) : Host.Outcome State Fault Refusal :=
  countEvent .memAccessPrfm .own occMemAccessPrfm incUnit s

/-- R1006 INST_FETCH_PRFM (0x82A3): Instruction memory access, software prefetch. -/
def execInstFetchPrfm (s : State) : Host.Outcome State Fault Refusal :=
  countEvent .instFetchPrfm .own occInstFetchPrfm incUnit s

end Sys2Proof.Machine
end

