-- ==== Sys2Proof/Machine/Uarch82B0.lean ====
section
/-!
DEFINITION. The meanings of the 196 events of spec/48_uarch_82B0_839B: each is `Count(E, k)` (40_common_event_rules.md R121)
with the event's own occurrences, attribution and increment.
-/

namespace Sys2Proof.Machine

/-- R1007 L1I_CACHE_MISS_RETIRED (0x82B0): Instruction architecturally executed, miss in Level 1 instruction cache. -/
def execL1iCacheMissRetired (s : State) : Host.Outcome State Fault Refusal :=
  countEvent .l1iCacheMissRetired .own occL1iCacheMissRetired incUnit s

/-- R1008 L2I_CACHE_MISS_RETIRED (0x82B1): Instruction architecturally executed, miss in Level 2 instruction cache. -/
def execL2iCacheMissRetired (s : State) : Host.Outcome State Fault Refusal :=
  countEvent .l2iCacheMissRetired .own occL2iCacheMissRetired incUnit s

/-- R1009 L1D_CACHE_MISS_LD_RETIRED (0x82B4): Load instruction architecturally executed, miss in Level 1 data cache. -/
def execL1dCacheMissLdRetired (s : State) : Host.Outcome State Fault Refusal :=
  countEvent .l1dCacheMissLdRetired .own occL1dCacheMissLdRetired incUnit s

/-- R1010 L2D_CACHE_MISS_LD_RETIRED (0x82B5): Load instruction architecturally executed, miss in Level 2 data cache. -/
def execL2dCacheMissLdRetired (s : State) : Host.Outcome State Fault Refusal :=
  countEvent .l2dCacheMissLdRetired .own occL2dCacheMissLdRetired incUnit s

/-- R1011 L3D_CACHE_MISS_LD_RETIRED (0x82B6): Load instruction architecturally executed, miss in Level 3 data cache. -/
def execL3dCacheMissLdRetired (s : State) : Host.Outcome State Fault Refusal :=
  countEvent .l3dCacheMissLdRetired .own occL3dCacheMissLdRetired incUnit s

/-- R1012 LL_CACHE_MISS_LD_RETIRED (0x82B7): Load instruction architecturally executed, miss in Last level cache. -/
def execLlCacheMissLdRetired (s : State) : Host.Outcome State Fault Refusal :=
  countEvent .llCacheMissLdRetired .own occLlCacheMissLdRetired incUnit s

/-- R1013 L1D_CACHE_MISS_ST_RETIRED (0x82B8): Store instruction architecturally executed, miss in Level 1 data cache. -/
def execL1dCacheMissStRetired (s : State) : Host.Outcome State Fault Refusal :=
  countEvent .l1dCacheMissStRetired .own occL1dCacheMissStRetired incUnit s

/-- R1014 L2D_CACHE_MISS_ST_RETIRED (0x82B9): Store instruction architecturally executed, miss in Level 2 data cache. -/
def execL2dCacheMissStRetired (s : State) : Host.Outcome State Fault Refusal :=
  countEvent .l2dCacheMissStRetired .own occL2dCacheMissStRetired incUnit s

/-- R1015 L3D_CACHE_MISS_ST_RETIRED (0x82BA): Store instruction architecturally executed, miss in Level 3 data cache. -/
def execL3dCacheMissStRetired (s : State) : Host.Outcome State Fault Refusal :=
  countEvent .l3dCacheMissStRetired .own occL3dCacheMissStRetired incUnit s

/-- R1016 LL_CACHE_MISS_ST_RETIRED (0x82BB): Store instruction architecturally executed, miss in Last level cache. -/
def execLlCacheMissStRetired (s : State) : Host.Outcome State Fault Refusal :=
  countEvent .llCacheMissStRetired .own occLlCacheMissStRetired incUnit s

/-- R1017 L1D_CACHE_MISS_LDST_RETIRED (0x82BC): Load or store instruction architecturally executed, miss in Level 1 data cache. -/
def execL1dCacheMissLdstRetired (s : State) : Host.Outcome State Fault Refusal :=
  countEvent .l1dCacheMissLdstRetired .own occL1dCacheMissLdstRetired incUnit s

/-- R1018 L2D_CACHE_MISS_LDST_RETIRED (0x82BD): Load or store instruction architecturally executed, miss in Level 2 data cache. -/
def execL2dCacheMissLdstRetired (s : State) : Host.Outcome State Fault Refusal :=
  countEvent .l2dCacheMissLdstRetired .own occL2dCacheMissLdstRetired incUnit s

/-- R1019 L3D_CACHE_MISS_LDST_RETIRED (0x82BE): Load or store instruction architecturally executed, miss in Level 3 data cache. -/
def execL3dCacheMissLdstRetired (s : State) : Host.Outcome State Fault Refusal :=
  countEvent .l3dCacheMissLdstRetired .own occL3dCacheMissLdstRetired incUnit s

/-- R1020 LL_CACHE_MISS_LDST_RETIRED (0x82BF): Load or store instruction architecturally executed, miss in Last level cache. -/
def execLlCacheMissLdstRetired (s : State) : Host.Outcome State Fault Refusal :=
  countEvent .llCacheMissLdstRetired .own occLlCacheMissLdstRetired incUnit s

/-- R1021 L1D_CACHE_HITM_LD_RETIRED (0x82C4): Load instruction architecturally executed, hit modified data in Level 1 data cache. -/
def execL1dCacheHitmLdRetired (s : State) : Host.Outcome State Fault Refusal :=
  countEvent .l1dCacheHitmLdRetired .own occL1dCacheHitmLdRetired incUnit s

/-- R1022 L2D_CACHE_HITM_LD_RETIRED (0x82C5): Load instruction architecturally executed, hit modified data in Level 2 data cache. -/
def execL2dCacheHitmLdRetired (s : State) : Host.Outcome State Fault Refusal :=
  countEvent .l2dCacheHitmLdRetired .own occL2dCacheHitmLdRetired incUnit s

/-- R1023 L3D_CACHE_HITM_LD_RETIRED (0x82C6): Load instruction architecturally executed, hit modified data in Level 3 data cache. -/
def execL3dCacheHitmLdRetired (s : State) : Host.Outcome State Fault Refusal :=
  countEvent .l3dCacheHitmLdRetired .own occL3dCacheHitmLdRetired incUnit s

/-- R1024 LL_CACHE_HITM_LD_RETIRED (0x82C7): Load instruction architecturally executed, hit modified data in Last level cache. -/
def execLlCacheHitmLdRetired (s : State) : Host.Outcome State Fault Refusal :=
  countEvent .llCacheHitmLdRetired .own occLlCacheHitmLdRetired incUnit s

/-- R1025 L1D_CACHE_HITM_ST_RETIRED (0x82C8): Store instruction architecturally executed, hit modified data in Level 1 data cache. -/
def execL1dCacheHitmStRetired (s : State) : Host.Outcome State Fault Refusal :=
  countEvent .l1dCacheHitmStRetired .own occL1dCacheHitmStRetired incUnit s

/-- R1026 L2D_CACHE_HITM_ST_RETIRED (0x82C9): Store instruction architecturally executed, hit modified data in Level 2 data cache. -/
def execL2dCacheHitmStRetired (s : State) : Host.Outcome State Fault Refusal :=
  countEvent .l2dCacheHitmStRetired .own occL2dCacheHitmStRetired incUnit s

/-- R1027 L3D_CACHE_HITM_ST_RETIRED (0x82CA): Store instruction architecturally executed, hit modified data in Level 3 data cache. -/
def execL3dCacheHitmStRetired (s : State) : Host.Outcome State Fault Refusal :=
  countEvent .l3dCacheHitmStRetired .own occL3dCacheHitmStRetired incUnit s

/-- R1028 LL_CACHE_HITM_ST_RETIRED (0x82CB): Store instruction architecturally executed, hit modified data in Last level cache. -/
def execLlCacheHitmStRetired (s : State) : Host.Outcome State Fault Refusal :=
  countEvent .llCacheHitmStRetired .own occLlCacheHitmStRetired incUnit s

/-- R1029 L1D_CACHE_HITM_LDST_RETIRED (0x82CC): Load or store instruction architecturally executed, hit modified data in Level 1 data cache. -/
def execL1dCacheHitmLdstRetired (s : State) : Host.Outcome State Fault Refusal :=
  countEvent .l1dCacheHitmLdstRetired .own occL1dCacheHitmLdstRetired incUnit s

/-- R1030 L2D_CACHE_HITM_LDST_RETIRED (0x82CD): Load or store instruction architecturally executed, hit modified data in Level 2 data cache. -/
def execL2dCacheHitmLdstRetired (s : State) : Host.Outcome State Fault Refusal :=
  countEvent .l2dCacheHitmLdstRetired .own occL2dCacheHitmLdstRetired incUnit s

/-- R1031 L3D_CACHE_HITM_LDST_RETIRED (0x82CE): Load or store instruction architecturally executed, hit modified data in Level 3 data cache. -/
def execL3dCacheHitmLdstRetired (s : State) : Host.Outcome State Fault Refusal :=
  countEvent .l3dCacheHitmLdstRetired .own occL3dCacheHitmLdstRetired incUnit s

/-- R1032 LL_CACHE_HITM_LDST_RETIRED (0x82CF): Load or store instruction architecturally executed, hit modified data in Last level cache. -/
def execLlCacheHitmLdstRetired (s : State) : Host.Outcome State Fault Refusal :=
  countEvent .llCacheHitmLdstRetired .own occLlCacheHitmLdstRetired incUnit s

/-- R1033 L1I_LFB_HIT_RETIRED (0x82D0): Instruction architecturally executed, line-fill buffer hit in Level 1 instruction cache. -/
def execL1iLfbHitRetired (s : State) : Host.Outcome State Fault Refusal :=
  countEvent .l1iLfbHitRetired .own occL1iLfbHitRetired incUnit s

/-- R1034 L2I_LFB_HIT_RETIRED (0x82D1): Instruction architecturally executed, line-fill buffer hit in Level 2 instruction cache. -/
def execL2iLfbHitRetired (s : State) : Host.Outcome State Fault Refusal :=
  countEvent .l2iLfbHitRetired .own occL2iLfbHitRetired incUnit s

/-- R1035 L1D_LFB_HIT_LD_RETIRED (0x82D4): Load instruction architecturally executed, line-fill buffer hit in Level 1 data cache. -/
def execL1dLfbHitLdRetired (s : State) : Host.Outcome State Fault Refusal :=
  countEvent .l1dLfbHitLdRetired .own occL1dLfbHitLdRetired incUnit s

/-- R1036 L2D_LFB_HIT_LD_RETIRED (0x82D5): Load instruction architecturally executed, line-fill buffer hit in Level 2 data cache. -/
def execL2dLfbHitLdRetired (s : State) : Host.Outcome State Fault Refusal :=
  countEvent .l2dLfbHitLdRetired .own occL2dLfbHitLdRetired incUnit s

/-- R1037 L3D_LFB_HIT_LD_RETIRED (0x82D6): Load instruction architecturally executed, line-fill buffer hit in Level 3 data cache. -/
def execL3dLfbHitLdRetired (s : State) : Host.Outcome State Fault Refusal :=
  countEvent .l3dLfbHitLdRetired .own occL3dLfbHitLdRetired incUnit s

/-- R1038 LL_LFB_HIT_LD_RETIRED (0x82D7): Load instruction architecturally executed, line-fill buffer hit in Last level cache. -/
def execLlLfbHitLdRetired (s : State) : Host.Outcome State Fault Refusal :=
  countEvent .llLfbHitLdRetired .own occLlLfbHitLdRetired incUnit s

/-- R1039 L1D_LFB_HIT_ST_RETIRED (0x82D8): Store instruction architecturally executed, line-fill buffer hit in Level 1 data cache. -/
def execL1dLfbHitStRetired (s : State) : Host.Outcome State Fault Refusal :=
  countEvent .l1dLfbHitStRetired .own occL1dLfbHitStRetired incUnit s

/-- R1040 L2D_LFB_HIT_ST_RETIRED (0x82D9): Store instruction architecturally executed, line-fill buffer hit in Level 2 data cache. -/
def execL2dLfbHitStRetired (s : State) : Host.Outcome State Fault Refusal :=
  countEvent .l2dLfbHitStRetired .own occL2dLfbHitStRetired incUnit s

/-- R1041 L3D_LFB_HIT_ST_RETIRED (0x82DA): Store instruction architecturally executed, line-fill buffer hit in Level 3 data cache. -/
def execL3dLfbHitStRetired (s : State) : Host.Outcome State Fault Refusal :=
  countEvent .l3dLfbHitStRetired .own occL3dLfbHitStRetired incUnit s

/-- R1042 LL_LFB_HIT_ST_RETIRED (0x82DB): Store instruction architecturally executed, line-fill buffer hit in Last level cache. -/
def execLlLfbHitStRetired (s : State) : Host.Outcome State Fault Refusal :=
  countEvent .llLfbHitStRetired .own occLlLfbHitStRetired incUnit s

/-- R1043 L1D_LFB_HIT_LDST_RETIRED (0x82DC): Load or store instruction architecturally executed, line-fill buffer hit in Level 1 data cache. -/
def execL1dLfbHitLdstRetired (s : State) : Host.Outcome State Fault Refusal :=
  countEvent .l1dLfbHitLdstRetired .own occL1dLfbHitLdstRetired incUnit s

/-- R1044 L2D_LFB_HIT_LDST_RETIRED (0x82DD): Load or store instruction architecturally executed, line-fill buffer hit in Level 2 data cache. -/
def execL2dLfbHitLdstRetired (s : State) : Host.Outcome State Fault Refusal :=
  countEvent .l2dLfbHitLdstRetired .own occL2dLfbHitLdstRetired incUnit s

/-- R1045 L3D_LFB_HIT_LDST_RETIRED (0x82DE): Load or store instruction architecturally executed, line-fill buffer hit in Level 3 data cache. -/
def execL3dLfbHitLdstRetired (s : State) : Host.Outcome State Fault Refusal :=
  countEvent .l3dLfbHitLdstRetired .own occL3dLfbHitLdstRetired incUnit s

/-- R1046 LL_LFB_HIT_LDST_RETIRED (0x82DF): Load or store instruction architecturally executed, line-fill buffer hit in Last level cache. -/
def execLlLfbHitLdstRetired (s : State) : Host.Outcome State Fault Refusal :=
  countEvent .llLfbHitLdstRetired .own occLlLfbHitLdstRetired incUnit s

/-- R1047 L1I_CACHE_HIT_RETIRED (0x82E0): Instruction architecturally executed, hit in Level 1 instruction cache. -/
def execL1iCacheHitRetired (s : State) : Host.Outcome State Fault Refusal :=
  countEvent .l1iCacheHitRetired .own occL1iCacheHitRetired incUnit s

/-- R1048 L2I_CACHE_HIT_RETIRED (0x82E1): Instruction architecturally executed, hit in Level 2 instruction cache. -/
def execL2iCacheHitRetired (s : State) : Host.Outcome State Fault Refusal :=
  countEvent .l2iCacheHitRetired .own occL2iCacheHitRetired incUnit s

/-- R1049 L1D_CACHE_HIT_LD_RETIRED (0x82E4): Load instruction architecturally executed, hit in Level 1 data cache. -/
def execL1dCacheHitLdRetired (s : State) : Host.Outcome State Fault Refusal :=
  countEvent .l1dCacheHitLdRetired .own occL1dCacheHitLdRetired incUnit s

/-- R1050 L2D_CACHE_HIT_LD_RETIRED (0x82E5): Load instruction architecturally executed, hit in Level 2 data cache. -/
def execL2dCacheHitLdRetired (s : State) : Host.Outcome State Fault Refusal :=
  countEvent .l2dCacheHitLdRetired .own occL2dCacheHitLdRetired incUnit s

/-- R1051 L3D_CACHE_HIT_LD_RETIRED (0x82E6): Load instruction architecturally executed, hit in Level 3 data cache. -/
def execL3dCacheHitLdRetired (s : State) : Host.Outcome State Fault Refusal :=
  countEvent .l3dCacheHitLdRetired .own occL3dCacheHitLdRetired incUnit s

/-- R1052 LL_CACHE_HIT_LD_RETIRED (0x82E7): Load instruction architecturally executed, hit in Last level cache. -/
def execLlCacheHitLdRetired (s : State) : Host.Outcome State Fault Refusal :=
  countEvent .llCacheHitLdRetired .own occLlCacheHitLdRetired incUnit s

/-- R1053 L1D_CACHE_HIT_ST_RETIRED (0x82E8): Store instruction architecturally executed, hit in Level 1 data cache. -/
def execL1dCacheHitStRetired (s : State) : Host.Outcome State Fault Refusal :=
  countEvent .l1dCacheHitStRetired .own occL1dCacheHitStRetired incUnit s

/-- R1054 L2D_CACHE_HIT_ST_RETIRED (0x82E9): Store instruction architecturally executed, hit in Level 2 data cache. -/
def execL2dCacheHitStRetired (s : State) : Host.Outcome State Fault Refusal :=
  countEvent .l2dCacheHitStRetired .own occL2dCacheHitStRetired incUnit s

/-- R1055 L3D_CACHE_HIT_ST_RETIRED (0x82EA): Store instruction architecturally executed, hit in Level 3 data cache. -/
def execL3dCacheHitStRetired (s : State) : Host.Outcome State Fault Refusal :=
  countEvent .l3dCacheHitStRetired .own occL3dCacheHitStRetired incUnit s

/-- R1056 LL_CACHE_HIT_ST_RETIRED (0x82EB): Store instruction architecturally executed, hit in Last level cache. -/
def execLlCacheHitStRetired (s : State) : Host.Outcome State Fault Refusal :=
  countEvent .llCacheHitStRetired .own occLlCacheHitStRetired incUnit s

/-- R1057 L1D_CACHE_HIT_LDST_RETIRED (0x82EC): Load or store instruction architecturally executed, hit in Level 1 data cache. -/
def execL1dCacheHitLdstRetired (s : State) : Host.Outcome State Fault Refusal :=
  countEvent .l1dCacheHitLdstRetired .own occL1dCacheHitLdstRetired incUnit s

/-- R1058 L2D_CACHE_HIT_LDST_RETIRED (0x82ED): Load or store instruction architecturally executed, hit in Level 2 data cache. -/
def execL2dCacheHitLdstRetired (s : State) : Host.Outcome State Fault Refusal :=
  countEvent .l2dCacheHitLdstRetired .own occL2dCacheHitLdstRetired incUnit s

/-- R1059 L3D_CACHE_HIT_LDST_RETIRED (0x82EE): Load or store instruction architecturally executed, hit in Level 3 data cache. -/
def execL3dCacheHitLdstRetired (s : State) : Host.Outcome State Fault Refusal :=
  countEvent .l3dCacheHitLdstRetired .own occL3dCacheHitLdstRetired incUnit s

/-- R1060 LL_CACHE_HIT_LDST_RETIRED (0x82EF): Load or store instruction architecturally executed, hit in Last level cache. -/
def execLlCacheHitLdstRetired (s : State) : Host.Outcome State Fault Refusal :=
  countEvent .llCacheHitLdstRetired .own occLlCacheHitLdstRetired incUnit s

/-- R1061 ITLB_HIT_RETIRED (0x82F0): Instruction architecturally executed, no translation table walk. -/
def execItlbHitRetired (s : State) : Host.Outcome State Fault Refusal :=
  countEvent .itlbHitRetired .own occItlbHitRetired incUnit s

/-- R1062 DTLB_HIT_LD_RETIRED (0x82F1): Load instruction architecturally executed, no translation table walk. -/
def execDtlbHitLdRetired (s : State) : Host.Outcome State Fault Refusal :=
  countEvent .dtlbHitLdRetired .own occDtlbHitLdRetired incUnit s

/-- R1063 DTLB_HIT_ST_RETIRED (0x82F2): Store instruction architecturally executed, no translation table walk. -/
def execDtlbHitStRetired (s : State) : Host.Outcome State Fault Refusal :=
  countEvent .dtlbHitStRetired .own occDtlbHitStRetired incUnit s

/-- R1064 DTLB_HIT_LDST_RETIRED (0x82F3): Load or store instruction architecturally executed, no translation table walk. -/
def execDtlbHitLdstRetired (s : State) : Host.Outcome State Fault Refusal :=
  countEvent .dtlbHitLdstRetired .own occDtlbHitLdstRetired incUnit s

/-- R1065 ITLB_WALK_RETIRED (0x82F4): Instruction architecturally executed, at least one translation table walk. -/
def execItlbWalkRetired (s : State) : Host.Outcome State Fault Refusal :=
  countEvent .itlbWalkRetired .own occItlbWalkRetired incUnit s

/-- R1066 DTLB_WALK_LD_RETIRED (0x82F5): Load instruction architecturally executed, at least one translation table walk. -/
def execDtlbWalkLdRetired (s : State) : Host.Outcome State Fault Refusal :=
  countEvent .dtlbWalkLdRetired .own occDtlbWalkLdRetired incUnit s

/-- R1067 DTLB_WALK_ST_RETIRED (0x82F6): Store instruction architecturally executed, at least one translation table walk. -/
def execDtlbWalkStRetired (s : State) : Host.Outcome State Fault Refusal :=
  countEvent .dtlbWalkStRetired .own occDtlbWalkStRetired incUnit s

/-- R1068 DTLB_WALK_LDST_RETIRED (0x82F7): Load or store instruction architecturally executed, at least one translation table walk. -/
def execDtlbWalkLdstRetired (s : State) : Host.Outcome State Fault Refusal :=
  countEvent .dtlbWalkLdstRetired .own occDtlbWalkLdstRetired incUnit s

/-- R1069 DTLB_WALK_PRF (0x82F8): Data TLB prefetch, with at least one translation table walk. -/
def execDtlbWalkPrf (s : State) : Host.Outcome State Fault Refusal :=
  countEvent .dtlbWalkPrf (.shared .dtlb) occDtlbWalkPrf incUnit s

/-- R1070 ITLB_WALK_PRF (0x82F9): Instruction TLB prefetch, with at least one translation table walk. -/
def execItlbWalkPrf (s : State) : Host.Outcome State Fault Refusal :=
  countEvent .itlbWalkPrf (.shared .itlb) occItlbWalkPrf incUnit s

/-- R1071 DTLB_WALK_HWPRF (0x82FA): Data TLB hardware prefetch, with at least one translation table walk. -/
def execDtlbWalkHwprf (s : State) : Host.Outcome State Fault Refusal :=
  countEvent .dtlbWalkHwprf (.shared .dtlb) occDtlbWalkHwprf incUnit s

/-- R1072 ITLB_WALK_HWPRF (0x82FB): Instruction TLB hardware prefetch, with at least one translation table walk. -/
def execItlbWalkHwprf (s : State) : Host.Outcome State Fault Refusal :=
  countEvent .itlbWalkHwprf (.shared .itlb) occItlbWalkHwprf incUnit s

/-- R1073 L1D_TLB_PRF (0x82FC): Level 1 data TLB access, prefetch. -/
def execL1dTlbPrf (s : State) : Host.Outcome State Fault Refusal :=
  countEvent .l1dTlbPrf (.shared .l1dTlb) occL1dTlbPrf incUnit s

/-- R1074 L1I_TLB_PRF (0x82FD): Level 1 instruction TLB access, prefetch. -/
def execL1iTlbPrf (s : State) : Host.Outcome State Fault Refusal :=
  countEvent .l1iTlbPrf (.shared .l1iTlb) occL1iTlbPrf incUnit s

/-- R1075 L1D_TLB_HWPRF (0x82FE): Level 1 data TLB access, hardware prefetch. -/
def execL1dTlbHwprf (s : State) : Host.Outcome State Fault Refusal :=
  countEvent .l1dTlbHwprf (.shared .l1dTlb) occL1dTlbHwprf incUnit s

/-- R1076 L1I_TLB_HWPRF (0x82FF): Level 1 instruction TLB access, hardware prefetch. -/
def execL1iTlbHwprf (s : State) : Host.Outcome State Fault Refusal :=
  countEvent .l1iTlbHwprf (.shared .l1iTlb) occL1iTlbHwprf incUnit s

/-- R1077 DSNP_HITM_LD_RETIRED (0x8304): Load instruction architecturally executed, snoop hit. -/
def execDsnpHitmLdRetired (s : State) : Host.Outcome State Fault Refusal :=
  countEvent .dsnpHitmLdRetired .own occDsnpHitmLdRetired incUnit s

/-- R1078 DSNP_HITM_NEAR_LD_RETIRED (0x8305): Load instruction architecturally executed, snoop hit in near cache. -/
def execDsnpHitmNearLdRetired (s : State) : Host.Outcome State Fault Refusal :=
  countEvent .dsnpHitmNearLdRetired .own occDsnpHitmNearLdRetired incUnit s

/-- R1079 DSNP_HITM_FAR_LD_RETIRED (0x8306): Load instruction architecturally executed, snoop hit in far cache. -/
def execDsnpHitmFarLdRetired (s : State) : Host.Outcome State Fault Refusal :=
  countEvent .dsnpHitmFarLdRetired .own occDsnpHitmFarLdRetired incUnit s

/-- R1080 DSNP_HITM_REMOTE_LD_RETIRED (0x8307): Load instruction architecturally executed, snoop hit in remote cache. -/
def execDsnpHitmRemoteLdRetired (s : State) : Host.Outcome State Fault Refusal :=
  countEvent .dsnpHitmRemoteLdRetired .own occDsnpHitmRemoteLdRetired incUnit s

/-- R1081 DSNP_HITM_ST_RETIRED (0x8308): Store instruction architecturally executed, snoop hit. -/
def execDsnpHitmStRetired (s : State) : Host.Outcome State Fault Refusal :=
  countEvent .dsnpHitmStRetired .own occDsnpHitmStRetired incUnit s

/-- R1082 DSNP_HITM_NEAR_ST_RETIRED (0x8309): Store instruction architecturally executed, snoop hit in near cache. -/
def execDsnpHitmNearStRetired (s : State) : Host.Outcome State Fault Refusal :=
  countEvent .dsnpHitmNearStRetired .own occDsnpHitmNearStRetired incUnit s

/-- R1083 DSNP_HITM_FAR_ST_RETIRED (0x830A): Store instruction architecturally executed, snoop hit in far cache. -/
def execDsnpHitmFarStRetired (s : State) : Host.Outcome State Fault Refusal :=
  countEvent .dsnpHitmFarStRetired .own occDsnpHitmFarStRetired incUnit s

/-- R1084 DSNP_HITM_REMOTE_ST_RETIRED (0x830B): Store instruction architecturally executed, snoop hit in remote cache. -/
def execDsnpHitmRemoteStRetired (s : State) : Host.Outcome State Fault Refusal :=
  countEvent .dsnpHitmRemoteStRetired .own occDsnpHitmRemoteStRetired incUnit s

/-- R1085 DSNP_HITM_LDST_RETIRED (0x830C): Load or store instruction architecturally executed, snoop hit. -/
def execDsnpHitmLdstRetired (s : State) : Host.Outcome State Fault Refusal :=
  countEvent .dsnpHitmLdstRetired .own occDsnpHitmLdstRetired incUnit s

/-- R1086 DSNP_HITM_NEAR_LDST_RETIRED (0x830D): Load or store instruction architecturally executed, snoop hit in near cache. -/
def execDsnpHitmNearLdstRetired (s : State) : Host.Outcome State Fault Refusal :=
  countEvent .dsnpHitmNearLdstRetired .own occDsnpHitmNearLdstRetired incUnit s

/-- R1087 DSNP_HITM_FAR_LDST_RETIRED (0x830E): Load or store instruction architecturally executed, snoop hit in far cache. -/
def execDsnpHitmFarLdstRetired (s : State) : Host.Outcome State Fault Refusal :=
  countEvent .dsnpHitmFarLdstRetired .own occDsnpHitmFarLdstRetired incUnit s

/-- R1088 DSNP_HITM_REMOTE_LDST_RETIRED (0x830F): Load or store instruction architecturally executed, snoop hit in remote cache. -/
def execDsnpHitmRemoteLdstRetired (s : State) : Host.Outcome State Fault Refusal :=
  countEvent .dsnpHitmRemoteLdstRetired .own occDsnpHitmRemoteLdstRetired incUnit s

/-- R1089 ISNP_HIT_RETIRED (0x8310): Instruction architecturally executed, instruction fetch snoop hit. -/
def execIsnpHitRetired (s : State) : Host.Outcome State Fault Refusal :=
  countEvent .isnpHitRetired .own occIsnpHitRetired incUnit s

/-- R1090 ISNP_HIT_NEAR_RETIRED (0x8311): Instruction architecturally executed, instruction fetch snoop hit in near cache. -/
def execIsnpHitNearRetired (s : State) : Host.Outcome State Fault Refusal :=
  countEvent .isnpHitNearRetired .own occIsnpHitNearRetired incUnit s

/-- R1091 ISNP_HIT_FAR_RETIRED (0x8312): Instruction architecturally executed, instruction fetch snoop hit in far cache. -/
def execIsnpHitFarRetired (s : State) : Host.Outcome State Fault Refusal :=
  countEvent .isnpHitFarRetired .own occIsnpHitFarRetired incUnit s

/-- R1092 ISNP_HIT_REMOTE_RETIRED (0x8313): Instruction architecturally executed, instruction fetch snoop hit in remote cache. -/
def execIsnpHitRemoteRetired (s : State) : Host.Outcome State Fault Refusal :=
  countEvent .isnpHitRemoteRetired .own occIsnpHitRemoteRetired incUnit s

/-- R1093 DSNP_HIT_LD_RETIRED (0x8314): Load instruction architecturally executed, snoop hit. -/
def execDsnpHitLdRetired (s : State) : Host.Outcome State Fault Refusal :=
  countEvent .dsnpHitLdRetired .own occDsnpHitLdRetired incUnit s

/-- R1094 DSNP_HIT_NEAR_LD_RETIRED (0x8315): Load instruction architecturally executed, snoop hit in near cache. -/
def execDsnpHitNearLdRetired (s : State) : Host.Outcome State Fault Refusal :=
  countEvent .dsnpHitNearLdRetired .own occDsnpHitNearLdRetired incUnit s

/-- R1095 DSNP_HIT_FAR_LD_RETIRED (0x8316): Load instruction architecturally executed, snoop hit in far cache. -/
def execDsnpHitFarLdRetired (s : State) : Host.Outcome State Fault Refusal :=
  countEvent .dsnpHitFarLdRetired .own occDsnpHitFarLdRetired incUnit s

/-- R1096 DSNP_HIT_REMOTE_LD_RETIRED (0x8317): Load instruction architecturally executed, snoop hit in remote cache. -/
def execDsnpHitRemoteLdRetired (s : State) : Host.Outcome State Fault Refusal :=
  countEvent .dsnpHitRemoteLdRetired .own occDsnpHitRemoteLdRetired incUnit s

/-- R1097 DSNP_HIT_ST_RETIRED (0x8318): Store instruction architecturally executed, snoop hit. -/
def execDsnpHitStRetired (s : State) : Host.Outcome State Fault Refusal :=
  countEvent .dsnpHitStRetired .own occDsnpHitStRetired incUnit s

/-- R1098 DSNP_HIT_NEAR_ST_RETIRED (0x8319): Store instruction architecturally executed, snoop hit in near cache. -/
def execDsnpHitNearStRetired (s : State) : Host.Outcome State Fault Refusal :=
  countEvent .dsnpHitNearStRetired .own occDsnpHitNearStRetired incUnit s

/-- R1099 DSNP_HIT_FAR_ST_RETIRED (0x831A): Store instruction architecturally executed, snoop hit in far cache. -/
def execDsnpHitFarStRetired (s : State) : Host.Outcome State Fault Refusal :=
  countEvent .dsnpHitFarStRetired .own occDsnpHitFarStRetired incUnit s

/-- R1100 DSNP_HIT_REMOTE_ST_RETIRED (0x831B): Store instruction architecturally executed, snoop hit in remote cache. -/
def execDsnpHitRemoteStRetired (s : State) : Host.Outcome State Fault Refusal :=
  countEvent .dsnpHitRemoteStRetired .own occDsnpHitRemoteStRetired incUnit s

/-- R1101 DSNP_HIT_LDST_RETIRED (0x831C): Load or store instruction architecturally executed, snoop hit. -/
def execDsnpHitLdstRetired (s : State) : Host.Outcome State Fault Refusal :=
  countEvent .dsnpHitLdstRetired .own occDsnpHitLdstRetired incUnit s

/-- R1102 DSNP_HIT_NEAR_LDST_RETIRED (0x831D): Load or store instruction architecturally executed, snoop hit in near cache. -/
def execDsnpHitNearLdstRetired (s : State) : Host.Outcome State Fault Refusal :=
  countEvent .dsnpHitNearLdstRetired .own occDsnpHitNearLdstRetired incUnit s

/-- R1103 DSNP_HIT_FAR_LDST_RETIRED (0x831E): Load or store instruction architecturally executed, snoop hit in far cache. -/
def execDsnpHitFarLdstRetired (s : State) : Host.Outcome State Fault Refusal :=
  countEvent .dsnpHitFarLdstRetired .own occDsnpHitFarLdstRetired incUnit s

/-- R1104 DSNP_HIT_REMOTE_LDST_RETIRED (0x831F): Load or store instruction architecturally executed, snoop hit in remote cache. -/
def execDsnpHitRemoteLdstRetired (s : State) : Host.Outcome State Fault Refusal :=
  countEvent .dsnpHitRemoteLdstRetired .own occDsnpHitRemoteLdstRetired incUnit s

/-- R1105 L1D_CACHE_REFILL_PERCYC (0x8320): Level 1 data or unified cache refills in progress. -/
def execL1dCacheRefillPercyc (s : State) : Host.Outcome State Fault Refusal :=
  countEvent .l1dCacheRefillPercyc .cycle occL1dCacheRefillPercyc (incInProgress .l1dCacheRefill .l1dCacheRefill (.shared .l1dCache)) s

/-- R1106 L2D_CACHE_REFILL_PERCYC (0x8321): Level 2 data or unified cache refills in progress. -/
def execL2dCacheRefillPercyc (s : State) : Host.Outcome State Fault Refusal :=
  countEvent .l2dCacheRefillPercyc .cycle occL2dCacheRefillPercyc (incInProgress .l2dCacheRefill .l2dCacheRefill (.shared .l2dCache)) s

/-- R1107 L3D_CACHE_REFILL_PERCYC (0x8322): Level 3 data or unified cache refills in progress. -/
def execL3dCacheRefillPercyc (s : State) : Host.Outcome State Fault Refusal :=
  countEvent .l3dCacheRefillPercyc .cycle occL3dCacheRefillPercyc (incInProgress .l3dCacheRefill .l3dCacheRefill (.shared .l3dCache)) s

/-- R1108 L1I_CACHE_REFILL_PERCYC (0x8324): Level 1 instruction or unified cache refills in progress. -/
def execL1iCacheRefillPercyc (s : State) : Host.Outcome State Fault Refusal :=
  countEvent .l1iCacheRefillPercyc .cycle occL1iCacheRefillPercyc (incInProgress .l1iCacheRefill .l1iCacheRefill (.shared .l1iCache)) s

/-- R1109 L2I_CACHE_REFILL_PERCYC (0x8325): Level 2 instruction or unified cache refills in progress. -/
def execL2iCacheRefillPercyc (s : State) : Host.Outcome State Fault Refusal :=
  countEvent .l2iCacheRefillPercyc .cycle occL2iCacheRefillPercyc (incInProgress .l2iCacheRefill .l2iCacheRefill (.shared .l2iCache)) s

/-- R1110 REMOTE_CACHE_HIT_RD (0x8328): Remote cache demand access hit, read. -/
def execRemoteCacheHitRd (s : State) : Host.Outcome State Fault Refusal :=
  countEvent .remoteCacheHitRd .own occRemoteCacheHitRd incUnit s

/-- R1111 REMOTE_CACHE_HITM_RD (0x8329): Remote cache demand access hit modified, read. -/
def execRemoteCacheHitmRd (s : State) : Host.Outcome State Fault Refusal :=
  countEvent .remoteCacheHitmRd .own occRemoteCacheHitmRd incUnit s

/-- R1112 REMOTE_LFB_HIT_RD (0x832A): Remote cache demand access line-fill buffer hit, read. -/
def execRemoteLfbHitRd (s : State) : Host.Outcome State Fault Refusal :=
  countEvent .remoteLfbHitRd .own occRemoteLfbHitRd incUnit s

/-- R1113 REMOTE_CACHE_HIT_PRFM (0x832B): Remote cache software prefetch hit. -/
def execRemoteCacheHitPrfm (s : State) : Host.Outcome State Fault Refusal :=
  countEvent .remoteCacheHitPrfm .own occRemoteCacheHitPrfm incUnit s

/-- R1114 STALL_BACKEND_ATOMIC_FP (0x832C): Backend stall cycles, atomic in-memory floating-point load or store. -/
def execStallBackendAtomicFp (s : State) : Host.Outcome State Fault Refusal :=
  countEvent .stallBackendAtomicFp .cycle occStallBackendAtomicFp incUnit s

/-- R1115 LSE_FP_LD_SPEC (0x832D): Atomic in-memory floating-point Operation speculatively executed, load. -/
def execLseFpLdSpec (s : State) : Host.Outcome State Fault Refusal :=
  countEvent .lseFpLdSpec .own occLseFpLdSpec incUnit s

/-- R1116 LSE_FP_ST_SPEC (0x832E): Atomic in-memory floating-point Operation speculatively executed, store. -/
def execLseFpStSpec (s : State) : Host.Outcome State Fault Refusal :=
  countEvent .lseFpStSpec .own occLseFpStSpec incUnit s

/-- R1117 LSE_FP_LDST_SPEC (0x832F): Atomic in-memory floating-point Operation speculatively executed, load or store. -/
def execLseFpLdstSpec (s : State) : Host.Outcome State Fault Refusal :=
  countEvent .lseFpLdstSpec .own occLseFpLdstSpec incUnit s

/-- R1118 L1GCS_CACHE (0x8330): Level 1 GCS cache access. -/
def execL1gcsCache (s : State) : Host.Outcome State Fault Refusal :=
  countEvent .l1gcsCache .own occL1gcsCache incUnit s

/-- R1119 L1GCS_CACHE_RW (0x8331): Level 1 GCS cache demand access. -/
def execL1gcsCacheRw (s : State) : Host.Outcome State Fault Refusal :=
  countEvent .l1gcsCacheRw .own occL1gcsCacheRw incUnit s

/-- R1120 L1GCS_CACHE_HWPRF (0x8332): Level 1 GCS cache hardware prefetch. -/
def execL1gcsCacheHwprf (s : State) : Host.Outcome State Fault Refusal :=
  countEvent .l1gcsCacheHwprf .own occL1gcsCacheHwprf incUnit s

/-- R1121 L1GCS_CACHE_MISS (0x8334): Level 1 GCS cache demand access miss. -/
def execL1gcsCacheMiss (s : State) : Host.Outcome State Fault Refusal :=
  countEvent .l1gcsCacheMiss .own occL1gcsCacheMiss incUnit s

/-- R1122 L1GCS_CACHE_MISS_RD (0x8335): Level 1 GCS cache demand access read miss. Which cache
"the cache" of the sharing clause S2 (R131) is, of "a Level 1 cache", the spec does not say: the model's choice is `l1gcsCache`, apart from
`l1dCache`, without separate GCS caching structures too. Log 76. -/
def execL1gcsCacheMissRd (s : State) : Host.Outcome State Fault Refusal :=
  countEvent .l1gcsCacheMissRd (.shared .l1gcsCache) occL1gcsCacheMissRd incUnit s

/-- R1123 L1GCS_CACHE_HIT_RW (0x8336): Level 1 GCS cache demand access hit. -/
def execL1gcsCacheHitRw (s : State) : Host.Outcome State Fault Refusal :=
  countEvent .l1gcsCacheHitRw .own occL1gcsCacheHitRw incUnit s

/-- R1124 L1GCS_CACHE_HIT_RW_FHWPRF (0x8337): Level 1 GCS cache demand access first hit, fetched by GCS hardware prefetcher. -/
def execL1gcsCacheHitRwFhwprf (s : State) : Host.Outcome State Fault Refusal :=
  countEvent .l1gcsCacheHitRwFhwprf .own occL1gcsCacheHitRwFhwprf incUnit s

/-- R1125 L1GCS_CACHE_REFILL (0x8338): Level 1 GCS cache refill. Which cache
"the cache" of the sharing clause S2 (R131) is, of "a Level 1 cache", the spec does not say: the model's choice is `l1gcsCache`, apart from
`l1dCache`, without separate GCS caching structures too. Log 76. -/
def execL1gcsCacheRefill (s : State) : Host.Outcome State Fault Refusal :=
  countEvent .l1gcsCacheRefill (.shared .l1gcsCache) occL1gcsCacheRefill incUnit s

/-- R1126 L1GCS_CACHE_REFILL_HWPRF (0x8339): Level 1 GCS cache refill, hardware prefetch. -/
def execL1gcsCacheRefillHwprf (s : State) : Host.Outcome State Fault Refusal :=
  countEvent .l1gcsCacheRefillHwprf .own occL1gcsCacheRefillHwprf incUnit s

/-- R1127 L1GCS_CACHE_REFILL_PERCYC (0x833A): Level 1 GCS cache refills in progress. -/
def execL1gcsCacheRefillPercyc (s : State) : Host.Outcome State Fault Refusal :=
  countEvent .l1gcsCacheRefillPercyc .cycle occL1gcsCacheRefillPercyc (incInProgress .l1gcsCacheRefill .l1gcsCacheRefill (.shared .l1gcsCache)) s

/-- R1128 L1GCS_LFB_HIT_RW (0x833C): Level 1 GCS cache demand access line-fill buffer hit. -/
def execL1gcsLfbHitRw (s : State) : Host.Outcome State Fault Refusal :=
  countEvent .l1gcsLfbHitRw .own occL1gcsLfbHitRw incUnit s

/-- R1129 L1GCS_LFB_HIT_RW_FHWPRF (0x833D): Level 1 GCS cache demand access line-fill buffer first hit, recently fetched by GCS hardware prefetcher. -/
def execL1gcsLfbHitRwFhwprf (s : State) : Host.Outcome State Fault Refusal :=
  countEvent .l1gcsLfbHitRwFhwprf .own occL1gcsLfbHitRwFhwprf incUnit s

/-- R1130 L1GCS_CACHE_INVAL (0x833E): Level 1 GCS cache invalidate. -/
def execL1gcsCacheInval (s : State) : Host.Outcome State Fault Refusal :=
  countEvent .l1gcsCacheInval .invalidate occL1gcsCacheInval incUnit s

/-- R1131 L1GCS_TLB (0x8340): Level 1 GCS TLB access. -/
def execL1gcsTlb (s : State) : Host.Outcome State Fault Refusal :=
  countEvent .l1gcsTlb (.shared .l1gcsTlb) occL1gcsTlb incUnit s

/-- R1132 L1GCS_TLB_RW (0x8341): Level 1 GCS demand TLB access. -/
def execL1gcsTlbRw (s : State) : Host.Outcome State Fault Refusal :=
  countEvent .l1gcsTlbRw (.shared .l1gcsTlb) occL1gcsTlbRw incUnit s

/-- R1133 L1GCS_TLB_HWPRF (0x8342): Level 1 GCS demand TLB access, GCS hardware prefetch. -/
def execL1gcsTlbHwprf (s : State) : Host.Outcome State Fault Refusal :=
  countEvent .l1gcsTlbHwprf (.shared .l1gcsTlb) occL1gcsTlbHwprf incUnit s

/-- R1134 GCSTLB_WALK (0x8344): GCS TLB access with at least one translation table walk. -/
def execGcstlbWalk (s : State) : Host.Outcome State Fault Refusal :=
  countEvent .gcstlbWalk (.shared .gcstlb) occGcstlbWalk incUnit s

/-- R1135 GCSTLB_WALK_RW (0x8345): GCS TLB demand access with at least one translation table walk. -/
def execGcstlbWalkRw (s : State) : Host.Outcome State Fault Refusal :=
  countEvent .gcstlbWalkRw (.shared .gcstlb) occGcstlbWalkRw incUnit s

/-- R1136 GCSTLB_WALK_PERCYC (0x8346): Translation table walks in progress. -/
def execGcstlbWalkPercyc (s : State) : Host.Outcome State Fault Refusal :=
  countEvent .gcstlbWalkPercyc .cycle occGcstlbWalkPercyc (incInProgress .gcstlbWalk .gcstlbWalkPercyc (.shared .gcstlb)) s

/-- R1137 GCSTLB_WALK_STEP (0x8347): GCS TLB translation table walk, step. -/
def execGcstlbWalkStep (s : State) : Host.Outcome State Fault Refusal :=
  countEvent .gcstlbWalkStep (.shared .gcstlb) occGcstlbWalkStep incUnit s

/-- R1138 SAMPLE_FEED_FP (0x8348): Statistical Profiling sample taken, floating-point. -/
def execSampleFeedFp (s : State) : Host.Outcome State Fault Refusal :=
  countEvent .sampleFeedFp .own occSampleFeedFp incUnit s

/-- R1139 SAMPLE_FEED_SIMD (0x8349): Statistical Profiling sample taken, SIMD. -/
def execSampleFeedSimd (s : State) : Host.Outcome State Fault Refusal :=
  countEvent .sampleFeedSimd .own occSampleFeedSimd incUnit s

/-- R1140 STALL_BACKEND_L1GCS (0x8350): Backend stall cycles, Level 1 GCS cache. -/
def execStallBackendL1gcs (s : State) : Host.Outcome State Fault Refusal :=
  countEvent .stallBackendL1gcs .cycle occStallBackendL1gcs incUnit s

/-- R1141 STALL_BACKEND_GCSTLB (0x8351): Backend stall cycles, GCS TLB. -/
def execStallBackendGcstlb (s : State) : Host.Outcome State Fault Refusal :=
  countEvent .stallBackendGcstlb .cycle occStallBackendGcstlb incUnit s

/-- R1142 SME_FP_SPEC (0x8352): Operation speculatively executed, SME floating-point, data-processing. -/
def execSmeFpSpec (s : State) : Host.Outcome State Fault Refusal :=
  countEvent .smeFpSpec .own occSmeFpSpec incUnit s

/-- R1143 SE_FP_SPEC (0x8353): Operation speculatively executed, Advanced SIMD, SVE, or SME SIMD floating-point, data-processing. -/
def execSeFpSpec (s : State) : Host.Outcome State Fault Refusal :=
  countEvent .seFpSpec .own occSeFpSpec incUnit s

/-- R1144 SVE_CMP_IGRANULE_SPEC (0x8354): Operation speculatively executed, SVE in-granule compare. -/
def execSveCmpIgranuleSpec (s : State) : Host.Outcome State Fault Refusal :=
  countEvent .sveCmpIgranuleSpec .own occSveCmpIgranuleSpec incUnit s

/-- R1145 SVE_CMP_XGRANULE_SPEC (0x8355): Operation speculatively executed, SVE cross-granule compare. -/
def execSveCmpXgranuleSpec (s : State) : Host.Outcome State Fault Refusal :=
  countEvent .sveCmpXgranuleSpec .own occSveCmpXgranuleSpec incUnit s

/-- R1146 SVE_BITPERM_SPEC (0x8356): Operation speculatively executed, SVE in-element permute. -/
def execSveBitpermSpec (s : State) : Host.Outcome State Fault Refusal :=
  countEvent .sveBitpermSpec .own occSveBitpermSpec incUnit s

/-- R1147 SME_SPEC (0x835C): Operation speculatively executed, SME data processing. -/
def execSmeSpec (s : State) : Host.Outcome State Fault Refusal :=
  countEvent .smeSpec .own occSmeSpec incUnit s

/-- R1148 SE_SPEC (0x835D): Operation speculatively executed, Advanced SIMD, SVE, or SME data processing. -/
def execSeSpec (s : State) : Host.Outcome State Fault Refusal :=
  countEvent .seSpec .own occSeSpec incUnit s

/-- R1149 SME_INST_SPEC (0x835E): Operation speculatively executed, SME. -/
def execSmeInstSpec (s : State) : Host.Outcome State Fault Refusal :=
  countEvent .smeInstSpec .own occSmeInstSpec incUnit s

/-- R1150 SE_INST_SPEC (0x835F): Operation speculatively executed, Advanced SIMD, SVE, or SME. -/
def execSeInstSpec (s : State) : Host.Outcome State Fault Refusal :=
  countEvent .seInstSpec .own occSeInstSpec incUnit s

/-- R1151 SME_INT8_SPEC (0x8360): Operation speculatively executed, SME 8-bit integer, data-processing. -/
def execSmeInt8Spec (s : State) : Host.Outcome State Fault Refusal :=
  countEvent .smeInt8Spec .own occSmeInt8Spec incUnit s

/-- R1152 SE_INT8_SPEC (0x8361): Operation speculatively executed, Advanced SIMD, SVE, or SME SIMD 8-bit integer, data-processing. -/
def execSeInt8Spec (s : State) : Host.Outcome State Fault Refusal :=
  countEvent .seInt8Spec .own occSeInt8Spec incUnit s

/-- R1153 SME_FP_BF16_SPEC (0x8362): Operation speculatively executed, SME BFloat16 floating-point, data-processing. -/
def execSmeFpBf16Spec (s : State) : Host.Outcome State Fault Refusal :=
  countEvent .smeFpBf16Spec .own occSmeFpBf16Spec incUnit s

/-- R1154 SE_FP_BF16_SPEC (0x8363): Operation speculatively executed, Advanced SIMD, SVE, or SME SIMD BFloat16 floating-point, data-processing. -/
def execSeFpBf16Spec (s : State) : Host.Outcome State Fault Refusal :=
  countEvent .seFpBf16Spec .own occSeFpBf16Spec incUnit s

/-- R1155 SME_INT16_SPEC (0x8364): Operation speculatively executed, SME 16-bit integer, data-processing. -/
def execSmeInt16Spec (s : State) : Host.Outcome State Fault Refusal :=
  countEvent .smeInt16Spec .own occSmeInt16Spec incUnit s

/-- R1156 SE_INT16_SPEC (0x8365): Operation speculatively executed, Advanced SIMD, SVE, or SME SIMD 16-bit integer, data-processing. -/
def execSeInt16Spec (s : State) : Host.Outcome State Fault Refusal :=
  countEvent .seInt16Spec .own occSeInt16Spec incUnit s

/-- R1157 SME_FP_HP_SPEC (0x8366): Operation speculatively executed, SME half-precision floating-point, data-processing. -/
def execSmeFpHpSpec (s : State) : Host.Outcome State Fault Refusal :=
  countEvent .smeFpHpSpec .own occSmeFpHpSpec incUnit s

/-- R1158 SE_FP_HP_SPEC (0x8367): Operation speculatively executed, Advanced SIMD, SVE, or SME SIMD half-precision floating-point, data-processing. -/
def execSeFpHpSpec (s : State) : Host.Outcome State Fault Refusal :=
  countEvent .seFpHpSpec .own occSeFpHpSpec incUnit s

/-- R1159 SME_INT32_SPEC (0x8368): Operation speculatively executed, SME 32-bit integer, data-processing. -/
def execSmeInt32Spec (s : State) : Host.Outcome State Fault Refusal :=
  countEvent .smeInt32Spec .own occSmeInt32Spec incUnit s

/-- R1160 SE_INT32_SPEC (0x8369): Operation speculatively executed, Advanced SIMD, SVE, or SME SIMD 32-bit integer, data-processing. -/
def execSeInt32Spec (s : State) : Host.Outcome State Fault Refusal :=
  countEvent .seInt32Spec .own occSeInt32Spec incUnit s

/-- R1161 SME_FP_SP_SPEC (0x836A): Operation speculatively executed, SME single-precision floating-point, data-processing. -/
def execSmeFpSpSpec (s : State) : Host.Outcome State Fault Refusal :=
  countEvent .smeFpSpSpec .own occSmeFpSpSpec incUnit s

/-- R1162 SE_FP_SP_SPEC (0x836B): Operation speculatively executed, Advanced SIMD, SVE, or SME SIMD single-precision floating-point, data-processing. -/
def execSeFpSpSpec (s : State) : Host.Outcome State Fault Refusal :=
  countEvent .seFpSpSpec .own occSeFpSpSpec incUnit s

/-- R1163 SME_INT64_SPEC (0x836C): Operation speculatively executed, SME 64-bit integer, data-processing. -/
def execSmeInt64Spec (s : State) : Host.Outcome State Fault Refusal :=
  countEvent .smeInt64Spec .own occSmeInt64Spec incUnit s

/-- R1164 SE_INT64_SPEC (0x836D): Operation speculatively executed, Advanced SIMD, SVE, or SME SIMD 64-bit integer, data-processing. -/
def execSeInt64Spec (s : State) : Host.Outcome State Fault Refusal :=
  countEvent .seInt64Spec .own occSeInt64Spec incUnit s

/-- R1165 SME_FP_DP_SPEC (0x836E): Operation speculatively executed, SME double-precision floating-point, data-processing. -/
def execSmeFpDpSpec (s : State) : Host.Outcome State Fault Refusal :=
  countEvent .smeFpDpSpec .own occSmeFpDpSpec incUnit s

/-- R1166 SE_FP_DP_SPEC (0x836F): Operation speculatively executed, Advanced SIMD, SVE, or SME SIMD double-precision floating-point, data-processing. -/
def execSeFpDpSpec (s : State) : Host.Outcome State Fault Refusal :=
  countEvent .seFpDpSpec .own occSeFpDpSpec incUnit s

/-- R1167 SME_FP_ADDSUB_SPEC (0x8370): Operation speculatively executed, SME floating-point addition or subtraction. -/
def execSmeFpAddsubSpec (s : State) : Host.Outcome State Fault Refusal :=
  countEvent .smeFpAddsubSpec .own occSmeFpAddsubSpec incUnit s

/-- R1168 SE_FP_ADDSUB_SPEC (0x8371): Operation speculatively executed, Advanced SIMD, SVE, or SME SIMD floating-point addition or subtraction. -/
def execSeFpAddsubSpec (s : State) : Host.Outcome State Fault Refusal :=
  countEvent .seFpAddsubSpec .own occSeFpAddsubSpec incUnit s

/-- R1169 SME_FP_FMA_SPEC (0x8372): Operation speculatively executed, SME floating-point multiply-add or multiply-subtract. -/
def execSmeFpFmaSpec (s : State) : Host.Outcome State Fault Refusal :=
  countEvent .smeFpFmaSpec .own occSmeFpFmaSpec incUnit s

/-- R1170 SE_FP_FMA_SPEC (0x8373): Operation speculatively executed, Advanced SIMD, SVE, or SME SIMD floating-point multiply-add or multiply-subtract. -/
def execSeFpFmaSpec (s : State) : Host.Outcome State Fault Refusal :=
  countEvent .seFpFmaSpec .own occSeFpFmaSpec incUnit s

/-- R1171 SME_FP_DOT_SPEC (0x8374): Operation speculatively executed, SME floating-point dot product. -/
def execSmeFpDotSpec (s : State) : Host.Outcome State Fault Refusal :=
  countEvent .smeFpDotSpec .own occSmeFpDotSpec incUnit s

/-- R1172 SE_FP_DOT_SPEC (0x8375): Operation speculatively executed, Advanced SIMD, SVE, or SME SIMD floating-point dot product. -/
def execSeFpDotSpec (s : State) : Host.Outcome State Fault Refusal :=
  countEvent .seFpDotSpec .own occSeFpDotSpec incUnit s

/-- R1173 SME_FP_MOPA_SPEC (0x8376): Operation speculatively executed, SME floating-point outer product and accumulate, or outer product and subtract. -/
def execSmeFpMopaSpec (s : State) : Host.Outcome State Fault Refusal :=
  countEvent .smeFpMopaSpec .own occSmeFpMopaSpec incUnit s

/-- R1174 SME_INT_SPEC (0x8378): Operation speculatively executed, SME integer, data-processing. -/
def execSmeIntSpec (s : State) : Host.Outcome State Fault Refusal :=
  countEvent .smeIntSpec .own occSmeIntSpec incUnit s

/-- R1175 SE_INT_SPEC (0x8379): Operation speculatively executed, Advanced SIMD, SVE, or SME SIMD integer, data-processing. -/
def execSeIntSpec (s : State) : Host.Outcome State Fault Refusal :=
  countEvent .seIntSpec .own occSeIntSpec incUnit s

/-- R1176 SME_INT_MUL_SPEC (0x837A): Operation speculatively executed, SME integer multiply or multiply-accumulate. -/
def execSmeIntMulSpec (s : State) : Host.Outcome State Fault Refusal :=
  countEvent .smeIntMulSpec .own occSmeIntMulSpec incUnit s

/-- R1177 SE_INT_MUL_SPEC (0x837B): Operation speculatively executed, Advanced SIMD, SVE, or SME SIMD integer multiply or multiply-accumulate. -/
def execSeIntMulSpec (s : State) : Host.Outcome State Fault Refusal :=
  countEvent .seIntMulSpec .own occSeIntMulSpec incUnit s

/-- R1178 SME_INT_DOT_SPEC (0x837C): Operation speculatively executed, SME integer dot product. -/
def execSmeIntDotSpec (s : State) : Host.Outcome State Fault Refusal :=
  countEvent .smeIntDotSpec .own occSmeIntDotSpec incUnit s

/-- R1179 SE_INT_DOT_SPEC (0x837D): Operation speculatively executed, Advanced SIMD, SVE, or SME SIMD integer dot product. -/
def execSeIntDotSpec (s : State) : Host.Outcome State Fault Refusal :=
  countEvent .seIntDotSpec .own occSeIntDotSpec incUnit s

/-- R1180 SME_INT_MOPA_SPEC (0x837E): Operation speculatively executed, SME integer outer product and accumulate, or outer product and subtract. -/
def execSmeIntMopaSpec (s : State) : Host.Outcome State Fault Refusal :=
  countEvent .smeIntMopaSpec .own occSmeIntMopaSpec incUnit s

/-- R1181 ZA_ACTIVE (0x8380): CPU cycles, ZA enabled. -/
def execZaActive (s : State) : Host.Outcome State Fault Refusal :=
  countEvent .zaActive .cycle occZaActive incUnit s

/-- R1182 SME_PRED2_NOT_FULL_SPEC (0x8381): Operation speculatively executed, SME 2D predicated with at least one inactive element. -/
def execSmePred2NotFullSpec (s : State) : Host.Outcome State Fault Refusal :=
  countEvent .smePred2NotFullSpec .own occSmePred2NotFullSpec incUnit s

/-- R1183 SME_PRED2_SPEC (0x8384): Operation speculatively executed, SME 2D predicated. -/
def execSmePred2Spec (s : State) : Host.Outcome State Fault Refusal :=
  countEvent .smePred2Spec .own occSmePred2Spec incUnit s

/-- R1184 SME_PRED2_EMPTY_SPEC (0x8385): Operation speculatively executed, SME 2D predicated with no active elements. -/
def execSmePred2EmptySpec (s : State) : Host.Outcome State Fault Refusal :=
  countEvent .smePred2EmptySpec .own occSmePred2EmptySpec incUnit s

/-- R1185 SME_PRED2_FULL_SPEC (0x8386): Operation speculatively executed, SME 2D predicated with all active elements. -/
def execSmePred2FullSpec (s : State) : Host.Outcome State Fault Refusal :=
  countEvent .smePred2FullSpec .own occSmePred2FullSpec incUnit s

/-- R1186 SME_PRED2_PARTIAL_SPEC (0x8387): Operation speculatively executed, SME 2D predicated with partially active elements. -/
def execSmePred2PartialSpec (s : State) : Host.Outcome State Fault Refusal :=
  countEvent .smePred2PartialSpec .own occSmePred2PartialSpec incUnit s

/-- R1187 SME_LDST_ZAREG_SPEC (0x8388): SME ZA unpredicated load/store. -/
def execSmeLdstZaregSpec (s : State) : Host.Outcome State Fault Refusal :=
  countEvent .smeLdstZaregSpec .own occSmeLdstZaregSpec incUnit s

/-- R1188 SME_LD_ZAREG_SPEC (0x8389): SME ZA unpredicated load. -/
def execSmeLdZaregSpec (s : State) : Host.Outcome State Fault Refusal :=
  countEvent .smeLdZaregSpec .own occSmeLdZaregSpec incUnit s

/-- R1189 SME_ST_ZAREG_SPEC (0x838A): SME ZA unpredicated store. -/
def execSmeStZaregSpec (s : State) : Host.Outcome State Fault Refusal :=
  countEvent .smeStZaregSpec .own occSmeStZaregSpec incUnit s

/-- R1190 SME_LDST_ZTREG_SPEC (0x838C): SME ZT unpredicated load/store. -/
def execSmeLdstZtregSpec (s : State) : Host.Outcome State Fault Refusal :=
  countEvent .smeLdstZtregSpec .own occSmeLdstZtregSpec incUnit s

/-- R1191 SME_LD_ZTREG_SPEC (0x838D): SME ZT unpredicated load. -/
def execSmeLdZtregSpec (s : State) : Host.Outcome State Fault Refusal :=
  countEvent .smeLdZtregSpec .own occSmeLdZtregSpec incUnit s

/-- R1192 SME_ST_ZTREG_SPEC (0x838E): SME ZT unpredicated store. -/
def execSmeStZtregSpec (s : State) : Host.Outcome State Fault Refusal :=
  countEvent .smeStZtregSpec .own occSmeStZtregSpec incUnit s

/-- R1193 SME_LDST_REG_SPEC (0x8390): SME unpredicated load/store. -/
def execSmeLdstRegSpec (s : State) : Host.Outcome State Fault Refusal :=
  countEvent .smeLdstRegSpec .own occSmeLdstRegSpec incUnit s

/-- R1194 SME_LD_REG_SPEC (0x8391): SME unpredicated load. -/
def execSmeLdRegSpec (s : State) : Host.Outcome State Fault Refusal :=
  countEvent .smeLdRegSpec .own occSmeLdRegSpec incUnit s

/-- R1195 SME_ST_REG_SPEC (0x8392): SME unpredicated store. -/
def execSmeStRegSpec (s : State) : Host.Outcome State Fault Refusal :=
  countEvent .smeStRegSpec .own occSmeStRegSpec incUnit s

/-- R1196 SME_LDST_TILE_SPEC (0x8394): SME predicated tile load/store. -/
def execSmeLdstTileSpec (s : State) : Host.Outcome State Fault Refusal :=
  countEvent .smeLdstTileSpec .own occSmeLdstTileSpec incUnit s

/-- R1197 SME_LD_TILE_SPEC (0x8395): SME predicated tile load. -/
def execSmeLdTileSpec (s : State) : Host.Outcome State Fault Refusal :=
  countEvent .smeLdTileSpec .own occSmeLdTileSpec incUnit s

/-- R1198 SME_ST_TILE_SPEC (0x8396): SME predicated tile store. -/
def execSmeStTileSpec (s : State) : Host.Outcome State Fault Refusal :=
  countEvent .smeStTileSpec .own occSmeStTileSpec incUnit s

/-- R1199 ASE_LUT_SPEC (0x8398): Lookup table operation speculatively executed, Advanced SIMD data processing. -/
def execAseLutSpec (s : State) : Host.Outcome State Fault Refusal :=
  countEvent .aseLutSpec .own occAseLutSpec incUnit s

/-- R1200 SVE_LUT_SPEC (0x8399): Lookup table operation speculatively executed, SVE data processing. -/
def execSveLutSpec (s : State) : Host.Outcome State Fault Refusal :=
  countEvent .sveLutSpec .own occSveLutSpec incUnit s

/-- R1201 SME_LUT_SPEC (0x839A): Lookup table operation speculatively executed, SME data processing. -/
def execSmeLutSpec (s : State) : Host.Outcome State Fault Refusal :=
  countEvent .smeLutSpec .own occSmeLutSpec incUnit s

/-- R1202 SE_LUT_SPEC (0x839B): Lookup table operation speculatively executed, Advanced SIMD, SVE, or SME data processing. -/
def execSeLutSpec (s : State) : Host.Outcome State Fault Refusal :=
  countEvent .seLutSpec .own occSeLutSpec incUnit s

end Sys2Proof.Machine
end

