-- ==== Sys2Proof/Machine/Uarch83A0.lean ====
section
/-!
DEFINITION. The meanings of the 195 events of spec/49_uarch_83A0_8494: each is `Count(E, k)` (40_common_event_rules.md R121)
with the event's own occurrences, attribution and increment.
-/

namespace Sys2Proof.Machine

/-- R1203 N1_CACHE_HIT_RD (0x83A0): Cache at distance 1, demand access hit, read. -/
def execN1CacheHitRd (s : State) : Host.Outcome State Fault Refusal :=
  countEvent .n1CacheHitRd .own occN1CacheHitRd incUnit s

/-- R1204 N2_CACHE_HIT_RD (0x83A1): Cache at distance 2, demand access hit, read. -/
def execN2CacheHitRd (s : State) : Host.Outcome State Fault Refusal :=
  countEvent .n2CacheHitRd .own occN2CacheHitRd incUnit s

/-- R1205 N3_CACHE_HIT_RD (0x83A2): Cache at distance 3, demand access hit, read. -/
def execN3CacheHitRd (s : State) : Host.Outcome State Fault Refusal :=
  countEvent .n3CacheHitRd .own occN3CacheHitRd incUnit s

/-- R1206 N4_CACHE_HIT_RD (0x83A3): Cache at distance 4, demand access hit, read. -/
def execN4CacheHitRd (s : State) : Host.Outcome State Fault Refusal :=
  countEvent .n4CacheHitRd .own occN4CacheHitRd incUnit s

/-- R1207 N1_CACHE_HIT_PRFM (0x83A4): Cache at distance 1, software prefetch hit. -/
def execN1CacheHitPrfm (s : State) : Host.Outcome State Fault Refusal :=
  countEvent .n1CacheHitPrfm .own occN1CacheHitPrfm incUnit s

/-- R1208 N2_CACHE_HIT_PRFM (0x83A5): Cache at distance 2, software prefetch hit. -/
def execN2CacheHitPrfm (s : State) : Host.Outcome State Fault Refusal :=
  countEvent .n2CacheHitPrfm .own occN2CacheHitPrfm incUnit s

/-- R1209 N3_CACHE_HIT_PRFM (0x83A6): Cache at distance 3, software prefetch hit. -/
def execN3CacheHitPrfm (s : State) : Host.Outcome State Fault Refusal :=
  countEvent .n3CacheHitPrfm .own occN3CacheHitPrfm incUnit s

/-- R1210 N4_CACHE_HIT_PRFM (0x83A7): Cache at distance 4, software prefetch hit. -/
def execN4CacheHitPrfm (s : State) : Host.Outcome State Fault Refusal :=
  countEvent .n4CacheHitPrfm .own occN4CacheHitPrfm incUnit s

/-- R1211 N1_CACHE1_HIT_RD (0x83A8): Cache type 1 at distance 1 demand access hit, read. -/
def execN1Cache1HitRd (s : State) : Host.Outcome State Fault Refusal :=
  countEvent .n1Cache1HitRd .own occN1Cache1HitRd incUnit s

/-- R1212 N2_CACHE1_HIT_RD (0x83A9): Cache type 1 at distance 2 demand access hit, read. -/
def execN2Cache1HitRd (s : State) : Host.Outcome State Fault Refusal :=
  countEvent .n2Cache1HitRd .own occN2Cache1HitRd incUnit s

/-- R1213 N3_CACHE1_HIT_RD (0x83AA): Cache type 1 at distance 3 demand access hit, read. -/
def execN3Cache1HitRd (s : State) : Host.Outcome State Fault Refusal :=
  countEvent .n3Cache1HitRd .own occN3Cache1HitRd incUnit s

/-- R1214 N4_CACHE1_HIT_RD (0x83AB): Cache type 1 at distance 4 demand access hit, read. -/
def execN4Cache1HitRd (s : State) : Host.Outcome State Fault Refusal :=
  countEvent .n4Cache1HitRd .own occN4Cache1HitRd incUnit s

/-- R1215 N1_CACHE1_HIT_PRFM (0x83AC): Cache type 1 at distance 1 software prefetch hit. -/
def execN1Cache1HitPrfm (s : State) : Host.Outcome State Fault Refusal :=
  countEvent .n1Cache1HitPrfm .own occN1Cache1HitPrfm incUnit s

/-- R1216 N2_CACHE1_HIT_PRFM (0x83AD): Cache type 1 at distance 2 software prefetch hit. -/
def execN2Cache1HitPrfm (s : State) : Host.Outcome State Fault Refusal :=
  countEvent .n2Cache1HitPrfm .own occN2Cache1HitPrfm incUnit s

/-- R1217 N3_CACHE1_HIT_PRFM (0x83AE): Cache type 1 at distance 3 software prefetch hit. -/
def execN3Cache1HitPrfm (s : State) : Host.Outcome State Fault Refusal :=
  countEvent .n3Cache1HitPrfm .own occN3Cache1HitPrfm incUnit s

/-- R1218 N4_CACHE1_HIT_PRFM (0x83AF): Cache type 1 at distance 4 software prefetch hit. -/
def execN4Cache1HitPrfm (s : State) : Host.Outcome State Fault Refusal :=
  countEvent .n4Cache1HitPrfm .own occN4Cache1HitPrfm incUnit s

/-- R1219 N1_CACHE2_HIT_RD (0x83B0): Cache type 2 at distance 1 demand access hit, read. -/
def execN1Cache2HitRd (s : State) : Host.Outcome State Fault Refusal :=
  countEvent .n1Cache2HitRd .own occN1Cache2HitRd incUnit s

/-- R1220 N2_CACHE2_HIT_RD (0x83B1): Cache type 2 at distance 2 demand access hit, read. -/
def execN2Cache2HitRd (s : State) : Host.Outcome State Fault Refusal :=
  countEvent .n2Cache2HitRd .own occN2Cache2HitRd incUnit s

/-- R1221 N3_CACHE2_HIT_RD (0x83B2): Cache type 2 at distance 3 demand access hit, read. -/
def execN3Cache2HitRd (s : State) : Host.Outcome State Fault Refusal :=
  countEvent .n3Cache2HitRd .own occN3Cache2HitRd incUnit s

/-- R1222 N4_CACHE2_HIT_RD (0x83B3): Cache type 2 at distance 4 demand access hit, read. -/
def execN4Cache2HitRd (s : State) : Host.Outcome State Fault Refusal :=
  countEvent .n4Cache2HitRd .own occN4Cache2HitRd incUnit s

/-- R1223 N1_CACHE2_HIT_PRFM (0x83B4): Cache type 2 at distance 1 software prefetch hit. -/
def execN1Cache2HitPrfm (s : State) : Host.Outcome State Fault Refusal :=
  countEvent .n1Cache2HitPrfm .own occN1Cache2HitPrfm incUnit s

/-- R1224 N2_CACHE2_HIT_PRFM (0x83B5): Cache type 2 at distance 2 software prefetch hit. -/
def execN2Cache2HitPrfm (s : State) : Host.Outcome State Fault Refusal :=
  countEvent .n2Cache2HitPrfm .own occN2Cache2HitPrfm incUnit s

/-- R1225 N3_CACHE2_HIT_PRFM (0x83B6): Cache type 2 at distance 3 software prefetch hit. -/
def execN3Cache2HitPrfm (s : State) : Host.Outcome State Fault Refusal :=
  countEvent .n3Cache2HitPrfm .own occN3Cache2HitPrfm incUnit s

/-- R1226 N4_CACHE2_HIT_PRFM (0x83B7): Cache type 2 at distance 4 software prefetch hit. -/
def execN4Cache2HitPrfm (s : State) : Host.Outcome State Fault Refusal :=
  countEvent .n4Cache2HitPrfm .own occN4Cache2HitPrfm incUnit s

/-- R1227 N1_CACHE3_HIT_RD (0x83B8): Cache type 3 at distance 1 demand access hit, read. -/
def execN1Cache3HitRd (s : State) : Host.Outcome State Fault Refusal :=
  countEvent .n1Cache3HitRd .own occN1Cache3HitRd incUnit s

/-- R1228 N2_CACHE3_HIT_RD (0x83B9): Cache type 3 at distance 2 demand access hit, read. -/
def execN2Cache3HitRd (s : State) : Host.Outcome State Fault Refusal :=
  countEvent .n2Cache3HitRd .own occN2Cache3HitRd incUnit s

/-- R1229 N3_CACHE3_HIT_RD (0x83BA): Cache type 3 at distance 3 demand access hit, read. -/
def execN3Cache3HitRd (s : State) : Host.Outcome State Fault Refusal :=
  countEvent .n3Cache3HitRd .own occN3Cache3HitRd incUnit s

/-- R1230 N4_CACHE3_HIT_RD (0x83BB): Cache type 3 at distance 4 demand access hit, read. -/
def execN4Cache3HitRd (s : State) : Host.Outcome State Fault Refusal :=
  countEvent .n4Cache3HitRd .own occN4Cache3HitRd incUnit s

/-- R1231 N1_CACHE3_HIT_PRFM (0x83BC): Cache type 3 at distance 1 software prefetch hit. -/
def execN1Cache3HitPrfm (s : State) : Host.Outcome State Fault Refusal :=
  countEvent .n1Cache3HitPrfm .own occN1Cache3HitPrfm incUnit s

/-- R1232 N2_CACHE3_HIT_PRFM (0x83BD): Cache type 3 at distance 2 software prefetch hit. -/
def execN2Cache3HitPrfm (s : State) : Host.Outcome State Fault Refusal :=
  countEvent .n2Cache3HitPrfm .own occN2Cache3HitPrfm incUnit s

/-- R1233 N3_CACHE3_HIT_PRFM (0x83BE): Cache type 3 at distance 3 software prefetch hit. -/
def execN3Cache3HitPrfm (s : State) : Host.Outcome State Fault Refusal :=
  countEvent .n3Cache3HitPrfm .own occN3Cache3HitPrfm incUnit s

/-- R1234 N4_CACHE3_HIT_PRFM (0x83BF): Cache type 3 at distance 4 software prefetch hit. -/
def execN4Cache3HitPrfm (s : State) : Host.Outcome State Fault Refusal :=
  countEvent .n4Cache3HitPrfm .own occN4Cache3HitPrfm incUnit s

/-- R1235 N1_CACHE_HITM_RD (0x83C0): Cache at distance 1, demand access hit modified, read. -/
def execN1CacheHitmRd (s : State) : Host.Outcome State Fault Refusal :=
  countEvent .n1CacheHitmRd .own occN1CacheHitmRd incUnit s

/-- R1236 N2_CACHE_HITM_RD (0x83C1): Cache at distance 2, demand access hit modified, read. -/
def execN2CacheHitmRd (s : State) : Host.Outcome State Fault Refusal :=
  countEvent .n2CacheHitmRd .own occN2CacheHitmRd incUnit s

/-- R1237 N3_CACHE_HITM_RD (0x83C2): Cache at distance 3, demand access hit modified, read. -/
def execN3CacheHitmRd (s : State) : Host.Outcome State Fault Refusal :=
  countEvent .n3CacheHitmRd .own occN3CacheHitmRd incUnit s

/-- R1238 N4_CACHE_HITM_RD (0x83C3): Cache at distance 4, demand access hit modified, read. -/
def execN4CacheHitmRd (s : State) : Host.Outcome State Fault Refusal :=
  countEvent .n4CacheHitmRd .own occN4CacheHitmRd incUnit s

/-- R1239 N1_LFB_HIT_RD (0x83C4): Cache at distance 1 demand access line-fill buffer hit, read. -/
def execN1LfbHitRd (s : State) : Host.Outcome State Fault Refusal :=
  countEvent .n1LfbHitRd .own occN1LfbHitRd incUnit s

/-- R1240 N2_LFB_HIT_RD (0x83C5): Cache at distance 2 demand access line-fill buffer hit, read. -/
def execN2LfbHitRd (s : State) : Host.Outcome State Fault Refusal :=
  countEvent .n2LfbHitRd .own occN2LfbHitRd incUnit s

/-- R1241 N3_LFB_HIT_RD (0x83C6): Cache at distance 3 demand access line-fill buffer hit, read. -/
def execN3LfbHitRd (s : State) : Host.Outcome State Fault Refusal :=
  countEvent .n3LfbHitRd .own occN3LfbHitRd incUnit s

/-- R1242 N4_LFB_HIT_RD (0x83C7): Cache at distance 4 demand access line-fill buffer hit, read. -/
def execN4LfbHitRd (s : State) : Host.Outcome State Fault Refusal :=
  countEvent .n4LfbHitRd .own occN4LfbHitRd incUnit s

/-- R1243 N1_CACHE1_HITM_RD (0x83C8): Cache type 1 at distance 1 demand access hit modified, read. -/
def execN1Cache1HitmRd (s : State) : Host.Outcome State Fault Refusal :=
  countEvent .n1Cache1HitmRd .own occN1Cache1HitmRd incUnit s

/-- R1244 N2_CACHE1_HITM_RD (0x83C9): Cache type 1 at distance 2 demand access hit modified, read. -/
def execN2Cache1HitmRd (s : State) : Host.Outcome State Fault Refusal :=
  countEvent .n2Cache1HitmRd .own occN2Cache1HitmRd incUnit s

/-- R1245 N3_CACHE1_HITM_RD (0x83CA): Cache type 1 at distance 3 demand access hit modified, read. -/
def execN3Cache1HitmRd (s : State) : Host.Outcome State Fault Refusal :=
  countEvent .n3Cache1HitmRd .own occN3Cache1HitmRd incUnit s

/-- R1246 N4_CACHE1_HITM_RD (0x83CB): Cache type 1 at distance 4 demand access hit modified, read. -/
def execN4Cache1HitmRd (s : State) : Host.Outcome State Fault Refusal :=
  countEvent .n4Cache1HitmRd .own occN4Cache1HitmRd incUnit s

/-- R1247 N1_LFB1_HIT_RD (0x83CC): Cache type 1 at distance 1 demand access line-fill buffer hit, read. -/
def execN1Lfb1HitRd (s : State) : Host.Outcome State Fault Refusal :=
  countEvent .n1Lfb1HitRd .own occN1Lfb1HitRd incUnit s

/-- R1248 N2_LFB1_HIT_RD (0x83CD): Cache type 1 at distance 2 demand access line-fill buffer hit, read. -/
def execN2Lfb1HitRd (s : State) : Host.Outcome State Fault Refusal :=
  countEvent .n2Lfb1HitRd .own occN2Lfb1HitRd incUnit s

/-- R1249 N3_LFB1_HIT_RD (0x83CE): Cache type 1 at distance 3 demand access line-fill buffer hit, read. -/
def execN3Lfb1HitRd (s : State) : Host.Outcome State Fault Refusal :=
  countEvent .n3Lfb1HitRd .own occN3Lfb1HitRd incUnit s

/-- R1250 N4_LFB1_HIT_RD (0x83CF): Cache type 1 at distance 4 demand access line-fill buffer hit, read. -/
def execN4Lfb1HitRd (s : State) : Host.Outcome State Fault Refusal :=
  countEvent .n4Lfb1HitRd .own occN4Lfb1HitRd incUnit s

/-- R1251 N1_CACHE2_HITM_RD (0x83D0): Cache type 2 at distance 1 demand access hit modified, read. -/
def execN1Cache2HitmRd (s : State) : Host.Outcome State Fault Refusal :=
  countEvent .n1Cache2HitmRd .own occN1Cache2HitmRd incUnit s

/-- R1252 N2_CACHE2_HITM_RD (0x83D1): Cache type 2 at distance 2 demand access hit modified, read. -/
def execN2Cache2HitmRd (s : State) : Host.Outcome State Fault Refusal :=
  countEvent .n2Cache2HitmRd .own occN2Cache2HitmRd incUnit s

/-- R1253 N3_CACHE2_HITM_RD (0x83D2): Cache type 2 at distance 3 demand access hit modified, read. -/
def execN3Cache2HitmRd (s : State) : Host.Outcome State Fault Refusal :=
  countEvent .n3Cache2HitmRd .own occN3Cache2HitmRd incUnit s

/-- R1254 N4_CACHE2_HITM_RD (0x83D3): Cache type 2 at distance 4 demand access hit modified, read. -/
def execN4Cache2HitmRd (s : State) : Host.Outcome State Fault Refusal :=
  countEvent .n4Cache2HitmRd .own occN4Cache2HitmRd incUnit s

/-- R1255 N1_LFB2_HIT_RD (0x83D4): Cache type 2 at distance 1 demand access line-fill buffer hit, read. -/
def execN1Lfb2HitRd (s : State) : Host.Outcome State Fault Refusal :=
  countEvent .n1Lfb2HitRd .own occN1Lfb2HitRd incUnit s

/-- R1256 N2_LFB2_HIT_RD (0x83D5): Cache type 2 at distance 2 demand access line-fill buffer hit, read. -/
def execN2Lfb2HitRd (s : State) : Host.Outcome State Fault Refusal :=
  countEvent .n2Lfb2HitRd .own occN2Lfb2HitRd incUnit s

/-- R1257 N3_LFB2_HIT_RD (0x83D6): Cache type 2 at distance 3 demand access line-fill buffer hit, read. -/
def execN3Lfb2HitRd (s : State) : Host.Outcome State Fault Refusal :=
  countEvent .n3Lfb2HitRd .own occN3Lfb2HitRd incUnit s

/-- R1258 N4_LFB2_HIT_RD (0x83D7): Cache type 2 at distance 4 demand access line-fill buffer hit, read. -/
def execN4Lfb2HitRd (s : State) : Host.Outcome State Fault Refusal :=
  countEvent .n4Lfb2HitRd .own occN4Lfb2HitRd incUnit s

/-- R1259 N1_CACHE3_HITM_RD (0x83D8): Cache type 3 at distance 1 demand access hit modified, read. -/
def execN1Cache3HitmRd (s : State) : Host.Outcome State Fault Refusal :=
  countEvent .n1Cache3HitmRd .own occN1Cache3HitmRd incUnit s

/-- R1260 N2_CACHE3_HITM_RD (0x83D9): Cache type 3 at distance 2 demand access hit modified, read. -/
def execN2Cache3HitmRd (s : State) : Host.Outcome State Fault Refusal :=
  countEvent .n2Cache3HitmRd .own occN2Cache3HitmRd incUnit s

/-- R1261 N3_CACHE3_HITM_RD (0x83DA): Cache type 3 at distance 3 demand access hit modified, read. -/
def execN3Cache3HitmRd (s : State) : Host.Outcome State Fault Refusal :=
  countEvent .n3Cache3HitmRd .own occN3Cache3HitmRd incUnit s

/-- R1262 N4_CACHE3_HITM_RD (0x83DB): Cache type 3 at distance 4 demand access hit modified, read. -/
def execN4Cache3HitmRd (s : State) : Host.Outcome State Fault Refusal :=
  countEvent .n4Cache3HitmRd .own occN4Cache3HitmRd incUnit s

/-- R1263 N1_LFB3_HIT_RD (0x83DC): Cache type 3 at distance 1 demand access line-fill buffer hit, read. -/
def execN1Lfb3HitRd (s : State) : Host.Outcome State Fault Refusal :=
  countEvent .n1Lfb3HitRd .own occN1Lfb3HitRd incUnit s

/-- R1264 N2_LFB3_HIT_RD (0x83DD): Cache type 3 at distance 2 demand access line-fill buffer hit, read. -/
def execN2Lfb3HitRd (s : State) : Host.Outcome State Fault Refusal :=
  countEvent .n2Lfb3HitRd .own occN2Lfb3HitRd incUnit s

/-- R1265 N3_LFB3_HIT_RD (0x83DE): Cache type 3 at distance 3 demand access line-fill buffer hit, read. -/
def execN3Lfb3HitRd (s : State) : Host.Outcome State Fault Refusal :=
  countEvent .n3Lfb3HitRd .own occN3Lfb3HitRd incUnit s

/-- R1266 N4_LFB3_HIT_RD (0x83DF): Cache type 3 at distance 4 demand access line-fill buffer hit, read. -/
def execN4Lfb3HitRd (s : State) : Host.Outcome State Fault Refusal :=
  countEvent .n4Lfb3HitRd .own occN4Lfb3HitRd incUnit s

/-- R1267 N1_MEM_RD (0x83E0): Access to memory at distance 1, demand access, read. -/
def execN1MemRd (s : State) : Host.Outcome State Fault Refusal :=
  countEvent .n1MemRd .own occN1MemRd incUnit s

/-- R1268 N2_MEM_RD (0x83E1): Access to memory at distance 2, demand access, read. -/
def execN2MemRd (s : State) : Host.Outcome State Fault Refusal :=
  countEvent .n2MemRd .own occN2MemRd incUnit s

/-- R1269 N3_MEM_RD (0x83E2): Access to memory at distance 3, demand access, read. -/
def execN3MemRd (s : State) : Host.Outcome State Fault Refusal :=
  countEvent .n3MemRd .own occN3MemRd incUnit s

/-- R1270 N4_MEM_RD (0x83E3): Access to memory at distance 4, demand access, read. -/
def execN4MemRd (s : State) : Host.Outcome State Fault Refusal :=
  countEvent .n4MemRd .own occN4MemRd incUnit s

/-- R1271 N1_MEM_PRFM (0x83E4): Access to memory at distance 1, software prefetch. -/
def execN1MemPrfm (s : State) : Host.Outcome State Fault Refusal :=
  countEvent .n1MemPrfm .own occN1MemPrfm incUnit s

/-- R1272 N2_MEM_PRFM (0x83E5): Access to memory at distance 2, software prefetch. -/
def execN2MemPrfm (s : State) : Host.Outcome State Fault Refusal :=
  countEvent .n2MemPrfm .own occN2MemPrfm incUnit s

/-- R1273 N3_MEM_PRFM (0x83E6): Access to memory at distance 3, software prefetch. -/
def execN3MemPrfm (s : State) : Host.Outcome State Fault Refusal :=
  countEvent .n3MemPrfm .own occN3MemPrfm incUnit s

/-- R1274 N4_MEM_PRFM (0x83E7): Access to memory at distance 4, software prefetch. -/
def execN4MemPrfm (s : State) : Host.Outcome State Fault Refusal :=
  countEvent .n4MemPrfm .own occN4MemPrfm incUnit s

/-- R1275 N1_MEM1_RD (0x83E8): Access to type 1 memory at distance 1, demand access, read. -/
def execN1Mem1Rd (s : State) : Host.Outcome State Fault Refusal :=
  countEvent .n1Mem1Rd .own occN1Mem1Rd incUnit s

/-- R1276 N2_MEM1_RD (0x83E9): Access to type 1 memory at distance 2, demand access, read. -/
def execN2Mem1Rd (s : State) : Host.Outcome State Fault Refusal :=
  countEvent .n2Mem1Rd .own occN2Mem1Rd incUnit s

/-- R1277 N3_MEM1_RD (0x83EA): Access to type 1 memory at distance 3, demand access, read. -/
def execN3Mem1Rd (s : State) : Host.Outcome State Fault Refusal :=
  countEvent .n3Mem1Rd .own occN3Mem1Rd incUnit s

/-- R1278 N4_MEM1_RD (0x83EB): Access to type 1 memory at distance 4, demand access, read. -/
def execN4Mem1Rd (s : State) : Host.Outcome State Fault Refusal :=
  countEvent .n4Mem1Rd .own occN4Mem1Rd incUnit s

/-- R1279 N1_MEM1_PRFM (0x83EC): Access to type 1 memory at distance 1, software prefetch. -/
def execN1Mem1Prfm (s : State) : Host.Outcome State Fault Refusal :=
  countEvent .n1Mem1Prfm .own occN1Mem1Prfm incUnit s

/-- R1280 N2_MEM1_PRFM (0x83ED): Access to type 1 memory at distance 2, software prefetch. -/
def execN2Mem1Prfm (s : State) : Host.Outcome State Fault Refusal :=
  countEvent .n2Mem1Prfm .own occN2Mem1Prfm incUnit s

/-- R1281 N3_MEM1_PRFM (0x83EE): Access to type 1 memory at distance 3, software prefetch. -/
def execN3Mem1Prfm (s : State) : Host.Outcome State Fault Refusal :=
  countEvent .n3Mem1Prfm .own occN3Mem1Prfm incUnit s

/-- R1282 N4_MEM1_PRFM (0x83EF): Access to type 1 memory at distance 4, software prefetch. -/
def execN4Mem1Prfm (s : State) : Host.Outcome State Fault Refusal :=
  countEvent .n4Mem1Prfm .own occN4Mem1Prfm incUnit s

/-- R1283 N1_MEM2_RD (0x83F0): Access to type 2 memory at distance 1, demand access, read. -/
def execN1Mem2Rd (s : State) : Host.Outcome State Fault Refusal :=
  countEvent .n1Mem2Rd .own occN1Mem2Rd incUnit s

/-- R1284 N2_MEM2_RD (0x83F1): Access to type 2 memory at distance 2, demand access, read. -/
def execN2Mem2Rd (s : State) : Host.Outcome State Fault Refusal :=
  countEvent .n2Mem2Rd .own occN2Mem2Rd incUnit s

/-- R1285 N3_MEM2_RD (0x83F2): Access to type 2 memory at distance 3, demand access, read. -/
def execN3Mem2Rd (s : State) : Host.Outcome State Fault Refusal :=
  countEvent .n3Mem2Rd .own occN3Mem2Rd incUnit s

/-- R1286 N4_MEM2_RD (0x83F3): Access to type 2 memory at distance 4, demand access, read. -/
def execN4Mem2Rd (s : State) : Host.Outcome State Fault Refusal :=
  countEvent .n4Mem2Rd .own occN4Mem2Rd incUnit s

/-- R1287 N1_MEM2_PRFM (0x83F4): Access to type 2 memory at distance 1, software prefetch. -/
def execN1Mem2Prfm (s : State) : Host.Outcome State Fault Refusal :=
  countEvent .n1Mem2Prfm .own occN1Mem2Prfm incUnit s

/-- R1288 N2_MEM2_PRFM (0x83F5): Access to type 2 memory at distance 2, software prefetch. -/
def execN2Mem2Prfm (s : State) : Host.Outcome State Fault Refusal :=
  countEvent .n2Mem2Prfm .own occN2Mem2Prfm incUnit s

/-- R1289 N3_MEM2_PRFM (0x83F6): Access to type 2 memory at distance 3, software prefetch. -/
def execN3Mem2Prfm (s : State) : Host.Outcome State Fault Refusal :=
  countEvent .n3Mem2Prfm .own occN3Mem2Prfm incUnit s

/-- R1290 N4_MEM2_PRFM (0x83F7): Access to type 2 memory at distance 4, software prefetch. -/
def execN4Mem2Prfm (s : State) : Host.Outcome State Fault Refusal :=
  countEvent .n4Mem2Prfm .own occN4Mem2Prfm incUnit s

/-- R1291 N1_MEM3_RD (0x83F8): Access to type 3 memory at distance 1, demand access, read. -/
def execN1Mem3Rd (s : State) : Host.Outcome State Fault Refusal :=
  countEvent .n1Mem3Rd .own occN1Mem3Rd incUnit s

/-- R1292 N2_MEM3_RD (0x83F9): Access to type 3 memory at distance 2, demand access, read. -/
def execN2Mem3Rd (s : State) : Host.Outcome State Fault Refusal :=
  countEvent .n2Mem3Rd .own occN2Mem3Rd incUnit s

/-- R1293 N3_MEM3_RD (0x83FA): Access to type 3 memory at distance 3, demand access, read. -/
def execN3Mem3Rd (s : State) : Host.Outcome State Fault Refusal :=
  countEvent .n3Mem3Rd .own occN3Mem3Rd incUnit s

/-- R1294 N4_MEM3_RD (0x83FB): Access to type 3 memory at distance 4, demand access, read. -/
def execN4Mem3Rd (s : State) : Host.Outcome State Fault Refusal :=
  countEvent .n4Mem3Rd .own occN4Mem3Rd incUnit s

/-- R1295 N1_MEM3_PRFM (0x83FC): Access to type 3 memory at distance 1, software prefetch. -/
def execN1Mem3Prfm (s : State) : Host.Outcome State Fault Refusal :=
  countEvent .n1Mem3Prfm .own occN1Mem3Prfm incUnit s

/-- R1296 N2_MEM3_PRFM (0x83FD): Access to type 3 memory at distance 2, software prefetch. -/
def execN2Mem3Prfm (s : State) : Host.Outcome State Fault Refusal :=
  countEvent .n2Mem3Prfm .own occN2Mem3Prfm incUnit s

/-- R1297 N3_MEM3_PRFM (0x83FE): Access to type 3 memory at distance 3, software prefetch. -/
def execN3Mem3Prfm (s : State) : Host.Outcome State Fault Refusal :=
  countEvent .n3Mem3Prfm .own occN3Mem3Prfm incUnit s

/-- R1298 N4_MEM3_PRFM (0x83FF): Access to type 3 memory at distance 4, software prefetch. -/
def execN4Mem3Prfm (s : State) : Host.Outcome State Fault Refusal :=
  countEvent .n4Mem3Prfm .own occN4Mem3Prfm incUnit s

/-- R1299 ISNP_HIT_N1_RD (0x8400): Snoop hit in cache at distance 1, demand instruction fetch. -/
def execIsnpHitN1Rd (s : State) : Host.Outcome State Fault Refusal :=
  countEvent .isnpHitN1Rd .own occIsnpHitN1Rd incUnit s

/-- R1300 ISNP_HIT_N2_RD (0x8401): Snoop hit in cache at distance 2, demand instruction fetch. -/
def execIsnpHitN2Rd (s : State) : Host.Outcome State Fault Refusal :=
  countEvent .isnpHitN2Rd .own occIsnpHitN2Rd incUnit s

/-- R1301 ISNP_HIT_N3_RD (0x8402): Snoop hit in cache at distance 3, demand instruction fetch. -/
def execIsnpHitN3Rd (s : State) : Host.Outcome State Fault Refusal :=
  countEvent .isnpHitN3Rd .own occIsnpHitN3Rd incUnit s

/-- R1302 ISNP_HIT_N4_RD (0x8403): Snoop hit in cache at distance 4, demand instruction fetch. -/
def execIsnpHitN4Rd (s : State) : Host.Outcome State Fault Refusal :=
  countEvent .isnpHitN4Rd .own occIsnpHitN4Rd incUnit s

/-- R1303 DSNP_HIT_N1_RD (0x8404): Snoop hit in cache at distance 1, demand data read. -/
def execDsnpHitN1Rd (s : State) : Host.Outcome State Fault Refusal :=
  countEvent .dsnpHitN1Rd .own occDsnpHitN1Rd incUnit s

/-- R1304 DSNP_HIT_N2_RD (0x8405): Snoop hit in cache at distance 2, demand data read. -/
def execDsnpHitN2Rd (s : State) : Host.Outcome State Fault Refusal :=
  countEvent .dsnpHitN2Rd .own occDsnpHitN2Rd incUnit s

/-- R1305 DSNP_HIT_N3_RD (0x8406): Snoop hit in cache at distance 3, demand data read. -/
def execDsnpHitN3Rd (s : State) : Host.Outcome State Fault Refusal :=
  countEvent .dsnpHitN3Rd .own occDsnpHitN3Rd incUnit s

/-- R1306 DSNP_HIT_N4_RD (0x8407): Snoop hit in cache at distance 4, demand data read. -/
def execDsnpHitN4Rd (s : State) : Host.Outcome State Fault Refusal :=
  countEvent .dsnpHitN4Rd .own occDsnpHitN4Rd incUnit s

/-- R1307 DSNP_HIT_N1_WR (0x8408): Snoop hit in cache at distance 1, demand data write. -/
def execDsnpHitN1Wr (s : State) : Host.Outcome State Fault Refusal :=
  countEvent .dsnpHitN1Wr .own occDsnpHitN1Wr incUnit s

/-- R1308 DSNP_HIT_N2_WR (0x8409): Snoop hit in cache at distance 2, demand data write. -/
def execDsnpHitN2Wr (s : State) : Host.Outcome State Fault Refusal :=
  countEvent .dsnpHitN2Wr .own occDsnpHitN2Wr incUnit s

/-- R1309 DSNP_HIT_N3_WR (0x840A): Snoop hit in cache at distance 3, demand data write. -/
def execDsnpHitN3Wr (s : State) : Host.Outcome State Fault Refusal :=
  countEvent .dsnpHitN3Wr .own occDsnpHitN3Wr incUnit s

/-- R1310 DSNP_HIT_N4_WR (0x840B): Snoop hit in cache at distance 4, demand data write. -/
def execDsnpHitN4Wr (s : State) : Host.Outcome State Fault Refusal :=
  countEvent .dsnpHitN4Wr .own occDsnpHitN4Wr incUnit s

/-- R1311 DSNP_HIT_N1_RW (0x840C): Snoop hit in cache at distance 1, demand data access. -/
def execDsnpHitN1Rw (s : State) : Host.Outcome State Fault Refusal :=
  countEvent .dsnpHitN1Rw .own occDsnpHitN1Rw incUnit s

/-- R1312 DSNP_HIT_N2_RW (0x840D): Snoop hit in cache at distance 2, demand data access. -/
def execDsnpHitN2Rw (s : State) : Host.Outcome State Fault Refusal :=
  countEvent .dsnpHitN2Rw .own occDsnpHitN2Rw incUnit s

/-- R1313 DSNP_HIT_N3_RW (0x840E): Snoop hit in cache at distance 3, demand data access. -/
def execDsnpHitN3Rw (s : State) : Host.Outcome State Fault Refusal :=
  countEvent .dsnpHitN3Rw .own occDsnpHitN3Rw incUnit s

/-- R1314 DSNP_HIT_N4_RW (0x840F): Snoop hit in cache at distance 4, demand data access. -/
def execDsnpHitN4Rw (s : State) : Host.Outcome State Fault Refusal :=
  countEvent .dsnpHitN4Rw .own occDsnpHitN4Rw incUnit s

/-- R1315 DSNP_HIT_N1_PRFM (0x8410): Snoop hit in cache at distance 1, software data prefetch. -/
def execDsnpHitN1Prfm (s : State) : Host.Outcome State Fault Refusal :=
  countEvent .dsnpHitN1Prfm .own occDsnpHitN1Prfm incUnit s

/-- R1316 DSNP_HIT_N2_PRFM (0x8411): Snoop hit in cache at distance 2, software data prefetch. -/
def execDsnpHitN2Prfm (s : State) : Host.Outcome State Fault Refusal :=
  countEvent .dsnpHitN2Prfm .own occDsnpHitN2Prfm incUnit s

/-- R1317 DSNP_HIT_N3_PRFM (0x8412): Snoop hit in cache at distance 3, software data prefetch. -/
def execDsnpHitN3Prfm (s : State) : Host.Outcome State Fault Refusal :=
  countEvent .dsnpHitN3Prfm .own occDsnpHitN3Prfm incUnit s

/-- R1318 DSNP_HIT_N4_PRFM (0x8413): Snoop hit in cache at distance 4, software data prefetch. -/
def execDsnpHitN4Prfm (s : State) : Host.Outcome State Fault Refusal :=
  countEvent .dsnpHitN4Prfm .own occDsnpHitN4Prfm incUnit s

/-- R1319 DSNP_HIT_N1_HWPRF (0x8414): Snoop hit in cache at distance 1, hardware data prefetch. -/
def execDsnpHitN1Hwprf (s : State) : Host.Outcome State Fault Refusal :=
  countEvent .dsnpHitN1Hwprf .own occDsnpHitN1Hwprf incUnit s

/-- R1320 DSNP_HIT_N2_HWPRF (0x8415): Snoop hit in cache at distance 2, hardware data prefetch. -/
def execDsnpHitN2Hwprf (s : State) : Host.Outcome State Fault Refusal :=
  countEvent .dsnpHitN2Hwprf .own occDsnpHitN2Hwprf incUnit s

/-- R1321 DSNP_HIT_N3_HWPRF (0x8416): Snoop hit in cache at distance 3, hardware data prefetch. -/
def execDsnpHitN3Hwprf (s : State) : Host.Outcome State Fault Refusal :=
  countEvent .dsnpHitN3Hwprf .own occDsnpHitN3Hwprf incUnit s

/-- R1322 DSNP_HIT_N4_HWPRF (0x8417): Snoop hit in cache at distance 4, hardware data prefetch. -/
def execDsnpHitN4Hwprf (s : State) : Host.Outcome State Fault Refusal :=
  countEvent .dsnpHitN4Hwprf .own occDsnpHitN4Hwprf incUnit s

/-- R1323 ISNP_HIT_N1_PRFM (0x8418): Snoop hit in cache at distance 1, software instruction prefetch. -/
def execIsnpHitN1Prfm (s : State) : Host.Outcome State Fault Refusal :=
  countEvent .isnpHitN1Prfm .own occIsnpHitN1Prfm incUnit s

/-- R1324 ISNP_HIT_N2_PRFM (0x8419): Snoop hit in cache at distance 2, software instruction prefetch. -/
def execIsnpHitN2Prfm (s : State) : Host.Outcome State Fault Refusal :=
  countEvent .isnpHitN2Prfm .own occIsnpHitN2Prfm incUnit s

/-- R1325 ISNP_HIT_N3_PRFM (0x841A): Snoop hit in cache at distance 3, software instruction prefetch. -/
def execIsnpHitN3Prfm (s : State) : Host.Outcome State Fault Refusal :=
  countEvent .isnpHitN3Prfm .own occIsnpHitN3Prfm incUnit s

/-- R1326 ISNP_HIT_N4_PRFM (0x841B): Snoop hit in cache at distance 4, software instruction prefetch. -/
def execIsnpHitN4Prfm (s : State) : Host.Outcome State Fault Refusal :=
  countEvent .isnpHitN4Prfm .own occIsnpHitN4Prfm incUnit s

/-- R1327 ISNP_HIT_N1_HWPRF (0x841C): Snoop hit in cache at distance 1, hardware instruction prefetch. -/
def execIsnpHitN1Hwprf (s : State) : Host.Outcome State Fault Refusal :=
  countEvent .isnpHitN1Hwprf .own occIsnpHitN1Hwprf incUnit s

/-- R1328 ISNP_HIT_N2_HWPRF (0x841D): Snoop hit in cache at distance 2, hardware instruction prefetch. -/
def execIsnpHitN2Hwprf (s : State) : Host.Outcome State Fault Refusal :=
  countEvent .isnpHitN2Hwprf .own occIsnpHitN2Hwprf incUnit s

/-- R1329 ISNP_HIT_N3_HWPRF (0x841E): Snoop hit in cache at distance 3, hardware instruction prefetch. -/
def execIsnpHitN3Hwprf (s : State) : Host.Outcome State Fault Refusal :=
  countEvent .isnpHitN3Hwprf .own occIsnpHitN3Hwprf incUnit s

/-- R1330 ISNP_HIT_N4_HWPRF (0x841F): Snoop hit in cache at distance 4, hardware instruction prefetch. -/
def execIsnpHitN4Hwprf (s : State) : Host.Outcome State Fault Refusal :=
  countEvent .isnpHitN4Hwprf .own occIsnpHitN4Hwprf incUnit s

/-- R1331 DSNP_HIT_N1_PRF (0x8420): Snoop hit in cache at distance 1, data prefetch. -/
def execDsnpHitN1Prf (s : State) : Host.Outcome State Fault Refusal :=
  countEvent .dsnpHitN1Prf .own occDsnpHitN1Prf incUnit s

/-- R1332 DSNP_HIT_N2_PRF (0x8421): Snoop hit in cache at distance 2, data prefetch. -/
def execDsnpHitN2Prf (s : State) : Host.Outcome State Fault Refusal :=
  countEvent .dsnpHitN2Prf .own occDsnpHitN2Prf incUnit s

/-- R1333 DSNP_HIT_N3_PRF (0x8422): Snoop hit in cache at distance 3, data prefetch. -/
def execDsnpHitN3Prf (s : State) : Host.Outcome State Fault Refusal :=
  countEvent .dsnpHitN3Prf .own occDsnpHitN3Prf incUnit s

/-- R1334 DSNP_HIT_N4_PRF (0x8423): Snoop hit in cache at distance 4, data prefetch. -/
def execDsnpHitN4Prf (s : State) : Host.Outcome State Fault Refusal :=
  countEvent .dsnpHitN4Prf .own occDsnpHitN4Prf incUnit s

/-- R1335 ISNP_HIT_N1_PRF (0x8424): Snoop hit in cache at distance 1, instruction prefetch. -/
def execIsnpHitN1Prf (s : State) : Host.Outcome State Fault Refusal :=
  countEvent .isnpHitN1Prf .own occIsnpHitN1Prf incUnit s

/-- R1336 ISNP_HIT_N2_PRF (0x8425): Snoop hit in cache at distance 2, instruction prefetch. -/
def execIsnpHitN2Prf (s : State) : Host.Outcome State Fault Refusal :=
  countEvent .isnpHitN2Prf .own occIsnpHitN2Prf incUnit s

/-- R1337 ISNP_HIT_N3_PRF (0x8426): Snoop hit in cache at distance 3, instruction prefetch. -/
def execIsnpHitN3Prf (s : State) : Host.Outcome State Fault Refusal :=
  countEvent .isnpHitN3Prf .own occIsnpHitN3Prf incUnit s

/-- R1338 ISNP_HIT_N4_PRF (0x8427): Snoop hit in cache at distance 4, instruction prefetch. -/
def execIsnpHitN4Prf (s : State) : Host.Outcome State Fault Refusal :=
  countEvent .isnpHitN4Prf .own occIsnpHitN4Prf incUnit s

/-- R1339 ISNP_HIT_N1 (0x8428): Snoop hit in cache at distance 1, instruction access. -/
def execIsnpHitN1 (s : State) : Host.Outcome State Fault Refusal :=
  countEvent .isnpHitN1 .own occIsnpHitN1 incUnit s

/-- R1340 ISNP_HIT_N2 (0x8429): Snoop hit in cache at distance 2, instruction access. -/
def execIsnpHitN2 (s : State) : Host.Outcome State Fault Refusal :=
  countEvent .isnpHitN2 .own occIsnpHitN2 incUnit s

/-- R1341 ISNP_HIT_N3 (0x842A): Snoop hit in cache at distance 3, instruction access. -/
def execIsnpHitN3 (s : State) : Host.Outcome State Fault Refusal :=
  countEvent .isnpHitN3 .own occIsnpHitN3 incUnit s

/-- R1342 ISNP_HIT_N4 (0x842B): Snoop hit in cache at distance 4, instruction access. -/
def execIsnpHitN4 (s : State) : Host.Outcome State Fault Refusal :=
  countEvent .isnpHitN4 .own occIsnpHitN4 incUnit s

/-- R1343 DSNP_HIT_N1 (0x842C): Snoop hit in cache at distance 1, data access. -/
def execDsnpHitN1 (s : State) : Host.Outcome State Fault Refusal :=
  countEvent .dsnpHitN1 .own occDsnpHitN1 incUnit s

/-- R1344 DSNP_HIT_N2 (0x842D): Snoop hit in cache at distance 2, data access. -/
def execDsnpHitN2 (s : State) : Host.Outcome State Fault Refusal :=
  countEvent .dsnpHitN2 .own occDsnpHitN2 incUnit s

/-- R1345 DSNP_HIT_N3 (0x842E): Snoop hit in cache at distance 3, data access. -/
def execDsnpHitN3 (s : State) : Host.Outcome State Fault Refusal :=
  countEvent .dsnpHitN3 .own occDsnpHitN3 incUnit s

/-- R1346 DSNP_HIT_N4 (0x842F): Snoop hit in cache at distance 4, data access. -/
def execDsnpHitN4 (s : State) : Host.Outcome State Fault Refusal :=
  countEvent .dsnpHitN4 .own occDsnpHitN4 incUnit s

/-- R1347 ASE_FP_VREDUCE_SPEC (0x8431): Floating-point operation speculatively executed, Advanced SIMD pairwise or reduction. -/
def execAseFpVreduceSpec (s : State) : Host.Outcome State Fault Refusal :=
  countEvent .aseFpVreduceSpec .own occAseFpVreduceSpec incUnit s

/-- R1348 SVE_FP_PREDUCE_SPEC (0x8432): Floating-point operation speculatively executed, SVE pairwise add step or pairwise reduce step. -/
def execSveFpPreduceSpec (s : State) : Host.Outcome State Fault Refusal :=
  countEvent .sveFpPreduceSpec .own occSveFpPreduceSpec incUnit s

/-- R1349 DSNP_HITM_N1_RD (0x8434): Snoop hit in cache at distance 1, demand data read, modified. -/
def execDsnpHitmN1Rd (s : State) : Host.Outcome State Fault Refusal :=
  countEvent .dsnpHitmN1Rd .own occDsnpHitmN1Rd incUnit s

/-- R1350 DSNP_HITM_N2_RD (0x8435): Snoop hit in cache at distance 2, demand data read, modified. -/
def execDsnpHitmN2Rd (s : State) : Host.Outcome State Fault Refusal :=
  countEvent .dsnpHitmN2Rd .own occDsnpHitmN2Rd incUnit s

/-- R1351 DSNP_HITM_N3_RD (0x8436): Snoop hit in cache at distance 3, demand data read, modified. -/
def execDsnpHitmN3Rd (s : State) : Host.Outcome State Fault Refusal :=
  countEvent .dsnpHitmN3Rd .own occDsnpHitmN3Rd incUnit s

/-- R1352 DSNP_HITM_N4_RD (0x8437): Snoop hit in cache at distance 4, demand data read, modified. -/
def execDsnpHitmN4Rd (s : State) : Host.Outcome State Fault Refusal :=
  countEvent .dsnpHitmN4Rd .own occDsnpHitmN4Rd incUnit s

/-- R1353 DSNP_HITM_N1_WR (0x8438): Snoop hit in cache at distance 1, demand data write, modified. -/
def execDsnpHitmN1Wr (s : State) : Host.Outcome State Fault Refusal :=
  countEvent .dsnpHitmN1Wr .own occDsnpHitmN1Wr incUnit s

/-- R1354 DSNP_HITM_N2_WR (0x8439): Snoop hit in cache at distance 2, demand data write, modified. -/
def execDsnpHitmN2Wr (s : State) : Host.Outcome State Fault Refusal :=
  countEvent .dsnpHitmN2Wr .own occDsnpHitmN2Wr incUnit s

/-- R1355 DSNP_HITM_N3_WR (0x843A): Snoop hit in cache at distance 3, demand data write, modified. -/
def execDsnpHitmN3Wr (s : State) : Host.Outcome State Fault Refusal :=
  countEvent .dsnpHitmN3Wr .own occDsnpHitmN3Wr incUnit s

/-- R1356 DSNP_HITM_N4_WR (0x843B): Snoop hit in cache at distance 4, demand data write, modified. -/
def execDsnpHitmN4Wr (s : State) : Host.Outcome State Fault Refusal :=
  countEvent .dsnpHitmN4Wr .own occDsnpHitmN4Wr incUnit s

/-- R1357 DSNP_HITM_N1_RW (0x843C): Snoop hit in cache at distance 1, demand data access, modified. -/
def execDsnpHitmN1Rw (s : State) : Host.Outcome State Fault Refusal :=
  countEvent .dsnpHitmN1Rw .own occDsnpHitmN1Rw incUnit s

/-- R1358 DSNP_HITM_N2_RW (0x843D): Snoop hit in cache at distance 2, demand data access, modified. -/
def execDsnpHitmN2Rw (s : State) : Host.Outcome State Fault Refusal :=
  countEvent .dsnpHitmN2Rw .own occDsnpHitmN2Rw incUnit s

/-- R1359 DSNP_HITM_N3_RW (0x843E): Snoop hit in cache at distance 3, demand data access, modified. -/
def execDsnpHitmN3Rw (s : State) : Host.Outcome State Fault Refusal :=
  countEvent .dsnpHitmN3Rw .own occDsnpHitmN3Rw incUnit s

/-- R1360 DSNP_HITM_N4_RW (0x843F): Snoop hit in cache at distance 4, demand data access, modified. -/
def execDsnpHitmN4Rw (s : State) : Host.Outcome State Fault Refusal :=
  countEvent .dsnpHitmN4Rw .own occDsnpHitmN4Rw incUnit s

/-- R1361 ASE_FP_SP_MIN_SPEC (0x8440): Advanced SIMD data processing operation speculatively executed, smallest type is single-precision floating-point. -/
def execAseFpSpMinSpec (s : State) : Host.Outcome State Fault Refusal :=
  countEvent .aseFpSpMinSpec .own occAseFpSpMinSpec incUnit s

/-- R1362 ASE_FP_HP_MIN_SPEC (0x8442): Advanced SIMD data processing operation speculatively executed, smallest type is half-precision floating-point. -/
def execAseFpHpMinSpec (s : State) : Host.Outcome State Fault Refusal :=
  countEvent .aseFpHpMinSpec .own occAseFpHpMinSpec incUnit s

/-- R1363 ASE_FP_BF16_MIN_SPEC (0x8443): Advanced SIMD data processing operation speculatively executed, smallest type is BFloat16 floating-point. -/
def execAseFpBf16MinSpec (s : State) : Host.Outcome State Fault Refusal :=
  countEvent .aseFpBf16MinSpec .own occAseFpBf16MinSpec incUnit s

/-- R1364 ASE_FP_FP8_MIN_SPEC (0x8444): Advanced SIMD data processing operation speculatively executed, smallest type is 8-bit floating-point. -/
def execAseFpFp8MinSpec (s : State) : Host.Outcome State Fault Refusal :=
  countEvent .aseFpFp8MinSpec .own occAseFpFp8MinSpec incUnit s

/-- R1365 ASE_SVE_FP_SP_MIN_SPEC (0x8448): Advanced SIMD data processing or SVE data processing operation speculatively executed, smallest type is single-precision floating-point. -/
def execAseSveFpSpMinSpec (s : State) : Host.Outcome State Fault Refusal :=
  countEvent .aseSveFpSpMinSpec .own occAseSveFpSpMinSpec incUnit s

/-- R1366 ASE_SVE_FP_HP_MIN_SPEC (0x844A): Advanced SIMD data processing or SVE data processing operation speculatively executed, smallest type is half-precision floating-point. -/
def execAseSveFpHpMinSpec (s : State) : Host.Outcome State Fault Refusal :=
  countEvent .aseSveFpHpMinSpec .own occAseSveFpHpMinSpec incUnit s

/-- R1367 ASE_SVE_FP_BF16_MIN_SPEC (0x844B): Advanced SIMD data processing or SVE data processing operation speculatively executed, smallest type is BFloat16 floating-point. -/
def execAseSveFpBf16MinSpec (s : State) : Host.Outcome State Fault Refusal :=
  countEvent .aseSveFpBf16MinSpec .own occAseSveFpBf16MinSpec incUnit s

/-- R1368 ASE_SVE_FP_FP8_MIN_SPEC (0x844C): Advanced SIMD data processing or SVE data processing operation speculatively executed, smallest type is 8-bit floating-point. -/
def execAseSveFpFp8MinSpec (s : State) : Host.Outcome State Fault Refusal :=
  countEvent .aseSveFpFp8MinSpec .own occAseSveFpFp8MinSpec incUnit s

/-- R1369 SE_FP_SP_MIN_SPEC (0x8450): Advanced SIMD, SVE, or SME data processing operation speculatively executed, smallest type is single-precision floating-point. -/
def execSeFpSpMinSpec (s : State) : Host.Outcome State Fault Refusal :=
  countEvent .seFpSpMinSpec .own occSeFpSpMinSpec incUnit s

/-- R1370 SE_FP_HP_MIN_SPEC (0x8452): Advanced SIMD, SVE, or SME data processing operation speculatively executed, smallest type is half-precision floating-point. -/
def execSeFpHpMinSpec (s : State) : Host.Outcome State Fault Refusal :=
  countEvent .seFpHpMinSpec .own occSeFpHpMinSpec incUnit s

/-- R1371 SE_FP_BF16_MIN_SPEC (0x8453): Advanced SIMD, SVE, or SME data processing operation speculatively executed, smallest type is BFloat16 floating-point. -/
def execSeFpBf16MinSpec (s : State) : Host.Outcome State Fault Refusal :=
  countEvent .seFpBf16MinSpec .own occSeFpBf16MinSpec incUnit s

/-- R1372 SE_FP_FP8_MIN_SPEC (0x8454): Advanced SIMD, SVE, or SME data processing operation speculatively executed, smallest type is 8-bit floating-point. -/
def execSeFpFp8MinSpec (s : State) : Host.Outcome State Fault Refusal :=
  countEvent .seFpFp8MinSpec .own occSeFpFp8MinSpec incUnit s

/-- R1373 SME_FP_SP_MIN_SPEC (0x8458): SME data processing operation speculatively executed, smallest type is single-precision floating-point. -/
def execSmeFpSpMinSpec (s : State) : Host.Outcome State Fault Refusal :=
  countEvent .smeFpSpMinSpec .own occSmeFpSpMinSpec incUnit s

/-- R1374 SME_FP_HP_MIN_SPEC (0x845A): SME data processing operation speculatively executed, smallest type is half-precision floating-point. -/
def execSmeFpHpMinSpec (s : State) : Host.Outcome State Fault Refusal :=
  countEvent .smeFpHpMinSpec .own occSmeFpHpMinSpec incUnit s

/-- R1375 SME_FP_BF16_MIN_SPEC (0x845B): SME data processing operation speculatively executed, smallest type is BFloat16 floating-point. -/
def execSmeFpBf16MinSpec (s : State) : Host.Outcome State Fault Refusal :=
  countEvent .smeFpBf16MinSpec .own occSmeFpBf16MinSpec incUnit s

/-- R1376 SME_FP_FP8_MIN_SPEC (0x845C): SME data processing operation speculatively executed, smallest type is 8-bit floating-point. -/
def execSmeFpFp8MinSpec (s : State) : Host.Outcome State Fault Refusal :=
  countEvent .smeFpFp8MinSpec .own occSmeFpFp8MinSpec incUnit s

/-- R1377 SVE_FP_SP_MIN_SPEC (0x8460): SVE data processing operation speculatively executed, smallest type is single-precision floating-point. -/
def execSveFpSpMinSpec (s : State) : Host.Outcome State Fault Refusal :=
  countEvent .sveFpSpMinSpec .own occSveFpSpMinSpec incUnit s

/-- R1378 SVE_FP_HP_MIN_SPEC (0x8462): SVE data processing operation speculatively executed, smallest type is half-precision floating-point. -/
def execSveFpHpMinSpec (s : State) : Host.Outcome State Fault Refusal :=
  countEvent .sveFpHpMinSpec .own occSveFpHpMinSpec incUnit s

/-- R1379 SVE_FP_BF16_MIN_SPEC (0x8463): SVE data processing operation speculatively executed, smallest type is BFloat16 floating-point. -/
def execSveFpBf16MinSpec (s : State) : Host.Outcome State Fault Refusal :=
  countEvent .sveFpBf16MinSpec .own occSveFpBf16MinSpec incUnit s

/-- R1380 SVE_FP_FP8_MIN_SPEC (0x8464): SVE data processing operation speculatively executed, smallest type is 8-bit floating-point. -/
def execSveFpFp8MinSpec (s : State) : Host.Outcome State Fault Refusal :=
  countEvent .sveFpFp8MinSpec .own occSveFpFp8MinSpec incUnit s

/-- R1381 FP_BF16_FIXED_OPS_SPEC (0x846B): Non-scalable element arithmetic operations speculatively executed, largest type is BFloat16 floating-point. -/
def execFpBf16FixedOpsSpec (s : State) : Host.Outcome State Fault Refusal :=
  countEvent .fpBf16FixedOpsSpec .own occFpBf16FixedOpsSpec incFixed s

/-- R1382 FP_SP_MIN_SPEC (0x8470): Floating-point operation speculatively executed, smallest type is single-precision floating-point. -/
def execFpSpMinSpec (s : State) : Host.Outcome State Fault Refusal :=
  countEvent .fpSpMinSpec .own occFpSpMinSpec incUnit s

/-- R1383 FP_HP_MIN_SPEC (0x8472): Floating-point operation speculatively executed, smallest type is half-precision floating-point. -/
def execFpHpMinSpec (s : State) : Host.Outcome State Fault Refusal :=
  countEvent .fpHpMinSpec .own occFpHpMinSpec incUnit s

/-- R1384 FP_BF16_MIN_SPEC (0x8473): Floating-point operation speculatively executed, smallest type is BFloat16 floating-point. -/
def execFpBf16MinSpec (s : State) : Host.Outcome State Fault Refusal :=
  countEvent .fpBf16MinSpec .own occFpBf16MinSpec incUnit s

/-- R1385 FP_FP8_MIN_SPEC (0x8474): Floating-point operation speculatively executed, smallest type is 8-bit floating-point. -/
def execFpFp8MinSpec (s : State) : Host.Outcome State Fault Refusal :=
  countEvent .fpFp8MinSpec .own occFpFp8MinSpec incUnit s

/-- R1386 FP_SP_FIXED_MIN_OPS_SPEC (0x8480): Non-scalable element arithmetic operations speculatively executed, smallest type is single-precision floating-point. -/
def execFpSpFixedMinOpsSpec (s : State) : Host.Outcome State Fault Refusal :=
  countEvent .fpSpFixedMinOpsSpec .own occFpSpFixedMinOpsSpec incFixed s

/-- R1387 FP_HP_FIXED_MIN_OPS_SPEC (0x8482): Non-scalable element arithmetic operations speculatively executed, smallest type is half-precision floating-point. -/
def execFpHpFixedMinOpsSpec (s : State) : Host.Outcome State Fault Refusal :=
  countEvent .fpHpFixedMinOpsSpec .own occFpHpFixedMinOpsSpec incFixed s

/-- R1388 FP_BF16_FIXED_MIN_OPS_SPEC (0x8483): Non-scalable element arithmetic operations speculatively executed, smallest type is BFloat16 floating-point. -/
def execFpBf16FixedMinOpsSpec (s : State) : Host.Outcome State Fault Refusal :=
  countEvent .fpBf16FixedMinOpsSpec .own occFpBf16FixedMinOpsSpec incFixed s

/-- R1389 FP_FP8_FIXED_MIN_OPS_SPEC (0x8484): Non-scalable element arithmetic operations speculatively executed, smallest type is 8-bit floating-point. -/
def execFpFp8FixedMinOpsSpec (s : State) : Host.Outcome State Fault Refusal :=
  countEvent .fpFp8FixedMinOpsSpec .own occFpFp8FixedMinOpsSpec incFixed s

/-- R1390 FP_SP_SCALE_MIN_OPS_SPEC (0x8488): Scalable element arithmetic operations speculatively executed, smallest type is single-precision floating-point. -/
def execFpSpScaleMinOpsSpec (s : State) : Host.Outcome State Fault Refusal :=
  countEvent .fpSpScaleMinOpsSpec .own occFpSpScaleMinOpsSpec (incScale .fpSpScaleMinOpsSpec) s

/-- R1391 FP_HP_SCALE_MIN_OPS_SPEC (0x848A): Scalable element arithmetic operations speculatively executed, smallest type is half-precision floating-point. -/
def execFpHpScaleMinOpsSpec (s : State) : Host.Outcome State Fault Refusal :=
  countEvent .fpHpScaleMinOpsSpec .own occFpHpScaleMinOpsSpec (incScale .fpHpScaleMinOpsSpec) s

/-- R1392 FP_BF16_SCALE_MIN_OPS_SPEC (0x848B): Scalable element arithmetic operations speculatively executed, smallest type is BFloat16 floating-point. -/
def execFpBf16ScaleMinOpsSpec (s : State) : Host.Outcome State Fault Refusal :=
  countEvent .fpBf16ScaleMinOpsSpec .own occFpBf16ScaleMinOpsSpec (incScale .fpBf16ScaleMinOpsSpec) s

/-- R1393 FP_FP8_SCALE_MIN_OPS_SPEC (0x848C): Scalable element arithmetic operations speculatively executed, smallest type is 8-bit floating-point. -/
def execFpFp8ScaleMinOpsSpec (s : State) : Host.Outcome State Fault Refusal :=
  countEvent .fpFp8ScaleMinOpsSpec .own occFpFp8ScaleMinOpsSpec (incScale .fpFp8ScaleMinOpsSpec) s

/-- R1394 FP_SP_SCALE2_MIN_OPS_SPEC (0x8490): Scalable tile arithmetic operations speculatively executed, smallest type is single-precision floating-point. -/
def execFpSpScale2MinOpsSpec (s : State) : Host.Outcome State Fault Refusal :=
  countEvent .fpSpScale2MinOpsSpec .own occFpSpScale2MinOpsSpec (incScale2 .fpSpScale2MinOpsSpec) s

/-- R1395 FP_HP_SCALE2_MIN_OPS_SPEC (0x8492): Scalable tile arithmetic operations speculatively executed, smallest type is half-precision floating-point. -/
def execFpHpScale2MinOpsSpec (s : State) : Host.Outcome State Fault Refusal :=
  countEvent .fpHpScale2MinOpsSpec .own occFpHpScale2MinOpsSpec (incScale2 .fpHpScale2MinOpsSpec) s

/-- R1396 FP_BF16_SCALE2_MIN_OPS_SPEC (0x8493): Scalable tile arithmetic operations speculatively executed, smallest type is BFloat16 floating-point. -/
def execFpBf16Scale2MinOpsSpec (s : State) : Host.Outcome State Fault Refusal :=
  countEvent .fpBf16Scale2MinOpsSpec .own occFpBf16Scale2MinOpsSpec (incScale2 .fpBf16Scale2MinOpsSpec) s

/-- R1397 FP_FP8_SCALE2_MIN_OPS_SPEC (0x8494): Scalable tile arithmetic operations speculatively executed, smallest type is 8-bit floating-point. -/
def execFpFp8Scale2MinOpsSpec (s : State) : Host.Outcome State Fault Refusal :=
  countEvent .fpFp8Scale2MinOpsSpec .own occFpFp8Scale2MinOpsSpec (incScale2 .fpFp8Scale2MinOpsSpec) s

end Sys2Proof.Machine
end

