-- ==== Sys2Proof/Machine/Dispatch.lean ====
section
/-!
DEFINITION. The dispatch: one arm per event of spec/opcode_table.json.
-/

namespace Sys2Proof.Machine

def exec (i : Instr) (s : State) : Host.Outcome State Fault Refusal :=
  match i with
  | .swIncr => Sys2Proof.Machine.execSwIncr s
  | .ldRetired => Sys2Proof.Machine.execLdRetired s
  | .stRetired => Sys2Proof.Machine.execStRetired s
  | .instRetired => Sys2Proof.Machine.execInstRetired s
  | .excTaken => Sys2Proof.Machine.execExcTaken s
  | .excReturn => Sys2Proof.Machine.execExcReturn s
  | .cidWriteRetired => Sys2Proof.Machine.execCidWriteRetired s
  | .pcWriteRetired => Sys2Proof.Machine.execPcWriteRetired s
  | .brImmedRetired => Sys2Proof.Machine.execBrImmedRetired s
  | .brReturnRetired => Sys2Proof.Machine.execBrReturnRetired s
  | .unalignedLdstRetired => Sys2Proof.Machine.execUnalignedLdstRetired s
  | .ttbrWriteRetired => Sys2Proof.Machine.execTtbrWriteRetired s
  | .chain => Sys2Proof.Machine.execChain s
  | .brRetired => Sys2Proof.Machine.execBrRetired s
  | .excUndef => Sys2Proof.Machine.execExcUndef s
  | .excSvc => Sys2Proof.Machine.execExcSvc s
  | .excPabort => Sys2Proof.Machine.execExcPabort s
  | .excDabort => Sys2Proof.Machine.execExcDabort s
  | .excIrq => Sys2Proof.Machine.execExcIrq s
  | .excFiq => Sys2Proof.Machine.execExcFiq s
  | .excSmc => Sys2Proof.Machine.execExcSmc s
  | .excHvc => Sys2Proof.Machine.execExcHvc s
  | .excTrapPabort => Sys2Proof.Machine.execExcTrapPabort s
  | .excTrapDabort => Sys2Proof.Machine.execExcTrapDabort s
  | .excTrapOther => Sys2Proof.Machine.execExcTrapOther s
  | .excTrapIrq => Sys2Proof.Machine.execExcTrapIrq s
  | .excTrapFiq => Sys2Proof.Machine.execExcTrapFiq s
  | .trbWrap => Sys2Proof.Machine.execTrbWrap s
  | .pmuOvfs => Sys2Proof.Machine.execPmuOvfs s
  | .trbTrig => Sys2Proof.Machine.execTrbTrig s
  | .pmuHovfs => Sys2Proof.Machine.execPmuHovfs s
  | .simdInstRetired => Sys2Proof.Machine.execSimdInstRetired s
  | .aseInstRetired => Sys2Proof.Machine.execAseInstRetired s
  | .sveInstRetired => Sys2Proof.Machine.execSveInstRetired s
  | .aseSveInstRetired => Sys2Proof.Machine.execAseSveInstRetired s
  | .brSkipRetired => Sys2Proof.Machine.execBrSkipRetired s
  | .brImmedTakenRetired => Sys2Proof.Machine.execBrImmedTakenRetired s
  | .brImmedSkipRetired => Sys2Proof.Machine.execBrImmedSkipRetired s
  | .brIndTakenRetired => Sys2Proof.Machine.execBrIndTakenRetired s
  | .brIndSkipRetired => Sys2Proof.Machine.execBrIndSkipRetired s
  | .brIndnrTakenRetired => Sys2Proof.Machine.execBrIndnrTakenRetired s
  | .brIndnrSkipRetired => Sys2Proof.Machine.execBrIndnrSkipRetired s
  | .brReturnAnyRetired => Sys2Proof.Machine.execBrReturnAnyRetired s
  | .brReturnSkipRetired => Sys2Proof.Machine.execBrReturnSkipRetired s
  | .brIndRetired => Sys2Proof.Machine.execBrIndRetired s
  | .brIndnrRetired => Sys2Proof.Machine.execBrIndnrRetired s
  | .brbFiltrate => Sys2Proof.Machine.execBrbFiltrate s
  | .brnlIndnrTakenRetired => Sys2Proof.Machine.execBrnlIndnrTakenRetired s
  | .blTakenRetired => Sys2Proof.Machine.execBlTakenRetired s
  | .brnlTakenRetired => Sys2Proof.Machine.execBrnlTakenRetired s
  | .blIndTakenRetired => Sys2Proof.Machine.execBlIndTakenRetired s
  | .brnlIndTakenRetired => Sys2Proof.Machine.execBrnlIndTakenRetired s
  | .blImmedTakenRetired => Sys2Proof.Machine.execBlImmedTakenRetired s
  | .brnlImmedTakenRetired => Sys2Proof.Machine.execBrnlImmedTakenRetired s
  | .brUncondRetired => Sys2Proof.Machine.execBrUncondRetired s
  | .brCondRetired => Sys2Proof.Machine.execBrCondRetired s
  | .brCondTakenRetired => Sys2Proof.Machine.execBrCondTakenRetired s
  | .brHintCondRetired => Sys2Proof.Machine.execBrHintCondRetired s
  | .aseSveRetired => Sys2Proof.Machine.execAseSveRetired s
  | .ldAnyRetired => Sys2Proof.Machine.execLdAnyRetired s
  | .stAnyRetired => Sys2Proof.Machine.execStAnyRetired s
  | .ldstAnyRetired => Sys2Proof.Machine.execLdstAnyRetired s
  | .dpRetired => Sys2Proof.Machine.execDpRetired s
  | .aseRetired => Sys2Proof.Machine.execAseRetired s
  | .vfpRetired => Sys2Proof.Machine.execVfpRetired s
  | .sveRetired => Sys2Proof.Machine.execSveRetired s
  | .cryptoRetired => Sys2Proof.Machine.execCryptoRetired s
  | .prfRetired => Sys2Proof.Machine.execPrfRetired s
  | .smeRetired => Sys2Proof.Machine.execSmeRetired s
  | .seRetired => Sys2Proof.Machine.execSeRetired s
  | .smeInstRetired => Sys2Proof.Machine.execSmeInstRetired s
  | .seInstRetired => Sys2Proof.Machine.execSeInstRetired s
  | .l1iCacheRefill => Sys2Proof.Machine.execL1iCacheRefill s
  | .l1iTlbRefill => Sys2Proof.Machine.execL1iTlbRefill s
  | .l1dCacheRefill => Sys2Proof.Machine.execL1dCacheRefill s
  | .l1dCache => Sys2Proof.Machine.execL1dCache s
  | .l1dTlbRefill => Sys2Proof.Machine.execL1dTlbRefill s
  | .brMisPred => Sys2Proof.Machine.execBrMisPred s
  | .cpuCycles => Sys2Proof.Machine.execCpuCycles s
  | .brPred => Sys2Proof.Machine.execBrPred s
  | .memAccess => Sys2Proof.Machine.execMemAccess s
  | .l1iCache => Sys2Proof.Machine.execL1iCache s
  | .l1dCacheWb => Sys2Proof.Machine.execL1dCacheWb s
  | .l2dCache => Sys2Proof.Machine.execL2dCache s
  | .l2dCacheRefill => Sys2Proof.Machine.execL2dCacheRefill s
  | .l2dCacheWb => Sys2Proof.Machine.execL2dCacheWb s
  | .busAccess => Sys2Proof.Machine.execBusAccess s
  | .memoryError => Sys2Proof.Machine.execMemoryError s
  | .instSpec => Sys2Proof.Machine.execInstSpec s
  | .busCycles => Sys2Proof.Machine.execBusCycles s
  | .l1dCacheAllocate => Sys2Proof.Machine.execL1dCacheAllocate s
  | .l2dCacheAllocate => Sys2Proof.Machine.execL2dCacheAllocate s
  | .brMisPredRetired => Sys2Proof.Machine.execBrMisPredRetired s
  | .stallFrontend => Sys2Proof.Machine.execStallFrontend s
  | .stallBackend => Sys2Proof.Machine.execStallBackend s
  | .l1dTlb => Sys2Proof.Machine.execL1dTlb s
  | .l1iTlb => Sys2Proof.Machine.execL1iTlb s
  | .l2iCache => Sys2Proof.Machine.execL2iCache s
  | .l2iCacheRefill => Sys2Proof.Machine.execL2iCacheRefill s
  | .l3dCacheAllocate => Sys2Proof.Machine.execL3dCacheAllocate s
  | .l3dCacheRefill => Sys2Proof.Machine.execL3dCacheRefill s
  | .l3dCache => Sys2Proof.Machine.execL3dCache s
  | .l3dCacheWb => Sys2Proof.Machine.execL3dCacheWb s
  | .l2dTlbRefill => Sys2Proof.Machine.execL2dTlbRefill s
  | .l2iTlbRefill => Sys2Proof.Machine.execL2iTlbRefill s
  | .l2dTlb => Sys2Proof.Machine.execL2dTlb s
  | .l2iTlb => Sys2Proof.Machine.execL2iTlb s
  | .remoteAccess => Sys2Proof.Machine.execRemoteAccess s
  | .llCache => Sys2Proof.Machine.execLlCache s
  | .llCacheMiss => Sys2Proof.Machine.execLlCacheMiss s
  | .dtlbWalk => Sys2Proof.Machine.execDtlbWalk s
  | .itlbWalk => Sys2Proof.Machine.execItlbWalk s
  | .llCacheRd => Sys2Proof.Machine.execLlCacheRd s
  | .llCacheMissRd => Sys2Proof.Machine.execLlCacheMissRd s
  | .remoteAccessRd => Sys2Proof.Machine.execRemoteAccessRd s
  | .l1dCacheLmissRd => Sys2Proof.Machine.execL1dCacheLmissRd s
  | .opRetired => Sys2Proof.Machine.execOpRetired s
  | .opSpec => Sys2Proof.Machine.execOpSpec s
  | .stall => Sys2Proof.Machine.execStall s
  | .stallSlotBackend => Sys2Proof.Machine.execStallSlotBackend s
  | .stallSlotFrontend => Sys2Proof.Machine.execStallSlotFrontend s
  | .stallSlot => Sys2Proof.Machine.execStallSlot s
  | .l1dCacheRd => Sys2Proof.Machine.execL1dCacheRd s
  | .l1dCacheWr => Sys2Proof.Machine.execL1dCacheWr s
  | .l1dCacheRefillRd => Sys2Proof.Machine.execL1dCacheRefillRd s
  | .l1dCacheRefillWr => Sys2Proof.Machine.execL1dCacheRefillWr s
  | .l1dCacheRefillInner => Sys2Proof.Machine.execL1dCacheRefillInner s
  | .l1dCacheRefillOuter => Sys2Proof.Machine.execL1dCacheRefillOuter s
  | .l1dCacheWbVictim => Sys2Proof.Machine.execL1dCacheWbVictim s
  | .l1dCacheWbClean => Sys2Proof.Machine.execL1dCacheWbClean s
  | .l1dCacheInval => Sys2Proof.Machine.execL1dCacheInval s
  | .l1dTlbRefillRd => Sys2Proof.Machine.execL1dTlbRefillRd s
  | .l1dTlbRefillWr => Sys2Proof.Machine.execL1dTlbRefillWr s
  | .l1dTlbRd => Sys2Proof.Machine.execL1dTlbRd s
  | .l1dTlbWr => Sys2Proof.Machine.execL1dTlbWr s
  | .l2dCacheRd => Sys2Proof.Machine.execL2dCacheRd s
  | .l2dCacheWr => Sys2Proof.Machine.execL2dCacheWr s
  | .l2dCacheRefillRd => Sys2Proof.Machine.execL2dCacheRefillRd s
  | .l2dCacheRefillWr => Sys2Proof.Machine.execL2dCacheRefillWr s
  | .l2dCacheWbVictim => Sys2Proof.Machine.execL2dCacheWbVictim s
  | .l2dCacheWbClean => Sys2Proof.Machine.execL2dCacheWbClean s
  | .l2dCacheInval => Sys2Proof.Machine.execL2dCacheInval s
  | .l2dTlbRefillRd => Sys2Proof.Machine.execL2dTlbRefillRd s
  | .l2dTlbRefillWr => Sys2Proof.Machine.execL2dTlbRefillWr s
  | .l2dTlbRd => Sys2Proof.Machine.execL2dTlbRd s
  | .l2dTlbWr => Sys2Proof.Machine.execL2dTlbWr s
  | .busAccessRd => Sys2Proof.Machine.execBusAccessRd s
  | .busAccessWr => Sys2Proof.Machine.execBusAccessWr s
  | .busAccessShared => Sys2Proof.Machine.execBusAccessShared s
  | .busAccessNotShared => Sys2Proof.Machine.execBusAccessNotShared s
  | .busAccessNormal => Sys2Proof.Machine.execBusAccessNormal s
  | .busAccessPeriph => Sys2Proof.Machine.execBusAccessPeriph s
  | .memAccessRd => Sys2Proof.Machine.execMemAccessRd s
  | .memAccessWr => Sys2Proof.Machine.execMemAccessWr s
  | .unalignedLdSpec => Sys2Proof.Machine.execUnalignedLdSpec s
  | .unalignedStSpec => Sys2Proof.Machine.execUnalignedStSpec s
  | .unalignedLdstSpec => Sys2Proof.Machine.execUnalignedLdstSpec s
  | .ldrexSpec => Sys2Proof.Machine.execLdrexSpec s
  | .strexPassSpec => Sys2Proof.Machine.execStrexPassSpec s
  | .strexFailSpec => Sys2Proof.Machine.execStrexFailSpec s
  | .strexSpec => Sys2Proof.Machine.execStrexSpec s
  | .ldSpec => Sys2Proof.Machine.execLdSpec s
  | .stSpec => Sys2Proof.Machine.execStSpec s
  | .ldstSpec => Sys2Proof.Machine.execLdstSpec s
  | .dpSpec => Sys2Proof.Machine.execDpSpec s
  | .aseSpec => Sys2Proof.Machine.execAseSpec s
  | .vfpSpec => Sys2Proof.Machine.execVfpSpec s
  | .pcWriteSpec => Sys2Proof.Machine.execPcWriteSpec s
  | .cryptoSpec => Sys2Proof.Machine.execCryptoSpec s
  | .brImmedSpec => Sys2Proof.Machine.execBrImmedSpec s
  | .brReturnSpec => Sys2Proof.Machine.execBrReturnSpec s
  | .brIndirectSpec => Sys2Proof.Machine.execBrIndirectSpec s
  | .isbSpec => Sys2Proof.Machine.execIsbSpec s
  | .dsbSpec => Sys2Proof.Machine.execDsbSpec s
  | .dmbSpec => Sys2Proof.Machine.execDmbSpec s
  | .csdbSpec => Sys2Proof.Machine.execCsdbSpec s
  | .rcLdSpec => Sys2Proof.Machine.execRcLdSpec s
  | .rcStSpec => Sys2Proof.Machine.execRcStSpec s
  | .l3dCacheHitWrFextProp => Sys2Proof.Machine.execL3dCacheHitWrFextProp s
  | .l3dCacheRd => Sys2Proof.Machine.execL3dCacheRd s
  | .l3dCacheWr => Sys2Proof.Machine.execL3dCacheWr s
  | .l3dCacheRefillRd => Sys2Proof.Machine.execL3dCacheRefillRd s
  | .l3dCacheRefillWr => Sys2Proof.Machine.execL3dCacheRefillWr s
  | .l3dCacheWbVictim => Sys2Proof.Machine.execL3dCacheWbVictim s
  | .l3dCacheWbClean => Sys2Proof.Machine.execL3dCacheWbClean s
  | .l3dCacheInval => Sys2Proof.Machine.execL3dCacheInval s
  | .l2dCacheHitRdFextProp => Sys2Proof.Machine.execL2dCacheHitRdFextProp s
  | .l2dCacheHitWrFextProp => Sys2Proof.Machine.execL2dCacheHitWrFextProp s
  | .l2dCacheHitRwFextProp => Sys2Proof.Machine.execL2dCacheHitRwFextProp s
  | .l3dCacheExtProp => Sys2Proof.Machine.execL3dCacheExtProp s
  | .l3dCacheExtPropPrfmIr => Sys2Proof.Machine.execL3dCacheExtPropPrfmIr s
  | .l3dCacheHitRwFextProp => Sys2Proof.Machine.execL3dCacheHitRwFextProp s
  | .l3dCacheHitRdFextProp => Sys2Proof.Machine.execL3dCacheHitRdFextProp s
  | .stshhSpec => Sys2Proof.Machine.execStshhSpec s
  | .stshhKeepSpec => Sys2Proof.Machine.execStshhKeepSpec s
  | .stshhStrmSpec => Sys2Proof.Machine.execStshhStrmSpec s
  | .prfmIrSpec => Sys2Proof.Machine.execPrfmIrSpec s
  | .memAccessWrStshh => Sys2Proof.Machine.execMemAccessWrStshh s
  | .memAccessWrStshhKeep => Sys2Proof.Machine.execMemAccessWrStshhKeep s
  | .memAccessWrStshhStrm => Sys2Proof.Machine.execMemAccessWrStshhStrm s
  | .memAccessWrStshhKeepNear => Sys2Proof.Machine.execMemAccessWrStshhKeepNear s
  | .memAccessWrStshhKeepFar => Sys2Proof.Machine.execMemAccessWrStshhKeepFar s
  | .l1dCacheExtProp => Sys2Proof.Machine.execL1dCacheExtProp s
  | .l1dCacheExtPropPrfmIr => Sys2Proof.Machine.execL1dCacheExtPropPrfmIr s
  | .l1dCacheHitRdFextProp => Sys2Proof.Machine.execL1dCacheHitRdFextProp s
  | .l1dCacheHitWrFextProp => Sys2Proof.Machine.execL1dCacheHitWrFextProp s
  | .l1dCacheHitRwFextProp => Sys2Proof.Machine.execL1dCacheHitRwFextProp s
  | .l2dCacheExtProp => Sys2Proof.Machine.execL2dCacheExtProp s
  | .l2dCacheExtPropPrfmIr => Sys2Proof.Machine.execL2dCacheExtPropPrfmIr s
  | .samplePop => Sys2Proof.Machine.execSamplePop s
  | .sampleFeed => Sys2Proof.Machine.execSampleFeed s
  | .sampleFiltrate => Sys2Proof.Machine.execSampleFiltrate s
  | .sampleCollision => Sys2Proof.Machine.execSampleCollision s
  | .cntCycles => Sys2Proof.Machine.execCntCycles s
  | .stallBackendMem => Sys2Proof.Machine.execStallBackendMem s
  | .l1iCacheLmiss => Sys2Proof.Machine.execL1iCacheLmiss s
  | .l2dCacheLmissRd => Sys2Proof.Machine.execL2dCacheLmissRd s
  | .l2iCacheLmiss => Sys2Proof.Machine.execL2iCacheLmiss s
  | .l3dCacheLmissRd => Sys2Proof.Machine.execL3dCacheLmissRd s
  | .trcextout0 => Sys2Proof.Machine.execTrcextout0 s
  | .trcextout1 => Sys2Proof.Machine.execTrcextout1 s
  | .trcextout2 => Sys2Proof.Machine.execTrcextout2 s
  | .trcextout3 => Sys2Proof.Machine.execTrcextout3 s
  | .ctiTrigout4 => Sys2Proof.Machine.execCtiTrigout4 s
  | .ctiTrigout5 => Sys2Proof.Machine.execCtiTrigout5 s
  | .ctiTrigout6 => Sys2Proof.Machine.execCtiTrigout6 s
  | .ctiTrigout7 => Sys2Proof.Machine.execCtiTrigout7 s
  | .ldstAlignLat => Sys2Proof.Machine.execLdstAlignLat s
  | .ldAlignLat => Sys2Proof.Machine.execLdAlignLat s
  | .stAlignLat => Sys2Proof.Machine.execStAlignLat s
  | .memAccessChecked => Sys2Proof.Machine.execMemAccessChecked s
  | .memAccessCheckedRd => Sys2Proof.Machine.execMemAccessCheckedRd s
  | .memAccessCheckedWr => Sys2Proof.Machine.execMemAccessCheckedWr s
  | .simdInstSpec => Sys2Proof.Machine.execSimdInstSpec s
  | .aseInstSpec => Sys2Proof.Machine.execAseInstSpec s
  | .sveInstSpec => Sys2Proof.Machine.execSveInstSpec s
  | .aseSveInstSpec => Sys2Proof.Machine.execAseSveInstSpec s
  | .uopSpec => Sys2Proof.Machine.execUopSpec s
  | .aseUopSpec => Sys2Proof.Machine.execAseUopSpec s
  | .sveUopSpec => Sys2Proof.Machine.execSveUopSpec s
  | .aseSveUopSpec => Sys2Proof.Machine.execAseSveUopSpec s
  | .simdUopSpec => Sys2Proof.Machine.execSimdUopSpec s
  | .sveMathSpec => Sys2Proof.Machine.execSveMathSpec s
  | .fpSpec => Sys2Proof.Machine.execFpSpec s
  | .aseFpSpec => Sys2Proof.Machine.execAseFpSpec s
  | .sveFpSpec => Sys2Proof.Machine.execSveFpSpec s
  | .aseSveFpSpec => Sys2Proof.Machine.execAseSveFpSpec s
  | .fpHpSpec => Sys2Proof.Machine.execFpHpSpec s
  | .aseFpHpSpec => Sys2Proof.Machine.execAseFpHpSpec s
  | .sveFpHpSpec => Sys2Proof.Machine.execSveFpHpSpec s
  | .aseSveFpHpSpec => Sys2Proof.Machine.execAseSveFpHpSpec s
  | .fpSpSpec => Sys2Proof.Machine.execFpSpSpec s
  | .aseFpSpSpec => Sys2Proof.Machine.execAseFpSpSpec s
  | .sveFpSpSpec => Sys2Proof.Machine.execSveFpSpSpec s
  | .aseSveFpSpSpec => Sys2Proof.Machine.execAseSveFpSpSpec s
  | .fpDpSpec => Sys2Proof.Machine.execFpDpSpec s
  | .aseFpDpSpec => Sys2Proof.Machine.execAseFpDpSpec s
  | .sveFpDpSpec => Sys2Proof.Machine.execSveFpDpSpec s
  | .aseSveFpDpSpec => Sys2Proof.Machine.execAseSveFpDpSpec s
  | .fpDivSpec => Sys2Proof.Machine.execFpDivSpec s
  | .aseFpDivSpec => Sys2Proof.Machine.execAseFpDivSpec s
  | .sveFpDivSpec => Sys2Proof.Machine.execSveFpDivSpec s
  | .aseSveFpDivSpec => Sys2Proof.Machine.execAseSveFpDivSpec s
  | .fpSqrtSpec => Sys2Proof.Machine.execFpSqrtSpec s
  | .aseFpSqrtSpec => Sys2Proof.Machine.execAseFpSqrtSpec s
  | .sveFpSqrtSpec => Sys2Proof.Machine.execSveFpSqrtSpec s
  | .aseSveFpSqrtSpec => Sys2Proof.Machine.execAseSveFpSqrtSpec s
  | .fpFmaSpec => Sys2Proof.Machine.execFpFmaSpec s
  | .aseFpFmaSpec => Sys2Proof.Machine.execAseFpFmaSpec s
  | .sveFpFmaSpec => Sys2Proof.Machine.execSveFpFmaSpec s
  | .aseSveFpFmaSpec => Sys2Proof.Machine.execAseSveFpFmaSpec s
  | .fpMulSpec => Sys2Proof.Machine.execFpMulSpec s
  | .aseFpMulSpec => Sys2Proof.Machine.execAseFpMulSpec s
  | .sveFpMulSpec => Sys2Proof.Machine.execSveFpMulSpec s
  | .aseSveFpMulSpec => Sys2Proof.Machine.execAseSveFpMulSpec s
  | .fpAddsubSpec => Sys2Proof.Machine.execFpAddsubSpec s
  | .aseFpAddsubSpec => Sys2Proof.Machine.execAseFpAddsubSpec s
  | .sveFpAddsubSpec => Sys2Proof.Machine.execSveFpAddsubSpec s
  | .aseSveFpAddsubSpec => Sys2Proof.Machine.execAseSveFpAddsubSpec s
  | .fpRecpeSpec => Sys2Proof.Machine.execFpRecpeSpec s
  | .aseFpRecpeSpec => Sys2Proof.Machine.execAseFpRecpeSpec s
  | .sveFpRecpeSpec => Sys2Proof.Machine.execSveFpRecpeSpec s
  | .aseSveFpRecpeSpec => Sys2Proof.Machine.execAseSveFpRecpeSpec s
  | .fpCvtSpec => Sys2Proof.Machine.execFpCvtSpec s
  | .aseFpCvtSpec => Sys2Proof.Machine.execAseFpCvtSpec s
  | .sveFpCvtSpec => Sys2Proof.Machine.execSveFpCvtSpec s
  | .aseSveFpCvtSpec => Sys2Proof.Machine.execAseSveFpCvtSpec s
  | .sveFpAreduceSpec => Sys2Proof.Machine.execSveFpAreduceSpec s
  | .aseFpPreduceSpec => Sys2Proof.Machine.execAseFpPreduceSpec s
  | .sveFpVreduceSpec => Sys2Proof.Machine.execSveFpVreduceSpec s
  | .aseSveFpVreduceSpec => Sys2Proof.Machine.execAseSveFpVreduceSpec s
  | .intSpec => Sys2Proof.Machine.execIntSpec s
  | .aseIntSpec => Sys2Proof.Machine.execAseIntSpec s
  | .sveIntSpec => Sys2Proof.Machine.execSveIntSpec s
  | .aseSveIntSpec => Sys2Proof.Machine.execAseSveIntSpec s
  | .intDivSpec => Sys2Proof.Machine.execIntDivSpec s
  | .intDiv64Spec => Sys2Proof.Machine.execIntDiv64Spec s
  | .sveIntDivSpec => Sys2Proof.Machine.execSveIntDivSpec s
  | .sveIntDiv64Spec => Sys2Proof.Machine.execSveIntDiv64Spec s
  | .intMulSpec => Sys2Proof.Machine.execIntMulSpec s
  | .aseIntMulSpec => Sys2Proof.Machine.execAseIntMulSpec s
  | .sveIntMulSpec => Sys2Proof.Machine.execSveIntMulSpec s
  | .aseSveIntMulSpec => Sys2Proof.Machine.execAseSveIntMulSpec s
  | .intMul64Spec => Sys2Proof.Machine.execIntMul64Spec s
  | .sveIntMul64Spec => Sys2Proof.Machine.execSveIntMul64Spec s
  | .intMulh64Spec => Sys2Proof.Machine.execIntMulh64Spec s
  | .sveIntMulh64Spec => Sys2Proof.Machine.execSveIntMulh64Spec s
  | .aseFpBf16Spec => Sys2Proof.Machine.execAseFpBf16Spec s
  | .sveFpBf16Spec => Sys2Proof.Machine.execSveFpBf16Spec s
  | .aseSveFpBf16Spec => Sys2Proof.Machine.execAseSveFpBf16Spec s
  | .fpBf16Spec => Sys2Proof.Machine.execFpBf16Spec s
  | .sveSpec => Sys2Proof.Machine.execSveSpec s
  | .aseSveSpec => Sys2Proof.Machine.execAseSveSpec s
  | .nonfpSpec => Sys2Proof.Machine.execNonfpSpec s
  | .aseNonfpSpec => Sys2Proof.Machine.execAseNonfpSpec s
  | .sveNonfpSpec => Sys2Proof.Machine.execSveNonfpSpec s
  | .aseSveNonfpSpec => Sys2Proof.Machine.execAseSveNonfpSpec s
  | .aseIntVreduceSpec => Sys2Proof.Machine.execAseIntVreduceSpec s
  | .sveIntVreduceSpec => Sys2Proof.Machine.execSveIntVreduceSpec s
  | .aseSveIntVreduceSpec => Sys2Proof.Machine.execAseSveIntVreduceSpec s
  | .svePermSpec => Sys2Proof.Machine.execSvePermSpec s
  | .svePermIgranuleSpec => Sys2Proof.Machine.execSvePermIgranuleSpec s
  | .svePermXgranuleSpec => Sys2Proof.Machine.execSvePermXgranuleSpec s
  | .svePermVariableSpec => Sys2Proof.Machine.execSvePermVariableSpec s
  | .sveXpipeSpec => Sys2Proof.Machine.execSveXpipeSpec s
  | .sveXpipeZ2rSpec => Sys2Proof.Machine.execSveXpipeZ2rSpec s
  | .sveXpipeR2zSpec => Sys2Proof.Machine.execSveXpipeR2zSpec s
  | .svePgenNvecSpec => Sys2Proof.Machine.execSvePgenNvecSpec s
  | .svePgenSpec => Sys2Proof.Machine.execSvePgenSpec s
  | .svePgenFlgSpec => Sys2Proof.Machine.execSvePgenFlgSpec s
  | .svePgenCmpSpec => Sys2Proof.Machine.execSvePgenCmpSpec s
  | .svePgenFcmSpec => Sys2Proof.Machine.execSvePgenFcmSpec s
  | .svePgenLogicSpec => Sys2Proof.Machine.execSvePgenLogicSpec s
  | .svePpermSpec => Sys2Proof.Machine.execSvePpermSpec s
  | .svePscanSpec => Sys2Proof.Machine.execSvePscanSpec s
  | .svePcntSpec => Sys2Proof.Machine.execSvePcntSpec s
  | .svePloopWhileSpec => Sys2Proof.Machine.execSvePloopWhileSpec s
  | .svePloopTestSpec => Sys2Proof.Machine.execSvePloopTestSpec s
  | .svePloopEltsSpec => Sys2Proof.Machine.execSvePloopEltsSpec s
  | .svePloopTermSpec => Sys2Proof.Machine.execSvePloopTermSpec s
  | .svePredSpec => Sys2Proof.Machine.execSvePredSpec s
  | .svePredEmptySpec => Sys2Proof.Machine.execSvePredEmptySpec s
  | .svePredFullSpec => Sys2Proof.Machine.execSvePredFullSpec s
  | .svePredPartialSpec => Sys2Proof.Machine.execSvePredPartialSpec s
  | .sveUnpredSpec => Sys2Proof.Machine.execSveUnpredSpec s
  | .svePredNotFullSpec => Sys2Proof.Machine.execSvePredNotFullSpec s
  | .sveMovprfxSpec => Sys2Proof.Machine.execSveMovprfxSpec s
  | .sveMovprfxZSpec => Sys2Proof.Machine.execSveMovprfxZSpec s
  | .sveMovprfxMSpec => Sys2Proof.Machine.execSveMovprfxMSpec s
  | .sveMovprfxUSpec => Sys2Proof.Machine.execSveMovprfxUSpec s
  | .sveLdstSpec => Sys2Proof.Machine.execSveLdstSpec s
  | .sveLdSpec => Sys2Proof.Machine.execSveLdSpec s
  | .sveStSpec => Sys2Proof.Machine.execSveStSpec s
  | .svePrfSpec => Sys2Proof.Machine.execSvePrfSpec s
  | .aseSveLdstSpec => Sys2Proof.Machine.execAseSveLdstSpec s
  | .aseSveLdSpec => Sys2Proof.Machine.execAseSveLdSpec s
  | .aseSveStSpec => Sys2Proof.Machine.execAseSveStSpec s
  | .prfSpec => Sys2Proof.Machine.execPrfSpec s
  | .baseLdstRegSpec => Sys2Proof.Machine.execBaseLdstRegSpec s
  | .baseLdRegSpec => Sys2Proof.Machine.execBaseLdRegSpec s
  | .baseStRegSpec => Sys2Proof.Machine.execBaseStRegSpec s
  | .basePrfSpec => Sys2Proof.Machine.execBasePrfSpec s
  | .fpaseLdstRegSpec => Sys2Proof.Machine.execFpaseLdstRegSpec s
  | .fpaseLdRegSpec => Sys2Proof.Machine.execFpaseLdRegSpec s
  | .fpaseStRegSpec => Sys2Proof.Machine.execFpaseStRegSpec s
  | .sveLdstRegSpec => Sys2Proof.Machine.execSveLdstRegSpec s
  | .sveLdrRegSpec => Sys2Proof.Machine.execSveLdrRegSpec s
  | .sveStrRegSpec => Sys2Proof.Machine.execSveStrRegSpec s
  | .sveLdstPregSpec => Sys2Proof.Machine.execSveLdstPregSpec s
  | .sveLdrPregSpec => Sys2Proof.Machine.execSveLdrPregSpec s
  | .sveStrPregSpec => Sys2Proof.Machine.execSveStrPregSpec s
  | .sveLdstZregSpec => Sys2Proof.Machine.execSveLdstZregSpec s
  | .sveLdrZregSpec => Sys2Proof.Machine.execSveLdrZregSpec s
  | .sveStrZregSpec => Sys2Proof.Machine.execSveStrZregSpec s
  | .sveLdstContigSpec => Sys2Proof.Machine.execSveLdstContigSpec s
  | .sveLdContigSpec => Sys2Proof.Machine.execSveLdContigSpec s
  | .sveStContigSpec => Sys2Proof.Machine.execSveStContigSpec s
  | .svePrfContigSpec => Sys2Proof.Machine.execSvePrfContigSpec s
  | .sveLdstntContigSpec => Sys2Proof.Machine.execSveLdstntContigSpec s
  | .sveLdntContigSpec => Sys2Proof.Machine.execSveLdntContigSpec s
  | .sveStntContigSpec => Sys2Proof.Machine.execSveStntContigSpec s
  | .aseSveLdstMultiSpec => Sys2Proof.Machine.execAseSveLdstMultiSpec s
  | .aseSveLdMultiSpec => Sys2Proof.Machine.execAseSveLdMultiSpec s
  | .aseSveStMultiSpec => Sys2Proof.Machine.execAseSveStMultiSpec s
  | .sveLdstMultiSpec => Sys2Proof.Machine.execSveLdstMultiSpec s
  | .sveLdMultiSpec => Sys2Proof.Machine.execSveLdMultiSpec s
  | .sveStMultiSpec => Sys2Proof.Machine.execSveStMultiSpec s
  | .sveLdstNoncontigSpec => Sys2Proof.Machine.execSveLdstNoncontigSpec s
  | .sveLdGatherSpec => Sys2Proof.Machine.execSveLdGatherSpec s
  | .sveStScatterSpec => Sys2Proof.Machine.execSveStScatterSpec s
  | .svePrfGatherSpec => Sys2Proof.Machine.execSvePrfGatherSpec s
  | .sveLdst64NoncontigSpec => Sys2Proof.Machine.execSveLdst64NoncontigSpec s
  | .sveLd64GatherSpec => Sys2Proof.Machine.execSveLd64GatherSpec s
  | .sveSt64ScatterSpec => Sys2Proof.Machine.execSveSt64ScatterSpec s
  | .svePrf64GatherSpec => Sys2Proof.Machine.execSvePrf64GatherSpec s
  | .aseSveUnalignedLdstSpec => Sys2Proof.Machine.execAseSveUnalignedLdstSpec s
  | .aseSveUnalignedLdSpec => Sys2Proof.Machine.execAseSveUnalignedLdSpec s
  | .aseSveUnalignedStSpec => Sys2Proof.Machine.execAseSveUnalignedStSpec s
  | .aseSveUnalignedContigLdstSpec => Sys2Proof.Machine.execAseSveUnalignedContigLdstSpec s
  | .aseSveUnalignedContigLdSpec => Sys2Proof.Machine.execAseSveUnalignedContigLdSpec s
  | .aseSveUnalignedContigStSpec => Sys2Proof.Machine.execAseSveUnalignedContigStSpec s
  | .sveLdffSpec => Sys2Proof.Machine.execSveLdffSpec s
  | .sveLdffFaultSpec => Sys2Proof.Machine.execSveLdffFaultSpec s
  | .fpScaleOpsSpec => Sys2Proof.Machine.execFpScaleOpsSpec s
  | .fpFixedOpsSpec => Sys2Proof.Machine.execFpFixedOpsSpec s
  | .fpHpScaleOpsSpec => Sys2Proof.Machine.execFpHpScaleOpsSpec s
  | .fpHpFixedOpsSpec => Sys2Proof.Machine.execFpHpFixedOpsSpec s
  | .fpSpScaleOpsSpec => Sys2Proof.Machine.execFpSpScaleOpsSpec s
  | .fpSpFixedOpsSpec => Sys2Proof.Machine.execFpSpFixedOpsSpec s
  | .fpDpScaleOpsSpec => Sys2Proof.Machine.execFpDpScaleOpsSpec s
  | .fpDpFixedOpsSpec => Sys2Proof.Machine.execFpDpFixedOpsSpec s
  | .intScaleOpsSpec => Sys2Proof.Machine.execIntScaleOpsSpec s
  | .intFixedOpsSpec => Sys2Proof.Machine.execIntFixedOpsSpec s
  | .ldstScaleOpsSpec => Sys2Proof.Machine.execLdstScaleOpsSpec s
  | .ldstFixedOpsSpec => Sys2Proof.Machine.execLdstFixedOpsSpec s
  | .ldScaleOpsSpec => Sys2Proof.Machine.execLdScaleOpsSpec s
  | .ldFixedOpsSpec => Sys2Proof.Machine.execLdFixedOpsSpec s
  | .stScaleOpsSpec => Sys2Proof.Machine.execStScaleOpsSpec s
  | .stFixedOpsSpec => Sys2Proof.Machine.execStFixedOpsSpec s
  | .fpScale2OpsSpec => Sys2Proof.Machine.execFpScale2OpsSpec s
  | .fpHpScale2OpsSpec => Sys2Proof.Machine.execFpHpScale2OpsSpec s
  | .fpBf16Scale2OpsSpec => Sys2Proof.Machine.execFpBf16Scale2OpsSpec s
  | .fpSpScale2OpsSpec => Sys2Proof.Machine.execFpSpScale2OpsSpec s
  | .fpDpScale2OpsSpec => Sys2Proof.Machine.execFpDpScale2OpsSpec s
  | .intScale2OpsSpec => Sys2Proof.Machine.execIntScale2OpsSpec s
  | .ldstScaleBytesSpec => Sys2Proof.Machine.execLdstScaleBytesSpec s
  | .ldstFixedBytesSpec => Sys2Proof.Machine.execLdstFixedBytesSpec s
  | .ldScaleBytesSpec => Sys2Proof.Machine.execLdScaleBytesSpec s
  | .ldFixedBytesSpec => Sys2Proof.Machine.execLdFixedBytesSpec s
  | .stScaleBytesSpec => Sys2Proof.Machine.execStScaleBytesSpec s
  | .stFixedBytesSpec => Sys2Proof.Machine.execStFixedBytesSpec s
  | .aseInt8Spec => Sys2Proof.Machine.execAseInt8Spec s
  | .sveInt8Spec => Sys2Proof.Machine.execSveInt8Spec s
  | .aseSveInt8Spec => Sys2Proof.Machine.execAseSveInt8Spec s
  | .aseInt16Spec => Sys2Proof.Machine.execAseInt16Spec s
  | .sveInt16Spec => Sys2Proof.Machine.execSveInt16Spec s
  | .aseSveInt16Spec => Sys2Proof.Machine.execAseSveInt16Spec s
  | .fpBf16ScaleOpsSpec => Sys2Proof.Machine.execFpBf16ScaleOpsSpec s
  | .aseInt32Spec => Sys2Proof.Machine.execAseInt32Spec s
  | .sveInt32Spec => Sys2Proof.Machine.execSveInt32Spec s
  | .aseSveInt32Spec => Sys2Proof.Machine.execAseSveInt32Spec s
  | .aseInt64Spec => Sys2Proof.Machine.execAseInt64Spec s
  | .sveInt64Spec => Sys2Proof.Machine.execSveInt64Spec s
  | .aseSveInt64Spec => Sys2Proof.Machine.execAseSveInt64Spec s
  | .aseFpDotSpec => Sys2Proof.Machine.execAseFpDotSpec s
  | .sveFpDotSpec => Sys2Proof.Machine.execSveFpDotSpec s
  | .aseSveFpDotSpec => Sys2Proof.Machine.execAseSveFpDotSpec s
  | .aseFpMmlaSpec => Sys2Proof.Machine.execAseFpMmlaSpec s
  | .sveFpMmlaSpec => Sys2Proof.Machine.execSveFpMmlaSpec s
  | .aseSveFpMmlaSpec => Sys2Proof.Machine.execAseSveFpMmlaSpec s
  | .aseIntDotSpec => Sys2Proof.Machine.execAseIntDotSpec s
  | .sveIntDotSpec => Sys2Proof.Machine.execSveIntDotSpec s
  | .aseSveIntDotSpec => Sys2Proof.Machine.execAseSveIntDotSpec s
  | .aseIntMmlaSpec => Sys2Proof.Machine.execAseIntMmlaSpec s
  | .sveIntMmlaSpec => Sys2Proof.Machine.execSveIntMmlaSpec s
  | .aseSveIntMmlaSpec => Sys2Proof.Machine.execAseSveIntMmlaSpec s
  | .brImmedPredRetired => Sys2Proof.Machine.execBrImmedPredRetired s
  | .brImmedMisPredRetired => Sys2Proof.Machine.execBrImmedMisPredRetired s
  | .brIndPredRetired => Sys2Proof.Machine.execBrIndPredRetired s
  | .brIndMisPredRetired => Sys2Proof.Machine.execBrIndMisPredRetired s
  | .brReturnPredRetired => Sys2Proof.Machine.execBrReturnPredRetired s
  | .brReturnMisPredRetired => Sys2Proof.Machine.execBrReturnMisPredRetired s
  | .brIndnrPredRetired => Sys2Proof.Machine.execBrIndnrPredRetired s
  | .brIndnrMisPredRetired => Sys2Proof.Machine.execBrIndnrMisPredRetired s
  | .brTakenPredRetired => Sys2Proof.Machine.execBrTakenPredRetired s
  | .brTakenMisPredRetired => Sys2Proof.Machine.execBrTakenMisPredRetired s
  | .brSkipPredRetired => Sys2Proof.Machine.execBrSkipPredRetired s
  | .brSkipMisPredRetired => Sys2Proof.Machine.execBrSkipMisPredRetired s
  | .brPredRetired => Sys2Proof.Machine.execBrPredRetired s
  | .instFetchPercyc => Sys2Proof.Machine.execInstFetchPercyc s
  | .memAccessRdPercyc => Sys2Proof.Machine.execMemAccessRdPercyc s
  | .sampleFeedDs => Sys2Proof.Machine.execSampleFeedDs s
  | .sampleBufferFull => Sys2Proof.Machine.execSampleBufferFull s
  | .instFetch => Sys2Proof.Machine.execInstFetch s
  | .busReqRdPercyc => Sys2Proof.Machine.execBusReqRdPercyc s
  | .busReqWrPercyc => Sys2Proof.Machine.execBusReqWrPercyc s
  | .pmuSnapshot => Sys2Proof.Machine.execPmuSnapshot s
  | .dtlbWalkPercyc => Sys2Proof.Machine.execDtlbWalkPercyc s
  | .itlbWalkPercyc => Sys2Proof.Machine.execItlbWalkPercyc s
  | .sampleFeedBr => Sys2Proof.Machine.execSampleFeedBr s
  | .sampleFeedLd => Sys2Proof.Machine.execSampleFeedLd s
  | .sampleFeedSt => Sys2Proof.Machine.execSampleFeedSt s
  | .sampleFeedOp => Sys2Proof.Machine.execSampleFeedOp s
  | .sampleFeedEvent => Sys2Proof.Machine.execSampleFeedEvent s
  | .sampleFeedLat => Sys2Proof.Machine.execSampleFeedLat s
  | .l1dTlbRw => Sys2Proof.Machine.execL1dTlbRw s
  | .l1iTlbRd => Sys2Proof.Machine.execL1iTlbRd s
  | .l1dTlbPrfm => Sys2Proof.Machine.execL1dTlbPrfm s
  | .l1iTlbPrfm => Sys2Proof.Machine.execL1iTlbPrfm s
  | .dtlbHwupd => Sys2Proof.Machine.execDtlbHwupd s
  | .itlbHwupd => Sys2Proof.Machine.execItlbHwupd s
  | .dtlbStep => Sys2Proof.Machine.execDtlbStep s
  | .itlbStep => Sys2Proof.Machine.execItlbStep s
  | .dtlbWalkLarge => Sys2Proof.Machine.execDtlbWalkLarge s
  | .itlbWalkLarge => Sys2Proof.Machine.execItlbWalkLarge s
  | .dtlbWalkSmall => Sys2Proof.Machine.execDtlbWalkSmall s
  | .itlbWalkSmall => Sys2Proof.Machine.execItlbWalkSmall s
  | .dtlbWalkRw => Sys2Proof.Machine.execDtlbWalkRw s
  | .itlbWalkRd => Sys2Proof.Machine.execItlbWalkRd s
  | .dtlbWalkPrfm => Sys2Proof.Machine.execDtlbWalkPrfm s
  | .itlbWalkPrfm => Sys2Proof.Machine.execItlbWalkPrfm s
  | .l1dCacheRw => Sys2Proof.Machine.execL1dCacheRw s
  | .l1iCacheRd => Sys2Proof.Machine.execL1iCacheRd s
  | .l1dCachePrfm => Sys2Proof.Machine.execL1dCachePrfm s
  | .l1iCachePrfm => Sys2Proof.Machine.execL1iCachePrfm s
  | .l1dCacheMiss => Sys2Proof.Machine.execL1dCacheMiss s
  | .l1iCacheHwprf => Sys2Proof.Machine.execL1iCacheHwprf s
  | .l1dCacheRefillPrfm => Sys2Proof.Machine.execL1dCacheRefillPrfm s
  | .l1iCacheRefillPrfm => Sys2Proof.Machine.execL1iCacheRefillPrfm s
  | .l2dCacheRw => Sys2Proof.Machine.execL2dCacheRw s
  | .l2iCacheRd => Sys2Proof.Machine.execL2iCacheRd s
  | .l2dCachePrfm => Sys2Proof.Machine.execL2dCachePrfm s
  | .l2iCachePrfm => Sys2Proof.Machine.execL2iCachePrfm s
  | .l2dCacheMiss => Sys2Proof.Machine.execL2dCacheMiss s
  | .l2iCacheHwprf => Sys2Proof.Machine.execL2iCacheHwprf s
  | .l2dCacheRefillPrfm => Sys2Proof.Machine.execL2dCacheRefillPrfm s
  | .l2iCacheRefillPrfm => Sys2Proof.Machine.execL2iCacheRefillPrfm s
  | .l3dCacheRw => Sys2Proof.Machine.execL3dCacheRw s
  | .l3dCachePrfm => Sys2Proof.Machine.execL3dCachePrfm s
  | .l3dCacheMiss => Sys2Proof.Machine.execL3dCacheMiss s
  | .l3dCacheRefillPrfm => Sys2Proof.Machine.execL3dCacheRefillPrfm s
  | .l1dCacheHwprf => Sys2Proof.Machine.execL1dCacheHwprf s
  | .l2dCacheHwprf => Sys2Proof.Machine.execL2dCacheHwprf s
  | .l3dCacheHwprf => Sys2Proof.Machine.execL3dCacheHwprf s
  | .llCacheHwprf => Sys2Proof.Machine.execLlCacheHwprf s
  | .stallFrontendMembound => Sys2Proof.Machine.execStallFrontendMembound s
  | .stallFrontendL1i => Sys2Proof.Machine.execStallFrontendL1i s
  | .stallFrontendL2i => Sys2Proof.Machine.execStallFrontendL2i s
  | .stallFrontendMem => Sys2Proof.Machine.execStallFrontendMem s
  | .stallFrontendTlb => Sys2Proof.Machine.execStallFrontendTlb s
  | .stallBackendBusySmcu => Sys2Proof.Machine.execStallBackendBusySmcu s
  | .stallBackendBusySmcuUnall => Sys2Proof.Machine.execStallBackendBusySmcuUnall s
  | .stallFrontendCpubound => Sys2Proof.Machine.execStallFrontendCpubound s
  | .stallFrontendFlow => Sys2Proof.Machine.execStallFrontendFlow s
  | .stallFrontendFlush => Sys2Proof.Machine.execStallFrontendFlush s
  | .stallFrontendRename => Sys2Proof.Machine.execStallFrontendRename s
  | .stallBackendMembound => Sys2Proof.Machine.execStallBackendMembound s
  | .stallBackendL1d => Sys2Proof.Machine.execStallBackendL1d s
  | .stallBackendL2d => Sys2Proof.Machine.execStallBackendL2d s
  | .stallBackendTlb => Sys2Proof.Machine.execStallBackendTlb s
  | .stallBackendSt => Sys2Proof.Machine.execStallBackendSt s
  | .stallBackendCpubound => Sys2Proof.Machine.execStallBackendCpubound s
  | .stallBackendBusy => Sys2Proof.Machine.execStallBackendBusy s
  | .stallBackendIlock => Sys2Proof.Machine.execStallBackendIlock s
  | .stallBackendRename => Sys2Proof.Machine.execStallBackendRename s
  | .stallBackendAtomic => Sys2Proof.Machine.execStallBackendAtomic s
  | .stallBackendMemcpyset => Sys2Proof.Machine.execStallBackendMemcpyset s
  | .casNearFail => Sys2Proof.Machine.execCasNearFail s
  | .casNearPass => Sys2Proof.Machine.execCasNearPass s
  | .casNearSpec => Sys2Proof.Machine.execCasNearSpec s
  | .casFarSpec => Sys2Proof.Machine.execCasFarSpec s
  | .casSpec => Sys2Proof.Machine.execCasSpec s
  | .lseLdSpec => Sys2Proof.Machine.execLseLdSpec s
  | .lseStSpec => Sys2Proof.Machine.execLseStSpec s
  | .lseLdstSpec => Sys2Proof.Machine.execLseLdstSpec s
  | .remoteAccessWr => Sys2Proof.Machine.execRemoteAccessWr s
  | .brHintCondPredRetired => Sys2Proof.Machine.execBrHintCondPredRetired s
  | .brHintCondMisPredRetired => Sys2Proof.Machine.execBrHintCondMisPredRetired s
  | .uopRetired => Sys2Proof.Machine.execUopRetired s
  | .dtlbWalkBlock => Sys2Proof.Machine.execDtlbWalkBlock s
  | .itlbWalkBlock => Sys2Proof.Machine.execItlbWalkBlock s
  | .dtlbWalkPage => Sys2Proof.Machine.execDtlbWalkPage s
  | .itlbWalkPage => Sys2Proof.Machine.execItlbWalkPage s
  | .busReqRd => Sys2Proof.Machine.execBusReqRd s
  | .busReqWr => Sys2Proof.Machine.execBusReqWr s
  | .busReq => Sys2Proof.Machine.execBusReq s
  | .isnpHitRd => Sys2Proof.Machine.execIsnpHitRd s
  | .isnpHitNearRd => Sys2Proof.Machine.execIsnpHitNearRd s
  | .isnpHitFarRd => Sys2Proof.Machine.execIsnpHitFarRd s
  | .isnpHitRemoteRd => Sys2Proof.Machine.execIsnpHitRemoteRd s
  | .dsnpHitRd => Sys2Proof.Machine.execDsnpHitRd s
  | .dsnpHitNearRd => Sys2Proof.Machine.execDsnpHitNearRd s
  | .dsnpHitFarRd => Sys2Proof.Machine.execDsnpHitFarRd s
  | .dsnpHitRemoteRd => Sys2Proof.Machine.execDsnpHitRemoteRd s
  | .dsnpHitWr => Sys2Proof.Machine.execDsnpHitWr s
  | .dsnpHitNearWr => Sys2Proof.Machine.execDsnpHitNearWr s
  | .dsnpHitFarWr => Sys2Proof.Machine.execDsnpHitFarWr s
  | .dsnpHitRemoteWr => Sys2Proof.Machine.execDsnpHitRemoteWr s
  | .dsnpHitRw => Sys2Proof.Machine.execDsnpHitRw s
  | .dsnpHitNearRw => Sys2Proof.Machine.execDsnpHitNearRw s
  | .dsnpHitFarRw => Sys2Proof.Machine.execDsnpHitFarRw s
  | .dsnpHitRemoteRw => Sys2Proof.Machine.execDsnpHitRemoteRw s
  | .dsnpHitPrfm => Sys2Proof.Machine.execDsnpHitPrfm s
  | .dsnpHitNearPrfm => Sys2Proof.Machine.execDsnpHitNearPrfm s
  | .dsnpHitFarPrfm => Sys2Proof.Machine.execDsnpHitFarPrfm s
  | .dsnpHitRemotePrfm => Sys2Proof.Machine.execDsnpHitRemotePrfm s
  | .dsnpHitHwprf => Sys2Proof.Machine.execDsnpHitHwprf s
  | .dsnpHitNearHwprf => Sys2Proof.Machine.execDsnpHitNearHwprf s
  | .dsnpHitFarHwprf => Sys2Proof.Machine.execDsnpHitFarHwprf s
  | .dsnpHitRemoteHwprf => Sys2Proof.Machine.execDsnpHitRemoteHwprf s
  | .isnpHitPrfm => Sys2Proof.Machine.execIsnpHitPrfm s
  | .isnpHitNearPrfm => Sys2Proof.Machine.execIsnpHitNearPrfm s
  | .isnpHitFarPrfm => Sys2Proof.Machine.execIsnpHitFarPrfm s
  | .isnpHitRemotePrfm => Sys2Proof.Machine.execIsnpHitRemotePrfm s
  | .isnpHitHwprf => Sys2Proof.Machine.execIsnpHitHwprf s
  | .isnpHitNearHwprf => Sys2Proof.Machine.execIsnpHitNearHwprf s
  | .isnpHitFarHwprf => Sys2Proof.Machine.execIsnpHitFarHwprf s
  | .isnpHitRemoteHwprf => Sys2Proof.Machine.execIsnpHitRemoteHwprf s
  | .isnpHit => Sys2Proof.Machine.execIsnpHit s
  | .isnpHitNear => Sys2Proof.Machine.execIsnpHitNear s
  | .isnpHitFar => Sys2Proof.Machine.execIsnpHitFar s
  | .isnpHitRemote => Sys2Proof.Machine.execIsnpHitRemote s
  | .dsnpHit => Sys2Proof.Machine.execDsnpHit s
  | .dsnpHitNear => Sys2Proof.Machine.execDsnpHitNear s
  | .dsnpHitFar => Sys2Proof.Machine.execDsnpHitFar s
  | .dsnpHitRemote => Sys2Proof.Machine.execDsnpHitRemote s
  | .l1iCacheRefillHwprf => Sys2Proof.Machine.execL1iCacheRefillHwprf s
  | .l2iCacheRefillHwprf => Sys2Proof.Machine.execL2iCacheRefillHwprf s
  | .l1dCacheRefillHwprf => Sys2Proof.Machine.execL1dCacheRefillHwprf s
  | .l2dCacheRefillHwprf => Sys2Proof.Machine.execL2dCacheRefillHwprf s
  | .l3dCacheRefillHwprf => Sys2Proof.Machine.execL3dCacheRefillHwprf s
  | .llCacheRefillHwprf => Sys2Proof.Machine.execLlCacheRefillHwprf s
  | .l1iCacheHitRd => Sys2Proof.Machine.execL1iCacheHitRd s
  | .l2iCacheHitRd => Sys2Proof.Machine.execL2iCacheHitRd s
  | .l1dCacheHitRd => Sys2Proof.Machine.execL1dCacheHitRd s
  | .l2dCacheHitRd => Sys2Proof.Machine.execL2dCacheHitRd s
  | .l3dCacheHitRd => Sys2Proof.Machine.execL3dCacheHitRd s
  | .llCacheHitRd => Sys2Proof.Machine.execLlCacheHitRd s
  | .l1dCacheHitWr => Sys2Proof.Machine.execL1dCacheHitWr s
  | .l2dCacheHitWr => Sys2Proof.Machine.execL2dCacheHitWr s
  | .l3dCacheHitWr => Sys2Proof.Machine.execL3dCacheHitWr s
  | .llCacheHitWr => Sys2Proof.Machine.execLlCacheHitWr s
  | .l1dCacheHitRw => Sys2Proof.Machine.execL1dCacheHitRw s
  | .l2dCacheHitRw => Sys2Proof.Machine.execL2dCacheHitRw s
  | .l3dCacheHitRw => Sys2Proof.Machine.execL3dCacheHitRw s
  | .llCacheHitRw => Sys2Proof.Machine.execLlCacheHitRw s
  | .l1iCacheHitRdFprfm => Sys2Proof.Machine.execL1iCacheHitRdFprfm s
  | .l2iCacheHitRdFprfm => Sys2Proof.Machine.execL2iCacheHitRdFprfm s
  | .l1dCacheHitRdFprfm => Sys2Proof.Machine.execL1dCacheHitRdFprfm s
  | .l2dCacheHitRdFprfm => Sys2Proof.Machine.execL2dCacheHitRdFprfm s
  | .l3dCacheHitRdFprfm => Sys2Proof.Machine.execL3dCacheHitRdFprfm s
  | .llCacheHitRdFprfm => Sys2Proof.Machine.execLlCacheHitRdFprfm s
  | .l1dCacheHitWrFprfm => Sys2Proof.Machine.execL1dCacheHitWrFprfm s
  | .l2dCacheHitWrFprfm => Sys2Proof.Machine.execL2dCacheHitWrFprfm s
  | .l3dCacheHitWrFprfm => Sys2Proof.Machine.execL3dCacheHitWrFprfm s
  | .llCacheHitWrFprfm => Sys2Proof.Machine.execLlCacheHitWrFprfm s
  | .l1dCacheHitRwFprfm => Sys2Proof.Machine.execL1dCacheHitRwFprfm s
  | .l2dCacheHitRwFprfm => Sys2Proof.Machine.execL2dCacheHitRwFprfm s
  | .l3dCacheHitRwFprfm => Sys2Proof.Machine.execL3dCacheHitRwFprfm s
  | .llCacheHitRwFprfm => Sys2Proof.Machine.execLlCacheHitRwFprfm s
  | .l1iCacheHitRdFhwprf => Sys2Proof.Machine.execL1iCacheHitRdFhwprf s
  | .l2iCacheHitRdFhwprf => Sys2Proof.Machine.execL2iCacheHitRdFhwprf s
  | .l1dCacheHitRdFhwprf => Sys2Proof.Machine.execL1dCacheHitRdFhwprf s
  | .l2dCacheHitRdFhwprf => Sys2Proof.Machine.execL2dCacheHitRdFhwprf s
  | .l3dCacheHitRdFhwprf => Sys2Proof.Machine.execL3dCacheHitRdFhwprf s
  | .llCacheHitRdFhwprf => Sys2Proof.Machine.execLlCacheHitRdFhwprf s
  | .l1dCacheHitWrFhwprf => Sys2Proof.Machine.execL1dCacheHitWrFhwprf s
  | .l2dCacheHitWrFhwprf => Sys2Proof.Machine.execL2dCacheHitWrFhwprf s
  | .l3dCacheHitWrFhwprf => Sys2Proof.Machine.execL3dCacheHitWrFhwprf s
  | .llCacheHitWrFhwprf => Sys2Proof.Machine.execLlCacheHitWrFhwprf s
  | .l1dCacheHitRwFhwprf => Sys2Proof.Machine.execL1dCacheHitRwFhwprf s
  | .l2dCacheHitRwFhwprf => Sys2Proof.Machine.execL2dCacheHitRwFhwprf s
  | .l3dCacheHitRwFhwprf => Sys2Proof.Machine.execL3dCacheHitRwFhwprf s
  | .llCacheHitRwFhwprf => Sys2Proof.Machine.execLlCacheHitRwFhwprf s
  | .l1iCacheHitRdFprf => Sys2Proof.Machine.execL1iCacheHitRdFprf s
  | .l2iCacheHitRdFprf => Sys2Proof.Machine.execL2iCacheHitRdFprf s
  | .l1dCacheHitRdFprf => Sys2Proof.Machine.execL1dCacheHitRdFprf s
  | .l2dCacheHitRdFprf => Sys2Proof.Machine.execL2dCacheHitRdFprf s
  | .l3dCacheHitRdFprf => Sys2Proof.Machine.execL3dCacheHitRdFprf s
  | .llCacheHitRdFprf => Sys2Proof.Machine.execLlCacheHitRdFprf s
  | .l1dCacheHitWrFprf => Sys2Proof.Machine.execL1dCacheHitWrFprf s
  | .l2dCacheHitWrFprf => Sys2Proof.Machine.execL2dCacheHitWrFprf s
  | .l3dCacheHitWrFprf => Sys2Proof.Machine.execL3dCacheHitWrFprf s
  | .llCacheHitWrFprf => Sys2Proof.Machine.execLlCacheHitWrFprf s
  | .l1dCacheHitRwFprf => Sys2Proof.Machine.execL1dCacheHitRwFprf s
  | .l2dCacheHitRwFprf => Sys2Proof.Machine.execL2dCacheHitRwFprf s
  | .l3dCacheHitRwFprf => Sys2Proof.Machine.execL3dCacheHitRwFprf s
  | .llCacheHitRwFprf => Sys2Proof.Machine.execLlCacheHitRwFprf s
  | .l1iCacheHit => Sys2Proof.Machine.execL1iCacheHit s
  | .l2iCacheHit => Sys2Proof.Machine.execL2iCacheHit s
  | .l1dCacheHit => Sys2Proof.Machine.execL1dCacheHit s
  | .l2dCacheHit => Sys2Proof.Machine.execL2dCacheHit s
  | .l3dCacheHit => Sys2Proof.Machine.execL3dCacheHit s
  | .llCacheHit => Sys2Proof.Machine.execLlCacheHit s
  | .l1iCacheHitPrfm => Sys2Proof.Machine.execL1iCacheHitPrfm s
  | .l2iCacheHitPrfm => Sys2Proof.Machine.execL2iCacheHitPrfm s
  | .l1dCacheHitPrfm => Sys2Proof.Machine.execL1dCacheHitPrfm s
  | .l2dCacheHitPrfm => Sys2Proof.Machine.execL2dCacheHitPrfm s
  | .l3dCacheHitPrfm => Sys2Proof.Machine.execL3dCacheHitPrfm s
  | .llCacheHitPrfm => Sys2Proof.Machine.execLlCacheHitPrfm s
  | .l1dCacheHitmRd => Sys2Proof.Machine.execL1dCacheHitmRd s
  | .l2dCacheHitmRd => Sys2Proof.Machine.execL2dCacheHitmRd s
  | .l3dCacheHitmRd => Sys2Proof.Machine.execL3dCacheHitmRd s
  | .llCacheHitmRd => Sys2Proof.Machine.execLlCacheHitmRd s
  | .l1dCacheHitmWr => Sys2Proof.Machine.execL1dCacheHitmWr s
  | .l2dCacheHitmWr => Sys2Proof.Machine.execL2dCacheHitmWr s
  | .l3dCacheHitmWr => Sys2Proof.Machine.execL3dCacheHitmWr s
  | .llCacheHitmWr => Sys2Proof.Machine.execLlCacheHitmWr s
  | .l1dCacheHitmRw => Sys2Proof.Machine.execL1dCacheHitmRw s
  | .l2dCacheHitmRw => Sys2Proof.Machine.execL2dCacheHitmRw s
  | .l3dCacheHitmRw => Sys2Proof.Machine.execL3dCacheHitmRw s
  | .llCacheHitmRw => Sys2Proof.Machine.execLlCacheHitmRw s
  | .dsnpHitmRd => Sys2Proof.Machine.execDsnpHitmRd s
  | .dsnpHitmNearRd => Sys2Proof.Machine.execDsnpHitmNearRd s
  | .dsnpHitmFarRd => Sys2Proof.Machine.execDsnpHitmFarRd s
  | .dsnpHitmRemoteRd => Sys2Proof.Machine.execDsnpHitmRemoteRd s
  | .dsnpHitmWr => Sys2Proof.Machine.execDsnpHitmWr s
  | .dsnpHitmNearWr => Sys2Proof.Machine.execDsnpHitmNearWr s
  | .dsnpHitmFarWr => Sys2Proof.Machine.execDsnpHitmFarWr s
  | .dsnpHitmRemoteWr => Sys2Proof.Machine.execDsnpHitmRemoteWr s
  | .dsnpHitmRw => Sys2Proof.Machine.execDsnpHitmRw s
  | .dsnpHitmNearRw => Sys2Proof.Machine.execDsnpHitmNearRw s
  | .dsnpHitmFarRw => Sys2Proof.Machine.execDsnpHitmFarRw s
  | .dsnpHitmRemoteRw => Sys2Proof.Machine.execDsnpHitmRemoteRw s
  | .localMem => Sys2Proof.Machine.execLocalMem s
  | .localMemRd => Sys2Proof.Machine.execLocalMemRd s
  | .localMemWr => Sys2Proof.Machine.execLocalMemWr s
  | .localMemRw => Sys2Proof.Machine.execLocalMemRw s
  | .localMemPrfm => Sys2Proof.Machine.execLocalMemPrfm s
  | .localMemLdRetired => Sys2Proof.Machine.execLocalMemLdRetired s
  | .localMemStRetired => Sys2Proof.Machine.execLocalMemStRetired s
  | .localMemLdstRetired => Sys2Proof.Machine.execLocalMemLdstRetired s
  | .remoteMem => Sys2Proof.Machine.execRemoteMem s
  | .remoteMemRd => Sys2Proof.Machine.execRemoteMemRd s
  | .remoteMemWr => Sys2Proof.Machine.execRemoteMemWr s
  | .remoteMemRw => Sys2Proof.Machine.execRemoteMemRw s
  | .remoteMemPrfm => Sys2Proof.Machine.execRemoteMemPrfm s
  | .remoteMemLdRetired => Sys2Proof.Machine.execRemoteMemLdRetired s
  | .remoteMemStRetired => Sys2Proof.Machine.execRemoteMemStRetired s
  | .remoteMemLdstRetired => Sys2Proof.Machine.execRemoteMemLdstRetired s
  | .l1iLfbHitRd => Sys2Proof.Machine.execL1iLfbHitRd s
  | .l2iLfbHitRd => Sys2Proof.Machine.execL2iLfbHitRd s
  | .l1dLfbHitRd => Sys2Proof.Machine.execL1dLfbHitRd s
  | .l2dLfbHitRd => Sys2Proof.Machine.execL2dLfbHitRd s
  | .l3dLfbHitRd => Sys2Proof.Machine.execL3dLfbHitRd s
  | .llLfbHitRd => Sys2Proof.Machine.execLlLfbHitRd s
  | .l1dLfbHitWr => Sys2Proof.Machine.execL1dLfbHitWr s
  | .l2dLfbHitWr => Sys2Proof.Machine.execL2dLfbHitWr s
  | .l3dLfbHitWr => Sys2Proof.Machine.execL3dLfbHitWr s
  | .llLfbHitWr => Sys2Proof.Machine.execLlLfbHitWr s
  | .l1dLfbHitRw => Sys2Proof.Machine.execL1dLfbHitRw s
  | .l2dLfbHitRw => Sys2Proof.Machine.execL2dLfbHitRw s
  | .l3dLfbHitRw => Sys2Proof.Machine.execL3dLfbHitRw s
  | .llLfbHitRw => Sys2Proof.Machine.execLlLfbHitRw s
  | .l1iLfbHitRdFprfm => Sys2Proof.Machine.execL1iLfbHitRdFprfm s
  | .l2iLfbHitRdFprfm => Sys2Proof.Machine.execL2iLfbHitRdFprfm s
  | .l1dLfbHitRdFprfm => Sys2Proof.Machine.execL1dLfbHitRdFprfm s
  | .l2dLfbHitRdFprfm => Sys2Proof.Machine.execL2dLfbHitRdFprfm s
  | .l3dLfbHitRdFprfm => Sys2Proof.Machine.execL3dLfbHitRdFprfm s
  | .llLfbHitRdFprfm => Sys2Proof.Machine.execLlLfbHitRdFprfm s
  | .l1dLfbHitWrFprfm => Sys2Proof.Machine.execL1dLfbHitWrFprfm s
  | .l2dLfbHitWrFprfm => Sys2Proof.Machine.execL2dLfbHitWrFprfm s
  | .l3dLfbHitWrFprfm => Sys2Proof.Machine.execL3dLfbHitWrFprfm s
  | .llLfbHitWrFprfm => Sys2Proof.Machine.execLlLfbHitWrFprfm s
  | .l1dLfbHitRwFprfm => Sys2Proof.Machine.execL1dLfbHitRwFprfm s
  | .l2dLfbHitRwFprfm => Sys2Proof.Machine.execL2dLfbHitRwFprfm s
  | .l3dLfbHitRwFprfm => Sys2Proof.Machine.execL3dLfbHitRwFprfm s
  | .llLfbHitRwFprfm => Sys2Proof.Machine.execLlLfbHitRwFprfm s
  | .l1iLfbHitRdFhwprf => Sys2Proof.Machine.execL1iLfbHitRdFhwprf s
  | .l2iLfbHitRdFhwprf => Sys2Proof.Machine.execL2iLfbHitRdFhwprf s
  | .l1dLfbHitRdFhwprf => Sys2Proof.Machine.execL1dLfbHitRdFhwprf s
  | .l2dLfbHitRdFhwprf => Sys2Proof.Machine.execL2dLfbHitRdFhwprf s
  | .l3dLfbHitRdFhwprf => Sys2Proof.Machine.execL3dLfbHitRdFhwprf s
  | .llLfbHitRdFhwprf => Sys2Proof.Machine.execLlLfbHitRdFhwprf s
  | .l1dLfbHitWrFhwprf => Sys2Proof.Machine.execL1dLfbHitWrFhwprf s
  | .l2dLfbHitWrFhwprf => Sys2Proof.Machine.execL2dLfbHitWrFhwprf s
  | .l3dLfbHitWrFhwprf => Sys2Proof.Machine.execL3dLfbHitWrFhwprf s
  | .llLfbHitWrFhwprf => Sys2Proof.Machine.execLlLfbHitWrFhwprf s
  | .l1dLfbHitRwFhwprf => Sys2Proof.Machine.execL1dLfbHitRwFhwprf s
  | .l2dLfbHitRwFhwprf => Sys2Proof.Machine.execL2dLfbHitRwFhwprf s
  | .l3dLfbHitRwFhwprf => Sys2Proof.Machine.execL3dLfbHitRwFhwprf s
  | .llLfbHitRwFhwprf => Sys2Proof.Machine.execLlLfbHitRwFhwprf s
  | .l1iLfbHitRdFprf => Sys2Proof.Machine.execL1iLfbHitRdFprf s
  | .l2iLfbHitRdFprf => Sys2Proof.Machine.execL2iLfbHitRdFprf s
  | .l1dLfbHitRdFprf => Sys2Proof.Machine.execL1dLfbHitRdFprf s
  | .l2dLfbHitRdFprf => Sys2Proof.Machine.execL2dLfbHitRdFprf s
  | .l3dLfbHitRdFprf => Sys2Proof.Machine.execL3dLfbHitRdFprf s
  | .llLfbHitRdFprf => Sys2Proof.Machine.execLlLfbHitRdFprf s
  | .l1dLfbHitWrFprf => Sys2Proof.Machine.execL1dLfbHitWrFprf s
  | .l2dLfbHitWrFprf => Sys2Proof.Machine.execL2dLfbHitWrFprf s
  | .l3dLfbHitWrFprf => Sys2Proof.Machine.execL3dLfbHitWrFprf s
  | .llLfbHitWrFprf => Sys2Proof.Machine.execLlLfbHitWrFprf s
  | .l1dLfbHitRwFprf => Sys2Proof.Machine.execL1dLfbHitRwFprf s
  | .l2dLfbHitRwFprf => Sys2Proof.Machine.execL2dLfbHitRwFprf s
  | .l3dLfbHitRwFprf => Sys2Proof.Machine.execL3dLfbHitRwFprf s
  | .llLfbHitRwFprf => Sys2Proof.Machine.execLlLfbHitRwFprf s
  | .l1iCachePrf => Sys2Proof.Machine.execL1iCachePrf s
  | .l2iCachePrf => Sys2Proof.Machine.execL2iCachePrf s
  | .l1dCachePrf => Sys2Proof.Machine.execL1dCachePrf s
  | .l2dCachePrf => Sys2Proof.Machine.execL2dCachePrf s
  | .l3dCachePrf => Sys2Proof.Machine.execL3dCachePrf s
  | .llCachePrf => Sys2Proof.Machine.execLlCachePrf s
  | .l1iCacheRefillPrf => Sys2Proof.Machine.execL1iCacheRefillPrf s
  | .l2iCacheRefillPrf => Sys2Proof.Machine.execL2iCacheRefillPrf s
  | .l1dCacheRefillPrf => Sys2Proof.Machine.execL1dCacheRefillPrf s
  | .l2dCacheRefillPrf => Sys2Proof.Machine.execL2dCacheRefillPrf s
  | .l3dCacheRefillPrf => Sys2Proof.Machine.execL3dCacheRefillPrf s
  | .llCacheRefillPrf => Sys2Proof.Machine.execLlCacheRefillPrf s
  | .isnpHitPrf => Sys2Proof.Machine.execIsnpHitPrf s
  | .isnpHitNearPrf => Sys2Proof.Machine.execIsnpHitNearPrf s
  | .isnpHitFarPrf => Sys2Proof.Machine.execIsnpHitFarPrf s
  | .isnpHitRemotePrf => Sys2Proof.Machine.execIsnpHitRemotePrf s
  | .dsnpHitPrf => Sys2Proof.Machine.execDsnpHitPrf s
  | .dsnpHitNearPrf => Sys2Proof.Machine.execDsnpHitNearPrf s
  | .dsnpHitFarPrf => Sys2Proof.Machine.execDsnpHitFarPrf s
  | .dsnpHitRemotePrf => Sys2Proof.Machine.execDsnpHitRemotePrf s
  | .llCacheRw => Sys2Proof.Machine.execLlCacheRw s
  | .llCachePrfm => Sys2Proof.Machine.execLlCachePrfm s
  | .llCacheRefill => Sys2Proof.Machine.execLlCacheRefill s
  | .llCacheRefillPrfm => Sys2Proof.Machine.execLlCacheRefillPrfm s
  | .llCacheWb => Sys2Proof.Machine.execLlCacheWb s
  | .llCacheWr => Sys2Proof.Machine.execLlCacheWr s
  | .llCacheRefillWr => Sys2Proof.Machine.execLlCacheRefillWr s
  | .memAccessRw => Sys2Proof.Machine.execMemAccessRw s
  | .instFetchRd => Sys2Proof.Machine.execInstFetchRd s
  | .memAccessPrfm => Sys2Proof.Machine.execMemAccessPrfm s
  | .instFetchPrfm => Sys2Proof.Machine.execInstFetchPrfm s
  | .l1iCacheMissRetired => Sys2Proof.Machine.execL1iCacheMissRetired s
  | .l2iCacheMissRetired => Sys2Proof.Machine.execL2iCacheMissRetired s
  | .l1dCacheMissLdRetired => Sys2Proof.Machine.execL1dCacheMissLdRetired s
  | .l2dCacheMissLdRetired => Sys2Proof.Machine.execL2dCacheMissLdRetired s
  | .l3dCacheMissLdRetired => Sys2Proof.Machine.execL3dCacheMissLdRetired s
  | .llCacheMissLdRetired => Sys2Proof.Machine.execLlCacheMissLdRetired s
  | .l1dCacheMissStRetired => Sys2Proof.Machine.execL1dCacheMissStRetired s
  | .l2dCacheMissStRetired => Sys2Proof.Machine.execL2dCacheMissStRetired s
  | .l3dCacheMissStRetired => Sys2Proof.Machine.execL3dCacheMissStRetired s
  | .llCacheMissStRetired => Sys2Proof.Machine.execLlCacheMissStRetired s
  | .l1dCacheMissLdstRetired => Sys2Proof.Machine.execL1dCacheMissLdstRetired s
  | .l2dCacheMissLdstRetired => Sys2Proof.Machine.execL2dCacheMissLdstRetired s
  | .l3dCacheMissLdstRetired => Sys2Proof.Machine.execL3dCacheMissLdstRetired s
  | .llCacheMissLdstRetired => Sys2Proof.Machine.execLlCacheMissLdstRetired s
  | .l1dCacheHitmLdRetired => Sys2Proof.Machine.execL1dCacheHitmLdRetired s
  | .l2dCacheHitmLdRetired => Sys2Proof.Machine.execL2dCacheHitmLdRetired s
  | .l3dCacheHitmLdRetired => Sys2Proof.Machine.execL3dCacheHitmLdRetired s
  | .llCacheHitmLdRetired => Sys2Proof.Machine.execLlCacheHitmLdRetired s
  | .l1dCacheHitmStRetired => Sys2Proof.Machine.execL1dCacheHitmStRetired s
  | .l2dCacheHitmStRetired => Sys2Proof.Machine.execL2dCacheHitmStRetired s
  | .l3dCacheHitmStRetired => Sys2Proof.Machine.execL3dCacheHitmStRetired s
  | .llCacheHitmStRetired => Sys2Proof.Machine.execLlCacheHitmStRetired s
  | .l1dCacheHitmLdstRetired => Sys2Proof.Machine.execL1dCacheHitmLdstRetired s
  | .l2dCacheHitmLdstRetired => Sys2Proof.Machine.execL2dCacheHitmLdstRetired s
  | .l3dCacheHitmLdstRetired => Sys2Proof.Machine.execL3dCacheHitmLdstRetired s
  | .llCacheHitmLdstRetired => Sys2Proof.Machine.execLlCacheHitmLdstRetired s
  | .l1iLfbHitRetired => Sys2Proof.Machine.execL1iLfbHitRetired s
  | .l2iLfbHitRetired => Sys2Proof.Machine.execL2iLfbHitRetired s
  | .l1dLfbHitLdRetired => Sys2Proof.Machine.execL1dLfbHitLdRetired s
  | .l2dLfbHitLdRetired => Sys2Proof.Machine.execL2dLfbHitLdRetired s
  | .l3dLfbHitLdRetired => Sys2Proof.Machine.execL3dLfbHitLdRetired s
  | .llLfbHitLdRetired => Sys2Proof.Machine.execLlLfbHitLdRetired s
  | .l1dLfbHitStRetired => Sys2Proof.Machine.execL1dLfbHitStRetired s
  | .l2dLfbHitStRetired => Sys2Proof.Machine.execL2dLfbHitStRetired s
  | .l3dLfbHitStRetired => Sys2Proof.Machine.execL3dLfbHitStRetired s
  | .llLfbHitStRetired => Sys2Proof.Machine.execLlLfbHitStRetired s
  | .l1dLfbHitLdstRetired => Sys2Proof.Machine.execL1dLfbHitLdstRetired s
  | .l2dLfbHitLdstRetired => Sys2Proof.Machine.execL2dLfbHitLdstRetired s
  | .l3dLfbHitLdstRetired => Sys2Proof.Machine.execL3dLfbHitLdstRetired s
  | .llLfbHitLdstRetired => Sys2Proof.Machine.execLlLfbHitLdstRetired s
  | .l1iCacheHitRetired => Sys2Proof.Machine.execL1iCacheHitRetired s
  | .l2iCacheHitRetired => Sys2Proof.Machine.execL2iCacheHitRetired s
  | .l1dCacheHitLdRetired => Sys2Proof.Machine.execL1dCacheHitLdRetired s
  | .l2dCacheHitLdRetired => Sys2Proof.Machine.execL2dCacheHitLdRetired s
  | .l3dCacheHitLdRetired => Sys2Proof.Machine.execL3dCacheHitLdRetired s
  | .llCacheHitLdRetired => Sys2Proof.Machine.execLlCacheHitLdRetired s
  | .l1dCacheHitStRetired => Sys2Proof.Machine.execL1dCacheHitStRetired s
  | .l2dCacheHitStRetired => Sys2Proof.Machine.execL2dCacheHitStRetired s
  | .l3dCacheHitStRetired => Sys2Proof.Machine.execL3dCacheHitStRetired s
  | .llCacheHitStRetired => Sys2Proof.Machine.execLlCacheHitStRetired s
  | .l1dCacheHitLdstRetired => Sys2Proof.Machine.execL1dCacheHitLdstRetired s
  | .l2dCacheHitLdstRetired => Sys2Proof.Machine.execL2dCacheHitLdstRetired s
  | .l3dCacheHitLdstRetired => Sys2Proof.Machine.execL3dCacheHitLdstRetired s
  | .llCacheHitLdstRetired => Sys2Proof.Machine.execLlCacheHitLdstRetired s
  | .itlbHitRetired => Sys2Proof.Machine.execItlbHitRetired s
  | .dtlbHitLdRetired => Sys2Proof.Machine.execDtlbHitLdRetired s
  | .dtlbHitStRetired => Sys2Proof.Machine.execDtlbHitStRetired s
  | .dtlbHitLdstRetired => Sys2Proof.Machine.execDtlbHitLdstRetired s
  | .itlbWalkRetired => Sys2Proof.Machine.execItlbWalkRetired s
  | .dtlbWalkLdRetired => Sys2Proof.Machine.execDtlbWalkLdRetired s
  | .dtlbWalkStRetired => Sys2Proof.Machine.execDtlbWalkStRetired s
  | .dtlbWalkLdstRetired => Sys2Proof.Machine.execDtlbWalkLdstRetired s
  | .dtlbWalkPrf => Sys2Proof.Machine.execDtlbWalkPrf s
  | .itlbWalkPrf => Sys2Proof.Machine.execItlbWalkPrf s
  | .dtlbWalkHwprf => Sys2Proof.Machine.execDtlbWalkHwprf s
  | .itlbWalkHwprf => Sys2Proof.Machine.execItlbWalkHwprf s
  | .l1dTlbPrf => Sys2Proof.Machine.execL1dTlbPrf s
  | .l1iTlbPrf => Sys2Proof.Machine.execL1iTlbPrf s
  | .l1dTlbHwprf => Sys2Proof.Machine.execL1dTlbHwprf s
  | .l1iTlbHwprf => Sys2Proof.Machine.execL1iTlbHwprf s
  | .dsnpHitmLdRetired => Sys2Proof.Machine.execDsnpHitmLdRetired s
  | .dsnpHitmNearLdRetired => Sys2Proof.Machine.execDsnpHitmNearLdRetired s
  | .dsnpHitmFarLdRetired => Sys2Proof.Machine.execDsnpHitmFarLdRetired s
  | .dsnpHitmRemoteLdRetired => Sys2Proof.Machine.execDsnpHitmRemoteLdRetired s
  | .dsnpHitmStRetired => Sys2Proof.Machine.execDsnpHitmStRetired s
  | .dsnpHitmNearStRetired => Sys2Proof.Machine.execDsnpHitmNearStRetired s
  | .dsnpHitmFarStRetired => Sys2Proof.Machine.execDsnpHitmFarStRetired s
  | .dsnpHitmRemoteStRetired => Sys2Proof.Machine.execDsnpHitmRemoteStRetired s
  | .dsnpHitmLdstRetired => Sys2Proof.Machine.execDsnpHitmLdstRetired s
  | .dsnpHitmNearLdstRetired => Sys2Proof.Machine.execDsnpHitmNearLdstRetired s
  | .dsnpHitmFarLdstRetired => Sys2Proof.Machine.execDsnpHitmFarLdstRetired s
  | .dsnpHitmRemoteLdstRetired => Sys2Proof.Machine.execDsnpHitmRemoteLdstRetired s
  | .isnpHitRetired => Sys2Proof.Machine.execIsnpHitRetired s
  | .isnpHitNearRetired => Sys2Proof.Machine.execIsnpHitNearRetired s
  | .isnpHitFarRetired => Sys2Proof.Machine.execIsnpHitFarRetired s
  | .isnpHitRemoteRetired => Sys2Proof.Machine.execIsnpHitRemoteRetired s
  | .dsnpHitLdRetired => Sys2Proof.Machine.execDsnpHitLdRetired s
  | .dsnpHitNearLdRetired => Sys2Proof.Machine.execDsnpHitNearLdRetired s
  | .dsnpHitFarLdRetired => Sys2Proof.Machine.execDsnpHitFarLdRetired s
  | .dsnpHitRemoteLdRetired => Sys2Proof.Machine.execDsnpHitRemoteLdRetired s
  | .dsnpHitStRetired => Sys2Proof.Machine.execDsnpHitStRetired s
  | .dsnpHitNearStRetired => Sys2Proof.Machine.execDsnpHitNearStRetired s
  | .dsnpHitFarStRetired => Sys2Proof.Machine.execDsnpHitFarStRetired s
  | .dsnpHitRemoteStRetired => Sys2Proof.Machine.execDsnpHitRemoteStRetired s
  | .dsnpHitLdstRetired => Sys2Proof.Machine.execDsnpHitLdstRetired s
  | .dsnpHitNearLdstRetired => Sys2Proof.Machine.execDsnpHitNearLdstRetired s
  | .dsnpHitFarLdstRetired => Sys2Proof.Machine.execDsnpHitFarLdstRetired s
  | .dsnpHitRemoteLdstRetired => Sys2Proof.Machine.execDsnpHitRemoteLdstRetired s
  | .l1dCacheRefillPercyc => Sys2Proof.Machine.execL1dCacheRefillPercyc s
  | .l2dCacheRefillPercyc => Sys2Proof.Machine.execL2dCacheRefillPercyc s
  | .l3dCacheRefillPercyc => Sys2Proof.Machine.execL3dCacheRefillPercyc s
  | .l1iCacheRefillPercyc => Sys2Proof.Machine.execL1iCacheRefillPercyc s
  | .l2iCacheRefillPercyc => Sys2Proof.Machine.execL2iCacheRefillPercyc s
  | .remoteCacheHitRd => Sys2Proof.Machine.execRemoteCacheHitRd s
  | .remoteCacheHitmRd => Sys2Proof.Machine.execRemoteCacheHitmRd s
  | .remoteLfbHitRd => Sys2Proof.Machine.execRemoteLfbHitRd s
  | .remoteCacheHitPrfm => Sys2Proof.Machine.execRemoteCacheHitPrfm s
  | .stallBackendAtomicFp => Sys2Proof.Machine.execStallBackendAtomicFp s
  | .lseFpLdSpec => Sys2Proof.Machine.execLseFpLdSpec s
  | .lseFpStSpec => Sys2Proof.Machine.execLseFpStSpec s
  | .lseFpLdstSpec => Sys2Proof.Machine.execLseFpLdstSpec s
  | .l1gcsCache => Sys2Proof.Machine.execL1gcsCache s
  | .l1gcsCacheRw => Sys2Proof.Machine.execL1gcsCacheRw s
  | .l1gcsCacheHwprf => Sys2Proof.Machine.execL1gcsCacheHwprf s
  | .l1gcsCacheMiss => Sys2Proof.Machine.execL1gcsCacheMiss s
  | .l1gcsCacheMissRd => Sys2Proof.Machine.execL1gcsCacheMissRd s
  | .l1gcsCacheHitRw => Sys2Proof.Machine.execL1gcsCacheHitRw s
  | .l1gcsCacheHitRwFhwprf => Sys2Proof.Machine.execL1gcsCacheHitRwFhwprf s
  | .l1gcsCacheRefill => Sys2Proof.Machine.execL1gcsCacheRefill s
  | .l1gcsCacheRefillHwprf => Sys2Proof.Machine.execL1gcsCacheRefillHwprf s
  | .l1gcsCacheRefillPercyc => Sys2Proof.Machine.execL1gcsCacheRefillPercyc s
  | .l1gcsLfbHitRw => Sys2Proof.Machine.execL1gcsLfbHitRw s
  | .l1gcsLfbHitRwFhwprf => Sys2Proof.Machine.execL1gcsLfbHitRwFhwprf s
  | .l1gcsCacheInval => Sys2Proof.Machine.execL1gcsCacheInval s
  | .l1gcsTlb => Sys2Proof.Machine.execL1gcsTlb s
  | .l1gcsTlbRw => Sys2Proof.Machine.execL1gcsTlbRw s
  | .l1gcsTlbHwprf => Sys2Proof.Machine.execL1gcsTlbHwprf s
  | .gcstlbWalk => Sys2Proof.Machine.execGcstlbWalk s
  | .gcstlbWalkRw => Sys2Proof.Machine.execGcstlbWalkRw s
  | .gcstlbWalkPercyc => Sys2Proof.Machine.execGcstlbWalkPercyc s
  | .gcstlbWalkStep => Sys2Proof.Machine.execGcstlbWalkStep s
  | .sampleFeedFp => Sys2Proof.Machine.execSampleFeedFp s
  | .sampleFeedSimd => Sys2Proof.Machine.execSampleFeedSimd s
  | .stallBackendL1gcs => Sys2Proof.Machine.execStallBackendL1gcs s
  | .stallBackendGcstlb => Sys2Proof.Machine.execStallBackendGcstlb s
  | .smeFpSpec => Sys2Proof.Machine.execSmeFpSpec s
  | .seFpSpec => Sys2Proof.Machine.execSeFpSpec s
  | .sveCmpIgranuleSpec => Sys2Proof.Machine.execSveCmpIgranuleSpec s
  | .sveCmpXgranuleSpec => Sys2Proof.Machine.execSveCmpXgranuleSpec s
  | .sveBitpermSpec => Sys2Proof.Machine.execSveBitpermSpec s
  | .smeSpec => Sys2Proof.Machine.execSmeSpec s
  | .seSpec => Sys2Proof.Machine.execSeSpec s
  | .smeInstSpec => Sys2Proof.Machine.execSmeInstSpec s
  | .seInstSpec => Sys2Proof.Machine.execSeInstSpec s
  | .smeInt8Spec => Sys2Proof.Machine.execSmeInt8Spec s
  | .seInt8Spec => Sys2Proof.Machine.execSeInt8Spec s
  | .smeFpBf16Spec => Sys2Proof.Machine.execSmeFpBf16Spec s
  | .seFpBf16Spec => Sys2Proof.Machine.execSeFpBf16Spec s
  | .smeInt16Spec => Sys2Proof.Machine.execSmeInt16Spec s
  | .seInt16Spec => Sys2Proof.Machine.execSeInt16Spec s
  | .smeFpHpSpec => Sys2Proof.Machine.execSmeFpHpSpec s
  | .seFpHpSpec => Sys2Proof.Machine.execSeFpHpSpec s
  | .smeInt32Spec => Sys2Proof.Machine.execSmeInt32Spec s
  | .seInt32Spec => Sys2Proof.Machine.execSeInt32Spec s
  | .smeFpSpSpec => Sys2Proof.Machine.execSmeFpSpSpec s
  | .seFpSpSpec => Sys2Proof.Machine.execSeFpSpSpec s
  | .smeInt64Spec => Sys2Proof.Machine.execSmeInt64Spec s
  | .seInt64Spec => Sys2Proof.Machine.execSeInt64Spec s
  | .smeFpDpSpec => Sys2Proof.Machine.execSmeFpDpSpec s
  | .seFpDpSpec => Sys2Proof.Machine.execSeFpDpSpec s
  | .smeFpAddsubSpec => Sys2Proof.Machine.execSmeFpAddsubSpec s
  | .seFpAddsubSpec => Sys2Proof.Machine.execSeFpAddsubSpec s
  | .smeFpFmaSpec => Sys2Proof.Machine.execSmeFpFmaSpec s
  | .seFpFmaSpec => Sys2Proof.Machine.execSeFpFmaSpec s
  | .smeFpDotSpec => Sys2Proof.Machine.execSmeFpDotSpec s
  | .seFpDotSpec => Sys2Proof.Machine.execSeFpDotSpec s
  | .smeFpMopaSpec => Sys2Proof.Machine.execSmeFpMopaSpec s
  | .smeIntSpec => Sys2Proof.Machine.execSmeIntSpec s
  | .seIntSpec => Sys2Proof.Machine.execSeIntSpec s
  | .smeIntMulSpec => Sys2Proof.Machine.execSmeIntMulSpec s
  | .seIntMulSpec => Sys2Proof.Machine.execSeIntMulSpec s
  | .smeIntDotSpec => Sys2Proof.Machine.execSmeIntDotSpec s
  | .seIntDotSpec => Sys2Proof.Machine.execSeIntDotSpec s
  | .smeIntMopaSpec => Sys2Proof.Machine.execSmeIntMopaSpec s
  | .zaActive => Sys2Proof.Machine.execZaActive s
  | .smePred2NotFullSpec => Sys2Proof.Machine.execSmePred2NotFullSpec s
  | .smePred2Spec => Sys2Proof.Machine.execSmePred2Spec s
  | .smePred2EmptySpec => Sys2Proof.Machine.execSmePred2EmptySpec s
  | .smePred2FullSpec => Sys2Proof.Machine.execSmePred2FullSpec s
  | .smePred2PartialSpec => Sys2Proof.Machine.execSmePred2PartialSpec s
  | .smeLdstZaregSpec => Sys2Proof.Machine.execSmeLdstZaregSpec s
  | .smeLdZaregSpec => Sys2Proof.Machine.execSmeLdZaregSpec s
  | .smeStZaregSpec => Sys2Proof.Machine.execSmeStZaregSpec s
  | .smeLdstZtregSpec => Sys2Proof.Machine.execSmeLdstZtregSpec s
  | .smeLdZtregSpec => Sys2Proof.Machine.execSmeLdZtregSpec s
  | .smeStZtregSpec => Sys2Proof.Machine.execSmeStZtregSpec s
  | .smeLdstRegSpec => Sys2Proof.Machine.execSmeLdstRegSpec s
  | .smeLdRegSpec => Sys2Proof.Machine.execSmeLdRegSpec s
  | .smeStRegSpec => Sys2Proof.Machine.execSmeStRegSpec s
  | .smeLdstTileSpec => Sys2Proof.Machine.execSmeLdstTileSpec s
  | .smeLdTileSpec => Sys2Proof.Machine.execSmeLdTileSpec s
  | .smeStTileSpec => Sys2Proof.Machine.execSmeStTileSpec s
  | .aseLutSpec => Sys2Proof.Machine.execAseLutSpec s
  | .sveLutSpec => Sys2Proof.Machine.execSveLutSpec s
  | .smeLutSpec => Sys2Proof.Machine.execSmeLutSpec s
  | .seLutSpec => Sys2Proof.Machine.execSeLutSpec s
  | .n1CacheHitRd => Sys2Proof.Machine.execN1CacheHitRd s
  | .n2CacheHitRd => Sys2Proof.Machine.execN2CacheHitRd s
  | .n3CacheHitRd => Sys2Proof.Machine.execN3CacheHitRd s
  | .n4CacheHitRd => Sys2Proof.Machine.execN4CacheHitRd s
  | .n1CacheHitPrfm => Sys2Proof.Machine.execN1CacheHitPrfm s
  | .n2CacheHitPrfm => Sys2Proof.Machine.execN2CacheHitPrfm s
  | .n3CacheHitPrfm => Sys2Proof.Machine.execN3CacheHitPrfm s
  | .n4CacheHitPrfm => Sys2Proof.Machine.execN4CacheHitPrfm s
  | .n1Cache1HitRd => Sys2Proof.Machine.execN1Cache1HitRd s
  | .n2Cache1HitRd => Sys2Proof.Machine.execN2Cache1HitRd s
  | .n3Cache1HitRd => Sys2Proof.Machine.execN3Cache1HitRd s
  | .n4Cache1HitRd => Sys2Proof.Machine.execN4Cache1HitRd s
  | .n1Cache1HitPrfm => Sys2Proof.Machine.execN1Cache1HitPrfm s
  | .n2Cache1HitPrfm => Sys2Proof.Machine.execN2Cache1HitPrfm s
  | .n3Cache1HitPrfm => Sys2Proof.Machine.execN3Cache1HitPrfm s
  | .n4Cache1HitPrfm => Sys2Proof.Machine.execN4Cache1HitPrfm s
  | .n1Cache2HitRd => Sys2Proof.Machine.execN1Cache2HitRd s
  | .n2Cache2HitRd => Sys2Proof.Machine.execN2Cache2HitRd s
  | .n3Cache2HitRd => Sys2Proof.Machine.execN3Cache2HitRd s
  | .n4Cache2HitRd => Sys2Proof.Machine.execN4Cache2HitRd s
  | .n1Cache2HitPrfm => Sys2Proof.Machine.execN1Cache2HitPrfm s
  | .n2Cache2HitPrfm => Sys2Proof.Machine.execN2Cache2HitPrfm s
  | .n3Cache2HitPrfm => Sys2Proof.Machine.execN3Cache2HitPrfm s
  | .n4Cache2HitPrfm => Sys2Proof.Machine.execN4Cache2HitPrfm s
  | .n1Cache3HitRd => Sys2Proof.Machine.execN1Cache3HitRd s
  | .n2Cache3HitRd => Sys2Proof.Machine.execN2Cache3HitRd s
  | .n3Cache3HitRd => Sys2Proof.Machine.execN3Cache3HitRd s
  | .n4Cache3HitRd => Sys2Proof.Machine.execN4Cache3HitRd s
  | .n1Cache3HitPrfm => Sys2Proof.Machine.execN1Cache3HitPrfm s
  | .n2Cache3HitPrfm => Sys2Proof.Machine.execN2Cache3HitPrfm s
  | .n3Cache3HitPrfm => Sys2Proof.Machine.execN3Cache3HitPrfm s
  | .n4Cache3HitPrfm => Sys2Proof.Machine.execN4Cache3HitPrfm s
  | .n1CacheHitmRd => Sys2Proof.Machine.execN1CacheHitmRd s
  | .n2CacheHitmRd => Sys2Proof.Machine.execN2CacheHitmRd s
  | .n3CacheHitmRd => Sys2Proof.Machine.execN3CacheHitmRd s
  | .n4CacheHitmRd => Sys2Proof.Machine.execN4CacheHitmRd s
  | .n1LfbHitRd => Sys2Proof.Machine.execN1LfbHitRd s
  | .n2LfbHitRd => Sys2Proof.Machine.execN2LfbHitRd s
  | .n3LfbHitRd => Sys2Proof.Machine.execN3LfbHitRd s
  | .n4LfbHitRd => Sys2Proof.Machine.execN4LfbHitRd s
  | .n1Cache1HitmRd => Sys2Proof.Machine.execN1Cache1HitmRd s
  | .n2Cache1HitmRd => Sys2Proof.Machine.execN2Cache1HitmRd s
  | .n3Cache1HitmRd => Sys2Proof.Machine.execN3Cache1HitmRd s
  | .n4Cache1HitmRd => Sys2Proof.Machine.execN4Cache1HitmRd s
  | .n1Lfb1HitRd => Sys2Proof.Machine.execN1Lfb1HitRd s
  | .n2Lfb1HitRd => Sys2Proof.Machine.execN2Lfb1HitRd s
  | .n3Lfb1HitRd => Sys2Proof.Machine.execN3Lfb1HitRd s
  | .n4Lfb1HitRd => Sys2Proof.Machine.execN4Lfb1HitRd s
  | .n1Cache2HitmRd => Sys2Proof.Machine.execN1Cache2HitmRd s
  | .n2Cache2HitmRd => Sys2Proof.Machine.execN2Cache2HitmRd s
  | .n3Cache2HitmRd => Sys2Proof.Machine.execN3Cache2HitmRd s
  | .n4Cache2HitmRd => Sys2Proof.Machine.execN4Cache2HitmRd s
  | .n1Lfb2HitRd => Sys2Proof.Machine.execN1Lfb2HitRd s
  | .n2Lfb2HitRd => Sys2Proof.Machine.execN2Lfb2HitRd s
  | .n3Lfb2HitRd => Sys2Proof.Machine.execN3Lfb2HitRd s
  | .n4Lfb2HitRd => Sys2Proof.Machine.execN4Lfb2HitRd s
  | .n1Cache3HitmRd => Sys2Proof.Machine.execN1Cache3HitmRd s
  | .n2Cache3HitmRd => Sys2Proof.Machine.execN2Cache3HitmRd s
  | .n3Cache3HitmRd => Sys2Proof.Machine.execN3Cache3HitmRd s
  | .n4Cache3HitmRd => Sys2Proof.Machine.execN4Cache3HitmRd s
  | .n1Lfb3HitRd => Sys2Proof.Machine.execN1Lfb3HitRd s
  | .n2Lfb3HitRd => Sys2Proof.Machine.execN2Lfb3HitRd s
  | .n3Lfb3HitRd => Sys2Proof.Machine.execN3Lfb3HitRd s
  | .n4Lfb3HitRd => Sys2Proof.Machine.execN4Lfb3HitRd s
  | .n1MemRd => Sys2Proof.Machine.execN1MemRd s
  | .n2MemRd => Sys2Proof.Machine.execN2MemRd s
  | .n3MemRd => Sys2Proof.Machine.execN3MemRd s
  | .n4MemRd => Sys2Proof.Machine.execN4MemRd s
  | .n1MemPrfm => Sys2Proof.Machine.execN1MemPrfm s
  | .n2MemPrfm => Sys2Proof.Machine.execN2MemPrfm s
  | .n3MemPrfm => Sys2Proof.Machine.execN3MemPrfm s
  | .n4MemPrfm => Sys2Proof.Machine.execN4MemPrfm s
  | .n1Mem1Rd => Sys2Proof.Machine.execN1Mem1Rd s
  | .n2Mem1Rd => Sys2Proof.Machine.execN2Mem1Rd s
  | .n3Mem1Rd => Sys2Proof.Machine.execN3Mem1Rd s
  | .n4Mem1Rd => Sys2Proof.Machine.execN4Mem1Rd s
  | .n1Mem1Prfm => Sys2Proof.Machine.execN1Mem1Prfm s
  | .n2Mem1Prfm => Sys2Proof.Machine.execN2Mem1Prfm s
  | .n3Mem1Prfm => Sys2Proof.Machine.execN3Mem1Prfm s
  | .n4Mem1Prfm => Sys2Proof.Machine.execN4Mem1Prfm s
  | .n1Mem2Rd => Sys2Proof.Machine.execN1Mem2Rd s
  | .n2Mem2Rd => Sys2Proof.Machine.execN2Mem2Rd s
  | .n3Mem2Rd => Sys2Proof.Machine.execN3Mem2Rd s
  | .n4Mem2Rd => Sys2Proof.Machine.execN4Mem2Rd s
  | .n1Mem2Prfm => Sys2Proof.Machine.execN1Mem2Prfm s
  | .n2Mem2Prfm => Sys2Proof.Machine.execN2Mem2Prfm s
  | .n3Mem2Prfm => Sys2Proof.Machine.execN3Mem2Prfm s
  | .n4Mem2Prfm => Sys2Proof.Machine.execN4Mem2Prfm s
  | .n1Mem3Rd => Sys2Proof.Machine.execN1Mem3Rd s
  | .n2Mem3Rd => Sys2Proof.Machine.execN2Mem3Rd s
  | .n3Mem3Rd => Sys2Proof.Machine.execN3Mem3Rd s
  | .n4Mem3Rd => Sys2Proof.Machine.execN4Mem3Rd s
  | .n1Mem3Prfm => Sys2Proof.Machine.execN1Mem3Prfm s
  | .n2Mem3Prfm => Sys2Proof.Machine.execN2Mem3Prfm s
  | .n3Mem3Prfm => Sys2Proof.Machine.execN3Mem3Prfm s
  | .n4Mem3Prfm => Sys2Proof.Machine.execN4Mem3Prfm s
  | .isnpHitN1Rd => Sys2Proof.Machine.execIsnpHitN1Rd s
  | .isnpHitN2Rd => Sys2Proof.Machine.execIsnpHitN2Rd s
  | .isnpHitN3Rd => Sys2Proof.Machine.execIsnpHitN3Rd s
  | .isnpHitN4Rd => Sys2Proof.Machine.execIsnpHitN4Rd s
  | .dsnpHitN1Rd => Sys2Proof.Machine.execDsnpHitN1Rd s
  | .dsnpHitN2Rd => Sys2Proof.Machine.execDsnpHitN2Rd s
  | .dsnpHitN3Rd => Sys2Proof.Machine.execDsnpHitN3Rd s
  | .dsnpHitN4Rd => Sys2Proof.Machine.execDsnpHitN4Rd s
  | .dsnpHitN1Wr => Sys2Proof.Machine.execDsnpHitN1Wr s
  | .dsnpHitN2Wr => Sys2Proof.Machine.execDsnpHitN2Wr s
  | .dsnpHitN3Wr => Sys2Proof.Machine.execDsnpHitN3Wr s
  | .dsnpHitN4Wr => Sys2Proof.Machine.execDsnpHitN4Wr s
  | .dsnpHitN1Rw => Sys2Proof.Machine.execDsnpHitN1Rw s
  | .dsnpHitN2Rw => Sys2Proof.Machine.execDsnpHitN2Rw s
  | .dsnpHitN3Rw => Sys2Proof.Machine.execDsnpHitN3Rw s
  | .dsnpHitN4Rw => Sys2Proof.Machine.execDsnpHitN4Rw s
  | .dsnpHitN1Prfm => Sys2Proof.Machine.execDsnpHitN1Prfm s
  | .dsnpHitN2Prfm => Sys2Proof.Machine.execDsnpHitN2Prfm s
  | .dsnpHitN3Prfm => Sys2Proof.Machine.execDsnpHitN3Prfm s
  | .dsnpHitN4Prfm => Sys2Proof.Machine.execDsnpHitN4Prfm s
  | .dsnpHitN1Hwprf => Sys2Proof.Machine.execDsnpHitN1Hwprf s
  | .dsnpHitN2Hwprf => Sys2Proof.Machine.execDsnpHitN2Hwprf s
  | .dsnpHitN3Hwprf => Sys2Proof.Machine.execDsnpHitN3Hwprf s
  | .dsnpHitN4Hwprf => Sys2Proof.Machine.execDsnpHitN4Hwprf s
  | .isnpHitN1Prfm => Sys2Proof.Machine.execIsnpHitN1Prfm s
  | .isnpHitN2Prfm => Sys2Proof.Machine.execIsnpHitN2Prfm s
  | .isnpHitN3Prfm => Sys2Proof.Machine.execIsnpHitN3Prfm s
  | .isnpHitN4Prfm => Sys2Proof.Machine.execIsnpHitN4Prfm s
  | .isnpHitN1Hwprf => Sys2Proof.Machine.execIsnpHitN1Hwprf s
  | .isnpHitN2Hwprf => Sys2Proof.Machine.execIsnpHitN2Hwprf s
  | .isnpHitN3Hwprf => Sys2Proof.Machine.execIsnpHitN3Hwprf s
  | .isnpHitN4Hwprf => Sys2Proof.Machine.execIsnpHitN4Hwprf s
  | .dsnpHitN1Prf => Sys2Proof.Machine.execDsnpHitN1Prf s
  | .dsnpHitN2Prf => Sys2Proof.Machine.execDsnpHitN2Prf s
  | .dsnpHitN3Prf => Sys2Proof.Machine.execDsnpHitN3Prf s
  | .dsnpHitN4Prf => Sys2Proof.Machine.execDsnpHitN4Prf s
  | .isnpHitN1Prf => Sys2Proof.Machine.execIsnpHitN1Prf s
  | .isnpHitN2Prf => Sys2Proof.Machine.execIsnpHitN2Prf s
  | .isnpHitN3Prf => Sys2Proof.Machine.execIsnpHitN3Prf s
  | .isnpHitN4Prf => Sys2Proof.Machine.execIsnpHitN4Prf s
  | .isnpHitN1 => Sys2Proof.Machine.execIsnpHitN1 s
  | .isnpHitN2 => Sys2Proof.Machine.execIsnpHitN2 s
  | .isnpHitN3 => Sys2Proof.Machine.execIsnpHitN3 s
  | .isnpHitN4 => Sys2Proof.Machine.execIsnpHitN4 s
  | .dsnpHitN1 => Sys2Proof.Machine.execDsnpHitN1 s
  | .dsnpHitN2 => Sys2Proof.Machine.execDsnpHitN2 s
  | .dsnpHitN3 => Sys2Proof.Machine.execDsnpHitN3 s
  | .dsnpHitN4 => Sys2Proof.Machine.execDsnpHitN4 s
  | .aseFpVreduceSpec => Sys2Proof.Machine.execAseFpVreduceSpec s
  | .sveFpPreduceSpec => Sys2Proof.Machine.execSveFpPreduceSpec s
  | .dsnpHitmN1Rd => Sys2Proof.Machine.execDsnpHitmN1Rd s
  | .dsnpHitmN2Rd => Sys2Proof.Machine.execDsnpHitmN2Rd s
  | .dsnpHitmN3Rd => Sys2Proof.Machine.execDsnpHitmN3Rd s
  | .dsnpHitmN4Rd => Sys2Proof.Machine.execDsnpHitmN4Rd s
  | .dsnpHitmN1Wr => Sys2Proof.Machine.execDsnpHitmN1Wr s
  | .dsnpHitmN2Wr => Sys2Proof.Machine.execDsnpHitmN2Wr s
  | .dsnpHitmN3Wr => Sys2Proof.Machine.execDsnpHitmN3Wr s
  | .dsnpHitmN4Wr => Sys2Proof.Machine.execDsnpHitmN4Wr s
  | .dsnpHitmN1Rw => Sys2Proof.Machine.execDsnpHitmN1Rw s
  | .dsnpHitmN2Rw => Sys2Proof.Machine.execDsnpHitmN2Rw s
  | .dsnpHitmN3Rw => Sys2Proof.Machine.execDsnpHitmN3Rw s
  | .dsnpHitmN4Rw => Sys2Proof.Machine.execDsnpHitmN4Rw s
  | .aseFpSpMinSpec => Sys2Proof.Machine.execAseFpSpMinSpec s
  | .aseFpHpMinSpec => Sys2Proof.Machine.execAseFpHpMinSpec s
  | .aseFpBf16MinSpec => Sys2Proof.Machine.execAseFpBf16MinSpec s
  | .aseFpFp8MinSpec => Sys2Proof.Machine.execAseFpFp8MinSpec s
  | .aseSveFpSpMinSpec => Sys2Proof.Machine.execAseSveFpSpMinSpec s
  | .aseSveFpHpMinSpec => Sys2Proof.Machine.execAseSveFpHpMinSpec s
  | .aseSveFpBf16MinSpec => Sys2Proof.Machine.execAseSveFpBf16MinSpec s
  | .aseSveFpFp8MinSpec => Sys2Proof.Machine.execAseSveFpFp8MinSpec s
  | .seFpSpMinSpec => Sys2Proof.Machine.execSeFpSpMinSpec s
  | .seFpHpMinSpec => Sys2Proof.Machine.execSeFpHpMinSpec s
  | .seFpBf16MinSpec => Sys2Proof.Machine.execSeFpBf16MinSpec s
  | .seFpFp8MinSpec => Sys2Proof.Machine.execSeFpFp8MinSpec s
  | .smeFpSpMinSpec => Sys2Proof.Machine.execSmeFpSpMinSpec s
  | .smeFpHpMinSpec => Sys2Proof.Machine.execSmeFpHpMinSpec s
  | .smeFpBf16MinSpec => Sys2Proof.Machine.execSmeFpBf16MinSpec s
  | .smeFpFp8MinSpec => Sys2Proof.Machine.execSmeFpFp8MinSpec s
  | .sveFpSpMinSpec => Sys2Proof.Machine.execSveFpSpMinSpec s
  | .sveFpHpMinSpec => Sys2Proof.Machine.execSveFpHpMinSpec s
  | .sveFpBf16MinSpec => Sys2Proof.Machine.execSveFpBf16MinSpec s
  | .sveFpFp8MinSpec => Sys2Proof.Machine.execSveFpFp8MinSpec s
  | .fpBf16FixedOpsSpec => Sys2Proof.Machine.execFpBf16FixedOpsSpec s
  | .fpSpMinSpec => Sys2Proof.Machine.execFpSpMinSpec s
  | .fpHpMinSpec => Sys2Proof.Machine.execFpHpMinSpec s
  | .fpBf16MinSpec => Sys2Proof.Machine.execFpBf16MinSpec s
  | .fpFp8MinSpec => Sys2Proof.Machine.execFpFp8MinSpec s
  | .fpSpFixedMinOpsSpec => Sys2Proof.Machine.execFpSpFixedMinOpsSpec s
  | .fpHpFixedMinOpsSpec => Sys2Proof.Machine.execFpHpFixedMinOpsSpec s
  | .fpBf16FixedMinOpsSpec => Sys2Proof.Machine.execFpBf16FixedMinOpsSpec s
  | .fpFp8FixedMinOpsSpec => Sys2Proof.Machine.execFpFp8FixedMinOpsSpec s
  | .fpSpScaleMinOpsSpec => Sys2Proof.Machine.execFpSpScaleMinOpsSpec s
  | .fpHpScaleMinOpsSpec => Sys2Proof.Machine.execFpHpScaleMinOpsSpec s
  | .fpBf16ScaleMinOpsSpec => Sys2Proof.Machine.execFpBf16ScaleMinOpsSpec s
  | .fpFp8ScaleMinOpsSpec => Sys2Proof.Machine.execFpFp8ScaleMinOpsSpec s
  | .fpSpScale2MinOpsSpec => Sys2Proof.Machine.execFpSpScale2MinOpsSpec s
  | .fpHpScale2MinOpsSpec => Sys2Proof.Machine.execFpHpScale2MinOpsSpec s
  | .fpBf16Scale2MinOpsSpec => Sys2Proof.Machine.execFpBf16Scale2MinOpsSpec s
  | .fpFp8Scale2MinOpsSpec => Sys2Proof.Machine.execFpFp8Scale2MinOpsSpec s

end Sys2Proof.Machine
end

