-- ==== Sys2Proof/Machine/Discovery.lean ====
section
/-!
DEFINITION. The identification words PMCEID0 and PMCEID1 (30_encoding.md R95 to R97, R102): constants of the implementation.
-/

namespace Sys2Proof.Machine

/-- The event number that bit i of PMCEID<r>_EL0 identifies (30_encoding.md R95). -/
def pmceidNumber (r i : Nat) : Nat := (if i < 32 then i else 0x4000 + (i - 32)) + 0x20 * r

end Sys2Proof.Machine

namespace Sys2Proof

/-- Whether the identification bit of an event reads as 1 (R95, R96, R102). For TRB_TRIG its own entry decides, also where the system
generates it and R96 lets the bit be 1; for any other event that the system generates, `raoBits` does where it is not implemented.
Log 52. -/
def Impl.identified (impl : Impl) (e : Instr) : Bool :=
  match e with
  | .pmuOvfs => false
  | .pmuHovfs => false
  | .trbTrig => impl.uses .trbTrig && impl.trbTrigCountable
  | e => impl.uses e || (impl.systemGenerated.contains e && impl.raoBits.contains e)

/-- Bit i of PMCEID<r>_EL0; a bit with no event reads as 0 (decision D13). -/
def Impl.pmceidBit (impl : Impl) (r i : Nat) : Bool :=
  match decodeWord (BitVec.ofNat 16 (Machine.pmceidNumber r i)) with
  | some e => Impl.identified impl e
  | none => false

end Sys2Proof

namespace Sys2Proof.Machine

/-- The number whose bit i is `f i`, for the first n bits. -/
def numberOfBits (f : Nat → Bool) : Nat → Nat
  | 0 => 0
  | n + 1 => numberOfBits f n + (if f n then 2 ^ n else 0)

end Sys2Proof.Machine

namespace Sys2Proof

/-- PMCEID<r>_EL0 (10_state.md R36). -/
def Impl.pmceid (impl : Impl) (r : Nat) : CountWord := BitVec.ofNat 64 (Machine.numberOfBits (Impl.pmceidBit impl r) 64)

/-- The AArch32 word PMCEID<r>: r 0 and 1 are the low halves of the AArch64 registers, r 2 and 3 the high halves (R97, gap G3). -/
def Impl.pmceid32 (impl : Impl) (r : Nat) : CountWord :=
  BitVec.ofNat 64 ((Impl.pmceid impl (r % 2)).toNat / 2 ^ (32 * (r / 2)) % 2 ^ 32)

end Sys2Proof
end

