-- ==== Sys2Proof/Machine/HostSteps.lean ====
section
/-!
DEFINITION. The steps of the host and of the environment (70_reset_and_hazards.md R1552), admitted one at a time when the agenda is
empty.
-/

namespace Sys2Proof.Machine

/-- A host step on PE p: refused where there is no such PE. -/
def onPe (s : State) (p : Nat) (f : Pe → Host.Outcome State Fault Refusal) : Host.Outcome State Fault Refusal :=
  match s.pes[p]? with
  | some q => f q
  | none => .refused .noSuchPe

/-- A host step on counter n of PE p: refused for n ≥ NUM_COUNTERS (R1552). -/
def onCounter (s : State) (p n : Nat) (f : Counter → Host.Outcome State Fault Refusal) :
    Host.Outcome State Fault Refusal :=
  onPe s p (fun q =>
    match q.counters[n]? with
    | some c => f c
    | none => .refused .noSuchCounter)

/-- A field is absent: HPMN, HLP without EL2; EPMN without FEAT_PMUv3_EXTPMN (R1552 (g)). -/
def fieldPresent (impl : Impl) : ControlName → Bool
  | .lp => true
  | .lc => true
  | .hpmn => impl.haveEl2
  | .hlp => impl.haveEl2
  | .epmn => impl.has .pmuv3Extpmn

/-- The name of a field. -/
def ControlField.name : ControlField → ControlName
  | .lp _ => .lp
  | .lc _ => .lc
  | .hpmn _ => .hpmn
  | .hlp _ => .hlp
  | .epmn _ => .epmn

/-- The field takes the value written. -/
def writeField (q : Pe) : ControlField → Pe
  | .lp v => { q with lp := { q.lp with written := v } }
  | .lc v => { q with lc := { q.lc with written := v } }
  | .hpmn v => { q with hpmn := { q.hpmn with written := v } }
  | .hlp v => { q with hlp := { q.hlp with written := v } }
  | .epmn v => { q with epmn := { q.epmn with written := v } }

/-- The field behaves as if it had the value (00_scope.md R10, "Effective value"). -/
def forceField (q : Pe) : ControlField → Pe
  | .lp v => { q with lp := { q.lp with forced := some v } }
  | .lc v => { q with lc := { q.lc with forced := some v } }
  | .hpmn v => { q with hpmn := { q.hpmn with forced := some v } }
  | .hlp v => { q with hlp := { q.hlp with forced := some v } }
  | .epmn v => { q with epmn := { q.epmn with forced := some v } }

/-- The field behaves as it is written. -/
def releaseField (q : Pe) : ControlName → Pe
  | .lp => { q with lp := { q.lp with forced := none } }
  | .lc => { q with lc := { q.lc with forced := none } }
  | .hpmn => { q with hpmn := { q.hpmn with forced := none } }
  | .hlp => { q with hlp := { q.hlp with forced := none } }
  | .epmn => { q with epmn := { q.epmn with forced := none } }

/-- A bit of PMINTENSET_EL1 takes a value (10_state.md R32). The register has 32 bits here, and a write of a bit n ≥ 32 changes nothing
and is not refused. Log 53. -/
def setInten (w : BitVec 32) (n : Nat) (v : Bool) : BitVec 32 :=
  if v then w ||| (1#32 <<< n) else w &&& ~~~(1#32 <<< n)

/-- (d) write_PMEVTYPER: the low EVTCOUNT_WIDTH bits of the number, MT and the filter (R1552, decision D8). -/
def writeEventType (impl : Impl) (e : Nat) (mt : Bool) (f : Filter) (c : Counter) : Counter :=
  { c with evtCount := BitVec.ofNat 16 (e % 2 ^ impl.evtCountWidth), mt := { c.mt with written := mt }, filter := f }

/-- (e) write_PMEVCNTR: the count takes x mod 2^W (R1552). -/
def writeCount (impl : Impl) (x : Nat) (c : Counter) : Counter :=
  { c with count := BitVec.ofNat 64 (x % 2 ^ Impl.counterWidth impl) }

/-- (f) the value of a reset count: RESET_COUNT within the width of the counter (R1550). -/
def resetCounter (impl : Impl) (c : Counter) : Counter := writeCount impl impl.resetCount.toNat c

/-- PMCCNTR_EL0 counts a cycle, PMICNTR_EL0 an instruction: one more modulo 2^64 (10_state.md R28, R29). -/
def addOne (old : CountWord) : CountWord := old + 1

/-- The overflow of a 64-bit counter that counts one (40_common_event_rules.md R127 (b), (c)). -/
def oneMoreCause (src : OverflowSource) (old : CountWord) (ex : Bool) : OverflowCause :=
  { source := src, ovf32 := 2 ^ 32 ≤ old.toNat % 2 ^ 32 + 1, ovf64 := 2 ^ 64 ≤ old.toNat + 1, exportAllowed := ex }

/-- An overflow is offered to its consumers. -/
def State.offerOverflow (s : State) (c : OverflowCause) : State :=
  if c.ovf32 || c.ovf64 then s.offerFirst (overflowOffers c) else s

/-- One step of the host or the environment (R1552). An instruction counted on a PE without FEAT_PMUv3_ICNTR, which has no
PMICNTR_EL0 (10_state.md R29), changes nothing and is not refused. Log 53. -/
def applyInput (s : State) : Input → Host.Outcome State Fault Refusal
  | .occurrence o order => .next ({ s with draws := s.draws + 1 }.offerAll (.occurs s.draws o) order)
  | .writePmswinc p v ctx withheld order => onPe s p (fun _ => .next (s.offerAll (.pmswincWrite p v ctx withheld) order))
  | .readPmceid p r => onPe s p (fun _ =>
      if r < 2 then .next (s.emit (.value p (Impl.pmceid s.impl r))) else .refused .noSuchPmceid)
  | .readPmceid32 p r => onPe s p (fun _ =>
      if r < 4 then .next (s.emit (.value p (Impl.pmceid32 s.impl r))) else .refused .noSuchPmceid)
  | .readPmevcntr p n => onCounter s p n (fun c => .next (s.emit (.value p c.count)))
  | .writePmevtyper p n e mt f => onCounter s p n (fun _ => .next (s.modifyCounter p n (writeEventType s.impl e mt f)))
  | .writePmevcntr p n x => onCounter s p n (fun _ => .next (s.modifyCounter p n (writeCount s.impl x)))
  | .resetEventCounters p => onPe s p (fun _ =>
      .next (s.modifyPe p (fun q => { q with counters := q.counters.map (resetCounter s.impl) })))
  | .resetCycleCounter p => onPe s p (fun _ =>
      .next (s.modifyPe p (fun q => { q with pmccntr := s.impl.resetCycleCount })))
  | .writeControl p f => onPe s p (fun _ =>
      if fieldPresent s.impl f.name then .next (s.modifyPe p (fun q => writeField q f)) else .refused .fieldAbsent)
  | .writeInten p n v => onPe s p (fun _ => .next (s.modifyPe p (fun q => { q with inten := setInten q.inten n v })))
  | .writeF0 p v => onPe s p (fun _ => .next (s.modifyPe p (fun q => { q with f0 := v })))
  | .readPmswinc _ => .refused .readOfPmswinc
  | .forceControl p f => onPe s p (fun _ =>
      if fieldPresent s.impl f.name then .next (s.modifyPe p (fun q => forceField q f)) else .refused .fieldAbsent)
  | .releaseControl p f => onPe s p (fun _ =>
      if fieldPresent s.impl f then .next (s.modifyPe p (fun q => releaseField q f)) else .refused .fieldAbsent)
  | .forceMt p n v => onCounter s p n (fun _ =>
      .next (s.modifyCounter p n (fun c => { c with mt := { c.mt with forced := v } })))
  | .stateChainFilterAll p n v => onCounter s p n (fun _ =>
      .next (s.modifyCounter p n (fun c => { c with chainFilterAll := v })))
  | .stateTrace p e2tre selfHosted => onPe s p (fun _ =>
      .next (s.modifyPe p (fun q => { q with e2tre := e2tre, selfHosted := selfHosted })))
  | .cycleCounted p ex => onPe s p (fun q =>
      .next ((s.modifyPe p (fun q => { q with pmccntr := addOne q.pmccntr })).offerOverflow
        (oneMoreCause (.cycleCounter p) q.pmccntr ex)))
  | .instructionCounted p ex => onPe s p (fun q =>
      if s.impl.has .pmuv3Icntr then
        .next ((s.modifyPe p (fun q => { q with pmicntr := addOne q.pmicntr })).offerOverflow
          (oneMoreCause (.instructionCounter p) q.pmicntr ex))
      else .next s)

/-- The next input is admitted; with none the machine is idle. -/
def State.takeInput (s : State) : Host.Outcome State Fault Refusal :=
  match s.inputs with
  | [] => .next s
  | i :: rest => applyInput { s with inputs := rest } i

end Sys2Proof.Machine
end

