-- ==== Sys2Proof/Machine/Step.lean ====
section
/-!
DEFINITION. One step: the event that the next sink selects is fetched, decoded and executed on what the sink is offered
(30_encoding.md R91, R103; 40_common_event_rules.md R121); a sink that selects no event counts nothing (92_eei_decisions.md D8); with
nothing offered, the next step of the host or the environment is admitted (70_reset_and_hazards.md R1552). Log 1.
-/

namespace Sys2Proof.Machine

/-- The step function. -/
def step (s : State) : Host.Outcome State Fault Refusal :=
  match s.agenda with
  | [] => s.takeInput
  | off :: _ =>
    match s.selected off.sink with
    | some i => exec i s
    | none => .next s.dropOffer

/-- `s` with the event number in the low `nbits` bits of `w` selected by event counter 0 of PE 0, which the next step executes. The
event's word is 16 bits (30_encoding.md R90), so the bits from 16 up are dropped. Log 38. -/
def State.withFetchWord (s : State) (nbits w : Nat) : State := s.placeWord (BitVec.ofNat 16 (w % 2 ^ nbits))

end Sys2Proof.Machine
end

