-- ==== Sys2Proof/Machine/Relations.lean ====
section
/-!
DEFINITION. The set relations between events that the event rules state under "relations:" (40_common_event_rules.md R122), and the
table of the assigned numbers (30_encoding.md R104), as the rules print them: the statements compare `occOf` and `decodeWord` with these
tables, which no meaning uses.
-/

namespace Sys2Proof.Machine

/-- X with "Occ(E) ⊆ Occ(X)" in the rule of E, as printed, but for the rules that state an intersection or a difference (R122, row 1). -/
def parentsOf : Instr → List Instr
  | .ldRetired => [.instRetired]
  | .stRetired => [.instRetired]
  | .excUndef => [.excTaken]
  | .excSvc => [.excTaken]
  | .excPabort => [.excTaken]
  | .excDabort => [.excTaken]
  | .excIrq => [.excTaken]
  | .excFiq => [.excTaken]
  | .excSmc => [.excTaken]
  | .excHvc => [.excTaken]
  | .excTrapPabort => [.excTaken]
  | .excTrapDabort => [.excTaken]
  | .excTrapOther => [.excTaken]
  | .excTrapIrq => [.excTaken]
  | .excTrapFiq => [.excTaken]
  | .aseInstRetired => [.aseSveInstRetired]
  | .sveInstRetired => [.aseSveInstRetired]
  | .aseSveInstRetired => [.seInstRetired]
  | .brIndnrTakenRetired => [.brIndRetired, .pcWriteRetired]
  | .brReturnAnyRetired => [.brIndRetired]
  | .blTakenRetired => [.pcWriteRetired]
  | .brCondRetired => [.brRetired]
  | .brHintCondRetired => [.brCondRetired]
  | .aseSveRetired => [.instRetired]
  | .ldAnyRetired => [.ldstAnyRetired]
  | .stAnyRetired => [.ldstAnyRetired]
  | .ldstAnyRetired => [.instRetired]
  | .dpRetired => [.instRetired]
  | .aseRetired => [.aseSveRetired]
  | .vfpRetired => [.instRetired]
  | .sveRetired => [.aseSveRetired]
  | .cryptoRetired => [.instRetired]
  | .prfRetired => [.instRetired]
  | .smeRetired => [.seRetired]
  | .seRetired => [.instRetired]
  | .smeInstRetired => [.seInstRetired]
  | .seInstRetired => [.instRetired]
  | .l1iCacheRefill => [.l1iCache]
  | .l1iTlbRefill => [.l1iTlb]
  | .l1dCacheRefill => [.l1dCache]
  | .l1dTlbRefill => [.l1dTlb]
  | .l2dCacheRefill => [.l2dCache]
  | .brMisPredRetired => [.brRetired]
  | .stallFrontend => [.cpuCycles]
  | .stallBackend => [.cpuCycles]
  | .l2iCacheRefill => [.l2iCache]
  | .l3dCacheRefill => [.l3dCache]
  | .l2dTlbRefill => [.l2dTlb]
  | .l2iTlbRefill => [.l2iTlb]
  | .dtlbWalk => [.l1dTlb]
  | .itlbWalk => [.l1iTlb]
  | .remoteAccessRd => [.remoteAccess]
  | .l1dCacheLmissRd => [.l1dCache]
  | .opRetired => [.opSpec]
  | .stall => [.cpuCycles]
  | .stallSlotBackend => [.stallSlot]
  | .stallSlotFrontend => [.stallSlot]
  | .l1dCacheRefillInner => [.l1dCacheRefill]
  | .l1dCacheRefillOuter => [.l1dCacheRefill]
  | .l1dCacheWbVictim => [.l1dCacheWb]
  | .l1dCacheWbClean => [.l1dCacheWb]
  | .l2dCacheWbVictim => [.l2dCacheWb]
  | .l2dCacheWbClean => [.l2dCacheWb]
  | .l2dTlbRd => [.l2dTlb]
  | .l2dTlbWr => [.l2dTlb]
  | .busAccessRd => [.busAccess]
  | .busAccessWr => [.busAccess]
  | .busAccessShared => [.busAccess]
  | .busAccessNormal => [.busAccess]
  | .unalignedLdSpec => [.unalignedLdstSpec]
  | .unalignedStSpec => [.unalignedLdstSpec]
  | .unalignedLdstSpec => [.memAccess]
  | .strexPassSpec => [.strexSpec]
  | .strexFailSpec => [.strexSpec]
  | .ldSpec => [.ldstSpec]
  | .stSpec => [.ldstSpec]
  | .ldstSpec => [.instSpec]
  | .dpSpec => [.instSpec]
  | .aseSpec => [.aseSveSpec]
  | .vfpSpec => [.instSpec]
  | .pcWriteSpec => [.instSpec]
  | .cryptoSpec => [.instSpec]
  | .l3dCacheHitWrFextProp => [.l3dCacheHitRwFextProp]
  | .l3dCacheWbVictim => [.l3dCacheWb]
  | .l3dCacheWbClean => [.l3dCacheWb]
  | .l2dCacheHitRdFextProp => [.l2dCacheHitRwFextProp]
  | .l2dCacheHitWrFextProp => [.l2dCacheHitRwFextProp]
  | .l2dCacheHitRwFextProp => [.l2dCacheHitRw]
  | .l3dCacheExtPropPrfmIr => [.l3dCacheExtProp]
  | .l3dCacheHitRwFextProp => [.l3dCacheHitRw]
  | .l3dCacheHitRdFextProp => [.l3dCacheHitRwFextProp]
  | .stshhKeepSpec => [.stshhSpec]
  | .stshhStrmSpec => [.stshhSpec]
  | .prfmIrSpec => [.basePrfSpec]
  | .memAccessWrStshh => [.memAccessWr]
  | .memAccessWrStshhKeep => [.memAccessWrStshh]
  | .memAccessWrStshhStrm => [.memAccessWrStshh]
  | .memAccessWrStshhKeepNear => [.memAccessWrStshhKeep]
  | .memAccessWrStshhKeepFar => [.memAccessWrStshhKeep]
  | .l1dCacheExtPropPrfmIr => [.l1dCacheExtProp]
  | .l1dCacheHitRdFextProp => [.l1dCacheHitRwFextProp]
  | .l1dCacheHitWrFextProp => [.l1dCacheHitRwFextProp]
  | .l1dCacheHitRwFextProp => [.l1dCacheHitRw]
  | .l2dCacheExtPropPrfmIr => [.l2dCacheExtProp]
  | .sampleFiltrate => [.sampleFeed]
  | .stallBackendMem => [.stallBackendMembound]
  | .l2dCacheLmissRd => [.l2dCache]
  | .l3dCacheLmissRd => [.l3dCache]
  | .ldstAlignLat => [.memAccess]
  | .ldAlignLat => [.ldstAlignLat]
  | .stAlignLat => [.ldstAlignLat]
  | .memAccessChecked => [.memAccess]
  | .memAccessCheckedRd => [.memAccessChecked]
  | .memAccessCheckedWr => [.memAccessChecked]
  | .aseInstSpec => [.aseSveInstSpec]
  | .aseSveInstSpec => [.seInstSpec]
  | .aseUopSpec => [.aseSveUopSpec]
  | .sveUopSpec => [.aseSveUopSpec]
  | .aseSveUopSpec => [.uopSpec]
  | .simdUopSpec => [.uopSpec]
  | .aseFpSpec => [.aseSveFpSpec]
  | .sveFpSpec => [.aseSveFpSpec]
  | .aseSveFpSpec => [.seFpSpec]
  | .fpHpSpec => [.fpSpec]
  | .aseFpHpSpec => [.aseSveFpHpSpec]
  | .sveFpHpSpec => [.aseSveFpHpSpec]
  | .aseSveFpHpSpec => [.fpHpSpec]
  | .fpSpSpec => [.fpSpec]
  | .aseFpSpSpec => [.aseSveFpSpSpec]
  | .sveFpSpSpec => [.aseSveFpSpSpec]
  | .aseSveFpSpSpec => [.fpSpSpec]
  | .fpDpSpec => [.fpSpec]
  | .aseFpDpSpec => [.aseSveFpDpSpec]
  | .sveFpDpSpec => [.aseSveFpDpSpec]
  | .fpDivSpec => [.fpSpec]
  | .aseFpDivSpec => [.aseSveFpDivSpec]
  | .sveFpDivSpec => [.aseSveFpDivSpec]
  | .aseSveFpDivSpec => [.fpDivSpec]
  | .fpSqrtSpec => [.fpSpec]
  | .aseFpSqrtSpec => [.aseSveFpSqrtSpec]
  | .sveFpSqrtSpec => [.aseSveFpSqrtSpec]
  | .aseSveFpSqrtSpec => [.fpSqrtSpec]
  | .fpFmaSpec => [.fpSpec]
  | .aseFpFmaSpec => [.aseSveFpFmaSpec]
  | .sveFpFmaSpec => [.aseSveFpFmaSpec]
  | .aseSveFpFmaSpec => [.fpFmaSpec]
  | .fpMulSpec => [.fpSpec]
  | .aseFpMulSpec => [.aseSveFpMulSpec]
  | .sveFpMulSpec => [.aseSveFpMulSpec]
  | .aseSveFpMulSpec => [.fpMulSpec]
  | .fpAddsubSpec => [.fpSpec]
  | .aseFpAddsubSpec => [.aseSveFpAddsubSpec]
  | .sveFpAddsubSpec => [.aseSveFpAddsubSpec]
  | .aseSveFpAddsubSpec => [.fpAddsubSpec]
  | .fpRecpeSpec => [.fpSpec]
  | .aseFpRecpeSpec => [.aseSveFpRecpeSpec]
  | .sveFpRecpeSpec => [.aseSveFpRecpeSpec]
  | .aseSveFpRecpeSpec => [.fpRecpeSpec]
  | .aseFpCvtSpec => [.aseSveFpCvtSpec]
  | .sveFpCvtSpec => [.aseSveFpCvtSpec]
  | .aseSveFpCvtSpec => [.fpCvtSpec]
  | .sveFpAreduceSpec => [.sveFpSpec]
  | .aseFpPreduceSpec => [.aseFpVreduceSpec]
  | .sveFpVreduceSpec => [.aseSveFpVreduceSpec]
  | .aseSveFpVreduceSpec => [.aseSveFpSpec]
  | .aseIntSpec => [.aseSveIntSpec]
  | .sveIntSpec => [.aseSveIntSpec]
  | .aseSveIntSpec => [.seIntSpec]
  | .intDivSpec => [.intSpec]
  | .intDiv64Spec => [.intSpec]
  | .sveIntDivSpec => [.intDivSpec]
  | .sveIntDiv64Spec => [.intDiv64Spec]
  | .intMulSpec => [.intSpec]
  | .aseIntMulSpec => [.aseSveIntMulSpec]
  | .sveIntMulSpec => [.aseSveIntMulSpec]
  | .aseSveIntMulSpec => [.intMulSpec]
  | .intMul64Spec => [.intSpec]
  | .sveIntMul64Spec => [.intMul64Spec]
  | .intMulh64Spec => [.intSpec]
  | .sveIntMulh64Spec => [.intMulh64Spec]
  | .aseFpBf16Spec => [.aseSveFpBf16Spec]
  | .sveFpBf16Spec => [.aseSveFpBf16Spec]
  | .aseSveFpBf16Spec => [.fpBf16Spec]
  | .fpBf16Spec => [.fpSpec]
  | .sveSpec => [.aseSveSpec]
  | .aseSveSpec => [.instSpec]
  | .aseNonfpSpec => [.aseSveNonfpSpec]
  | .sveNonfpSpec => [.aseSveNonfpSpec]
  | .aseSveNonfpSpec => [.nonfpSpec]
  | .aseIntVreduceSpec => [.aseSveIntVreduceSpec]
  | .sveIntVreduceSpec => [.aseSveIntVreduceSpec]
  | .aseSveIntVreduceSpec => [.intSpec]
  | .sveXpipeZ2rSpec => [.sveXpipeSpec]
  | .sveXpipeR2zSpec => [.sveXpipeSpec]
  | .svePredEmptySpec => [.svePredNotFullSpec]
  | .svePredFullSpec => [.svePredSpec]
  | .svePredPartialSpec => [.svePredNotFullSpec]
  | .svePredNotFullSpec => [.svePredSpec]
  | .sveMovprfxZSpec => [.sveMovprfxSpec]
  | .sveMovprfxMSpec => [.sveMovprfxSpec]
  | .sveMovprfxUSpec => [.sveMovprfxSpec]
  | .sveLdstSpec => [.aseSveLdstSpec]
  | .sveLdSpec => [.sveLdstSpec]
  | .sveStSpec => [.sveLdstSpec]
  | .svePrfSpec => [.sveLdstSpec]
  | .aseSveLdSpec => [.aseSveLdstSpec]
  | .aseSveStSpec => [.aseSveLdstSpec]
  | .baseLdRegSpec => [.baseLdstRegSpec]
  | .baseStRegSpec => [.baseLdstRegSpec]
  | .basePrfSpec => [.baseLdstRegSpec]
  | .fpaseLdRegSpec => [.fpaseLdstRegSpec]
  | .fpaseStRegSpec => [.fpaseLdstRegSpec]
  | .sveLdrRegSpec => [.sveLdstRegSpec]
  | .sveStrRegSpec => [.sveLdstRegSpec]
  | .sveLdrPregSpec => [.sveLdstPregSpec]
  | .sveStrPregSpec => [.sveLdstPregSpec]
  | .sveLdrZregSpec => [.sveLdstZregSpec]
  | .sveStrZregSpec => [.sveLdstZregSpec]
  | .sveLdContigSpec => [.sveLdstContigSpec]
  | .sveStContigSpec => [.sveLdstContigSpec]
  | .svePrfContigSpec => [.sveLdstContigSpec]
  | .sveLdntContigSpec => [.sveLdstntContigSpec]
  | .sveStntContigSpec => [.sveLdstntContigSpec]
  | .aseSveLdMultiSpec => [.aseSveLdstMultiSpec]
  | .aseSveStMultiSpec => [.aseSveLdstMultiSpec]
  | .sveLdMultiSpec => [.sveLdstMultiSpec]
  | .sveStMultiSpec => [.sveLdstMultiSpec]
  | .sveLdGatherSpec => [.sveLdstNoncontigSpec]
  | .sveStScatterSpec => [.sveLdstNoncontigSpec]
  | .svePrfGatherSpec => [.sveLdstNoncontigSpec]
  | .sveLd64GatherSpec => [.sveLdst64NoncontigSpec]
  | .sveSt64ScatterSpec => [.sveLdst64NoncontigSpec]
  | .svePrf64GatherSpec => [.sveLdst64NoncontigSpec]
  | .aseSveUnalignedLdSpec => [.aseSveUnalignedLdstSpec]
  | .aseSveUnalignedStSpec => [.aseSveUnalignedLdstSpec]
  | .aseSveUnalignedContigLdSpec => [.aseSveUnalignedContigLdstSpec]
  | .aseSveUnalignedContigStSpec => [.aseSveUnalignedContigLdstSpec]
  | .sveLdffSpec => [.sveLdSpec]
  | .sveLdffFaultSpec => [.sveLdffSpec]
  | .ldScaleOpsSpec => [.ldstScaleOpsSpec]
  | .ldFixedOpsSpec => [.ldstFixedOpsSpec]
  | .stScaleOpsSpec => [.ldstScaleOpsSpec]
  | .stFixedOpsSpec => [.ldstFixedOpsSpec]
  | .ldFixedBytesSpec => [.ldstFixedBytesSpec]
  | .stFixedBytesSpec => [.ldstFixedBytesSpec]
  | .aseInt8Spec => [.aseSveInt8Spec]
  | .sveInt8Spec => [.aseSveInt8Spec]
  | .aseSveInt8Spec => [.aseSveIntSpec]
  | .aseInt16Spec => [.aseSveInt16Spec]
  | .sveInt16Spec => [.aseSveInt16Spec]
  | .aseSveInt16Spec => [.aseSveIntSpec]
  | .aseInt32Spec => [.aseSveInt32Spec]
  | .sveInt32Spec => [.aseSveInt32Spec]
  | .aseSveInt32Spec => [.aseSveIntSpec]
  | .aseInt64Spec => [.aseSveInt64Spec]
  | .sveInt64Spec => [.aseSveInt64Spec]
  | .aseSveInt64Spec => [.aseSveIntSpec]
  | .aseFpDotSpec => [.aseSveFpDotSpec]
  | .sveFpDotSpec => [.aseSveFpDotSpec]
  | .aseSveFpDotSpec => [.fpSpec]
  | .aseFpMmlaSpec => [.aseSveFpMmlaSpec]
  | .sveFpMmlaSpec => [.aseSveFpMmlaSpec]
  | .aseSveFpMmlaSpec => [.fpSpec]
  | .aseIntDotSpec => [.aseSveIntDotSpec]
  | .sveIntDotSpec => [.aseSveIntDotSpec]
  | .aseSveIntDotSpec => [.intSpec]
  | .aseIntMmlaSpec => [.aseSveIntMmlaSpec]
  | .sveIntMmlaSpec => [.aseSveIntMmlaSpec]
  | .aseSveIntMmlaSpec => [.intSpec]
  | .brReturnPredRetired => [.brIndPredRetired]
  | .brReturnMisPredRetired => [.brIndMisPredRetired]
  | .brIndnrPredRetired => [.brIndPredRetired]
  | .brIndnrMisPredRetired => [.brIndMisPredRetired]
  | .sampleFeedBr => [.sampleFeed]
  | .sampleFeedLd => [.sampleFeed]
  | .sampleFeedSt => [.sampleFeed]
  | .sampleFeedOp => [.sampleFeed]
  | .sampleFeedEvent => [.sampleFeed]
  | .sampleFeedLat => [.sampleFeed]
  | .l1dTlbRw => [.l1dTlb]
  | .l1iTlbRd => [.l1iTlb]
  | .l1dTlbPrfm => [.l1dTlbPrf]
  | .l1iTlbPrfm => [.l1iTlbPrf]
  | .dtlbHwupd => [.l1dTlb]
  | .itlbHwupd => [.l1iTlb]
  | .dtlbWalkLarge => [.dtlbWalk]
  | .itlbWalkLarge => [.itlbWalk]
  | .dtlbWalkSmall => [.dtlbWalk]
  | .itlbWalkSmall => [.itlbWalk]
  | .dtlbWalkRw => [.l1dTlbRw]
  | .itlbWalkRd => [.l1iTlbRd]
  | .dtlbWalkPrfm => [.l1dTlbPrfm]
  | .itlbWalkPrfm => [.l1iTlbPrfm]
  | .l1dCacheRw => [.l1dCache]
  | .l1iCacheRd => [.l1iCache]
  | .l1dCachePrfm => [.l1dCachePrf]
  | .l1iCachePrfm => [.l1iCachePrf]
  | .l1dCacheMiss => [.l1dCacheRw]
  | .l1iCacheHwprf => [.l1iCachePrf]
  | .l1dCacheRefillPrfm => [.l1dCachePrfm]
  | .l1iCacheRefillPrfm => [.l1iCachePrfm]
  | .l2dCacheRw => [.l2dCache]
  | .l2iCacheRd => [.l2iCache]
  | .l2dCachePrfm => [.l2dCachePrf]
  | .l2iCachePrfm => [.l2iCachePrf]
  | .l2dCacheMiss => [.l2dCacheRw]
  | .l2iCacheHwprf => [.l2iCachePrf]
  | .l2dCacheRefillPrfm => [.l2dCachePrfm]
  | .l2iCacheRefillPrfm => [.l2iCachePrfm]
  | .l3dCacheRw => [.l3dCache]
  | .l3dCachePrfm => [.l3dCachePrf]
  | .l3dCacheMiss => [.l3dCacheRw]
  | .l3dCacheRefillPrfm => [.l3dCachePrfm]
  | .l1dCacheHwprf => [.l1dCachePrf]
  | .l2dCacheHwprf => [.l2dCachePrf]
  | .l3dCacheHwprf => [.l3dCachePrf]
  | .llCacheHwprf => [.llCachePrf]
  | .stallFrontendMembound => [.stallFrontend]
  | .stallFrontendL1i => [.stallFrontendMembound]
  | .stallFrontendL2i => [.stallFrontendMembound]
  | .stallFrontendMem => [.stallFrontendMembound]
  | .stallFrontendTlb => [.stallFrontendMembound]
  | .stallBackendBusySmcu => [.cpuCycles]
  | .stallBackendBusySmcuUnall => [.stallBackendBusySmcu]
  | .stallFrontendCpubound => [.stallFrontend]
  | .stallFrontendFlow => [.stallFrontendCpubound]
  | .stallFrontendFlush => [.stallFrontendCpubound]
  | .stallFrontendRename => [.stallFrontendCpubound]
  | .stallBackendMembound => [.stallBackend]
  | .stallBackendL1d => [.stallBackendMembound]
  | .stallBackendL2d => [.stallBackendMembound]
  | .stallBackendTlb => [.stallBackendMembound]
  | .stallBackendSt => [.stallBackendMembound]
  | .stallBackendCpubound => [.stallBackend]
  | .stallBackendBusy => [.stallBackend]
  | .stallBackendIlock => [.stallBackend]
  | .stallBackendRename => [.stallBackendCpubound]
  | .stallBackendAtomic => [.stallBackendMembound]
  | .stallBackendMemcpyset => [.stallBackendMembound]
  | .casNearFail => [.casNearSpec]
  | .casNearPass => [.casNearSpec]
  | .casNearSpec => [.casSpec]
  | .casFarSpec => [.casSpec]
  | .lseLdSpec => [.lseLdstSpec]
  | .lseStSpec => [.lseLdstSpec]
  | .lseLdstSpec => [.ldstSpec]
  | .remoteAccessWr => [.remoteAccess]
  | .dtlbWalkBlock => [.dtlbWalk]
  | .itlbWalkBlock => [.itlbWalk]
  | .dtlbWalkPage => [.dtlbWalk]
  | .itlbWalkPage => [.itlbWalk]
  | .busReqRd => [.busReq]
  | .busReqWr => [.busReq]
  | .isnpHitNearRd => [.isnpHitRd]
  | .isnpHitFarRd => [.isnpHitRd]
  | .isnpHitRemoteRd => [.isnpHitRd]
  | .dsnpHitRd => [.dsnpHitRw]
  | .dsnpHitNearRd => [.dsnpHitRd]
  | .dsnpHitFarRd => [.dsnpHitRd]
  | .dsnpHitRemoteRd => [.dsnpHitRd]
  | .dsnpHitWr => [.dsnpHitRw]
  | .dsnpHitNearWr => [.dsnpHitWr]
  | .dsnpHitFarWr => [.dsnpHitWr]
  | .dsnpHitRemoteWr => [.dsnpHitWr]
  | .dsnpHitNearRw => [.dsnpHitRw]
  | .dsnpHitFarRw => [.dsnpHitRw]
  | .dsnpHitRemoteRw => [.dsnpHitRw]
  | .dsnpHitPrfm => [.dsnpHitPrf]
  | .dsnpHitNearPrfm => [.dsnpHitPrfm]
  | .dsnpHitFarPrfm => [.dsnpHitPrfm]
  | .dsnpHitRemotePrfm => [.dsnpHitPrfm]
  | .dsnpHitHwprf => [.dsnpHitPrf]
  | .dsnpHitNearHwprf => [.dsnpHitHwprf]
  | .dsnpHitFarHwprf => [.dsnpHitHwprf]
  | .dsnpHitRemoteHwprf => [.dsnpHitHwprf]
  | .isnpHitPrfm => [.isnpHitPrf]
  | .isnpHitNearPrfm => [.isnpHitPrfm]
  | .isnpHitFarPrfm => [.isnpHitPrfm]
  | .isnpHitRemotePrfm => [.isnpHitPrfm]
  | .isnpHitHwprf => [.isnpHitPrf]
  | .isnpHitNearHwprf => [.isnpHitHwprf]
  | .isnpHitFarHwprf => [.isnpHitHwprf]
  | .isnpHitRemoteHwprf => [.isnpHitHwprf]
  | .isnpHitNear => [.isnpHit]
  | .isnpHitFar => [.isnpHit]
  | .isnpHitRemote => [.isnpHit]
  | .dsnpHitNear => [.dsnpHit]
  | .dsnpHitFar => [.dsnpHit]
  | .dsnpHitRemote => [.dsnpHit]
  | .l1iCacheRefillHwprf => [.l1iCacheHwprf]
  | .l2iCacheRefillHwprf => [.l2iCacheHwprf]
  | .l1dCacheRefillHwprf => [.l1dCacheHwprf]
  | .l2dCacheRefillHwprf => [.l2dCacheHwprf]
  | .l3dCacheRefillHwprf => [.l3dCacheHwprf]
  | .llCacheRefillHwprf => [.llCacheHwprf]
  | .l1iCacheHitRd => [.l1iCacheRd]
  | .l2iCacheHitRd => [.l2iCacheRd]
  | .l1dCacheHitRd => [.l1dCacheRd]
  | .l2dCacheHitRd => [.l2dCacheRd]
  | .l3dCacheHitRd => [.l3dCacheRd]
  | .llCacheHitRd => [.llCacheRd]
  | .l1dCacheHitWr => [.l1dCacheWr]
  | .l2dCacheHitWr => [.l2dCacheWr]
  | .l3dCacheHitWr => [.l3dCacheWr]
  | .llCacheHitWr => [.llCacheWr]
  | .l1dCacheHitRw => [.l1dCacheRw]
  | .l2dCacheHitRw => [.l2dCacheRw]
  | .l3dCacheHitRw => [.l3dCacheRw]
  | .llCacheHitRw => [.llCacheRw]
  | .l1iCacheHitRdFprfm => [.l1iCacheHitRdFprf]
  | .l2iCacheHitRdFprfm => [.l2iCacheHitRdFprf]
  | .l1dCacheHitRdFprfm => [.l1dCacheHitRwFprfm]
  | .l2dCacheHitRdFprfm => [.l2dCacheHitRwFprfm]
  | .l3dCacheHitRdFprfm => [.l3dCacheHitRwFprfm]
  | .llCacheHitRdFprfm => [.llCacheHitRwFprfm]
  | .l1dCacheHitWrFprfm => [.l1dCacheHitRwFprfm]
  | .l2dCacheHitWrFprfm => [.l2dCacheHitRwFprfm]
  | .l3dCacheHitWrFprfm => [.l3dCacheHitRwFprfm]
  | .llCacheHitWrFprfm => [.llCacheHitRwFprfm]
  | .l1dCacheHitRwFprfm => [.l1dCacheHitRwFprf]
  | .l2dCacheHitRwFprfm => [.l2dCacheHitRwFprf]
  | .l3dCacheHitRwFprfm => [.l3dCacheHitRwFprf]
  | .llCacheHitRwFprfm => [.llCacheHitRwFprf]
  | .l1iCacheHitRdFhwprf => [.l1iCacheHitRdFprf]
  | .l2iCacheHitRdFhwprf => [.l2iCacheHitRdFprf]
  | .l1dCacheHitRdFhwprf => [.l1dCacheHitRwFhwprf]
  | .l2dCacheHitRdFhwprf => [.l2dCacheHitRwFhwprf]
  | .l3dCacheHitRdFhwprf => [.l3dCacheHitRwFhwprf]
  | .llCacheHitRdFhwprf => [.llCacheHitRwFhwprf]
  | .l1dCacheHitWrFhwprf => [.l1dCacheHitRwFhwprf]
  | .l2dCacheHitWrFhwprf => [.l2dCacheHitRwFhwprf]
  | .l3dCacheHitWrFhwprf => [.l3dCacheHitRwFhwprf]
  | .llCacheHitWrFhwprf => [.llCacheHitRwFhwprf]
  | .l1dCacheHitRwFhwprf => [.l1dCacheHitRwFprf]
  | .l2dCacheHitRwFhwprf => [.l2dCacheHitRwFprf]
  | .l3dCacheHitRwFhwprf => [.l3dCacheHitRwFprf]
  | .llCacheHitRwFhwprf => [.llCacheHitRwFprf]
  | .l1iCacheHitRdFprf => [.l1iCacheHitRd]
  | .l2iCacheHitRdFprf => [.l2iCacheHitRd]
  | .l1dCacheHitRdFprf => [.l1dCacheHitRwFprf]
  | .l2dCacheHitRdFprf => [.l2dCacheHitRwFprf]
  | .l3dCacheHitRdFprf => [.l3dCacheHitRwFprf]
  | .llCacheHitRdFprf => [.llCacheHitRwFprf]
  | .l1dCacheHitWrFprf => [.l1dCacheHitRwFprf]
  | .l2dCacheHitWrFprf => [.l2dCacheHitRwFprf]
  | .l3dCacheHitWrFprf => [.l3dCacheHitRwFprf]
  | .llCacheHitWrFprf => [.llCacheHitRwFprf]
  | .l1dCacheHitRwFprf => [.l1dCacheHitRw]
  | .l2dCacheHitRwFprf => [.l2dCacheHitRw]
  | .l3dCacheHitRwFprf => [.l3dCacheHitRw]
  | .llCacheHitRwFprf => [.llCacheHitRw]
  | .l1iCacheHit => [.l1iCache]
  | .l2iCacheHit => [.l2iCache]
  | .l1dCacheHit => [.l1dCache]
  | .l2dCacheHit => [.l2dCache]
  | .l3dCacheHit => [.l3dCache]
  | .llCacheHit => [.llCache]
  | .l1iCacheHitPrfm => [.l1iCachePrfm]
  | .l2iCacheHitPrfm => [.l2iCachePrfm]
  | .l1dCacheHitPrfm => [.l1dCachePrfm]
  | .l2dCacheHitPrfm => [.l2dCachePrfm]
  | .l3dCacheHitPrfm => [.l3dCachePrfm]
  | .llCacheHitPrfm => [.llCachePrfm]
  | .l1dCacheHitmRd => [.l1dCacheHitRd]
  | .l2dCacheHitmRd => [.l2dCacheHitRd]
  | .l3dCacheHitmRd => [.l3dCacheHitRd]
  | .llCacheHitmRd => [.llCacheHitRd]
  | .l1dCacheHitmWr => [.l1dCacheHitWr]
  | .l2dCacheHitmWr => [.l2dCacheHitWr]
  | .l3dCacheHitmWr => [.l3dCacheHitWr]
  | .llCacheHitmWr => [.llCacheHitWr]
  | .l1dCacheHitmRw => [.l1dCacheHitRw]
  | .l2dCacheHitmRw => [.l2dCacheHitRw]
  | .l3dCacheHitmRw => [.l3dCacheHitRw]
  | .llCacheHitmRw => [.llCacheHitRw]
  | .dsnpHitmRd => [.dsnpHitRd]
  | .dsnpHitmNearRd => [.dsnpHitNearRd]
  | .dsnpHitmFarRd => [.dsnpHitFarRd]
  | .dsnpHitmRemoteRd => [.dsnpHitRemoteRd]
  | .dsnpHitmWr => [.dsnpHitWr]
  | .dsnpHitmNearWr => [.dsnpHitNearWr]
  | .dsnpHitmFarWr => [.dsnpHitFarWr]
  | .dsnpHitmRemoteWr => [.dsnpHitRemoteWr]
  | .dsnpHitmRw => [.dsnpHitRw]
  | .dsnpHitmNearRw => [.dsnpHitNearRw]
  | .dsnpHitmFarRw => [.dsnpHitFarRw]
  | .dsnpHitmRemoteRw => [.dsnpHitRemoteRw]
  | .localMemRd => [.localMemRw]
  | .localMemWr => [.localMemRw]
  | .localMemRw => [.localMem]
  | .localMemPrfm => [.localMem]
  | .localMemLdRetired => [.localMemLdstRetired]
  | .localMemStRetired => [.localMemLdstRetired]
  | .localMemLdstRetired => [.ldstAnyRetired]
  | .remoteMem => [.remoteAccess]
  | .remoteMemRd => [.remoteMemRw]
  | .remoteMemWr => [.remoteMemRw]
  | .remoteMemRw => [.remoteMem]
  | .remoteMemPrfm => [.remoteMem]
  | .remoteMemLdRetired => [.remoteMemLdstRetired]
  | .remoteMemStRetired => [.remoteMemLdstRetired]
  | .remoteMemLdstRetired => [.ldstAnyRetired]
  | .l1iLfbHitRd => [.l1iCacheHitRd]
  | .l2iLfbHitRd => [.l2iCacheHitRd]
  | .l1dLfbHitRd => [.l1dCacheHitRd]
  | .l2dLfbHitRd => [.l2dCacheHitRd]
  | .l3dLfbHitRd => [.l3dCacheHitRd]
  | .llLfbHitRd => [.llCacheHitRd]
  | .l1dLfbHitWr => [.l1dCacheHitWr]
  | .l2dLfbHitWr => [.l2dCacheHitWr]
  | .l3dLfbHitWr => [.l3dCacheHitWr]
  | .llLfbHitWr => [.llCacheHitWr]
  | .l1dLfbHitRw => [.l1dCacheHitRw]
  | .l2dLfbHitRw => [.l2dCacheHitRw]
  | .l3dLfbHitRw => [.l3dCacheHitRw]
  | .llLfbHitRw => [.llCacheHitRw]
  | .l1iLfbHitRdFprfm => [.l1iLfbHitRdFprf]
  | .l2iLfbHitRdFprfm => [.l2iLfbHitRdFprf]
  | .l1dLfbHitRdFprfm => [.l1dLfbHitRwFprfm]
  | .l2dLfbHitRdFprfm => [.l2dLfbHitRwFprfm]
  | .l3dLfbHitRdFprfm => [.l3dLfbHitRwFprfm]
  | .llLfbHitRdFprfm => [.llLfbHitRwFprfm]
  | .l1dLfbHitWrFprfm => [.l1dLfbHitRwFprfm]
  | .l2dLfbHitWrFprfm => [.l2dLfbHitRwFprfm]
  | .l3dLfbHitWrFprfm => [.l3dLfbHitRwFprfm]
  | .llLfbHitWrFprfm => [.llLfbHitRwFprfm]
  | .l1dLfbHitRwFprfm => [.l1dLfbHitRwFprf]
  | .l2dLfbHitRwFprfm => [.l2dLfbHitRwFprf]
  | .l3dLfbHitRwFprfm => [.l3dLfbHitRwFprf]
  | .llLfbHitRwFprfm => [.llLfbHitRwFprf]
  | .l1iLfbHitRdFhwprf => [.l1iLfbHitRdFprf]
  | .l2iLfbHitRdFhwprf => [.l2iLfbHitRdFprf]
  | .l1dLfbHitRdFhwprf => [.l1dLfbHitRwFhwprf]
  | .l2dLfbHitRdFhwprf => [.l2dLfbHitRwFhwprf]
  | .l3dLfbHitRdFhwprf => [.l3dLfbHitRwFhwprf]
  | .llLfbHitRdFhwprf => [.llLfbHitRwFhwprf]
  | .l1dLfbHitWrFhwprf => [.l1dLfbHitRwFhwprf]
  | .l2dLfbHitWrFhwprf => [.l2dLfbHitRwFhwprf]
  | .l3dLfbHitWrFhwprf => [.l3dLfbHitRwFhwprf]
  | .llLfbHitWrFhwprf => [.llLfbHitRwFhwprf]
  | .l1dLfbHitRwFhwprf => [.l1dLfbHitRwFprf]
  | .l2dLfbHitRwFhwprf => [.l2dLfbHitRwFprf]
  | .l3dLfbHitRwFhwprf => [.l3dLfbHitRwFprf]
  | .llLfbHitRwFhwprf => [.llLfbHitRwFprf]
  | .l1iLfbHitRdFprf => [.l1iLfbHitRd]
  | .l2iLfbHitRdFprf => [.l2iLfbHitRd]
  | .l1dLfbHitRdFprf => [.l1dLfbHitRwFprf]
  | .l2dLfbHitRdFprf => [.l2dLfbHitRwFprf]
  | .l3dLfbHitRdFprf => [.l3dLfbHitRwFprf]
  | .llLfbHitRdFprf => [.llLfbHitRwFprf]
  | .l1dLfbHitWrFprf => [.l1dLfbHitRwFprf]
  | .l2dLfbHitWrFprf => [.l2dLfbHitRwFprf]
  | .l3dLfbHitWrFprf => [.l3dLfbHitRwFprf]
  | .llLfbHitWrFprf => [.llLfbHitRwFprf]
  | .l1dLfbHitRwFprf => [.l1dLfbHitRw]
  | .l2dLfbHitRwFprf => [.l2dLfbHitRw]
  | .l3dLfbHitRwFprf => [.l3dLfbHitRw]
  | .llLfbHitRwFprf => [.llLfbHitRw]
  | .l1iCachePrf => [.l1iCache]
  | .l2iCachePrf => [.l2iCache]
  | .l1dCachePrf => [.l1dCache]
  | .l2dCachePrf => [.l2dCache]
  | .l3dCachePrf => [.l3dCache]
  | .llCachePrf => [.llCache]
  | .l1iCacheRefillPrf => [.l1iCachePrf]
  | .l2iCacheRefillPrf => [.l2iCachePrf]
  | .l1dCacheRefillPrf => [.l1dCachePrf]
  | .l2dCacheRefillPrf => [.l2dCachePrf]
  | .l3dCacheRefillPrf => [.l3dCachePrf]
  | .llCacheRefillPrf => [.llCachePrf]
  | .isnpHitNearPrf => [.isnpHitPrf]
  | .isnpHitFarPrf => [.isnpHitPrf]
  | .isnpHitRemotePrf => [.isnpHitPrf]
  | .dsnpHitNearPrf => [.dsnpHitPrf]
  | .dsnpHitFarPrf => [.dsnpHitPrf]
  | .dsnpHitRemotePrf => [.dsnpHitPrf]
  | .llCacheRw => [.llCache]
  | .llCachePrfm => [.llCachePrf]
  | .llCacheRefill => [.llCache]
  | .llCacheRefillPrfm => [.llCachePrfm]
  | .memAccessRw => [.memAccess]
  | .instFetchRd => [.instFetch]
  | .memAccessPrfm => [.memAccess]
  | .instFetchPrfm => [.instFetch]
  | .l1iCacheMissRetired => [.instRetired]
  | .l2iCacheMissRetired => [.instRetired]
  | .l1dCacheMissLdRetired => [.l1dCacheMissLdstRetired]
  | .l2dCacheMissLdRetired => [.l2dCacheMissLdstRetired]
  | .l3dCacheMissLdRetired => [.l3dCacheMissLdstRetired]
  | .llCacheMissLdRetired => [.llCacheMissLdstRetired]
  | .l1dCacheMissStRetired => [.l1dCacheMissLdstRetired]
  | .l2dCacheMissStRetired => [.l2dCacheMissLdstRetired]
  | .l3dCacheMissStRetired => [.l3dCacheMissLdstRetired]
  | .llCacheMissStRetired => [.llCacheMissLdstRetired]
  | .l1dCacheMissLdstRetired => [.ldstAnyRetired]
  | .l2dCacheMissLdstRetired => [.ldstAnyRetired]
  | .l3dCacheMissLdstRetired => [.ldstAnyRetired]
  | .llCacheMissLdstRetired => [.ldstAnyRetired]
  | .l1dCacheHitmLdRetired => [.l1dCacheHitmLdstRetired]
  | .l2dCacheHitmLdRetired => [.l2dCacheHitmLdstRetired]
  | .l3dCacheHitmLdRetired => [.l3dCacheHitmLdstRetired]
  | .llCacheHitmLdRetired => [.llCacheHitmLdstRetired]
  | .l1dCacheHitmStRetired => [.l1dCacheHitmLdstRetired]
  | .l2dCacheHitmStRetired => [.l2dCacheHitmLdstRetired]
  | .l3dCacheHitmStRetired => [.l3dCacheHitmLdstRetired]
  | .llCacheHitmStRetired => [.llCacheHitmLdstRetired]
  | .l1dCacheHitmLdstRetired => [.l1dCacheHitLdstRetired]
  | .l2dCacheHitmLdstRetired => [.l2dCacheHitLdstRetired]
  | .l3dCacheHitmLdstRetired => [.l3dCacheHitLdstRetired]
  | .llCacheHitmLdstRetired => [.llCacheHitLdstRetired]
  | .l1iLfbHitRetired => [.l1iCacheHitRetired]
  | .l2iLfbHitRetired => [.l2iCacheHitRetired]
  | .l1dLfbHitLdRetired => [.l1dLfbHitLdstRetired]
  | .l2dLfbHitLdRetired => [.l2dLfbHitLdstRetired]
  | .l3dLfbHitLdRetired => [.l3dLfbHitLdstRetired]
  | .llLfbHitLdRetired => [.llLfbHitLdstRetired]
  | .l1dLfbHitStRetired => [.l1dLfbHitLdstRetired]
  | .l2dLfbHitStRetired => [.l2dLfbHitLdstRetired]
  | .l3dLfbHitStRetired => [.l3dLfbHitLdstRetired]
  | .llLfbHitStRetired => [.llLfbHitLdstRetired]
  | .l1dLfbHitLdstRetired => [.l1dCacheHitLdstRetired]
  | .l2dLfbHitLdstRetired => [.l2dCacheHitLdstRetired]
  | .l3dLfbHitLdstRetired => [.l3dCacheHitLdstRetired]
  | .llLfbHitLdstRetired => [.llCacheHitLdstRetired]
  | .l1iCacheHitRetired => [.instRetired]
  | .l2iCacheHitRetired => [.instRetired]
  | .l1dCacheHitLdRetired => [.l1dCacheHitLdstRetired]
  | .l2dCacheHitLdRetired => [.l2dCacheHitLdstRetired]
  | .l3dCacheHitLdRetired => [.l3dCacheHitLdstRetired]
  | .llCacheHitLdRetired => [.llCacheHitLdstRetired]
  | .l1dCacheHitStRetired => [.l1dCacheHitLdstRetired]
  | .l2dCacheHitStRetired => [.l2dCacheHitLdstRetired]
  | .l3dCacheHitStRetired => [.l3dCacheHitLdstRetired]
  | .llCacheHitStRetired => [.llCacheHitLdstRetired]
  | .l1dCacheHitLdstRetired => [.ldstAnyRetired]
  | .l2dCacheHitLdstRetired => [.ldstAnyRetired]
  | .l3dCacheHitLdstRetired => [.ldstAnyRetired]
  | .llCacheHitLdstRetired => [.ldstAnyRetired]
  | .itlbHitRetired => [.instRetired]
  | .dtlbHitLdRetired => [.dtlbHitLdstRetired]
  | .dtlbHitStRetired => [.dtlbHitLdstRetired]
  | .dtlbHitLdstRetired => [.ldstAnyRetired]
  | .itlbWalkRetired => [.instRetired]
  | .dtlbWalkLdRetired => [.dtlbWalkLdstRetired]
  | .dtlbWalkStRetired => [.dtlbWalkLdstRetired]
  | .dtlbWalkLdstRetired => [.ldstAnyRetired]
  | .dtlbWalkPrf => [.l1dTlbPrf]
  | .itlbWalkPrf => [.l1iTlbPrf]
  | .dtlbWalkHwprf => [.l1dTlbHwprf]
  | .itlbWalkHwprf => [.l1iTlbHwprf]
  | .l1dTlbPrf => [.l1dTlb]
  | .l1iTlbPrf => [.l1iTlb]
  | .l1dTlbHwprf => [.l1dTlbPrf]
  | .l1iTlbHwprf => [.l1iTlbPrf]
  | .dsnpHitmLdRetired => [.dsnpHitmLdstRetired]
  | .dsnpHitmNearLdRetired => [.dsnpHitmNearLdstRetired]
  | .dsnpHitmFarLdRetired => [.dsnpHitmFarLdstRetired]
  | .dsnpHitmRemoteLdRetired => [.dsnpHitmRemoteLdstRetired]
  | .dsnpHitmStRetired => [.dsnpHitmLdstRetired]
  | .dsnpHitmNearStRetired => [.dsnpHitmNearLdstRetired]
  | .dsnpHitmFarStRetired => [.dsnpHitmFarLdstRetired]
  | .dsnpHitmRemoteStRetired => [.dsnpHitmRemoteLdstRetired]
  | .dsnpHitmLdstRetired => [.ldstAnyRetired]
  | .dsnpHitmNearLdstRetired => [.dsnpHitmLdstRetired]
  | .dsnpHitmFarLdstRetired => [.dsnpHitmLdstRetired]
  | .dsnpHitmRemoteLdstRetired => [.dsnpHitmLdstRetired]
  | .isnpHitRetired => [.instRetired]
  | .isnpHitNearRetired => [.isnpHitRetired]
  | .isnpHitFarRetired => [.isnpHitRetired]
  | .isnpHitRemoteRetired => [.isnpHitRetired]
  | .dsnpHitLdRetired => [.dsnpHitLdstRetired]
  | .dsnpHitNearLdRetired => [.dsnpHitNearLdstRetired]
  | .dsnpHitFarLdRetired => [.dsnpHitFarLdstRetired]
  | .dsnpHitRemoteLdRetired => [.dsnpHitRemoteLdstRetired]
  | .dsnpHitStRetired => [.dsnpHitLdstRetired]
  | .dsnpHitNearStRetired => [.dsnpHitNearLdstRetired]
  | .dsnpHitFarStRetired => [.dsnpHitFarLdstRetired]
  | .dsnpHitRemoteStRetired => [.dsnpHitRemoteLdstRetired]
  | .dsnpHitLdstRetired => [.ldstAnyRetired]
  | .dsnpHitNearLdstRetired => [.dsnpHitLdstRetired]
  | .dsnpHitFarLdstRetired => [.dsnpHitLdstRetired]
  | .dsnpHitRemoteLdstRetired => [.dsnpHitLdstRetired]
  | .remoteCacheHitmRd => [.remoteCacheHitRd]
  | .remoteLfbHitRd => [.remoteCacheHitRd]
  | .stallBackendAtomicFp => [.stallBackendAtomic]
  | .lseFpLdSpec => [.lseFpLdstSpec]
  | .lseFpStSpec => [.lseFpLdstSpec]
  | .lseFpLdstSpec => [.lseLdstSpec]
  | .l1gcsCacheRw => [.l1gcsCache]
  | .l1gcsCacheHwprf => [.l1gcsCache]
  | .l1gcsCacheMiss => [.l1gcsCacheRw]
  | .l1gcsCacheMissRd => [.l1gcsCacheMiss]
  | .l1gcsCacheHitRw => [.l1gcsCacheRw]
  | .l1gcsCacheHitRwFhwprf => [.l1gcsCacheHitRw]
  | .l1gcsCacheRefill => [.l1gcsCache]
  | .l1gcsCacheRefillHwprf => [.l1gcsCacheHwprf]
  | .l1gcsLfbHitRw => [.l1gcsCacheHitRw]
  | .l1gcsLfbHitRwFhwprf => [.l1gcsLfbHitRw]
  | .l1gcsTlbRw => [.l1gcsTlb]
  | .l1gcsTlbHwprf => [.l1gcsTlb]
  | .gcstlbWalk => [.l1gcsTlb]
  | .sampleFeedFp => [.sampleFeed]
  | .sampleFeedSimd => [.sampleFeed]
  | .stallBackendL1gcs => [.stallBackendMembound]
  | .stallBackendGcstlb => [.stallBackendMembound]
  | .smeFpSpec => [.seFpSpec]
  | .seFpSpec => [.fpSpec]
  | .sveCmpIgranuleSpec => [.sveSpec]
  | .sveCmpXgranuleSpec => [.sveSpec]
  | .sveBitpermSpec => [.sveSpec]
  | .smeSpec => [.seSpec]
  | .seSpec => [.instSpec]
  | .smeInstSpec => [.seInstSpec]
  | .seInstSpec => [.instSpec]
  | .smeInt8Spec => [.smeIntSpec]
  | .seInt8Spec => [.seIntSpec]
  | .smeFpBf16Spec => [.smeFpSpec]
  | .seFpBf16Spec => [.seFpSpec]
  | .smeInt16Spec => [.smeIntSpec]
  | .seInt16Spec => [.seIntSpec]
  | .smeFpHpSpec => [.smeFpSpec]
  | .seFpHpSpec => [.seFpSpec]
  | .smeInt32Spec => [.smeIntSpec]
  | .seInt32Spec => [.seIntSpec]
  | .smeFpSpSpec => [.smeFpSpec]
  | .seFpSpSpec => [.seFpSpec]
  | .smeInt64Spec => [.smeIntSpec]
  | .seInt64Spec => [.seIntSpec]
  | .smeFpDpSpec => [.smeFpSpec]
  | .seFpDpSpec => [.seFpSpec]
  | .smeFpAddsubSpec => [.seFpAddsubSpec]
  | .seFpAddsubSpec => [.seFpSpec]
  | .smeFpFmaSpec => [.seFpFmaSpec]
  | .seFpFmaSpec => [.seFpSpec]
  | .smeFpDotSpec => [.seFpDotSpec]
  | .seFpDotSpec => [.seFpSpec]
  | .smeFpMopaSpec => [.seFpSpec]
  | .smeIntSpec => [.seIntSpec]
  | .seIntSpec => [.intSpec]
  | .smeIntMulSpec => [.seIntMulSpec]
  | .seIntMulSpec => [.seIntSpec]
  | .smeIntDotSpec => [.seIntDotSpec]
  | .seIntDotSpec => [.seIntSpec]
  | .smeIntMopaSpec => [.seIntSpec]
  | .zaActive => [.cpuCycles]
  | .smePred2NotFullSpec => [.smePred2Spec]
  | .smePred2Spec => [.svePredSpec]
  | .smePred2EmptySpec => [.smePred2NotFullSpec]
  | .smePred2FullSpec => [.smePred2Spec]
  | .smePred2PartialSpec => [.smePred2NotFullSpec]
  | .smeLdstZaregSpec => [.smeLdstRegSpec]
  | .smeLdZaregSpec => [.smeLdstZaregSpec]
  | .smeStZaregSpec => [.smeLdstZaregSpec]
  | .smeLdstZtregSpec => [.smeLdstRegSpec]
  | .smeLdZtregSpec => [.smeLdstZtregSpec]
  | .smeStZtregSpec => [.smeLdstZtregSpec]
  | .smeLdstRegSpec => [.smeInstSpec]
  | .smeLdRegSpec => [.smeLdstRegSpec]
  | .smeStRegSpec => [.smeLdstRegSpec]
  | .smeLdstTileSpec => [.smeInstSpec]
  | .smeLdTileSpec => [.smeLdstTileSpec]
  | .smeStTileSpec => [.smeLdstTileSpec]
  | .aseLutSpec => [.seLutSpec]
  | .sveLutSpec => [.seLutSpec]
  | .smeLutSpec => [.seLutSpec]
  | .seLutSpec => [.seInstSpec]
  | .n1Cache1HitRd => [.n1CacheHitRd]
  | .n2Cache1HitRd => [.n2CacheHitRd]
  | .n3Cache1HitRd => [.n3CacheHitRd]
  | .n4Cache1HitRd => [.n4CacheHitRd]
  | .n1Cache1HitPrfm => [.n1CacheHitPrfm]
  | .n2Cache1HitPrfm => [.n2CacheHitPrfm]
  | .n3Cache1HitPrfm => [.n3CacheHitPrfm]
  | .n4Cache1HitPrfm => [.n4CacheHitPrfm]
  | .n1Cache2HitRd => [.n1CacheHitRd]
  | .n2Cache2HitRd => [.n2CacheHitRd]
  | .n3Cache2HitRd => [.n3CacheHitRd]
  | .n4Cache2HitRd => [.n4CacheHitRd]
  | .n1Cache2HitPrfm => [.n1CacheHitPrfm]
  | .n2Cache2HitPrfm => [.n2CacheHitPrfm]
  | .n3Cache2HitPrfm => [.n3CacheHitPrfm]
  | .n4Cache2HitPrfm => [.n4CacheHitPrfm]
  | .n1Cache3HitRd => [.n1CacheHitRd]
  | .n2Cache3HitRd => [.n2CacheHitRd]
  | .n3Cache3HitRd => [.n3CacheHitRd]
  | .n4Cache3HitRd => [.n4CacheHitRd]
  | .n1Cache3HitPrfm => [.n1CacheHitPrfm]
  | .n2Cache3HitPrfm => [.n2CacheHitPrfm]
  | .n3Cache3HitPrfm => [.n3CacheHitPrfm]
  | .n4Cache3HitPrfm => [.n4CacheHitPrfm]
  | .n1CacheHitmRd => [.n1CacheHitRd]
  | .n2CacheHitmRd => [.n2CacheHitRd]
  | .n3CacheHitmRd => [.n3CacheHitRd]
  | .n4CacheHitmRd => [.n4CacheHitRd]
  | .n1LfbHitRd => [.n1CacheHitRd]
  | .n2LfbHitRd => [.n2CacheHitRd]
  | .n3LfbHitRd => [.n3CacheHitRd]
  | .n4LfbHitRd => [.n4CacheHitRd]
  | .n1Cache1HitmRd => [.n1CacheHitmRd]
  | .n2Cache1HitmRd => [.n2CacheHitmRd]
  | .n3Cache1HitmRd => [.n3CacheHitmRd]
  | .n4Cache1HitmRd => [.n4CacheHitmRd]
  | .n1Lfb1HitRd => [.n1LfbHitRd]
  | .n2Lfb1HitRd => [.n2LfbHitRd]
  | .n3Lfb1HitRd => [.n3LfbHitRd]
  | .n4Lfb1HitRd => [.n4LfbHitRd]
  | .n1Cache2HitmRd => [.n1CacheHitmRd]
  | .n2Cache2HitmRd => [.n2CacheHitmRd]
  | .n3Cache2HitmRd => [.n3CacheHitmRd]
  | .n4Cache2HitmRd => [.n4CacheHitmRd]
  | .n1Lfb2HitRd => [.n1LfbHitRd]
  | .n2Lfb2HitRd => [.n2LfbHitRd]
  | .n3Lfb2HitRd => [.n3LfbHitRd]
  | .n4Lfb2HitRd => [.n4LfbHitRd]
  | .n1Cache3HitmRd => [.n1CacheHitmRd]
  | .n2Cache3HitmRd => [.n2CacheHitmRd]
  | .n3Cache3HitmRd => [.n3CacheHitmRd]
  | .n4Cache3HitmRd => [.n4CacheHitmRd]
  | .n1Lfb3HitRd => [.n1LfbHitRd]
  | .n2Lfb3HitRd => [.n2LfbHitRd]
  | .n3Lfb3HitRd => [.n3LfbHitRd]
  | .n4Lfb3HitRd => [.n4LfbHitRd]
  | .n1Mem1Rd => [.n1MemRd]
  | .n2Mem1Rd => [.n2MemRd]
  | .n3Mem1Rd => [.n3MemRd]
  | .n4Mem1Rd => [.n4MemRd]
  | .n1Mem1Prfm => [.n1MemPrfm]
  | .n2Mem1Prfm => [.n2MemPrfm]
  | .n3Mem1Prfm => [.n3MemPrfm]
  | .n4Mem1Prfm => [.n4MemPrfm]
  | .n1Mem2Rd => [.n1MemRd]
  | .n2Mem2Rd => [.n2MemRd]
  | .n3Mem2Rd => [.n3MemRd]
  | .n4Mem2Rd => [.n4MemRd]
  | .n1Mem2Prfm => [.n1MemPrfm]
  | .n2Mem2Prfm => [.n2MemPrfm]
  | .n3Mem2Prfm => [.n3MemPrfm]
  | .n4Mem2Prfm => [.n4MemPrfm]
  | .n1Mem3Rd => [.n1MemRd]
  | .n2Mem3Rd => [.n2MemRd]
  | .n3Mem3Rd => [.n3MemRd]
  | .n4Mem3Rd => [.n4MemRd]
  | .n1Mem3Prfm => [.n1MemPrfm]
  | .n2Mem3Prfm => [.n2MemPrfm]
  | .n3Mem3Prfm => [.n3MemPrfm]
  | .n4Mem3Prfm => [.n4MemPrfm]
  | .isnpHitN1Rd => [.isnpHitRd]
  | .isnpHitN2Rd => [.isnpHitRd]
  | .isnpHitN3Rd => [.isnpHitRd]
  | .isnpHitN4Rd => [.isnpHitRd]
  | .dsnpHitN1Rd => [.dsnpHitRd]
  | .dsnpHitN2Rd => [.dsnpHitRd]
  | .dsnpHitN3Rd => [.dsnpHitRd]
  | .dsnpHitN4Rd => [.dsnpHitRd]
  | .dsnpHitN1Wr => [.dsnpHitWr]
  | .dsnpHitN2Wr => [.dsnpHitWr]
  | .dsnpHitN3Wr => [.dsnpHitWr]
  | .dsnpHitN4Wr => [.dsnpHitWr]
  | .dsnpHitN1Rw => [.dsnpHitRw]
  | .dsnpHitN2Rw => [.dsnpHitRw]
  | .dsnpHitN3Rw => [.dsnpHitRw]
  | .dsnpHitN4Rw => [.dsnpHitRw]
  | .dsnpHitN1Prfm => [.dsnpHitPrfm]
  | .dsnpHitN2Prfm => [.dsnpHitPrfm]
  | .dsnpHitN3Prfm => [.dsnpHitPrfm]
  | .dsnpHitN4Prfm => [.dsnpHitPrfm]
  | .dsnpHitN1Hwprf => [.dsnpHitHwprf]
  | .dsnpHitN2Hwprf => [.dsnpHitHwprf]
  | .dsnpHitN3Hwprf => [.dsnpHitHwprf]
  | .dsnpHitN4Hwprf => [.dsnpHitHwprf]
  | .isnpHitN1Prfm => [.isnpHitPrfm]
  | .isnpHitN2Prfm => [.isnpHitPrfm]
  | .isnpHitN3Prfm => [.isnpHitPrfm]
  | .isnpHitN4Prfm => [.isnpHitPrfm]
  | .isnpHitN1Hwprf => [.isnpHitHwprf]
  | .isnpHitN2Hwprf => [.isnpHitHwprf]
  | .isnpHitN3Hwprf => [.isnpHitHwprf]
  | .isnpHitN4Hwprf => [.isnpHitHwprf]
  | .dsnpHitN1Prf => [.dsnpHitPrf]
  | .dsnpHitN2Prf => [.dsnpHitPrf]
  | .dsnpHitN3Prf => [.dsnpHitPrf]
  | .dsnpHitN4Prf => [.dsnpHitPrf]
  | .isnpHitN1Prf => [.isnpHitPrf]
  | .isnpHitN2Prf => [.isnpHitPrf]
  | .isnpHitN3Prf => [.isnpHitPrf]
  | .isnpHitN4Prf => [.isnpHitPrf]
  | .isnpHitN1 => [.isnpHit]
  | .isnpHitN2 => [.isnpHit]
  | .isnpHitN3 => [.isnpHit]
  | .isnpHitN4 => [.isnpHit]
  | .dsnpHitN1 => [.dsnpHit]
  | .dsnpHitN2 => [.dsnpHit]
  | .dsnpHitN3 => [.dsnpHit]
  | .dsnpHitN4 => [.dsnpHit]
  | .aseFpVreduceSpec => [.aseSveFpVreduceSpec]
  | .sveFpPreduceSpec => [.sveFpVreduceSpec]
  | .dsnpHitmN1Rd => [.dsnpHitN1Rd]
  | .dsnpHitmN2Rd => [.dsnpHitN2Rd]
  | .dsnpHitmN3Rd => [.dsnpHitN3Rd]
  | .dsnpHitmN4Rd => [.dsnpHitN4Rd]
  | .dsnpHitmN1Wr => [.dsnpHitN1Wr]
  | .dsnpHitmN2Wr => [.dsnpHitN2Wr]
  | .dsnpHitmN3Wr => [.dsnpHitN3Wr]
  | .dsnpHitmN4Wr => [.dsnpHitN4Wr]
  | .dsnpHitmN1Rw => [.dsnpHitN1Rw]
  | .dsnpHitmN2Rw => [.dsnpHitN2Rw]
  | .dsnpHitmN3Rw => [.dsnpHitN3Rw]
  | .dsnpHitmN4Rw => [.dsnpHitN4Rw]
  | .aseFpSpMinSpec => [.aseSveFpSpMinSpec]
  | .aseFpHpMinSpec => [.aseSveFpHpMinSpec]
  | .aseFpBf16MinSpec => [.aseSveFpBf16MinSpec]
  | .aseFpFp8MinSpec => [.aseSveFpFp8MinSpec]
  | .aseSveFpSpMinSpec => [.seFpSpMinSpec]
  | .aseSveFpHpMinSpec => [.seFpHpMinSpec]
  | .aseSveFpBf16MinSpec => [.seFpBf16MinSpec]
  | .aseSveFpFp8MinSpec => [.seFpFp8MinSpec]
  | .seFpSpMinSpec => [.fpSpMinSpec]
  | .seFpHpMinSpec => [.fpHpMinSpec]
  | .seFpBf16MinSpec => [.fpBf16MinSpec]
  | .seFpFp8MinSpec => [.fpFp8MinSpec]
  | .smeFpSpMinSpec => [.seFpSpMinSpec]
  | .smeFpHpMinSpec => [.seFpHpMinSpec]
  | .smeFpBf16MinSpec => [.seFpBf16MinSpec]
  | .smeFpFp8MinSpec => [.seFpFp8MinSpec]
  | .sveFpSpMinSpec => [.aseSveFpSpMinSpec]
  | .sveFpHpMinSpec => [.aseSveFpHpMinSpec]
  | .sveFpBf16MinSpec => [.aseSveFpBf16MinSpec]
  | .sveFpFp8MinSpec => [.aseSveFpFp8MinSpec]
  | .fpSpMinSpec => [.fpSpec]
  | .fpHpMinSpec => [.fpSpec]
  | .fpBf16MinSpec => [.fpSpec]
  | .fpFp8MinSpec => [.fpSpec]
  | _ => []

/-- X and Y with "Occ(E) = Occ(X) ∩ Occ(Y)" (R122, row 2). -/
def intersectionOf : Instr → Option (Instr × Instr)
  | .brImmedTakenRetired => some (.brImmedRetired, .pcWriteRetired)
  | .brImmedSkipRetired => some (.brImmedRetired, .brSkipRetired)
  | .brIndTakenRetired => some (.brIndRetired, .pcWriteRetired)
  | .brIndSkipRetired => some (.brIndRetired, .brSkipRetired)
  | .brIndnrSkipRetired => some (.brIndnrRetired, .brSkipRetired)
  | .brReturnSkipRetired => some (.brReturnAnyRetired, .brSkipRetired)
  | .blIndTakenRetired => some (.blTakenRetired, .brIndTakenRetired)
  | .brnlIndTakenRetired => some (.brnlTakenRetired, .brIndTakenRetired)
  | .blImmedTakenRetired => some (.blTakenRetired, .brImmedTakenRetired)
  | .brnlImmedTakenRetired => some (.brnlTakenRetired, .brImmedTakenRetired)
  | .brCondTakenRetired => some (.brCondRetired, .pcWriteRetired)
  | .llCacheMissRd => some (.llCacheMiss, .llCacheRd)
  | .l1dCacheRefillRd => some (.l1dCacheRd, .l1dCacheRefill)
  | .l1dCacheRefillWr => some (.l1dCacheRefill, .l1dCacheWr)
  | .l1dTlbRefillRd => some (.l1dTlbRd, .l1dTlbRefill)
  | .l1dTlbRefillWr => some (.l1dTlbRefill, .l1dTlbWr)
  | .l2dCacheRefillRd => some (.l2dCacheRd, .l2dCacheRefill)
  | .l2dCacheRefillWr => some (.l2dCacheRefill, .l2dCacheWr)
  | .l2dTlbRefillRd => some (.l2dTlbRd, .l2dTlbRefill)
  | .l2dTlbRefillWr => some (.l2dTlbRefill, .l2dTlbWr)
  | .l3dCacheRefillRd => some (.l3dCacheRd, .l3dCacheRefill)
  | .l3dCacheRefillWr => some (.l3dCacheRefill, .l3dCacheWr)
  | .brImmedPredRetired => some (.brImmedRetired, .brPredRetired)
  | .brImmedMisPredRetired => some (.brImmedRetired, .brMisPredRetired)
  | .brIndPredRetired => some (.brIndRetired, .brPredRetired)
  | .brIndMisPredRetired => some (.brIndRetired, .brMisPredRetired)
  | .brTakenPredRetired => some (.brPredRetired, .pcWriteRetired)
  | .brTakenMisPredRetired => some (.brMisPredRetired, .pcWriteRetired)
  | .brSkipPredRetired => some (.brPredRetired, .brSkipRetired)
  | .brSkipMisPredRetired => some (.brMisPredRetired, .brSkipRetired)
  | .brHintCondPredRetired => some (.brHintCondRetired, .brPredRetired)
  | .brHintCondMisPredRetired => some (.brHintCondRetired, .brMisPredRetired)
  | .llCacheRefillWr => some (.llCacheRefill, .llCacheWr)
  | .gcstlbWalkRw => some (.gcstlbWalk, .l1gcsTlbRw)
  | _ => none

/-- X and Y with "Occ(E) = Occ(X) \ Occ(Y)" (R122, row 3). -/
def differenceOf : Instr → Option (Instr × Instr)
  | .brIndnrRetired => some (.brIndRetired, .brReturnAnyRetired)
  | .brnlIndnrTakenRetired => some (.brnlIndTakenRetired, .brReturnRetired)
  | .brnlTakenRetired => some (.pcWriteRetired, .blTakenRetired)
  | .brUncondRetired => some (.brRetired, .brCondRetired)
  | .busAccessNotShared => some (.busAccess, .busAccessShared)
  | .busAccessPeriph => some (.busAccess, .busAccessNormal)
  | .brPredRetired => some (.brRetired, .brMisPredRetired)
  | _ => none

/-- X, Y and Z with "Occ(E) = Occ(X) ∪ Occ(Y) ∪ Occ(Z)" (R122, row 4). -/
def unionOf : Instr → Option (Instr × Instr × Instr)
  | .seFpSpec => some (.aseFpSpec, .sveFpSpec, .smeFpSpec)
  | .seInt8Spec => some (.aseInt8Spec, .sveInt8Spec, .smeInt8Spec)
  | .seInt16Spec => some (.aseInt16Spec, .sveInt16Spec, .smeInt16Spec)
  | .seFpHpSpec => some (.aseFpHpSpec, .sveFpHpSpec, .smeFpHpSpec)
  | .seInt32Spec => some (.aseInt32Spec, .sveInt32Spec, .smeInt32Spec)
  | .seFpSpSpec => some (.aseFpSpSpec, .sveFpSpSpec, .smeFpSpSpec)
  | .seInt64Spec => some (.aseInt64Spec, .sveInt64Spec, .smeInt64Spec)
  | .seFpDpSpec => some (.aseFpDpSpec, .sveFpDpSpec, .smeFpDpSpec)
  | .seFpAddsubSpec => some (.aseFpAddsubSpec, .sveFpAddsubSpec, .smeFpAddsubSpec)
  | .seFpFmaSpec => some (.aseFpFmaSpec, .sveFpFmaSpec, .smeFpFmaSpec)
  | .seFpDotSpec => some (.aseFpDotSpec, .sveFpDotSpec, .smeFpDotSpec)
  | .seIntSpec => some (.aseIntSpec, .sveIntSpec, .smeIntSpec)
  | .seIntMulSpec => some (.aseIntMulSpec, .sveIntMulSpec, .smeIntMulSpec)
  | .seIntDotSpec => some (.aseIntDotSpec, .sveIntDotSpec, .smeIntDotSpec)
  | _ => none

/-- X with "Occ(E) ∩ Occ(X) = ∅" (R122, row 5). -/
def excludes : Instr → List Instr
  | .excUndef => [.excSvc, .excSmc, .excHvc, .excPabort, .excDabort, .excIrq, .excFiq]
  | .excTrapOther => [.excSmc, .excHvc, .excTrapPabort, .excTrapDabort, .excTrapIrq, .excTrapFiq]
  | .brIndnrTakenRetired => [.brReturnRetired]
  | .fpScaleOpsSpec => [.fpFixedOpsSpec, .fpScale2OpsSpec]
  | .fpFixedOpsSpec => [.fpScaleOpsSpec, .fpScale2OpsSpec]
  | .fpHpScaleOpsSpec => [.fpFixedOpsSpec, .fpScale2OpsSpec]
  | .fpHpFixedOpsSpec => [.fpScaleOpsSpec, .fpScale2OpsSpec]
  | .fpSpScaleOpsSpec => [.fpFixedOpsSpec, .fpScale2OpsSpec]
  | .fpSpFixedOpsSpec => [.fpScaleOpsSpec, .fpScale2OpsSpec]
  | .fpDpScaleOpsSpec => [.fpFixedOpsSpec, .fpScale2OpsSpec]
  | .fpDpFixedOpsSpec => [.fpScaleOpsSpec, .fpScale2OpsSpec]
  | .intScaleOpsSpec => [.fpFixedOpsSpec, .fpScale2OpsSpec]
  | .intFixedOpsSpec => [.fpScaleOpsSpec, .fpScale2OpsSpec]
  | .fpScale2OpsSpec => [.fpFixedOpsSpec, .fpScaleOpsSpec]
  | .fpHpScale2OpsSpec => [.fpFixedOpsSpec, .fpScaleOpsSpec]
  | .fpBf16Scale2OpsSpec => [.fpFixedOpsSpec, .fpScaleOpsSpec]
  | .fpSpScale2OpsSpec => [.fpFixedOpsSpec, .fpScaleOpsSpec]
  | .fpDpScale2OpsSpec => [.fpFixedOpsSpec, .fpScaleOpsSpec]
  | .intScale2OpsSpec => [.fpFixedOpsSpec, .fpScaleOpsSpec]
  | .fpBf16ScaleOpsSpec => [.fpFixedOpsSpec, .fpScale2OpsSpec]
  | .fpBf16FixedOpsSpec => [.fpScaleOpsSpec, .fpScale2OpsSpec]
  | .fpSpFixedMinOpsSpec => [.fpScaleOpsSpec, .fpScale2OpsSpec]
  | .fpHpFixedMinOpsSpec => [.fpScaleOpsSpec, .fpScale2OpsSpec]
  | .fpBf16FixedMinOpsSpec => [.fpScaleOpsSpec, .fpScale2OpsSpec]
  | .fpFp8FixedMinOpsSpec => [.fpScaleOpsSpec, .fpScale2OpsSpec]
  | .fpSpScaleMinOpsSpec => [.fpFixedOpsSpec, .fpScale2OpsSpec]
  | .fpHpScaleMinOpsSpec => [.fpFixedOpsSpec, .fpScale2OpsSpec]
  | .fpBf16ScaleMinOpsSpec => [.fpFixedOpsSpec, .fpScale2OpsSpec]
  | .fpFp8ScaleMinOpsSpec => [.fpFixedOpsSpec, .fpScale2OpsSpec]
  | .fpSpScale2MinOpsSpec => [.fpFixedOpsSpec, .fpScaleOpsSpec]
  | .fpHpScale2MinOpsSpec => [.fpFixedOpsSpec, .fpScaleOpsSpec]
  | .fpBf16Scale2MinOpsSpec => [.fpFixedOpsSpec, .fpScaleOpsSpec]
  | .fpFp8Scale2MinOpsSpec => [.fpFixedOpsSpec, .fpScaleOpsSpec]
  | _ => []

/-- X and Y with "if implemented(X) then Occ(E) ⊆ Occ(X) else Occ(E) ⊆ Occ(Y)" (R122, row 6). -/
def conditionalParents : Instr → Option (Instr × Instr)
  | .llCacheMiss => some (.llCacheRw, .llCache)
  | .llCacheRd => some (.llCacheRw, .llCache)
  | .l1dCacheRd => some (.l1dCacheRw, .l1dCache)
  | .l1dCacheWr => some (.l1dCacheRw, .l1dCache)
  | .l1dTlbRd => some (.l1dTlbRw, .l1dTlb)
  | .l1dTlbWr => some (.l1dTlbRw, .l1dTlb)
  | .l2dCacheRd => some (.l2dCacheRw, .l2dCache)
  | .l2dCacheWr => some (.l2dCacheRw, .l2dCache)
  | .memAccessRd => some (.memAccessRw, .memAccess)
  | .memAccessWr => some (.memAccessRw, .memAccess)
  | .l3dCacheRd => some (.l3dCacheRw, .l3dCache)
  | .l3dCacheWr => some (.l3dCacheRw, .l3dCache)
  | .l1iCacheLmiss => some (.l1iCacheRd, .l1iCache)
  | .l2iCacheLmiss => some (.l2iCacheRd, .l2iCache)
  | .llCacheWr => some (.llCacheRw, .llCache)
  | _ => none

/-- The cache, TLB or bus of the sharing clause of the events that carry it, as R130 (55 events), R131 (38) and R138 (3) list them. Which TLB
"the TLB" of the clause is, where the entry names no level: log 71; which cache "the cache" is, where it names several: log 76. -/
def sharingClauseOf : Instr → Option Resource
  | .l1iCacheRefill => some .l1iCache
  | .l1iTlbRefill => some .l1iTlb
  | .l1dCacheRefill => some .l1dCache
  | .l1dCache => some .l1dCache
  | .l1dTlbRefill => some .l1dTlb
  | .l1iCache => some .l1iCache
  | .l2dCache => some .l2dCache
  | .l2dCacheRefill => some .l2dCache
  | .l1dTlb => some .l1dTlb
  | .l1iTlb => some .l1iTlb
  | .l2iCache => some .l2iCache
  | .l2iCacheRefill => some .l2iCache
  | .l3dCacheRefill => some .l3dCache
  | .l3dCache => some .l3dCache
  | .l2dTlbRefill => some .l2dTlb
  | .l2iTlbRefill => some .l2iTlb
  | .l2dTlb => some .l2dTlb
  | .l2iTlb => some .l2iTlb
  | .llCache => some .llCache
  | .llCacheMiss => some .llCache
  | .dtlbWalk => some .dtlb
  | .itlbWalk => some .itlb
  | .llCacheRd => some .llCache
  | .llCacheMissRd => some .llCache
  | .l1dCacheLmissRd => some .l1dCache
  | .l1dCacheRd => some .l1dCache
  | .l1dCacheWr => some .l1dCache
  | .l1dCacheRefillRd => some .l1dCache
  | .l1dCacheRefillWr => some .l1dCache
  | .l1dCacheRefillInner => some .l1dCache
  | .l1dCacheRefillOuter => some .l1dCache
  | .l1dTlbRefillRd => some .l1dTlb
  | .l1dTlbRefillWr => some .l1dTlb
  | .l1dTlbRd => some .l1dTlb
  | .l1dTlbWr => some .l1dTlb
  | .l2dCacheRd => some .l2dCache
  | .l2dCacheWr => some .l2dCache
  | .l2dCacheRefillRd => some .l2dCache
  | .l2dCacheRefillWr => some .l2dCache
  | .l2dTlbRefillRd => some .l2dTlb
  | .l2dTlbRefillWr => some .l2dTlb
  | .l2dTlbRd => some .l2dTlb
  | .l2dTlbWr => some .l2dTlb
  | .l3dCacheRd => some .l3dCache
  | .l3dCacheWr => some .l3dCache
  | .l3dCacheRefillRd => some .l3dCache
  | .l3dCacheRefillWr => some .l3dCache
  | .l1iCacheLmiss => some .l1iCache
  | .l2dCacheLmissRd => some .l2dCache
  | .l2iCacheLmiss => some .l2iCache
  | .l3dCacheLmissRd => some .l3dCache
  | .busReqRdPercyc => some .bus
  | .busReqWrPercyc => some .bus
  | .dtlbWalkPercyc => some .dtlb
  | .itlbWalkPercyc => some .itlb
  | .l1dTlbRw => some .l1dTlb
  | .l1iTlbRd => some .l1iTlb
  | .l1dTlbPrfm => some .l1dTlb
  | .l1iTlbPrfm => some .l1iTlb
  | .dtlbHwupd => some .dtlb
  | .itlbHwupd => some .itlb
  | .dtlbStep => some .dtlb
  | .itlbStep => some .itlb
  | .dtlbWalkLarge => some .dtlb
  | .itlbWalkLarge => some .itlb
  | .dtlbWalkSmall => some .dtlb
  | .itlbWalkSmall => some .itlb
  | .dtlbWalkRw => some .dtlb
  | .itlbWalkRd => some .itlb
  | .dtlbWalkPrfm => some .dtlb
  | .itlbWalkPrfm => some .itlb
  | .dtlbWalkBlock => some .dtlb
  | .itlbWalkBlock => some .itlb
  | .dtlbWalkPage => some .dtlb
  | .itlbWalkPage => some .itlb
  | .busReq => some .bus
  | .llCacheRefill => some .llCache
  | .llCacheWr => some .llCache
  | .llCacheRefillWr => some .llCache
  | .dtlbWalkPrf => some .dtlb
  | .itlbWalkPrf => some .itlb
  | .dtlbWalkHwprf => some .dtlb
  | .itlbWalkHwprf => some .itlb
  | .l1dTlbPrf => some .l1dTlb
  | .l1iTlbPrf => some .l1iTlb
  | .l1dTlbHwprf => some .l1dTlb
  | .l1iTlbHwprf => some .l1iTlb
  | .l1gcsCacheMissRd => some .l1gcsCache
  | .l1gcsCacheRefill => some .l1gcsCache
  | .l1gcsTlb => some .l1gcsTlb
  | .l1gcsTlbRw => some .l1gcsTlb
  | .l1gcsTlbHwprf => some .l1gcsTlb
  | .gcstlbWalk => some .gcstlb
  | .gcstlbWalkRw => some .gcstlb
  | .gcstlbWalkPercyc => some .gcstlb
  | .gcstlbWalkStep => some .gcstlb
  | _ => none

/-- A row of the table of 30_encoding.md R104: the first and the last number of a maximal run of consecutive assigned numbers, how many
there are, and the events of the two. -/
structure NumberRun where
  first : Nat
  last : Nat
  count : Nat
  firstEvent : Instr
  lastEvent : Instr
  deriving DecidableEq, Repr

/-- The table of 30_encoding.md R104, row by row. -/
def assignedRuns : List NumberRun :=
  [⟨0x0000, 0x0048, 73, .swIncr, .l1dCacheInval⟩,
    ⟨0x004C, 0x0053, 8, .l1dTlbRefillRd, .l2dCacheRefillWr⟩,
    ⟨0x0056, 0x0058, 3, .l2dCacheWbVictim, .l2dCacheInval⟩,
    ⟨0x005C, 0x006A, 15, .l2dTlbRefillRd, .unalignedLdstSpec⟩,
    ⟨0x006C, 0x007A, 15, .ldrexSpec, .brIndirectSpec⟩,
    ⟨0x007C, 0x007F, 4, .isbSpec, .csdbSpec⟩,
    ⟨0x0081, 0x0084, 4, .excUndef, .excDabort⟩,
    ⟨0x0086, 0x0088, 3, .excIrq, .excSmc⟩,
    ⟨0x008A, 0x0092, 9, .excHvc, .l3dCacheHitWrFextProp⟩,
    ⟨0x00A0, 0x00A3, 4, .l3dCacheRd, .l3dCacheRefillWr⟩,
    ⟨0x00A6, 0x00BF, 26, .l3dCacheWbVictim, .l2dCacheExtPropPrfmIr⟩,
    ⟨0x4000, 0x4006, 7, .samplePop, .l1iCacheLmiss⟩,
    ⟨0x4009, 0x4013, 11, .l2dCacheLmissRd, .trcextout3⟩,
    ⟨0x4018, 0x401B, 4, .ctiTrigout4, .ctiTrigout7⟩,
    ⟨0x4020, 0x4022, 3, .ldstAlignLat, .stAlignLat⟩,
    ⟨0x4024, 0x4026, 3, .memAccessChecked, .memAccessCheckedWr⟩,
    ⟨0x8000, 0x800C, 13, .simdInstRetired, .simdUopSpec⟩,
    ⟨0x800E, 0x800E, 1, .sveMathSpec, .sveMathSpec⟩,
    ⟨0x8010, 0x804F, 64, .fpSpec, .sveIntMulh64Spec⟩,
    ⟨0x8051, 0x8054, 4, .aseFpBf16Spec, .fpBf16Spec⟩,
    ⟨0x8056, 0x805B, 6, .sveSpec, .aseSveNonfpSpec⟩,
    ⟨0x805D, 0x8079, 29, .aseIntVreduceSpec, .svePredNotFullSpec⟩,
    ⟨0x807C, 0x808E, 19, .sveMovprfxSpec, .fpaseStRegSpec⟩,
    ⟨0x8090, 0x8092, 3, .sveLdstRegSpec, .sveStrRegSpec⟩,
    ⟨0x8094, 0x8096, 3, .sveLdstPregSpec, .sveStrPregSpec⟩,
    ⟨0x8098, 0x809A, 3, .sveLdstZregSpec, .sveStrZregSpec⟩,
    ⟨0x809C, 0x80A2, 7, .sveLdstContigSpec, .sveStntContigSpec⟩] ++
  [⟨0x80A4, 0x80A6, 3, .aseSveLdstMultiSpec, .aseSveStMultiSpec⟩,
    ⟨0x80A8, 0x80AA, 3, .sveLdstMultiSpec, .sveStMultiSpec⟩,
    ⟨0x80AC, 0x80B6, 11, .sveLdstNoncontigSpec, .aseSveUnalignedStSpec⟩,
    ⟨0x80B8, 0x80BA, 3, .aseSveUnalignedContigLdstSpec, .aseSveUnalignedContigStSpec⟩,
    ⟨0x80BC, 0x80BD, 2, .sveLdffSpec, .sveLdffFaultSpec⟩,
    ⟨0x80C0, 0x80D0, 17, .fpScaleOpsSpec, .fpScale2OpsSpec⟩,
    ⟨0x80D2, 0x80D4, 3, .fpHpScale2OpsSpec, .fpSpScale2OpsSpec⟩,
    ⟨0x80D6, 0x80D6, 1, .fpDpScale2OpsSpec, .fpDpScale2OpsSpec⟩,
    ⟨0x80D8, 0x80D8, 1, .intScale2OpsSpec, .intScale2OpsSpec⟩,
    ⟨0x80DA, 0x80DF, 6, .ldstScaleBytesSpec, .stFixedBytesSpec⟩,
    ⟨0x80E1, 0x80E3, 3, .aseInt8Spec, .aseSveInt8Spec⟩,
    ⟨0x80E5, 0x80EB, 7, .aseInt16Spec, .aseSveInt32Spec⟩,
    ⟨0x80ED, 0x80EF, 3, .aseInt64Spec, .aseSveInt64Spec⟩,
    ⟨0x80F1, 0x80F3, 3, .aseFpDotSpec, .aseSveFpDotSpec⟩,
    ⟨0x80F5, 0x80F7, 3, .aseFpMmlaSpec, .aseSveFpMmlaSpec⟩,
    ⟨0x80F9, 0x80FB, 3, .aseIntDotSpec, .aseSveIntDotSpec⟩,
    ⟨0x80FD, 0x80FF, 3, .aseIntMmlaSpec, .aseSveIntMmlaSpec⟩,
    ⟨0x8107, 0x815E, 88, .brSkipRetired, .stallBackendBusySmcuUnall⟩,
    ⟨0x8160, 0x8168, 9, .stallFrontendCpubound, .stallBackendSt⟩,
    ⟨0x816A, 0x8186, 29, .stallBackendCpubound, .uopRetired⟩,
    ⟨0x8188, 0x818B, 4, .dtlbWalkBlock, .itlbWalkPage⟩,
    ⟨0x818D, 0x81B9, 45, .busReqRd, .l2iCacheRefillHwprf⟩,
    ⟨0x81BC, 0x81C1, 6, .l1dCacheRefillHwprf, .l2iCacheHitRd⟩,
    ⟨0x81C4, 0x81D1, 14, .l1dCacheHitRd, .l2iCacheHitRdFprfm⟩,
    ⟨0x81D4, 0x81E1, 14, .l1dCacheHitRdFprfm, .l2iCacheHitRdFhwprf⟩,
    ⟨0x81E4, 0x81F1, 14, .l1dCacheHitRdFhwprf, .l2iCacheHitRdFprf⟩,
    ⟨0x81F4, 0x8201, 14, .l1dCacheHitRdFprf, .l2iCacheHit⟩] ++
  [⟨0x8204, 0x8209, 6, .l1dCacheHit, .l2iCacheHitPrfm⟩,
    ⟨0x820C, 0x820F, 4, .l1dCacheHitPrfm, .llCacheHitPrfm⟩,
    ⟨0x8214, 0x821F, 12, .l1dCacheHitmRd, .llCacheHitmRw⟩,
    ⟨0x8224, 0x8241, 30, .dsnpHitmRd, .l2iLfbHitRd⟩,
    ⟨0x8244, 0x8251, 14, .l1dLfbHitRd, .l2iLfbHitRdFprfm⟩,
    ⟨0x8254, 0x8261, 14, .l1dLfbHitRdFprfm, .l2iLfbHitRdFhwprf⟩,
    ⟨0x8264, 0x8271, 14, .l1dLfbHitRdFhwprf, .l2iLfbHitRdFprf⟩,
    ⟨0x8274, 0x8281, 14, .l1dLfbHitRdFprf, .l2iCachePrf⟩,
    ⟨0x8284, 0x8289, 6, .l1dCachePrf, .l2iCacheRefillPrf⟩,
    ⟨0x828C, 0x829D, 18, .l1dCacheRefillPrf, .llCacheWr⟩,
    ⟨0x829F, 0x82A4, 6, .llCacheRefillWr, .aseSveRetired⟩,
    ⟨0x82A8, 0x82B1, 10, .ldAnyRetired, .l2iCacheMissRetired⟩,
    ⟨0x82B3, 0x82BF, 13, .prfRetired, .llCacheMissLdstRetired⟩,
    ⟨0x82C4, 0x82D1, 14, .l1dCacheHitmLdRetired, .l2iLfbHitRetired⟩,
    ⟨0x82D4, 0x82E1, 14, .l1dLfbHitLdRetired, .l2iCacheHitRetired⟩,
    ⟨0x82E4, 0x82FF, 28, .l1dCacheHitLdRetired, .l1iTlbHwprf⟩,
    ⟨0x8304, 0x8322, 31, .dsnpHitmLdRetired, .l3dCacheRefillPercyc⟩,
    ⟨0x8324, 0x8325, 2, .l1iCacheRefillPercyc, .l2iCacheRefillPercyc⟩,
    ⟨0x8328, 0x8332, 11, .remoteCacheHitRd, .l1gcsCacheHwprf⟩,
    ⟨0x8334, 0x833A, 7, .l1gcsCacheMiss, .l1gcsCacheRefillPercyc⟩,
    ⟨0x833C, 0x833E, 3, .l1gcsLfbHitRw, .l1gcsCacheInval⟩,
    ⟨0x8340, 0x8342, 3, .l1gcsTlb, .l1gcsTlbHwprf⟩,
    ⟨0x8344, 0x8349, 6, .gcstlbWalk, .sampleFeedSimd⟩,
    ⟨0x8350, 0x8356, 7, .stallBackendL1gcs, .sveBitpermSpec⟩,
    ⟨0x8358, 0x8376, 31, .smeRetired, .smeFpMopaSpec⟩,
    ⟨0x8378, 0x837E, 7, .smeIntSpec, .smeIntMopaSpec⟩,
    ⟨0x8380, 0x8381, 2, .zaActive, .smePred2NotFullSpec⟩] ++
  [⟨0x8384, 0x838A, 7, .smePred2Spec, .smeStZaregSpec⟩,
    ⟨0x838C, 0x838E, 3, .smeLdstZtregSpec, .smeStZtregSpec⟩,
    ⟨0x8390, 0x8392, 3, .smeLdstRegSpec, .smeStRegSpec⟩,
    ⟨0x8394, 0x8396, 3, .smeLdstTileSpec, .smeStTileSpec⟩,
    ⟨0x8398, 0x839B, 4, .aseLutSpec, .seLutSpec⟩,
    ⟨0x83A0, 0x842F, 144, .n1CacheHitRd, .dsnpHitN4⟩,
    ⟨0x8431, 0x8432, 2, .aseFpVreduceSpec, .sveFpPreduceSpec⟩,
    ⟨0x8434, 0x8440, 13, .dsnpHitmN1Rd, .aseFpSpMinSpec⟩,
    ⟨0x8442, 0x8444, 3, .aseFpHpMinSpec, .aseFpFp8MinSpec⟩,
    ⟨0x8448, 0x8448, 1, .aseSveFpSpMinSpec, .aseSveFpSpMinSpec⟩,
    ⟨0x844A, 0x844C, 3, .aseSveFpHpMinSpec, .aseSveFpFp8MinSpec⟩,
    ⟨0x8450, 0x8450, 1, .seFpSpMinSpec, .seFpSpMinSpec⟩,
    ⟨0x8452, 0x8454, 3, .seFpHpMinSpec, .seFpFp8MinSpec⟩,
    ⟨0x8458, 0x8458, 1, .smeFpSpMinSpec, .smeFpSpMinSpec⟩,
    ⟨0x845A, 0x845C, 3, .smeFpHpMinSpec, .smeFpFp8MinSpec⟩,
    ⟨0x8460, 0x8460, 1, .sveFpSpMinSpec, .sveFpSpMinSpec⟩,
    ⟨0x8462, 0x8464, 3, .sveFpHpMinSpec, .sveFpFp8MinSpec⟩,
    ⟨0x846B, 0x846B, 1, .fpBf16FixedOpsSpec, .fpBf16FixedOpsSpec⟩,
    ⟨0x8470, 0x8470, 1, .fpSpMinSpec, .fpSpMinSpec⟩,
    ⟨0x8472, 0x8474, 3, .fpHpMinSpec, .fpFp8MinSpec⟩,
    ⟨0x8480, 0x8480, 1, .fpSpFixedMinOpsSpec, .fpSpFixedMinOpsSpec⟩,
    ⟨0x8482, 0x8484, 3, .fpHpFixedMinOpsSpec, .fpFp8FixedMinOpsSpec⟩,
    ⟨0x8488, 0x8488, 1, .fpSpScaleMinOpsSpec, .fpSpScaleMinOpsSpec⟩,
    ⟨0x848A, 0x848C, 3, .fpHpScaleMinOpsSpec, .fpFp8ScaleMinOpsSpec⟩,
    ⟨0x8490, 0x8490, 1, .fpSpScale2MinOpsSpec, .fpSpScale2MinOpsSpec⟩,
    ⟨0x8492, 0x8494, 3, .fpHpScale2MinOpsSpec, .fpFp8Scale2MinOpsSpec⟩]

end Sys2Proof.Machine
end

