-- ==== Sys2Proof/Safety.lean ====
section
/-!
DEFINITION. What a good state is: the terms the invariants are stated in.
-/

namespace Sys2Proof.Machine

/-- An event counter within its widths: the event number fits EVTCOUNT_WIDTH bits (30_encoding.md R94), the count the W bits of the
counter (10_state.md R27). -/
def Counter.fits (impl : Impl) (c : Counter) : Bool :=
  c.evtCount.toNat < 2 ^ impl.evtCountWidth && c.count.toNat < 2 ^ impl.counterWidth

/-- A PE has NUM_COUNTERS event counters (00_scope.md R6), each within its widths. -/
def Pe.fits (impl : Impl) (q : Pe) : Bool :=
  q.counters.length = impl.numCounters && q.counters.all (Counter.fits impl)

/-- The serial number of a happening's draws. -/
def Happening.serial : Happening → Option Nat
  | .occurs n _ => some n
  | .lowOverflow n _ => some n
  | .pmswincWrite _ _ _ _ => none
  | .overflow _ => none

/-- Draws of this happening are not drawn again by a later one. -/
def Happening.drawnBefore (d : Nat) (h : Happening) : Bool :=
  match h.serial with
  | some n => n < d
  | none => true

/-- The sink exists: a counter below NUM_COUNTERS of a PE, or a consumer of PMU_OVFS or PMU_HOVFS (30_encoding.md R102). -/
def Sink.exists? (s : State) : Sink → Bool
  | .counter p n => p < s.pes.length && n < s.impl.numCounters
  | .consumer w => w = ovfsWord || w = hovfsWord

/-- What a PE holds beside its event counters. -/
def Pe.registers (q : Pe) : Pe := { q with counters := [] }

/-- What software programs of a counter: all of it but the count. -/
def Counter.programmed (c : Counter) : Counter := { c with count := 0 }

/-- Bits [31:0] of a count overflow when `k` is added (40_common_event_rules.md R121). -/
def Overflows32 (old : CountWord) (k : Nat) : Prop := 2 ^ 32 ≤ old.toNat % 2 ^ 32 + k

/-- Bits [63:0] of a 64-bit counter overflow when `k` is added (R121). -/
def Overflows64 (impl : Impl) (old : CountWord) (k : Nat) : Prop := impl.has .pmuv3p5 = true ∧ 2 ^ 64 ≤ old.toNat + k

/-- `t` is `s` after one `Count` with increment `k` on counter n of PE p, which held `c`; `rest` is what was offered besides
(R121), and `withheld` lists the counters whose overflow the environment does not allow to be exported (R128). -/
structure CountedBy (s t : State) (p n : Nat) (c : Counter) (k : Nat) (withheld : List OverflowSource)
    (rest : List Offer) : Prop where
  /-- The count is the sum modulo 2^W; nothing else of the counter changes. -/
  counter : t.counter? p n =
    some { c with count := BitVec.ofNat 64 ((c.count.toNat + k) % 2 ^ (if s.impl.has .pmuv3p5 then 64 else 32)) }
  /-- No other counter changes. -/
  others : ∀ p' n', ¬(p' = p ∧ n' = n) → t.counter? p' n' = s.counter? p' n'
  /-- No other register of a PE changes. -/
  registers : t.pes.map Pe.registers = s.pes.map Pe.registers
  /-- Without overflow nothing more is offered. -/
  quiet : ¬Overflows32 c.count k → ¬Overflows64 s.impl c.count k → t.agenda = rest
  /-- An overflow is offered to the odd counter of the pair first, where there is one and bits [31:0] overflow, and then to the
  consumers of PMU_OVFS and PMU_HOVFS. -/
  overflow : ∀ w32 w64 : Bool, (w32 = true ↔ Overflows32 c.count k) → (w64 = true ↔ Overflows64 s.impl c.count k) →
    (w32 = true ∨ w64 = true) →
    ∃ pair, t.agenda
        = pair ++ overflowOffers
            { source := .counter p n, ovf32 := w32, ovf64 := w64, exportAllowed := !withheld.contains (.counter p n) } ++ rest
      ∧ (w32 = true ∧ n % 2 = 0 ∧ n + 1 < s.impl.numCounters →
          pair = [{ happening := .lowOverflow s.draws withheld, sink := .counter p (n + 1) }])
      ∧ (¬(w32 = true ∧ n % 2 = 0 ∧ n + 1 < s.impl.numCounters) → pair = [])
  /-- Nothing is answered or delivered, and one draw is used. -/
  fixed : t.impl = s.impl ∧ t.inputs = s.inputs ∧ t.out = s.out ∧ t.draws = s.draws + 1

/-- `t` is `s` after another count `v` in event counter n of PE p, which held `c`; `rest` is what was offered besides. -/
structure CountBecomes (s t : State) (p n : Nat) (c : Counter) (v : CountWord) (rest : List Offer) : Prop where
  /-- Nothing else of the counter changes. -/
  counter : t.counter? p n = some { c with count := v }
  /-- No other counter changes. -/
  others : ∀ p' n', ¬(p' = p ∧ n' = n) → t.counter? p' n' = s.counter? p' n'
  /-- No other register of a PE changes. -/
  registers : t.pes.map Pe.registers = s.pes.map Pe.registers
  /-- Nothing more is offered, answered or delivered. -/
  fixed : t.impl = s.impl ∧ t.inputs = s.inputs ∧ t.out = s.out ∧ t.draws = s.draws ∧ t.agenda = rest

/-- `t` is `s` after a host step that leaves PE p as `q` and the queue of inputs as `rest`, and does nothing else. -/
structure PeBecomes (s t : State) (p : Nat) (q : Pe) (rest : List Input) : Prop where
  /-- The PE. -/
  pe : t.pes[p]? = some q
  /-- No other PE changes. -/
  others : ∀ p', p' ≠ p → t.pes[p']? = s.pes[p']?
  /-- Nothing is offered, answered or delivered. -/
  fixed : t.impl = s.impl ∧ t.inputs = rest ∧ t.agenda = [] ∧ t.out = s.out ∧ t.draws = s.draws

/-- chain_enabled of the pair whose odd counter is m, for PE `q` (R126). -/
def ChainEnabled (impl : Impl) (q : Pe) (m : Nat) : Prop :=
  impl.has .pmuv3p5 = false
    ∨ (impl.haveEl2 = false ∧ q.lp.effective = false)
    ∨ (impl.haveEl2 = true ∧ m - 1 < q.hpmn.effective ∧ q.lp.effective = false)
    ∨ (impl.haveEl2 = true ∧ q.hpmn.effective ≤ m - 1 ∧ q.hlp.effective = false)

/-- The odd counter m is where a range of counters begins: items U15 and U16 (R126). -/
def AtBoundary (impl : Impl) (q : Pe) (m : Nat) : Prop :=
  (impl.haveEl2 = true ∧ m = q.hpmn.effective) ∨ (impl.has .pmuv3Extpmn = true ∧ m = q.epmn.effective)

/-- The condition of PMU_OVFS for an overflow of a counter of PE `q` (R127). -/
def OvfsCondition (impl : Impl) (q : Pe) (c : OverflowCause) : Prop :=
  match c.source with
  | .counter _ n =>
    q.inten.getLsbD n = true
      ∧ ((c.ovf32 = true ∧ (impl.has .pmuv3p5 = false ∨ q.lp.effective = false))
          ∨ (c.ovf64 = true ∧ impl.has .pmuv3p5 = true ∧ q.lp.effective = true))
      ∧ (impl.haveEl2 = false ∨ n < q.hpmn.effective)
  | .cycleCounter _ =>
    q.inten.getLsbD 31 = true
      ∧ ((c.ovf32 = true ∧ q.lc.effective = false) ∨ (c.ovf64 = true ∧ q.lc.effective = true))
  | .instructionCounter _ => impl.has .pmuv3Icntr = true ∧ q.f0 = true ∧ c.ovf64 = true

/-- The condition of PMU_HOVFS for an overflow of a counter of PE `q` (R128). -/
def HovfsCondition (impl : Impl) (q : Pe) (c : OverflowCause) : Prop :=
  match c.source with
  | .counter _ n =>
    impl.haveEl2 = true ∧ q.inten.getLsbD n = true
      ∧ ((c.ovf32 = true ∧ (impl.has .pmuv3p5 = false ∨ q.hlp.effective = false))
          ∨ (c.ovf64 = true ∧ impl.has .pmuv3p5 = true ∧ q.hlp.effective = true))
      ∧ q.hpmn.effective ≤ n
  | .cycleCounter _ => False
  | .instructionCounter _ => False

/-- PEs p and q have the same affinity at level 1 and above (R129). -/
def SameAffinity (impl : Impl) (p q : Nat) : Prop := ∃ a, impl.affinity[p]? = some a ∧ impl.affinity[q]? = some a

/-- What a counter must meet to count an offered occurrence of event `i`, attribution apart (R121). -/
structure Admits (s : State) (i : Instr) (p : Nat) (c : Counter) (serial : Nat) (o : Occurrence) : Prop where
  /-- The event can be counted (30_encoding.md R102). -/
  countable : s.impl.countable i = true
  /-- The filter lets the occurrence through. -/
  filter : c.filter.passes o.ctx = true
  /-- It is an occurrence of the event. -/
  occurs : occOf i (s.observe p c serial o) = true

/-- The machine's invariant. -/
structure State.Inv (s : State) : Prop where
  /-- The parameters are ones the spec allows. -/
  impl : s.impl.wellFormed = true
  /-- Every PE is within its widths. -/
  pes : ∀ q ∈ s.pes, q.fits s.impl = true
  /-- Everything offered is offered to a sink that exists. -/
  sinks : ∀ f ∈ s.agenda, f.sink.exists? s = true
  /-- Every draw is drawn once. -/
  draws : ∀ f ∈ s.agenda, f.happening.drawnBefore s.draws = true

end Sys2Proof.Machine
end

