-- ==== Sys2Proof/Certificates/Slice0/Obligations.lean ====
section
/-!
DEFINITION. The statements for the provers.
-/

open Sys2Proof Sys2Proof.Machine

/-! Encoding. -/

/-- 30_encoding.md R90, R91: the number of an event decodes to it, and no other number does. -/
def Obligations.DecodeEncodeAgree : Prop :=
  ∀ e : Instr, decodeWord (encode e) = some e ∧ ∀ w : EvtWord, decodeWord w = some e → w = encode e

/-- 30_encoding.md R92, R93, R94, R99, R103: a number in the IMPLEMENTATION DEFINED range decodes to what that range maps it to, the first
entry for it; outside that range it decodes to an event if and only if it is the number of that event, implemented, or the number of one
of the 76 events of item U19 that the implementation uses for that event. Implemented events decode from their own number. That the range
is a list, and the events of U19 used for another event, are the model's form of these parameters (log 30). -/
def Obligations.ImplementedEventsDecode : Prop :=
  (∀ (impl : Impl) (e : Instr), impl.wellFormed = true → impl.uses e = true → decodeFor impl (encode e) = some e)
  ∧ (∀ (impl : Impl) (w : EvtWord) (x : Option Instr) (before after : List (EvtWord × Option Instr)),
      impl.impdefRange = before ++ (w, x) :: after → (∀ y, (w, y) ∉ before) → decodeFor impl w = x)
  ∧ ∀ (impl : Impl) (w : EvtWord) (e : Instr), (∀ x, (w, x) ∉ impl.impdefRange) →
      (decodeFor impl w = some e ↔
        (w = encode e ∧ impl.uses e = true)
        ∨ ∃ a, w = encode a ∧ isU19 a = true ∧ impl.has .pmuv3p8 = false ∧ impl.u19Meaning a = .other (some e))

/-- A few numbers as the spec's entry headings give them, one of every family. -/
def Obligations.WordsDecode : Prop :=
  decodeTableWord 16 0b0000000000000000 = some .swIncr
  ∧ decodeTableWord 16 0b0000000000010001 = some .cpuCycles
  ∧ decodeTableWord 16 0b0000000001000000 = some .l1dCacheRd
  ∧ decodeTableWord 16 0b0100000000000100 = some .cntCycles
  ∧ decodeTableWord 16 0b1000000000000100 = some .simdInstSpec
  ∧ decodeTableWord 16 0b1000000100010000 = some .brImmedPredRetired
  ∧ decodeTableWord 16 0b1000000111000000 = some .l1iCacheHitRd
  ∧ decodeTableWord 16 0b1000001010110000 = some .l1iCacheMissRetired
  ∧ decodeTableWord 16 0b1000010010010100 = some .fpFp8Scale2MinOpsSpec

/-- 30_encoding.md R104: a number has an event if and only if it lies in a run of the table; each run begins and ends with the events its
row names, has as many numbers as the row says and is maximal; there are 107 runs and 1198 numbers. In the discoverable ranges every
number below 0x0040 has an event, and of 0x4000 to 0x403F exactly the numbers listed have none (R98). -/
def Obligations.ReservedNumbers : Prop :=
  (∀ w : EvtWord, (decodeWord w).isSome = true ↔ ∃ r ∈ assignedRuns, r.first ≤ w.toNat ∧ w.toNat ≤ r.last)
  ∧ (∀ r ∈ assignedRuns, decodeWord (BitVec.ofNat 16 r.first) = some r.firstEvent
      ∧ decodeWord (BitVec.ofNat 16 r.last) = some r.lastEvent ∧ r.last + 1 = r.first + r.count
      ∧ (0 < r.first → decodeWord (BitVec.ofNat 16 (r.first - 1)) = none)
      ∧ decodeWord (BitVec.ofNat 16 (r.last + 1)) = none)
  ∧ assignedRuns.length = 107 ∧ (assignedRuns.map NumberRun.count).sum = 1198
  ∧ ∀ x : Nat, x < 0x40 →
    (decodeWord (BitVec.ofNat 16 x)).isSome = true
    ∧ ((decodeWord (BitVec.ofNat 16 (0x4000 + x))).isNone = true ↔
        x = 0x07 ∨ x = 0x08 ∨ (0x14 ≤ x ∧ x ≤ 0x17) ∨ (0x1C ≤ x ∧ x ≤ 0x1F) ∨ x = 0x23 ∨ (0x27 ≤ x ∧ x ≤ 0x3F))

/-- 30_encoding.md R98, decision D8: a counter whose number selects no event counts nothing, and this is no fault. -/
def Obligations.UnselectedCountsNothing : Prop :=
  ∀ (s : State) (h : Happening) (p n : Nat) (rest : List Offer) (c : Counter),
    s.agenda = { happening := h, sink := .counter p n } :: rest →
    s.counter? p n = some c → decodeFor s.impl c.evtCount = none →
    step s = .next { s with agenda := rest }

/-! The machine. -/

/-- A step with something offered runs the event that the sink selects (30_encoding.md R91, R103); with nothing offered it admits the
next input (70_reset_and_hazards.md R1552). The agenda and its order are the model's choice (log 1), and so is that a step with nothing
offered and no input leaves the state as it is (log 35). -/
def Obligations.StepRunsDecoded : Prop :=
  (∀ (s : State) (h : Happening) (p n : Nat) (rest : List Offer) (c : Counter) (i : Instr),
    s.agenda = { happening := h, sink := .counter p n } :: rest →
    s.counter? p n = some c → decodeFor s.impl c.evtCount = some i → step s = exec i s)
  ∧ (∀ (s : State) (h : Happening) (w : EvtWord) (rest : List Offer) (i : Instr),
    s.agenda = { happening := h, sink := .consumer w } :: rest → decodeFor s.impl w = some i → step s = exec i s)
  ∧ (∀ (s : State), s.agenda = [] → s.inputs = [] → step s = .next s)
  ∧ ∀ (s : State) (i : Input) (rest : List Input), s.agenda = [] → s.inputs = i :: rest →
    step s = applyInput { s with inputs := rest } i

/-- The invariant holds after reset. -/
def Obligations.InvAtReset : Prop := State.reset.Inv

/-- Every step keeps the invariant: counters stay within their widths, what is offered is offered to sinks that exist, no draw is drawn
twice. -/
def Obligations.StepKeepsInv : Prop := ∀ s t : State, s.Inv → step s = .next t → t.Inv

/-- 00_scope.md R6: no step changes a parameter of the implementation or the number of PEs. -/
def Obligations.StepKeepsParameters : Prop :=
  ∀ s t : State, step s = .next t → t.impl = s.impl ∧ t.pes.length = s.pes.length

/-- 60_exceptions.md R1500: no event raises an exception, whatever is offered to whatever sink. -/
def Obligations.NoEventStops : Prop := ∀ (i : Instr) (s : State), ∃ t, exec i s = .next t

/-! Counting. -/

/-- 40_common_event_rules.md R121: every event without an algorithm of its own (all but SW_INCR, CHAIN, PMU_OVFS and PMU_HOVFS) that a
counter is offered, admits and is to be attributed is counted, with the event's increment. -/
def Obligations.EventCounted : Prop :=
  ∀ (i : Instr) (s : State) (serial : Nat) (o : Occurrence) (p n : Nat) (rest : List Offer) (c : Counter),
    hasAlgorithm i = false →
    s.agenda = { happening := .occurs serial o, sink := .counter p n } :: rest →
    s.counter? p n = some c → Admits s i p c serial o →
    (s.observe p c serial o).attributedTo i (attributionOf i) o.pe o.owners = true →
    ∃ t, exec i s = .next t
      ∧ CountedBy s t p n c (incrementOf i (s.observe p c serial o)) o.withheld rest

/-- 40_common_event_rules.md R121: an offered occurrence that the counter does not admit, or that is not attributed to it, changes
nothing; neither does a happening of another kind. -/
def Obligations.EventNotCounted : Prop :=
  (∀ (i : Instr) (s : State) (serial : Nat) (o : Occurrence) (p n : Nat) (rest : List Offer) (c : Counter),
    hasAlgorithm i = false →
    s.agenda = { happening := .occurs serial o, sink := .counter p n } :: rest →
    s.counter? p n = some c →
    ¬(Admits s i p c serial o
        ∧ (s.observe p c serial o).attributedTo i (attributionOf i) o.pe o.owners = true) →
    exec i s = .next { s with agenda := rest })
  ∧ ∀ (i : Instr) (s : State) (h : Happening) (k : Sink) (rest : List Offer), hasAlgorithm i = false →
    s.agenda = { happening := h, sink := k } :: rest → (∀ serial o, h ≠ .occurs serial o) →
    exec i s = .next { s with agenda := rest }

/-- 40_common_event_rules.md R121, R123, R129: each of the 299 events named completes: an occurrence of it that is Attributable
to the PE of the counter it is offered to, and that passes the filter, is counted once, whatever resources are shared and whatever
MT is. -/
def Obligations.LaterEventsCompleteA : Prop :=
  ∀ (i : Instr) (s : State) (serial : Nat) (o : Occurrence) (p n : Nat) (rest : List Offer) (c : Counter),
    i ∈
        ([Instr.dsnpHitFar, .dsnpHitRemote, .l1iCacheRefillHwprf, .l2iCacheRefillHwprf, .l1dCacheRefillHwprf, .l2dCacheRefillHwprf,
        .l3dCacheRefillHwprf, .llCacheRefillHwprf, .l1iCacheHitRd, .l2iCacheHitRd, .l1dCacheHitRd, .l2dCacheHitRd, .l3dCacheHitRd,
        .llCacheHitRd, .l1dCacheHitWr, .l2dCacheHitWr, .l3dCacheHitWr, .llCacheHitWr, .l1dCacheHitRw, .l2dCacheHitRw, .l3dCacheHitRw,
        .llCacheHitRw, .l1iCacheHitRdFprfm, .l2iCacheHitRdFprfm, .l1dCacheHitRdFprfm, .l2dCacheHitRdFprfm, .l3dCacheHitRdFprfm,
        .llCacheHitRdFprfm, .l1dCacheHitWrFprfm, .l2dCacheHitWrFprfm, .l3dCacheHitWrFprfm, .llCacheHitWrFprfm, .l1dCacheHitRwFprfm,
        .l2dCacheHitRwFprfm, .l3dCacheHitRwFprfm, .llCacheHitRwFprfm, .l1iCacheHitRdFhwprf, .l2iCacheHitRdFhwprf, .l1dCacheHitRdFhwprf,
        .l2dCacheHitRdFhwprf, .l3dCacheHitRdFhwprf, .llCacheHitRdFhwprf, .l1dCacheHitWrFhwprf, .l2dCacheHitWrFhwprf,
        .l3dCacheHitWrFhwprf, .llCacheHitWrFhwprf, .l1dCacheHitRwFhwprf, .l2dCacheHitRwFhwprf] ++
        [Instr.l3dCacheHitRwFhwprf, .llCacheHitRwFhwprf, .l1iCacheHitRdFprf, .l2iCacheHitRdFprf, .l1dCacheHitRdFprf,
        .l2dCacheHitRdFprf, .l3dCacheHitRdFprf, .llCacheHitRdFprf, .l1dCacheHitWrFprf, .l2dCacheHitWrFprf, .l3dCacheHitWrFprf,
        .llCacheHitWrFprf, .l1dCacheHitRwFprf, .l2dCacheHitRwFprf, .l3dCacheHitRwFprf, .llCacheHitRwFprf, .l1iCacheHit, .l2iCacheHit,
        .l1dCacheHit, .l2dCacheHit, .l3dCacheHit, .llCacheHit, .l1iCacheHitPrfm, .l2iCacheHitPrfm, .l1dCacheHitPrfm, .l2dCacheHitPrfm,
        .l3dCacheHitPrfm, .llCacheHitPrfm, .l1dCacheHitmRd, .l2dCacheHitmRd, .l3dCacheHitmRd, .llCacheHitmRd, .l1dCacheHitmWr,
        .l2dCacheHitmWr, .l3dCacheHitmWr, .llCacheHitmWr, .l1dCacheHitmRw, .l2dCacheHitmRw, .l3dCacheHitmRw, .llCacheHitmRw,
        .dsnpHitmRd, .dsnpHitmNearRd, .dsnpHitmFarRd, .dsnpHitmRemoteRd, .dsnpHitmWr, .dsnpHitmNearWr, .dsnpHitmFarWr,
        .dsnpHitmRemoteWr] ++
        [Instr.dsnpHitmRw, .dsnpHitmNearRw, .dsnpHitmFarRw, .dsnpHitmRemoteRw, .localMem, .localMemRd, .localMemWr, .localMemRw,
        .localMemPrfm, .localMemLdRetired, .localMemStRetired, .localMemLdstRetired, .remoteMem, .remoteMemRd, .remoteMemWr,
        .remoteMemRw, .remoteMemPrfm, .remoteMemLdRetired, .remoteMemStRetired, .remoteMemLdstRetired, .l1iLfbHitRd, .l2iLfbHitRd,
        .l1dLfbHitRd, .l2dLfbHitRd, .l3dLfbHitRd, .llLfbHitRd, .l1dLfbHitWr, .l2dLfbHitWr, .l3dLfbHitWr, .llLfbHitWr, .l1dLfbHitRw,
        .l2dLfbHitRw, .l3dLfbHitRw, .llLfbHitRw, .l1iLfbHitRdFprfm, .l2iLfbHitRdFprfm, .l1dLfbHitRdFprfm, .l2dLfbHitRdFprfm,
        .l3dLfbHitRdFprfm, .llLfbHitRdFprfm, .l1dLfbHitWrFprfm, .l2dLfbHitWrFprfm, .l3dLfbHitWrFprfm, .llLfbHitWrFprfm,
        .l1dLfbHitRwFprfm, .l2dLfbHitRwFprfm, .l3dLfbHitRwFprfm, .llLfbHitRwFprfm] ++
        [Instr.l1iLfbHitRdFhwprf, .l2iLfbHitRdFhwprf, .l1dLfbHitRdFhwprf, .l2dLfbHitRdFhwprf, .l3dLfbHitRdFhwprf, .llLfbHitRdFhwprf,
        .l1dLfbHitWrFhwprf, .l2dLfbHitWrFhwprf, .l3dLfbHitWrFhwprf, .llLfbHitWrFhwprf, .l1dLfbHitRwFhwprf, .l2dLfbHitRwFhwprf,
        .l3dLfbHitRwFhwprf, .llLfbHitRwFhwprf, .l1iLfbHitRdFprf, .l2iLfbHitRdFprf, .l1dLfbHitRdFprf, .l2dLfbHitRdFprf,
        .l3dLfbHitRdFprf, .llLfbHitRdFprf, .l1dLfbHitWrFprf, .l2dLfbHitWrFprf, .l3dLfbHitWrFprf, .llLfbHitWrFprf, .l1dLfbHitRwFprf,
        .l2dLfbHitRwFprf, .l3dLfbHitRwFprf, .llLfbHitRwFprf, .l1iCachePrf, .l2iCachePrf, .l1dCachePrf, .l2dCachePrf, .l3dCachePrf,
        .llCachePrf, .l1iCacheRefillPrf, .l2iCacheRefillPrf, .l1dCacheRefillPrf, .l2dCacheRefillPrf, .l3dCacheRefillPrf,
        .llCacheRefillPrf, .isnpHitPrf, .isnpHitNearPrf, .isnpHitFarPrf, .isnpHitRemotePrf, .dsnpHitPrf, .dsnpHitNearPrf,
        .dsnpHitFarPrf, .dsnpHitRemotePrf] ++
        [Instr.llCacheRw, .llCachePrfm, .llCacheRefill, .llCacheRefillPrfm, .llCacheWb, .llCacheWr, .llCacheRefillWr, .memAccessRw,
        .instFetchRd, .memAccessPrfm, .instFetchPrfm, .l1iCacheMissRetired, .l2iCacheMissRetired, .l1dCacheMissLdRetired,
        .l2dCacheMissLdRetired, .l3dCacheMissLdRetired, .llCacheMissLdRetired, .l1dCacheMissStRetired, .l2dCacheMissStRetired,
        .l3dCacheMissStRetired, .llCacheMissStRetired, .l1dCacheMissLdstRetired, .l2dCacheMissLdstRetired, .l3dCacheMissLdstRetired,
        .llCacheMissLdstRetired, .l1dCacheHitmLdRetired, .l2dCacheHitmLdRetired, .l3dCacheHitmLdRetired, .llCacheHitmLdRetired,
        .l1dCacheHitmStRetired, .l2dCacheHitmStRetired, .l3dCacheHitmStRetired, .llCacheHitmStRetired, .l1dCacheHitmLdstRetired,
        .l2dCacheHitmLdstRetired, .l3dCacheHitmLdstRetired, .llCacheHitmLdstRetired, .l1iLfbHitRetired, .l2iLfbHitRetired,
        .l1dLfbHitLdRetired, .l2dLfbHitLdRetired, .l3dLfbHitLdRetired, .llLfbHitLdRetired, .l1dLfbHitStRetired, .l2dLfbHitStRetired,
        .l3dLfbHitStRetired, .llLfbHitStRetired, .l1dLfbHitLdstRetired] ++
        [Instr.l2dLfbHitLdstRetired, .l3dLfbHitLdstRetired, .llLfbHitLdstRetired, .l1iCacheHitRetired, .l2iCacheHitRetired,
        .l1dCacheHitLdRetired, .l2dCacheHitLdRetired, .l3dCacheHitLdRetired, .llCacheHitLdRetired, .l1dCacheHitStRetired,
        .l2dCacheHitStRetired, .l3dCacheHitStRetired, .llCacheHitStRetired, .l1dCacheHitLdstRetired, .l2dCacheHitLdstRetired,
        .l3dCacheHitLdstRetired, .llCacheHitLdstRetired, .itlbHitRetired, .dtlbHitLdRetired, .dtlbHitStRetired, .dtlbHitLdstRetired,
        .itlbWalkRetired, .dtlbWalkLdRetired, .dtlbWalkStRetired, .dtlbWalkLdstRetired, .dtlbWalkPrf, .itlbWalkPrf, .dtlbWalkHwprf,
        .itlbWalkHwprf, .l1dTlbPrf, .l1iTlbPrf, .l1dTlbHwprf, .l1iTlbHwprf, .dsnpHitmLdRetired, .dsnpHitmNearLdRetired,
        .dsnpHitmFarLdRetired, .dsnpHitmRemoteLdRetired, .dsnpHitmStRetired, .dsnpHitmNearStRetired, .dsnpHitmFarStRetired,
        .dsnpHitmRemoteStRetired, .dsnpHitmLdstRetired, .dsnpHitmNearLdstRetired, .dsnpHitmFarLdstRetired, .dsnpHitmRemoteLdstRetired,
        .isnpHitRetired, .isnpHitNearRetired, .isnpHitFarRetired] ++
        [Instr.isnpHitRemoteRetired, .dsnpHitLdRetired, .dsnpHitNearLdRetired, .dsnpHitFarLdRetired, .dsnpHitRemoteLdRetired,
        .dsnpHitStRetired, .dsnpHitNearStRetired, .dsnpHitFarStRetired, .dsnpHitRemoteStRetired, .dsnpHitLdstRetired,
        .dsnpHitNearLdstRetired]) →
    s.agenda = { happening := .occurs serial o, sink := .counter p n } :: rest → s.counter? p n = some c → o.pe = some p →
    c.filter.passes o.ctx = true → occOf i (s.observe p c serial o) = true →
    ∃ t, exec i s = .next t ∧ CountedBy s t p n c 1 o.withheld rest

/-- 40_common_event_rules.md R121, R123, R129: each of the 295 events named completes: an occurrence of it that is Attributable
to the PE of the counter it is offered to, and that passes the filter, is counted once, and one that counts operations by its
increment, whatever resources are shared and whatever MT is. -/
def Obligations.LaterEventsCompleteB : Prop :=
  (∀ (i : Instr) (s : State) (serial : Nat) (o : Occurrence) (p n : Nat) (rest : List Offer) (c : Counter),
    i ∈
        ([Instr.dsnpHitFarLdstRetired, .dsnpHitRemoteLdstRetired, .remoteCacheHitRd, .remoteCacheHitmRd, .remoteLfbHitRd,
        .remoteCacheHitPrfm, .stallBackendAtomicFp, .lseFpLdSpec, .lseFpStSpec, .lseFpLdstSpec, .l1gcsCache, .l1gcsCacheRw,
        .l1gcsCacheHwprf, .l1gcsCacheMiss, .l1gcsCacheMissRd, .l1gcsCacheHitRw, .l1gcsCacheHitRwFhwprf, .l1gcsCacheRefill,
        .l1gcsCacheRefillHwprf, .l1gcsLfbHitRw, .l1gcsLfbHitRwFhwprf, .l1gcsCacheInval, .l1gcsTlb, .l1gcsTlbRw, .l1gcsTlbHwprf,
        .gcstlbWalk, .gcstlbWalkRw, .gcstlbWalkStep, .sampleFeedFp, .sampleFeedSimd, .stallBackendL1gcs, .stallBackendGcstlb,
        .smeFpSpec, .seFpSpec, .sveCmpIgranuleSpec, .sveCmpXgranuleSpec, .sveBitpermSpec, .smeSpec, .seSpec, .smeInstSpec, .seInstSpec,
        .smeInt8Spec, .seInt8Spec, .smeFpBf16Spec, .seFpBf16Spec, .smeInt16Spec, .seInt16Spec, .smeFpHpSpec] ++
        [Instr.seFpHpSpec, .smeInt32Spec, .seInt32Spec, .smeFpSpSpec, .seFpSpSpec, .smeInt64Spec, .seInt64Spec, .smeFpDpSpec,
        .seFpDpSpec, .smeFpAddsubSpec, .seFpAddsubSpec, .smeFpFmaSpec, .seFpFmaSpec, .smeFpDotSpec, .seFpDotSpec, .smeFpMopaSpec,
        .smeIntSpec, .seIntSpec, .smeIntMulSpec, .seIntMulSpec, .smeIntDotSpec, .seIntDotSpec, .smeIntMopaSpec, .zaActive,
        .smePred2NotFullSpec, .smePred2Spec, .smePred2EmptySpec, .smePred2FullSpec, .smePred2PartialSpec, .smeLdstZaregSpec,
        .smeLdZaregSpec, .smeStZaregSpec, .smeLdstZtregSpec, .smeLdZtregSpec, .smeStZtregSpec, .smeLdstRegSpec, .smeLdRegSpec,
        .smeStRegSpec, .smeLdstTileSpec, .smeLdTileSpec, .smeStTileSpec, .aseLutSpec, .sveLutSpec, .smeLutSpec, .seLutSpec,
        .n1CacheHitRd, .n2CacheHitRd, .n3CacheHitRd] ++
        [Instr.n4CacheHitRd, .n1CacheHitPrfm, .n2CacheHitPrfm, .n3CacheHitPrfm, .n4CacheHitPrfm, .n1Cache1HitRd, .n2Cache1HitRd,
        .n3Cache1HitRd, .n4Cache1HitRd, .n1Cache1HitPrfm, .n2Cache1HitPrfm, .n3Cache1HitPrfm, .n4Cache1HitPrfm, .n1Cache2HitRd,
        .n2Cache2HitRd, .n3Cache2HitRd, .n4Cache2HitRd, .n1Cache2HitPrfm, .n2Cache2HitPrfm, .n3Cache2HitPrfm, .n4Cache2HitPrfm,
        .n1Cache3HitRd, .n2Cache3HitRd, .n3Cache3HitRd, .n4Cache3HitRd, .n1Cache3HitPrfm, .n2Cache3HitPrfm, .n3Cache3HitPrfm,
        .n4Cache3HitPrfm, .n1CacheHitmRd, .n2CacheHitmRd, .n3CacheHitmRd, .n4CacheHitmRd, .n1LfbHitRd, .n2LfbHitRd, .n3LfbHitRd,
        .n4LfbHitRd, .n1Cache1HitmRd, .n2Cache1HitmRd, .n3Cache1HitmRd, .n4Cache1HitmRd, .n1Lfb1HitRd, .n2Lfb1HitRd, .n3Lfb1HitRd,
        .n4Lfb1HitRd, .n1Cache2HitmRd, .n2Cache2HitmRd, .n3Cache2HitmRd] ++
        [Instr.n4Cache2HitmRd, .n1Lfb2HitRd, .n2Lfb2HitRd, .n3Lfb2HitRd, .n4Lfb2HitRd, .n1Cache3HitmRd, .n2Cache3HitmRd,
        .n3Cache3HitmRd, .n4Cache3HitmRd, .n1Lfb3HitRd, .n2Lfb3HitRd, .n3Lfb3HitRd, .n4Lfb3HitRd, .n1MemRd, .n2MemRd, .n3MemRd,
        .n4MemRd, .n1MemPrfm, .n2MemPrfm, .n3MemPrfm, .n4MemPrfm, .n1Mem1Rd, .n2Mem1Rd, .n3Mem1Rd, .n4Mem1Rd, .n1Mem1Prfm, .n2Mem1Prfm,
        .n3Mem1Prfm, .n4Mem1Prfm, .n1Mem2Rd, .n2Mem2Rd, .n3Mem2Rd, .n4Mem2Rd, .n1Mem2Prfm, .n2Mem2Prfm, .n3Mem2Prfm, .n4Mem2Prfm,
        .n1Mem3Rd, .n2Mem3Rd, .n3Mem3Rd, .n4Mem3Rd, .n1Mem3Prfm, .n2Mem3Prfm, .n3Mem3Prfm, .n4Mem3Prfm, .isnpHitN1Rd, .isnpHitN2Rd,
        .isnpHitN3Rd] ++
        [Instr.isnpHitN4Rd, .dsnpHitN1Rd, .dsnpHitN2Rd, .dsnpHitN3Rd, .dsnpHitN4Rd, .dsnpHitN1Wr, .dsnpHitN2Wr, .dsnpHitN3Wr,
        .dsnpHitN4Wr, .dsnpHitN1Rw, .dsnpHitN2Rw, .dsnpHitN3Rw, .dsnpHitN4Rw, .dsnpHitN1Prfm, .dsnpHitN2Prfm, .dsnpHitN3Prfm,
        .dsnpHitN4Prfm, .dsnpHitN1Hwprf, .dsnpHitN2Hwprf, .dsnpHitN3Hwprf, .dsnpHitN4Hwprf, .isnpHitN1Prfm, .isnpHitN2Prfm,
        .isnpHitN3Prfm, .isnpHitN4Prfm, .isnpHitN1Hwprf, .isnpHitN2Hwprf, .isnpHitN3Hwprf, .isnpHitN4Hwprf, .dsnpHitN1Prf,
        .dsnpHitN2Prf, .dsnpHitN3Prf, .dsnpHitN4Prf, .isnpHitN1Prf, .isnpHitN2Prf, .isnpHitN3Prf, .isnpHitN4Prf, .isnpHitN1,
        .isnpHitN2, .isnpHitN3, .isnpHitN4, .dsnpHitN1, .dsnpHitN2, .dsnpHitN3, .dsnpHitN4, .aseFpVreduceSpec, .sveFpPreduceSpec,
        .dsnpHitmN1Rd] ++
        [Instr.dsnpHitmN2Rd, .dsnpHitmN3Rd, .dsnpHitmN4Rd, .dsnpHitmN1Wr, .dsnpHitmN2Wr, .dsnpHitmN3Wr, .dsnpHitmN4Wr, .dsnpHitmN1Rw,
        .dsnpHitmN2Rw, .dsnpHitmN3Rw, .dsnpHitmN4Rw, .aseFpSpMinSpec, .aseFpHpMinSpec, .aseFpBf16MinSpec, .aseFpFp8MinSpec,
        .aseSveFpSpMinSpec, .aseSveFpHpMinSpec, .aseSveFpBf16MinSpec, .aseSveFpFp8MinSpec, .seFpSpMinSpec, .seFpHpMinSpec,
        .seFpBf16MinSpec, .seFpFp8MinSpec, .smeFpSpMinSpec, .smeFpHpMinSpec, .smeFpBf16MinSpec, .smeFpFp8MinSpec, .sveFpSpMinSpec,
        .sveFpHpMinSpec, .sveFpBf16MinSpec, .sveFpFp8MinSpec, .fpSpMinSpec, .fpHpMinSpec, .fpBf16MinSpec, .fpFp8MinSpec]) →
    s.agenda = { happening := .occurs serial o, sink := .counter p n } :: rest → s.counter? p n = some c → o.pe = some p →
    c.filter.passes o.ctx = true → occOf i (s.observe p c serial o) = true →
    ∃ t, exec i s = .next t ∧ CountedBy s t p n c 1 o.withheld rest)
  ∧ ∀ (i : Instr) (s : State) (serial : Nat) (o : Occurrence) (p n : Nat) (rest : List Offer) (c : Counter),
    i ∈
        [Instr.l1dCacheRefillPercyc, .l2dCacheRefillPercyc, .l3dCacheRefillPercyc, .l1iCacheRefillPercyc, .l2iCacheRefillPercyc,
        .l1gcsCacheRefillPercyc, .gcstlbWalkPercyc, .fpBf16FixedOpsSpec, .fpSpFixedMinOpsSpec, .fpHpFixedMinOpsSpec,
        .fpBf16FixedMinOpsSpec, .fpFp8FixedMinOpsSpec, .fpSpScaleMinOpsSpec, .fpHpScaleMinOpsSpec, .fpBf16ScaleMinOpsSpec,
        .fpFp8ScaleMinOpsSpec, .fpSpScale2MinOpsSpec, .fpHpScale2MinOpsSpec, .fpBf16Scale2MinOpsSpec, .fpFp8Scale2MinOpsSpec] →
    s.agenda = { happening := .occurs serial o, sink := .counter p n } :: rest → s.counter? p n = some c → o.pe = some p →
    c.filter.passes o.ctx = true → occOf i (s.observe p c serial o) = true →
    ∃ t, exec i s = .next t ∧ CountedBy s t p n c (incrementOf i (s.observe p c serial o)) o.withheld rest

/-- The frame of all 1198 events: whatever is offered, the parameters, the inputs, every register that is no event counter, every event
counter but the one offered to, and everything software programs of that one stay as they were; nothing is delivered but by PMU_OVFS and
PMU_HOVFS. -/
def Obligations.EventFrame : Prop :=
  ∀ (i : Instr) (s t : State), exec i s = .next t →
    t.impl = s.impl ∧ t.inputs = s.inputs ∧ t.pes.map Pe.registers = s.pes.map Pe.registers
    ∧ (∀ p n, (t.counter? p n).map Counter.programmed = (s.counter? p n).map Counter.programmed)
    ∧ (∀ p n, (∀ h rest, s.agenda ≠ { happening := h, sink := .counter p n } :: rest) → t.counter? p n = s.counter? p n)
    ∧ (i ≠ .pmuOvfs → i ≠ .pmuHovfs → t.out = s.out)
    ∧ (i = .pmuOvfs ∨ i = .pmuHovfs → ∀ p n, t.counter? p n = s.counter? p n)

/-- 50_host_instruction_classes.md R1400: the arithmetic of a counter, its two overflows, and its corner cases. -/
def Obligations.CounterArithmetic : Prop :=
  ∀ (impl : Impl) (old : CountWord) (k : Nat),
    impl.counterWidth = (if impl.has .pmuv3p5 then 64 else 32)
    ∧ (addCount impl old k).toNat = (old.toNat + k) % 2 ^ impl.counterWidth
    ∧ (overflow32 old k = true ↔ old.toNat % 2 ^ 32 + k ≥ 2 ^ 32)
    ∧ (overflow64 impl old k = true ↔ impl.counterWidth = 64 ∧ old.toNat % 2 ^ 64 + k ≥ 2 ^ 64)
    ∧ overflow32 old 0 = false ∧ overflow64 impl old 0 = false
    ∧ (old.toNat < 2 ^ impl.counterWidth → addCount impl old 0 = old)
    ∧ (old.toNat + 1 = 2 ^ impl.counterWidth → addCount impl old 1 = 0 ∧ overflow32 old 1 = true)
    ∧ (overflow64 impl old k = true → k < 2 ^ 32 → overflow32 old k = true)

/-- 60_exceptions.md R1503, decision D12: two counts on one counter leave the same value in either order. -/
def Obligations.CountsCommute : Prop :=
  ∀ (impl : Impl) (old : CountWord) (j k : Nat),
    addCount impl (addCount impl old j) k = addCount impl (addCount impl old k) j

/-- 40_common_event_rules.md R120, R121: an occurrence is offered to every event counter of every PE exactly once, whatever the order. -/
def Obligations.OccurrenceReachesEveryCounter : Prop :=
  ∀ (s : State) (o : Occurrence) (order : List (Nat × Nat)) (rest : List Input),
    s.agenda = [] → s.inputs = .occurrence o order :: rest →
    ∃ t, step s = .next t ∧ t.impl = s.impl ∧ t.pes = s.pes ∧ t.inputs = rest ∧ t.out = s.out ∧ t.draws = s.draws + 1
      ∧ (∀ f ∈ t.agenda, f.happening = .occurs s.draws o)
      ∧ ∀ k, (t.agenda.map (fun f => f.sink)).count k
          = match k with
            | .counter p n => if p < s.pes.length ∧ n < s.impl.numCounters then 1 else 0
            | .consumer _ => 0

/-! SW_INCR. -/

/-- 40_common_event_rules.md R125: a write of PMSWINC is offered to every event counter exactly once, so no two writes are merged. -/
def Obligations.SwIncrWriteReachesEveryCounter : Prop :=
  ∀ (s : State) (w : Nat) (v : BitVec 64) (x : Ctx) (wh : List OverflowSource) (order : List (Nat × Nat)) (rest : List Input),
    s.agenda = [] → s.inputs = .writePmswinc w v x wh order :: rest → w < s.pes.length →
    ∃ t, step s = .next t ∧ t.impl = s.impl ∧ t.pes = s.pes ∧ t.inputs = rest ∧ t.out = s.out ∧ t.draws = s.draws
      ∧ (∀ f ∈ t.agenda, f.happening = .pmswincWrite w v x wh)
      ∧ ∀ k, (t.agenda.map (fun f => f.sink)).count k
          = match k with
            | .counter p n => if p < s.pes.length ∧ n < s.impl.numCounters then 1 else 0
            | .consumer _ => 0

/-- 40_common_event_rules.md R125: counter n counts a write with bit [n] set by its own PE, and with Effective MT 1 in a multithreaded
implementation one by any PE with the same affinity. Of the second clause, that bit [n] of the other PE's write selects counter n, and of
both, that the write is subject to the filter, is R125's own derived reading, which the model takes (log 21). -/
def Obligations.SwIncrCounts : Prop :=
  ∀ (s : State) (w : Nat) (v : BitVec 64) (x : Ctx) (wh : List OverflowSource) (p n : Nat) (rest : List Offer) (c : Counter),
    s.agenda = { happening := .pmswincWrite w v x wh, sink := .counter p n } :: rest →
    s.counter? p n = some c → v.getLsbD n = true → c.filter.passes x = true →
    (w = p ∨ (s.impl.multithreaded = true ∧ c.mt.effective = true ∧ SameAffinity s.impl p w)) →
    ∃ t, exec .swIncr s = .next t ∧ CountedBy s t p n c 1 wh rest

/-- 40_common_event_rules.md R125: otherwise the write has no effect on the counter. That a write is ignored by the filter, and that one by
another PE with the same affinity, with Effective MT 1, is ignored where its own bit [n] is clear, is R125's own derived reading, which the
model takes (log 21). -/
def Obligations.SwIncrIgnores : Prop :=
  ∀ (s : State) (w : Nat) (v : BitVec 64) (x : Ctx) (wh : List OverflowSource) (p n : Nat) (rest : List Offer) (c : Counter),
    s.agenda = { happening := .pmswincWrite w v x wh, sink := .counter p n } :: rest → s.counter? p n = some c →
    (v.getLsbD n = false ∨ c.filter.passes x = false
      ∨ (w ≠ p ∧ (s.impl.multithreaded = false ∨ c.mt.effective = false ∨ ¬SameAffinity s.impl p w))) →
    exec .swIncr s = .next { s with agenda := rest }

/-- 40_common_event_rules.md R125: "If the PE performs two architecturally executed writes ... then the counter is incremented twice." -/
def Obligations.SwIncrTwice : Prop :=
  ∀ (s : State) (v v' : BitVec 64) (x : Ctx) (wh wh' : List OverflowSource) (p n : Nat) (rest rest' : List Offer) (c : Counter),
    s.agenda = { happening := .pmswincWrite p v x wh, sink := .counter p n } :: rest →
    s.counter? p n = some c → v.getLsbD n = true → v'.getLsbD n = true → c.filter.passes x = true →
    ∃ t u, exec .swIncr s = .next t
      ∧ exec .swIncr { t with agenda := { happening := .pmswincWrite p v' x wh', sink := .counter p n } :: rest' } = .next u
      ∧ u.counter? p n
          = some { c with count := BitVec.ofNat 64 ((c.count.toNat + 2) % 2 ^ (if s.impl.has .pmuv3p5 then 64 else 32)) }

/-! CHAIN. -/

/-- 40_common_event_rules.md R126: the odd counter of an enabled pair, programmed to count CHAIN in all Exception levels and states and
not at a boundary of the ranges, counts the overflow of the counter before it. -/
def Obligations.ChainCounts : Prop :=
  ∀ (s : State) (serial : Nat) (wh : List OverflowSource) (p m : Nat) (rest : List Offer) (q : Pe) (c : Counter),
    s.agenda = { happening := .lowOverflow serial wh, sink := .counter p m } :: rest →
    s.pes[p]? = some q → s.counter? p m = some c → m % 2 = 1 → ChainEnabled s.impl q m → ¬AtBoundary s.impl q m →
    c.chainFilterAll = true →
    ∃ t, exec .chain s = .next t ∧ CountedBy s t p m c 1 wh rest

/-- 40_common_event_rules.md R126: where the odd counter is HPMN with EL2 (item U15), or EPMN with FEAT_PMUv3_EXTPMN and not HPMN with EL2
(U16), it counts or does not by a draw. At neither boundary, where software did not program it to count in all Exception levels and states
(U17), a draw decides between the two outcomes the spec gives: R126 counts one, and otherwise the count is a free value over its whole
range, as item U17 says. That both outcomes are allowed, and the form of the draws, are the model's choice (logs 12 and 17). -/
def Obligations.ChainUnpredictable : Prop :=
  ∀ (s : State) (serial : Nat) (wh : List OverflowSource) (p m : Nat) (rest : List Offer) (q : Pe) (c : Counter),
    s.agenda = { happening := .lowOverflow serial wh, sink := .counter p m } :: rest →
    s.pes[p]? = some q → s.counter? p m = some c → m % 2 = 1 → ChainEnabled s.impl q m →
    (s.impl.haveEl2 = true → m = q.hpmn.effective →
      (Config.drawBool 15 serial = true → ∃ t, exec .chain s = .next t ∧ CountedBy s t p m c 1 wh rest)
      ∧ (Config.drawBool 15 serial = false → exec .chain s = .next { s with agenda := rest }))
    ∧ (¬(s.impl.haveEl2 = true ∧ m = q.hpmn.effective) → s.impl.has .pmuv3Extpmn = true → m = q.epmn.effective →
      (Config.drawBool 16 serial = true → ∃ t, exec .chain s = .next t ∧ CountedBy s t p m c 1 wh rest)
      ∧ (Config.drawBool 16 serial = false → exec .chain s = .next { s with agenda := rest }))
    ∧ (¬AtBoundary s.impl q m → c.chainFilterAll = false →
      (Config.drawBool 17 serial = true → ∃ t, exec .chain s = .next t ∧ CountedBy s t p m c 1 wh rest)
      ∧ (Config.drawBool 17 serial = false → ∃ t v, exec .chain s = .next t ∧ CountBecomes s t p m c v rest
          ∧ v.toNat = (Config.freeCount serial).toNat % 2 ^ (if s.impl.has .pmuv3p5 then 64 else 32)))

/-- 40_common_event_rules.md R126: "Even-numbered counters never increment as a result of this event", and an odd one does not where the
pair is not enabled. -/
def Obligations.ChainIgnores : Prop :=
  ∀ (s : State) (h : Happening) (p m : Nat) (rest : List Offer) (q : Pe),
    s.agenda = { happening := h, sink := .counter p m } :: rest → s.pes[p]? = some q →
    (m % 2 = 0 ∨ ¬ChainEnabled s.impl q m) →
    exec .chain s = .next { s with agenda := rest }

/-- 40_common_event_rules.md R121, R126: without FEAT_PMUv3p5 a pair whose odd counter selects CHAIN counts as one 64-bit counter. That the
odd counter counts the overflow in the very next step is the model's choice (log 16); 70_reset_and_hazards.md R1555 allows a lag. -/
def Obligations.ChainMakes64BitCounter : Prop :=
  ∀ (i : Instr) (s : State) (serial : Nat) (o : Occurrence) (p n : Nat) (rest : List Offer) (q : Pe) (c d : Counter),
    s.impl.has .pmuv3p5 = false → n % 2 = 0 → n + 1 < s.impl.numCounters →
    s.agenda = { happening := .occurs serial o, sink := .counter p n } :: rest →
    s.pes[p]? = some q → s.counter? p n = some c → s.counter? p (n + 1) = some d →
    c.count.toNat < 2 ^ 32 → d.count.toNat < 2 ^ 32 →
    decodeFor s.impl c.evtCount = some i → hasAlgorithm i = false → decodeFor s.impl d.evtCount = some .chain →
    d.chainFilterAll = true → ¬AtBoundary s.impl q (n + 1) → Admits s i p c serial o →
    (s.observe p c serial o).attributedTo i (attributionOf i) o.pe o.owners = true →
    incrementOf i (s.observe p c serial o) < 2 ^ 32 →
    ∃ t u c' d', step s = .next t
      ∧ (2 ^ 32 ≤ c.count.toNat + incrementOf i (s.observe p c serial o) → step t = .next u)
      ∧ (c.count.toNat + incrementOf i (s.observe p c serial o) < 2 ^ 32 → u = t)
      ∧ u.counter? p n = some c' ∧ u.counter? p (n + 1) = some d'
      ∧ c'.count.toNat + 2 ^ 32 * d'.count.toNat
          = (c.count.toNat + 2 ^ 32 * d.count.toNat + incrementOf i (s.observe p c serial o)) % 2 ^ 64

/-! PMU_OVFS and PMU_HOVFS. -/

/-- 40_common_event_rules.md R127, with the first range as decision D10 has it (log 18): an overflow that meets the condition is delivered
as PMU_OVFS, an output of the machine; any other is not. That the overflow is offered to a consumer, and that the output of PMU_OVFS too
says whether the environment allows its export, are the model's choice (log 19). -/
def Obligations.OvfsDelivered : Prop :=
  ∀ (s : State) (c : OverflowCause) (w : EvtWord) (rest : List Offer) (q : Pe),
    s.agenda = { happening := .overflow c, sink := .consumer w } :: rest → s.pes[c.source.pe]? = some q →
    (OvfsCondition s.impl q c →
      exec .pmuOvfs s = .next { s with agenda := rest, out := s.out ++ [.overflow .pmuOvfs c c.exportAllowed] })
    ∧ (¬OvfsCondition s.impl q c → exec .pmuOvfs s = .next { s with agenda := rest })

/-- 40_common_event_rules.md R128, with the second range as decision D10 has it (log 18): an overflow that meets the condition is delivered
as PMU_HOVFS, and is exported if the environment allows the export of this overflow and not self-hosted trace is enabled with E2TRE 0; any
other is not delivered. That the overflow is offered to a consumer is the model's choice (log 19). -/
def Obligations.HovfsDelivered : Prop :=
  ∀ (s : State) (c : OverflowCause) (w : EvtWord) (rest : List Offer) (q : Pe),
    s.agenda = { happening := .overflow c, sink := .consumer w } :: rest → s.pes[c.source.pe]? = some q →
    (HovfsCondition s.impl q c → ∃ exported,
      (exported = true ↔ ¬(q.selfHosted = true ∧ q.e2tre = false) ∧ c.exportAllowed = true)
      ∧ exec .pmuHovfs s = .next { s with agenda := rest, out := s.out ++ [.overflow .pmuHovfs c exported] })
    ∧ (¬HovfsCondition s.impl q c → exec .pmuHovfs s = .next { s with agenda := rest })

/-- 40_common_event_rules.md R127, R128, with the ranges as decision D10 has them (log 18): offered the same overflow in the same state, at
least one of PMU_OVFS and PMU_HOVFS delivers nothing; one after the other they deliver it at most once; and with its counter's bit of
PMINTENSET_EL1 at 0 neither delivers it. -/
def Obligations.OverflowIsOfOneEvent : Prop :=
  ∀ (s : State) (c : OverflowCause) (w : EvtWord) (rest : List Offer),
    s.agenda = { happening := .overflow c, sink := .consumer w } :: rest →
    (exec .pmuOvfs s = .next { s with agenda := rest } ∨ exec .pmuHovfs s = .next { s with agenda := rest })
    ∧ (∀ (w' : EvtWord) (rest' : List Offer), ∃ t u, exec .pmuOvfs s = .next t
        ∧ exec .pmuHovfs { t with agenda := { happening := .overflow c, sink := .consumer w' } :: rest' } = .next u
        ∧ (u.out = s.out ∨ ∃ e x, u.out = s.out ++ [.overflow e c x]))
    ∧ ∀ (p n : Nat) (q : Pe), c.source = .counter p n → s.pes[p]? = some q → q.inten.getLsbD n = false →
        exec .pmuOvfs s = .next { s with agenda := rest } ∧ exec .pmuHovfs s = .next { s with agenda := rest }

/-- 30_encoding.md R102: the counter that selects PMU_OVFS or PMU_HOVFS, or TRB_TRIG where the PMU cannot count it, never increments; the
first two are delivered to consumers outside the PMU. -/
def Obligations.UncountableEvents : Prop :=
  (∀ (s : State) (h : Happening) (p n : Nat) (rest : List Offer) (c : Counter) (i : Instr),
    s.agenda = { happening := h, sink := .counter p n } :: rest → s.counter? p n = some c →
    decodeFor s.impl c.evtCount = some i →
    (i = .pmuOvfs ∨ i = .pmuHovfs ∨ (i = .trbTrig ∧ s.impl.trbTrigCountable = false)) →
    step s = .next { s with agenda := rest })
  ∧ ∀ (e : Instr), (e = .pmuOvfs ∨ e = .pmuHovfs) →
    ∃ (s t : State) (c : OverflowCause) (x : Bool), exec e s = .next t ∧ t.out = s.out ++ [.overflow e c x]

/-! Relations between the events. -/

/-- 40_common_event_rules.md R122: every inclusion that an event rule states. -/
def Obligations.Inclusions : Prop :=
  ∀ (e x : Instr) (b : Obs), x ∈ parentsOf e → occOf e b = true → occOf x b = true

/-- 40_common_event_rules.md R122: every intersection, difference and union that an event rule states as the whole of an event; of
SE_FP_BF16_SPEC the rule states a superset only. The last two clauses are of the events whose entries take the classification of their
instructions or operations from other events ("See ... for these classifications": R234, R258, R269, R271, R436, R512, R1148, R1150, and
R261, R363); that they are unions is the model's reading (log 70). Of LDST_ANY_RETIRED and LDST_SPEC the union is of what is no prefetch
instruction of PRF_RETIRED or PRF_SPEC; for one that is, items U1 and U31, U75 and U77 decide alone, which is the model's reading (log 41). -/
def Obligations.SetEqualities : Prop :=
  (∀ (e x y : Instr) (b : Obs), intersectionOf e = some (x, y) → occOf e b = (occOf x b && occOf y b))
  ∧ (∀ (e x y : Instr) (b : Obs), differenceOf e = some (x, y) → occOf e b = (occOf x b && !occOf y b))
  ∧ (∀ (e x y z : Instr) (b : Obs), unionOf e = some (x, y, z) → occOf e b = (occOf x b || occOf y b || occOf z b))
  ∧ (∀ b : Obs, (occOf .sveFpBf16Spec b || occOf .smeFpBf16Spec b) = true → occOf .seFpBf16Spec b = true)
  ∧ (∀ b : Obs,
    occOf .aseSveInstRetired b = (occOf .aseInstRetired b || occOf .sveInstRetired b)
    ∧ occOf .seInstRetired b = (occOf .aseSveInstRetired b || occOf .smeInstRetired b)
    ∧ occOf .aseSveRetired b = (occOf .aseRetired b || occOf .sveRetired b)
    ∧ occOf .seRetired b = (occOf .aseSveRetired b || occOf .smeRetired b)
    ∧ occOf .aseSveSpec b = (occOf .aseSpec b || occOf .sveSpec b)
    ∧ occOf .seSpec b = (occOf .aseSveSpec b || occOf .smeSpec b)
    ∧ occOf .aseSveInstSpec b = (occOf .aseInstSpec b || (occOf .instSpec b && occOf .sveInstSpec b))
    ∧ occOf .seInstSpec b = (occOf .aseSveInstSpec b || occOf .smeInstSpec b))
  ∧ ∀ b : Obs,
    (occOf .prfRetired b = false → occOf .ldstAnyRetired b = (occOf .ldAnyRetired b || occOf .stAnyRetired b))
    ∧ (occOf .prfRetired b = true →
        occOf .ldstAnyRetired b = (occOf .instRetired b && (b.choice 1 .ldRetired || b.choice 31 .ldstAnyRetired)))
    ∧ (occOf .prfSpec b = false → occOf .ldstSpec b = (occOf .ldSpec b || occOf .stSpec b))
    ∧ (occOf .prfSpec b = true →
        occOf .ldstSpec b = (occOf .instSpec b && (b.choice 75 .ldSpec || b.choice 77 .ldstSpec)))

/-- 40_common_event_rules.md R122: every exclusion that an event rule states, and decision D17 for the INT_ events. -/
def Obligations.Exclusions : Prop :=
  (∀ (e x : Instr) (b : Obs), x ∈ excludes e → ¬(occOf e b = true ∧ occOf x b = true))
  ∧ ∀ b : Obs, ¬(occOf .intFixedOpsSpec b = true ∧ occOf .intScaleOpsSpec b = true)
      ∧ ¬(occOf .intFixedOpsSpec b = true ∧ occOf .intScale2OpsSpec b = true)
      ∧ ¬(occOf .intScaleOpsSpec b = true ∧ occOf .intScale2OpsSpec b = true)

/-- 40_common_event_rules.md R122: every inclusion that depends on whether an event is implemented. -/
def Obligations.ConditionalInclusions : Prop :=
  ∀ (e x y : Instr) (b : Obs), conditionalParents e = some (x, y) → occOf e b = true →
    (b.impl.uses x = true → occOf x b = true) ∧ (b.impl.uses x = false → occOf y b = true)

/-- No event is empty: an occurrence of each can be observed. -/
def Obligations.EveryEventCanOccur : Prop := ∀ e : Instr, ∃ b : Obs, occOf e b = true

/-- 50_host_instruction_classes.md R1405: the laws of the branch classification, row by row, and the four partitions that the rule marks
"derived: from the table". -/
def Obligations.BranchLaws : Prop :=
  ∀ b : Obs,
    occOf .brImmedTakenRetired b = (occOf .brImmedRetired b && occOf .pcWriteRetired b)
    ∧ occOf .brImmedSkipRetired b = (occOf .brImmedRetired b && occOf .brSkipRetired b)
    ∧ occOf .brIndTakenRetired b = (occOf .brIndRetired b && occOf .pcWriteRetired b)
    ∧ occOf .brIndSkipRetired b = (occOf .brIndRetired b && occOf .brSkipRetired b)
    ∧ occOf .brIndnrTakenRetired b = (occOf .brIndRetired b && occOf .pcWriteRetired b && !occOf .brReturnRetired b)
    ∧ occOf .brIndnrSkipRetired b = (occOf .brIndnrRetired b && occOf .brSkipRetired b)
    ∧ (occOf .brReturnAnyRetired b = true → occOf .brIndRetired b = true)
    ∧ occOf .brReturnSkipRetired b = (occOf .brReturnAnyRetired b && occOf .brSkipRetired b)
    ∧ occOf .brIndnrRetired b = (occOf .brIndRetired b && !occOf .brReturnAnyRetired b)
    ∧ occOf .brnlIndnrTakenRetired b = (occOf .brnlIndTakenRetired b && !occOf .brReturnRetired b)
    ∧ (occOf .blTakenRetired b = true → occOf .pcWriteRetired b = true)
    ∧ occOf .brnlTakenRetired b = (occOf .pcWriteRetired b && !occOf .blTakenRetired b)
    ∧ occOf .blIndTakenRetired b = (occOf .blTakenRetired b && occOf .brIndTakenRetired b)
    ∧ occOf .brnlIndTakenRetired b = (occOf .brnlTakenRetired b && occOf .brIndTakenRetired b)
    ∧ occOf .blImmedTakenRetired b = (occOf .blTakenRetired b && occOf .brImmedTakenRetired b)
    ∧ occOf .brnlImmedTakenRetired b = (occOf .brnlTakenRetired b && occOf .brImmedTakenRetired b)
    ∧ occOf .brUncondRetired b = (occOf .brRetired b && !occOf .brCondRetired b)
    ∧ (occOf .brCondRetired b = true → occOf .brRetired b = true)
    ∧ occOf .brCondTakenRetired b = (occOf .brCondRetired b && occOf .pcWriteRetired b)
    ∧ (occOf .brHintCondRetired b = true → occOf .brCondRetired b = true)
    ∧ (occOf .brMisPredRetired b = true → occOf .brRetired b = true)
    ∧ occOf .brPredRetired b = (occOf .brRetired b && !occOf .brMisPredRetired b)
    ∧ occOf .brImmedPredRetired b = (occOf .brImmedRetired b && occOf .brPredRetired b)
    ∧ occOf .brImmedMisPredRetired b = (occOf .brImmedRetired b && occOf .brMisPredRetired b)
    ∧ occOf .brIndPredRetired b = (occOf .brIndRetired b && occOf .brPredRetired b)
    ∧ occOf .brIndMisPredRetired b = (occOf .brIndRetired b && occOf .brMisPredRetired b)
    ∧ (occOf .brReturnPredRetired b = true → occOf .brIndPredRetired b = true)
    ∧ (occOf .brReturnMisPredRetired b = true → occOf .brIndMisPredRetired b = true)
    ∧ (occOf .brIndnrPredRetired b = true → occOf .brIndPredRetired b = true)
    ∧ (occOf .brIndnrMisPredRetired b = true → occOf .brIndMisPredRetired b = true)
    ∧ occOf .brTakenPredRetired b = (occOf .brPredRetired b && occOf .pcWriteRetired b)
    ∧ occOf .brTakenMisPredRetired b = (occOf .brMisPredRetired b && occOf .pcWriteRetired b)
    ∧ occOf .brSkipPredRetired b = (occOf .brPredRetired b && occOf .brSkipRetired b)
    ∧ occOf .brSkipMisPredRetired b = (occOf .brMisPredRetired b && occOf .brSkipRetired b)
    ∧ occOf .brHintCondPredRetired b = (occOf .brHintCondRetired b && occOf .brPredRetired b)
    ∧ occOf .brHintCondMisPredRetired b = (occOf .brHintCondRetired b && occOf .brMisPredRetired b)
    ∧ (occOf .brRetired b = (occOf .brPredRetired b ^^ occOf .brMisPredRetired b)
        ∧ occOf .pcWriteRetired b = (occOf .blTakenRetired b ^^ occOf .brnlTakenRetired b)
        ∧ occOf .brIndRetired b = (occOf .brReturnAnyRetired b ^^ occOf .brIndnrRetired b)
        ∧ occOf .brRetired b = (occOf .brCondRetired b ^^ occOf .brUncondRetired b)
        ∧ ¬(occOf .brPredRetired b = true ∧ occOf .brMisPredRetired b = true)
        ∧ ¬(occOf .blTakenRetired b = true ∧ occOf .brnlTakenRetired b = true)
        ∧ ¬(occOf .brReturnAnyRetired b = true ∧ occOf .brIndnrRetired b = true)
        ∧ ¬(occOf .brCondRetired b = true ∧ occOf .brUncondRetired b = true))

/-- The laws (a) to (f) of the classification of exceptions, which 60_exceptions.md R1502 infers from the definitions quoted in R1501
("derived: from the definitions quoted in rule R1501"); L is the fact `takenLocally`. -/
def Obligations.ExceptionLaws : Prop :=
  ∀ b : Obs,
    (∀ e ∈ [Instr.excUndef, .excSvc, .excPabort, .excDabort, .excIrq, .excFiq, .excSmc, .excHvc, .excTrapPabort,
        .excTrapDabort, .excTrapOther, .excTrapIrq, .excTrapFiq], occOf e b = true → occOf .excTaken b = true)
    ∧ occOf .excUndef b = (occOf .excTaken b && b.is .takenLocally
        && !(occOf .excSvc b || occOf .excSmc b || occOf .excHvc b || occOf .excPabort b || occOf .excDabort b
          || occOf .excIrq b || occOf .excFiq b))
    ∧ occOf .excTrapOther b = (occOf .excTaken b && !b.is .takenLocally
        && !(occOf .excSmc b || occOf .excHvc b || occOf .excTrapPabort b || occOf .excTrapDabort b
          || occOf .excTrapIrq b || occOf .excTrapFiq b))
    ∧ (occOf .excTaken b = true → ∃ e ∈ [Instr.excUndef, .excSvc, .excPabort, .excDabort, .excIrq, .excFiq, .excSmc,
        .excHvc, .excTrapPabort, .excTrapDabort, .excTrapOther, .excTrapIrq, .excTrapFiq], occOf e b = true)
    ∧ ¬(occOf .excPabort b = true ∧ occOf .excTrapPabort b = true)
    ∧ ¬(occOf .excDabort b = true ∧ occOf .excTrapDabort b = true)
    ∧ ¬(occOf .excIrq b = true ∧ occOf .excTrapIrq b = true)
    ∧ ¬(occOf .excFiq b = true ∧ occOf .excTrapFiq b = true)
    ∧ (occOf .excSvc b = true → b.is .takenLocally = true)
    ∧ (occOf .excTaken b = true → b.is .takenLocally = false → occOf .excSmc b = false → occOf .excHvc b = false →
        occOf .excTrapPabort b = false → occOf .excTrapDabort b = false → occOf .excTrapIrq b = false →
        occOf .excTrapFiq b = false → occOf .excTrapOther b = true)

/-- 50_host_instruction_classes.md R1404: with FEAT_PMUv3p9 none of the four types of instruction is a Software change of the PC for
PC_WRITE_RETIRED (R207). 60_exceptions.md R1504: PC_WRITE_RETIRED and BR_SKIP_RETIRED (R235) do not increment for exceptions other than those
they identify. That an exception is an occurrence that EXC_TAKEN counts, that the identified ones are those of three of the four types, and
that PC_WRITE_SPEC (R367) and BR_INDIRECT_SPEC (R371), which count Software changes of the PC, follow, is the model's reading (log 72).
Of an operation that INST_SPEC counts and that is no branch not taken, what BR_INDIRECT_SPEC counts PC_WRITE_SPEC counts: "Software change
of the PC has the same definition" (R371). -/
def Obligations.PcWriteWithPmuv3p9 : Prop :=
  (∀ b : Obs, b.impl.has .pmuv3p9 = true → occOf .pcWriteRetired b = true →
    b.is .breakpointInstruction = false ∧ b.is .undefinedInstruction = false ∧ b.is .exceptionGenerating = false
    ∧ b.is .contextSynchronization = false)
  ∧ (∀ b : Obs, occOf .excTaken b = true → b.is .breakpointInstruction = false → b.is .undefinedInstruction = false →
    b.is .exceptionGenerating = false →
    occOf .pcWriteRetired b = false ∧ occOf .brSkipRetired b = false ∧ occOf .pcWriteSpec b = false ∧ occOf .brIndirectSpec b = false)
  ∧ ∀ b : Obs, occOf .brIndirectSpec b = true → occOf .instSpec b = true → b.is .branchNotTaken = false →
    occOf .pcWriteSpec b = true

/-- 10_state.md R38, R39; 41_architectural_events_p1.md R206, R211; 70_reset_and_hazards.md R1554: CID_WRITE_RETIRED counts the MSR writes by
the name CONTEXTIDR_EL1 and the MCR writes to CONTEXTIDR, and TTBR_WRITE_RETIRED the MSR writes by the names TTBR0_EL1 and TTBR1_EL1 and the
MCR and MCRR writes to TTBR0 and TTBR1; a write by any other name is not counted. The first of two writes with no Context synchronization
event between is counted by a draw (items U8, U14). That these two items are drawn afresh for each write, and that the draw is
`Config.drawBool` of the item and of the serial number of the occurrence, is the model's choice (logs 11 and 12). -/
def Obligations.RegisterNameWrites : Prop :=
  ∀ b : Obs,
    (occOf .cidWriteRetired b = true ↔
      (b.occ.regWrite = some (.contextidrEl1, .msr) ∨ b.occ.regWrite = some (.contextidr, .mcr))
      ∧ (b.is .followedWithoutCse = true → Config.drawBool 8 b.serial = true))
    ∧ (occOf .ttbrWriteRetired b = true ↔
      (b.occ.regWrite = some (.ttbr0El1, .msr) ∨ b.occ.regWrite = some (.ttbr1El1, .msr)
        ∨ b.occ.regWrite = some (.ttbr0, .mcr) ∨ b.occ.regWrite = some (.ttbr0, .mcrr)
        ∨ b.occ.regWrite = some (.ttbr1, .mcr) ∨ b.occ.regWrite = some (.ttbr1, .mcrr))
      ∧ (b.is .followedWithoutCse = true → Config.drawBool 14 b.serial = true))

/-- What these entries say a counter does not count: a Store-Exclusive that fails (ST_RETIRED R202), an SMC or HVC that generates another
exception (EXC_SMC R220, EXC_HVC R221); an invalidation without write-back and a write through the cache (L1D_, L2D_, L3D_ and
LL_CACHE_WB R282, R285, R302, R1000), and the transfer to refill another cache (the last three); Instruction memory accesses, walks,
write-backs and refills (MEM_ACCESS R280); errors as defined in the architecture (MEMORY_ERROR R287); a sample when profiling is disabled
(SAMPLE_POP R409); a Capture event that fails (PMU_SNAPSHOT R676). -/
def Obligations.NeverCounted : Prop :=
  ∀ b : Obs,
    (b.is .storeExclusiveFailed = true → occOf .stRetired b = false)
    ∧ (b.is .otherException = true → occOf .excSmc b = false)
    ∧ (b.is .hvcUndefined = true → occOf .excHvc b = false)
    ∧ (∀ e ∈ [Instr.l1dCacheWb, .l2dCacheWb, .l3dCacheWb, .llCacheWb],
        (b.is .invalidationOnly = true → occOf e b = false) ∧ (b.is .writeThrough = true → occOf e b = false))
    ∧ (∀ e ∈ [Instr.l2dCacheWb, .l3dCacheWb, .llCacheWb], b.is .refillOfOtherCache = true → occOf e b = false)
    ∧ (∀ f ∈ [Fact.instructionAccess, .translationTableWalk, .writeBackAccess, .refillAccess],
        b.is f = true → occOf .memAccess b = false)
    ∧ (b.is .architecturalError = true → occOf .memoryError b = false)
    ∧ (b.is .profilingDisabled = true → occOf .samplePop b = false)
    ∧ (b.is .captureFailed = true → occOf .pmuSnapshot b = false)

/-! Attribution. -/

/-- 40_common_event_rules.md R130, R131, R138: the events that the rules list carry the sharing clause, each on its cache, TLB or bus, and
no other event does; five of them are _PERCYC events, whose cycles are counted and whose clause falls on what is in progress. With
Effective MT 0 a counter counts of a shared resource only what is Attributable to its PE; with MT 1, where it is shared with PEs outside
the multithreaded processor, what is Attributable to a PE of the processor and nothing else. An event "counted by" one with the clause and
without a clause of its own is attributed as that one is, which is the model's reading (log 23). Which TLB "the TLB" of an event's clause
is, where its entry does not say (the DTLB_, ITLB_, GCSTLB_ and L1GCS_TLB events), is the model's choice (log 71), and so is which cache
"the cache" is, where the entry names several (the L2D_, L2I_, L3D_, LL_ and L1GCS_CACHE_REFILL events and L1GCS_CACHE_MISS_RD, log 76). -/
def Obligations.SharedCountsOnlyAttributable : Prop :=
  (∀ (i : Instr) (r : Resource), sharingClauseOf i = some r →
    attributionOf i = .shared r
    ∨ (attributionOf i = .cycle ∧ (i, r) ∈ [(Instr.dtlbWalkPercyc, Resource.dtlb), (.itlbWalkPercyc, .itlb),
        (.gcstlbWalkPercyc, .gcstlb), (.busReqRdPercyc, .bus), (.busReqWrPercyc, .bus)]))
  ∧ (∀ (i : Instr) (r : Resource), attributionOf i = .shared r → sharingClauseOf i = some r)
  ∧ (∀ (i : Instr) (r : Resource) (s : State) (serial : Nat) (o : Occurrence) (p n : Nat) (rest : List Offer) (c : Counter),
    (attributionOf i = .shared r ∨ ∃ x, sharingClauseOf x = some r ∧ attributionOf i = .sharedAs x r) →
    s.agenda = { happening := .occurs serial o, sink := .counter p n } :: rest →
    s.counter? p n = some c → r ∈ s.impl.shared →
    (c.mt.effective = false → o.pe ≠ some p → exec i s = .next { s with agenda := rest })
    ∧ (c.mt.effective = true → s.impl.multithreaded = true → r ∈ s.impl.sharedOutside →
        ((∀ x, o.pe = some x → x ≠ p ∧ ¬SameAffinity s.impl p x) → exec i s = .next { s with agenda := rest })
        ∧ ∀ x, o.pe = some x → (x = p ∨ SameAffinity s.impl p x) → Admits s i p c serial o →
          ∃ t, exec i s = .next t ∧ CountedBy s t p n c (incrementOf i (s.observe p c serial o)) o.withheld rest))
  ∧ ∀ (i : Instr) (r : Resource) (s : State) (serial : Nat) (o : Occurrence) (p n x : Nat) (rest : List Offer) (c : Counter),
    sharingClauseOf i = some r → attributionOf i = .cycle →
    s.agenda = { happening := .occurs serial o, sink := .counter p n } :: rest →
    s.counter? p n = some c → r ∈ s.impl.shared → Admits s i p c serial o → o.pe = some x →
    (x = p ∨ (s.impl.multithreaded = true ∧ SameAffinity s.impl p x)) →
    (c.mt.effective = false → (∀ g ∈ o.progress, g.pe ≠ some p) →
      ∃ t, exec i s = .next t ∧ CountedBy s t p n c 0 o.withheld rest)
    ∧ (c.mt.effective = true → s.impl.multithreaded = true → r ∈ s.impl.sharedOutside →
        (∀ g ∈ o.progress, ∀ y, g.pe = some y → y ≠ p ∧ ¬SameAffinity s.impl p y) →
      ∃ t, exec i s = .next t ∧ CountedBy s t p n c 0 o.withheld rest)

/-- 40_common_event_rules.md R136: an Unattributable write-back is counted if and only if the cache is not shared, by the four events
that carry the clause, each with its own cache, and by the events counted by one of them, the _WB_VICTIM and _WB_CLEAN events. An
Unattributable one is an occurrence of the four whatever the implementation answers to items U42 and U43, unless it is what their entries
do not count (R282, R285, R302, R1000; log 62). That a counter counts it where its PE is among the owners of the cache is the model's
reading (log 24). -/
def Obligations.UnattributableWriteBack : Prop :=
  (attributionOf .l1dCacheWb = .writeBack .l1dCache ∧ attributionOf .l2dCacheWb = .writeBack .l2dCache
    ∧ attributionOf .l3dCacheWb = .writeBack .l3dCache ∧ attributionOf .llCacheWb = .writeBack .llCache)
  ∧ (∀ e ∈ [Instr.l1dCacheWb, .l2dCacheWb, .l3dCacheWb, .llCacheWb], ∀ b : Obs, b.occ.pe = none → b.own e = true →
    b.is .invalidationOnly = false → b.is .writeThrough = false → (e = .l1dCacheWb ∨ b.is .refillOfOtherCache = false) →
    occOf e b = true)
  ∧ ∀ (i : Instr) (r : Resource) (s : State) (serial : Nat) (o : Occurrence) (p n : Nat) (rest : List Offer) (c : Counter),
    attributionOf i = .writeBack r → s.agenda = { happening := .occurs serial o, sink := .counter p n } :: rest →
    s.counter? p n = some c → o.pe = none → p ∈ o.owners → Admits s i p c serial o →
    (r ∈ s.impl.shared → exec i s = .next { s with agenda := rest })
    ∧ (r ∉ s.impl.shared → ∃ t, exec i s = .next t ∧ CountedBy s t p n c 1 o.withheld rest)

/-- 40_common_event_rules.md R129 (e), (f): the _INVAL events count Unattributable occurrences too; the _ALLOCATE events those of
another PE only with MT 1 and in the same multithreaded processor. The _EXT_PROP events (R389, R390, R402, R403, R407, R408) are counted by
the PE into whose cache an external propagating transaction writes, whoever initiates it. Whose cache it is stands in the occurrence,
which is the model's reading (log 24). -/
def Obligations.InvalidateAndAllocate : Prop :=
  (∀ (i : Instr) (s : State) (serial : Nat) (o : Occurrence) (p n : Nat) (rest : List Offer) (c : Counter),
    (i = .l1dCacheInval ∨ i = .l2dCacheInval ∨ i = .l3dCacheInval ∨ i = .l1gcsCacheInval) →
    s.agenda = { happening := .occurs serial o, sink := .counter p n } :: rest → s.counter? p n = some c →
    o.pe = none → p ∈ o.owners → Admits s i p c serial o →
    ∃ t, exec i s = .next t ∧ CountedBy s t p n c 1 o.withheld rest)
  ∧ (∀ (i : Instr) (s : State) (serial : Nat) (o : Occurrence) (p n x : Nat) (rest : List Offer) (c : Counter),
    (i = .l1dCacheAllocate ∨ i = .l2dCacheAllocate ∨ i = .l3dCacheAllocate) →
    s.agenda = { happening := .occurs serial o, sink := .counter p n } :: rest → s.counter? p n = some c →
    o.pe = some x → x ≠ p → Admits s i p c serial o →
    ((c.mt.effective = false ∨ s.impl.multithreaded = false ∨ ¬SameAffinity s.impl p x) →
      exec i s = .next { s with agenda := rest })
    ∧ (c.mt.effective = true → s.impl.multithreaded = true → SameAffinity s.impl p x →
      ∃ t, exec i s = .next t ∧ CountedBy s t p n c 1 o.withheld rest))
  ∧ ∀ (i : Instr) (s : State) (serial : Nat) (o : Occurrence) (p n : Nat) (rest : List Offer) (c : Counter),
    (i = .l1dCacheExtProp ∨ i = .l1dCacheExtPropPrfmIr ∨ i = .l2dCacheExtProp ∨ i = .l2dCacheExtPropPrfmIr
      ∨ i = .l3dCacheExtProp ∨ i = .l3dCacheExtPropPrfmIr) →
    s.agenda = { happening := .occurs serial o, sink := .counter p n } :: rest → s.counter? p n = some c →
    Admits s i p c serial o →
    (p ∈ o.owners → ∃ t, exec i s = .next t ∧ CountedBy s t p n c 1 o.withheld rest)
    ∧ (p ∉ o.owners → exec i s = .next { s with agenda := rest })

/-- CPU_CYCLES (R278), 40_common_event_rules.md R129 (d), 60_exceptions.md R1524: on a multithreaded implementation each Processor cycle
is counted with MT 1 and, with MT 0, each in which the counting PE is active; with FEAT_PMUv3p9 no cycle whose clock is stopped. That every
PE of the processor is offered the one cycle, and that the occurrence says which are active, is the model's reading (log 44). BUS_CYCLES
(R289, 70_reset_and_hazards.md R1560) counts every Processor cycle where the bus interface runs at the rate of the processor, and else the
cycles of the PE's own interface; that "every cycle" is every Processor cycle, with MT 0 and the PE not active too, and whose cycles are
counted, is the model's reading (log 77). At that rate it counts no cycle of a PE outside the processor and, with FEAT_PMUv3p9, none whose
clocks are stopped; without, what it does with one is the draw of U37 and is not stated. -/
def Obligations.CpuCyclesCounted : Prop :=
  (∀ (s : State) (serial : Nat) (o : Occurrence) (p n x : Nat) (rest : List Offer) (c : Counter),
    s.agenda = { happening := .occurs serial o, sink := .counter p n } :: rest → s.counter? p n = some c →
    s.impl.multithreaded = true → SameAffinity s.impl p x → o.pe = some x → c.filter.passes o.ctx = true →
    o.supplied = .only [.cpuCycles] →
    ((s.observe p c serial o).is .clocksStopped = false → c.mt.effective = true →
      ∃ t, exec .cpuCycles s = .next t ∧ CountedBy s t p n c 1 o.withheld rest)
    ∧ ((s.observe p c serial o).is .clocksStopped = false → c.mt.effective = false → p ∈ o.active →
      ∃ t, exec .cpuCycles s = .next t ∧ CountedBy s t p n c 1 o.withheld rest)
    ∧ (c.mt.effective = false → p ∉ o.active → exec .cpuCycles s = .next { s with agenda := rest })
    ∧ ((s.observe p c serial o).is .clocksStopped = true → s.impl.has .pmuv3p9 = true →
      exec .cpuCycles s = .next { s with agenda := rest }))
  ∧ ∀ (s : State) (serial : Nat) (o : Occurrence) (p n x : Nat) (rest : List Offer) (c : Counter),
    s.agenda = { happening := .occurs serial o, sink := .counter p n } :: rest → s.counter? p n = some c →
    o.pe = some x → c.filter.passes o.ctx = true →
    (s.impl.busAtProcessorRate = true → (x = p ∨ (s.impl.multithreaded = true ∧ SameAffinity s.impl p x)) →
      (s.observe p c serial o).own .cpuCycles = true → (s.observe p c serial o).is .clocksStopped = false →
      ∃ t, exec .busCycles s = .next t ∧ CountedBy s t p n c 1 o.withheld rest)
    ∧ (s.impl.busAtProcessorRate = true → (s.observe p c serial o).own .cpuCycles = false →
      exec .busCycles s = .next { s with agenda := rest })
    ∧ (s.impl.busAtProcessorRate = true → x ≠ p → ¬(s.impl.multithreaded = true ∧ SameAffinity s.impl p x) →
      exec .busCycles s = .next { s with agenda := rest })
    ∧ (s.impl.busAtProcessorRate = true → (s.observe p c serial o).is .clocksStopped = true → s.impl.has .pmuv3p9 = true →
      exec .busCycles s = .next { s with agenda := rest })
    ∧ (s.impl.busAtProcessorRate = false → x = p → (s.observe p c serial o).own .busCycles = true →
      ∃ t, exec .busCycles s = .next t ∧ CountedBy s t p n c 1 o.withheld rest)
    ∧ (s.impl.busAtProcessorRate = false → (x ≠ p ∨ (s.observe p c serial o).own .busCycles = false) →
      exec .busCycles s = .next { s with agenda := rest })

/-- STALL (42_uarch_0001_003F_p2.md R318, 40_common_event_rules.md R129 (d)): a cycle of CPU_CYCLES on whose Slots nothing of the counting
PE is sent, or, on a multithreaded implementation with MT 1, nothing of any PE of it; every cycle of STALL_FRONTEND and of STALL_BACKEND
is one (R139). That what is sent is read from the cycle's Slots, at most `slots` of them, is the model's reading (log 43). -/
def Obligations.StallCycles : Prop :=
  ∀ b : Obs,
    (occOf .stall b = true ↔
      occOf .cpuCycles b = true
      ∧ ((b.impl.multithreaded = true ∧ b.mt = true →
            ∀ x ∈ b.occ.slots.take b.impl.slots, ∀ q, x.occupant = some q → q ≠ b.pe ∧ ¬SameAffinity b.impl b.pe q)
          ∧ (¬(b.impl.multithreaded = true ∧ b.mt = true) →
            ∀ x ∈ b.occ.slots.take b.impl.slots, x.occupant ≠ some b.pe)))
    ∧ (occOf .stallFrontend b = true → occOf .stall b = true)
    ∧ (occOf .stallBackend b = true → occOf .stall b = true)

/-! Increments. -/

/-- STALL_SLOT and its two parts (40_common_event_rules.md R123, R139): at most `slots` in a cycle, the parts at most the whole; without
multithreading or with MT 0 the Slots not occupied by the PE, and on a multithreaded implementation with MT 1 the Slots not occupied by any
PE of the processor (42_uarch_0001_003F_p2.md R321). That what occupies a Slot is read from the cycle's Slots, at most `slots` of them, is
the model's reading (log 43). -/
def Obligations.SlotIncrements : Prop :=
  ∀ b : Obs,
    incrementOf .stallSlot b ≤ b.impl.slots
    ∧ incrementOf .stallSlotBackend b ≤ incrementOf .stallSlot b
    ∧ incrementOf .stallSlotFrontend b ≤ incrementOf .stallSlot b
    ∧ (b.impl.multithreaded = false ∨ b.mt = false →
        incrementOf .stallSlot b + ((b.occ.slots.take b.impl.slots).filter (fun x => x.occupant = some b.pe)).length
          = (b.occ.slots.take b.impl.slots).length)
    ∧ (b.impl.multithreaded = true → b.mt = true →
        incrementOf .stallSlot b + ((b.occ.slots.take b.impl.slots).filter (fun x => b.ofProcessor x.occupant)).length
          = (b.occ.slots.take b.impl.slots).length)
    ∧ ∀ q, b.ofProcessor q = true ↔
        ∃ x, q = some x ∧ (x = b.pe ∨ (b.impl.multithreaded = true ∧ SameAffinity b.impl b.pe x))

/-- 40_common_event_rules.md R123, class v: the number of arithmetic operations is the increment, its product with VL÷128, or its product
with the square of VL÷128. -/
def Obligations.OperationIncrements : Prop :=
  ∀ (b : Obs) (v m : Nat), b.occ.vl = 128 * m → 0 < m →
    (∀ e ∈ [Instr.fpFixedOpsSpec, .fpHpFixedOpsSpec, .fpSpFixedOpsSpec, .fpDpFixedOpsSpec, .intFixedOpsSpec,
        .fpBf16FixedOpsSpec, .fpSpFixedMinOpsSpec, .fpHpFixedMinOpsSpec, .fpBf16FixedMinOpsSpec, .fpFp8FixedMinOpsSpec],
      b.occ.ops = v → incrementOf e b = v)
    ∧ (∀ e ∈ [Instr.fpScaleOpsSpec, .fpHpScaleOpsSpec, .fpSpScaleOpsSpec, .fpDpScaleOpsSpec, .intScaleOpsSpec,
        .fpBf16ScaleOpsSpec, .fpSpScaleMinOpsSpec, .fpHpScaleMinOpsSpec, .fpBf16ScaleMinOpsSpec, .fpFp8ScaleMinOpsSpec],
      v * m = b.occ.ops → incrementOf e b = v)
    ∧ ∀ e ∈ [Instr.fpScale2OpsSpec, .fpHpScale2OpsSpec, .fpSpScale2OpsSpec, .fpDpScale2OpsSpec, .fpBf16Scale2OpsSpec,
        .intScale2OpsSpec, .fpSpScale2MinOpsSpec, .fpHpScale2MinOpsSpec, .fpBf16Scale2MinOpsSpec,
        .fpFp8Scale2MinOpsSpec],
      v * m ^ 2 = b.occ.ops → incrementOf e b = v

/-- LDST_FIXED_OPS_SPEC and LDST_FIXED_BYTES_SPEC with their two directions (R614, R616, R618, R626, R628, R630): the increment for each
kind of load and store the rules list, and for any other the operations specified and the bytes transferred; of an atomic load, a compare
and swap or a swap, half is read and half written, and of every other kind the whole is (conflict C23, log 27). The amounts of DC ZVA are
parameters (decision D18). -/
def Obligations.LoadStoreIncrements : Prop :=
  ∀ (b : Obs) (bytes : Nat), b.occ.ldst.msize = 8 * bytes →
    (b.occ.ldst.kind = .single → incrementOf .ldstFixedOpsSpec b = 1 ∧ incrementOf .ldstFixedBytesSpec b = bytes)
    ∧ (b.occ.ldst.kind = .pair → incrementOf .ldstFixedOpsSpec b = 2 ∧ incrementOf .ldstFixedBytesSpec b = 2 * bytes)
    ∧ (b.occ.ldst.kind = .multiple → incrementOf .ldstFixedOpsSpec b = b.occ.ldst.regs
        ∧ incrementOf .ldstFixedBytesSpec b = b.occ.ldst.regs * bytes)
    ∧ (b.occ.ldst.kind = .atomicStore → incrementOf .ldstFixedOpsSpec b = 1 ∧ incrementOf .ldstFixedBytesSpec b = bytes)
    ∧ (b.occ.ldst.kind = .atomicLoad ∨ b.occ.ldst.kind = .compareAndSwap ∨ b.occ.ldst.kind = .swap →
        incrementOf .ldstFixedOpsSpec b = 2 ∧ incrementOf .ldstFixedBytesSpec b = 2 * bytes
        ∧ incrementOf .ldFixedOpsSpec b = 1 ∧ incrementOf .stFixedOpsSpec b = 1
        ∧ incrementOf .ldFixedBytesSpec b = bytes ∧ incrementOf .stFixedBytesSpec b = bytes)
    ∧ (b.occ.ldst.kind = .compareAndSwapPair → incrementOf .ldstFixedOpsSpec b = 4
        ∧ incrementOf .ldstFixedBytesSpec b = 4 * bytes
        ∧ incrementOf .ldFixedOpsSpec b = 2 ∧ incrementOf .stFixedOpsSpec b = 2
        ∧ incrementOf .ldFixedBytesSpec b = 2 * bytes ∧ incrementOf .stFixedBytesSpec b = 2 * bytes)
    ∧ (b.occ.ldst.kind = .ld1r → incrementOf .ldstFixedOpsSpec b = 1 ∧ incrementOf .ldstFixedBytesSpec b = bytes)
    ∧ (b.occ.ldst.kind = .ld1rq → incrementOf .ldstFixedBytesSpec b = 16
        ∧ ∀ v, 0 < b.occ.ldst.csize → v * b.occ.ldst.csize = 128 → incrementOf .ldstFixedOpsSpec b = v)
    ∧ (b.occ.ldst.kind = .ld1ro → incrementOf .ldstFixedBytesSpec b = 32
        ∧ ∀ v, 0 < b.occ.ldst.csize → v * b.occ.ldst.csize = 256 → incrementOf .ldstFixedOpsSpec b = v)
    ∧ (b.occ.ldst.kind = .aseStructure → incrementOf .ldstFixedOpsSpec b = b.occ.ldst.elems * b.occ.ldst.regs
        ∧ incrementOf .ldstFixedBytesSpec b = b.occ.ldst.regs * b.occ.ldst.bytesPerReg)
    ∧ (b.occ.ldst.kind = .dcZva → incrementOf .ldstFixedOpsSpec b = b.impl.dczvaOps
        ∧ incrementOf .ldstFixedBytesSpec b = b.impl.dczvaBytes)
    ∧ (b.occ.ldst.kind = .table → incrementOf .ldstFixedOpsSpec b = 1 ∧ incrementOf .ldstFixedBytesSpec b = 64)
    ∧ (b.occ.ldst.kind = .block64 → incrementOf .ldstFixedOpsSpec b = 8 ∧ incrementOf .ldstFixedBytesSpec b = 64)
    ∧ (b.occ.ldst.kind = .other → incrementOf .ldstFixedOpsSpec b = b.occ.ldst.specified
        ∧ incrementOf .ldstFixedBytesSpec b = b.occ.ldst.bytesPerReg * b.occ.ldst.regs * b.occ.ldst.transfers)
    ∧ (b.occ.ldst.kind ∉ [LdStKind.atomicLoad, .compareAndSwap, .swap, .compareAndSwapPair] →
        incrementOf .ldFixedOpsSpec b = incrementOf .ldstFixedOpsSpec b
        ∧ incrementOf .stFixedOpsSpec b = incrementOf .ldstFixedOpsSpec b
        ∧ incrementOf .ldFixedBytesSpec b = incrementOf .ldstFixedBytesSpec b
        ∧ incrementOf .stFixedBytesSpec b = incrementOf .ldstFixedBytesSpec b)

/-- 40_common_event_rules.md R123, class percyc: the transactions in progress in the cycle, of the event named, that are attributed to the
counter. Where all that is in progress is of the counting PE, all of them; instruction fetches and read accesses, those of the counting PE
(R129 (b)); of a shared cache, TLB or bus (R130, R131, R138) those of the counting PE with MT 0, and with MT 1, where it is shared with PEs
outside the multithreaded processor, those of the processor. Each occurs on every Processor cycle, an occurrence of CPU_CYCLES
(70_reset_and_hazards.md R1560, 60_exceptions.md R1524): exactly those that a counter of CPU_CYCLES with MT 1 counts, whether the counting
PE is active or not. That the clause falls on each transaction in progress, and that the clause of R129 (d) on what is active is not of the
_PERCYC events, is the model's reading (log 25). -/
def Obligations.PerCycleIncrements : Prop :=
  ∀ (b : Obs),
    ((∀ q ∈ b.occ.progress, q.pe = some b.pe) →
      ∀ z ∈ [(Instr.instFetchPercyc, Instr.instFetch), (.memAccessRdPercyc, .memAccessRd), (.busReqRdPercyc, .busReqRd),
          (.busReqWrPercyc, .busReqWr), (.dtlbWalkPercyc, .dtlbWalk), (.itlbWalkPercyc, .itlbWalk),
          (.l1dCacheRefillPercyc, .l1dCacheRefill), (.l2dCacheRefillPercyc, .l2dCacheRefill),
          (.l3dCacheRefillPercyc, .l3dCacheRefill), (.l1iCacheRefillPercyc, .l1iCacheRefill),
          (.l2iCacheRefillPercyc, .l2iCacheRefill), (.l1gcsCacheRefillPercyc, .l1gcsCacheRefill),
          (.gcstlbWalkPercyc, .gcstlbWalk)],
        incrementOf z.1 b = ((b.occ.progress.filter (fun q => q.event = z.2)).map (fun q => q.count)).sum)
    ∧ (∀ z ∈ [(Instr.instFetchPercyc, Instr.instFetch), (.memAccessRdPercyc, .memAccessRd)],
        incrementOf z.1 b
          = ((b.occ.progress.filter (fun q => q.event = z.2 && q.pe = some b.pe)).map (fun q => q.count)).sum)
    ∧ (∀ z ∈ [(Instr.busReqRdPercyc, Instr.busReqRd, Resource.bus), (.busReqWrPercyc, .busReqWr, .bus),
          (.dtlbWalkPercyc, .dtlbWalk, .dtlb), (.itlbWalkPercyc, .itlbWalk, .itlb), (.gcstlbWalkPercyc, .gcstlbWalk, .gcstlb),
          (.l1dCacheRefillPercyc, .l1dCacheRefill, .l1dCache), (.l2dCacheRefillPercyc, .l2dCacheRefill, .l2dCache),
          (.l3dCacheRefillPercyc, .l3dCacheRefill, .l3dCache), (.l1iCacheRefillPercyc, .l1iCacheRefill, .l1iCache),
          (.l2iCacheRefillPercyc, .l2iCacheRefill, .l2iCache), (.l1gcsCacheRefillPercyc, .l1gcsCacheRefill, .l1gcsCache)],
        z.2.2 ∈ b.impl.shared →
        (b.mt = false → incrementOf z.1 b
          = ((b.occ.progress.filter (fun q => q.event = z.2.1 && q.pe = some b.pe)).map (fun q => q.count)).sum)
        ∧ (b.mt = true → b.impl.multithreaded = true → z.2.2 ∈ b.impl.sharedOutside → incrementOf z.1 b
          = ((b.occ.progress.filter (fun q => q.event = z.2.1 && b.ofProcessor q.pe)).map (fun q => q.count)).sum))
    ∧ (∀ q, b.ofProcessor q = true ↔
        ∃ x, q = some x ∧ (x = b.pe ∨ (b.impl.multithreaded = true ∧ SameAffinity b.impl b.pe x)))
    ∧ ∀ e ∈ [Instr.instFetchPercyc, .memAccessRdPercyc, .busReqRdPercyc, .busReqWrPercyc, .dtlbWalkPercyc, .itlbWalkPercyc,
        .l1dCacheRefillPercyc, .l2dCacheRefillPercyc, .l3dCacheRefillPercyc, .l1iCacheRefillPercyc, .l2iCacheRefillPercyc,
        .l1gcsCacheRefillPercyc, .gcstlbWalkPercyc], occOf e b = occOf .cpuCycles { b with mt := true }

/-- SVE_PLOOP_ELTS_SPEC (R538) and the SCALE_BYTES events (R625, R627, R629): 128 ÷ CSIZE, and (16 ÷ (CSIZE ÷ MSIZE)) times the
registers. -/
def Obligations.ElementIncrements : Prop :=
  ∀ (b : Obs) (v : Nat),
    (0 < b.occ.ldst.csize → v * b.occ.ldst.csize = 128 → incrementOf .svePloopEltsSpec b = v)
    ∧ ∀ ratio, 0 < b.occ.ldst.msize → b.occ.ldst.csize = ratio * b.occ.ldst.msize → v * ratio = 16 →
      ∀ e ∈ [Instr.ldstScaleBytesSpec, .ldScaleBytesSpec, .stScaleBytesSpec], incrementOf e b = v * b.occ.ldst.regs

/-! Discovery and the host's steps. -/

/-- 30_encoding.md R95, R96, R102, decision D13: the bit of each event in PMCEID0_EL0 and PMCEID1_EL0, and 0 in the bits of the numbers that
have no event. The bit of an event that the system generates may be 1 though the event is not implemented; that the parameter `raoBits`
says so, and that the entry of TRB_TRIG decides for it where the system generates the event, is the model's choice (log 52). -/
def Obligations.PmceidBits : Prop :=
  ∀ impl : Impl,
    (∀ (e : Instr) (v : Bool), e ≠ .pmuOvfs → e ≠ .pmuHovfs → e ≠ .trbTrig →
      (v = true ↔ impl.uses e = true ∨ (e ∈ impl.systemGenerated ∧ e ∈ impl.raoBits)) →
      ((encode e).toNat < 0x20 → (impl.pmceid 0).getLsbD (encode e).toNat = v)
      ∧ (0x20 ≤ (encode e).toNat → (encode e).toNat < 0x40 →
          (impl.pmceid 1).getLsbD ((encode e).toNat - 0x20) = v)
      ∧ (0x4000 ≤ (encode e).toNat → (encode e).toNat < 0x4020 →
          (impl.pmceid 0).getLsbD (32 + ((encode e).toNat - 0x4000)) = v)
      ∧ (0x4020 ≤ (encode e).toNat → (encode e).toNat < 0x4040 →
          (impl.pmceid 1).getLsbD (32 + ((encode e).toNat - 0x4020)) = v))
    ∧ (impl.pmceid 0).getLsbD 45 = false ∧ (impl.pmceid 0).getLsbD 47 = false
    ∧ (impl.pmceid 0).getLsbD 46 = (impl.uses .trbTrig && impl.trbTrigCountable)
    ∧ (∀ x ∈ [0x07, 0x08, 0x14, 0x15, 0x16, 0x17, 0x1C, 0x1D, 0x1E, 0x1F], (impl.pmceid 0).getLsbD (32 + x) = false)
    ∧ ∀ x : Nat, x < 0x20 → (x = 0x03 ∨ 0x07 ≤ x) → (impl.pmceid 1).getLsbD (32 + x) = false

/-- 30_encoding.md R97 and gap G3 (log 14): the AArch32 words are the halves of the AArch64 registers. -/
def Obligations.PmceidAarch32Halves : Prop :=
  ∀ (impl : Impl) (j : Nat), j < 32 →
    (impl.pmceid32 0).getLsbD j = (impl.pmceid 0).getLsbD j ∧ (impl.pmceid32 1).getLsbD j = (impl.pmceid 1).getLsbD j
    ∧ (impl.pmceid32 2).getLsbD j = (impl.pmceid 0).getLsbD (32 + j)
    ∧ (impl.pmceid32 3).getLsbD j = (impl.pmceid 1).getLsbD (32 + j)

/-- 70_reset_and_hazards.md R1552 (b), (c): a read of PMCEID or of a counter answers its value and changes nothing else. -/
def Obligations.ReadsAnswer : Prop :=
  (∀ (s : State) (p r : Nat) (rest : List Input), s.agenda = [] → s.inputs = .readPmceid p r :: rest →
    p < s.pes.length → r < 2 →
    step s = .next { s with inputs := rest, out := s.out ++ [.value p (s.impl.pmceid r)] })
  ∧ ∀ (s : State) (p n : Nat) (rest : List Input) (c : Counter), s.agenda = [] →
    s.inputs = .readPmevcntr p n :: rest → s.counter? p n = some c →
    step s = .next { s with inputs := rest, out := s.out ++ [.value p c.count] }

/-- 70_reset_and_hazards.md R1552 (d), (e): a write of an event type or of a count changes that of one counter; the number is cut to
EVTCOUNT_WIDTH bits (log 20) and the value to W. -/
def Obligations.CounterWrites : Prop :=
  (∀ (s : State) (p n e : Nat) (mt : Bool) (f : Filter) (rest : List Input) (c : Counter), s.agenda = [] →
    s.inputs = .writePmevtyper p n e mt f :: rest → s.counter? p n = some c →
    ∃ t, step s = .next t ∧ t.inputs = rest ∧ t.agenda = [] ∧ t.out = s.out ∧ t.impl = s.impl ∧ t.draws = s.draws
      ∧ t.counter? p n = some { c with evtCount := BitVec.ofNat 16 (e % 2 ^ s.impl.evtCountWidth),
                                       mt := { c.mt with written := mt }, filter := f }
      ∧ (∀ p' n', ¬(p' = p ∧ n' = n) → t.counter? p' n' = s.counter? p' n')
      ∧ t.pes.map Pe.registers = s.pes.map Pe.registers)
  ∧ ∀ (s : State) (p n x : Nat) (rest : List Input) (c : Counter), s.agenda = [] →
    s.inputs = .writePmevcntr p n x :: rest → s.counter? p n = some c →
    ∃ t, step s = .next t ∧ t.inputs = rest ∧ t.agenda = [] ∧ t.out = s.out ∧ t.impl = s.impl ∧ t.draws = s.draws
      ∧ t.counter? p n = some { c with count := BitVec.ofNat 64 (x % 2 ^ (if s.impl.has .pmuv3p5 then 64 else 32)) }
      ∧ (∀ p' n', ¬(p' = p ∧ n' = n) → t.counter? p' n' = s.counter? p' n')
      ∧ t.pes.map Pe.registers = s.pes.map Pe.registers

/-- 70_reset_and_hazards.md R1550, R1552 (f): the reset of the event counters of PE p writes RESET_COUNT to each, and leaves what they
count, the cycle counter and the other PEs. -/
def Obligations.CountersReset : Prop :=
  ∀ (s : State) (p : Nat) (rest : List Input), s.agenda = [] → s.inputs = .resetEventCounters p :: rest →
    p < s.pes.length →
    ∃ t, step s = .next t ∧ t.inputs = rest ∧ t.agenda = [] ∧ t.out = s.out ∧ t.impl = s.impl ∧ t.draws = s.draws
      ∧ t.pes.map Pe.registers = s.pes.map Pe.registers
      ∧ (∀ n c, s.counter? p n = some c → t.counter? p n = some { c with
          count := BitVec.ofNat 64 (s.impl.resetCount.toNat % 2 ^ (if s.impl.has .pmuv3p5 then 64 else 32)) })
      ∧ ∀ p' n', p' ≠ p → t.counter? p' n' = s.counter? p' n'

/-- 70_reset_and_hazards.md R1552, 10_state.md R31: the steps the machine refuses, each for its own reason: a read of PMSWINC, a read or a
write of an event counter or of its event type where the PE has no such counter, a field that is absent. -/
def Obligations.HostStepsRefused : Prop :=
  (∀ (s : State) (p : Nat) (rest : List Input), s.agenda = [] → s.inputs = .readPmswinc p :: rest →
    step s = .refused .readOfPmswinc)
  ∧ (∀ (s : State) (p n x : Nat) (rest : List Input) (q : Pe), s.agenda = [] → s.inputs = .writePmevcntr p n x :: rest →
    s.pes[p]? = some q → q.counters.length ≤ n → step s = .refused .noSuchCounter)
  ∧ (∀ (s : State) (p n : Nat) (rest : List Input) (q : Pe), s.agenda = [] → s.inputs = .readPmevcntr p n :: rest →
    s.pes[p]? = some q → q.counters.length ≤ n → step s = .refused .noSuchCounter)
  ∧ (∀ (s : State) (p n e : Nat) (mt : Bool) (f : Filter) (rest : List Input) (q : Pe), s.agenda = [] →
    s.inputs = .writePmevtyper p n e mt f :: rest → s.pes[p]? = some q → q.counters.length ≤ n →
    step s = .refused .noSuchCounter)
  ∧ (∀ (s : State) (p v : Nat) (rest : List Input), s.agenda = [] → s.inputs = .writeControl p (.hpmn v) :: rest →
    p < s.pes.length → s.impl.haveEl2 = false → step s = .refused .fieldAbsent)
  ∧ ∀ (s : State) (p v : Nat) (rest : List Input), s.agenda = [] → s.inputs = .writeControl p (.epmn v) :: rest →
    p < s.pes.length → s.impl.has .pmuv3Extpmn = false → step s = .refused .fieldAbsent

/-- 70_reset_and_hazards.md R1552 (g), 10_state.md R30, R33, R35: a written LP, LC, HPMN, HLP or EPMN has its Effective value at once
unless another value is forced, which is kept beside the written one until it is released (log 31); nothing else changes. HLP is refused
without EL2. -/
def Obligations.ControlWrites : Prop :=
  (∀ (s : State) (p : Nat) (v : Bool) (rest : List Input) (q : Pe), s.agenda = [] →
    s.inputs = .writeControl p (.lp v) :: rest → s.pes[p]? = some q →
    ∃ t q', step s = .next t ∧ PeBecomes s t p q' rest ∧ q' = { q with lp := { q.lp with written := v } }
      ∧ (q.lp.forced = none → q'.lp.effective = v) ∧ ∀ f, q.lp.forced = some f → q'.lp.effective = f)
  ∧ (∀ (s : State) (p v : Nat) (rest : List Input) (q : Pe), s.agenda = [] →
    s.inputs = .writeControl p (.hpmn v) :: rest → s.pes[p]? = some q → s.impl.haveEl2 = true →
    ∃ t q', step s = .next t ∧ PeBecomes s t p q' rest ∧ q' = { q with hpmn := { q.hpmn with written := v } }
      ∧ (q.hpmn.forced = none → q'.hpmn.effective = v) ∧ ∀ f, q.hpmn.forced = some f → q'.hpmn.effective = f)
  ∧ (∀ (s : State) (p : Nat) (v : Bool) (rest : List Input) (q : Pe), s.agenda = [] →
    s.inputs = .writeControl p (.lc v) :: rest → s.pes[p]? = some q →
    ∃ t q', step s = .next t ∧ PeBecomes s t p q' rest ∧ q' = { q with lc := { q.lc with written := v } }
      ∧ (q.lc.forced = none → q'.lc.effective = v) ∧ ∀ f, q.lc.forced = some f → q'.lc.effective = f)
  ∧ (∀ (s : State) (p : Nat) (v : Bool) (rest : List Input) (q : Pe), s.agenda = [] →
    s.inputs = .writeControl p (.hlp v) :: rest → s.pes[p]? = some q →
    (s.impl.haveEl2 = false → step s = .refused .fieldAbsent)
    ∧ (s.impl.haveEl2 = true →
      ∃ t q', step s = .next t ∧ PeBecomes s t p q' rest ∧ q' = { q with hlp := { q.hlp with written := v } }
        ∧ (q.hlp.forced = none → q'.hlp.effective = v) ∧ ∀ f, q.hlp.forced = some f → q'.hlp.effective = f))
  ∧ ∀ (s : State) (p v : Nat) (rest : List Input) (q : Pe), s.agenda = [] →
    s.inputs = .writeControl p (.epmn v) :: rest → s.pes[p]? = some q → s.impl.has .pmuv3Extpmn = true →
    ∃ t q', step s = .next t ∧ PeBecomes s t p q' rest ∧ q' = { q with epmn := { q.epmn with written := v } }
      ∧ (q.epmn.forced = none → q'.epmn.effective = v) ∧ ∀ f, q.epmn.forced = some f → q'.epmn.effective = f

/-- 10_state.md R32, 70_reset_and_hazards.md R1552 (g): a write of PMINTENSET bit n below 32 changes bit n and no other, a write of bit n
from 32 up changes nothing, which is the model's choice (log 53), and a write of PMINTENSET.F0 changes F0 and nothing else. -/
def Obligations.IntenWrites : Prop :=
  (∀ (s : State) (p n : Nat) (v : Bool) (rest : List Input) (q : Pe), s.agenda = [] →
    s.inputs = .writeInten p n v :: rest → s.pes[p]? = some q →
    (n < 32 → ∃ t q', step s = .next t ∧ PeBecomes s t p q' rest ∧ q' = { q with inten := q'.inten }
      ∧ q'.inten.getLsbD n = v ∧ ∀ j, j ≠ n → q'.inten.getLsbD j = q.inten.getLsbD j)
    ∧ (32 ≤ n → ∃ t, step s = .next t ∧ PeBecomes s t p q rest))
  ∧ ∀ (s : State) (p : Nat) (v : Bool) (rest : List Input) (q : Pe), s.agenda = [] →
    s.inputs = .writeF0 p v :: rest → s.pes[p]? = some q →
    ∃ t, step s = .next t ∧ PeBecomes s t p { q with f0 := v } rest

/-- 10_state.md R28, R29, 40_common_event_rules.md R127 (b), (c): a counted cycle adds one to PMCCNTR_EL0 and a counted instruction to
PMICNTR_EL0, modulo 2^64; only an overflow is offered to the consumers; the other PEs and everything else stay as they are. -/
def Obligations.CyclesAndInstructions : Prop :=
  (∀ (s : State) (p : Nat) (ex : Bool) (rest : List Input) (q : Pe), s.agenda = [] →
    s.inputs = .cycleCounted p ex :: rest → s.pes[p]? = some q →
    ∃ t q', step s = .next t ∧ PeBecomes s { t with agenda := [] } p q' rest ∧ q' = { q with pmccntr := q'.pmccntr }
      ∧ q'.pmccntr.toNat = (q.pmccntr.toNat + 1) % 2 ^ 64
      ∧ (q.pmccntr.toNat % 2 ^ 32 + 1 < 2 ^ 32 → t.agenda = [])
      ∧ (q.pmccntr.toNat % 2 ^ 32 + 1 = 2 ^ 32 → ∃ w64, (w64 = true ↔ q.pmccntr.toNat + 1 = 2 ^ 64)
          ∧ t.agenda = overflowOffers { source := .cycleCounter p, ovf32 := true, ovf64 := w64, exportAllowed := ex }))
  ∧ ∀ (s : State) (p : Nat) (ex : Bool) (rest : List Input) (q : Pe), s.agenda = [] →
    s.inputs = .instructionCounted p ex :: rest → s.pes[p]? = some q → s.impl.has .pmuv3Icntr = true →
    ∃ t q', step s = .next t ∧ PeBecomes s { t with agenda := [] } p q' rest ∧ q' = { q with pmicntr := q'.pmicntr }
      ∧ q'.pmicntr.toNat = (q.pmicntr.toNat + 1) % 2 ^ 64
      ∧ (q.pmicntr.toNat % 2 ^ 32 + 1 < 2 ^ 32 → t.agenda = [])
      ∧ (q.pmicntr.toNat % 2 ^ 32 + 1 = 2 ^ 32 → ∃ w64, (w64 = true ↔ q.pmicntr.toNat + 1 = 2 ^ 64)
          ∧ t.agenda = overflowOffers { source := .instructionCounter p, ovf32 := true, ovf64 := w64, exportAllowed := ex })


/-- The other steps of the host and the environment (70_reset_and_hazards.md R1550, R1552 (b), (g); 10_state.md R35, R37;
40_common_event_rules.md R126, R128). The environment forces and releases the Effective value of LP, LC, HPMN, HLP, EPMN and of a
counter's MT; it states chain_filter_all(n), TRFCR_EL2.E2TRE and SelfHostedTraceEnabled(); PMCR.C resets the cycle counter to the
parameter that the model has for it (log 33); PMCEID<r> is read in AArch32 state (log 14). That these are steps of their own is the
model's choice (logs 1 and 33), as is that a forced value is kept beside the written one until it is released (log 31), and that a read of
PMCEID<r> with r from 4 up is refused (log 32). -/
def Obligations.EnvironmentSteps : Prop :=
  ∀ (s : State) (p : Nat) (rest : List Input) (q : Pe), s.agenda = [] → s.pes[p]? = some q →
    (∀ v, s.inputs = .forceControl p (.lp v) :: rest →
      ∃ t q', step s = .next t ∧ PeBecomes s t p q' rest ∧ q' = { q with lp := q'.lp }
        ∧ q'.lp.written = q.lp.written ∧ q'.lp.effective = v)
    ∧ (∀ v, s.inputs = .forceControl p (.lc v) :: rest →
      ∃ t q', step s = .next t ∧ PeBecomes s t p q' rest ∧ q' = { q with lc := q'.lc }
        ∧ q'.lc.written = q.lc.written ∧ q'.lc.effective = v)
    ∧ (∀ v, s.inputs = .forceControl p (.hpmn v) :: rest → s.impl.haveEl2 = true →
      ∃ t q', step s = .next t ∧ PeBecomes s t p q' rest ∧ q' = { q with hpmn := q'.hpmn }
        ∧ q'.hpmn.written = q.hpmn.written ∧ q'.hpmn.effective = v)
    ∧ (∀ v, s.inputs = .forceControl p (.hlp v) :: rest → s.impl.haveEl2 = true →
      ∃ t q', step s = .next t ∧ PeBecomes s t p q' rest ∧ q' = { q with hlp := q'.hlp }
        ∧ q'.hlp.written = q.hlp.written ∧ q'.hlp.effective = v)
    ∧ (∀ v, s.inputs = .forceControl p (.epmn v) :: rest → s.impl.has .pmuv3Extpmn = true →
      ∃ t q', step s = .next t ∧ PeBecomes s t p q' rest ∧ q' = { q with epmn := q'.epmn }
        ∧ q'.epmn.written = q.epmn.written ∧ q'.epmn.effective = v)
    ∧ (s.inputs = .releaseControl p .lp :: rest →
      ∃ t q', step s = .next t ∧ PeBecomes s t p q' rest ∧ q' = { q with lp := q'.lp }
        ∧ q'.lp.written = q.lp.written ∧ q'.lp.effective = q.lp.written)
    ∧ (s.inputs = .releaseControl p .lc :: rest →
      ∃ t q', step s = .next t ∧ PeBecomes s t p q' rest ∧ q' = { q with lc := q'.lc }
        ∧ q'.lc.written = q.lc.written ∧ q'.lc.effective = q.lc.written)
    ∧ (s.inputs = .releaseControl p .hpmn :: rest → s.impl.haveEl2 = true →
      ∃ t q', step s = .next t ∧ PeBecomes s t p q' rest ∧ q' = { q with hpmn := q'.hpmn }
        ∧ q'.hpmn.written = q.hpmn.written ∧ q'.hpmn.effective = q.hpmn.written)
    ∧ (s.inputs = .releaseControl p .hlp :: rest → s.impl.haveEl2 = true →
      ∃ t q', step s = .next t ∧ PeBecomes s t p q' rest ∧ q' = { q with hlp := q'.hlp }
        ∧ q'.hlp.written = q.hlp.written ∧ q'.hlp.effective = q.hlp.written)
    ∧ (s.inputs = .releaseControl p .epmn :: rest → s.impl.has .pmuv3Extpmn = true →
      ∃ t q', step s = .next t ∧ PeBecomes s t p q' rest ∧ q' = { q with epmn := q'.epmn }
        ∧ q'.epmn.written = q.epmn.written ∧ q'.epmn.effective = q.epmn.written)
    ∧ (∀ n v c, s.inputs = .forceMt p n v :: rest → s.counter? p n = some c →
      ∃ t c', step s = .next t ∧ t.counter? p n = some c' ∧ c' = { c with mt := { c.mt with forced := v } }
        ∧ (∀ x, v = some x → c'.mt.effective = x) ∧ (v = none → c'.mt.effective = c.mt.written)
        ∧ (∀ p' n', ¬(p' = p ∧ n' = n) → t.counter? p' n' = s.counter? p' n')
        ∧ t.pes.map Pe.registers = s.pes.map Pe.registers ∧ t.inputs = rest ∧ t.agenda = [] ∧ t.out = s.out
        ∧ t.impl = s.impl ∧ t.draws = s.draws)
    ∧ (∀ n v c, s.inputs = .stateChainFilterAll p n v :: rest → s.counter? p n = some c →
      ∃ t, step s = .next t ∧ t.counter? p n = some { c with chainFilterAll := v }
        ∧ (∀ p' n', ¬(p' = p ∧ n' = n) → t.counter? p' n' = s.counter? p' n')
        ∧ t.pes.map Pe.registers = s.pes.map Pe.registers ∧ t.inputs = rest ∧ t.agenda = [] ∧ t.out = s.out
        ∧ t.impl = s.impl ∧ t.draws = s.draws)
    ∧ (∀ x y, s.inputs = .stateTrace p x y :: rest →
      ∃ t, step s = .next t ∧ PeBecomes s t p { q with e2tre := x, selfHosted := y } rest)
    ∧ (s.inputs = .resetCycleCounter p :: rest →
      ∃ t, step s = .next t ∧ PeBecomes s t p { q with pmccntr := s.impl.resetCycleCount } rest)
    ∧ ∀ r, s.inputs = .readPmceid32 p r :: rest →
      (r < 4 → step s = .next { s with inputs := rest, out := s.out ++ [.value p (s.impl.pmceid32 r)] })
      ∧ (4 ≤ r → step s = .refused .noSuchPmceid)
end

