-- ==== Sys2Proof/Laws/State.lean ====
section
/-!
SUPPORT. One lemma per field per update of the state.
-/

namespace Sys2Proof.Machine

@[simp] theorem State.modifyPe_impl (s : State) (p : Nat) (f : Pe → Pe) : (s.modifyPe p f).impl = s.impl := rfl
@[simp] theorem State.modifyPe_pes (s : State) (p : Nat) (f : Pe → Pe) : (s.modifyPe p f).pes = s.pes.modify p f := rfl
@[simp] theorem State.modifyPe_agenda (s : State) (p : Nat) (f : Pe → Pe) : (s.modifyPe p f).agenda = s.agenda := rfl
@[simp] theorem State.modifyPe_inputs (s : State) (p : Nat) (f : Pe → Pe) : (s.modifyPe p f).inputs = s.inputs := rfl
@[simp] theorem State.modifyPe_draws (s : State) (p : Nat) (f : Pe → Pe) : (s.modifyPe p f).draws = s.draws := rfl
@[simp] theorem State.modifyPe_out (s : State) (p : Nat) (f : Pe → Pe) : (s.modifyPe p f).out = s.out := rfl
@[simp] theorem State.modifyCounter_impl (s : State) (p n : Nat) (f : Counter → Counter) : (s.modifyCounter p n f).impl = s.impl := rfl
@[simp] theorem State.modifyCounter_pes (s : State) (p n : Nat) (f : Counter → Counter) : (s.modifyCounter p n f).pes = s.pes.modify p (fun q => { q with counters := q.counters.modify n f }) := rfl
@[simp] theorem State.modifyCounter_agenda (s : State) (p n : Nat) (f : Counter → Counter) : (s.modifyCounter p n f).agenda = s.agenda := rfl
@[simp] theorem State.modifyCounter_inputs (s : State) (p n : Nat) (f : Counter → Counter) : (s.modifyCounter p n f).inputs = s.inputs := rfl
@[simp] theorem State.modifyCounter_draws (s : State) (p n : Nat) (f : Counter → Counter) : (s.modifyCounter p n f).draws = s.draws := rfl
@[simp] theorem State.modifyCounter_out (s : State) (p n : Nat) (f : Counter → Counter) : (s.modifyCounter p n f).out = s.out := rfl
@[simp] theorem State.setCount_impl (s : State) (p n : Nat) (v : CountWord) : (s.setCount p n v).impl = s.impl := rfl
@[simp] theorem State.setCount_agenda (s : State) (p n : Nat) (v : CountWord) : (s.setCount p n v).agenda = s.agenda := rfl
@[simp] theorem State.setCount_inputs (s : State) (p n : Nat) (v : CountWord) : (s.setCount p n v).inputs = s.inputs := rfl
@[simp] theorem State.setCount_draws (s : State) (p n : Nat) (v : CountWord) : (s.setCount p n v).draws = s.draws := rfl
@[simp] theorem State.setCount_out (s : State) (p n : Nat) (v : CountWord) : (s.setCount p n v).out = s.out := rfl
@[simp] theorem State.setCount_pes (s : State) (p n : Nat) (v : CountWord) :
    (s.setCount p n v).pes = s.pes.modify p (fun q => { q with counters := q.counters.modify n (fun c => { c with count := v }) }) := rfl
@[simp] theorem State.dropOffer_impl (s : State) : (s.dropOffer).impl = s.impl := rfl
@[simp] theorem State.dropOffer_pes (s : State) : (s.dropOffer).pes = s.pes := rfl
@[simp] theorem State.dropOffer_agenda (s : State) : (s.dropOffer).agenda = s.agenda.tail := rfl
@[simp] theorem State.dropOffer_inputs (s : State) : (s.dropOffer).inputs = s.inputs := rfl
@[simp] theorem State.dropOffer_draws (s : State) : (s.dropOffer).draws = s.draws := rfl
@[simp] theorem State.dropOffer_out (s : State) : (s.dropOffer).out = s.out := rfl
@[simp] theorem State.offerFirst_impl (s : State) (l : List Offer) : (s.offerFirst l).impl = s.impl := rfl
@[simp] theorem State.offerFirst_pes (s : State) (l : List Offer) : (s.offerFirst l).pes = s.pes := rfl
@[simp] theorem State.offerFirst_agenda (s : State) (l : List Offer) : (s.offerFirst l).agenda = l ++ s.agenda := rfl
@[simp] theorem State.offerFirst_inputs (s : State) (l : List Offer) : (s.offerFirst l).inputs = s.inputs := rfl
@[simp] theorem State.offerFirst_draws (s : State) (l : List Offer) : (s.offerFirst l).draws = s.draws := rfl
@[simp] theorem State.offerFirst_out (s : State) (l : List Offer) : (s.offerFirst l).out = s.out := rfl
@[simp] theorem State.emit_impl (s : State) (o : Output) : (s.emit o).impl = s.impl := rfl
@[simp] theorem State.emit_pes (s : State) (o : Output) : (s.emit o).pes = s.pes := rfl
@[simp] theorem State.emit_agenda (s : State) (o : Output) : (s.emit o).agenda = s.agenda := rfl
@[simp] theorem State.emit_inputs (s : State) (o : Output) : (s.emit o).inputs = s.inputs := rfl
@[simp] theorem State.emit_draws (s : State) (o : Output) : (s.emit o).draws = s.draws := rfl
@[simp] theorem State.emit_out (s : State) (o : Output) : (s.emit o).out = s.out ++ [o] := rfl

@[simp] theorem State.countAt_impl (s : State) (p n : Nat) (old : CountWord) (k : Nat) (wh : List OverflowSource) :
    (s.countAt p n old k wh).impl = s.impl := rfl
@[simp] theorem State.countAt_inputs (s : State) (p n : Nat) (old : CountWord) (k : Nat) (wh : List OverflowSource) :
    (s.countAt p n old k wh).inputs = s.inputs := rfl
@[simp] theorem State.countAt_out (s : State) (p n : Nat) (old : CountWord) (k : Nat) (wh : List OverflowSource) :
    (s.countAt p n old k wh).out = s.out := rfl
@[simp] theorem State.countAt_draws (s : State) (p n : Nat) (old : CountWord) (k : Nat) (wh : List OverflowSource) :
    (s.countAt p n old k wh).draws = s.draws + 1 := rfl
@[simp] theorem State.countAt_pes (s : State) (p n : Nat) (old : CountWord) (k : Nat) (wh : List OverflowSource) :
    (s.countAt p n old k wh).pes
      = (s.modifyCounter p n (fun c => { c with count := addCount s.impl old k })).pes := rfl
@[simp] theorem State.countAt_agenda (s : State) (p n : Nat) (old : CountWord) (k : Nat) (wh : List OverflowSource) :
    (s.countAt p n old k wh).agenda
      = chainOffers s p n (overflow32 old k) wh
        ++ (if overflow32 old k || overflow64 s.impl old k then
              overflowOffers { source := .counter p n, ovf32 := overflow32 old k,
                               ovf64 := overflow64 s.impl old k, exportAllowed := !wh.contains (.counter p n) }
            else [])
        ++ s.agenda := rfl

/-- Reading a counter after a counter of a PE is changed. -/
theorem State.modifyCounter_counter? (s : State) (p n p' n' : Nat) (f : Counter → Counter) :
    (s.modifyCounter p n f).counter? p' n'
      = if p = p' ∧ n = n' then (s.counter? p' n').map f else s.counter? p' n' := by
  unfold State.counter?
  simp only [State.modifyCounter_pes, List.getElem?_modify]
  by_cases hp : p = p'
  · subst hp
    cases hq : s.pes[p]? with
    | none => simp
    | some q =>
      simp only [if_true, Option.map_eq_map, Option.map_some, Option.bind_some, List.getElem?_modify]
      by_cases hn : n = n' <;> simp [hn]
  · simp [hp]

/-- Reading a counter after another count is put into one. -/
theorem State.setCount_counter? (s : State) (p n p' n' : Nat) (v : CountWord) :
    (s.setCount p n v).counter? p' n'
      = if p = p' ∧ n = n' then (s.counter? p' n').map (fun c => { c with count := v }) else s.counter? p' n' :=
  State.modifyCounter_counter? s p n p' n' (fun c => { c with count := v })

/-- Reading a counter after a change of a PE that keeps its counters. -/
theorem State.counter?_congr (s t : State) (h : t.pes = s.pes) (p n : Nat) : t.counter? p n = s.counter? p n := by
  unfold State.counter?
  rw [h]

@[simp] theorem State.dropOffer_counter? (s : State) (p n : Nat) : s.dropOffer.counter? p n = s.counter? p n := rfl

@[simp] theorem State.emit_counter? (s : State) (o : Output) (p n : Nat) : (s.emit o).counter? p n = s.counter? p n := rfl

@[simp] theorem State.offerFirst_counter? (s : State) (l : List Offer) (p n : Nat) :
    (s.offerFirst l).counter? p n = s.counter? p n := rfl

/-- Reading a counter after a count. -/
theorem State.countAt_counter? (s : State) (p n p' n' : Nat) (old : CountWord) (k : Nat) (wh : List OverflowSource) :
    (s.countAt p n old k wh).counter? p' n'
      = if p = p' ∧ n = n' then (s.counter? p' n').map (fun c => { c with count := addCount s.impl old k })
        else s.counter? p' n' :=
  (State.counter?_congr _ _ rfl p' n').trans
    (State.modifyCounter_counter? s p n p' n' (fun c => { c with count := addCount s.impl old k }))

end Sys2Proof.Machine
end

