-- ==== Sys2Proof/Laws/Ops.lean ====
section
/-!
SUPPORT. For each shared operation, once, everything it can do.
-/

namespace Sys2Proof.Machine

/-- The parts of the counting rule for an offer to a counter that exists. -/
theorem countEvent_occurs (e : Instr) (a : Attribution) (occ : Obs → Bool) (k : Obs → Nat) (s : State) (serial : Nat)
    (o : Occurrence) (p n : Nat) (rest : List Offer) (c : Counter)
    (h : s.agenda = { happening := .occurs serial o, sink := .counter p n } :: rest) (hc : s.counter? p n = some c) :
    countEvent e a occ k s
      = if s.impl.countable e && c.filter.passes o.ctx && (s.observe p c serial o).attributedTo e a o.pe o.owners
            && occ (s.observe p c serial o)
        then .next (s.dropOffer.countAt p n c.count (k (s.observe p c serial o)) o.withheld)
        else .next s.dropOffer := by
  simp [countEvent, h, hc]

/-- The counting rule either takes the offer away and does nothing more, or counts it. -/
theorem countEvent_cases (e : Instr) (a : Attribution) (occ : Obs → Bool) (k : Obs → Nat) (s : State) :
    countEvent e a occ k s = .next s.dropOffer
      ∨ ∃ serial o p n rest c, s.agenda = { happening := .occurs serial o, sink := .counter p n } :: rest
          ∧ s.counter? p n = some c ∧ s.impl.countable e = true ∧ c.filter.passes o.ctx = true
          ∧ (s.observe p c serial o).attributedTo e a o.pe o.owners = true ∧ occ (s.observe p c serial o) = true
          ∧ countEvent e a occ k s
              = .next (s.dropOffer.countAt p n c.count (k (s.observe p c serial o)) o.withheld) := by
  unfold countEvent
  split
  · rename_i serial o p n rest heq
    split
    · rename_i c hc
      split
      · rename_i hcond
        simp only [Bool.and_eq_true] at hcond
        exact .inr ⟨serial, o, p, n, rest, c, heq, hc, hcond.1.1.1, hcond.1.1.2, hcond.1.2, hcond.2, rfl⟩
      · exact .inl rfl
    · exact .inl rfl
  · exact .inl rfl

/-- SW_INCR either takes the offer away and does nothing more, or counts one. -/
theorem execSwIncr_cases (s : State) :
    execSwIncr s = .next s.dropOffer
      ∨ ∃ writer v ctx wh p n rest c,
          s.agenda = { happening := .pmswincWrite writer v ctx wh, sink := .counter p n } :: rest
          ∧ s.counter? p n = some c ∧ v.getLsbD n = true ∧ c.filter.passes ctx = true
          ∧ countsSoftwareWrite s.impl writer p c.mt.effective = true
          ∧ execSwIncr s = .next (s.dropOffer.countAt p n c.count 1 wh) := by
  unfold execSwIncr
  split
  · rename_i writer v ctx wh p n rest heq
    split
    · rename_i c hc
      split
      · rename_i hcond
        simp only [Bool.and_eq_true] at hcond
        exact .inr ⟨writer, v, ctx, wh, p, n, rest, c, heq, hc, hcond.1.1, hcond.1.2, hcond.2, rfl⟩
      · exact .inl rfl
    · exact .inl rfl
  · exact .inl rfl

/-- CHAIN either takes the offer away and does nothing more, or counts one, or leaves a free count (item U17). -/
theorem execChain_cases (s : State) :
    execChain s = .next s.dropOffer
      ∨ ∃ serial wh p m rest q c, s.agenda = { happening := .lowOverflow serial wh, sink := .counter p m } :: rest
          ∧ s.pes[p]? = some q ∧ s.counter? p m = some c
          ∧ ((chainOutcome s.impl q c m serial = .counts ∧ execChain s = .next (s.dropOffer.countAt p m c.count 1 wh))
              ∨ (chainOutcome s.impl q c m serial = .anyCount
                  ∧ execChain s = .next (s.dropOffer.setCount p m (freeCountOf s.impl serial)))) := by
  unfold execChain
  split
  · rename_i serial wh p m rest heq
    split
    · rename_i q c hq hc
      split
      · exact .inl rfl
      · rename_i hcond
        exact .inr ⟨serial, wh, p, m, rest, q, c, heq, hq, hc, .inl ⟨hcond, rfl⟩⟩
      · rename_i hcond
        exact .inr ⟨serial, wh, p, m, rest, q, c, heq, hq, hc, .inr ⟨hcond, rfl⟩⟩
    · exact .inl rfl
  · exact .inl rfl

/-- The delivery of an overflow either takes the offer away and does nothing more, or delivers it. -/
theorem deliverOverflow_cases (e : Instr) (isOcc exported : State → OverflowCause → Bool) (s : State) :
    deliverOverflow e isOcc exported s = .next s.dropOffer
      ∨ ∃ c w rest, s.agenda = { happening := .overflow c, sink := .consumer w } :: rest ∧ isOcc s c = true
          ∧ deliverOverflow e isOcc exported s = .next (s.dropOffer.emit (.overflow e c (exported s c))) := by
  unfold deliverOverflow
  split
  · rename_i c w rest heq
    split
    · rename_i hcond
      exact .inr ⟨c, w, rest, heq, hcond, rfl⟩
    · exact .inl rfl
  · exact .inl rfl

/-- A counter that exists is one of a PE that exists. -/
theorem State.counter?_some {s : State} {p n : Nat} {c : Counter} (h : s.counter? p n = some c) :
    ∃ q, s.pes[p]? = some q ∧ q.counters[n]? = some c := by
  unfold State.counter? at h
  cases hq : s.pes[p]? with
  | none => simp [hq] at h
  | some q => exact ⟨q, rfl, by simpa [hq] using h⟩

/-- A host step that changes one PE does nothing else. -/
theorem State.modifyPe_peBecomes {s : State} {p : Nat} {q : Pe} (rest : List Input) (f : Pe → Pe) (ha : s.agenda = [])
    (hq : s.pes[p]? = some q) : PeBecomes s (({ s with inputs := rest } : State).modifyPe p f) p (f q) rest where
  pe := by simp [hq]
  others p' hp := by simp [hp.symm]
  fixed := ⟨rfl, rfl, ha, rfl, rfl⟩

/-- The value of a count. -/
theorem addCount_toNat (impl : Impl) (old : CountWord) (k : Nat) :
    (addCount impl old k).toNat = (old.toNat + k) % 2 ^ impl.counterWidth := by
  have hw : impl.counterWidth ≤ 64 := by unfold Impl.counterWidth; split <;> decide
  have : (old.toNat + k) % 2 ^ impl.counterWidth < 2 ^ 64 :=
    lt_of_lt_of_le (Nat.mod_lt _ (by positivity)) (Nat.pow_le_pow_right (by decide) hw)
  rw [addCount, BitVec.toNat_ofNat, Nat.mod_eq_of_lt this]

/-- A free count is within the width of the counter. -/
theorem freeCountOf_lt (impl : Impl) (serial : Nat) : (freeCountOf impl serial).toNat < 2 ^ impl.counterWidth := by
  rw [freeCountOf, BitVec.toNat_ofNat]
  exact lt_of_le_of_lt (Nat.mod_le _ _) (Nat.mod_lt _ (by positivity))

/-- A count stays within the width of the counter. -/
theorem addCount_lt (impl : Impl) (old : CountWord) (k : Nat) : (addCount impl old k).toNat < 2 ^ impl.counterWidth := by
  rw [addCount_toNat]
  exact Nat.mod_lt _ (by positivity)

/-- An exact quotient is the quotient. -/
theorem exactQuotient_mul (item serial v den : Nat) (h : 0 < den) : exactQuotient item serial (v * den) den = v := by
  unfold exactQuotient
  rw [if_pos ⟨Nat.pos_iff_ne_zero.mp h, Dvd.intro_left v rfl⟩, Nat.mul_div_cancel v h]

/-- The event counters are those below NUM_COUNTERS of the PEs there are. -/
theorem State.allCounters_mem (s : State) (p n : Nat) :
    (p, n) ∈ s.allCounters ↔ p < s.pes.length ∧ n < s.impl.numCounters := by
  simp [State.allCounters]

/-- Taking the offer at the head of the agenda. -/
theorem State.dropOffer_eq (s : State) (f : Offer) (rest : List Offer) (h : s.agenda = f :: rest) :
    s.dropOffer = { s with agenda := rest } := by
  simp [State.dropOffer, h]

/-- What `countAt` does is what `CountedBy` says. -/
theorem State.countAt_countedBy (s : State) (p n : Nat) (c : Counter) (k : Nat) (wh : List OverflowSource) (f : Offer) (rest : List Offer)
    (h : s.agenda = f :: rest) (hc : s.counter? p n = some c) :
    CountedBy s (s.dropOffer.countAt p n c.count k wh) p n c k wh rest := by
  obtain ⟨q, hq, hqc⟩ := State.counter?_some hc
  constructor
  · rw [State.countAt_counter?]
    simp only [State.dropOffer_counter?, hc, and_self, if_true, Option.map_some, addCount, Impl.counterWidth, State.dropOffer_impl]
    rfl
  · intro p' n' hne
    rw [State.countAt_counter?]
    rw [if_neg]; rfl
    rintro ⟨rfl, rfl⟩; exact hne ⟨rfl, rfl⟩
  · simp only [State.countAt_pes, State.modifyCounter_pes, State.dropOffer_pes]
    apply List.ext_getElem? ; intro j
    simp only [List.getElem?_map, List.getElem?_modify]
    cases s.pes[j]? with
    | none => rfl
    | some q => by_cases e : p = j <;> simp [e, Pe.registers]
  · intro h32 h64
    simp only [State.countAt_agenda, State.dropOffer_agenda, h, List.tail_cons]
    have e1 : overflow32 c.count k = false := by simpa [overflow32, Overflows32] using h32
    have e2 : overflow64 s.impl c.count k = false := by
      simp [overflow64, Overflows64, Impl.counterWidth] at h64 ⊢; exact h64
    simp [e1, e2, chainOffers]
  · intro w32 w64 h32 h64 hor
    have e1 : overflow32 c.count k = w32 := by
      rw [Bool.eq_iff_iff, h32]; simp [overflow32, Overflows32]
    have e2 : overflow64 s.impl c.count k = w64 := by
      rw [Bool.eq_iff_iff, h64]; simp [overflow64, Overflows64, Impl.counterWidth]
    refine ⟨chainOffers s.dropOffer p n w32 wh, ?_, ?_, ?_⟩
    · simp only [State.countAt_agenda, State.dropOffer_agenda, h, List.tail_cons, State.dropOffer_impl, e1, e2]
      have : (w32 || w64) = true := by simpa using hor
      rw [if_pos this]
    · intro hh; simp [chainOffers, hh]
    · intro hh; unfold chainOffers; rw [if_neg]; simp only [Bool.and_eq_true, decide_eq_true_eq]; simpa [and_assoc] using hh
  · simp

end Sys2Proof.Machine
end

