-- ==== Sys2Proof/Laws/Exec.lean ====
section
/-!
SUPPORT. Event by event: the meaning is the counting rule with the event's entries of the tables.
-/

namespace Sys2Proof.Machine

theorem execRule_ldRetired (s : State) :
    exec .ldRetired s = countEvent .ldRetired (attributionOf .ldRetired) (occOf .ldRetired) (incrementOf .ldRetired) s := (rfl)
theorem execRule_stRetired (s : State) :
    exec .stRetired s = countEvent .stRetired (attributionOf .stRetired) (occOf .stRetired) (incrementOf .stRetired) s := (rfl)
theorem execRule_instRetired (s : State) :
    exec .instRetired s = countEvent .instRetired (attributionOf .instRetired) (occOf .instRetired) (incrementOf .instRetired) s := (rfl)
theorem execRule_excTaken (s : State) :
    exec .excTaken s = countEvent .excTaken (attributionOf .excTaken) (occOf .excTaken) (incrementOf .excTaken) s := (rfl)
theorem execRule_excReturn (s : State) :
    exec .excReturn s = countEvent .excReturn (attributionOf .excReturn) (occOf .excReturn) (incrementOf .excReturn) s := (rfl)
theorem execRule_cidWriteRetired (s : State) :
    exec .cidWriteRetired s = countEvent .cidWriteRetired (attributionOf .cidWriteRetired) (occOf .cidWriteRetired) (incrementOf .cidWriteRetired) s := (rfl)
theorem execRule_pcWriteRetired (s : State) :
    exec .pcWriteRetired s = countEvent .pcWriteRetired (attributionOf .pcWriteRetired) (occOf .pcWriteRetired) (incrementOf .pcWriteRetired) s := (rfl)
theorem execRule_brImmedRetired (s : State) :
    exec .brImmedRetired s = countEvent .brImmedRetired (attributionOf .brImmedRetired) (occOf .brImmedRetired) (incrementOf .brImmedRetired) s := (rfl)
theorem execRule_brReturnRetired (s : State) :
    exec .brReturnRetired s = countEvent .brReturnRetired (attributionOf .brReturnRetired) (occOf .brReturnRetired) (incrementOf .brReturnRetired) s := (rfl)
theorem execRule_unalignedLdstRetired (s : State) :
    exec .unalignedLdstRetired s = countEvent .unalignedLdstRetired (attributionOf .unalignedLdstRetired) (occOf .unalignedLdstRetired) (incrementOf .unalignedLdstRetired) s := (rfl)
theorem execRule_ttbrWriteRetired (s : State) :
    exec .ttbrWriteRetired s = countEvent .ttbrWriteRetired (attributionOf .ttbrWriteRetired) (occOf .ttbrWriteRetired) (incrementOf .ttbrWriteRetired) s := (rfl)
theorem execRule_brRetired (s : State) :
    exec .brRetired s = countEvent .brRetired (attributionOf .brRetired) (occOf .brRetired) (incrementOf .brRetired) s := (rfl)
theorem execRule_excUndef (s : State) :
    exec .excUndef s = countEvent .excUndef (attributionOf .excUndef) (occOf .excUndef) (incrementOf .excUndef) s := (rfl)
theorem execRule_excSvc (s : State) :
    exec .excSvc s = countEvent .excSvc (attributionOf .excSvc) (occOf .excSvc) (incrementOf .excSvc) s := (rfl)
theorem execRule_excPabort (s : State) :
    exec .excPabort s = countEvent .excPabort (attributionOf .excPabort) (occOf .excPabort) (incrementOf .excPabort) s := (rfl)
theorem execRule_excDabort (s : State) :
    exec .excDabort s = countEvent .excDabort (attributionOf .excDabort) (occOf .excDabort) (incrementOf .excDabort) s := (rfl)
theorem execRule_excIrq (s : State) :
    exec .excIrq s = countEvent .excIrq (attributionOf .excIrq) (occOf .excIrq) (incrementOf .excIrq) s := (rfl)
theorem execRule_excFiq (s : State) :
    exec .excFiq s = countEvent .excFiq (attributionOf .excFiq) (occOf .excFiq) (incrementOf .excFiq) s := (rfl)
theorem execRule_excSmc (s : State) :
    exec .excSmc s = countEvent .excSmc (attributionOf .excSmc) (occOf .excSmc) (incrementOf .excSmc) s := (rfl)
theorem execRule_excHvc (s : State) :
    exec .excHvc s = countEvent .excHvc (attributionOf .excHvc) (occOf .excHvc) (incrementOf .excHvc) s := (rfl)
theorem execRule_excTrapPabort (s : State) :
    exec .excTrapPabort s = countEvent .excTrapPabort (attributionOf .excTrapPabort) (occOf .excTrapPabort) (incrementOf .excTrapPabort) s := (rfl)
theorem execRule_excTrapDabort (s : State) :
    exec .excTrapDabort s = countEvent .excTrapDabort (attributionOf .excTrapDabort) (occOf .excTrapDabort) (incrementOf .excTrapDabort) s := (rfl)
theorem execRule_excTrapOther (s : State) :
    exec .excTrapOther s = countEvent .excTrapOther (attributionOf .excTrapOther) (occOf .excTrapOther) (incrementOf .excTrapOther) s := (rfl)
theorem execRule_excTrapIrq (s : State) :
    exec .excTrapIrq s = countEvent .excTrapIrq (attributionOf .excTrapIrq) (occOf .excTrapIrq) (incrementOf .excTrapIrq) s := (rfl)
theorem execRule_excTrapFiq (s : State) :
    exec .excTrapFiq s = countEvent .excTrapFiq (attributionOf .excTrapFiq) (occOf .excTrapFiq) (incrementOf .excTrapFiq) s := (rfl)
theorem execRule_trbWrap (s : State) :
    exec .trbWrap s = countEvent .trbWrap (attributionOf .trbWrap) (occOf .trbWrap) (incrementOf .trbWrap) s := (rfl)
theorem execRule_trbTrig (s : State) :
    exec .trbTrig s = countEvent .trbTrig (attributionOf .trbTrig) (occOf .trbTrig) (incrementOf .trbTrig) s := (rfl)
theorem execRule_simdInstRetired (s : State) :
    exec .simdInstRetired s = countEvent .simdInstRetired (attributionOf .simdInstRetired) (occOf .simdInstRetired) (incrementOf .simdInstRetired) s := (rfl)
theorem execRule_aseInstRetired (s : State) :
    exec .aseInstRetired s = countEvent .aseInstRetired (attributionOf .aseInstRetired) (occOf .aseInstRetired) (incrementOf .aseInstRetired) s := (rfl)
theorem execRule_sveInstRetired (s : State) :
    exec .sveInstRetired s = countEvent .sveInstRetired (attributionOf .sveInstRetired) (occOf .sveInstRetired) (incrementOf .sveInstRetired) s := (rfl)
theorem execRule_aseSveInstRetired (s : State) :
    exec .aseSveInstRetired s = countEvent .aseSveInstRetired (attributionOf .aseSveInstRetired) (occOf .aseSveInstRetired) (incrementOf .aseSveInstRetired) s := (rfl)
theorem execRule_brSkipRetired (s : State) :
    exec .brSkipRetired s = countEvent .brSkipRetired (attributionOf .brSkipRetired) (occOf .brSkipRetired) (incrementOf .brSkipRetired) s := (rfl)
theorem execRule_brImmedTakenRetired (s : State) :
    exec .brImmedTakenRetired s = countEvent .brImmedTakenRetired (attributionOf .brImmedTakenRetired) (occOf .brImmedTakenRetired) (incrementOf .brImmedTakenRetired) s := (rfl)
theorem execRule_brImmedSkipRetired (s : State) :
    exec .brImmedSkipRetired s = countEvent .brImmedSkipRetired (attributionOf .brImmedSkipRetired) (occOf .brImmedSkipRetired) (incrementOf .brImmedSkipRetired) s := (rfl)
theorem execRule_brIndTakenRetired (s : State) :
    exec .brIndTakenRetired s = countEvent .brIndTakenRetired (attributionOf .brIndTakenRetired) (occOf .brIndTakenRetired) (incrementOf .brIndTakenRetired) s := (rfl)
theorem execRule_brIndSkipRetired (s : State) :
    exec .brIndSkipRetired s = countEvent .brIndSkipRetired (attributionOf .brIndSkipRetired) (occOf .brIndSkipRetired) (incrementOf .brIndSkipRetired) s := (rfl)
theorem execRule_brIndnrTakenRetired (s : State) :
    exec .brIndnrTakenRetired s = countEvent .brIndnrTakenRetired (attributionOf .brIndnrTakenRetired) (occOf .brIndnrTakenRetired) (incrementOf .brIndnrTakenRetired) s := (rfl)
theorem execRule_brIndnrSkipRetired (s : State) :
    exec .brIndnrSkipRetired s = countEvent .brIndnrSkipRetired (attributionOf .brIndnrSkipRetired) (occOf .brIndnrSkipRetired) (incrementOf .brIndnrSkipRetired) s := (rfl)
theorem execRule_brReturnAnyRetired (s : State) :
    exec .brReturnAnyRetired s = countEvent .brReturnAnyRetired (attributionOf .brReturnAnyRetired) (occOf .brReturnAnyRetired) (incrementOf .brReturnAnyRetired) s := (rfl)
theorem execRule_brReturnSkipRetired (s : State) :
    exec .brReturnSkipRetired s = countEvent .brReturnSkipRetired (attributionOf .brReturnSkipRetired) (occOf .brReturnSkipRetired) (incrementOf .brReturnSkipRetired) s := (rfl)
theorem execRule_brIndRetired (s : State) :
    exec .brIndRetired s = countEvent .brIndRetired (attributionOf .brIndRetired) (occOf .brIndRetired) (incrementOf .brIndRetired) s := (rfl)
theorem execRule_brIndnrRetired (s : State) :
    exec .brIndnrRetired s = countEvent .brIndnrRetired (attributionOf .brIndnrRetired) (occOf .brIndnrRetired) (incrementOf .brIndnrRetired) s := (rfl)
theorem execRule_brbFiltrate (s : State) :
    exec .brbFiltrate s = countEvent .brbFiltrate (attributionOf .brbFiltrate) (occOf .brbFiltrate) (incrementOf .brbFiltrate) s := (rfl)
theorem execRule_brnlIndnrTakenRetired (s : State) :
    exec .brnlIndnrTakenRetired s = countEvent .brnlIndnrTakenRetired (attributionOf .brnlIndnrTakenRetired) (occOf .brnlIndnrTakenRetired) (incrementOf .brnlIndnrTakenRetired) s := (rfl)
theorem execRule_blTakenRetired (s : State) :
    exec .blTakenRetired s = countEvent .blTakenRetired (attributionOf .blTakenRetired) (occOf .blTakenRetired) (incrementOf .blTakenRetired) s := (rfl)
theorem execRule_brnlTakenRetired (s : State) :
    exec .brnlTakenRetired s = countEvent .brnlTakenRetired (attributionOf .brnlTakenRetired) (occOf .brnlTakenRetired) (incrementOf .brnlTakenRetired) s := (rfl)
theorem execRule_blIndTakenRetired (s : State) :
    exec .blIndTakenRetired s = countEvent .blIndTakenRetired (attributionOf .blIndTakenRetired) (occOf .blIndTakenRetired) (incrementOf .blIndTakenRetired) s := (rfl)
theorem execRule_brnlIndTakenRetired (s : State) :
    exec .brnlIndTakenRetired s = countEvent .brnlIndTakenRetired (attributionOf .brnlIndTakenRetired) (occOf .brnlIndTakenRetired) (incrementOf .brnlIndTakenRetired) s := (rfl)
theorem execRule_blImmedTakenRetired (s : State) :
    exec .blImmedTakenRetired s = countEvent .blImmedTakenRetired (attributionOf .blImmedTakenRetired) (occOf .blImmedTakenRetired) (incrementOf .blImmedTakenRetired) s := (rfl)
theorem execRule_brnlImmedTakenRetired (s : State) :
    exec .brnlImmedTakenRetired s = countEvent .brnlImmedTakenRetired (attributionOf .brnlImmedTakenRetired) (occOf .brnlImmedTakenRetired) (incrementOf .brnlImmedTakenRetired) s := (rfl)
theorem execRule_brUncondRetired (s : State) :
    exec .brUncondRetired s = countEvent .brUncondRetired (attributionOf .brUncondRetired) (occOf .brUncondRetired) (incrementOf .brUncondRetired) s := (rfl)
theorem execRule_brCondRetired (s : State) :
    exec .brCondRetired s = countEvent .brCondRetired (attributionOf .brCondRetired) (occOf .brCondRetired) (incrementOf .brCondRetired) s := (rfl)
theorem execRule_brCondTakenRetired (s : State) :
    exec .brCondTakenRetired s = countEvent .brCondTakenRetired (attributionOf .brCondTakenRetired) (occOf .brCondTakenRetired) (incrementOf .brCondTakenRetired) s := (rfl)
theorem execRule_brHintCondRetired (s : State) :
    exec .brHintCondRetired s = countEvent .brHintCondRetired (attributionOf .brHintCondRetired) (occOf .brHintCondRetired) (incrementOf .brHintCondRetired) s := (rfl)
theorem execRule_aseSveRetired (s : State) :
    exec .aseSveRetired s = countEvent .aseSveRetired (attributionOf .aseSveRetired) (occOf .aseSveRetired) (incrementOf .aseSveRetired) s := (rfl)
theorem execRule_ldAnyRetired (s : State) :
    exec .ldAnyRetired s = countEvent .ldAnyRetired (attributionOf .ldAnyRetired) (occOf .ldAnyRetired) (incrementOf .ldAnyRetired) s := (rfl)
theorem execRule_stAnyRetired (s : State) :
    exec .stAnyRetired s = countEvent .stAnyRetired (attributionOf .stAnyRetired) (occOf .stAnyRetired) (incrementOf .stAnyRetired) s := (rfl)
theorem execRule_ldstAnyRetired (s : State) :
    exec .ldstAnyRetired s = countEvent .ldstAnyRetired (attributionOf .ldstAnyRetired) (occOf .ldstAnyRetired) (incrementOf .ldstAnyRetired) s := (rfl)
theorem execRule_dpRetired (s : State) :
    exec .dpRetired s = countEvent .dpRetired (attributionOf .dpRetired) (occOf .dpRetired) (incrementOf .dpRetired) s := (rfl)
theorem execRule_aseRetired (s : State) :
    exec .aseRetired s = countEvent .aseRetired (attributionOf .aseRetired) (occOf .aseRetired) (incrementOf .aseRetired) s := (rfl)
theorem execRule_vfpRetired (s : State) :
    exec .vfpRetired s = countEvent .vfpRetired (attributionOf .vfpRetired) (occOf .vfpRetired) (incrementOf .vfpRetired) s := (rfl)
theorem execRule_sveRetired (s : State) :
    exec .sveRetired s = countEvent .sveRetired (attributionOf .sveRetired) (occOf .sveRetired) (incrementOf .sveRetired) s := (rfl)
theorem execRule_cryptoRetired (s : State) :
    exec .cryptoRetired s = countEvent .cryptoRetired (attributionOf .cryptoRetired) (occOf .cryptoRetired) (incrementOf .cryptoRetired) s := (rfl)
theorem execRule_prfRetired (s : State) :
    exec .prfRetired s = countEvent .prfRetired (attributionOf .prfRetired) (occOf .prfRetired) (incrementOf .prfRetired) s := (rfl)
theorem execRule_smeRetired (s : State) :
    exec .smeRetired s = countEvent .smeRetired (attributionOf .smeRetired) (occOf .smeRetired) (incrementOf .smeRetired) s := (rfl)
theorem execRule_seRetired (s : State) :
    exec .seRetired s = countEvent .seRetired (attributionOf .seRetired) (occOf .seRetired) (incrementOf .seRetired) s := (rfl)
theorem execRule_smeInstRetired (s : State) :
    exec .smeInstRetired s = countEvent .smeInstRetired (attributionOf .smeInstRetired) (occOf .smeInstRetired) (incrementOf .smeInstRetired) s := (rfl)
theorem execRule_seInstRetired (s : State) :
    exec .seInstRetired s = countEvent .seInstRetired (attributionOf .seInstRetired) (occOf .seInstRetired) (incrementOf .seInstRetired) s := (rfl)
theorem execRule_l1iCacheRefill (s : State) :
    exec .l1iCacheRefill s = countEvent .l1iCacheRefill (attributionOf .l1iCacheRefill) (occOf .l1iCacheRefill) (incrementOf .l1iCacheRefill) s := (rfl)
theorem execRule_l1iTlbRefill (s : State) :
    exec .l1iTlbRefill s = countEvent .l1iTlbRefill (attributionOf .l1iTlbRefill) (occOf .l1iTlbRefill) (incrementOf .l1iTlbRefill) s := (rfl)
theorem execRule_l1dCacheRefill (s : State) :
    exec .l1dCacheRefill s = countEvent .l1dCacheRefill (attributionOf .l1dCacheRefill) (occOf .l1dCacheRefill) (incrementOf .l1dCacheRefill) s := (rfl)
theorem execRule_l1dCache (s : State) :
    exec .l1dCache s = countEvent .l1dCache (attributionOf .l1dCache) (occOf .l1dCache) (incrementOf .l1dCache) s := (rfl)
theorem execRule_l1dTlbRefill (s : State) :
    exec .l1dTlbRefill s = countEvent .l1dTlbRefill (attributionOf .l1dTlbRefill) (occOf .l1dTlbRefill) (incrementOf .l1dTlbRefill) s := (rfl)
theorem execRule_brMisPred (s : State) :
    exec .brMisPred s = countEvent .brMisPred (attributionOf .brMisPred) (occOf .brMisPred) (incrementOf .brMisPred) s := (rfl)
theorem execRule_cpuCycles (s : State) :
    exec .cpuCycles s = countEvent .cpuCycles (attributionOf .cpuCycles) (occOf .cpuCycles) (incrementOf .cpuCycles) s := (rfl)
theorem execRule_brPred (s : State) :
    exec .brPred s = countEvent .brPred (attributionOf .brPred) (occOf .brPred) (incrementOf .brPred) s := (rfl)
theorem execRule_memAccess (s : State) :
    exec .memAccess s = countEvent .memAccess (attributionOf .memAccess) (occOf .memAccess) (incrementOf .memAccess) s := (rfl)
theorem execRule_l1iCache (s : State) :
    exec .l1iCache s = countEvent .l1iCache (attributionOf .l1iCache) (occOf .l1iCache) (incrementOf .l1iCache) s := (rfl)
theorem execRule_l1dCacheWb (s : State) :
    exec .l1dCacheWb s = countEvent .l1dCacheWb (attributionOf .l1dCacheWb) (occOf .l1dCacheWb) (incrementOf .l1dCacheWb) s := (rfl)
theorem execRule_l2dCache (s : State) :
    exec .l2dCache s = countEvent .l2dCache (attributionOf .l2dCache) (occOf .l2dCache) (incrementOf .l2dCache) s := (rfl)
theorem execRule_l2dCacheRefill (s : State) :
    exec .l2dCacheRefill s = countEvent .l2dCacheRefill (attributionOf .l2dCacheRefill) (occOf .l2dCacheRefill) (incrementOf .l2dCacheRefill) s := (rfl)
theorem execRule_l2dCacheWb (s : State) :
    exec .l2dCacheWb s = countEvent .l2dCacheWb (attributionOf .l2dCacheWb) (occOf .l2dCacheWb) (incrementOf .l2dCacheWb) s := (rfl)
theorem execRule_busAccess (s : State) :
    exec .busAccess s = countEvent .busAccess (attributionOf .busAccess) (occOf .busAccess) (incrementOf .busAccess) s := (rfl)
theorem execRule_memoryError (s : State) :
    exec .memoryError s = countEvent .memoryError (attributionOf .memoryError) (occOf .memoryError) (incrementOf .memoryError) s := (rfl)
theorem execRule_instSpec (s : State) :
    exec .instSpec s = countEvent .instSpec (attributionOf .instSpec) (occOf .instSpec) (incrementOf .instSpec) s := (rfl)
theorem execRule_busCycles (s : State) :
    exec .busCycles s = countEvent .busCycles (attributionOf .busCycles) (occOf .busCycles) (incrementOf .busCycles) s := (rfl)
theorem execRule_l1dCacheAllocate (s : State) :
    exec .l1dCacheAllocate s = countEvent .l1dCacheAllocate (attributionOf .l1dCacheAllocate) (occOf .l1dCacheAllocate) (incrementOf .l1dCacheAllocate) s := (rfl)
theorem execRule_l2dCacheAllocate (s : State) :
    exec .l2dCacheAllocate s = countEvent .l2dCacheAllocate (attributionOf .l2dCacheAllocate) (occOf .l2dCacheAllocate) (incrementOf .l2dCacheAllocate) s := (rfl)
theorem execRule_brMisPredRetired (s : State) :
    exec .brMisPredRetired s = countEvent .brMisPredRetired (attributionOf .brMisPredRetired) (occOf .brMisPredRetired) (incrementOf .brMisPredRetired) s := (rfl)
theorem execRule_stallFrontend (s : State) :
    exec .stallFrontend s = countEvent .stallFrontend (attributionOf .stallFrontend) (occOf .stallFrontend) (incrementOf .stallFrontend) s := (rfl)
theorem execRule_stallBackend (s : State) :
    exec .stallBackend s = countEvent .stallBackend (attributionOf .stallBackend) (occOf .stallBackend) (incrementOf .stallBackend) s := (rfl)
theorem execRule_l1dTlb (s : State) :
    exec .l1dTlb s = countEvent .l1dTlb (attributionOf .l1dTlb) (occOf .l1dTlb) (incrementOf .l1dTlb) s := (rfl)
theorem execRule_l1iTlb (s : State) :
    exec .l1iTlb s = countEvent .l1iTlb (attributionOf .l1iTlb) (occOf .l1iTlb) (incrementOf .l1iTlb) s := (rfl)
theorem execRule_l2iCache (s : State) :
    exec .l2iCache s = countEvent .l2iCache (attributionOf .l2iCache) (occOf .l2iCache) (incrementOf .l2iCache) s := (rfl)
theorem execRule_l2iCacheRefill (s : State) :
    exec .l2iCacheRefill s = countEvent .l2iCacheRefill (attributionOf .l2iCacheRefill) (occOf .l2iCacheRefill) (incrementOf .l2iCacheRefill) s := (rfl)
theorem execRule_l3dCacheAllocate (s : State) :
    exec .l3dCacheAllocate s = countEvent .l3dCacheAllocate (attributionOf .l3dCacheAllocate) (occOf .l3dCacheAllocate) (incrementOf .l3dCacheAllocate) s := (rfl)
theorem execRule_l3dCacheRefill (s : State) :
    exec .l3dCacheRefill s = countEvent .l3dCacheRefill (attributionOf .l3dCacheRefill) (occOf .l3dCacheRefill) (incrementOf .l3dCacheRefill) s := (rfl)
theorem execRule_l3dCache (s : State) :
    exec .l3dCache s = countEvent .l3dCache (attributionOf .l3dCache) (occOf .l3dCache) (incrementOf .l3dCache) s := (rfl)
theorem execRule_l3dCacheWb (s : State) :
    exec .l3dCacheWb s = countEvent .l3dCacheWb (attributionOf .l3dCacheWb) (occOf .l3dCacheWb) (incrementOf .l3dCacheWb) s := (rfl)
theorem execRule_l2dTlbRefill (s : State) :
    exec .l2dTlbRefill s = countEvent .l2dTlbRefill (attributionOf .l2dTlbRefill) (occOf .l2dTlbRefill) (incrementOf .l2dTlbRefill) s := (rfl)
theorem execRule_l2iTlbRefill (s : State) :
    exec .l2iTlbRefill s = countEvent .l2iTlbRefill (attributionOf .l2iTlbRefill) (occOf .l2iTlbRefill) (incrementOf .l2iTlbRefill) s := (rfl)
theorem execRule_l2dTlb (s : State) :
    exec .l2dTlb s = countEvent .l2dTlb (attributionOf .l2dTlb) (occOf .l2dTlb) (incrementOf .l2dTlb) s := (rfl)
theorem execRule_l2iTlb (s : State) :
    exec .l2iTlb s = countEvent .l2iTlb (attributionOf .l2iTlb) (occOf .l2iTlb) (incrementOf .l2iTlb) s := (rfl)
theorem execRule_remoteAccess (s : State) :
    exec .remoteAccess s = countEvent .remoteAccess (attributionOf .remoteAccess) (occOf .remoteAccess) (incrementOf .remoteAccess) s := (rfl)
theorem execRule_llCache (s : State) :
    exec .llCache s = countEvent .llCache (attributionOf .llCache) (occOf .llCache) (incrementOf .llCache) s := (rfl)
theorem execRule_llCacheMiss (s : State) :
    exec .llCacheMiss s = countEvent .llCacheMiss (attributionOf .llCacheMiss) (occOf .llCacheMiss) (incrementOf .llCacheMiss) s := (rfl)
theorem execRule_dtlbWalk (s : State) :
    exec .dtlbWalk s = countEvent .dtlbWalk (attributionOf .dtlbWalk) (occOf .dtlbWalk) (incrementOf .dtlbWalk) s := (rfl)
theorem execRule_itlbWalk (s : State) :
    exec .itlbWalk s = countEvent .itlbWalk (attributionOf .itlbWalk) (occOf .itlbWalk) (incrementOf .itlbWalk) s := (rfl)
theorem execRule_llCacheRd (s : State) :
    exec .llCacheRd s = countEvent .llCacheRd (attributionOf .llCacheRd) (occOf .llCacheRd) (incrementOf .llCacheRd) s := (rfl)
theorem execRule_llCacheMissRd (s : State) :
    exec .llCacheMissRd s = countEvent .llCacheMissRd (attributionOf .llCacheMissRd) (occOf .llCacheMissRd) (incrementOf .llCacheMissRd) s := (rfl)
theorem execRule_remoteAccessRd (s : State) :
    exec .remoteAccessRd s = countEvent .remoteAccessRd (attributionOf .remoteAccessRd) (occOf .remoteAccessRd) (incrementOf .remoteAccessRd) s := (rfl)
theorem execRule_l1dCacheLmissRd (s : State) :
    exec .l1dCacheLmissRd s = countEvent .l1dCacheLmissRd (attributionOf .l1dCacheLmissRd) (occOf .l1dCacheLmissRd) (incrementOf .l1dCacheLmissRd) s := (rfl)
theorem execRule_opRetired (s : State) :
    exec .opRetired s = countEvent .opRetired (attributionOf .opRetired) (occOf .opRetired) (incrementOf .opRetired) s := (rfl)
theorem execRule_opSpec (s : State) :
    exec .opSpec s = countEvent .opSpec (attributionOf .opSpec) (occOf .opSpec) (incrementOf .opSpec) s := (rfl)
theorem execRule_stall (s : State) :
    exec .stall s = countEvent .stall (attributionOf .stall) (occOf .stall) (incrementOf .stall) s := (rfl)
theorem execRule_stallSlotBackend (s : State) :
    exec .stallSlotBackend s = countEvent .stallSlotBackend (attributionOf .stallSlotBackend) (occOf .stallSlotBackend) (incrementOf .stallSlotBackend) s := (rfl)
theorem execRule_stallSlotFrontend (s : State) :
    exec .stallSlotFrontend s = countEvent .stallSlotFrontend (attributionOf .stallSlotFrontend) (occOf .stallSlotFrontend) (incrementOf .stallSlotFrontend) s := (rfl)
theorem execRule_stallSlot (s : State) :
    exec .stallSlot s = countEvent .stallSlot (attributionOf .stallSlot) (occOf .stallSlot) (incrementOf .stallSlot) s := (rfl)
theorem execRule_l1dCacheRd (s : State) :
    exec .l1dCacheRd s = countEvent .l1dCacheRd (attributionOf .l1dCacheRd) (occOf .l1dCacheRd) (incrementOf .l1dCacheRd) s := (rfl)
theorem execRule_l1dCacheWr (s : State) :
    exec .l1dCacheWr s = countEvent .l1dCacheWr (attributionOf .l1dCacheWr) (occOf .l1dCacheWr) (incrementOf .l1dCacheWr) s := (rfl)
theorem execRule_l1dCacheRefillRd (s : State) :
    exec .l1dCacheRefillRd s = countEvent .l1dCacheRefillRd (attributionOf .l1dCacheRefillRd) (occOf .l1dCacheRefillRd) (incrementOf .l1dCacheRefillRd) s := (rfl)
theorem execRule_l1dCacheRefillWr (s : State) :
    exec .l1dCacheRefillWr s = countEvent .l1dCacheRefillWr (attributionOf .l1dCacheRefillWr) (occOf .l1dCacheRefillWr) (incrementOf .l1dCacheRefillWr) s := (rfl)
theorem execRule_l1dCacheRefillInner (s : State) :
    exec .l1dCacheRefillInner s = countEvent .l1dCacheRefillInner (attributionOf .l1dCacheRefillInner) (occOf .l1dCacheRefillInner) (incrementOf .l1dCacheRefillInner) s := (rfl)
theorem execRule_l1dCacheRefillOuter (s : State) :
    exec .l1dCacheRefillOuter s = countEvent .l1dCacheRefillOuter (attributionOf .l1dCacheRefillOuter) (occOf .l1dCacheRefillOuter) (incrementOf .l1dCacheRefillOuter) s := (rfl)
theorem execRule_l1dCacheWbVictim (s : State) :
    exec .l1dCacheWbVictim s = countEvent .l1dCacheWbVictim (attributionOf .l1dCacheWbVictim) (occOf .l1dCacheWbVictim) (incrementOf .l1dCacheWbVictim) s := (rfl)
theorem execRule_l1dCacheWbClean (s : State) :
    exec .l1dCacheWbClean s = countEvent .l1dCacheWbClean (attributionOf .l1dCacheWbClean) (occOf .l1dCacheWbClean) (incrementOf .l1dCacheWbClean) s := (rfl)
theorem execRule_l1dCacheInval (s : State) :
    exec .l1dCacheInval s = countEvent .l1dCacheInval (attributionOf .l1dCacheInval) (occOf .l1dCacheInval) (incrementOf .l1dCacheInval) s := (rfl)
theorem execRule_l1dTlbRefillRd (s : State) :
    exec .l1dTlbRefillRd s = countEvent .l1dTlbRefillRd (attributionOf .l1dTlbRefillRd) (occOf .l1dTlbRefillRd) (incrementOf .l1dTlbRefillRd) s := (rfl)
theorem execRule_l1dTlbRefillWr (s : State) :
    exec .l1dTlbRefillWr s = countEvent .l1dTlbRefillWr (attributionOf .l1dTlbRefillWr) (occOf .l1dTlbRefillWr) (incrementOf .l1dTlbRefillWr) s := (rfl)
theorem execRule_l1dTlbRd (s : State) :
    exec .l1dTlbRd s = countEvent .l1dTlbRd (attributionOf .l1dTlbRd) (occOf .l1dTlbRd) (incrementOf .l1dTlbRd) s := (rfl)
theorem execRule_l1dTlbWr (s : State) :
    exec .l1dTlbWr s = countEvent .l1dTlbWr (attributionOf .l1dTlbWr) (occOf .l1dTlbWr) (incrementOf .l1dTlbWr) s := (rfl)
theorem execRule_l2dCacheRd (s : State) :
    exec .l2dCacheRd s = countEvent .l2dCacheRd (attributionOf .l2dCacheRd) (occOf .l2dCacheRd) (incrementOf .l2dCacheRd) s := (rfl)
theorem execRule_l2dCacheWr (s : State) :
    exec .l2dCacheWr s = countEvent .l2dCacheWr (attributionOf .l2dCacheWr) (occOf .l2dCacheWr) (incrementOf .l2dCacheWr) s := (rfl)
theorem execRule_l2dCacheRefillRd (s : State) :
    exec .l2dCacheRefillRd s = countEvent .l2dCacheRefillRd (attributionOf .l2dCacheRefillRd) (occOf .l2dCacheRefillRd) (incrementOf .l2dCacheRefillRd) s := (rfl)
theorem execRule_l2dCacheRefillWr (s : State) :
    exec .l2dCacheRefillWr s = countEvent .l2dCacheRefillWr (attributionOf .l2dCacheRefillWr) (occOf .l2dCacheRefillWr) (incrementOf .l2dCacheRefillWr) s := (rfl)
theorem execRule_l2dCacheWbVictim (s : State) :
    exec .l2dCacheWbVictim s = countEvent .l2dCacheWbVictim (attributionOf .l2dCacheWbVictim) (occOf .l2dCacheWbVictim) (incrementOf .l2dCacheWbVictim) s := (rfl)
theorem execRule_l2dCacheWbClean (s : State) :
    exec .l2dCacheWbClean s = countEvent .l2dCacheWbClean (attributionOf .l2dCacheWbClean) (occOf .l2dCacheWbClean) (incrementOf .l2dCacheWbClean) s := (rfl)
theorem execRule_l2dCacheInval (s : State) :
    exec .l2dCacheInval s = countEvent .l2dCacheInval (attributionOf .l2dCacheInval) (occOf .l2dCacheInval) (incrementOf .l2dCacheInval) s := (rfl)
theorem execRule_l2dTlbRefillRd (s : State) :
    exec .l2dTlbRefillRd s = countEvent .l2dTlbRefillRd (attributionOf .l2dTlbRefillRd) (occOf .l2dTlbRefillRd) (incrementOf .l2dTlbRefillRd) s := (rfl)
theorem execRule_l2dTlbRefillWr (s : State) :
    exec .l2dTlbRefillWr s = countEvent .l2dTlbRefillWr (attributionOf .l2dTlbRefillWr) (occOf .l2dTlbRefillWr) (incrementOf .l2dTlbRefillWr) s := (rfl)
theorem execRule_l2dTlbRd (s : State) :
    exec .l2dTlbRd s = countEvent .l2dTlbRd (attributionOf .l2dTlbRd) (occOf .l2dTlbRd) (incrementOf .l2dTlbRd) s := (rfl)
theorem execRule_l2dTlbWr (s : State) :
    exec .l2dTlbWr s = countEvent .l2dTlbWr (attributionOf .l2dTlbWr) (occOf .l2dTlbWr) (incrementOf .l2dTlbWr) s := (rfl)
theorem execRule_busAccessRd (s : State) :
    exec .busAccessRd s = countEvent .busAccessRd (attributionOf .busAccessRd) (occOf .busAccessRd) (incrementOf .busAccessRd) s := (rfl)
theorem execRule_busAccessWr (s : State) :
    exec .busAccessWr s = countEvent .busAccessWr (attributionOf .busAccessWr) (occOf .busAccessWr) (incrementOf .busAccessWr) s := (rfl)
theorem execRule_busAccessShared (s : State) :
    exec .busAccessShared s = countEvent .busAccessShared (attributionOf .busAccessShared) (occOf .busAccessShared) (incrementOf .busAccessShared) s := (rfl)
theorem execRule_busAccessNotShared (s : State) :
    exec .busAccessNotShared s = countEvent .busAccessNotShared (attributionOf .busAccessNotShared) (occOf .busAccessNotShared) (incrementOf .busAccessNotShared) s := (rfl)
theorem execRule_busAccessNormal (s : State) :
    exec .busAccessNormal s = countEvent .busAccessNormal (attributionOf .busAccessNormal) (occOf .busAccessNormal) (incrementOf .busAccessNormal) s := (rfl)
theorem execRule_busAccessPeriph (s : State) :
    exec .busAccessPeriph s = countEvent .busAccessPeriph (attributionOf .busAccessPeriph) (occOf .busAccessPeriph) (incrementOf .busAccessPeriph) s := (rfl)
theorem execRule_memAccessRd (s : State) :
    exec .memAccessRd s = countEvent .memAccessRd (attributionOf .memAccessRd) (occOf .memAccessRd) (incrementOf .memAccessRd) s := (rfl)
theorem execRule_memAccessWr (s : State) :
    exec .memAccessWr s = countEvent .memAccessWr (attributionOf .memAccessWr) (occOf .memAccessWr) (incrementOf .memAccessWr) s := (rfl)
theorem execRule_unalignedLdSpec (s : State) :
    exec .unalignedLdSpec s = countEvent .unalignedLdSpec (attributionOf .unalignedLdSpec) (occOf .unalignedLdSpec) (incrementOf .unalignedLdSpec) s := (rfl)
theorem execRule_unalignedStSpec (s : State) :
    exec .unalignedStSpec s = countEvent .unalignedStSpec (attributionOf .unalignedStSpec) (occOf .unalignedStSpec) (incrementOf .unalignedStSpec) s := (rfl)
theorem execRule_unalignedLdstSpec (s : State) :
    exec .unalignedLdstSpec s = countEvent .unalignedLdstSpec (attributionOf .unalignedLdstSpec) (occOf .unalignedLdstSpec) (incrementOf .unalignedLdstSpec) s := (rfl)
theorem execRule_ldrexSpec (s : State) :
    exec .ldrexSpec s = countEvent .ldrexSpec (attributionOf .ldrexSpec) (occOf .ldrexSpec) (incrementOf .ldrexSpec) s := (rfl)
theorem execRule_strexPassSpec (s : State) :
    exec .strexPassSpec s = countEvent .strexPassSpec (attributionOf .strexPassSpec) (occOf .strexPassSpec) (incrementOf .strexPassSpec) s := (rfl)
theorem execRule_strexFailSpec (s : State) :
    exec .strexFailSpec s = countEvent .strexFailSpec (attributionOf .strexFailSpec) (occOf .strexFailSpec) (incrementOf .strexFailSpec) s := (rfl)
theorem execRule_strexSpec (s : State) :
    exec .strexSpec s = countEvent .strexSpec (attributionOf .strexSpec) (occOf .strexSpec) (incrementOf .strexSpec) s := (rfl)
theorem execRule_ldSpec (s : State) :
    exec .ldSpec s = countEvent .ldSpec (attributionOf .ldSpec) (occOf .ldSpec) (incrementOf .ldSpec) s := (rfl)
theorem execRule_stSpec (s : State) :
    exec .stSpec s = countEvent .stSpec (attributionOf .stSpec) (occOf .stSpec) (incrementOf .stSpec) s := (rfl)
theorem execRule_ldstSpec (s : State) :
    exec .ldstSpec s = countEvent .ldstSpec (attributionOf .ldstSpec) (occOf .ldstSpec) (incrementOf .ldstSpec) s := (rfl)
theorem execRule_dpSpec (s : State) :
    exec .dpSpec s = countEvent .dpSpec (attributionOf .dpSpec) (occOf .dpSpec) (incrementOf .dpSpec) s := (rfl)
theorem execRule_aseSpec (s : State) :
    exec .aseSpec s = countEvent .aseSpec (attributionOf .aseSpec) (occOf .aseSpec) (incrementOf .aseSpec) s := (rfl)
theorem execRule_vfpSpec (s : State) :
    exec .vfpSpec s = countEvent .vfpSpec (attributionOf .vfpSpec) (occOf .vfpSpec) (incrementOf .vfpSpec) s := (rfl)
theorem execRule_pcWriteSpec (s : State) :
    exec .pcWriteSpec s = countEvent .pcWriteSpec (attributionOf .pcWriteSpec) (occOf .pcWriteSpec) (incrementOf .pcWriteSpec) s := (rfl)
theorem execRule_cryptoSpec (s : State) :
    exec .cryptoSpec s = countEvent .cryptoSpec (attributionOf .cryptoSpec) (occOf .cryptoSpec) (incrementOf .cryptoSpec) s := (rfl)
theorem execRule_brImmedSpec (s : State) :
    exec .brImmedSpec s = countEvent .brImmedSpec (attributionOf .brImmedSpec) (occOf .brImmedSpec) (incrementOf .brImmedSpec) s := (rfl)
theorem execRule_brReturnSpec (s : State) :
    exec .brReturnSpec s = countEvent .brReturnSpec (attributionOf .brReturnSpec) (occOf .brReturnSpec) (incrementOf .brReturnSpec) s := (rfl)
theorem execRule_brIndirectSpec (s : State) :
    exec .brIndirectSpec s = countEvent .brIndirectSpec (attributionOf .brIndirectSpec) (occOf .brIndirectSpec) (incrementOf .brIndirectSpec) s := (rfl)
theorem execRule_isbSpec (s : State) :
    exec .isbSpec s = countEvent .isbSpec (attributionOf .isbSpec) (occOf .isbSpec) (incrementOf .isbSpec) s := (rfl)
theorem execRule_dsbSpec (s : State) :
    exec .dsbSpec s = countEvent .dsbSpec (attributionOf .dsbSpec) (occOf .dsbSpec) (incrementOf .dsbSpec) s := (rfl)
theorem execRule_dmbSpec (s : State) :
    exec .dmbSpec s = countEvent .dmbSpec (attributionOf .dmbSpec) (occOf .dmbSpec) (incrementOf .dmbSpec) s := (rfl)
theorem execRule_csdbSpec (s : State) :
    exec .csdbSpec s = countEvent .csdbSpec (attributionOf .csdbSpec) (occOf .csdbSpec) (incrementOf .csdbSpec) s := (rfl)
theorem execRule_rcLdSpec (s : State) :
    exec .rcLdSpec s = countEvent .rcLdSpec (attributionOf .rcLdSpec) (occOf .rcLdSpec) (incrementOf .rcLdSpec) s := (rfl)
theorem execRule_rcStSpec (s : State) :
    exec .rcStSpec s = countEvent .rcStSpec (attributionOf .rcStSpec) (occOf .rcStSpec) (incrementOf .rcStSpec) s := (rfl)
theorem execRule_l3dCacheHitWrFextProp (s : State) :
    exec .l3dCacheHitWrFextProp s = countEvent .l3dCacheHitWrFextProp (attributionOf .l3dCacheHitWrFextProp) (occOf .l3dCacheHitWrFextProp) (incrementOf .l3dCacheHitWrFextProp) s := (rfl)
theorem execRule_l3dCacheRd (s : State) :
    exec .l3dCacheRd s = countEvent .l3dCacheRd (attributionOf .l3dCacheRd) (occOf .l3dCacheRd) (incrementOf .l3dCacheRd) s := (rfl)
theorem execRule_l3dCacheWr (s : State) :
    exec .l3dCacheWr s = countEvent .l3dCacheWr (attributionOf .l3dCacheWr) (occOf .l3dCacheWr) (incrementOf .l3dCacheWr) s := (rfl)
theorem execRule_l3dCacheRefillRd (s : State) :
    exec .l3dCacheRefillRd s = countEvent .l3dCacheRefillRd (attributionOf .l3dCacheRefillRd) (occOf .l3dCacheRefillRd) (incrementOf .l3dCacheRefillRd) s := (rfl)
theorem execRule_l3dCacheRefillWr (s : State) :
    exec .l3dCacheRefillWr s = countEvent .l3dCacheRefillWr (attributionOf .l3dCacheRefillWr) (occOf .l3dCacheRefillWr) (incrementOf .l3dCacheRefillWr) s := (rfl)
theorem execRule_l3dCacheWbVictim (s : State) :
    exec .l3dCacheWbVictim s = countEvent .l3dCacheWbVictim (attributionOf .l3dCacheWbVictim) (occOf .l3dCacheWbVictim) (incrementOf .l3dCacheWbVictim) s := (rfl)
theorem execRule_l3dCacheWbClean (s : State) :
    exec .l3dCacheWbClean s = countEvent .l3dCacheWbClean (attributionOf .l3dCacheWbClean) (occOf .l3dCacheWbClean) (incrementOf .l3dCacheWbClean) s := (rfl)
theorem execRule_l3dCacheInval (s : State) :
    exec .l3dCacheInval s = countEvent .l3dCacheInval (attributionOf .l3dCacheInval) (occOf .l3dCacheInval) (incrementOf .l3dCacheInval) s := (rfl)
theorem execRule_l2dCacheHitRdFextProp (s : State) :
    exec .l2dCacheHitRdFextProp s = countEvent .l2dCacheHitRdFextProp (attributionOf .l2dCacheHitRdFextProp) (occOf .l2dCacheHitRdFextProp) (incrementOf .l2dCacheHitRdFextProp) s := (rfl)
theorem execRule_l2dCacheHitWrFextProp (s : State) :
    exec .l2dCacheHitWrFextProp s = countEvent .l2dCacheHitWrFextProp (attributionOf .l2dCacheHitWrFextProp) (occOf .l2dCacheHitWrFextProp) (incrementOf .l2dCacheHitWrFextProp) s := (rfl)
theorem execRule_l2dCacheHitRwFextProp (s : State) :
    exec .l2dCacheHitRwFextProp s = countEvent .l2dCacheHitRwFextProp (attributionOf .l2dCacheHitRwFextProp) (occOf .l2dCacheHitRwFextProp) (incrementOf .l2dCacheHitRwFextProp) s := (rfl)
theorem execRule_l3dCacheExtProp (s : State) :
    exec .l3dCacheExtProp s = countEvent .l3dCacheExtProp (attributionOf .l3dCacheExtProp) (occOf .l3dCacheExtProp) (incrementOf .l3dCacheExtProp) s := (rfl)
theorem execRule_l3dCacheExtPropPrfmIr (s : State) :
    exec .l3dCacheExtPropPrfmIr s = countEvent .l3dCacheExtPropPrfmIr (attributionOf .l3dCacheExtPropPrfmIr) (occOf .l3dCacheExtPropPrfmIr) (incrementOf .l3dCacheExtPropPrfmIr) s := (rfl)
theorem execRule_l3dCacheHitRwFextProp (s : State) :
    exec .l3dCacheHitRwFextProp s = countEvent .l3dCacheHitRwFextProp (attributionOf .l3dCacheHitRwFextProp) (occOf .l3dCacheHitRwFextProp) (incrementOf .l3dCacheHitRwFextProp) s := (rfl)
theorem execRule_l3dCacheHitRdFextProp (s : State) :
    exec .l3dCacheHitRdFextProp s = countEvent .l3dCacheHitRdFextProp (attributionOf .l3dCacheHitRdFextProp) (occOf .l3dCacheHitRdFextProp) (incrementOf .l3dCacheHitRdFextProp) s := (rfl)
theorem execRule_stshhSpec (s : State) :
    exec .stshhSpec s = countEvent .stshhSpec (attributionOf .stshhSpec) (occOf .stshhSpec) (incrementOf .stshhSpec) s := (rfl)
theorem execRule_stshhKeepSpec (s : State) :
    exec .stshhKeepSpec s = countEvent .stshhKeepSpec (attributionOf .stshhKeepSpec) (occOf .stshhKeepSpec) (incrementOf .stshhKeepSpec) s := (rfl)
theorem execRule_stshhStrmSpec (s : State) :
    exec .stshhStrmSpec s = countEvent .stshhStrmSpec (attributionOf .stshhStrmSpec) (occOf .stshhStrmSpec) (incrementOf .stshhStrmSpec) s := (rfl)
theorem execRule_prfmIrSpec (s : State) :
    exec .prfmIrSpec s = countEvent .prfmIrSpec (attributionOf .prfmIrSpec) (occOf .prfmIrSpec) (incrementOf .prfmIrSpec) s := (rfl)
theorem execRule_memAccessWrStshh (s : State) :
    exec .memAccessWrStshh s = countEvent .memAccessWrStshh (attributionOf .memAccessWrStshh) (occOf .memAccessWrStshh) (incrementOf .memAccessWrStshh) s := (rfl)
theorem execRule_memAccessWrStshhKeep (s : State) :
    exec .memAccessWrStshhKeep s = countEvent .memAccessWrStshhKeep (attributionOf .memAccessWrStshhKeep) (occOf .memAccessWrStshhKeep) (incrementOf .memAccessWrStshhKeep) s := (rfl)
theorem execRule_memAccessWrStshhStrm (s : State) :
    exec .memAccessWrStshhStrm s = countEvent .memAccessWrStshhStrm (attributionOf .memAccessWrStshhStrm) (occOf .memAccessWrStshhStrm) (incrementOf .memAccessWrStshhStrm) s := (rfl)
theorem execRule_memAccessWrStshhKeepNear (s : State) :
    exec .memAccessWrStshhKeepNear s = countEvent .memAccessWrStshhKeepNear (attributionOf .memAccessWrStshhKeepNear) (occOf .memAccessWrStshhKeepNear) (incrementOf .memAccessWrStshhKeepNear) s := (rfl)
theorem execRule_memAccessWrStshhKeepFar (s : State) :
    exec .memAccessWrStshhKeepFar s = countEvent .memAccessWrStshhKeepFar (attributionOf .memAccessWrStshhKeepFar) (occOf .memAccessWrStshhKeepFar) (incrementOf .memAccessWrStshhKeepFar) s := (rfl)
theorem execRule_l1dCacheExtProp (s : State) :
    exec .l1dCacheExtProp s = countEvent .l1dCacheExtProp (attributionOf .l1dCacheExtProp) (occOf .l1dCacheExtProp) (incrementOf .l1dCacheExtProp) s := (rfl)
theorem execRule_l1dCacheExtPropPrfmIr (s : State) :
    exec .l1dCacheExtPropPrfmIr s = countEvent .l1dCacheExtPropPrfmIr (attributionOf .l1dCacheExtPropPrfmIr) (occOf .l1dCacheExtPropPrfmIr) (incrementOf .l1dCacheExtPropPrfmIr) s := (rfl)
theorem execRule_l1dCacheHitRdFextProp (s : State) :
    exec .l1dCacheHitRdFextProp s = countEvent .l1dCacheHitRdFextProp (attributionOf .l1dCacheHitRdFextProp) (occOf .l1dCacheHitRdFextProp) (incrementOf .l1dCacheHitRdFextProp) s := (rfl)
theorem execRule_l1dCacheHitWrFextProp (s : State) :
    exec .l1dCacheHitWrFextProp s = countEvent .l1dCacheHitWrFextProp (attributionOf .l1dCacheHitWrFextProp) (occOf .l1dCacheHitWrFextProp) (incrementOf .l1dCacheHitWrFextProp) s := (rfl)
theorem execRule_l1dCacheHitRwFextProp (s : State) :
    exec .l1dCacheHitRwFextProp s = countEvent .l1dCacheHitRwFextProp (attributionOf .l1dCacheHitRwFextProp) (occOf .l1dCacheHitRwFextProp) (incrementOf .l1dCacheHitRwFextProp) s := (rfl)
theorem execRule_l2dCacheExtProp (s : State) :
    exec .l2dCacheExtProp s = countEvent .l2dCacheExtProp (attributionOf .l2dCacheExtProp) (occOf .l2dCacheExtProp) (incrementOf .l2dCacheExtProp) s := (rfl)
theorem execRule_l2dCacheExtPropPrfmIr (s : State) :
    exec .l2dCacheExtPropPrfmIr s = countEvent .l2dCacheExtPropPrfmIr (attributionOf .l2dCacheExtPropPrfmIr) (occOf .l2dCacheExtPropPrfmIr) (incrementOf .l2dCacheExtPropPrfmIr) s := (rfl)
theorem execRule_samplePop (s : State) :
    exec .samplePop s = countEvent .samplePop (attributionOf .samplePop) (occOf .samplePop) (incrementOf .samplePop) s := (rfl)
theorem execRule_sampleFeed (s : State) :
    exec .sampleFeed s = countEvent .sampleFeed (attributionOf .sampleFeed) (occOf .sampleFeed) (incrementOf .sampleFeed) s := (rfl)
theorem execRule_sampleFiltrate (s : State) :
    exec .sampleFiltrate s = countEvent .sampleFiltrate (attributionOf .sampleFiltrate) (occOf .sampleFiltrate) (incrementOf .sampleFiltrate) s := (rfl)
theorem execRule_sampleCollision (s : State) :
    exec .sampleCollision s = countEvent .sampleCollision (attributionOf .sampleCollision) (occOf .sampleCollision) (incrementOf .sampleCollision) s := (rfl)
theorem execRule_cntCycles (s : State) :
    exec .cntCycles s = countEvent .cntCycles (attributionOf .cntCycles) (occOf .cntCycles) (incrementOf .cntCycles) s := (rfl)
theorem execRule_stallBackendMem (s : State) :
    exec .stallBackendMem s = countEvent .stallBackendMem (attributionOf .stallBackendMem) (occOf .stallBackendMem) (incrementOf .stallBackendMem) s := (rfl)
theorem execRule_l1iCacheLmiss (s : State) :
    exec .l1iCacheLmiss s = countEvent .l1iCacheLmiss (attributionOf .l1iCacheLmiss) (occOf .l1iCacheLmiss) (incrementOf .l1iCacheLmiss) s := (rfl)
theorem execRule_l2dCacheLmissRd (s : State) :
    exec .l2dCacheLmissRd s = countEvent .l2dCacheLmissRd (attributionOf .l2dCacheLmissRd) (occOf .l2dCacheLmissRd) (incrementOf .l2dCacheLmissRd) s := (rfl)
theorem execRule_l2iCacheLmiss (s : State) :
    exec .l2iCacheLmiss s = countEvent .l2iCacheLmiss (attributionOf .l2iCacheLmiss) (occOf .l2iCacheLmiss) (incrementOf .l2iCacheLmiss) s := (rfl)
theorem execRule_l3dCacheLmissRd (s : State) :
    exec .l3dCacheLmissRd s = countEvent .l3dCacheLmissRd (attributionOf .l3dCacheLmissRd) (occOf .l3dCacheLmissRd) (incrementOf .l3dCacheLmissRd) s := (rfl)
theorem execRule_trcextout0 (s : State) :
    exec .trcextout0 s = countEvent .trcextout0 (attributionOf .trcextout0) (occOf .trcextout0) (incrementOf .trcextout0) s := (rfl)
theorem execRule_trcextout1 (s : State) :
    exec .trcextout1 s = countEvent .trcextout1 (attributionOf .trcextout1) (occOf .trcextout1) (incrementOf .trcextout1) s := (rfl)
theorem execRule_trcextout2 (s : State) :
    exec .trcextout2 s = countEvent .trcextout2 (attributionOf .trcextout2) (occOf .trcextout2) (incrementOf .trcextout2) s := (rfl)
theorem execRule_trcextout3 (s : State) :
    exec .trcextout3 s = countEvent .trcextout3 (attributionOf .trcextout3) (occOf .trcextout3) (incrementOf .trcextout3) s := (rfl)
theorem execRule_ctiTrigout4 (s : State) :
    exec .ctiTrigout4 s = countEvent .ctiTrigout4 (attributionOf .ctiTrigout4) (occOf .ctiTrigout4) (incrementOf .ctiTrigout4) s := (rfl)
theorem execRule_ctiTrigout5 (s : State) :
    exec .ctiTrigout5 s = countEvent .ctiTrigout5 (attributionOf .ctiTrigout5) (occOf .ctiTrigout5) (incrementOf .ctiTrigout5) s := (rfl)
theorem execRule_ctiTrigout6 (s : State) :
    exec .ctiTrigout6 s = countEvent .ctiTrigout6 (attributionOf .ctiTrigout6) (occOf .ctiTrigout6) (incrementOf .ctiTrigout6) s := (rfl)
theorem execRule_ctiTrigout7 (s : State) :
    exec .ctiTrigout7 s = countEvent .ctiTrigout7 (attributionOf .ctiTrigout7) (occOf .ctiTrigout7) (incrementOf .ctiTrigout7) s := (rfl)
theorem execRule_ldstAlignLat (s : State) :
    exec .ldstAlignLat s = countEvent .ldstAlignLat (attributionOf .ldstAlignLat) (occOf .ldstAlignLat) (incrementOf .ldstAlignLat) s := (rfl)
theorem execRule_ldAlignLat (s : State) :
    exec .ldAlignLat s = countEvent .ldAlignLat (attributionOf .ldAlignLat) (occOf .ldAlignLat) (incrementOf .ldAlignLat) s := (rfl)
theorem execRule_stAlignLat (s : State) :
    exec .stAlignLat s = countEvent .stAlignLat (attributionOf .stAlignLat) (occOf .stAlignLat) (incrementOf .stAlignLat) s := (rfl)
theorem execRule_memAccessChecked (s : State) :
    exec .memAccessChecked s = countEvent .memAccessChecked (attributionOf .memAccessChecked) (occOf .memAccessChecked) (incrementOf .memAccessChecked) s := (rfl)
theorem execRule_memAccessCheckedRd (s : State) :
    exec .memAccessCheckedRd s = countEvent .memAccessCheckedRd (attributionOf .memAccessCheckedRd) (occOf .memAccessCheckedRd) (incrementOf .memAccessCheckedRd) s := (rfl)
theorem execRule_memAccessCheckedWr (s : State) :
    exec .memAccessCheckedWr s = countEvent .memAccessCheckedWr (attributionOf .memAccessCheckedWr) (occOf .memAccessCheckedWr) (incrementOf .memAccessCheckedWr) s := (rfl)
theorem execRule_simdInstSpec (s : State) :
    exec .simdInstSpec s = countEvent .simdInstSpec (attributionOf .simdInstSpec) (occOf .simdInstSpec) (incrementOf .simdInstSpec) s := (rfl)
theorem execRule_aseInstSpec (s : State) :
    exec .aseInstSpec s = countEvent .aseInstSpec (attributionOf .aseInstSpec) (occOf .aseInstSpec) (incrementOf .aseInstSpec) s := (rfl)
theorem execRule_sveInstSpec (s : State) :
    exec .sveInstSpec s = countEvent .sveInstSpec (attributionOf .sveInstSpec) (occOf .sveInstSpec) (incrementOf .sveInstSpec) s := (rfl)
theorem execRule_aseSveInstSpec (s : State) :
    exec .aseSveInstSpec s = countEvent .aseSveInstSpec (attributionOf .aseSveInstSpec) (occOf .aseSveInstSpec) (incrementOf .aseSveInstSpec) s := (rfl)
theorem execRule_uopSpec (s : State) :
    exec .uopSpec s = countEvent .uopSpec (attributionOf .uopSpec) (occOf .uopSpec) (incrementOf .uopSpec) s := (rfl)
theorem execRule_aseUopSpec (s : State) :
    exec .aseUopSpec s = countEvent .aseUopSpec (attributionOf .aseUopSpec) (occOf .aseUopSpec) (incrementOf .aseUopSpec) s := (rfl)
theorem execRule_sveUopSpec (s : State) :
    exec .sveUopSpec s = countEvent .sveUopSpec (attributionOf .sveUopSpec) (occOf .sveUopSpec) (incrementOf .sveUopSpec) s := (rfl)
theorem execRule_aseSveUopSpec (s : State) :
    exec .aseSveUopSpec s = countEvent .aseSveUopSpec (attributionOf .aseSveUopSpec) (occOf .aseSveUopSpec) (incrementOf .aseSveUopSpec) s := (rfl)
theorem execRule_simdUopSpec (s : State) :
    exec .simdUopSpec s = countEvent .simdUopSpec (attributionOf .simdUopSpec) (occOf .simdUopSpec) (incrementOf .simdUopSpec) s := (rfl)
theorem execRule_sveMathSpec (s : State) :
    exec .sveMathSpec s = countEvent .sveMathSpec (attributionOf .sveMathSpec) (occOf .sveMathSpec) (incrementOf .sveMathSpec) s := (rfl)
theorem execRule_fpSpec (s : State) :
    exec .fpSpec s = countEvent .fpSpec (attributionOf .fpSpec) (occOf .fpSpec) (incrementOf .fpSpec) s := (rfl)
theorem execRule_aseFpSpec (s : State) :
    exec .aseFpSpec s = countEvent .aseFpSpec (attributionOf .aseFpSpec) (occOf .aseFpSpec) (incrementOf .aseFpSpec) s := (rfl)
theorem execRule_sveFpSpec (s : State) :
    exec .sveFpSpec s = countEvent .sveFpSpec (attributionOf .sveFpSpec) (occOf .sveFpSpec) (incrementOf .sveFpSpec) s := (rfl)
theorem execRule_aseSveFpSpec (s : State) :
    exec .aseSveFpSpec s = countEvent .aseSveFpSpec (attributionOf .aseSveFpSpec) (occOf .aseSveFpSpec) (incrementOf .aseSveFpSpec) s := (rfl)
theorem execRule_fpHpSpec (s : State) :
    exec .fpHpSpec s = countEvent .fpHpSpec (attributionOf .fpHpSpec) (occOf .fpHpSpec) (incrementOf .fpHpSpec) s := (rfl)
theorem execRule_aseFpHpSpec (s : State) :
    exec .aseFpHpSpec s = countEvent .aseFpHpSpec (attributionOf .aseFpHpSpec) (occOf .aseFpHpSpec) (incrementOf .aseFpHpSpec) s := (rfl)
theorem execRule_sveFpHpSpec (s : State) :
    exec .sveFpHpSpec s = countEvent .sveFpHpSpec (attributionOf .sveFpHpSpec) (occOf .sveFpHpSpec) (incrementOf .sveFpHpSpec) s := (rfl)
theorem execRule_aseSveFpHpSpec (s : State) :
    exec .aseSveFpHpSpec s = countEvent .aseSveFpHpSpec (attributionOf .aseSveFpHpSpec) (occOf .aseSveFpHpSpec) (incrementOf .aseSveFpHpSpec) s := (rfl)
theorem execRule_fpSpSpec (s : State) :
    exec .fpSpSpec s = countEvent .fpSpSpec (attributionOf .fpSpSpec) (occOf .fpSpSpec) (incrementOf .fpSpSpec) s := (rfl)
theorem execRule_aseFpSpSpec (s : State) :
    exec .aseFpSpSpec s = countEvent .aseFpSpSpec (attributionOf .aseFpSpSpec) (occOf .aseFpSpSpec) (incrementOf .aseFpSpSpec) s := (rfl)
theorem execRule_sveFpSpSpec (s : State) :
    exec .sveFpSpSpec s = countEvent .sveFpSpSpec (attributionOf .sveFpSpSpec) (occOf .sveFpSpSpec) (incrementOf .sveFpSpSpec) s := (rfl)
theorem execRule_aseSveFpSpSpec (s : State) :
    exec .aseSveFpSpSpec s = countEvent .aseSveFpSpSpec (attributionOf .aseSveFpSpSpec) (occOf .aseSveFpSpSpec) (incrementOf .aseSveFpSpSpec) s := (rfl)
theorem execRule_fpDpSpec (s : State) :
    exec .fpDpSpec s = countEvent .fpDpSpec (attributionOf .fpDpSpec) (occOf .fpDpSpec) (incrementOf .fpDpSpec) s := (rfl)
theorem execRule_aseFpDpSpec (s : State) :
    exec .aseFpDpSpec s = countEvent .aseFpDpSpec (attributionOf .aseFpDpSpec) (occOf .aseFpDpSpec) (incrementOf .aseFpDpSpec) s := (rfl)
theorem execRule_sveFpDpSpec (s : State) :
    exec .sveFpDpSpec s = countEvent .sveFpDpSpec (attributionOf .sveFpDpSpec) (occOf .sveFpDpSpec) (incrementOf .sveFpDpSpec) s := (rfl)
theorem execRule_aseSveFpDpSpec (s : State) :
    exec .aseSveFpDpSpec s = countEvent .aseSveFpDpSpec (attributionOf .aseSveFpDpSpec) (occOf .aseSveFpDpSpec) (incrementOf .aseSveFpDpSpec) s := (rfl)
theorem execRule_fpDivSpec (s : State) :
    exec .fpDivSpec s = countEvent .fpDivSpec (attributionOf .fpDivSpec) (occOf .fpDivSpec) (incrementOf .fpDivSpec) s := (rfl)
theorem execRule_aseFpDivSpec (s : State) :
    exec .aseFpDivSpec s = countEvent .aseFpDivSpec (attributionOf .aseFpDivSpec) (occOf .aseFpDivSpec) (incrementOf .aseFpDivSpec) s := (rfl)
theorem execRule_sveFpDivSpec (s : State) :
    exec .sveFpDivSpec s = countEvent .sveFpDivSpec (attributionOf .sveFpDivSpec) (occOf .sveFpDivSpec) (incrementOf .sveFpDivSpec) s := (rfl)
theorem execRule_aseSveFpDivSpec (s : State) :
    exec .aseSveFpDivSpec s = countEvent .aseSveFpDivSpec (attributionOf .aseSveFpDivSpec) (occOf .aseSveFpDivSpec) (incrementOf .aseSveFpDivSpec) s := (rfl)
theorem execRule_fpSqrtSpec (s : State) :
    exec .fpSqrtSpec s = countEvent .fpSqrtSpec (attributionOf .fpSqrtSpec) (occOf .fpSqrtSpec) (incrementOf .fpSqrtSpec) s := (rfl)
theorem execRule_aseFpSqrtSpec (s : State) :
    exec .aseFpSqrtSpec s = countEvent .aseFpSqrtSpec (attributionOf .aseFpSqrtSpec) (occOf .aseFpSqrtSpec) (incrementOf .aseFpSqrtSpec) s := (rfl)
theorem execRule_sveFpSqrtSpec (s : State) :
    exec .sveFpSqrtSpec s = countEvent .sveFpSqrtSpec (attributionOf .sveFpSqrtSpec) (occOf .sveFpSqrtSpec) (incrementOf .sveFpSqrtSpec) s := (rfl)
theorem execRule_aseSveFpSqrtSpec (s : State) :
    exec .aseSveFpSqrtSpec s = countEvent .aseSveFpSqrtSpec (attributionOf .aseSveFpSqrtSpec) (occOf .aseSveFpSqrtSpec) (incrementOf .aseSveFpSqrtSpec) s := (rfl)
theorem execRule_fpFmaSpec (s : State) :
    exec .fpFmaSpec s = countEvent .fpFmaSpec (attributionOf .fpFmaSpec) (occOf .fpFmaSpec) (incrementOf .fpFmaSpec) s := (rfl)
theorem execRule_aseFpFmaSpec (s : State) :
    exec .aseFpFmaSpec s = countEvent .aseFpFmaSpec (attributionOf .aseFpFmaSpec) (occOf .aseFpFmaSpec) (incrementOf .aseFpFmaSpec) s := (rfl)
theorem execRule_sveFpFmaSpec (s : State) :
    exec .sveFpFmaSpec s = countEvent .sveFpFmaSpec (attributionOf .sveFpFmaSpec) (occOf .sveFpFmaSpec) (incrementOf .sveFpFmaSpec) s := (rfl)
theorem execRule_aseSveFpFmaSpec (s : State) :
    exec .aseSveFpFmaSpec s = countEvent .aseSveFpFmaSpec (attributionOf .aseSveFpFmaSpec) (occOf .aseSveFpFmaSpec) (incrementOf .aseSveFpFmaSpec) s := (rfl)
theorem execRule_fpMulSpec (s : State) :
    exec .fpMulSpec s = countEvent .fpMulSpec (attributionOf .fpMulSpec) (occOf .fpMulSpec) (incrementOf .fpMulSpec) s := (rfl)
theorem execRule_aseFpMulSpec (s : State) :
    exec .aseFpMulSpec s = countEvent .aseFpMulSpec (attributionOf .aseFpMulSpec) (occOf .aseFpMulSpec) (incrementOf .aseFpMulSpec) s := (rfl)
theorem execRule_sveFpMulSpec (s : State) :
    exec .sveFpMulSpec s = countEvent .sveFpMulSpec (attributionOf .sveFpMulSpec) (occOf .sveFpMulSpec) (incrementOf .sveFpMulSpec) s := (rfl)
theorem execRule_aseSveFpMulSpec (s : State) :
    exec .aseSveFpMulSpec s = countEvent .aseSveFpMulSpec (attributionOf .aseSveFpMulSpec) (occOf .aseSveFpMulSpec) (incrementOf .aseSveFpMulSpec) s := (rfl)
theorem execRule_fpAddsubSpec (s : State) :
    exec .fpAddsubSpec s = countEvent .fpAddsubSpec (attributionOf .fpAddsubSpec) (occOf .fpAddsubSpec) (incrementOf .fpAddsubSpec) s := (rfl)
theorem execRule_aseFpAddsubSpec (s : State) :
    exec .aseFpAddsubSpec s = countEvent .aseFpAddsubSpec (attributionOf .aseFpAddsubSpec) (occOf .aseFpAddsubSpec) (incrementOf .aseFpAddsubSpec) s := (rfl)
theorem execRule_sveFpAddsubSpec (s : State) :
    exec .sveFpAddsubSpec s = countEvent .sveFpAddsubSpec (attributionOf .sveFpAddsubSpec) (occOf .sveFpAddsubSpec) (incrementOf .sveFpAddsubSpec) s := (rfl)
theorem execRule_aseSveFpAddsubSpec (s : State) :
    exec .aseSveFpAddsubSpec s = countEvent .aseSveFpAddsubSpec (attributionOf .aseSveFpAddsubSpec) (occOf .aseSveFpAddsubSpec) (incrementOf .aseSveFpAddsubSpec) s := (rfl)
theorem execRule_fpRecpeSpec (s : State) :
    exec .fpRecpeSpec s = countEvent .fpRecpeSpec (attributionOf .fpRecpeSpec) (occOf .fpRecpeSpec) (incrementOf .fpRecpeSpec) s := (rfl)
theorem execRule_aseFpRecpeSpec (s : State) :
    exec .aseFpRecpeSpec s = countEvent .aseFpRecpeSpec (attributionOf .aseFpRecpeSpec) (occOf .aseFpRecpeSpec) (incrementOf .aseFpRecpeSpec) s := (rfl)
theorem execRule_sveFpRecpeSpec (s : State) :
    exec .sveFpRecpeSpec s = countEvent .sveFpRecpeSpec (attributionOf .sveFpRecpeSpec) (occOf .sveFpRecpeSpec) (incrementOf .sveFpRecpeSpec) s := (rfl)
theorem execRule_aseSveFpRecpeSpec (s : State) :
    exec .aseSveFpRecpeSpec s = countEvent .aseSveFpRecpeSpec (attributionOf .aseSveFpRecpeSpec) (occOf .aseSveFpRecpeSpec) (incrementOf .aseSveFpRecpeSpec) s := (rfl)
theorem execRule_fpCvtSpec (s : State) :
    exec .fpCvtSpec s = countEvent .fpCvtSpec (attributionOf .fpCvtSpec) (occOf .fpCvtSpec) (incrementOf .fpCvtSpec) s := (rfl)
theorem execRule_aseFpCvtSpec (s : State) :
    exec .aseFpCvtSpec s = countEvent .aseFpCvtSpec (attributionOf .aseFpCvtSpec) (occOf .aseFpCvtSpec) (incrementOf .aseFpCvtSpec) s := (rfl)
theorem execRule_sveFpCvtSpec (s : State) :
    exec .sveFpCvtSpec s = countEvent .sveFpCvtSpec (attributionOf .sveFpCvtSpec) (occOf .sveFpCvtSpec) (incrementOf .sveFpCvtSpec) s := (rfl)
theorem execRule_aseSveFpCvtSpec (s : State) :
    exec .aseSveFpCvtSpec s = countEvent .aseSveFpCvtSpec (attributionOf .aseSveFpCvtSpec) (occOf .aseSveFpCvtSpec) (incrementOf .aseSveFpCvtSpec) s := (rfl)
theorem execRule_sveFpAreduceSpec (s : State) :
    exec .sveFpAreduceSpec s = countEvent .sveFpAreduceSpec (attributionOf .sveFpAreduceSpec) (occOf .sveFpAreduceSpec) (incrementOf .sveFpAreduceSpec) s := (rfl)
theorem execRule_aseFpPreduceSpec (s : State) :
    exec .aseFpPreduceSpec s = countEvent .aseFpPreduceSpec (attributionOf .aseFpPreduceSpec) (occOf .aseFpPreduceSpec) (incrementOf .aseFpPreduceSpec) s := (rfl)
theorem execRule_sveFpVreduceSpec (s : State) :
    exec .sveFpVreduceSpec s = countEvent .sveFpVreduceSpec (attributionOf .sveFpVreduceSpec) (occOf .sveFpVreduceSpec) (incrementOf .sveFpVreduceSpec) s := (rfl)
theorem execRule_aseSveFpVreduceSpec (s : State) :
    exec .aseSveFpVreduceSpec s = countEvent .aseSveFpVreduceSpec (attributionOf .aseSveFpVreduceSpec) (occOf .aseSveFpVreduceSpec) (incrementOf .aseSveFpVreduceSpec) s := (rfl)
theorem execRule_intSpec (s : State) :
    exec .intSpec s = countEvent .intSpec (attributionOf .intSpec) (occOf .intSpec) (incrementOf .intSpec) s := (rfl)
theorem execRule_aseIntSpec (s : State) :
    exec .aseIntSpec s = countEvent .aseIntSpec (attributionOf .aseIntSpec) (occOf .aseIntSpec) (incrementOf .aseIntSpec) s := (rfl)
theorem execRule_sveIntSpec (s : State) :
    exec .sveIntSpec s = countEvent .sveIntSpec (attributionOf .sveIntSpec) (occOf .sveIntSpec) (incrementOf .sveIntSpec) s := (rfl)
theorem execRule_aseSveIntSpec (s : State) :
    exec .aseSveIntSpec s = countEvent .aseSveIntSpec (attributionOf .aseSveIntSpec) (occOf .aseSveIntSpec) (incrementOf .aseSveIntSpec) s := (rfl)
theorem execRule_intDivSpec (s : State) :
    exec .intDivSpec s = countEvent .intDivSpec (attributionOf .intDivSpec) (occOf .intDivSpec) (incrementOf .intDivSpec) s := (rfl)
theorem execRule_intDiv64Spec (s : State) :
    exec .intDiv64Spec s = countEvent .intDiv64Spec (attributionOf .intDiv64Spec) (occOf .intDiv64Spec) (incrementOf .intDiv64Spec) s := (rfl)
theorem execRule_sveIntDivSpec (s : State) :
    exec .sveIntDivSpec s = countEvent .sveIntDivSpec (attributionOf .sveIntDivSpec) (occOf .sveIntDivSpec) (incrementOf .sveIntDivSpec) s := (rfl)
theorem execRule_sveIntDiv64Spec (s : State) :
    exec .sveIntDiv64Spec s = countEvent .sveIntDiv64Spec (attributionOf .sveIntDiv64Spec) (occOf .sveIntDiv64Spec) (incrementOf .sveIntDiv64Spec) s := (rfl)
theorem execRule_intMulSpec (s : State) :
    exec .intMulSpec s = countEvent .intMulSpec (attributionOf .intMulSpec) (occOf .intMulSpec) (incrementOf .intMulSpec) s := (rfl)
theorem execRule_aseIntMulSpec (s : State) :
    exec .aseIntMulSpec s = countEvent .aseIntMulSpec (attributionOf .aseIntMulSpec) (occOf .aseIntMulSpec) (incrementOf .aseIntMulSpec) s := (rfl)
theorem execRule_sveIntMulSpec (s : State) :
    exec .sveIntMulSpec s = countEvent .sveIntMulSpec (attributionOf .sveIntMulSpec) (occOf .sveIntMulSpec) (incrementOf .sveIntMulSpec) s := (rfl)
theorem execRule_aseSveIntMulSpec (s : State) :
    exec .aseSveIntMulSpec s = countEvent .aseSveIntMulSpec (attributionOf .aseSveIntMulSpec) (occOf .aseSveIntMulSpec) (incrementOf .aseSveIntMulSpec) s := (rfl)
theorem execRule_intMul64Spec (s : State) :
    exec .intMul64Spec s = countEvent .intMul64Spec (attributionOf .intMul64Spec) (occOf .intMul64Spec) (incrementOf .intMul64Spec) s := (rfl)
theorem execRule_sveIntMul64Spec (s : State) :
    exec .sveIntMul64Spec s = countEvent .sveIntMul64Spec (attributionOf .sveIntMul64Spec) (occOf .sveIntMul64Spec) (incrementOf .sveIntMul64Spec) s := (rfl)
theorem execRule_intMulh64Spec (s : State) :
    exec .intMulh64Spec s = countEvent .intMulh64Spec (attributionOf .intMulh64Spec) (occOf .intMulh64Spec) (incrementOf .intMulh64Spec) s := (rfl)
theorem execRule_sveIntMulh64Spec (s : State) :
    exec .sveIntMulh64Spec s = countEvent .sveIntMulh64Spec (attributionOf .sveIntMulh64Spec) (occOf .sveIntMulh64Spec) (incrementOf .sveIntMulh64Spec) s := (rfl)
theorem execRule_aseFpBf16Spec (s : State) :
    exec .aseFpBf16Spec s = countEvent .aseFpBf16Spec (attributionOf .aseFpBf16Spec) (occOf .aseFpBf16Spec) (incrementOf .aseFpBf16Spec) s := (rfl)
theorem execRule_sveFpBf16Spec (s : State) :
    exec .sveFpBf16Spec s = countEvent .sveFpBf16Spec (attributionOf .sveFpBf16Spec) (occOf .sveFpBf16Spec) (incrementOf .sveFpBf16Spec) s := (rfl)
theorem execRule_aseSveFpBf16Spec (s : State) :
    exec .aseSveFpBf16Spec s = countEvent .aseSveFpBf16Spec (attributionOf .aseSveFpBf16Spec) (occOf .aseSveFpBf16Spec) (incrementOf .aseSveFpBf16Spec) s := (rfl)
theorem execRule_fpBf16Spec (s : State) :
    exec .fpBf16Spec s = countEvent .fpBf16Spec (attributionOf .fpBf16Spec) (occOf .fpBf16Spec) (incrementOf .fpBf16Spec) s := (rfl)
theorem execRule_sveSpec (s : State) :
    exec .sveSpec s = countEvent .sveSpec (attributionOf .sveSpec) (occOf .sveSpec) (incrementOf .sveSpec) s := (rfl)
theorem execRule_aseSveSpec (s : State) :
    exec .aseSveSpec s = countEvent .aseSveSpec (attributionOf .aseSveSpec) (occOf .aseSveSpec) (incrementOf .aseSveSpec) s := (rfl)
theorem execRule_nonfpSpec (s : State) :
    exec .nonfpSpec s = countEvent .nonfpSpec (attributionOf .nonfpSpec) (occOf .nonfpSpec) (incrementOf .nonfpSpec) s := (rfl)
theorem execRule_aseNonfpSpec (s : State) :
    exec .aseNonfpSpec s = countEvent .aseNonfpSpec (attributionOf .aseNonfpSpec) (occOf .aseNonfpSpec) (incrementOf .aseNonfpSpec) s := (rfl)
theorem execRule_sveNonfpSpec (s : State) :
    exec .sveNonfpSpec s = countEvent .sveNonfpSpec (attributionOf .sveNonfpSpec) (occOf .sveNonfpSpec) (incrementOf .sveNonfpSpec) s := (rfl)
theorem execRule_aseSveNonfpSpec (s : State) :
    exec .aseSveNonfpSpec s = countEvent .aseSveNonfpSpec (attributionOf .aseSveNonfpSpec) (occOf .aseSveNonfpSpec) (incrementOf .aseSveNonfpSpec) s := (rfl)
theorem execRule_aseIntVreduceSpec (s : State) :
    exec .aseIntVreduceSpec s = countEvent .aseIntVreduceSpec (attributionOf .aseIntVreduceSpec) (occOf .aseIntVreduceSpec) (incrementOf .aseIntVreduceSpec) s := (rfl)
theorem execRule_sveIntVreduceSpec (s : State) :
    exec .sveIntVreduceSpec s = countEvent .sveIntVreduceSpec (attributionOf .sveIntVreduceSpec) (occOf .sveIntVreduceSpec) (incrementOf .sveIntVreduceSpec) s := (rfl)
theorem execRule_aseSveIntVreduceSpec (s : State) :
    exec .aseSveIntVreduceSpec s = countEvent .aseSveIntVreduceSpec (attributionOf .aseSveIntVreduceSpec) (occOf .aseSveIntVreduceSpec) (incrementOf .aseSveIntVreduceSpec) s := (rfl)
theorem execRule_svePermSpec (s : State) :
    exec .svePermSpec s = countEvent .svePermSpec (attributionOf .svePermSpec) (occOf .svePermSpec) (incrementOf .svePermSpec) s := (rfl)
theorem execRule_svePermIgranuleSpec (s : State) :
    exec .svePermIgranuleSpec s = countEvent .svePermIgranuleSpec (attributionOf .svePermIgranuleSpec) (occOf .svePermIgranuleSpec) (incrementOf .svePermIgranuleSpec) s := (rfl)
theorem execRule_svePermXgranuleSpec (s : State) :
    exec .svePermXgranuleSpec s = countEvent .svePermXgranuleSpec (attributionOf .svePermXgranuleSpec) (occOf .svePermXgranuleSpec) (incrementOf .svePermXgranuleSpec) s := (rfl)
theorem execRule_svePermVariableSpec (s : State) :
    exec .svePermVariableSpec s = countEvent .svePermVariableSpec (attributionOf .svePermVariableSpec) (occOf .svePermVariableSpec) (incrementOf .svePermVariableSpec) s := (rfl)
theorem execRule_sveXpipeSpec (s : State) :
    exec .sveXpipeSpec s = countEvent .sveXpipeSpec (attributionOf .sveXpipeSpec) (occOf .sveXpipeSpec) (incrementOf .sveXpipeSpec) s := (rfl)
theorem execRule_sveXpipeZ2rSpec (s : State) :
    exec .sveXpipeZ2rSpec s = countEvent .sveXpipeZ2rSpec (attributionOf .sveXpipeZ2rSpec) (occOf .sveXpipeZ2rSpec) (incrementOf .sveXpipeZ2rSpec) s := (rfl)
theorem execRule_sveXpipeR2zSpec (s : State) :
    exec .sveXpipeR2zSpec s = countEvent .sveXpipeR2zSpec (attributionOf .sveXpipeR2zSpec) (occOf .sveXpipeR2zSpec) (incrementOf .sveXpipeR2zSpec) s := (rfl)
theorem execRule_svePgenNvecSpec (s : State) :
    exec .svePgenNvecSpec s = countEvent .svePgenNvecSpec (attributionOf .svePgenNvecSpec) (occOf .svePgenNvecSpec) (incrementOf .svePgenNvecSpec) s := (rfl)
theorem execRule_svePgenSpec (s : State) :
    exec .svePgenSpec s = countEvent .svePgenSpec (attributionOf .svePgenSpec) (occOf .svePgenSpec) (incrementOf .svePgenSpec) s := (rfl)
theorem execRule_svePgenFlgSpec (s : State) :
    exec .svePgenFlgSpec s = countEvent .svePgenFlgSpec (attributionOf .svePgenFlgSpec) (occOf .svePgenFlgSpec) (incrementOf .svePgenFlgSpec) s := (rfl)
theorem execRule_svePgenCmpSpec (s : State) :
    exec .svePgenCmpSpec s = countEvent .svePgenCmpSpec (attributionOf .svePgenCmpSpec) (occOf .svePgenCmpSpec) (incrementOf .svePgenCmpSpec) s := (rfl)
theorem execRule_svePgenFcmSpec (s : State) :
    exec .svePgenFcmSpec s = countEvent .svePgenFcmSpec (attributionOf .svePgenFcmSpec) (occOf .svePgenFcmSpec) (incrementOf .svePgenFcmSpec) s := (rfl)
theorem execRule_svePgenLogicSpec (s : State) :
    exec .svePgenLogicSpec s = countEvent .svePgenLogicSpec (attributionOf .svePgenLogicSpec) (occOf .svePgenLogicSpec) (incrementOf .svePgenLogicSpec) s := (rfl)
theorem execRule_svePpermSpec (s : State) :
    exec .svePpermSpec s = countEvent .svePpermSpec (attributionOf .svePpermSpec) (occOf .svePpermSpec) (incrementOf .svePpermSpec) s := (rfl)
theorem execRule_svePscanSpec (s : State) :
    exec .svePscanSpec s = countEvent .svePscanSpec (attributionOf .svePscanSpec) (occOf .svePscanSpec) (incrementOf .svePscanSpec) s := (rfl)
theorem execRule_svePcntSpec (s : State) :
    exec .svePcntSpec s = countEvent .svePcntSpec (attributionOf .svePcntSpec) (occOf .svePcntSpec) (incrementOf .svePcntSpec) s := (rfl)
theorem execRule_svePloopWhileSpec (s : State) :
    exec .svePloopWhileSpec s = countEvent .svePloopWhileSpec (attributionOf .svePloopWhileSpec) (occOf .svePloopWhileSpec) (incrementOf .svePloopWhileSpec) s := (rfl)
theorem execRule_svePloopTestSpec (s : State) :
    exec .svePloopTestSpec s = countEvent .svePloopTestSpec (attributionOf .svePloopTestSpec) (occOf .svePloopTestSpec) (incrementOf .svePloopTestSpec) s := (rfl)
theorem execRule_svePloopEltsSpec (s : State) :
    exec .svePloopEltsSpec s = countEvent .svePloopEltsSpec (attributionOf .svePloopEltsSpec) (occOf .svePloopEltsSpec) (incrementOf .svePloopEltsSpec) s := (rfl)
theorem execRule_svePloopTermSpec (s : State) :
    exec .svePloopTermSpec s = countEvent .svePloopTermSpec (attributionOf .svePloopTermSpec) (occOf .svePloopTermSpec) (incrementOf .svePloopTermSpec) s := (rfl)
theorem execRule_svePredSpec (s : State) :
    exec .svePredSpec s = countEvent .svePredSpec (attributionOf .svePredSpec) (occOf .svePredSpec) (incrementOf .svePredSpec) s := (rfl)
theorem execRule_svePredEmptySpec (s : State) :
    exec .svePredEmptySpec s = countEvent .svePredEmptySpec (attributionOf .svePredEmptySpec) (occOf .svePredEmptySpec) (incrementOf .svePredEmptySpec) s := (rfl)
theorem execRule_svePredFullSpec (s : State) :
    exec .svePredFullSpec s = countEvent .svePredFullSpec (attributionOf .svePredFullSpec) (occOf .svePredFullSpec) (incrementOf .svePredFullSpec) s := (rfl)
theorem execRule_svePredPartialSpec (s : State) :
    exec .svePredPartialSpec s = countEvent .svePredPartialSpec (attributionOf .svePredPartialSpec) (occOf .svePredPartialSpec) (incrementOf .svePredPartialSpec) s := (rfl)
theorem execRule_sveUnpredSpec (s : State) :
    exec .sveUnpredSpec s = countEvent .sveUnpredSpec (attributionOf .sveUnpredSpec) (occOf .sveUnpredSpec) (incrementOf .sveUnpredSpec) s := (rfl)
theorem execRule_svePredNotFullSpec (s : State) :
    exec .svePredNotFullSpec s = countEvent .svePredNotFullSpec (attributionOf .svePredNotFullSpec) (occOf .svePredNotFullSpec) (incrementOf .svePredNotFullSpec) s := (rfl)
theorem execRule_sveMovprfxSpec (s : State) :
    exec .sveMovprfxSpec s = countEvent .sveMovprfxSpec (attributionOf .sveMovprfxSpec) (occOf .sveMovprfxSpec) (incrementOf .sveMovprfxSpec) s := (rfl)
theorem execRule_sveMovprfxZSpec (s : State) :
    exec .sveMovprfxZSpec s = countEvent .sveMovprfxZSpec (attributionOf .sveMovprfxZSpec) (occOf .sveMovprfxZSpec) (incrementOf .sveMovprfxZSpec) s := (rfl)
theorem execRule_sveMovprfxMSpec (s : State) :
    exec .sveMovprfxMSpec s = countEvent .sveMovprfxMSpec (attributionOf .sveMovprfxMSpec) (occOf .sveMovprfxMSpec) (incrementOf .sveMovprfxMSpec) s := (rfl)
theorem execRule_sveMovprfxUSpec (s : State) :
    exec .sveMovprfxUSpec s = countEvent .sveMovprfxUSpec (attributionOf .sveMovprfxUSpec) (occOf .sveMovprfxUSpec) (incrementOf .sveMovprfxUSpec) s := (rfl)
theorem execRule_sveLdstSpec (s : State) :
    exec .sveLdstSpec s = countEvent .sveLdstSpec (attributionOf .sveLdstSpec) (occOf .sveLdstSpec) (incrementOf .sveLdstSpec) s := (rfl)
theorem execRule_sveLdSpec (s : State) :
    exec .sveLdSpec s = countEvent .sveLdSpec (attributionOf .sveLdSpec) (occOf .sveLdSpec) (incrementOf .sveLdSpec) s := (rfl)
theorem execRule_sveStSpec (s : State) :
    exec .sveStSpec s = countEvent .sveStSpec (attributionOf .sveStSpec) (occOf .sveStSpec) (incrementOf .sveStSpec) s := (rfl)
theorem execRule_svePrfSpec (s : State) :
    exec .svePrfSpec s = countEvent .svePrfSpec (attributionOf .svePrfSpec) (occOf .svePrfSpec) (incrementOf .svePrfSpec) s := (rfl)
theorem execRule_aseSveLdstSpec (s : State) :
    exec .aseSveLdstSpec s = countEvent .aseSveLdstSpec (attributionOf .aseSveLdstSpec) (occOf .aseSveLdstSpec) (incrementOf .aseSveLdstSpec) s := (rfl)
theorem execRule_aseSveLdSpec (s : State) :
    exec .aseSveLdSpec s = countEvent .aseSveLdSpec (attributionOf .aseSveLdSpec) (occOf .aseSveLdSpec) (incrementOf .aseSveLdSpec) s := (rfl)
theorem execRule_aseSveStSpec (s : State) :
    exec .aseSveStSpec s = countEvent .aseSveStSpec (attributionOf .aseSveStSpec) (occOf .aseSveStSpec) (incrementOf .aseSveStSpec) s := (rfl)
theorem execRule_prfSpec (s : State) :
    exec .prfSpec s = countEvent .prfSpec (attributionOf .prfSpec) (occOf .prfSpec) (incrementOf .prfSpec) s := (rfl)
theorem execRule_baseLdstRegSpec (s : State) :
    exec .baseLdstRegSpec s = countEvent .baseLdstRegSpec (attributionOf .baseLdstRegSpec) (occOf .baseLdstRegSpec) (incrementOf .baseLdstRegSpec) s := (rfl)
theorem execRule_baseLdRegSpec (s : State) :
    exec .baseLdRegSpec s = countEvent .baseLdRegSpec (attributionOf .baseLdRegSpec) (occOf .baseLdRegSpec) (incrementOf .baseLdRegSpec) s := (rfl)
theorem execRule_baseStRegSpec (s : State) :
    exec .baseStRegSpec s = countEvent .baseStRegSpec (attributionOf .baseStRegSpec) (occOf .baseStRegSpec) (incrementOf .baseStRegSpec) s := (rfl)
theorem execRule_basePrfSpec (s : State) :
    exec .basePrfSpec s = countEvent .basePrfSpec (attributionOf .basePrfSpec) (occOf .basePrfSpec) (incrementOf .basePrfSpec) s := (rfl)
theorem execRule_fpaseLdstRegSpec (s : State) :
    exec .fpaseLdstRegSpec s = countEvent .fpaseLdstRegSpec (attributionOf .fpaseLdstRegSpec) (occOf .fpaseLdstRegSpec) (incrementOf .fpaseLdstRegSpec) s := (rfl)
theorem execRule_fpaseLdRegSpec (s : State) :
    exec .fpaseLdRegSpec s = countEvent .fpaseLdRegSpec (attributionOf .fpaseLdRegSpec) (occOf .fpaseLdRegSpec) (incrementOf .fpaseLdRegSpec) s := (rfl)
theorem execRule_fpaseStRegSpec (s : State) :
    exec .fpaseStRegSpec s = countEvent .fpaseStRegSpec (attributionOf .fpaseStRegSpec) (occOf .fpaseStRegSpec) (incrementOf .fpaseStRegSpec) s := (rfl)
theorem execRule_sveLdstRegSpec (s : State) :
    exec .sveLdstRegSpec s = countEvent .sveLdstRegSpec (attributionOf .sveLdstRegSpec) (occOf .sveLdstRegSpec) (incrementOf .sveLdstRegSpec) s := (rfl)
theorem execRule_sveLdrRegSpec (s : State) :
    exec .sveLdrRegSpec s = countEvent .sveLdrRegSpec (attributionOf .sveLdrRegSpec) (occOf .sveLdrRegSpec) (incrementOf .sveLdrRegSpec) s := (rfl)
theorem execRule_sveStrRegSpec (s : State) :
    exec .sveStrRegSpec s = countEvent .sveStrRegSpec (attributionOf .sveStrRegSpec) (occOf .sveStrRegSpec) (incrementOf .sveStrRegSpec) s := (rfl)
theorem execRule_sveLdstPregSpec (s : State) :
    exec .sveLdstPregSpec s = countEvent .sveLdstPregSpec (attributionOf .sveLdstPregSpec) (occOf .sveLdstPregSpec) (incrementOf .sveLdstPregSpec) s := (rfl)
theorem execRule_sveLdrPregSpec (s : State) :
    exec .sveLdrPregSpec s = countEvent .sveLdrPregSpec (attributionOf .sveLdrPregSpec) (occOf .sveLdrPregSpec) (incrementOf .sveLdrPregSpec) s := (rfl)
theorem execRule_sveStrPregSpec (s : State) :
    exec .sveStrPregSpec s = countEvent .sveStrPregSpec (attributionOf .sveStrPregSpec) (occOf .sveStrPregSpec) (incrementOf .sveStrPregSpec) s := (rfl)
theorem execRule_sveLdstZregSpec (s : State) :
    exec .sveLdstZregSpec s = countEvent .sveLdstZregSpec (attributionOf .sveLdstZregSpec) (occOf .sveLdstZregSpec) (incrementOf .sveLdstZregSpec) s := (rfl)
theorem execRule_sveLdrZregSpec (s : State) :
    exec .sveLdrZregSpec s = countEvent .sveLdrZregSpec (attributionOf .sveLdrZregSpec) (occOf .sveLdrZregSpec) (incrementOf .sveLdrZregSpec) s := (rfl)
theorem execRule_sveStrZregSpec (s : State) :
    exec .sveStrZregSpec s = countEvent .sveStrZregSpec (attributionOf .sveStrZregSpec) (occOf .sveStrZregSpec) (incrementOf .sveStrZregSpec) s := (rfl)
theorem execRule_sveLdstContigSpec (s : State) :
    exec .sveLdstContigSpec s = countEvent .sveLdstContigSpec (attributionOf .sveLdstContigSpec) (occOf .sveLdstContigSpec) (incrementOf .sveLdstContigSpec) s := (rfl)
theorem execRule_sveLdContigSpec (s : State) :
    exec .sveLdContigSpec s = countEvent .sveLdContigSpec (attributionOf .sveLdContigSpec) (occOf .sveLdContigSpec) (incrementOf .sveLdContigSpec) s := (rfl)
theorem execRule_sveStContigSpec (s : State) :
    exec .sveStContigSpec s = countEvent .sveStContigSpec (attributionOf .sveStContigSpec) (occOf .sveStContigSpec) (incrementOf .sveStContigSpec) s := (rfl)
theorem execRule_svePrfContigSpec (s : State) :
    exec .svePrfContigSpec s = countEvent .svePrfContigSpec (attributionOf .svePrfContigSpec) (occOf .svePrfContigSpec) (incrementOf .svePrfContigSpec) s := (rfl)
theorem execRule_sveLdstntContigSpec (s : State) :
    exec .sveLdstntContigSpec s = countEvent .sveLdstntContigSpec (attributionOf .sveLdstntContigSpec) (occOf .sveLdstntContigSpec) (incrementOf .sveLdstntContigSpec) s := (rfl)
theorem execRule_sveLdntContigSpec (s : State) :
    exec .sveLdntContigSpec s = countEvent .sveLdntContigSpec (attributionOf .sveLdntContigSpec) (occOf .sveLdntContigSpec) (incrementOf .sveLdntContigSpec) s := (rfl)
theorem execRule_sveStntContigSpec (s : State) :
    exec .sveStntContigSpec s = countEvent .sveStntContigSpec (attributionOf .sveStntContigSpec) (occOf .sveStntContigSpec) (incrementOf .sveStntContigSpec) s := (rfl)
theorem execRule_aseSveLdstMultiSpec (s : State) :
    exec .aseSveLdstMultiSpec s = countEvent .aseSveLdstMultiSpec (attributionOf .aseSveLdstMultiSpec) (occOf .aseSveLdstMultiSpec) (incrementOf .aseSveLdstMultiSpec) s := (rfl)
theorem execRule_aseSveLdMultiSpec (s : State) :
    exec .aseSveLdMultiSpec s = countEvent .aseSveLdMultiSpec (attributionOf .aseSveLdMultiSpec) (occOf .aseSveLdMultiSpec) (incrementOf .aseSveLdMultiSpec) s := (rfl)
theorem execRule_aseSveStMultiSpec (s : State) :
    exec .aseSveStMultiSpec s = countEvent .aseSveStMultiSpec (attributionOf .aseSveStMultiSpec) (occOf .aseSveStMultiSpec) (incrementOf .aseSveStMultiSpec) s := (rfl)
theorem execRule_sveLdstMultiSpec (s : State) :
    exec .sveLdstMultiSpec s = countEvent .sveLdstMultiSpec (attributionOf .sveLdstMultiSpec) (occOf .sveLdstMultiSpec) (incrementOf .sveLdstMultiSpec) s := (rfl)
theorem execRule_sveLdMultiSpec (s : State) :
    exec .sveLdMultiSpec s = countEvent .sveLdMultiSpec (attributionOf .sveLdMultiSpec) (occOf .sveLdMultiSpec) (incrementOf .sveLdMultiSpec) s := (rfl)
theorem execRule_sveStMultiSpec (s : State) :
    exec .sveStMultiSpec s = countEvent .sveStMultiSpec (attributionOf .sveStMultiSpec) (occOf .sveStMultiSpec) (incrementOf .sveStMultiSpec) s := (rfl)
theorem execRule_sveLdstNoncontigSpec (s : State) :
    exec .sveLdstNoncontigSpec s = countEvent .sveLdstNoncontigSpec (attributionOf .sveLdstNoncontigSpec) (occOf .sveLdstNoncontigSpec) (incrementOf .sveLdstNoncontigSpec) s := (rfl)
theorem execRule_sveLdGatherSpec (s : State) :
    exec .sveLdGatherSpec s = countEvent .sveLdGatherSpec (attributionOf .sveLdGatherSpec) (occOf .sveLdGatherSpec) (incrementOf .sveLdGatherSpec) s := (rfl)
theorem execRule_sveStScatterSpec (s : State) :
    exec .sveStScatterSpec s = countEvent .sveStScatterSpec (attributionOf .sveStScatterSpec) (occOf .sveStScatterSpec) (incrementOf .sveStScatterSpec) s := (rfl)
theorem execRule_svePrfGatherSpec (s : State) :
    exec .svePrfGatherSpec s = countEvent .svePrfGatherSpec (attributionOf .svePrfGatherSpec) (occOf .svePrfGatherSpec) (incrementOf .svePrfGatherSpec) s := (rfl)
theorem execRule_sveLdst64NoncontigSpec (s : State) :
    exec .sveLdst64NoncontigSpec s = countEvent .sveLdst64NoncontigSpec (attributionOf .sveLdst64NoncontigSpec) (occOf .sveLdst64NoncontigSpec) (incrementOf .sveLdst64NoncontigSpec) s := (rfl)
theorem execRule_sveLd64GatherSpec (s : State) :
    exec .sveLd64GatherSpec s = countEvent .sveLd64GatherSpec (attributionOf .sveLd64GatherSpec) (occOf .sveLd64GatherSpec) (incrementOf .sveLd64GatherSpec) s := (rfl)
theorem execRule_sveSt64ScatterSpec (s : State) :
    exec .sveSt64ScatterSpec s = countEvent .sveSt64ScatterSpec (attributionOf .sveSt64ScatterSpec) (occOf .sveSt64ScatterSpec) (incrementOf .sveSt64ScatterSpec) s := (rfl)
theorem execRule_svePrf64GatherSpec (s : State) :
    exec .svePrf64GatherSpec s = countEvent .svePrf64GatherSpec (attributionOf .svePrf64GatherSpec) (occOf .svePrf64GatherSpec) (incrementOf .svePrf64GatherSpec) s := (rfl)
theorem execRule_aseSveUnalignedLdstSpec (s : State) :
    exec .aseSveUnalignedLdstSpec s = countEvent .aseSveUnalignedLdstSpec (attributionOf .aseSveUnalignedLdstSpec) (occOf .aseSveUnalignedLdstSpec) (incrementOf .aseSveUnalignedLdstSpec) s := (rfl)
theorem execRule_aseSveUnalignedLdSpec (s : State) :
    exec .aseSveUnalignedLdSpec s = countEvent .aseSveUnalignedLdSpec (attributionOf .aseSveUnalignedLdSpec) (occOf .aseSveUnalignedLdSpec) (incrementOf .aseSveUnalignedLdSpec) s := (rfl)
theorem execRule_aseSveUnalignedStSpec (s : State) :
    exec .aseSveUnalignedStSpec s = countEvent .aseSveUnalignedStSpec (attributionOf .aseSveUnalignedStSpec) (occOf .aseSveUnalignedStSpec) (incrementOf .aseSveUnalignedStSpec) s := (rfl)
theorem execRule_aseSveUnalignedContigLdstSpec (s : State) :
    exec .aseSveUnalignedContigLdstSpec s = countEvent .aseSveUnalignedContigLdstSpec (attributionOf .aseSveUnalignedContigLdstSpec) (occOf .aseSveUnalignedContigLdstSpec) (incrementOf .aseSveUnalignedContigLdstSpec) s := (rfl)
theorem execRule_aseSveUnalignedContigLdSpec (s : State) :
    exec .aseSveUnalignedContigLdSpec s = countEvent .aseSveUnalignedContigLdSpec (attributionOf .aseSveUnalignedContigLdSpec) (occOf .aseSveUnalignedContigLdSpec) (incrementOf .aseSveUnalignedContigLdSpec) s := (rfl)
theorem execRule_aseSveUnalignedContigStSpec (s : State) :
    exec .aseSveUnalignedContigStSpec s = countEvent .aseSveUnalignedContigStSpec (attributionOf .aseSveUnalignedContigStSpec) (occOf .aseSveUnalignedContigStSpec) (incrementOf .aseSveUnalignedContigStSpec) s := (rfl)
theorem execRule_sveLdffSpec (s : State) :
    exec .sveLdffSpec s = countEvent .sveLdffSpec (attributionOf .sveLdffSpec) (occOf .sveLdffSpec) (incrementOf .sveLdffSpec) s := (rfl)
theorem execRule_sveLdffFaultSpec (s : State) :
    exec .sveLdffFaultSpec s = countEvent .sveLdffFaultSpec (attributionOf .sveLdffFaultSpec) (occOf .sveLdffFaultSpec) (incrementOf .sveLdffFaultSpec) s := (rfl)
theorem execRule_fpScaleOpsSpec (s : State) :
    exec .fpScaleOpsSpec s = countEvent .fpScaleOpsSpec (attributionOf .fpScaleOpsSpec) (occOf .fpScaleOpsSpec) (incrementOf .fpScaleOpsSpec) s := (rfl)
theorem execRule_fpFixedOpsSpec (s : State) :
    exec .fpFixedOpsSpec s = countEvent .fpFixedOpsSpec (attributionOf .fpFixedOpsSpec) (occOf .fpFixedOpsSpec) (incrementOf .fpFixedOpsSpec) s := (rfl)
theorem execRule_fpHpScaleOpsSpec (s : State) :
    exec .fpHpScaleOpsSpec s = countEvent .fpHpScaleOpsSpec (attributionOf .fpHpScaleOpsSpec) (occOf .fpHpScaleOpsSpec) (incrementOf .fpHpScaleOpsSpec) s := (rfl)
theorem execRule_fpHpFixedOpsSpec (s : State) :
    exec .fpHpFixedOpsSpec s = countEvent .fpHpFixedOpsSpec (attributionOf .fpHpFixedOpsSpec) (occOf .fpHpFixedOpsSpec) (incrementOf .fpHpFixedOpsSpec) s := (rfl)
theorem execRule_fpSpScaleOpsSpec (s : State) :
    exec .fpSpScaleOpsSpec s = countEvent .fpSpScaleOpsSpec (attributionOf .fpSpScaleOpsSpec) (occOf .fpSpScaleOpsSpec) (incrementOf .fpSpScaleOpsSpec) s := (rfl)
theorem execRule_fpSpFixedOpsSpec (s : State) :
    exec .fpSpFixedOpsSpec s = countEvent .fpSpFixedOpsSpec (attributionOf .fpSpFixedOpsSpec) (occOf .fpSpFixedOpsSpec) (incrementOf .fpSpFixedOpsSpec) s := (rfl)
theorem execRule_fpDpScaleOpsSpec (s : State) :
    exec .fpDpScaleOpsSpec s = countEvent .fpDpScaleOpsSpec (attributionOf .fpDpScaleOpsSpec) (occOf .fpDpScaleOpsSpec) (incrementOf .fpDpScaleOpsSpec) s := (rfl)
theorem execRule_fpDpFixedOpsSpec (s : State) :
    exec .fpDpFixedOpsSpec s = countEvent .fpDpFixedOpsSpec (attributionOf .fpDpFixedOpsSpec) (occOf .fpDpFixedOpsSpec) (incrementOf .fpDpFixedOpsSpec) s := (rfl)
theorem execRule_intScaleOpsSpec (s : State) :
    exec .intScaleOpsSpec s = countEvent .intScaleOpsSpec (attributionOf .intScaleOpsSpec) (occOf .intScaleOpsSpec) (incrementOf .intScaleOpsSpec) s := (rfl)
theorem execRule_intFixedOpsSpec (s : State) :
    exec .intFixedOpsSpec s = countEvent .intFixedOpsSpec (attributionOf .intFixedOpsSpec) (occOf .intFixedOpsSpec) (incrementOf .intFixedOpsSpec) s := (rfl)
theorem execRule_ldstScaleOpsSpec (s : State) :
    exec .ldstScaleOpsSpec s = countEvent .ldstScaleOpsSpec (attributionOf .ldstScaleOpsSpec) (occOf .ldstScaleOpsSpec) (incrementOf .ldstScaleOpsSpec) s := (rfl)
theorem execRule_ldstFixedOpsSpec (s : State) :
    exec .ldstFixedOpsSpec s = countEvent .ldstFixedOpsSpec (attributionOf .ldstFixedOpsSpec) (occOf .ldstFixedOpsSpec) (incrementOf .ldstFixedOpsSpec) s := (rfl)
theorem execRule_ldScaleOpsSpec (s : State) :
    exec .ldScaleOpsSpec s = countEvent .ldScaleOpsSpec (attributionOf .ldScaleOpsSpec) (occOf .ldScaleOpsSpec) (incrementOf .ldScaleOpsSpec) s := (rfl)
theorem execRule_ldFixedOpsSpec (s : State) :
    exec .ldFixedOpsSpec s = countEvent .ldFixedOpsSpec (attributionOf .ldFixedOpsSpec) (occOf .ldFixedOpsSpec) (incrementOf .ldFixedOpsSpec) s := (rfl)
theorem execRule_stScaleOpsSpec (s : State) :
    exec .stScaleOpsSpec s = countEvent .stScaleOpsSpec (attributionOf .stScaleOpsSpec) (occOf .stScaleOpsSpec) (incrementOf .stScaleOpsSpec) s := (rfl)
theorem execRule_stFixedOpsSpec (s : State) :
    exec .stFixedOpsSpec s = countEvent .stFixedOpsSpec (attributionOf .stFixedOpsSpec) (occOf .stFixedOpsSpec) (incrementOf .stFixedOpsSpec) s := (rfl)
theorem execRule_fpScale2OpsSpec (s : State) :
    exec .fpScale2OpsSpec s = countEvent .fpScale2OpsSpec (attributionOf .fpScale2OpsSpec) (occOf .fpScale2OpsSpec) (incrementOf .fpScale2OpsSpec) s := (rfl)
theorem execRule_fpHpScale2OpsSpec (s : State) :
    exec .fpHpScale2OpsSpec s = countEvent .fpHpScale2OpsSpec (attributionOf .fpHpScale2OpsSpec) (occOf .fpHpScale2OpsSpec) (incrementOf .fpHpScale2OpsSpec) s := (rfl)
theorem execRule_fpBf16Scale2OpsSpec (s : State) :
    exec .fpBf16Scale2OpsSpec s = countEvent .fpBf16Scale2OpsSpec (attributionOf .fpBf16Scale2OpsSpec) (occOf .fpBf16Scale2OpsSpec) (incrementOf .fpBf16Scale2OpsSpec) s := (rfl)
theorem execRule_fpSpScale2OpsSpec (s : State) :
    exec .fpSpScale2OpsSpec s = countEvent .fpSpScale2OpsSpec (attributionOf .fpSpScale2OpsSpec) (occOf .fpSpScale2OpsSpec) (incrementOf .fpSpScale2OpsSpec) s := (rfl)
theorem execRule_fpDpScale2OpsSpec (s : State) :
    exec .fpDpScale2OpsSpec s = countEvent .fpDpScale2OpsSpec (attributionOf .fpDpScale2OpsSpec) (occOf .fpDpScale2OpsSpec) (incrementOf .fpDpScale2OpsSpec) s := (rfl)
theorem execRule_intScale2OpsSpec (s : State) :
    exec .intScale2OpsSpec s = countEvent .intScale2OpsSpec (attributionOf .intScale2OpsSpec) (occOf .intScale2OpsSpec) (incrementOf .intScale2OpsSpec) s := (rfl)
theorem execRule_ldstScaleBytesSpec (s : State) :
    exec .ldstScaleBytesSpec s = countEvent .ldstScaleBytesSpec (attributionOf .ldstScaleBytesSpec) (occOf .ldstScaleBytesSpec) (incrementOf .ldstScaleBytesSpec) s := (rfl)
theorem execRule_ldstFixedBytesSpec (s : State) :
    exec .ldstFixedBytesSpec s = countEvent .ldstFixedBytesSpec (attributionOf .ldstFixedBytesSpec) (occOf .ldstFixedBytesSpec) (incrementOf .ldstFixedBytesSpec) s := (rfl)
theorem execRule_ldScaleBytesSpec (s : State) :
    exec .ldScaleBytesSpec s = countEvent .ldScaleBytesSpec (attributionOf .ldScaleBytesSpec) (occOf .ldScaleBytesSpec) (incrementOf .ldScaleBytesSpec) s := (rfl)
theorem execRule_ldFixedBytesSpec (s : State) :
    exec .ldFixedBytesSpec s = countEvent .ldFixedBytesSpec (attributionOf .ldFixedBytesSpec) (occOf .ldFixedBytesSpec) (incrementOf .ldFixedBytesSpec) s := (rfl)
theorem execRule_stScaleBytesSpec (s : State) :
    exec .stScaleBytesSpec s = countEvent .stScaleBytesSpec (attributionOf .stScaleBytesSpec) (occOf .stScaleBytesSpec) (incrementOf .stScaleBytesSpec) s := (rfl)
theorem execRule_stFixedBytesSpec (s : State) :
    exec .stFixedBytesSpec s = countEvent .stFixedBytesSpec (attributionOf .stFixedBytesSpec) (occOf .stFixedBytesSpec) (incrementOf .stFixedBytesSpec) s := (rfl)
theorem execRule_aseInt8Spec (s : State) :
    exec .aseInt8Spec s = countEvent .aseInt8Spec (attributionOf .aseInt8Spec) (occOf .aseInt8Spec) (incrementOf .aseInt8Spec) s := (rfl)
theorem execRule_sveInt8Spec (s : State) :
    exec .sveInt8Spec s = countEvent .sveInt8Spec (attributionOf .sveInt8Spec) (occOf .sveInt8Spec) (incrementOf .sveInt8Spec) s := (rfl)
theorem execRule_aseSveInt8Spec (s : State) :
    exec .aseSveInt8Spec s = countEvent .aseSveInt8Spec (attributionOf .aseSveInt8Spec) (occOf .aseSveInt8Spec) (incrementOf .aseSveInt8Spec) s := (rfl)
theorem execRule_aseInt16Spec (s : State) :
    exec .aseInt16Spec s = countEvent .aseInt16Spec (attributionOf .aseInt16Spec) (occOf .aseInt16Spec) (incrementOf .aseInt16Spec) s := (rfl)
theorem execRule_sveInt16Spec (s : State) :
    exec .sveInt16Spec s = countEvent .sveInt16Spec (attributionOf .sveInt16Spec) (occOf .sveInt16Spec) (incrementOf .sveInt16Spec) s := (rfl)
theorem execRule_aseSveInt16Spec (s : State) :
    exec .aseSveInt16Spec s = countEvent .aseSveInt16Spec (attributionOf .aseSveInt16Spec) (occOf .aseSveInt16Spec) (incrementOf .aseSveInt16Spec) s := (rfl)
theorem execRule_fpBf16ScaleOpsSpec (s : State) :
    exec .fpBf16ScaleOpsSpec s = countEvent .fpBf16ScaleOpsSpec (attributionOf .fpBf16ScaleOpsSpec) (occOf .fpBf16ScaleOpsSpec) (incrementOf .fpBf16ScaleOpsSpec) s := (rfl)
theorem execRule_aseInt32Spec (s : State) :
    exec .aseInt32Spec s = countEvent .aseInt32Spec (attributionOf .aseInt32Spec) (occOf .aseInt32Spec) (incrementOf .aseInt32Spec) s := (rfl)
theorem execRule_sveInt32Spec (s : State) :
    exec .sveInt32Spec s = countEvent .sveInt32Spec (attributionOf .sveInt32Spec) (occOf .sveInt32Spec) (incrementOf .sveInt32Spec) s := (rfl)
theorem execRule_aseSveInt32Spec (s : State) :
    exec .aseSveInt32Spec s = countEvent .aseSveInt32Spec (attributionOf .aseSveInt32Spec) (occOf .aseSveInt32Spec) (incrementOf .aseSveInt32Spec) s := (rfl)
theorem execRule_aseInt64Spec (s : State) :
    exec .aseInt64Spec s = countEvent .aseInt64Spec (attributionOf .aseInt64Spec) (occOf .aseInt64Spec) (incrementOf .aseInt64Spec) s := (rfl)
theorem execRule_sveInt64Spec (s : State) :
    exec .sveInt64Spec s = countEvent .sveInt64Spec (attributionOf .sveInt64Spec) (occOf .sveInt64Spec) (incrementOf .sveInt64Spec) s := (rfl)
theorem execRule_aseSveInt64Spec (s : State) :
    exec .aseSveInt64Spec s = countEvent .aseSveInt64Spec (attributionOf .aseSveInt64Spec) (occOf .aseSveInt64Spec) (incrementOf .aseSveInt64Spec) s := (rfl)
theorem execRule_aseFpDotSpec (s : State) :
    exec .aseFpDotSpec s = countEvent .aseFpDotSpec (attributionOf .aseFpDotSpec) (occOf .aseFpDotSpec) (incrementOf .aseFpDotSpec) s := (rfl)
theorem execRule_sveFpDotSpec (s : State) :
    exec .sveFpDotSpec s = countEvent .sveFpDotSpec (attributionOf .sveFpDotSpec) (occOf .sveFpDotSpec) (incrementOf .sveFpDotSpec) s := (rfl)
theorem execRule_aseSveFpDotSpec (s : State) :
    exec .aseSveFpDotSpec s = countEvent .aseSveFpDotSpec (attributionOf .aseSveFpDotSpec) (occOf .aseSveFpDotSpec) (incrementOf .aseSveFpDotSpec) s := (rfl)
theorem execRule_aseFpMmlaSpec (s : State) :
    exec .aseFpMmlaSpec s = countEvent .aseFpMmlaSpec (attributionOf .aseFpMmlaSpec) (occOf .aseFpMmlaSpec) (incrementOf .aseFpMmlaSpec) s := (rfl)
theorem execRule_sveFpMmlaSpec (s : State) :
    exec .sveFpMmlaSpec s = countEvent .sveFpMmlaSpec (attributionOf .sveFpMmlaSpec) (occOf .sveFpMmlaSpec) (incrementOf .sveFpMmlaSpec) s := (rfl)
theorem execRule_aseSveFpMmlaSpec (s : State) :
    exec .aseSveFpMmlaSpec s = countEvent .aseSveFpMmlaSpec (attributionOf .aseSveFpMmlaSpec) (occOf .aseSveFpMmlaSpec) (incrementOf .aseSveFpMmlaSpec) s := (rfl)
theorem execRule_aseIntDotSpec (s : State) :
    exec .aseIntDotSpec s = countEvent .aseIntDotSpec (attributionOf .aseIntDotSpec) (occOf .aseIntDotSpec) (incrementOf .aseIntDotSpec) s := (rfl)
theorem execRule_sveIntDotSpec (s : State) :
    exec .sveIntDotSpec s = countEvent .sveIntDotSpec (attributionOf .sveIntDotSpec) (occOf .sveIntDotSpec) (incrementOf .sveIntDotSpec) s := (rfl)
theorem execRule_aseSveIntDotSpec (s : State) :
    exec .aseSveIntDotSpec s = countEvent .aseSveIntDotSpec (attributionOf .aseSveIntDotSpec) (occOf .aseSveIntDotSpec) (incrementOf .aseSveIntDotSpec) s := (rfl)
theorem execRule_aseIntMmlaSpec (s : State) :
    exec .aseIntMmlaSpec s = countEvent .aseIntMmlaSpec (attributionOf .aseIntMmlaSpec) (occOf .aseIntMmlaSpec) (incrementOf .aseIntMmlaSpec) s := (rfl)
theorem execRule_sveIntMmlaSpec (s : State) :
    exec .sveIntMmlaSpec s = countEvent .sveIntMmlaSpec (attributionOf .sveIntMmlaSpec) (occOf .sveIntMmlaSpec) (incrementOf .sveIntMmlaSpec) s := (rfl)
theorem execRule_aseSveIntMmlaSpec (s : State) :
    exec .aseSveIntMmlaSpec s = countEvent .aseSveIntMmlaSpec (attributionOf .aseSveIntMmlaSpec) (occOf .aseSveIntMmlaSpec) (incrementOf .aseSveIntMmlaSpec) s := (rfl)
theorem execRule_brImmedPredRetired (s : State) :
    exec .brImmedPredRetired s = countEvent .brImmedPredRetired (attributionOf .brImmedPredRetired) (occOf .brImmedPredRetired) (incrementOf .brImmedPredRetired) s := (rfl)
theorem execRule_brImmedMisPredRetired (s : State) :
    exec .brImmedMisPredRetired s = countEvent .brImmedMisPredRetired (attributionOf .brImmedMisPredRetired) (occOf .brImmedMisPredRetired) (incrementOf .brImmedMisPredRetired) s := (rfl)
theorem execRule_brIndPredRetired (s : State) :
    exec .brIndPredRetired s = countEvent .brIndPredRetired (attributionOf .brIndPredRetired) (occOf .brIndPredRetired) (incrementOf .brIndPredRetired) s := (rfl)
theorem execRule_brIndMisPredRetired (s : State) :
    exec .brIndMisPredRetired s = countEvent .brIndMisPredRetired (attributionOf .brIndMisPredRetired) (occOf .brIndMisPredRetired) (incrementOf .brIndMisPredRetired) s := (rfl)
theorem execRule_brReturnPredRetired (s : State) :
    exec .brReturnPredRetired s = countEvent .brReturnPredRetired (attributionOf .brReturnPredRetired) (occOf .brReturnPredRetired) (incrementOf .brReturnPredRetired) s := (rfl)
theorem execRule_brReturnMisPredRetired (s : State) :
    exec .brReturnMisPredRetired s = countEvent .brReturnMisPredRetired (attributionOf .brReturnMisPredRetired) (occOf .brReturnMisPredRetired) (incrementOf .brReturnMisPredRetired) s := (rfl)
theorem execRule_brIndnrPredRetired (s : State) :
    exec .brIndnrPredRetired s = countEvent .brIndnrPredRetired (attributionOf .brIndnrPredRetired) (occOf .brIndnrPredRetired) (incrementOf .brIndnrPredRetired) s := (rfl)
theorem execRule_brIndnrMisPredRetired (s : State) :
    exec .brIndnrMisPredRetired s = countEvent .brIndnrMisPredRetired (attributionOf .brIndnrMisPredRetired) (occOf .brIndnrMisPredRetired) (incrementOf .brIndnrMisPredRetired) s := (rfl)
theorem execRule_brTakenPredRetired (s : State) :
    exec .brTakenPredRetired s = countEvent .brTakenPredRetired (attributionOf .brTakenPredRetired) (occOf .brTakenPredRetired) (incrementOf .brTakenPredRetired) s := (rfl)
theorem execRule_brTakenMisPredRetired (s : State) :
    exec .brTakenMisPredRetired s = countEvent .brTakenMisPredRetired (attributionOf .brTakenMisPredRetired) (occOf .brTakenMisPredRetired) (incrementOf .brTakenMisPredRetired) s := (rfl)
theorem execRule_brSkipPredRetired (s : State) :
    exec .brSkipPredRetired s = countEvent .brSkipPredRetired (attributionOf .brSkipPredRetired) (occOf .brSkipPredRetired) (incrementOf .brSkipPredRetired) s := (rfl)
theorem execRule_brSkipMisPredRetired (s : State) :
    exec .brSkipMisPredRetired s = countEvent .brSkipMisPredRetired (attributionOf .brSkipMisPredRetired) (occOf .brSkipMisPredRetired) (incrementOf .brSkipMisPredRetired) s := (rfl)
theorem execRule_brPredRetired (s : State) :
    exec .brPredRetired s = countEvent .brPredRetired (attributionOf .brPredRetired) (occOf .brPredRetired) (incrementOf .brPredRetired) s := (rfl)
theorem execRule_instFetchPercyc (s : State) :
    exec .instFetchPercyc s = countEvent .instFetchPercyc (attributionOf .instFetchPercyc) (occOf .instFetchPercyc) (incrementOf .instFetchPercyc) s := (rfl)
theorem execRule_memAccessRdPercyc (s : State) :
    exec .memAccessRdPercyc s = countEvent .memAccessRdPercyc (attributionOf .memAccessRdPercyc) (occOf .memAccessRdPercyc) (incrementOf .memAccessRdPercyc) s := (rfl)
theorem execRule_sampleFeedDs (s : State) :
    exec .sampleFeedDs s = countEvent .sampleFeedDs (attributionOf .sampleFeedDs) (occOf .sampleFeedDs) (incrementOf .sampleFeedDs) s := (rfl)
theorem execRule_sampleBufferFull (s : State) :
    exec .sampleBufferFull s = countEvent .sampleBufferFull (attributionOf .sampleBufferFull) (occOf .sampleBufferFull) (incrementOf .sampleBufferFull) s := (rfl)
theorem execRule_instFetch (s : State) :
    exec .instFetch s = countEvent .instFetch (attributionOf .instFetch) (occOf .instFetch) (incrementOf .instFetch) s := (rfl)
theorem execRule_busReqRdPercyc (s : State) :
    exec .busReqRdPercyc s = countEvent .busReqRdPercyc (attributionOf .busReqRdPercyc) (occOf .busReqRdPercyc) (incrementOf .busReqRdPercyc) s := (rfl)
theorem execRule_busReqWrPercyc (s : State) :
    exec .busReqWrPercyc s = countEvent .busReqWrPercyc (attributionOf .busReqWrPercyc) (occOf .busReqWrPercyc) (incrementOf .busReqWrPercyc) s := (rfl)
theorem execRule_pmuSnapshot (s : State) :
    exec .pmuSnapshot s = countEvent .pmuSnapshot (attributionOf .pmuSnapshot) (occOf .pmuSnapshot) (incrementOf .pmuSnapshot) s := (rfl)
theorem execRule_dtlbWalkPercyc (s : State) :
    exec .dtlbWalkPercyc s = countEvent .dtlbWalkPercyc (attributionOf .dtlbWalkPercyc) (occOf .dtlbWalkPercyc) (incrementOf .dtlbWalkPercyc) s := (rfl)
theorem execRule_itlbWalkPercyc (s : State) :
    exec .itlbWalkPercyc s = countEvent .itlbWalkPercyc (attributionOf .itlbWalkPercyc) (occOf .itlbWalkPercyc) (incrementOf .itlbWalkPercyc) s := (rfl)
theorem execRule_sampleFeedBr (s : State) :
    exec .sampleFeedBr s = countEvent .sampleFeedBr (attributionOf .sampleFeedBr) (occOf .sampleFeedBr) (incrementOf .sampleFeedBr) s := (rfl)
theorem execRule_sampleFeedLd (s : State) :
    exec .sampleFeedLd s = countEvent .sampleFeedLd (attributionOf .sampleFeedLd) (occOf .sampleFeedLd) (incrementOf .sampleFeedLd) s := (rfl)
theorem execRule_sampleFeedSt (s : State) :
    exec .sampleFeedSt s = countEvent .sampleFeedSt (attributionOf .sampleFeedSt) (occOf .sampleFeedSt) (incrementOf .sampleFeedSt) s := (rfl)
theorem execRule_sampleFeedOp (s : State) :
    exec .sampleFeedOp s = countEvent .sampleFeedOp (attributionOf .sampleFeedOp) (occOf .sampleFeedOp) (incrementOf .sampleFeedOp) s := (rfl)
theorem execRule_sampleFeedEvent (s : State) :
    exec .sampleFeedEvent s = countEvent .sampleFeedEvent (attributionOf .sampleFeedEvent) (occOf .sampleFeedEvent) (incrementOf .sampleFeedEvent) s := (rfl)
theorem execRule_sampleFeedLat (s : State) :
    exec .sampleFeedLat s = countEvent .sampleFeedLat (attributionOf .sampleFeedLat) (occOf .sampleFeedLat) (incrementOf .sampleFeedLat) s := (rfl)
theorem execRule_l1dTlbRw (s : State) :
    exec .l1dTlbRw s = countEvent .l1dTlbRw (attributionOf .l1dTlbRw) (occOf .l1dTlbRw) (incrementOf .l1dTlbRw) s := (rfl)
theorem execRule_l1iTlbRd (s : State) :
    exec .l1iTlbRd s = countEvent .l1iTlbRd (attributionOf .l1iTlbRd) (occOf .l1iTlbRd) (incrementOf .l1iTlbRd) s := (rfl)
theorem execRule_l1dTlbPrfm (s : State) :
    exec .l1dTlbPrfm s = countEvent .l1dTlbPrfm (attributionOf .l1dTlbPrfm) (occOf .l1dTlbPrfm) (incrementOf .l1dTlbPrfm) s := (rfl)
theorem execRule_l1iTlbPrfm (s : State) :
    exec .l1iTlbPrfm s = countEvent .l1iTlbPrfm (attributionOf .l1iTlbPrfm) (occOf .l1iTlbPrfm) (incrementOf .l1iTlbPrfm) s := (rfl)
theorem execRule_dtlbHwupd (s : State) :
    exec .dtlbHwupd s = countEvent .dtlbHwupd (attributionOf .dtlbHwupd) (occOf .dtlbHwupd) (incrementOf .dtlbHwupd) s := (rfl)
theorem execRule_itlbHwupd (s : State) :
    exec .itlbHwupd s = countEvent .itlbHwupd (attributionOf .itlbHwupd) (occOf .itlbHwupd) (incrementOf .itlbHwupd) s := (rfl)
theorem execRule_dtlbStep (s : State) :
    exec .dtlbStep s = countEvent .dtlbStep (attributionOf .dtlbStep) (occOf .dtlbStep) (incrementOf .dtlbStep) s := (rfl)
theorem execRule_itlbStep (s : State) :
    exec .itlbStep s = countEvent .itlbStep (attributionOf .itlbStep) (occOf .itlbStep) (incrementOf .itlbStep) s := (rfl)
theorem execRule_dtlbWalkLarge (s : State) :
    exec .dtlbWalkLarge s = countEvent .dtlbWalkLarge (attributionOf .dtlbWalkLarge) (occOf .dtlbWalkLarge) (incrementOf .dtlbWalkLarge) s := (rfl)
theorem execRule_itlbWalkLarge (s : State) :
    exec .itlbWalkLarge s = countEvent .itlbWalkLarge (attributionOf .itlbWalkLarge) (occOf .itlbWalkLarge) (incrementOf .itlbWalkLarge) s := (rfl)
theorem execRule_dtlbWalkSmall (s : State) :
    exec .dtlbWalkSmall s = countEvent .dtlbWalkSmall (attributionOf .dtlbWalkSmall) (occOf .dtlbWalkSmall) (incrementOf .dtlbWalkSmall) s := (rfl)
theorem execRule_itlbWalkSmall (s : State) :
    exec .itlbWalkSmall s = countEvent .itlbWalkSmall (attributionOf .itlbWalkSmall) (occOf .itlbWalkSmall) (incrementOf .itlbWalkSmall) s := (rfl)
theorem execRule_dtlbWalkRw (s : State) :
    exec .dtlbWalkRw s = countEvent .dtlbWalkRw (attributionOf .dtlbWalkRw) (occOf .dtlbWalkRw) (incrementOf .dtlbWalkRw) s := (rfl)
theorem execRule_itlbWalkRd (s : State) :
    exec .itlbWalkRd s = countEvent .itlbWalkRd (attributionOf .itlbWalkRd) (occOf .itlbWalkRd) (incrementOf .itlbWalkRd) s := (rfl)
theorem execRule_dtlbWalkPrfm (s : State) :
    exec .dtlbWalkPrfm s = countEvent .dtlbWalkPrfm (attributionOf .dtlbWalkPrfm) (occOf .dtlbWalkPrfm) (incrementOf .dtlbWalkPrfm) s := (rfl)
theorem execRule_itlbWalkPrfm (s : State) :
    exec .itlbWalkPrfm s = countEvent .itlbWalkPrfm (attributionOf .itlbWalkPrfm) (occOf .itlbWalkPrfm) (incrementOf .itlbWalkPrfm) s := (rfl)
theorem execRule_l1dCacheRw (s : State) :
    exec .l1dCacheRw s = countEvent .l1dCacheRw (attributionOf .l1dCacheRw) (occOf .l1dCacheRw) (incrementOf .l1dCacheRw) s := (rfl)
theorem execRule_l1iCacheRd (s : State) :
    exec .l1iCacheRd s = countEvent .l1iCacheRd (attributionOf .l1iCacheRd) (occOf .l1iCacheRd) (incrementOf .l1iCacheRd) s := (rfl)
theorem execRule_l1dCachePrfm (s : State) :
    exec .l1dCachePrfm s = countEvent .l1dCachePrfm (attributionOf .l1dCachePrfm) (occOf .l1dCachePrfm) (incrementOf .l1dCachePrfm) s := (rfl)
theorem execRule_l1iCachePrfm (s : State) :
    exec .l1iCachePrfm s = countEvent .l1iCachePrfm (attributionOf .l1iCachePrfm) (occOf .l1iCachePrfm) (incrementOf .l1iCachePrfm) s := (rfl)
theorem execRule_l1dCacheMiss (s : State) :
    exec .l1dCacheMiss s = countEvent .l1dCacheMiss (attributionOf .l1dCacheMiss) (occOf .l1dCacheMiss) (incrementOf .l1dCacheMiss) s := (rfl)
theorem execRule_l1iCacheHwprf (s : State) :
    exec .l1iCacheHwprf s = countEvent .l1iCacheHwprf (attributionOf .l1iCacheHwprf) (occOf .l1iCacheHwprf) (incrementOf .l1iCacheHwprf) s := (rfl)
theorem execRule_l1dCacheRefillPrfm (s : State) :
    exec .l1dCacheRefillPrfm s = countEvent .l1dCacheRefillPrfm (attributionOf .l1dCacheRefillPrfm) (occOf .l1dCacheRefillPrfm) (incrementOf .l1dCacheRefillPrfm) s := (rfl)
theorem execRule_l1iCacheRefillPrfm (s : State) :
    exec .l1iCacheRefillPrfm s = countEvent .l1iCacheRefillPrfm (attributionOf .l1iCacheRefillPrfm) (occOf .l1iCacheRefillPrfm) (incrementOf .l1iCacheRefillPrfm) s := (rfl)
theorem execRule_l2dCacheRw (s : State) :
    exec .l2dCacheRw s = countEvent .l2dCacheRw (attributionOf .l2dCacheRw) (occOf .l2dCacheRw) (incrementOf .l2dCacheRw) s := (rfl)
theorem execRule_l2iCacheRd (s : State) :
    exec .l2iCacheRd s = countEvent .l2iCacheRd (attributionOf .l2iCacheRd) (occOf .l2iCacheRd) (incrementOf .l2iCacheRd) s := (rfl)
theorem execRule_l2dCachePrfm (s : State) :
    exec .l2dCachePrfm s = countEvent .l2dCachePrfm (attributionOf .l2dCachePrfm) (occOf .l2dCachePrfm) (incrementOf .l2dCachePrfm) s := (rfl)
theorem execRule_l2iCachePrfm (s : State) :
    exec .l2iCachePrfm s = countEvent .l2iCachePrfm (attributionOf .l2iCachePrfm) (occOf .l2iCachePrfm) (incrementOf .l2iCachePrfm) s := (rfl)
theorem execRule_l2dCacheMiss (s : State) :
    exec .l2dCacheMiss s = countEvent .l2dCacheMiss (attributionOf .l2dCacheMiss) (occOf .l2dCacheMiss) (incrementOf .l2dCacheMiss) s := (rfl)
theorem execRule_l2iCacheHwprf (s : State) :
    exec .l2iCacheHwprf s = countEvent .l2iCacheHwprf (attributionOf .l2iCacheHwprf) (occOf .l2iCacheHwprf) (incrementOf .l2iCacheHwprf) s := (rfl)
theorem execRule_l2dCacheRefillPrfm (s : State) :
    exec .l2dCacheRefillPrfm s = countEvent .l2dCacheRefillPrfm (attributionOf .l2dCacheRefillPrfm) (occOf .l2dCacheRefillPrfm) (incrementOf .l2dCacheRefillPrfm) s := (rfl)
theorem execRule_l2iCacheRefillPrfm (s : State) :
    exec .l2iCacheRefillPrfm s = countEvent .l2iCacheRefillPrfm (attributionOf .l2iCacheRefillPrfm) (occOf .l2iCacheRefillPrfm) (incrementOf .l2iCacheRefillPrfm) s := (rfl)
theorem execRule_l3dCacheRw (s : State) :
    exec .l3dCacheRw s = countEvent .l3dCacheRw (attributionOf .l3dCacheRw) (occOf .l3dCacheRw) (incrementOf .l3dCacheRw) s := (rfl)
theorem execRule_l3dCachePrfm (s : State) :
    exec .l3dCachePrfm s = countEvent .l3dCachePrfm (attributionOf .l3dCachePrfm) (occOf .l3dCachePrfm) (incrementOf .l3dCachePrfm) s := (rfl)
theorem execRule_l3dCacheMiss (s : State) :
    exec .l3dCacheMiss s = countEvent .l3dCacheMiss (attributionOf .l3dCacheMiss) (occOf .l3dCacheMiss) (incrementOf .l3dCacheMiss) s := (rfl)
theorem execRule_l3dCacheRefillPrfm (s : State) :
    exec .l3dCacheRefillPrfm s = countEvent .l3dCacheRefillPrfm (attributionOf .l3dCacheRefillPrfm) (occOf .l3dCacheRefillPrfm) (incrementOf .l3dCacheRefillPrfm) s := (rfl)
theorem execRule_l1dCacheHwprf (s : State) :
    exec .l1dCacheHwprf s = countEvent .l1dCacheHwprf (attributionOf .l1dCacheHwprf) (occOf .l1dCacheHwprf) (incrementOf .l1dCacheHwprf) s := (rfl)
theorem execRule_l2dCacheHwprf (s : State) :
    exec .l2dCacheHwprf s = countEvent .l2dCacheHwprf (attributionOf .l2dCacheHwprf) (occOf .l2dCacheHwprf) (incrementOf .l2dCacheHwprf) s := (rfl)
theorem execRule_l3dCacheHwprf (s : State) :
    exec .l3dCacheHwprf s = countEvent .l3dCacheHwprf (attributionOf .l3dCacheHwprf) (occOf .l3dCacheHwprf) (incrementOf .l3dCacheHwprf) s := (rfl)
theorem execRule_llCacheHwprf (s : State) :
    exec .llCacheHwprf s = countEvent .llCacheHwprf (attributionOf .llCacheHwprf) (occOf .llCacheHwprf) (incrementOf .llCacheHwprf) s := (rfl)
theorem execRule_stallFrontendMembound (s : State) :
    exec .stallFrontendMembound s = countEvent .stallFrontendMembound (attributionOf .stallFrontendMembound) (occOf .stallFrontendMembound) (incrementOf .stallFrontendMembound) s := (rfl)
theorem execRule_stallFrontendL1i (s : State) :
    exec .stallFrontendL1i s = countEvent .stallFrontendL1i (attributionOf .stallFrontendL1i) (occOf .stallFrontendL1i) (incrementOf .stallFrontendL1i) s := (rfl)
theorem execRule_stallFrontendL2i (s : State) :
    exec .stallFrontendL2i s = countEvent .stallFrontendL2i (attributionOf .stallFrontendL2i) (occOf .stallFrontendL2i) (incrementOf .stallFrontendL2i) s := (rfl)
theorem execRule_stallFrontendMem (s : State) :
    exec .stallFrontendMem s = countEvent .stallFrontendMem (attributionOf .stallFrontendMem) (occOf .stallFrontendMem) (incrementOf .stallFrontendMem) s := (rfl)
theorem execRule_stallFrontendTlb (s : State) :
    exec .stallFrontendTlb s = countEvent .stallFrontendTlb (attributionOf .stallFrontendTlb) (occOf .stallFrontendTlb) (incrementOf .stallFrontendTlb) s := (rfl)
theorem execRule_stallBackendBusySmcu (s : State) :
    exec .stallBackendBusySmcu s = countEvent .stallBackendBusySmcu (attributionOf .stallBackendBusySmcu) (occOf .stallBackendBusySmcu) (incrementOf .stallBackendBusySmcu) s := (rfl)
theorem execRule_stallBackendBusySmcuUnall (s : State) :
    exec .stallBackendBusySmcuUnall s = countEvent .stallBackendBusySmcuUnall (attributionOf .stallBackendBusySmcuUnall) (occOf .stallBackendBusySmcuUnall) (incrementOf .stallBackendBusySmcuUnall) s := (rfl)
theorem execRule_stallFrontendCpubound (s : State) :
    exec .stallFrontendCpubound s = countEvent .stallFrontendCpubound (attributionOf .stallFrontendCpubound) (occOf .stallFrontendCpubound) (incrementOf .stallFrontendCpubound) s := (rfl)
theorem execRule_stallFrontendFlow (s : State) :
    exec .stallFrontendFlow s = countEvent .stallFrontendFlow (attributionOf .stallFrontendFlow) (occOf .stallFrontendFlow) (incrementOf .stallFrontendFlow) s := (rfl)
theorem execRule_stallFrontendFlush (s : State) :
    exec .stallFrontendFlush s = countEvent .stallFrontendFlush (attributionOf .stallFrontendFlush) (occOf .stallFrontendFlush) (incrementOf .stallFrontendFlush) s := (rfl)
theorem execRule_stallFrontendRename (s : State) :
    exec .stallFrontendRename s = countEvent .stallFrontendRename (attributionOf .stallFrontendRename) (occOf .stallFrontendRename) (incrementOf .stallFrontendRename) s := (rfl)
theorem execRule_stallBackendMembound (s : State) :
    exec .stallBackendMembound s = countEvent .stallBackendMembound (attributionOf .stallBackendMembound) (occOf .stallBackendMembound) (incrementOf .stallBackendMembound) s := (rfl)
theorem execRule_stallBackendL1d (s : State) :
    exec .stallBackendL1d s = countEvent .stallBackendL1d (attributionOf .stallBackendL1d) (occOf .stallBackendL1d) (incrementOf .stallBackendL1d) s := (rfl)
theorem execRule_stallBackendL2d (s : State) :
    exec .stallBackendL2d s = countEvent .stallBackendL2d (attributionOf .stallBackendL2d) (occOf .stallBackendL2d) (incrementOf .stallBackendL2d) s := (rfl)
theorem execRule_stallBackendTlb (s : State) :
    exec .stallBackendTlb s = countEvent .stallBackendTlb (attributionOf .stallBackendTlb) (occOf .stallBackendTlb) (incrementOf .stallBackendTlb) s := (rfl)
theorem execRule_stallBackendSt (s : State) :
    exec .stallBackendSt s = countEvent .stallBackendSt (attributionOf .stallBackendSt) (occOf .stallBackendSt) (incrementOf .stallBackendSt) s := (rfl)
theorem execRule_stallBackendCpubound (s : State) :
    exec .stallBackendCpubound s = countEvent .stallBackendCpubound (attributionOf .stallBackendCpubound) (occOf .stallBackendCpubound) (incrementOf .stallBackendCpubound) s := (rfl)
theorem execRule_stallBackendBusy (s : State) :
    exec .stallBackendBusy s = countEvent .stallBackendBusy (attributionOf .stallBackendBusy) (occOf .stallBackendBusy) (incrementOf .stallBackendBusy) s := (rfl)
theorem execRule_stallBackendIlock (s : State) :
    exec .stallBackendIlock s = countEvent .stallBackendIlock (attributionOf .stallBackendIlock) (occOf .stallBackendIlock) (incrementOf .stallBackendIlock) s := (rfl)
theorem execRule_stallBackendRename (s : State) :
    exec .stallBackendRename s = countEvent .stallBackendRename (attributionOf .stallBackendRename) (occOf .stallBackendRename) (incrementOf .stallBackendRename) s := (rfl)
theorem execRule_stallBackendAtomic (s : State) :
    exec .stallBackendAtomic s = countEvent .stallBackendAtomic (attributionOf .stallBackendAtomic) (occOf .stallBackendAtomic) (incrementOf .stallBackendAtomic) s := (rfl)
theorem execRule_stallBackendMemcpyset (s : State) :
    exec .stallBackendMemcpyset s = countEvent .stallBackendMemcpyset (attributionOf .stallBackendMemcpyset) (occOf .stallBackendMemcpyset) (incrementOf .stallBackendMemcpyset) s := (rfl)
theorem execRule_casNearFail (s : State) :
    exec .casNearFail s = countEvent .casNearFail (attributionOf .casNearFail) (occOf .casNearFail) (incrementOf .casNearFail) s := (rfl)
theorem execRule_casNearPass (s : State) :
    exec .casNearPass s = countEvent .casNearPass (attributionOf .casNearPass) (occOf .casNearPass) (incrementOf .casNearPass) s := (rfl)
theorem execRule_casNearSpec (s : State) :
    exec .casNearSpec s = countEvent .casNearSpec (attributionOf .casNearSpec) (occOf .casNearSpec) (incrementOf .casNearSpec) s := (rfl)
theorem execRule_casFarSpec (s : State) :
    exec .casFarSpec s = countEvent .casFarSpec (attributionOf .casFarSpec) (occOf .casFarSpec) (incrementOf .casFarSpec) s := (rfl)
theorem execRule_casSpec (s : State) :
    exec .casSpec s = countEvent .casSpec (attributionOf .casSpec) (occOf .casSpec) (incrementOf .casSpec) s := (rfl)
theorem execRule_lseLdSpec (s : State) :
    exec .lseLdSpec s = countEvent .lseLdSpec (attributionOf .lseLdSpec) (occOf .lseLdSpec) (incrementOf .lseLdSpec) s := (rfl)
theorem execRule_lseStSpec (s : State) :
    exec .lseStSpec s = countEvent .lseStSpec (attributionOf .lseStSpec) (occOf .lseStSpec) (incrementOf .lseStSpec) s := (rfl)
theorem execRule_lseLdstSpec (s : State) :
    exec .lseLdstSpec s = countEvent .lseLdstSpec (attributionOf .lseLdstSpec) (occOf .lseLdstSpec) (incrementOf .lseLdstSpec) s := (rfl)
theorem execRule_remoteAccessWr (s : State) :
    exec .remoteAccessWr s = countEvent .remoteAccessWr (attributionOf .remoteAccessWr) (occOf .remoteAccessWr) (incrementOf .remoteAccessWr) s := (rfl)
theorem execRule_brHintCondPredRetired (s : State) :
    exec .brHintCondPredRetired s = countEvent .brHintCondPredRetired (attributionOf .brHintCondPredRetired) (occOf .brHintCondPredRetired) (incrementOf .brHintCondPredRetired) s := (rfl)
theorem execRule_brHintCondMisPredRetired (s : State) :
    exec .brHintCondMisPredRetired s = countEvent .brHintCondMisPredRetired (attributionOf .brHintCondMisPredRetired) (occOf .brHintCondMisPredRetired) (incrementOf .brHintCondMisPredRetired) s := (rfl)
theorem execRule_uopRetired (s : State) :
    exec .uopRetired s = countEvent .uopRetired (attributionOf .uopRetired) (occOf .uopRetired) (incrementOf .uopRetired) s := (rfl)
theorem execRule_dtlbWalkBlock (s : State) :
    exec .dtlbWalkBlock s = countEvent .dtlbWalkBlock (attributionOf .dtlbWalkBlock) (occOf .dtlbWalkBlock) (incrementOf .dtlbWalkBlock) s := (rfl)
theorem execRule_itlbWalkBlock (s : State) :
    exec .itlbWalkBlock s = countEvent .itlbWalkBlock (attributionOf .itlbWalkBlock) (occOf .itlbWalkBlock) (incrementOf .itlbWalkBlock) s := (rfl)
theorem execRule_dtlbWalkPage (s : State) :
    exec .dtlbWalkPage s = countEvent .dtlbWalkPage (attributionOf .dtlbWalkPage) (occOf .dtlbWalkPage) (incrementOf .dtlbWalkPage) s := (rfl)
theorem execRule_itlbWalkPage (s : State) :
    exec .itlbWalkPage s = countEvent .itlbWalkPage (attributionOf .itlbWalkPage) (occOf .itlbWalkPage) (incrementOf .itlbWalkPage) s := (rfl)
theorem execRule_busReqRd (s : State) :
    exec .busReqRd s = countEvent .busReqRd (attributionOf .busReqRd) (occOf .busReqRd) (incrementOf .busReqRd) s := (rfl)
theorem execRule_busReqWr (s : State) :
    exec .busReqWr s = countEvent .busReqWr (attributionOf .busReqWr) (occOf .busReqWr) (incrementOf .busReqWr) s := (rfl)
theorem execRule_busReq (s : State) :
    exec .busReq s = countEvent .busReq (attributionOf .busReq) (occOf .busReq) (incrementOf .busReq) s := (rfl)
theorem execRule_isnpHitRd (s : State) :
    exec .isnpHitRd s = countEvent .isnpHitRd (attributionOf .isnpHitRd) (occOf .isnpHitRd) (incrementOf .isnpHitRd) s := (rfl)
theorem execRule_isnpHitNearRd (s : State) :
    exec .isnpHitNearRd s = countEvent .isnpHitNearRd (attributionOf .isnpHitNearRd) (occOf .isnpHitNearRd) (incrementOf .isnpHitNearRd) s := (rfl)
theorem execRule_isnpHitFarRd (s : State) :
    exec .isnpHitFarRd s = countEvent .isnpHitFarRd (attributionOf .isnpHitFarRd) (occOf .isnpHitFarRd) (incrementOf .isnpHitFarRd) s := (rfl)
theorem execRule_isnpHitRemoteRd (s : State) :
    exec .isnpHitRemoteRd s = countEvent .isnpHitRemoteRd (attributionOf .isnpHitRemoteRd) (occOf .isnpHitRemoteRd) (incrementOf .isnpHitRemoteRd) s := (rfl)
theorem execRule_dsnpHitRd (s : State) :
    exec .dsnpHitRd s = countEvent .dsnpHitRd (attributionOf .dsnpHitRd) (occOf .dsnpHitRd) (incrementOf .dsnpHitRd) s := (rfl)
theorem execRule_dsnpHitNearRd (s : State) :
    exec .dsnpHitNearRd s = countEvent .dsnpHitNearRd (attributionOf .dsnpHitNearRd) (occOf .dsnpHitNearRd) (incrementOf .dsnpHitNearRd) s := (rfl)
theorem execRule_dsnpHitFarRd (s : State) :
    exec .dsnpHitFarRd s = countEvent .dsnpHitFarRd (attributionOf .dsnpHitFarRd) (occOf .dsnpHitFarRd) (incrementOf .dsnpHitFarRd) s := (rfl)
theorem execRule_dsnpHitRemoteRd (s : State) :
    exec .dsnpHitRemoteRd s = countEvent .dsnpHitRemoteRd (attributionOf .dsnpHitRemoteRd) (occOf .dsnpHitRemoteRd) (incrementOf .dsnpHitRemoteRd) s := (rfl)
theorem execRule_dsnpHitWr (s : State) :
    exec .dsnpHitWr s = countEvent .dsnpHitWr (attributionOf .dsnpHitWr) (occOf .dsnpHitWr) (incrementOf .dsnpHitWr) s := (rfl)
theorem execRule_dsnpHitNearWr (s : State) :
    exec .dsnpHitNearWr s = countEvent .dsnpHitNearWr (attributionOf .dsnpHitNearWr) (occOf .dsnpHitNearWr) (incrementOf .dsnpHitNearWr) s := (rfl)
theorem execRule_dsnpHitFarWr (s : State) :
    exec .dsnpHitFarWr s = countEvent .dsnpHitFarWr (attributionOf .dsnpHitFarWr) (occOf .dsnpHitFarWr) (incrementOf .dsnpHitFarWr) s := (rfl)
theorem execRule_dsnpHitRemoteWr (s : State) :
    exec .dsnpHitRemoteWr s = countEvent .dsnpHitRemoteWr (attributionOf .dsnpHitRemoteWr) (occOf .dsnpHitRemoteWr) (incrementOf .dsnpHitRemoteWr) s := (rfl)
theorem execRule_dsnpHitRw (s : State) :
    exec .dsnpHitRw s = countEvent .dsnpHitRw (attributionOf .dsnpHitRw) (occOf .dsnpHitRw) (incrementOf .dsnpHitRw) s := (rfl)
theorem execRule_dsnpHitNearRw (s : State) :
    exec .dsnpHitNearRw s = countEvent .dsnpHitNearRw (attributionOf .dsnpHitNearRw) (occOf .dsnpHitNearRw) (incrementOf .dsnpHitNearRw) s := (rfl)
theorem execRule_dsnpHitFarRw (s : State) :
    exec .dsnpHitFarRw s = countEvent .dsnpHitFarRw (attributionOf .dsnpHitFarRw) (occOf .dsnpHitFarRw) (incrementOf .dsnpHitFarRw) s := (rfl)
theorem execRule_dsnpHitRemoteRw (s : State) :
    exec .dsnpHitRemoteRw s = countEvent .dsnpHitRemoteRw (attributionOf .dsnpHitRemoteRw) (occOf .dsnpHitRemoteRw) (incrementOf .dsnpHitRemoteRw) s := (rfl)
theorem execRule_dsnpHitPrfm (s : State) :
    exec .dsnpHitPrfm s = countEvent .dsnpHitPrfm (attributionOf .dsnpHitPrfm) (occOf .dsnpHitPrfm) (incrementOf .dsnpHitPrfm) s := (rfl)
theorem execRule_dsnpHitNearPrfm (s : State) :
    exec .dsnpHitNearPrfm s = countEvent .dsnpHitNearPrfm (attributionOf .dsnpHitNearPrfm) (occOf .dsnpHitNearPrfm) (incrementOf .dsnpHitNearPrfm) s := (rfl)
theorem execRule_dsnpHitFarPrfm (s : State) :
    exec .dsnpHitFarPrfm s = countEvent .dsnpHitFarPrfm (attributionOf .dsnpHitFarPrfm) (occOf .dsnpHitFarPrfm) (incrementOf .dsnpHitFarPrfm) s := (rfl)
theorem execRule_dsnpHitRemotePrfm (s : State) :
    exec .dsnpHitRemotePrfm s = countEvent .dsnpHitRemotePrfm (attributionOf .dsnpHitRemotePrfm) (occOf .dsnpHitRemotePrfm) (incrementOf .dsnpHitRemotePrfm) s := (rfl)
theorem execRule_dsnpHitHwprf (s : State) :
    exec .dsnpHitHwprf s = countEvent .dsnpHitHwprf (attributionOf .dsnpHitHwprf) (occOf .dsnpHitHwprf) (incrementOf .dsnpHitHwprf) s := (rfl)
theorem execRule_dsnpHitNearHwprf (s : State) :
    exec .dsnpHitNearHwprf s = countEvent .dsnpHitNearHwprf (attributionOf .dsnpHitNearHwprf) (occOf .dsnpHitNearHwprf) (incrementOf .dsnpHitNearHwprf) s := (rfl)
theorem execRule_dsnpHitFarHwprf (s : State) :
    exec .dsnpHitFarHwprf s = countEvent .dsnpHitFarHwprf (attributionOf .dsnpHitFarHwprf) (occOf .dsnpHitFarHwprf) (incrementOf .dsnpHitFarHwprf) s := (rfl)
theorem execRule_dsnpHitRemoteHwprf (s : State) :
    exec .dsnpHitRemoteHwprf s = countEvent .dsnpHitRemoteHwprf (attributionOf .dsnpHitRemoteHwprf) (occOf .dsnpHitRemoteHwprf) (incrementOf .dsnpHitRemoteHwprf) s := (rfl)
theorem execRule_isnpHitPrfm (s : State) :
    exec .isnpHitPrfm s = countEvent .isnpHitPrfm (attributionOf .isnpHitPrfm) (occOf .isnpHitPrfm) (incrementOf .isnpHitPrfm) s := (rfl)
theorem execRule_isnpHitNearPrfm (s : State) :
    exec .isnpHitNearPrfm s = countEvent .isnpHitNearPrfm (attributionOf .isnpHitNearPrfm) (occOf .isnpHitNearPrfm) (incrementOf .isnpHitNearPrfm) s := (rfl)
theorem execRule_isnpHitFarPrfm (s : State) :
    exec .isnpHitFarPrfm s = countEvent .isnpHitFarPrfm (attributionOf .isnpHitFarPrfm) (occOf .isnpHitFarPrfm) (incrementOf .isnpHitFarPrfm) s := (rfl)
theorem execRule_isnpHitRemotePrfm (s : State) :
    exec .isnpHitRemotePrfm s = countEvent .isnpHitRemotePrfm (attributionOf .isnpHitRemotePrfm) (occOf .isnpHitRemotePrfm) (incrementOf .isnpHitRemotePrfm) s := (rfl)
theorem execRule_isnpHitHwprf (s : State) :
    exec .isnpHitHwprf s = countEvent .isnpHitHwprf (attributionOf .isnpHitHwprf) (occOf .isnpHitHwprf) (incrementOf .isnpHitHwprf) s := (rfl)
theorem execRule_isnpHitNearHwprf (s : State) :
    exec .isnpHitNearHwprf s = countEvent .isnpHitNearHwprf (attributionOf .isnpHitNearHwprf) (occOf .isnpHitNearHwprf) (incrementOf .isnpHitNearHwprf) s := (rfl)
theorem execRule_isnpHitFarHwprf (s : State) :
    exec .isnpHitFarHwprf s = countEvent .isnpHitFarHwprf (attributionOf .isnpHitFarHwprf) (occOf .isnpHitFarHwprf) (incrementOf .isnpHitFarHwprf) s := (rfl)
theorem execRule_isnpHitRemoteHwprf (s : State) :
    exec .isnpHitRemoteHwprf s = countEvent .isnpHitRemoteHwprf (attributionOf .isnpHitRemoteHwprf) (occOf .isnpHitRemoteHwprf) (incrementOf .isnpHitRemoteHwprf) s := (rfl)
theorem execRule_isnpHit (s : State) :
    exec .isnpHit s = countEvent .isnpHit (attributionOf .isnpHit) (occOf .isnpHit) (incrementOf .isnpHit) s := (rfl)
theorem execRule_isnpHitNear (s : State) :
    exec .isnpHitNear s = countEvent .isnpHitNear (attributionOf .isnpHitNear) (occOf .isnpHitNear) (incrementOf .isnpHitNear) s := (rfl)
theorem execRule_isnpHitFar (s : State) :
    exec .isnpHitFar s = countEvent .isnpHitFar (attributionOf .isnpHitFar) (occOf .isnpHitFar) (incrementOf .isnpHitFar) s := (rfl)
theorem execRule_isnpHitRemote (s : State) :
    exec .isnpHitRemote s = countEvent .isnpHitRemote (attributionOf .isnpHitRemote) (occOf .isnpHitRemote) (incrementOf .isnpHitRemote) s := (rfl)
theorem execRule_dsnpHit (s : State) :
    exec .dsnpHit s = countEvent .dsnpHit (attributionOf .dsnpHit) (occOf .dsnpHit) (incrementOf .dsnpHit) s := (rfl)
theorem execRule_dsnpHitNear (s : State) :
    exec .dsnpHitNear s = countEvent .dsnpHitNear (attributionOf .dsnpHitNear) (occOf .dsnpHitNear) (incrementOf .dsnpHitNear) s := (rfl)
theorem execRule_dsnpHitFar (s : State) :
    exec .dsnpHitFar s = countEvent .dsnpHitFar (attributionOf .dsnpHitFar) (occOf .dsnpHitFar) (incrementOf .dsnpHitFar) s := (rfl)
theorem execRule_dsnpHitRemote (s : State) :
    exec .dsnpHitRemote s = countEvent .dsnpHitRemote (attributionOf .dsnpHitRemote) (occOf .dsnpHitRemote) (incrementOf .dsnpHitRemote) s := (rfl)
theorem execRule_l1iCacheRefillHwprf (s : State) :
    exec .l1iCacheRefillHwprf s = countEvent .l1iCacheRefillHwprf (attributionOf .l1iCacheRefillHwprf) (occOf .l1iCacheRefillHwprf) (incrementOf .l1iCacheRefillHwprf) s := (rfl)
theorem execRule_l2iCacheRefillHwprf (s : State) :
    exec .l2iCacheRefillHwprf s = countEvent .l2iCacheRefillHwprf (attributionOf .l2iCacheRefillHwprf) (occOf .l2iCacheRefillHwprf) (incrementOf .l2iCacheRefillHwprf) s := (rfl)
theorem execRule_l1dCacheRefillHwprf (s : State) :
    exec .l1dCacheRefillHwprf s = countEvent .l1dCacheRefillHwprf (attributionOf .l1dCacheRefillHwprf) (occOf .l1dCacheRefillHwprf) (incrementOf .l1dCacheRefillHwprf) s := (rfl)
theorem execRule_l2dCacheRefillHwprf (s : State) :
    exec .l2dCacheRefillHwprf s = countEvent .l2dCacheRefillHwprf (attributionOf .l2dCacheRefillHwprf) (occOf .l2dCacheRefillHwprf) (incrementOf .l2dCacheRefillHwprf) s := (rfl)
theorem execRule_l3dCacheRefillHwprf (s : State) :
    exec .l3dCacheRefillHwprf s = countEvent .l3dCacheRefillHwprf (attributionOf .l3dCacheRefillHwprf) (occOf .l3dCacheRefillHwprf) (incrementOf .l3dCacheRefillHwprf) s := (rfl)
theorem execRule_llCacheRefillHwprf (s : State) :
    exec .llCacheRefillHwprf s = countEvent .llCacheRefillHwprf (attributionOf .llCacheRefillHwprf) (occOf .llCacheRefillHwprf) (incrementOf .llCacheRefillHwprf) s := (rfl)
theorem execRule_l1iCacheHitRd (s : State) :
    exec .l1iCacheHitRd s = countEvent .l1iCacheHitRd (attributionOf .l1iCacheHitRd) (occOf .l1iCacheHitRd) (incrementOf .l1iCacheHitRd) s := (rfl)
theorem execRule_l2iCacheHitRd (s : State) :
    exec .l2iCacheHitRd s = countEvent .l2iCacheHitRd (attributionOf .l2iCacheHitRd) (occOf .l2iCacheHitRd) (incrementOf .l2iCacheHitRd) s := (rfl)
theorem execRule_l1dCacheHitRd (s : State) :
    exec .l1dCacheHitRd s = countEvent .l1dCacheHitRd (attributionOf .l1dCacheHitRd) (occOf .l1dCacheHitRd) (incrementOf .l1dCacheHitRd) s := (rfl)
theorem execRule_l2dCacheHitRd (s : State) :
    exec .l2dCacheHitRd s = countEvent .l2dCacheHitRd (attributionOf .l2dCacheHitRd) (occOf .l2dCacheHitRd) (incrementOf .l2dCacheHitRd) s := (rfl)
theorem execRule_l3dCacheHitRd (s : State) :
    exec .l3dCacheHitRd s = countEvent .l3dCacheHitRd (attributionOf .l3dCacheHitRd) (occOf .l3dCacheHitRd) (incrementOf .l3dCacheHitRd) s := (rfl)
theorem execRule_llCacheHitRd (s : State) :
    exec .llCacheHitRd s = countEvent .llCacheHitRd (attributionOf .llCacheHitRd) (occOf .llCacheHitRd) (incrementOf .llCacheHitRd) s := (rfl)
theorem execRule_l1dCacheHitWr (s : State) :
    exec .l1dCacheHitWr s = countEvent .l1dCacheHitWr (attributionOf .l1dCacheHitWr) (occOf .l1dCacheHitWr) (incrementOf .l1dCacheHitWr) s := (rfl)
theorem execRule_l2dCacheHitWr (s : State) :
    exec .l2dCacheHitWr s = countEvent .l2dCacheHitWr (attributionOf .l2dCacheHitWr) (occOf .l2dCacheHitWr) (incrementOf .l2dCacheHitWr) s := (rfl)
theorem execRule_l3dCacheHitWr (s : State) :
    exec .l3dCacheHitWr s = countEvent .l3dCacheHitWr (attributionOf .l3dCacheHitWr) (occOf .l3dCacheHitWr) (incrementOf .l3dCacheHitWr) s := (rfl)
theorem execRule_llCacheHitWr (s : State) :
    exec .llCacheHitWr s = countEvent .llCacheHitWr (attributionOf .llCacheHitWr) (occOf .llCacheHitWr) (incrementOf .llCacheHitWr) s := (rfl)
theorem execRule_l1dCacheHitRw (s : State) :
    exec .l1dCacheHitRw s = countEvent .l1dCacheHitRw (attributionOf .l1dCacheHitRw) (occOf .l1dCacheHitRw) (incrementOf .l1dCacheHitRw) s := (rfl)
theorem execRule_l2dCacheHitRw (s : State) :
    exec .l2dCacheHitRw s = countEvent .l2dCacheHitRw (attributionOf .l2dCacheHitRw) (occOf .l2dCacheHitRw) (incrementOf .l2dCacheHitRw) s := (rfl)
theorem execRule_l3dCacheHitRw (s : State) :
    exec .l3dCacheHitRw s = countEvent .l3dCacheHitRw (attributionOf .l3dCacheHitRw) (occOf .l3dCacheHitRw) (incrementOf .l3dCacheHitRw) s := (rfl)
theorem execRule_llCacheHitRw (s : State) :
    exec .llCacheHitRw s = countEvent .llCacheHitRw (attributionOf .llCacheHitRw) (occOf .llCacheHitRw) (incrementOf .llCacheHitRw) s := (rfl)
theorem execRule_l1iCacheHitRdFprfm (s : State) :
    exec .l1iCacheHitRdFprfm s = countEvent .l1iCacheHitRdFprfm (attributionOf .l1iCacheHitRdFprfm) (occOf .l1iCacheHitRdFprfm) (incrementOf .l1iCacheHitRdFprfm) s := (rfl)
theorem execRule_l2iCacheHitRdFprfm (s : State) :
    exec .l2iCacheHitRdFprfm s = countEvent .l2iCacheHitRdFprfm (attributionOf .l2iCacheHitRdFprfm) (occOf .l2iCacheHitRdFprfm) (incrementOf .l2iCacheHitRdFprfm) s := (rfl)
theorem execRule_l1dCacheHitRdFprfm (s : State) :
    exec .l1dCacheHitRdFprfm s = countEvent .l1dCacheHitRdFprfm (attributionOf .l1dCacheHitRdFprfm) (occOf .l1dCacheHitRdFprfm) (incrementOf .l1dCacheHitRdFprfm) s := (rfl)
theorem execRule_l2dCacheHitRdFprfm (s : State) :
    exec .l2dCacheHitRdFprfm s = countEvent .l2dCacheHitRdFprfm (attributionOf .l2dCacheHitRdFprfm) (occOf .l2dCacheHitRdFprfm) (incrementOf .l2dCacheHitRdFprfm) s := (rfl)
theorem execRule_l3dCacheHitRdFprfm (s : State) :
    exec .l3dCacheHitRdFprfm s = countEvent .l3dCacheHitRdFprfm (attributionOf .l3dCacheHitRdFprfm) (occOf .l3dCacheHitRdFprfm) (incrementOf .l3dCacheHitRdFprfm) s := (rfl)
theorem execRule_llCacheHitRdFprfm (s : State) :
    exec .llCacheHitRdFprfm s = countEvent .llCacheHitRdFprfm (attributionOf .llCacheHitRdFprfm) (occOf .llCacheHitRdFprfm) (incrementOf .llCacheHitRdFprfm) s := (rfl)
theorem execRule_l1dCacheHitWrFprfm (s : State) :
    exec .l1dCacheHitWrFprfm s = countEvent .l1dCacheHitWrFprfm (attributionOf .l1dCacheHitWrFprfm) (occOf .l1dCacheHitWrFprfm) (incrementOf .l1dCacheHitWrFprfm) s := (rfl)
theorem execRule_l2dCacheHitWrFprfm (s : State) :
    exec .l2dCacheHitWrFprfm s = countEvent .l2dCacheHitWrFprfm (attributionOf .l2dCacheHitWrFprfm) (occOf .l2dCacheHitWrFprfm) (incrementOf .l2dCacheHitWrFprfm) s := (rfl)
theorem execRule_l3dCacheHitWrFprfm (s : State) :
    exec .l3dCacheHitWrFprfm s = countEvent .l3dCacheHitWrFprfm (attributionOf .l3dCacheHitWrFprfm) (occOf .l3dCacheHitWrFprfm) (incrementOf .l3dCacheHitWrFprfm) s := (rfl)
theorem execRule_llCacheHitWrFprfm (s : State) :
    exec .llCacheHitWrFprfm s = countEvent .llCacheHitWrFprfm (attributionOf .llCacheHitWrFprfm) (occOf .llCacheHitWrFprfm) (incrementOf .llCacheHitWrFprfm) s := (rfl)
theorem execRule_l1dCacheHitRwFprfm (s : State) :
    exec .l1dCacheHitRwFprfm s = countEvent .l1dCacheHitRwFprfm (attributionOf .l1dCacheHitRwFprfm) (occOf .l1dCacheHitRwFprfm) (incrementOf .l1dCacheHitRwFprfm) s := (rfl)
theorem execRule_l2dCacheHitRwFprfm (s : State) :
    exec .l2dCacheHitRwFprfm s = countEvent .l2dCacheHitRwFprfm (attributionOf .l2dCacheHitRwFprfm) (occOf .l2dCacheHitRwFprfm) (incrementOf .l2dCacheHitRwFprfm) s := (rfl)
theorem execRule_l3dCacheHitRwFprfm (s : State) :
    exec .l3dCacheHitRwFprfm s = countEvent .l3dCacheHitRwFprfm (attributionOf .l3dCacheHitRwFprfm) (occOf .l3dCacheHitRwFprfm) (incrementOf .l3dCacheHitRwFprfm) s := (rfl)
theorem execRule_llCacheHitRwFprfm (s : State) :
    exec .llCacheHitRwFprfm s = countEvent .llCacheHitRwFprfm (attributionOf .llCacheHitRwFprfm) (occOf .llCacheHitRwFprfm) (incrementOf .llCacheHitRwFprfm) s := (rfl)
theorem execRule_l1iCacheHitRdFhwprf (s : State) :
    exec .l1iCacheHitRdFhwprf s = countEvent .l1iCacheHitRdFhwprf (attributionOf .l1iCacheHitRdFhwprf) (occOf .l1iCacheHitRdFhwprf) (incrementOf .l1iCacheHitRdFhwprf) s := (rfl)
theorem execRule_l2iCacheHitRdFhwprf (s : State) :
    exec .l2iCacheHitRdFhwprf s = countEvent .l2iCacheHitRdFhwprf (attributionOf .l2iCacheHitRdFhwprf) (occOf .l2iCacheHitRdFhwprf) (incrementOf .l2iCacheHitRdFhwprf) s := (rfl)
theorem execRule_l1dCacheHitRdFhwprf (s : State) :
    exec .l1dCacheHitRdFhwprf s = countEvent .l1dCacheHitRdFhwprf (attributionOf .l1dCacheHitRdFhwprf) (occOf .l1dCacheHitRdFhwprf) (incrementOf .l1dCacheHitRdFhwprf) s := (rfl)
theorem execRule_l2dCacheHitRdFhwprf (s : State) :
    exec .l2dCacheHitRdFhwprf s = countEvent .l2dCacheHitRdFhwprf (attributionOf .l2dCacheHitRdFhwprf) (occOf .l2dCacheHitRdFhwprf) (incrementOf .l2dCacheHitRdFhwprf) s := (rfl)
theorem execRule_l3dCacheHitRdFhwprf (s : State) :
    exec .l3dCacheHitRdFhwprf s = countEvent .l3dCacheHitRdFhwprf (attributionOf .l3dCacheHitRdFhwprf) (occOf .l3dCacheHitRdFhwprf) (incrementOf .l3dCacheHitRdFhwprf) s := (rfl)
theorem execRule_llCacheHitRdFhwprf (s : State) :
    exec .llCacheHitRdFhwprf s = countEvent .llCacheHitRdFhwprf (attributionOf .llCacheHitRdFhwprf) (occOf .llCacheHitRdFhwprf) (incrementOf .llCacheHitRdFhwprf) s := (rfl)
theorem execRule_l1dCacheHitWrFhwprf (s : State) :
    exec .l1dCacheHitWrFhwprf s = countEvent .l1dCacheHitWrFhwprf (attributionOf .l1dCacheHitWrFhwprf) (occOf .l1dCacheHitWrFhwprf) (incrementOf .l1dCacheHitWrFhwprf) s := (rfl)
theorem execRule_l2dCacheHitWrFhwprf (s : State) :
    exec .l2dCacheHitWrFhwprf s = countEvent .l2dCacheHitWrFhwprf (attributionOf .l2dCacheHitWrFhwprf) (occOf .l2dCacheHitWrFhwprf) (incrementOf .l2dCacheHitWrFhwprf) s := (rfl)
theorem execRule_l3dCacheHitWrFhwprf (s : State) :
    exec .l3dCacheHitWrFhwprf s = countEvent .l3dCacheHitWrFhwprf (attributionOf .l3dCacheHitWrFhwprf) (occOf .l3dCacheHitWrFhwprf) (incrementOf .l3dCacheHitWrFhwprf) s := (rfl)
theorem execRule_llCacheHitWrFhwprf (s : State) :
    exec .llCacheHitWrFhwprf s = countEvent .llCacheHitWrFhwprf (attributionOf .llCacheHitWrFhwprf) (occOf .llCacheHitWrFhwprf) (incrementOf .llCacheHitWrFhwprf) s := (rfl)
theorem execRule_l1dCacheHitRwFhwprf (s : State) :
    exec .l1dCacheHitRwFhwprf s = countEvent .l1dCacheHitRwFhwprf (attributionOf .l1dCacheHitRwFhwprf) (occOf .l1dCacheHitRwFhwprf) (incrementOf .l1dCacheHitRwFhwprf) s := (rfl)
theorem execRule_l2dCacheHitRwFhwprf (s : State) :
    exec .l2dCacheHitRwFhwprf s = countEvent .l2dCacheHitRwFhwprf (attributionOf .l2dCacheHitRwFhwprf) (occOf .l2dCacheHitRwFhwprf) (incrementOf .l2dCacheHitRwFhwprf) s := (rfl)
theorem execRule_l3dCacheHitRwFhwprf (s : State) :
    exec .l3dCacheHitRwFhwprf s = countEvent .l3dCacheHitRwFhwprf (attributionOf .l3dCacheHitRwFhwprf) (occOf .l3dCacheHitRwFhwprf) (incrementOf .l3dCacheHitRwFhwprf) s := (rfl)
theorem execRule_llCacheHitRwFhwprf (s : State) :
    exec .llCacheHitRwFhwprf s = countEvent .llCacheHitRwFhwprf (attributionOf .llCacheHitRwFhwprf) (occOf .llCacheHitRwFhwprf) (incrementOf .llCacheHitRwFhwprf) s := (rfl)
theorem execRule_l1iCacheHitRdFprf (s : State) :
    exec .l1iCacheHitRdFprf s = countEvent .l1iCacheHitRdFprf (attributionOf .l1iCacheHitRdFprf) (occOf .l1iCacheHitRdFprf) (incrementOf .l1iCacheHitRdFprf) s := (rfl)
theorem execRule_l2iCacheHitRdFprf (s : State) :
    exec .l2iCacheHitRdFprf s = countEvent .l2iCacheHitRdFprf (attributionOf .l2iCacheHitRdFprf) (occOf .l2iCacheHitRdFprf) (incrementOf .l2iCacheHitRdFprf) s := (rfl)
theorem execRule_l1dCacheHitRdFprf (s : State) :
    exec .l1dCacheHitRdFprf s = countEvent .l1dCacheHitRdFprf (attributionOf .l1dCacheHitRdFprf) (occOf .l1dCacheHitRdFprf) (incrementOf .l1dCacheHitRdFprf) s := (rfl)
theorem execRule_l2dCacheHitRdFprf (s : State) :
    exec .l2dCacheHitRdFprf s = countEvent .l2dCacheHitRdFprf (attributionOf .l2dCacheHitRdFprf) (occOf .l2dCacheHitRdFprf) (incrementOf .l2dCacheHitRdFprf) s := (rfl)
theorem execRule_l3dCacheHitRdFprf (s : State) :
    exec .l3dCacheHitRdFprf s = countEvent .l3dCacheHitRdFprf (attributionOf .l3dCacheHitRdFprf) (occOf .l3dCacheHitRdFprf) (incrementOf .l3dCacheHitRdFprf) s := (rfl)
theorem execRule_llCacheHitRdFprf (s : State) :
    exec .llCacheHitRdFprf s = countEvent .llCacheHitRdFprf (attributionOf .llCacheHitRdFprf) (occOf .llCacheHitRdFprf) (incrementOf .llCacheHitRdFprf) s := (rfl)
theorem execRule_l1dCacheHitWrFprf (s : State) :
    exec .l1dCacheHitWrFprf s = countEvent .l1dCacheHitWrFprf (attributionOf .l1dCacheHitWrFprf) (occOf .l1dCacheHitWrFprf) (incrementOf .l1dCacheHitWrFprf) s := (rfl)
theorem execRule_l2dCacheHitWrFprf (s : State) :
    exec .l2dCacheHitWrFprf s = countEvent .l2dCacheHitWrFprf (attributionOf .l2dCacheHitWrFprf) (occOf .l2dCacheHitWrFprf) (incrementOf .l2dCacheHitWrFprf) s := (rfl)
theorem execRule_l3dCacheHitWrFprf (s : State) :
    exec .l3dCacheHitWrFprf s = countEvent .l3dCacheHitWrFprf (attributionOf .l3dCacheHitWrFprf) (occOf .l3dCacheHitWrFprf) (incrementOf .l3dCacheHitWrFprf) s := (rfl)
theorem execRule_llCacheHitWrFprf (s : State) :
    exec .llCacheHitWrFprf s = countEvent .llCacheHitWrFprf (attributionOf .llCacheHitWrFprf) (occOf .llCacheHitWrFprf) (incrementOf .llCacheHitWrFprf) s := (rfl)
theorem execRule_l1dCacheHitRwFprf (s : State) :
    exec .l1dCacheHitRwFprf s = countEvent .l1dCacheHitRwFprf (attributionOf .l1dCacheHitRwFprf) (occOf .l1dCacheHitRwFprf) (incrementOf .l1dCacheHitRwFprf) s := (rfl)
theorem execRule_l2dCacheHitRwFprf (s : State) :
    exec .l2dCacheHitRwFprf s = countEvent .l2dCacheHitRwFprf (attributionOf .l2dCacheHitRwFprf) (occOf .l2dCacheHitRwFprf) (incrementOf .l2dCacheHitRwFprf) s := (rfl)
theorem execRule_l3dCacheHitRwFprf (s : State) :
    exec .l3dCacheHitRwFprf s = countEvent .l3dCacheHitRwFprf (attributionOf .l3dCacheHitRwFprf) (occOf .l3dCacheHitRwFprf) (incrementOf .l3dCacheHitRwFprf) s := (rfl)
theorem execRule_llCacheHitRwFprf (s : State) :
    exec .llCacheHitRwFprf s = countEvent .llCacheHitRwFprf (attributionOf .llCacheHitRwFprf) (occOf .llCacheHitRwFprf) (incrementOf .llCacheHitRwFprf) s := (rfl)
theorem execRule_l1iCacheHit (s : State) :
    exec .l1iCacheHit s = countEvent .l1iCacheHit (attributionOf .l1iCacheHit) (occOf .l1iCacheHit) (incrementOf .l1iCacheHit) s := (rfl)
theorem execRule_l2iCacheHit (s : State) :
    exec .l2iCacheHit s = countEvent .l2iCacheHit (attributionOf .l2iCacheHit) (occOf .l2iCacheHit) (incrementOf .l2iCacheHit) s := (rfl)
theorem execRule_l1dCacheHit (s : State) :
    exec .l1dCacheHit s = countEvent .l1dCacheHit (attributionOf .l1dCacheHit) (occOf .l1dCacheHit) (incrementOf .l1dCacheHit) s := (rfl)
theorem execRule_l2dCacheHit (s : State) :
    exec .l2dCacheHit s = countEvent .l2dCacheHit (attributionOf .l2dCacheHit) (occOf .l2dCacheHit) (incrementOf .l2dCacheHit) s := (rfl)
theorem execRule_l3dCacheHit (s : State) :
    exec .l3dCacheHit s = countEvent .l3dCacheHit (attributionOf .l3dCacheHit) (occOf .l3dCacheHit) (incrementOf .l3dCacheHit) s := (rfl)
theorem execRule_llCacheHit (s : State) :
    exec .llCacheHit s = countEvent .llCacheHit (attributionOf .llCacheHit) (occOf .llCacheHit) (incrementOf .llCacheHit) s := (rfl)
theorem execRule_l1iCacheHitPrfm (s : State) :
    exec .l1iCacheHitPrfm s = countEvent .l1iCacheHitPrfm (attributionOf .l1iCacheHitPrfm) (occOf .l1iCacheHitPrfm) (incrementOf .l1iCacheHitPrfm) s := (rfl)
theorem execRule_l2iCacheHitPrfm (s : State) :
    exec .l2iCacheHitPrfm s = countEvent .l2iCacheHitPrfm (attributionOf .l2iCacheHitPrfm) (occOf .l2iCacheHitPrfm) (incrementOf .l2iCacheHitPrfm) s := (rfl)
theorem execRule_l1dCacheHitPrfm (s : State) :
    exec .l1dCacheHitPrfm s = countEvent .l1dCacheHitPrfm (attributionOf .l1dCacheHitPrfm) (occOf .l1dCacheHitPrfm) (incrementOf .l1dCacheHitPrfm) s := (rfl)
theorem execRule_l2dCacheHitPrfm (s : State) :
    exec .l2dCacheHitPrfm s = countEvent .l2dCacheHitPrfm (attributionOf .l2dCacheHitPrfm) (occOf .l2dCacheHitPrfm) (incrementOf .l2dCacheHitPrfm) s := (rfl)
theorem execRule_l3dCacheHitPrfm (s : State) :
    exec .l3dCacheHitPrfm s = countEvent .l3dCacheHitPrfm (attributionOf .l3dCacheHitPrfm) (occOf .l3dCacheHitPrfm) (incrementOf .l3dCacheHitPrfm) s := (rfl)
theorem execRule_llCacheHitPrfm (s : State) :
    exec .llCacheHitPrfm s = countEvent .llCacheHitPrfm (attributionOf .llCacheHitPrfm) (occOf .llCacheHitPrfm) (incrementOf .llCacheHitPrfm) s := (rfl)
theorem execRule_l1dCacheHitmRd (s : State) :
    exec .l1dCacheHitmRd s = countEvent .l1dCacheHitmRd (attributionOf .l1dCacheHitmRd) (occOf .l1dCacheHitmRd) (incrementOf .l1dCacheHitmRd) s := (rfl)
theorem execRule_l2dCacheHitmRd (s : State) :
    exec .l2dCacheHitmRd s = countEvent .l2dCacheHitmRd (attributionOf .l2dCacheHitmRd) (occOf .l2dCacheHitmRd) (incrementOf .l2dCacheHitmRd) s := (rfl)
theorem execRule_l3dCacheHitmRd (s : State) :
    exec .l3dCacheHitmRd s = countEvent .l3dCacheHitmRd (attributionOf .l3dCacheHitmRd) (occOf .l3dCacheHitmRd) (incrementOf .l3dCacheHitmRd) s := (rfl)
theorem execRule_llCacheHitmRd (s : State) :
    exec .llCacheHitmRd s = countEvent .llCacheHitmRd (attributionOf .llCacheHitmRd) (occOf .llCacheHitmRd) (incrementOf .llCacheHitmRd) s := (rfl)
theorem execRule_l1dCacheHitmWr (s : State) :
    exec .l1dCacheHitmWr s = countEvent .l1dCacheHitmWr (attributionOf .l1dCacheHitmWr) (occOf .l1dCacheHitmWr) (incrementOf .l1dCacheHitmWr) s := (rfl)
theorem execRule_l2dCacheHitmWr (s : State) :
    exec .l2dCacheHitmWr s = countEvent .l2dCacheHitmWr (attributionOf .l2dCacheHitmWr) (occOf .l2dCacheHitmWr) (incrementOf .l2dCacheHitmWr) s := (rfl)
theorem execRule_l3dCacheHitmWr (s : State) :
    exec .l3dCacheHitmWr s = countEvent .l3dCacheHitmWr (attributionOf .l3dCacheHitmWr) (occOf .l3dCacheHitmWr) (incrementOf .l3dCacheHitmWr) s := (rfl)
theorem execRule_llCacheHitmWr (s : State) :
    exec .llCacheHitmWr s = countEvent .llCacheHitmWr (attributionOf .llCacheHitmWr) (occOf .llCacheHitmWr) (incrementOf .llCacheHitmWr) s := (rfl)
theorem execRule_l1dCacheHitmRw (s : State) :
    exec .l1dCacheHitmRw s = countEvent .l1dCacheHitmRw (attributionOf .l1dCacheHitmRw) (occOf .l1dCacheHitmRw) (incrementOf .l1dCacheHitmRw) s := (rfl)
theorem execRule_l2dCacheHitmRw (s : State) :
    exec .l2dCacheHitmRw s = countEvent .l2dCacheHitmRw (attributionOf .l2dCacheHitmRw) (occOf .l2dCacheHitmRw) (incrementOf .l2dCacheHitmRw) s := (rfl)
theorem execRule_l3dCacheHitmRw (s : State) :
    exec .l3dCacheHitmRw s = countEvent .l3dCacheHitmRw (attributionOf .l3dCacheHitmRw) (occOf .l3dCacheHitmRw) (incrementOf .l3dCacheHitmRw) s := (rfl)
theorem execRule_llCacheHitmRw (s : State) :
    exec .llCacheHitmRw s = countEvent .llCacheHitmRw (attributionOf .llCacheHitmRw) (occOf .llCacheHitmRw) (incrementOf .llCacheHitmRw) s := (rfl)
theorem execRule_dsnpHitmRd (s : State) :
    exec .dsnpHitmRd s = countEvent .dsnpHitmRd (attributionOf .dsnpHitmRd) (occOf .dsnpHitmRd) (incrementOf .dsnpHitmRd) s := (rfl)
theorem execRule_dsnpHitmNearRd (s : State) :
    exec .dsnpHitmNearRd s = countEvent .dsnpHitmNearRd (attributionOf .dsnpHitmNearRd) (occOf .dsnpHitmNearRd) (incrementOf .dsnpHitmNearRd) s := (rfl)
theorem execRule_dsnpHitmFarRd (s : State) :
    exec .dsnpHitmFarRd s = countEvent .dsnpHitmFarRd (attributionOf .dsnpHitmFarRd) (occOf .dsnpHitmFarRd) (incrementOf .dsnpHitmFarRd) s := (rfl)
theorem execRule_dsnpHitmRemoteRd (s : State) :
    exec .dsnpHitmRemoteRd s = countEvent .dsnpHitmRemoteRd (attributionOf .dsnpHitmRemoteRd) (occOf .dsnpHitmRemoteRd) (incrementOf .dsnpHitmRemoteRd) s := (rfl)
theorem execRule_dsnpHitmWr (s : State) :
    exec .dsnpHitmWr s = countEvent .dsnpHitmWr (attributionOf .dsnpHitmWr) (occOf .dsnpHitmWr) (incrementOf .dsnpHitmWr) s := (rfl)
theorem execRule_dsnpHitmNearWr (s : State) :
    exec .dsnpHitmNearWr s = countEvent .dsnpHitmNearWr (attributionOf .dsnpHitmNearWr) (occOf .dsnpHitmNearWr) (incrementOf .dsnpHitmNearWr) s := (rfl)
theorem execRule_dsnpHitmFarWr (s : State) :
    exec .dsnpHitmFarWr s = countEvent .dsnpHitmFarWr (attributionOf .dsnpHitmFarWr) (occOf .dsnpHitmFarWr) (incrementOf .dsnpHitmFarWr) s := (rfl)
theorem execRule_dsnpHitmRemoteWr (s : State) :
    exec .dsnpHitmRemoteWr s = countEvent .dsnpHitmRemoteWr (attributionOf .dsnpHitmRemoteWr) (occOf .dsnpHitmRemoteWr) (incrementOf .dsnpHitmRemoteWr) s := (rfl)
theorem execRule_dsnpHitmRw (s : State) :
    exec .dsnpHitmRw s = countEvent .dsnpHitmRw (attributionOf .dsnpHitmRw) (occOf .dsnpHitmRw) (incrementOf .dsnpHitmRw) s := (rfl)
theorem execRule_dsnpHitmNearRw (s : State) :
    exec .dsnpHitmNearRw s = countEvent .dsnpHitmNearRw (attributionOf .dsnpHitmNearRw) (occOf .dsnpHitmNearRw) (incrementOf .dsnpHitmNearRw) s := (rfl)
theorem execRule_dsnpHitmFarRw (s : State) :
    exec .dsnpHitmFarRw s = countEvent .dsnpHitmFarRw (attributionOf .dsnpHitmFarRw) (occOf .dsnpHitmFarRw) (incrementOf .dsnpHitmFarRw) s := (rfl)
theorem execRule_dsnpHitmRemoteRw (s : State) :
    exec .dsnpHitmRemoteRw s = countEvent .dsnpHitmRemoteRw (attributionOf .dsnpHitmRemoteRw) (occOf .dsnpHitmRemoteRw) (incrementOf .dsnpHitmRemoteRw) s := (rfl)
theorem execRule_localMem (s : State) :
    exec .localMem s = countEvent .localMem (attributionOf .localMem) (occOf .localMem) (incrementOf .localMem) s := (rfl)
theorem execRule_localMemRd (s : State) :
    exec .localMemRd s = countEvent .localMemRd (attributionOf .localMemRd) (occOf .localMemRd) (incrementOf .localMemRd) s := (rfl)
theorem execRule_localMemWr (s : State) :
    exec .localMemWr s = countEvent .localMemWr (attributionOf .localMemWr) (occOf .localMemWr) (incrementOf .localMemWr) s := (rfl)
theorem execRule_localMemRw (s : State) :
    exec .localMemRw s = countEvent .localMemRw (attributionOf .localMemRw) (occOf .localMemRw) (incrementOf .localMemRw) s := (rfl)
theorem execRule_localMemPrfm (s : State) :
    exec .localMemPrfm s = countEvent .localMemPrfm (attributionOf .localMemPrfm) (occOf .localMemPrfm) (incrementOf .localMemPrfm) s := (rfl)
theorem execRule_localMemLdRetired (s : State) :
    exec .localMemLdRetired s = countEvent .localMemLdRetired (attributionOf .localMemLdRetired) (occOf .localMemLdRetired) (incrementOf .localMemLdRetired) s := (rfl)
theorem execRule_localMemStRetired (s : State) :
    exec .localMemStRetired s = countEvent .localMemStRetired (attributionOf .localMemStRetired) (occOf .localMemStRetired) (incrementOf .localMemStRetired) s := (rfl)
theorem execRule_localMemLdstRetired (s : State) :
    exec .localMemLdstRetired s = countEvent .localMemLdstRetired (attributionOf .localMemLdstRetired) (occOf .localMemLdstRetired) (incrementOf .localMemLdstRetired) s := (rfl)
theorem execRule_remoteMem (s : State) :
    exec .remoteMem s = countEvent .remoteMem (attributionOf .remoteMem) (occOf .remoteMem) (incrementOf .remoteMem) s := (rfl)
theorem execRule_remoteMemRd (s : State) :
    exec .remoteMemRd s = countEvent .remoteMemRd (attributionOf .remoteMemRd) (occOf .remoteMemRd) (incrementOf .remoteMemRd) s := (rfl)
theorem execRule_remoteMemWr (s : State) :
    exec .remoteMemWr s = countEvent .remoteMemWr (attributionOf .remoteMemWr) (occOf .remoteMemWr) (incrementOf .remoteMemWr) s := (rfl)
theorem execRule_remoteMemRw (s : State) :
    exec .remoteMemRw s = countEvent .remoteMemRw (attributionOf .remoteMemRw) (occOf .remoteMemRw) (incrementOf .remoteMemRw) s := (rfl)
theorem execRule_remoteMemPrfm (s : State) :
    exec .remoteMemPrfm s = countEvent .remoteMemPrfm (attributionOf .remoteMemPrfm) (occOf .remoteMemPrfm) (incrementOf .remoteMemPrfm) s := (rfl)
theorem execRule_remoteMemLdRetired (s : State) :
    exec .remoteMemLdRetired s = countEvent .remoteMemLdRetired (attributionOf .remoteMemLdRetired) (occOf .remoteMemLdRetired) (incrementOf .remoteMemLdRetired) s := (rfl)
theorem execRule_remoteMemStRetired (s : State) :
    exec .remoteMemStRetired s = countEvent .remoteMemStRetired (attributionOf .remoteMemStRetired) (occOf .remoteMemStRetired) (incrementOf .remoteMemStRetired) s := (rfl)
theorem execRule_remoteMemLdstRetired (s : State) :
    exec .remoteMemLdstRetired s = countEvent .remoteMemLdstRetired (attributionOf .remoteMemLdstRetired) (occOf .remoteMemLdstRetired) (incrementOf .remoteMemLdstRetired) s := (rfl)
theorem execRule_l1iLfbHitRd (s : State) :
    exec .l1iLfbHitRd s = countEvent .l1iLfbHitRd (attributionOf .l1iLfbHitRd) (occOf .l1iLfbHitRd) (incrementOf .l1iLfbHitRd) s := (rfl)
theorem execRule_l2iLfbHitRd (s : State) :
    exec .l2iLfbHitRd s = countEvent .l2iLfbHitRd (attributionOf .l2iLfbHitRd) (occOf .l2iLfbHitRd) (incrementOf .l2iLfbHitRd) s := (rfl)
theorem execRule_l1dLfbHitRd (s : State) :
    exec .l1dLfbHitRd s = countEvent .l1dLfbHitRd (attributionOf .l1dLfbHitRd) (occOf .l1dLfbHitRd) (incrementOf .l1dLfbHitRd) s := (rfl)
theorem execRule_l2dLfbHitRd (s : State) :
    exec .l2dLfbHitRd s = countEvent .l2dLfbHitRd (attributionOf .l2dLfbHitRd) (occOf .l2dLfbHitRd) (incrementOf .l2dLfbHitRd) s := (rfl)
theorem execRule_l3dLfbHitRd (s : State) :
    exec .l3dLfbHitRd s = countEvent .l3dLfbHitRd (attributionOf .l3dLfbHitRd) (occOf .l3dLfbHitRd) (incrementOf .l3dLfbHitRd) s := (rfl)
theorem execRule_llLfbHitRd (s : State) :
    exec .llLfbHitRd s = countEvent .llLfbHitRd (attributionOf .llLfbHitRd) (occOf .llLfbHitRd) (incrementOf .llLfbHitRd) s := (rfl)
theorem execRule_l1dLfbHitWr (s : State) :
    exec .l1dLfbHitWr s = countEvent .l1dLfbHitWr (attributionOf .l1dLfbHitWr) (occOf .l1dLfbHitWr) (incrementOf .l1dLfbHitWr) s := (rfl)
theorem execRule_l2dLfbHitWr (s : State) :
    exec .l2dLfbHitWr s = countEvent .l2dLfbHitWr (attributionOf .l2dLfbHitWr) (occOf .l2dLfbHitWr) (incrementOf .l2dLfbHitWr) s := (rfl)
theorem execRule_l3dLfbHitWr (s : State) :
    exec .l3dLfbHitWr s = countEvent .l3dLfbHitWr (attributionOf .l3dLfbHitWr) (occOf .l3dLfbHitWr) (incrementOf .l3dLfbHitWr) s := (rfl)
theorem execRule_llLfbHitWr (s : State) :
    exec .llLfbHitWr s = countEvent .llLfbHitWr (attributionOf .llLfbHitWr) (occOf .llLfbHitWr) (incrementOf .llLfbHitWr) s := (rfl)
theorem execRule_l1dLfbHitRw (s : State) :
    exec .l1dLfbHitRw s = countEvent .l1dLfbHitRw (attributionOf .l1dLfbHitRw) (occOf .l1dLfbHitRw) (incrementOf .l1dLfbHitRw) s := (rfl)
theorem execRule_l2dLfbHitRw (s : State) :
    exec .l2dLfbHitRw s = countEvent .l2dLfbHitRw (attributionOf .l2dLfbHitRw) (occOf .l2dLfbHitRw) (incrementOf .l2dLfbHitRw) s := (rfl)
theorem execRule_l3dLfbHitRw (s : State) :
    exec .l3dLfbHitRw s = countEvent .l3dLfbHitRw (attributionOf .l3dLfbHitRw) (occOf .l3dLfbHitRw) (incrementOf .l3dLfbHitRw) s := (rfl)
theorem execRule_llLfbHitRw (s : State) :
    exec .llLfbHitRw s = countEvent .llLfbHitRw (attributionOf .llLfbHitRw) (occOf .llLfbHitRw) (incrementOf .llLfbHitRw) s := (rfl)
theorem execRule_l1iLfbHitRdFprfm (s : State) :
    exec .l1iLfbHitRdFprfm s = countEvent .l1iLfbHitRdFprfm (attributionOf .l1iLfbHitRdFprfm) (occOf .l1iLfbHitRdFprfm) (incrementOf .l1iLfbHitRdFprfm) s := (rfl)
theorem execRule_l2iLfbHitRdFprfm (s : State) :
    exec .l2iLfbHitRdFprfm s = countEvent .l2iLfbHitRdFprfm (attributionOf .l2iLfbHitRdFprfm) (occOf .l2iLfbHitRdFprfm) (incrementOf .l2iLfbHitRdFprfm) s := (rfl)
theorem execRule_l1dLfbHitRdFprfm (s : State) :
    exec .l1dLfbHitRdFprfm s = countEvent .l1dLfbHitRdFprfm (attributionOf .l1dLfbHitRdFprfm) (occOf .l1dLfbHitRdFprfm) (incrementOf .l1dLfbHitRdFprfm) s := (rfl)
theorem execRule_l2dLfbHitRdFprfm (s : State) :
    exec .l2dLfbHitRdFprfm s = countEvent .l2dLfbHitRdFprfm (attributionOf .l2dLfbHitRdFprfm) (occOf .l2dLfbHitRdFprfm) (incrementOf .l2dLfbHitRdFprfm) s := (rfl)
theorem execRule_l3dLfbHitRdFprfm (s : State) :
    exec .l3dLfbHitRdFprfm s = countEvent .l3dLfbHitRdFprfm (attributionOf .l3dLfbHitRdFprfm) (occOf .l3dLfbHitRdFprfm) (incrementOf .l3dLfbHitRdFprfm) s := (rfl)
theorem execRule_llLfbHitRdFprfm (s : State) :
    exec .llLfbHitRdFprfm s = countEvent .llLfbHitRdFprfm (attributionOf .llLfbHitRdFprfm) (occOf .llLfbHitRdFprfm) (incrementOf .llLfbHitRdFprfm) s := (rfl)
theorem execRule_l1dLfbHitWrFprfm (s : State) :
    exec .l1dLfbHitWrFprfm s = countEvent .l1dLfbHitWrFprfm (attributionOf .l1dLfbHitWrFprfm) (occOf .l1dLfbHitWrFprfm) (incrementOf .l1dLfbHitWrFprfm) s := (rfl)
theorem execRule_l2dLfbHitWrFprfm (s : State) :
    exec .l2dLfbHitWrFprfm s = countEvent .l2dLfbHitWrFprfm (attributionOf .l2dLfbHitWrFprfm) (occOf .l2dLfbHitWrFprfm) (incrementOf .l2dLfbHitWrFprfm) s := (rfl)
theorem execRule_l3dLfbHitWrFprfm (s : State) :
    exec .l3dLfbHitWrFprfm s = countEvent .l3dLfbHitWrFprfm (attributionOf .l3dLfbHitWrFprfm) (occOf .l3dLfbHitWrFprfm) (incrementOf .l3dLfbHitWrFprfm) s := (rfl)
theorem execRule_llLfbHitWrFprfm (s : State) :
    exec .llLfbHitWrFprfm s = countEvent .llLfbHitWrFprfm (attributionOf .llLfbHitWrFprfm) (occOf .llLfbHitWrFprfm) (incrementOf .llLfbHitWrFprfm) s := (rfl)
theorem execRule_l1dLfbHitRwFprfm (s : State) :
    exec .l1dLfbHitRwFprfm s = countEvent .l1dLfbHitRwFprfm (attributionOf .l1dLfbHitRwFprfm) (occOf .l1dLfbHitRwFprfm) (incrementOf .l1dLfbHitRwFprfm) s := (rfl)
theorem execRule_l2dLfbHitRwFprfm (s : State) :
    exec .l2dLfbHitRwFprfm s = countEvent .l2dLfbHitRwFprfm (attributionOf .l2dLfbHitRwFprfm) (occOf .l2dLfbHitRwFprfm) (incrementOf .l2dLfbHitRwFprfm) s := (rfl)
theorem execRule_l3dLfbHitRwFprfm (s : State) :
    exec .l3dLfbHitRwFprfm s = countEvent .l3dLfbHitRwFprfm (attributionOf .l3dLfbHitRwFprfm) (occOf .l3dLfbHitRwFprfm) (incrementOf .l3dLfbHitRwFprfm) s := (rfl)
theorem execRule_llLfbHitRwFprfm (s : State) :
    exec .llLfbHitRwFprfm s = countEvent .llLfbHitRwFprfm (attributionOf .llLfbHitRwFprfm) (occOf .llLfbHitRwFprfm) (incrementOf .llLfbHitRwFprfm) s := (rfl)
theorem execRule_l1iLfbHitRdFhwprf (s : State) :
    exec .l1iLfbHitRdFhwprf s = countEvent .l1iLfbHitRdFhwprf (attributionOf .l1iLfbHitRdFhwprf) (occOf .l1iLfbHitRdFhwprf) (incrementOf .l1iLfbHitRdFhwprf) s := (rfl)
theorem execRule_l2iLfbHitRdFhwprf (s : State) :
    exec .l2iLfbHitRdFhwprf s = countEvent .l2iLfbHitRdFhwprf (attributionOf .l2iLfbHitRdFhwprf) (occOf .l2iLfbHitRdFhwprf) (incrementOf .l2iLfbHitRdFhwprf) s := (rfl)
theorem execRule_l1dLfbHitRdFhwprf (s : State) :
    exec .l1dLfbHitRdFhwprf s = countEvent .l1dLfbHitRdFhwprf (attributionOf .l1dLfbHitRdFhwprf) (occOf .l1dLfbHitRdFhwprf) (incrementOf .l1dLfbHitRdFhwprf) s := (rfl)
theorem execRule_l2dLfbHitRdFhwprf (s : State) :
    exec .l2dLfbHitRdFhwprf s = countEvent .l2dLfbHitRdFhwprf (attributionOf .l2dLfbHitRdFhwprf) (occOf .l2dLfbHitRdFhwprf) (incrementOf .l2dLfbHitRdFhwprf) s := (rfl)
theorem execRule_l3dLfbHitRdFhwprf (s : State) :
    exec .l3dLfbHitRdFhwprf s = countEvent .l3dLfbHitRdFhwprf (attributionOf .l3dLfbHitRdFhwprf) (occOf .l3dLfbHitRdFhwprf) (incrementOf .l3dLfbHitRdFhwprf) s := (rfl)
theorem execRule_llLfbHitRdFhwprf (s : State) :
    exec .llLfbHitRdFhwprf s = countEvent .llLfbHitRdFhwprf (attributionOf .llLfbHitRdFhwprf) (occOf .llLfbHitRdFhwprf) (incrementOf .llLfbHitRdFhwprf) s := (rfl)
theorem execRule_l1dLfbHitWrFhwprf (s : State) :
    exec .l1dLfbHitWrFhwprf s = countEvent .l1dLfbHitWrFhwprf (attributionOf .l1dLfbHitWrFhwprf) (occOf .l1dLfbHitWrFhwprf) (incrementOf .l1dLfbHitWrFhwprf) s := (rfl)
theorem execRule_l2dLfbHitWrFhwprf (s : State) :
    exec .l2dLfbHitWrFhwprf s = countEvent .l2dLfbHitWrFhwprf (attributionOf .l2dLfbHitWrFhwprf) (occOf .l2dLfbHitWrFhwprf) (incrementOf .l2dLfbHitWrFhwprf) s := (rfl)
theorem execRule_l3dLfbHitWrFhwprf (s : State) :
    exec .l3dLfbHitWrFhwprf s = countEvent .l3dLfbHitWrFhwprf (attributionOf .l3dLfbHitWrFhwprf) (occOf .l3dLfbHitWrFhwprf) (incrementOf .l3dLfbHitWrFhwprf) s := (rfl)
theorem execRule_llLfbHitWrFhwprf (s : State) :
    exec .llLfbHitWrFhwprf s = countEvent .llLfbHitWrFhwprf (attributionOf .llLfbHitWrFhwprf) (occOf .llLfbHitWrFhwprf) (incrementOf .llLfbHitWrFhwprf) s := (rfl)
theorem execRule_l1dLfbHitRwFhwprf (s : State) :
    exec .l1dLfbHitRwFhwprf s = countEvent .l1dLfbHitRwFhwprf (attributionOf .l1dLfbHitRwFhwprf) (occOf .l1dLfbHitRwFhwprf) (incrementOf .l1dLfbHitRwFhwprf) s := (rfl)
theorem execRule_l2dLfbHitRwFhwprf (s : State) :
    exec .l2dLfbHitRwFhwprf s = countEvent .l2dLfbHitRwFhwprf (attributionOf .l2dLfbHitRwFhwprf) (occOf .l2dLfbHitRwFhwprf) (incrementOf .l2dLfbHitRwFhwprf) s := (rfl)
theorem execRule_l3dLfbHitRwFhwprf (s : State) :
    exec .l3dLfbHitRwFhwprf s = countEvent .l3dLfbHitRwFhwprf (attributionOf .l3dLfbHitRwFhwprf) (occOf .l3dLfbHitRwFhwprf) (incrementOf .l3dLfbHitRwFhwprf) s := (rfl)
theorem execRule_llLfbHitRwFhwprf (s : State) :
    exec .llLfbHitRwFhwprf s = countEvent .llLfbHitRwFhwprf (attributionOf .llLfbHitRwFhwprf) (occOf .llLfbHitRwFhwprf) (incrementOf .llLfbHitRwFhwprf) s := (rfl)
theorem execRule_l1iLfbHitRdFprf (s : State) :
    exec .l1iLfbHitRdFprf s = countEvent .l1iLfbHitRdFprf (attributionOf .l1iLfbHitRdFprf) (occOf .l1iLfbHitRdFprf) (incrementOf .l1iLfbHitRdFprf) s := (rfl)
theorem execRule_l2iLfbHitRdFprf (s : State) :
    exec .l2iLfbHitRdFprf s = countEvent .l2iLfbHitRdFprf (attributionOf .l2iLfbHitRdFprf) (occOf .l2iLfbHitRdFprf) (incrementOf .l2iLfbHitRdFprf) s := (rfl)
theorem execRule_l1dLfbHitRdFprf (s : State) :
    exec .l1dLfbHitRdFprf s = countEvent .l1dLfbHitRdFprf (attributionOf .l1dLfbHitRdFprf) (occOf .l1dLfbHitRdFprf) (incrementOf .l1dLfbHitRdFprf) s := (rfl)
theorem execRule_l2dLfbHitRdFprf (s : State) :
    exec .l2dLfbHitRdFprf s = countEvent .l2dLfbHitRdFprf (attributionOf .l2dLfbHitRdFprf) (occOf .l2dLfbHitRdFprf) (incrementOf .l2dLfbHitRdFprf) s := (rfl)
theorem execRule_l3dLfbHitRdFprf (s : State) :
    exec .l3dLfbHitRdFprf s = countEvent .l3dLfbHitRdFprf (attributionOf .l3dLfbHitRdFprf) (occOf .l3dLfbHitRdFprf) (incrementOf .l3dLfbHitRdFprf) s := (rfl)
theorem execRule_llLfbHitRdFprf (s : State) :
    exec .llLfbHitRdFprf s = countEvent .llLfbHitRdFprf (attributionOf .llLfbHitRdFprf) (occOf .llLfbHitRdFprf) (incrementOf .llLfbHitRdFprf) s := (rfl)
theorem execRule_l1dLfbHitWrFprf (s : State) :
    exec .l1dLfbHitWrFprf s = countEvent .l1dLfbHitWrFprf (attributionOf .l1dLfbHitWrFprf) (occOf .l1dLfbHitWrFprf) (incrementOf .l1dLfbHitWrFprf) s := (rfl)
theorem execRule_l2dLfbHitWrFprf (s : State) :
    exec .l2dLfbHitWrFprf s = countEvent .l2dLfbHitWrFprf (attributionOf .l2dLfbHitWrFprf) (occOf .l2dLfbHitWrFprf) (incrementOf .l2dLfbHitWrFprf) s := (rfl)
theorem execRule_l3dLfbHitWrFprf (s : State) :
    exec .l3dLfbHitWrFprf s = countEvent .l3dLfbHitWrFprf (attributionOf .l3dLfbHitWrFprf) (occOf .l3dLfbHitWrFprf) (incrementOf .l3dLfbHitWrFprf) s := (rfl)
theorem execRule_llLfbHitWrFprf (s : State) :
    exec .llLfbHitWrFprf s = countEvent .llLfbHitWrFprf (attributionOf .llLfbHitWrFprf) (occOf .llLfbHitWrFprf) (incrementOf .llLfbHitWrFprf) s := (rfl)
theorem execRule_l1dLfbHitRwFprf (s : State) :
    exec .l1dLfbHitRwFprf s = countEvent .l1dLfbHitRwFprf (attributionOf .l1dLfbHitRwFprf) (occOf .l1dLfbHitRwFprf) (incrementOf .l1dLfbHitRwFprf) s := (rfl)
theorem execRule_l2dLfbHitRwFprf (s : State) :
    exec .l2dLfbHitRwFprf s = countEvent .l2dLfbHitRwFprf (attributionOf .l2dLfbHitRwFprf) (occOf .l2dLfbHitRwFprf) (incrementOf .l2dLfbHitRwFprf) s := (rfl)
theorem execRule_l3dLfbHitRwFprf (s : State) :
    exec .l3dLfbHitRwFprf s = countEvent .l3dLfbHitRwFprf (attributionOf .l3dLfbHitRwFprf) (occOf .l3dLfbHitRwFprf) (incrementOf .l3dLfbHitRwFprf) s := (rfl)
theorem execRule_llLfbHitRwFprf (s : State) :
    exec .llLfbHitRwFprf s = countEvent .llLfbHitRwFprf (attributionOf .llLfbHitRwFprf) (occOf .llLfbHitRwFprf) (incrementOf .llLfbHitRwFprf) s := (rfl)
theorem execRule_l1iCachePrf (s : State) :
    exec .l1iCachePrf s = countEvent .l1iCachePrf (attributionOf .l1iCachePrf) (occOf .l1iCachePrf) (incrementOf .l1iCachePrf) s := (rfl)
theorem execRule_l2iCachePrf (s : State) :
    exec .l2iCachePrf s = countEvent .l2iCachePrf (attributionOf .l2iCachePrf) (occOf .l2iCachePrf) (incrementOf .l2iCachePrf) s := (rfl)
theorem execRule_l1dCachePrf (s : State) :
    exec .l1dCachePrf s = countEvent .l1dCachePrf (attributionOf .l1dCachePrf) (occOf .l1dCachePrf) (incrementOf .l1dCachePrf) s := (rfl)
theorem execRule_l2dCachePrf (s : State) :
    exec .l2dCachePrf s = countEvent .l2dCachePrf (attributionOf .l2dCachePrf) (occOf .l2dCachePrf) (incrementOf .l2dCachePrf) s := (rfl)
theorem execRule_l3dCachePrf (s : State) :
    exec .l3dCachePrf s = countEvent .l3dCachePrf (attributionOf .l3dCachePrf) (occOf .l3dCachePrf) (incrementOf .l3dCachePrf) s := (rfl)
theorem execRule_llCachePrf (s : State) :
    exec .llCachePrf s = countEvent .llCachePrf (attributionOf .llCachePrf) (occOf .llCachePrf) (incrementOf .llCachePrf) s := (rfl)
theorem execRule_l1iCacheRefillPrf (s : State) :
    exec .l1iCacheRefillPrf s = countEvent .l1iCacheRefillPrf (attributionOf .l1iCacheRefillPrf) (occOf .l1iCacheRefillPrf) (incrementOf .l1iCacheRefillPrf) s := (rfl)
theorem execRule_l2iCacheRefillPrf (s : State) :
    exec .l2iCacheRefillPrf s = countEvent .l2iCacheRefillPrf (attributionOf .l2iCacheRefillPrf) (occOf .l2iCacheRefillPrf) (incrementOf .l2iCacheRefillPrf) s := (rfl)
theorem execRule_l1dCacheRefillPrf (s : State) :
    exec .l1dCacheRefillPrf s = countEvent .l1dCacheRefillPrf (attributionOf .l1dCacheRefillPrf) (occOf .l1dCacheRefillPrf) (incrementOf .l1dCacheRefillPrf) s := (rfl)
theorem execRule_l2dCacheRefillPrf (s : State) :
    exec .l2dCacheRefillPrf s = countEvent .l2dCacheRefillPrf (attributionOf .l2dCacheRefillPrf) (occOf .l2dCacheRefillPrf) (incrementOf .l2dCacheRefillPrf) s := (rfl)
theorem execRule_l3dCacheRefillPrf (s : State) :
    exec .l3dCacheRefillPrf s = countEvent .l3dCacheRefillPrf (attributionOf .l3dCacheRefillPrf) (occOf .l3dCacheRefillPrf) (incrementOf .l3dCacheRefillPrf) s := (rfl)
theorem execRule_llCacheRefillPrf (s : State) :
    exec .llCacheRefillPrf s = countEvent .llCacheRefillPrf (attributionOf .llCacheRefillPrf) (occOf .llCacheRefillPrf) (incrementOf .llCacheRefillPrf) s := (rfl)
theorem execRule_isnpHitPrf (s : State) :
    exec .isnpHitPrf s = countEvent .isnpHitPrf (attributionOf .isnpHitPrf) (occOf .isnpHitPrf) (incrementOf .isnpHitPrf) s := (rfl)
theorem execRule_isnpHitNearPrf (s : State) :
    exec .isnpHitNearPrf s = countEvent .isnpHitNearPrf (attributionOf .isnpHitNearPrf) (occOf .isnpHitNearPrf) (incrementOf .isnpHitNearPrf) s := (rfl)
theorem execRule_isnpHitFarPrf (s : State) :
    exec .isnpHitFarPrf s = countEvent .isnpHitFarPrf (attributionOf .isnpHitFarPrf) (occOf .isnpHitFarPrf) (incrementOf .isnpHitFarPrf) s := (rfl)
theorem execRule_isnpHitRemotePrf (s : State) :
    exec .isnpHitRemotePrf s = countEvent .isnpHitRemotePrf (attributionOf .isnpHitRemotePrf) (occOf .isnpHitRemotePrf) (incrementOf .isnpHitRemotePrf) s := (rfl)
theorem execRule_dsnpHitPrf (s : State) :
    exec .dsnpHitPrf s = countEvent .dsnpHitPrf (attributionOf .dsnpHitPrf) (occOf .dsnpHitPrf) (incrementOf .dsnpHitPrf) s := (rfl)
theorem execRule_dsnpHitNearPrf (s : State) :
    exec .dsnpHitNearPrf s = countEvent .dsnpHitNearPrf (attributionOf .dsnpHitNearPrf) (occOf .dsnpHitNearPrf) (incrementOf .dsnpHitNearPrf) s := (rfl)
theorem execRule_dsnpHitFarPrf (s : State) :
    exec .dsnpHitFarPrf s = countEvent .dsnpHitFarPrf (attributionOf .dsnpHitFarPrf) (occOf .dsnpHitFarPrf) (incrementOf .dsnpHitFarPrf) s := (rfl)
theorem execRule_dsnpHitRemotePrf (s : State) :
    exec .dsnpHitRemotePrf s = countEvent .dsnpHitRemotePrf (attributionOf .dsnpHitRemotePrf) (occOf .dsnpHitRemotePrf) (incrementOf .dsnpHitRemotePrf) s := (rfl)
theorem execRule_llCacheRw (s : State) :
    exec .llCacheRw s = countEvent .llCacheRw (attributionOf .llCacheRw) (occOf .llCacheRw) (incrementOf .llCacheRw) s := (rfl)
theorem execRule_llCachePrfm (s : State) :
    exec .llCachePrfm s = countEvent .llCachePrfm (attributionOf .llCachePrfm) (occOf .llCachePrfm) (incrementOf .llCachePrfm) s := (rfl)
theorem execRule_llCacheRefill (s : State) :
    exec .llCacheRefill s = countEvent .llCacheRefill (attributionOf .llCacheRefill) (occOf .llCacheRefill) (incrementOf .llCacheRefill) s := (rfl)
theorem execRule_llCacheRefillPrfm (s : State) :
    exec .llCacheRefillPrfm s = countEvent .llCacheRefillPrfm (attributionOf .llCacheRefillPrfm) (occOf .llCacheRefillPrfm) (incrementOf .llCacheRefillPrfm) s := (rfl)
theorem execRule_llCacheWb (s : State) :
    exec .llCacheWb s = countEvent .llCacheWb (attributionOf .llCacheWb) (occOf .llCacheWb) (incrementOf .llCacheWb) s := (rfl)
theorem execRule_llCacheWr (s : State) :
    exec .llCacheWr s = countEvent .llCacheWr (attributionOf .llCacheWr) (occOf .llCacheWr) (incrementOf .llCacheWr) s := (rfl)
theorem execRule_llCacheRefillWr (s : State) :
    exec .llCacheRefillWr s = countEvent .llCacheRefillWr (attributionOf .llCacheRefillWr) (occOf .llCacheRefillWr) (incrementOf .llCacheRefillWr) s := (rfl)
theorem execRule_memAccessRw (s : State) :
    exec .memAccessRw s = countEvent .memAccessRw (attributionOf .memAccessRw) (occOf .memAccessRw) (incrementOf .memAccessRw) s := (rfl)
theorem execRule_instFetchRd (s : State) :
    exec .instFetchRd s = countEvent .instFetchRd (attributionOf .instFetchRd) (occOf .instFetchRd) (incrementOf .instFetchRd) s := (rfl)
theorem execRule_memAccessPrfm (s : State) :
    exec .memAccessPrfm s = countEvent .memAccessPrfm (attributionOf .memAccessPrfm) (occOf .memAccessPrfm) (incrementOf .memAccessPrfm) s := (rfl)
theorem execRule_instFetchPrfm (s : State) :
    exec .instFetchPrfm s = countEvent .instFetchPrfm (attributionOf .instFetchPrfm) (occOf .instFetchPrfm) (incrementOf .instFetchPrfm) s := (rfl)
theorem execRule_l1iCacheMissRetired (s : State) :
    exec .l1iCacheMissRetired s = countEvent .l1iCacheMissRetired (attributionOf .l1iCacheMissRetired) (occOf .l1iCacheMissRetired) (incrementOf .l1iCacheMissRetired) s := (rfl)
theorem execRule_l2iCacheMissRetired (s : State) :
    exec .l2iCacheMissRetired s = countEvent .l2iCacheMissRetired (attributionOf .l2iCacheMissRetired) (occOf .l2iCacheMissRetired) (incrementOf .l2iCacheMissRetired) s := (rfl)
theorem execRule_l1dCacheMissLdRetired (s : State) :
    exec .l1dCacheMissLdRetired s = countEvent .l1dCacheMissLdRetired (attributionOf .l1dCacheMissLdRetired) (occOf .l1dCacheMissLdRetired) (incrementOf .l1dCacheMissLdRetired) s := (rfl)
theorem execRule_l2dCacheMissLdRetired (s : State) :
    exec .l2dCacheMissLdRetired s = countEvent .l2dCacheMissLdRetired (attributionOf .l2dCacheMissLdRetired) (occOf .l2dCacheMissLdRetired) (incrementOf .l2dCacheMissLdRetired) s := (rfl)
theorem execRule_l3dCacheMissLdRetired (s : State) :
    exec .l3dCacheMissLdRetired s = countEvent .l3dCacheMissLdRetired (attributionOf .l3dCacheMissLdRetired) (occOf .l3dCacheMissLdRetired) (incrementOf .l3dCacheMissLdRetired) s := (rfl)
theorem execRule_llCacheMissLdRetired (s : State) :
    exec .llCacheMissLdRetired s = countEvent .llCacheMissLdRetired (attributionOf .llCacheMissLdRetired) (occOf .llCacheMissLdRetired) (incrementOf .llCacheMissLdRetired) s := (rfl)
theorem execRule_l1dCacheMissStRetired (s : State) :
    exec .l1dCacheMissStRetired s = countEvent .l1dCacheMissStRetired (attributionOf .l1dCacheMissStRetired) (occOf .l1dCacheMissStRetired) (incrementOf .l1dCacheMissStRetired) s := (rfl)
theorem execRule_l2dCacheMissStRetired (s : State) :
    exec .l2dCacheMissStRetired s = countEvent .l2dCacheMissStRetired (attributionOf .l2dCacheMissStRetired) (occOf .l2dCacheMissStRetired) (incrementOf .l2dCacheMissStRetired) s := (rfl)
theorem execRule_l3dCacheMissStRetired (s : State) :
    exec .l3dCacheMissStRetired s = countEvent .l3dCacheMissStRetired (attributionOf .l3dCacheMissStRetired) (occOf .l3dCacheMissStRetired) (incrementOf .l3dCacheMissStRetired) s := (rfl)
theorem execRule_llCacheMissStRetired (s : State) :
    exec .llCacheMissStRetired s = countEvent .llCacheMissStRetired (attributionOf .llCacheMissStRetired) (occOf .llCacheMissStRetired) (incrementOf .llCacheMissStRetired) s := (rfl)
theorem execRule_l1dCacheMissLdstRetired (s : State) :
    exec .l1dCacheMissLdstRetired s = countEvent .l1dCacheMissLdstRetired (attributionOf .l1dCacheMissLdstRetired) (occOf .l1dCacheMissLdstRetired) (incrementOf .l1dCacheMissLdstRetired) s := (rfl)
theorem execRule_l2dCacheMissLdstRetired (s : State) :
    exec .l2dCacheMissLdstRetired s = countEvent .l2dCacheMissLdstRetired (attributionOf .l2dCacheMissLdstRetired) (occOf .l2dCacheMissLdstRetired) (incrementOf .l2dCacheMissLdstRetired) s := (rfl)
theorem execRule_l3dCacheMissLdstRetired (s : State) :
    exec .l3dCacheMissLdstRetired s = countEvent .l3dCacheMissLdstRetired (attributionOf .l3dCacheMissLdstRetired) (occOf .l3dCacheMissLdstRetired) (incrementOf .l3dCacheMissLdstRetired) s := (rfl)
theorem execRule_llCacheMissLdstRetired (s : State) :
    exec .llCacheMissLdstRetired s = countEvent .llCacheMissLdstRetired (attributionOf .llCacheMissLdstRetired) (occOf .llCacheMissLdstRetired) (incrementOf .llCacheMissLdstRetired) s := (rfl)
theorem execRule_l1dCacheHitmLdRetired (s : State) :
    exec .l1dCacheHitmLdRetired s = countEvent .l1dCacheHitmLdRetired (attributionOf .l1dCacheHitmLdRetired) (occOf .l1dCacheHitmLdRetired) (incrementOf .l1dCacheHitmLdRetired) s := (rfl)
theorem execRule_l2dCacheHitmLdRetired (s : State) :
    exec .l2dCacheHitmLdRetired s = countEvent .l2dCacheHitmLdRetired (attributionOf .l2dCacheHitmLdRetired) (occOf .l2dCacheHitmLdRetired) (incrementOf .l2dCacheHitmLdRetired) s := (rfl)
theorem execRule_l3dCacheHitmLdRetired (s : State) :
    exec .l3dCacheHitmLdRetired s = countEvent .l3dCacheHitmLdRetired (attributionOf .l3dCacheHitmLdRetired) (occOf .l3dCacheHitmLdRetired) (incrementOf .l3dCacheHitmLdRetired) s := (rfl)
theorem execRule_llCacheHitmLdRetired (s : State) :
    exec .llCacheHitmLdRetired s = countEvent .llCacheHitmLdRetired (attributionOf .llCacheHitmLdRetired) (occOf .llCacheHitmLdRetired) (incrementOf .llCacheHitmLdRetired) s := (rfl)
theorem execRule_l1dCacheHitmStRetired (s : State) :
    exec .l1dCacheHitmStRetired s = countEvent .l1dCacheHitmStRetired (attributionOf .l1dCacheHitmStRetired) (occOf .l1dCacheHitmStRetired) (incrementOf .l1dCacheHitmStRetired) s := (rfl)
theorem execRule_l2dCacheHitmStRetired (s : State) :
    exec .l2dCacheHitmStRetired s = countEvent .l2dCacheHitmStRetired (attributionOf .l2dCacheHitmStRetired) (occOf .l2dCacheHitmStRetired) (incrementOf .l2dCacheHitmStRetired) s := (rfl)
theorem execRule_l3dCacheHitmStRetired (s : State) :
    exec .l3dCacheHitmStRetired s = countEvent .l3dCacheHitmStRetired (attributionOf .l3dCacheHitmStRetired) (occOf .l3dCacheHitmStRetired) (incrementOf .l3dCacheHitmStRetired) s := (rfl)
theorem execRule_llCacheHitmStRetired (s : State) :
    exec .llCacheHitmStRetired s = countEvent .llCacheHitmStRetired (attributionOf .llCacheHitmStRetired) (occOf .llCacheHitmStRetired) (incrementOf .llCacheHitmStRetired) s := (rfl)
theorem execRule_l1dCacheHitmLdstRetired (s : State) :
    exec .l1dCacheHitmLdstRetired s = countEvent .l1dCacheHitmLdstRetired (attributionOf .l1dCacheHitmLdstRetired) (occOf .l1dCacheHitmLdstRetired) (incrementOf .l1dCacheHitmLdstRetired) s := (rfl)
theorem execRule_l2dCacheHitmLdstRetired (s : State) :
    exec .l2dCacheHitmLdstRetired s = countEvent .l2dCacheHitmLdstRetired (attributionOf .l2dCacheHitmLdstRetired) (occOf .l2dCacheHitmLdstRetired) (incrementOf .l2dCacheHitmLdstRetired) s := (rfl)
theorem execRule_l3dCacheHitmLdstRetired (s : State) :
    exec .l3dCacheHitmLdstRetired s = countEvent .l3dCacheHitmLdstRetired (attributionOf .l3dCacheHitmLdstRetired) (occOf .l3dCacheHitmLdstRetired) (incrementOf .l3dCacheHitmLdstRetired) s := (rfl)
theorem execRule_llCacheHitmLdstRetired (s : State) :
    exec .llCacheHitmLdstRetired s = countEvent .llCacheHitmLdstRetired (attributionOf .llCacheHitmLdstRetired) (occOf .llCacheHitmLdstRetired) (incrementOf .llCacheHitmLdstRetired) s := (rfl)
theorem execRule_l1iLfbHitRetired (s : State) :
    exec .l1iLfbHitRetired s = countEvent .l1iLfbHitRetired (attributionOf .l1iLfbHitRetired) (occOf .l1iLfbHitRetired) (incrementOf .l1iLfbHitRetired) s := (rfl)
theorem execRule_l2iLfbHitRetired (s : State) :
    exec .l2iLfbHitRetired s = countEvent .l2iLfbHitRetired (attributionOf .l2iLfbHitRetired) (occOf .l2iLfbHitRetired) (incrementOf .l2iLfbHitRetired) s := (rfl)
theorem execRule_l1dLfbHitLdRetired (s : State) :
    exec .l1dLfbHitLdRetired s = countEvent .l1dLfbHitLdRetired (attributionOf .l1dLfbHitLdRetired) (occOf .l1dLfbHitLdRetired) (incrementOf .l1dLfbHitLdRetired) s := (rfl)
theorem execRule_l2dLfbHitLdRetired (s : State) :
    exec .l2dLfbHitLdRetired s = countEvent .l2dLfbHitLdRetired (attributionOf .l2dLfbHitLdRetired) (occOf .l2dLfbHitLdRetired) (incrementOf .l2dLfbHitLdRetired) s := (rfl)
theorem execRule_l3dLfbHitLdRetired (s : State) :
    exec .l3dLfbHitLdRetired s = countEvent .l3dLfbHitLdRetired (attributionOf .l3dLfbHitLdRetired) (occOf .l3dLfbHitLdRetired) (incrementOf .l3dLfbHitLdRetired) s := (rfl)
theorem execRule_llLfbHitLdRetired (s : State) :
    exec .llLfbHitLdRetired s = countEvent .llLfbHitLdRetired (attributionOf .llLfbHitLdRetired) (occOf .llLfbHitLdRetired) (incrementOf .llLfbHitLdRetired) s := (rfl)
theorem execRule_l1dLfbHitStRetired (s : State) :
    exec .l1dLfbHitStRetired s = countEvent .l1dLfbHitStRetired (attributionOf .l1dLfbHitStRetired) (occOf .l1dLfbHitStRetired) (incrementOf .l1dLfbHitStRetired) s := (rfl)
theorem execRule_l2dLfbHitStRetired (s : State) :
    exec .l2dLfbHitStRetired s = countEvent .l2dLfbHitStRetired (attributionOf .l2dLfbHitStRetired) (occOf .l2dLfbHitStRetired) (incrementOf .l2dLfbHitStRetired) s := (rfl)
theorem execRule_l3dLfbHitStRetired (s : State) :
    exec .l3dLfbHitStRetired s = countEvent .l3dLfbHitStRetired (attributionOf .l3dLfbHitStRetired) (occOf .l3dLfbHitStRetired) (incrementOf .l3dLfbHitStRetired) s := (rfl)
theorem execRule_llLfbHitStRetired (s : State) :
    exec .llLfbHitStRetired s = countEvent .llLfbHitStRetired (attributionOf .llLfbHitStRetired) (occOf .llLfbHitStRetired) (incrementOf .llLfbHitStRetired) s := (rfl)
theorem execRule_l1dLfbHitLdstRetired (s : State) :
    exec .l1dLfbHitLdstRetired s = countEvent .l1dLfbHitLdstRetired (attributionOf .l1dLfbHitLdstRetired) (occOf .l1dLfbHitLdstRetired) (incrementOf .l1dLfbHitLdstRetired) s := (rfl)
theorem execRule_l2dLfbHitLdstRetired (s : State) :
    exec .l2dLfbHitLdstRetired s = countEvent .l2dLfbHitLdstRetired (attributionOf .l2dLfbHitLdstRetired) (occOf .l2dLfbHitLdstRetired) (incrementOf .l2dLfbHitLdstRetired) s := (rfl)
theorem execRule_l3dLfbHitLdstRetired (s : State) :
    exec .l3dLfbHitLdstRetired s = countEvent .l3dLfbHitLdstRetired (attributionOf .l3dLfbHitLdstRetired) (occOf .l3dLfbHitLdstRetired) (incrementOf .l3dLfbHitLdstRetired) s := (rfl)
theorem execRule_llLfbHitLdstRetired (s : State) :
    exec .llLfbHitLdstRetired s = countEvent .llLfbHitLdstRetired (attributionOf .llLfbHitLdstRetired) (occOf .llLfbHitLdstRetired) (incrementOf .llLfbHitLdstRetired) s := (rfl)
theorem execRule_l1iCacheHitRetired (s : State) :
    exec .l1iCacheHitRetired s = countEvent .l1iCacheHitRetired (attributionOf .l1iCacheHitRetired) (occOf .l1iCacheHitRetired) (incrementOf .l1iCacheHitRetired) s := (rfl)
theorem execRule_l2iCacheHitRetired (s : State) :
    exec .l2iCacheHitRetired s = countEvent .l2iCacheHitRetired (attributionOf .l2iCacheHitRetired) (occOf .l2iCacheHitRetired) (incrementOf .l2iCacheHitRetired) s := (rfl)
theorem execRule_l1dCacheHitLdRetired (s : State) :
    exec .l1dCacheHitLdRetired s = countEvent .l1dCacheHitLdRetired (attributionOf .l1dCacheHitLdRetired) (occOf .l1dCacheHitLdRetired) (incrementOf .l1dCacheHitLdRetired) s := (rfl)
theorem execRule_l2dCacheHitLdRetired (s : State) :
    exec .l2dCacheHitLdRetired s = countEvent .l2dCacheHitLdRetired (attributionOf .l2dCacheHitLdRetired) (occOf .l2dCacheHitLdRetired) (incrementOf .l2dCacheHitLdRetired) s := (rfl)
theorem execRule_l3dCacheHitLdRetired (s : State) :
    exec .l3dCacheHitLdRetired s = countEvent .l3dCacheHitLdRetired (attributionOf .l3dCacheHitLdRetired) (occOf .l3dCacheHitLdRetired) (incrementOf .l3dCacheHitLdRetired) s := (rfl)
theorem execRule_llCacheHitLdRetired (s : State) :
    exec .llCacheHitLdRetired s = countEvent .llCacheHitLdRetired (attributionOf .llCacheHitLdRetired) (occOf .llCacheHitLdRetired) (incrementOf .llCacheHitLdRetired) s := (rfl)
theorem execRule_l1dCacheHitStRetired (s : State) :
    exec .l1dCacheHitStRetired s = countEvent .l1dCacheHitStRetired (attributionOf .l1dCacheHitStRetired) (occOf .l1dCacheHitStRetired) (incrementOf .l1dCacheHitStRetired) s := (rfl)
theorem execRule_l2dCacheHitStRetired (s : State) :
    exec .l2dCacheHitStRetired s = countEvent .l2dCacheHitStRetired (attributionOf .l2dCacheHitStRetired) (occOf .l2dCacheHitStRetired) (incrementOf .l2dCacheHitStRetired) s := (rfl)
theorem execRule_l3dCacheHitStRetired (s : State) :
    exec .l3dCacheHitStRetired s = countEvent .l3dCacheHitStRetired (attributionOf .l3dCacheHitStRetired) (occOf .l3dCacheHitStRetired) (incrementOf .l3dCacheHitStRetired) s := (rfl)
theorem execRule_llCacheHitStRetired (s : State) :
    exec .llCacheHitStRetired s = countEvent .llCacheHitStRetired (attributionOf .llCacheHitStRetired) (occOf .llCacheHitStRetired) (incrementOf .llCacheHitStRetired) s := (rfl)
theorem execRule_l1dCacheHitLdstRetired (s : State) :
    exec .l1dCacheHitLdstRetired s = countEvent .l1dCacheHitLdstRetired (attributionOf .l1dCacheHitLdstRetired) (occOf .l1dCacheHitLdstRetired) (incrementOf .l1dCacheHitLdstRetired) s := (rfl)
theorem execRule_l2dCacheHitLdstRetired (s : State) :
    exec .l2dCacheHitLdstRetired s = countEvent .l2dCacheHitLdstRetired (attributionOf .l2dCacheHitLdstRetired) (occOf .l2dCacheHitLdstRetired) (incrementOf .l2dCacheHitLdstRetired) s := (rfl)
theorem execRule_l3dCacheHitLdstRetired (s : State) :
    exec .l3dCacheHitLdstRetired s = countEvent .l3dCacheHitLdstRetired (attributionOf .l3dCacheHitLdstRetired) (occOf .l3dCacheHitLdstRetired) (incrementOf .l3dCacheHitLdstRetired) s := (rfl)
theorem execRule_llCacheHitLdstRetired (s : State) :
    exec .llCacheHitLdstRetired s = countEvent .llCacheHitLdstRetired (attributionOf .llCacheHitLdstRetired) (occOf .llCacheHitLdstRetired) (incrementOf .llCacheHitLdstRetired) s := (rfl)
theorem execRule_itlbHitRetired (s : State) :
    exec .itlbHitRetired s = countEvent .itlbHitRetired (attributionOf .itlbHitRetired) (occOf .itlbHitRetired) (incrementOf .itlbHitRetired) s := (rfl)
theorem execRule_dtlbHitLdRetired (s : State) :
    exec .dtlbHitLdRetired s = countEvent .dtlbHitLdRetired (attributionOf .dtlbHitLdRetired) (occOf .dtlbHitLdRetired) (incrementOf .dtlbHitLdRetired) s := (rfl)
theorem execRule_dtlbHitStRetired (s : State) :
    exec .dtlbHitStRetired s = countEvent .dtlbHitStRetired (attributionOf .dtlbHitStRetired) (occOf .dtlbHitStRetired) (incrementOf .dtlbHitStRetired) s := (rfl)
theorem execRule_dtlbHitLdstRetired (s : State) :
    exec .dtlbHitLdstRetired s = countEvent .dtlbHitLdstRetired (attributionOf .dtlbHitLdstRetired) (occOf .dtlbHitLdstRetired) (incrementOf .dtlbHitLdstRetired) s := (rfl)
theorem execRule_itlbWalkRetired (s : State) :
    exec .itlbWalkRetired s = countEvent .itlbWalkRetired (attributionOf .itlbWalkRetired) (occOf .itlbWalkRetired) (incrementOf .itlbWalkRetired) s := (rfl)
theorem execRule_dtlbWalkLdRetired (s : State) :
    exec .dtlbWalkLdRetired s = countEvent .dtlbWalkLdRetired (attributionOf .dtlbWalkLdRetired) (occOf .dtlbWalkLdRetired) (incrementOf .dtlbWalkLdRetired) s := (rfl)
theorem execRule_dtlbWalkStRetired (s : State) :
    exec .dtlbWalkStRetired s = countEvent .dtlbWalkStRetired (attributionOf .dtlbWalkStRetired) (occOf .dtlbWalkStRetired) (incrementOf .dtlbWalkStRetired) s := (rfl)
theorem execRule_dtlbWalkLdstRetired (s : State) :
    exec .dtlbWalkLdstRetired s = countEvent .dtlbWalkLdstRetired (attributionOf .dtlbWalkLdstRetired) (occOf .dtlbWalkLdstRetired) (incrementOf .dtlbWalkLdstRetired) s := (rfl)
theorem execRule_dtlbWalkPrf (s : State) :
    exec .dtlbWalkPrf s = countEvent .dtlbWalkPrf (attributionOf .dtlbWalkPrf) (occOf .dtlbWalkPrf) (incrementOf .dtlbWalkPrf) s := (rfl)
theorem execRule_itlbWalkPrf (s : State) :
    exec .itlbWalkPrf s = countEvent .itlbWalkPrf (attributionOf .itlbWalkPrf) (occOf .itlbWalkPrf) (incrementOf .itlbWalkPrf) s := (rfl)
theorem execRule_dtlbWalkHwprf (s : State) :
    exec .dtlbWalkHwprf s = countEvent .dtlbWalkHwprf (attributionOf .dtlbWalkHwprf) (occOf .dtlbWalkHwprf) (incrementOf .dtlbWalkHwprf) s := (rfl)
theorem execRule_itlbWalkHwprf (s : State) :
    exec .itlbWalkHwprf s = countEvent .itlbWalkHwprf (attributionOf .itlbWalkHwprf) (occOf .itlbWalkHwprf) (incrementOf .itlbWalkHwprf) s := (rfl)
theorem execRule_l1dTlbPrf (s : State) :
    exec .l1dTlbPrf s = countEvent .l1dTlbPrf (attributionOf .l1dTlbPrf) (occOf .l1dTlbPrf) (incrementOf .l1dTlbPrf) s := (rfl)
theorem execRule_l1iTlbPrf (s : State) :
    exec .l1iTlbPrf s = countEvent .l1iTlbPrf (attributionOf .l1iTlbPrf) (occOf .l1iTlbPrf) (incrementOf .l1iTlbPrf) s := (rfl)
theorem execRule_l1dTlbHwprf (s : State) :
    exec .l1dTlbHwprf s = countEvent .l1dTlbHwprf (attributionOf .l1dTlbHwprf) (occOf .l1dTlbHwprf) (incrementOf .l1dTlbHwprf) s := (rfl)
theorem execRule_l1iTlbHwprf (s : State) :
    exec .l1iTlbHwprf s = countEvent .l1iTlbHwprf (attributionOf .l1iTlbHwprf) (occOf .l1iTlbHwprf) (incrementOf .l1iTlbHwprf) s := (rfl)
theorem execRule_dsnpHitmLdRetired (s : State) :
    exec .dsnpHitmLdRetired s = countEvent .dsnpHitmLdRetired (attributionOf .dsnpHitmLdRetired) (occOf .dsnpHitmLdRetired) (incrementOf .dsnpHitmLdRetired) s := (rfl)
theorem execRule_dsnpHitmNearLdRetired (s : State) :
    exec .dsnpHitmNearLdRetired s = countEvent .dsnpHitmNearLdRetired (attributionOf .dsnpHitmNearLdRetired) (occOf .dsnpHitmNearLdRetired) (incrementOf .dsnpHitmNearLdRetired) s := (rfl)
theorem execRule_dsnpHitmFarLdRetired (s : State) :
    exec .dsnpHitmFarLdRetired s = countEvent .dsnpHitmFarLdRetired (attributionOf .dsnpHitmFarLdRetired) (occOf .dsnpHitmFarLdRetired) (incrementOf .dsnpHitmFarLdRetired) s := (rfl)
theorem execRule_dsnpHitmRemoteLdRetired (s : State) :
    exec .dsnpHitmRemoteLdRetired s = countEvent .dsnpHitmRemoteLdRetired (attributionOf .dsnpHitmRemoteLdRetired) (occOf .dsnpHitmRemoteLdRetired) (incrementOf .dsnpHitmRemoteLdRetired) s := (rfl)
theorem execRule_dsnpHitmStRetired (s : State) :
    exec .dsnpHitmStRetired s = countEvent .dsnpHitmStRetired (attributionOf .dsnpHitmStRetired) (occOf .dsnpHitmStRetired) (incrementOf .dsnpHitmStRetired) s := (rfl)
theorem execRule_dsnpHitmNearStRetired (s : State) :
    exec .dsnpHitmNearStRetired s = countEvent .dsnpHitmNearStRetired (attributionOf .dsnpHitmNearStRetired) (occOf .dsnpHitmNearStRetired) (incrementOf .dsnpHitmNearStRetired) s := (rfl)
theorem execRule_dsnpHitmFarStRetired (s : State) :
    exec .dsnpHitmFarStRetired s = countEvent .dsnpHitmFarStRetired (attributionOf .dsnpHitmFarStRetired) (occOf .dsnpHitmFarStRetired) (incrementOf .dsnpHitmFarStRetired) s := (rfl)
theorem execRule_dsnpHitmRemoteStRetired (s : State) :
    exec .dsnpHitmRemoteStRetired s = countEvent .dsnpHitmRemoteStRetired (attributionOf .dsnpHitmRemoteStRetired) (occOf .dsnpHitmRemoteStRetired) (incrementOf .dsnpHitmRemoteStRetired) s := (rfl)
theorem execRule_dsnpHitmLdstRetired (s : State) :
    exec .dsnpHitmLdstRetired s = countEvent .dsnpHitmLdstRetired (attributionOf .dsnpHitmLdstRetired) (occOf .dsnpHitmLdstRetired) (incrementOf .dsnpHitmLdstRetired) s := (rfl)
theorem execRule_dsnpHitmNearLdstRetired (s : State) :
    exec .dsnpHitmNearLdstRetired s = countEvent .dsnpHitmNearLdstRetired (attributionOf .dsnpHitmNearLdstRetired) (occOf .dsnpHitmNearLdstRetired) (incrementOf .dsnpHitmNearLdstRetired) s := (rfl)
theorem execRule_dsnpHitmFarLdstRetired (s : State) :
    exec .dsnpHitmFarLdstRetired s = countEvent .dsnpHitmFarLdstRetired (attributionOf .dsnpHitmFarLdstRetired) (occOf .dsnpHitmFarLdstRetired) (incrementOf .dsnpHitmFarLdstRetired) s := (rfl)
theorem execRule_dsnpHitmRemoteLdstRetired (s : State) :
    exec .dsnpHitmRemoteLdstRetired s = countEvent .dsnpHitmRemoteLdstRetired (attributionOf .dsnpHitmRemoteLdstRetired) (occOf .dsnpHitmRemoteLdstRetired) (incrementOf .dsnpHitmRemoteLdstRetired) s := (rfl)
theorem execRule_isnpHitRetired (s : State) :
    exec .isnpHitRetired s = countEvent .isnpHitRetired (attributionOf .isnpHitRetired) (occOf .isnpHitRetired) (incrementOf .isnpHitRetired) s := (rfl)
theorem execRule_isnpHitNearRetired (s : State) :
    exec .isnpHitNearRetired s = countEvent .isnpHitNearRetired (attributionOf .isnpHitNearRetired) (occOf .isnpHitNearRetired) (incrementOf .isnpHitNearRetired) s := (rfl)
theorem execRule_isnpHitFarRetired (s : State) :
    exec .isnpHitFarRetired s = countEvent .isnpHitFarRetired (attributionOf .isnpHitFarRetired) (occOf .isnpHitFarRetired) (incrementOf .isnpHitFarRetired) s := (rfl)
theorem execRule_isnpHitRemoteRetired (s : State) :
    exec .isnpHitRemoteRetired s = countEvent .isnpHitRemoteRetired (attributionOf .isnpHitRemoteRetired) (occOf .isnpHitRemoteRetired) (incrementOf .isnpHitRemoteRetired) s := (rfl)
theorem execRule_dsnpHitLdRetired (s : State) :
    exec .dsnpHitLdRetired s = countEvent .dsnpHitLdRetired (attributionOf .dsnpHitLdRetired) (occOf .dsnpHitLdRetired) (incrementOf .dsnpHitLdRetired) s := (rfl)
theorem execRule_dsnpHitNearLdRetired (s : State) :
    exec .dsnpHitNearLdRetired s = countEvent .dsnpHitNearLdRetired (attributionOf .dsnpHitNearLdRetired) (occOf .dsnpHitNearLdRetired) (incrementOf .dsnpHitNearLdRetired) s := (rfl)
theorem execRule_dsnpHitFarLdRetired (s : State) :
    exec .dsnpHitFarLdRetired s = countEvent .dsnpHitFarLdRetired (attributionOf .dsnpHitFarLdRetired) (occOf .dsnpHitFarLdRetired) (incrementOf .dsnpHitFarLdRetired) s := (rfl)
theorem execRule_dsnpHitRemoteLdRetired (s : State) :
    exec .dsnpHitRemoteLdRetired s = countEvent .dsnpHitRemoteLdRetired (attributionOf .dsnpHitRemoteLdRetired) (occOf .dsnpHitRemoteLdRetired) (incrementOf .dsnpHitRemoteLdRetired) s := (rfl)
theorem execRule_dsnpHitStRetired (s : State) :
    exec .dsnpHitStRetired s = countEvent .dsnpHitStRetired (attributionOf .dsnpHitStRetired) (occOf .dsnpHitStRetired) (incrementOf .dsnpHitStRetired) s := (rfl)
theorem execRule_dsnpHitNearStRetired (s : State) :
    exec .dsnpHitNearStRetired s = countEvent .dsnpHitNearStRetired (attributionOf .dsnpHitNearStRetired) (occOf .dsnpHitNearStRetired) (incrementOf .dsnpHitNearStRetired) s := (rfl)
theorem execRule_dsnpHitFarStRetired (s : State) :
    exec .dsnpHitFarStRetired s = countEvent .dsnpHitFarStRetired (attributionOf .dsnpHitFarStRetired) (occOf .dsnpHitFarStRetired) (incrementOf .dsnpHitFarStRetired) s := (rfl)
theorem execRule_dsnpHitRemoteStRetired (s : State) :
    exec .dsnpHitRemoteStRetired s = countEvent .dsnpHitRemoteStRetired (attributionOf .dsnpHitRemoteStRetired) (occOf .dsnpHitRemoteStRetired) (incrementOf .dsnpHitRemoteStRetired) s := (rfl)
theorem execRule_dsnpHitLdstRetired (s : State) :
    exec .dsnpHitLdstRetired s = countEvent .dsnpHitLdstRetired (attributionOf .dsnpHitLdstRetired) (occOf .dsnpHitLdstRetired) (incrementOf .dsnpHitLdstRetired) s := (rfl)
theorem execRule_dsnpHitNearLdstRetired (s : State) :
    exec .dsnpHitNearLdstRetired s = countEvent .dsnpHitNearLdstRetired (attributionOf .dsnpHitNearLdstRetired) (occOf .dsnpHitNearLdstRetired) (incrementOf .dsnpHitNearLdstRetired) s := (rfl)
theorem execRule_dsnpHitFarLdstRetired (s : State) :
    exec .dsnpHitFarLdstRetired s = countEvent .dsnpHitFarLdstRetired (attributionOf .dsnpHitFarLdstRetired) (occOf .dsnpHitFarLdstRetired) (incrementOf .dsnpHitFarLdstRetired) s := (rfl)
theorem execRule_dsnpHitRemoteLdstRetired (s : State) :
    exec .dsnpHitRemoteLdstRetired s = countEvent .dsnpHitRemoteLdstRetired (attributionOf .dsnpHitRemoteLdstRetired) (occOf .dsnpHitRemoteLdstRetired) (incrementOf .dsnpHitRemoteLdstRetired) s := (rfl)
theorem execRule_l1dCacheRefillPercyc (s : State) :
    exec .l1dCacheRefillPercyc s = countEvent .l1dCacheRefillPercyc (attributionOf .l1dCacheRefillPercyc) (occOf .l1dCacheRefillPercyc) (incrementOf .l1dCacheRefillPercyc) s := (rfl)
theorem execRule_l2dCacheRefillPercyc (s : State) :
    exec .l2dCacheRefillPercyc s = countEvent .l2dCacheRefillPercyc (attributionOf .l2dCacheRefillPercyc) (occOf .l2dCacheRefillPercyc) (incrementOf .l2dCacheRefillPercyc) s := (rfl)
theorem execRule_l3dCacheRefillPercyc (s : State) :
    exec .l3dCacheRefillPercyc s = countEvent .l3dCacheRefillPercyc (attributionOf .l3dCacheRefillPercyc) (occOf .l3dCacheRefillPercyc) (incrementOf .l3dCacheRefillPercyc) s := (rfl)
theorem execRule_l1iCacheRefillPercyc (s : State) :
    exec .l1iCacheRefillPercyc s = countEvent .l1iCacheRefillPercyc (attributionOf .l1iCacheRefillPercyc) (occOf .l1iCacheRefillPercyc) (incrementOf .l1iCacheRefillPercyc) s := (rfl)
theorem execRule_l2iCacheRefillPercyc (s : State) :
    exec .l2iCacheRefillPercyc s = countEvent .l2iCacheRefillPercyc (attributionOf .l2iCacheRefillPercyc) (occOf .l2iCacheRefillPercyc) (incrementOf .l2iCacheRefillPercyc) s := (rfl)
theorem execRule_remoteCacheHitRd (s : State) :
    exec .remoteCacheHitRd s = countEvent .remoteCacheHitRd (attributionOf .remoteCacheHitRd) (occOf .remoteCacheHitRd) (incrementOf .remoteCacheHitRd) s := (rfl)
theorem execRule_remoteCacheHitmRd (s : State) :
    exec .remoteCacheHitmRd s = countEvent .remoteCacheHitmRd (attributionOf .remoteCacheHitmRd) (occOf .remoteCacheHitmRd) (incrementOf .remoteCacheHitmRd) s := (rfl)
theorem execRule_remoteLfbHitRd (s : State) :
    exec .remoteLfbHitRd s = countEvent .remoteLfbHitRd (attributionOf .remoteLfbHitRd) (occOf .remoteLfbHitRd) (incrementOf .remoteLfbHitRd) s := (rfl)
theorem execRule_remoteCacheHitPrfm (s : State) :
    exec .remoteCacheHitPrfm s = countEvent .remoteCacheHitPrfm (attributionOf .remoteCacheHitPrfm) (occOf .remoteCacheHitPrfm) (incrementOf .remoteCacheHitPrfm) s := (rfl)
theorem execRule_stallBackendAtomicFp (s : State) :
    exec .stallBackendAtomicFp s = countEvent .stallBackendAtomicFp (attributionOf .stallBackendAtomicFp) (occOf .stallBackendAtomicFp) (incrementOf .stallBackendAtomicFp) s := (rfl)
theorem execRule_lseFpLdSpec (s : State) :
    exec .lseFpLdSpec s = countEvent .lseFpLdSpec (attributionOf .lseFpLdSpec) (occOf .lseFpLdSpec) (incrementOf .lseFpLdSpec) s := (rfl)
theorem execRule_lseFpStSpec (s : State) :
    exec .lseFpStSpec s = countEvent .lseFpStSpec (attributionOf .lseFpStSpec) (occOf .lseFpStSpec) (incrementOf .lseFpStSpec) s := (rfl)
theorem execRule_lseFpLdstSpec (s : State) :
    exec .lseFpLdstSpec s = countEvent .lseFpLdstSpec (attributionOf .lseFpLdstSpec) (occOf .lseFpLdstSpec) (incrementOf .lseFpLdstSpec) s := (rfl)
theorem execRule_l1gcsCache (s : State) :
    exec .l1gcsCache s = countEvent .l1gcsCache (attributionOf .l1gcsCache) (occOf .l1gcsCache) (incrementOf .l1gcsCache) s := (rfl)
theorem execRule_l1gcsCacheRw (s : State) :
    exec .l1gcsCacheRw s = countEvent .l1gcsCacheRw (attributionOf .l1gcsCacheRw) (occOf .l1gcsCacheRw) (incrementOf .l1gcsCacheRw) s := (rfl)
theorem execRule_l1gcsCacheHwprf (s : State) :
    exec .l1gcsCacheHwprf s = countEvent .l1gcsCacheHwprf (attributionOf .l1gcsCacheHwprf) (occOf .l1gcsCacheHwprf) (incrementOf .l1gcsCacheHwprf) s := (rfl)
theorem execRule_l1gcsCacheMiss (s : State) :
    exec .l1gcsCacheMiss s = countEvent .l1gcsCacheMiss (attributionOf .l1gcsCacheMiss) (occOf .l1gcsCacheMiss) (incrementOf .l1gcsCacheMiss) s := (rfl)
theorem execRule_l1gcsCacheMissRd (s : State) :
    exec .l1gcsCacheMissRd s = countEvent .l1gcsCacheMissRd (attributionOf .l1gcsCacheMissRd) (occOf .l1gcsCacheMissRd) (incrementOf .l1gcsCacheMissRd) s := (rfl)
theorem execRule_l1gcsCacheHitRw (s : State) :
    exec .l1gcsCacheHitRw s = countEvent .l1gcsCacheHitRw (attributionOf .l1gcsCacheHitRw) (occOf .l1gcsCacheHitRw) (incrementOf .l1gcsCacheHitRw) s := (rfl)
theorem execRule_l1gcsCacheHitRwFhwprf (s : State) :
    exec .l1gcsCacheHitRwFhwprf s = countEvent .l1gcsCacheHitRwFhwprf (attributionOf .l1gcsCacheHitRwFhwprf) (occOf .l1gcsCacheHitRwFhwprf) (incrementOf .l1gcsCacheHitRwFhwprf) s := (rfl)
theorem execRule_l1gcsCacheRefill (s : State) :
    exec .l1gcsCacheRefill s = countEvent .l1gcsCacheRefill (attributionOf .l1gcsCacheRefill) (occOf .l1gcsCacheRefill) (incrementOf .l1gcsCacheRefill) s := (rfl)
theorem execRule_l1gcsCacheRefillHwprf (s : State) :
    exec .l1gcsCacheRefillHwprf s = countEvent .l1gcsCacheRefillHwprf (attributionOf .l1gcsCacheRefillHwprf) (occOf .l1gcsCacheRefillHwprf) (incrementOf .l1gcsCacheRefillHwprf) s := (rfl)
theorem execRule_l1gcsCacheRefillPercyc (s : State) :
    exec .l1gcsCacheRefillPercyc s = countEvent .l1gcsCacheRefillPercyc (attributionOf .l1gcsCacheRefillPercyc) (occOf .l1gcsCacheRefillPercyc) (incrementOf .l1gcsCacheRefillPercyc) s := (rfl)
theorem execRule_l1gcsLfbHitRw (s : State) :
    exec .l1gcsLfbHitRw s = countEvent .l1gcsLfbHitRw (attributionOf .l1gcsLfbHitRw) (occOf .l1gcsLfbHitRw) (incrementOf .l1gcsLfbHitRw) s := (rfl)
theorem execRule_l1gcsLfbHitRwFhwprf (s : State) :
    exec .l1gcsLfbHitRwFhwprf s = countEvent .l1gcsLfbHitRwFhwprf (attributionOf .l1gcsLfbHitRwFhwprf) (occOf .l1gcsLfbHitRwFhwprf) (incrementOf .l1gcsLfbHitRwFhwprf) s := (rfl)
theorem execRule_l1gcsCacheInval (s : State) :
    exec .l1gcsCacheInval s = countEvent .l1gcsCacheInval (attributionOf .l1gcsCacheInval) (occOf .l1gcsCacheInval) (incrementOf .l1gcsCacheInval) s := (rfl)
theorem execRule_l1gcsTlb (s : State) :
    exec .l1gcsTlb s = countEvent .l1gcsTlb (attributionOf .l1gcsTlb) (occOf .l1gcsTlb) (incrementOf .l1gcsTlb) s := (rfl)
theorem execRule_l1gcsTlbRw (s : State) :
    exec .l1gcsTlbRw s = countEvent .l1gcsTlbRw (attributionOf .l1gcsTlbRw) (occOf .l1gcsTlbRw) (incrementOf .l1gcsTlbRw) s := (rfl)
theorem execRule_l1gcsTlbHwprf (s : State) :
    exec .l1gcsTlbHwprf s = countEvent .l1gcsTlbHwprf (attributionOf .l1gcsTlbHwprf) (occOf .l1gcsTlbHwprf) (incrementOf .l1gcsTlbHwprf) s := (rfl)
theorem execRule_gcstlbWalk (s : State) :
    exec .gcstlbWalk s = countEvent .gcstlbWalk (attributionOf .gcstlbWalk) (occOf .gcstlbWalk) (incrementOf .gcstlbWalk) s := (rfl)
theorem execRule_gcstlbWalkRw (s : State) :
    exec .gcstlbWalkRw s = countEvent .gcstlbWalkRw (attributionOf .gcstlbWalkRw) (occOf .gcstlbWalkRw) (incrementOf .gcstlbWalkRw) s := (rfl)
theorem execRule_gcstlbWalkPercyc (s : State) :
    exec .gcstlbWalkPercyc s = countEvent .gcstlbWalkPercyc (attributionOf .gcstlbWalkPercyc) (occOf .gcstlbWalkPercyc) (incrementOf .gcstlbWalkPercyc) s := (rfl)
theorem execRule_gcstlbWalkStep (s : State) :
    exec .gcstlbWalkStep s = countEvent .gcstlbWalkStep (attributionOf .gcstlbWalkStep) (occOf .gcstlbWalkStep) (incrementOf .gcstlbWalkStep) s := (rfl)
theorem execRule_sampleFeedFp (s : State) :
    exec .sampleFeedFp s = countEvent .sampleFeedFp (attributionOf .sampleFeedFp) (occOf .sampleFeedFp) (incrementOf .sampleFeedFp) s := (rfl)
theorem execRule_sampleFeedSimd (s : State) :
    exec .sampleFeedSimd s = countEvent .sampleFeedSimd (attributionOf .sampleFeedSimd) (occOf .sampleFeedSimd) (incrementOf .sampleFeedSimd) s := (rfl)
theorem execRule_stallBackendL1gcs (s : State) :
    exec .stallBackendL1gcs s = countEvent .stallBackendL1gcs (attributionOf .stallBackendL1gcs) (occOf .stallBackendL1gcs) (incrementOf .stallBackendL1gcs) s := (rfl)
theorem execRule_stallBackendGcstlb (s : State) :
    exec .stallBackendGcstlb s = countEvent .stallBackendGcstlb (attributionOf .stallBackendGcstlb) (occOf .stallBackendGcstlb) (incrementOf .stallBackendGcstlb) s := (rfl)
theorem execRule_smeFpSpec (s : State) :
    exec .smeFpSpec s = countEvent .smeFpSpec (attributionOf .smeFpSpec) (occOf .smeFpSpec) (incrementOf .smeFpSpec) s := (rfl)
theorem execRule_seFpSpec (s : State) :
    exec .seFpSpec s = countEvent .seFpSpec (attributionOf .seFpSpec) (occOf .seFpSpec) (incrementOf .seFpSpec) s := (rfl)
theorem execRule_sveCmpIgranuleSpec (s : State) :
    exec .sveCmpIgranuleSpec s = countEvent .sveCmpIgranuleSpec (attributionOf .sveCmpIgranuleSpec) (occOf .sveCmpIgranuleSpec) (incrementOf .sveCmpIgranuleSpec) s := (rfl)
theorem execRule_sveCmpXgranuleSpec (s : State) :
    exec .sveCmpXgranuleSpec s = countEvent .sveCmpXgranuleSpec (attributionOf .sveCmpXgranuleSpec) (occOf .sveCmpXgranuleSpec) (incrementOf .sveCmpXgranuleSpec) s := (rfl)
theorem execRule_sveBitpermSpec (s : State) :
    exec .sveBitpermSpec s = countEvent .sveBitpermSpec (attributionOf .sveBitpermSpec) (occOf .sveBitpermSpec) (incrementOf .sveBitpermSpec) s := (rfl)
theorem execRule_smeSpec (s : State) :
    exec .smeSpec s = countEvent .smeSpec (attributionOf .smeSpec) (occOf .smeSpec) (incrementOf .smeSpec) s := (rfl)
theorem execRule_seSpec (s : State) :
    exec .seSpec s = countEvent .seSpec (attributionOf .seSpec) (occOf .seSpec) (incrementOf .seSpec) s := (rfl)
theorem execRule_smeInstSpec (s : State) :
    exec .smeInstSpec s = countEvent .smeInstSpec (attributionOf .smeInstSpec) (occOf .smeInstSpec) (incrementOf .smeInstSpec) s := (rfl)
theorem execRule_seInstSpec (s : State) :
    exec .seInstSpec s = countEvent .seInstSpec (attributionOf .seInstSpec) (occOf .seInstSpec) (incrementOf .seInstSpec) s := (rfl)
theorem execRule_smeInt8Spec (s : State) :
    exec .smeInt8Spec s = countEvent .smeInt8Spec (attributionOf .smeInt8Spec) (occOf .smeInt8Spec) (incrementOf .smeInt8Spec) s := (rfl)
theorem execRule_seInt8Spec (s : State) :
    exec .seInt8Spec s = countEvent .seInt8Spec (attributionOf .seInt8Spec) (occOf .seInt8Spec) (incrementOf .seInt8Spec) s := (rfl)
theorem execRule_smeFpBf16Spec (s : State) :
    exec .smeFpBf16Spec s = countEvent .smeFpBf16Spec (attributionOf .smeFpBf16Spec) (occOf .smeFpBf16Spec) (incrementOf .smeFpBf16Spec) s := (rfl)
theorem execRule_seFpBf16Spec (s : State) :
    exec .seFpBf16Spec s = countEvent .seFpBf16Spec (attributionOf .seFpBf16Spec) (occOf .seFpBf16Spec) (incrementOf .seFpBf16Spec) s := (rfl)
theorem execRule_smeInt16Spec (s : State) :
    exec .smeInt16Spec s = countEvent .smeInt16Spec (attributionOf .smeInt16Spec) (occOf .smeInt16Spec) (incrementOf .smeInt16Spec) s := (rfl)
theorem execRule_seInt16Spec (s : State) :
    exec .seInt16Spec s = countEvent .seInt16Spec (attributionOf .seInt16Spec) (occOf .seInt16Spec) (incrementOf .seInt16Spec) s := (rfl)
theorem execRule_smeFpHpSpec (s : State) :
    exec .smeFpHpSpec s = countEvent .smeFpHpSpec (attributionOf .smeFpHpSpec) (occOf .smeFpHpSpec) (incrementOf .smeFpHpSpec) s := (rfl)
theorem execRule_seFpHpSpec (s : State) :
    exec .seFpHpSpec s = countEvent .seFpHpSpec (attributionOf .seFpHpSpec) (occOf .seFpHpSpec) (incrementOf .seFpHpSpec) s := (rfl)
theorem execRule_smeInt32Spec (s : State) :
    exec .smeInt32Spec s = countEvent .smeInt32Spec (attributionOf .smeInt32Spec) (occOf .smeInt32Spec) (incrementOf .smeInt32Spec) s := (rfl)
theorem execRule_seInt32Spec (s : State) :
    exec .seInt32Spec s = countEvent .seInt32Spec (attributionOf .seInt32Spec) (occOf .seInt32Spec) (incrementOf .seInt32Spec) s := (rfl)
theorem execRule_smeFpSpSpec (s : State) :
    exec .smeFpSpSpec s = countEvent .smeFpSpSpec (attributionOf .smeFpSpSpec) (occOf .smeFpSpSpec) (incrementOf .smeFpSpSpec) s := (rfl)
theorem execRule_seFpSpSpec (s : State) :
    exec .seFpSpSpec s = countEvent .seFpSpSpec (attributionOf .seFpSpSpec) (occOf .seFpSpSpec) (incrementOf .seFpSpSpec) s := (rfl)
theorem execRule_smeInt64Spec (s : State) :
    exec .smeInt64Spec s = countEvent .smeInt64Spec (attributionOf .smeInt64Spec) (occOf .smeInt64Spec) (incrementOf .smeInt64Spec) s := (rfl)
theorem execRule_seInt64Spec (s : State) :
    exec .seInt64Spec s = countEvent .seInt64Spec (attributionOf .seInt64Spec) (occOf .seInt64Spec) (incrementOf .seInt64Spec) s := (rfl)
theorem execRule_smeFpDpSpec (s : State) :
    exec .smeFpDpSpec s = countEvent .smeFpDpSpec (attributionOf .smeFpDpSpec) (occOf .smeFpDpSpec) (incrementOf .smeFpDpSpec) s := (rfl)
theorem execRule_seFpDpSpec (s : State) :
    exec .seFpDpSpec s = countEvent .seFpDpSpec (attributionOf .seFpDpSpec) (occOf .seFpDpSpec) (incrementOf .seFpDpSpec) s := (rfl)
theorem execRule_smeFpAddsubSpec (s : State) :
    exec .smeFpAddsubSpec s = countEvent .smeFpAddsubSpec (attributionOf .smeFpAddsubSpec) (occOf .smeFpAddsubSpec) (incrementOf .smeFpAddsubSpec) s := (rfl)
theorem execRule_seFpAddsubSpec (s : State) :
    exec .seFpAddsubSpec s = countEvent .seFpAddsubSpec (attributionOf .seFpAddsubSpec) (occOf .seFpAddsubSpec) (incrementOf .seFpAddsubSpec) s := (rfl)
theorem execRule_smeFpFmaSpec (s : State) :
    exec .smeFpFmaSpec s = countEvent .smeFpFmaSpec (attributionOf .smeFpFmaSpec) (occOf .smeFpFmaSpec) (incrementOf .smeFpFmaSpec) s := (rfl)
theorem execRule_seFpFmaSpec (s : State) :
    exec .seFpFmaSpec s = countEvent .seFpFmaSpec (attributionOf .seFpFmaSpec) (occOf .seFpFmaSpec) (incrementOf .seFpFmaSpec) s := (rfl)
theorem execRule_smeFpDotSpec (s : State) :
    exec .smeFpDotSpec s = countEvent .smeFpDotSpec (attributionOf .smeFpDotSpec) (occOf .smeFpDotSpec) (incrementOf .smeFpDotSpec) s := (rfl)
theorem execRule_seFpDotSpec (s : State) :
    exec .seFpDotSpec s = countEvent .seFpDotSpec (attributionOf .seFpDotSpec) (occOf .seFpDotSpec) (incrementOf .seFpDotSpec) s := (rfl)
theorem execRule_smeFpMopaSpec (s : State) :
    exec .smeFpMopaSpec s = countEvent .smeFpMopaSpec (attributionOf .smeFpMopaSpec) (occOf .smeFpMopaSpec) (incrementOf .smeFpMopaSpec) s := (rfl)
theorem execRule_smeIntSpec (s : State) :
    exec .smeIntSpec s = countEvent .smeIntSpec (attributionOf .smeIntSpec) (occOf .smeIntSpec) (incrementOf .smeIntSpec) s := (rfl)
theorem execRule_seIntSpec (s : State) :
    exec .seIntSpec s = countEvent .seIntSpec (attributionOf .seIntSpec) (occOf .seIntSpec) (incrementOf .seIntSpec) s := (rfl)
theorem execRule_smeIntMulSpec (s : State) :
    exec .smeIntMulSpec s = countEvent .smeIntMulSpec (attributionOf .smeIntMulSpec) (occOf .smeIntMulSpec) (incrementOf .smeIntMulSpec) s := (rfl)
theorem execRule_seIntMulSpec (s : State) :
    exec .seIntMulSpec s = countEvent .seIntMulSpec (attributionOf .seIntMulSpec) (occOf .seIntMulSpec) (incrementOf .seIntMulSpec) s := (rfl)
theorem execRule_smeIntDotSpec (s : State) :
    exec .smeIntDotSpec s = countEvent .smeIntDotSpec (attributionOf .smeIntDotSpec) (occOf .smeIntDotSpec) (incrementOf .smeIntDotSpec) s := (rfl)
theorem execRule_seIntDotSpec (s : State) :
    exec .seIntDotSpec s = countEvent .seIntDotSpec (attributionOf .seIntDotSpec) (occOf .seIntDotSpec) (incrementOf .seIntDotSpec) s := (rfl)
theorem execRule_smeIntMopaSpec (s : State) :
    exec .smeIntMopaSpec s = countEvent .smeIntMopaSpec (attributionOf .smeIntMopaSpec) (occOf .smeIntMopaSpec) (incrementOf .smeIntMopaSpec) s := (rfl)
theorem execRule_zaActive (s : State) :
    exec .zaActive s = countEvent .zaActive (attributionOf .zaActive) (occOf .zaActive) (incrementOf .zaActive) s := (rfl)
theorem execRule_smePred2NotFullSpec (s : State) :
    exec .smePred2NotFullSpec s = countEvent .smePred2NotFullSpec (attributionOf .smePred2NotFullSpec) (occOf .smePred2NotFullSpec) (incrementOf .smePred2NotFullSpec) s := (rfl)
theorem execRule_smePred2Spec (s : State) :
    exec .smePred2Spec s = countEvent .smePred2Spec (attributionOf .smePred2Spec) (occOf .smePred2Spec) (incrementOf .smePred2Spec) s := (rfl)
theorem execRule_smePred2EmptySpec (s : State) :
    exec .smePred2EmptySpec s = countEvent .smePred2EmptySpec (attributionOf .smePred2EmptySpec) (occOf .smePred2EmptySpec) (incrementOf .smePred2EmptySpec) s := (rfl)
theorem execRule_smePred2FullSpec (s : State) :
    exec .smePred2FullSpec s = countEvent .smePred2FullSpec (attributionOf .smePred2FullSpec) (occOf .smePred2FullSpec) (incrementOf .smePred2FullSpec) s := (rfl)
theorem execRule_smePred2PartialSpec (s : State) :
    exec .smePred2PartialSpec s = countEvent .smePred2PartialSpec (attributionOf .smePred2PartialSpec) (occOf .smePred2PartialSpec) (incrementOf .smePred2PartialSpec) s := (rfl)
theorem execRule_smeLdstZaregSpec (s : State) :
    exec .smeLdstZaregSpec s = countEvent .smeLdstZaregSpec (attributionOf .smeLdstZaregSpec) (occOf .smeLdstZaregSpec) (incrementOf .smeLdstZaregSpec) s := (rfl)
theorem execRule_smeLdZaregSpec (s : State) :
    exec .smeLdZaregSpec s = countEvent .smeLdZaregSpec (attributionOf .smeLdZaregSpec) (occOf .smeLdZaregSpec) (incrementOf .smeLdZaregSpec) s := (rfl)
theorem execRule_smeStZaregSpec (s : State) :
    exec .smeStZaregSpec s = countEvent .smeStZaregSpec (attributionOf .smeStZaregSpec) (occOf .smeStZaregSpec) (incrementOf .smeStZaregSpec) s := (rfl)
theorem execRule_smeLdstZtregSpec (s : State) :
    exec .smeLdstZtregSpec s = countEvent .smeLdstZtregSpec (attributionOf .smeLdstZtregSpec) (occOf .smeLdstZtregSpec) (incrementOf .smeLdstZtregSpec) s := (rfl)
theorem execRule_smeLdZtregSpec (s : State) :
    exec .smeLdZtregSpec s = countEvent .smeLdZtregSpec (attributionOf .smeLdZtregSpec) (occOf .smeLdZtregSpec) (incrementOf .smeLdZtregSpec) s := (rfl)
theorem execRule_smeStZtregSpec (s : State) :
    exec .smeStZtregSpec s = countEvent .smeStZtregSpec (attributionOf .smeStZtregSpec) (occOf .smeStZtregSpec) (incrementOf .smeStZtregSpec) s := (rfl)
theorem execRule_smeLdstRegSpec (s : State) :
    exec .smeLdstRegSpec s = countEvent .smeLdstRegSpec (attributionOf .smeLdstRegSpec) (occOf .smeLdstRegSpec) (incrementOf .smeLdstRegSpec) s := (rfl)
theorem execRule_smeLdRegSpec (s : State) :
    exec .smeLdRegSpec s = countEvent .smeLdRegSpec (attributionOf .smeLdRegSpec) (occOf .smeLdRegSpec) (incrementOf .smeLdRegSpec) s := (rfl)
theorem execRule_smeStRegSpec (s : State) :
    exec .smeStRegSpec s = countEvent .smeStRegSpec (attributionOf .smeStRegSpec) (occOf .smeStRegSpec) (incrementOf .smeStRegSpec) s := (rfl)
theorem execRule_smeLdstTileSpec (s : State) :
    exec .smeLdstTileSpec s = countEvent .smeLdstTileSpec (attributionOf .smeLdstTileSpec) (occOf .smeLdstTileSpec) (incrementOf .smeLdstTileSpec) s := (rfl)
theorem execRule_smeLdTileSpec (s : State) :
    exec .smeLdTileSpec s = countEvent .smeLdTileSpec (attributionOf .smeLdTileSpec) (occOf .smeLdTileSpec) (incrementOf .smeLdTileSpec) s := (rfl)
theorem execRule_smeStTileSpec (s : State) :
    exec .smeStTileSpec s = countEvent .smeStTileSpec (attributionOf .smeStTileSpec) (occOf .smeStTileSpec) (incrementOf .smeStTileSpec) s := (rfl)
theorem execRule_aseLutSpec (s : State) :
    exec .aseLutSpec s = countEvent .aseLutSpec (attributionOf .aseLutSpec) (occOf .aseLutSpec) (incrementOf .aseLutSpec) s := (rfl)
theorem execRule_sveLutSpec (s : State) :
    exec .sveLutSpec s = countEvent .sveLutSpec (attributionOf .sveLutSpec) (occOf .sveLutSpec) (incrementOf .sveLutSpec) s := (rfl)
theorem execRule_smeLutSpec (s : State) :
    exec .smeLutSpec s = countEvent .smeLutSpec (attributionOf .smeLutSpec) (occOf .smeLutSpec) (incrementOf .smeLutSpec) s := (rfl)
theorem execRule_seLutSpec (s : State) :
    exec .seLutSpec s = countEvent .seLutSpec (attributionOf .seLutSpec) (occOf .seLutSpec) (incrementOf .seLutSpec) s := (rfl)
theorem execRule_n1CacheHitRd (s : State) :
    exec .n1CacheHitRd s = countEvent .n1CacheHitRd (attributionOf .n1CacheHitRd) (occOf .n1CacheHitRd) (incrementOf .n1CacheHitRd) s := (rfl)
theorem execRule_n2CacheHitRd (s : State) :
    exec .n2CacheHitRd s = countEvent .n2CacheHitRd (attributionOf .n2CacheHitRd) (occOf .n2CacheHitRd) (incrementOf .n2CacheHitRd) s := (rfl)
theorem execRule_n3CacheHitRd (s : State) :
    exec .n3CacheHitRd s = countEvent .n3CacheHitRd (attributionOf .n3CacheHitRd) (occOf .n3CacheHitRd) (incrementOf .n3CacheHitRd) s := (rfl)
theorem execRule_n4CacheHitRd (s : State) :
    exec .n4CacheHitRd s = countEvent .n4CacheHitRd (attributionOf .n4CacheHitRd) (occOf .n4CacheHitRd) (incrementOf .n4CacheHitRd) s := (rfl)
theorem execRule_n1CacheHitPrfm (s : State) :
    exec .n1CacheHitPrfm s = countEvent .n1CacheHitPrfm (attributionOf .n1CacheHitPrfm) (occOf .n1CacheHitPrfm) (incrementOf .n1CacheHitPrfm) s := (rfl)
theorem execRule_n2CacheHitPrfm (s : State) :
    exec .n2CacheHitPrfm s = countEvent .n2CacheHitPrfm (attributionOf .n2CacheHitPrfm) (occOf .n2CacheHitPrfm) (incrementOf .n2CacheHitPrfm) s := (rfl)
theorem execRule_n3CacheHitPrfm (s : State) :
    exec .n3CacheHitPrfm s = countEvent .n3CacheHitPrfm (attributionOf .n3CacheHitPrfm) (occOf .n3CacheHitPrfm) (incrementOf .n3CacheHitPrfm) s := (rfl)
theorem execRule_n4CacheHitPrfm (s : State) :
    exec .n4CacheHitPrfm s = countEvent .n4CacheHitPrfm (attributionOf .n4CacheHitPrfm) (occOf .n4CacheHitPrfm) (incrementOf .n4CacheHitPrfm) s := (rfl)
theorem execRule_n1Cache1HitRd (s : State) :
    exec .n1Cache1HitRd s = countEvent .n1Cache1HitRd (attributionOf .n1Cache1HitRd) (occOf .n1Cache1HitRd) (incrementOf .n1Cache1HitRd) s := (rfl)
theorem execRule_n2Cache1HitRd (s : State) :
    exec .n2Cache1HitRd s = countEvent .n2Cache1HitRd (attributionOf .n2Cache1HitRd) (occOf .n2Cache1HitRd) (incrementOf .n2Cache1HitRd) s := (rfl)
theorem execRule_n3Cache1HitRd (s : State) :
    exec .n3Cache1HitRd s = countEvent .n3Cache1HitRd (attributionOf .n3Cache1HitRd) (occOf .n3Cache1HitRd) (incrementOf .n3Cache1HitRd) s := (rfl)
theorem execRule_n4Cache1HitRd (s : State) :
    exec .n4Cache1HitRd s = countEvent .n4Cache1HitRd (attributionOf .n4Cache1HitRd) (occOf .n4Cache1HitRd) (incrementOf .n4Cache1HitRd) s := (rfl)
theorem execRule_n1Cache1HitPrfm (s : State) :
    exec .n1Cache1HitPrfm s = countEvent .n1Cache1HitPrfm (attributionOf .n1Cache1HitPrfm) (occOf .n1Cache1HitPrfm) (incrementOf .n1Cache1HitPrfm) s := (rfl)
theorem execRule_n2Cache1HitPrfm (s : State) :
    exec .n2Cache1HitPrfm s = countEvent .n2Cache1HitPrfm (attributionOf .n2Cache1HitPrfm) (occOf .n2Cache1HitPrfm) (incrementOf .n2Cache1HitPrfm) s := (rfl)
theorem execRule_n3Cache1HitPrfm (s : State) :
    exec .n3Cache1HitPrfm s = countEvent .n3Cache1HitPrfm (attributionOf .n3Cache1HitPrfm) (occOf .n3Cache1HitPrfm) (incrementOf .n3Cache1HitPrfm) s := (rfl)
theorem execRule_n4Cache1HitPrfm (s : State) :
    exec .n4Cache1HitPrfm s = countEvent .n4Cache1HitPrfm (attributionOf .n4Cache1HitPrfm) (occOf .n4Cache1HitPrfm) (incrementOf .n4Cache1HitPrfm) s := (rfl)
theorem execRule_n1Cache2HitRd (s : State) :
    exec .n1Cache2HitRd s = countEvent .n1Cache2HitRd (attributionOf .n1Cache2HitRd) (occOf .n1Cache2HitRd) (incrementOf .n1Cache2HitRd) s := (rfl)
theorem execRule_n2Cache2HitRd (s : State) :
    exec .n2Cache2HitRd s = countEvent .n2Cache2HitRd (attributionOf .n2Cache2HitRd) (occOf .n2Cache2HitRd) (incrementOf .n2Cache2HitRd) s := (rfl)
theorem execRule_n3Cache2HitRd (s : State) :
    exec .n3Cache2HitRd s = countEvent .n3Cache2HitRd (attributionOf .n3Cache2HitRd) (occOf .n3Cache2HitRd) (incrementOf .n3Cache2HitRd) s := (rfl)
theorem execRule_n4Cache2HitRd (s : State) :
    exec .n4Cache2HitRd s = countEvent .n4Cache2HitRd (attributionOf .n4Cache2HitRd) (occOf .n4Cache2HitRd) (incrementOf .n4Cache2HitRd) s := (rfl)
theorem execRule_n1Cache2HitPrfm (s : State) :
    exec .n1Cache2HitPrfm s = countEvent .n1Cache2HitPrfm (attributionOf .n1Cache2HitPrfm) (occOf .n1Cache2HitPrfm) (incrementOf .n1Cache2HitPrfm) s := (rfl)
theorem execRule_n2Cache2HitPrfm (s : State) :
    exec .n2Cache2HitPrfm s = countEvent .n2Cache2HitPrfm (attributionOf .n2Cache2HitPrfm) (occOf .n2Cache2HitPrfm) (incrementOf .n2Cache2HitPrfm) s := (rfl)
theorem execRule_n3Cache2HitPrfm (s : State) :
    exec .n3Cache2HitPrfm s = countEvent .n3Cache2HitPrfm (attributionOf .n3Cache2HitPrfm) (occOf .n3Cache2HitPrfm) (incrementOf .n3Cache2HitPrfm) s := (rfl)
theorem execRule_n4Cache2HitPrfm (s : State) :
    exec .n4Cache2HitPrfm s = countEvent .n4Cache2HitPrfm (attributionOf .n4Cache2HitPrfm) (occOf .n4Cache2HitPrfm) (incrementOf .n4Cache2HitPrfm) s := (rfl)
theorem execRule_n1Cache3HitRd (s : State) :
    exec .n1Cache3HitRd s = countEvent .n1Cache3HitRd (attributionOf .n1Cache3HitRd) (occOf .n1Cache3HitRd) (incrementOf .n1Cache3HitRd) s := (rfl)
theorem execRule_n2Cache3HitRd (s : State) :
    exec .n2Cache3HitRd s = countEvent .n2Cache3HitRd (attributionOf .n2Cache3HitRd) (occOf .n2Cache3HitRd) (incrementOf .n2Cache3HitRd) s := (rfl)
theorem execRule_n3Cache3HitRd (s : State) :
    exec .n3Cache3HitRd s = countEvent .n3Cache3HitRd (attributionOf .n3Cache3HitRd) (occOf .n3Cache3HitRd) (incrementOf .n3Cache3HitRd) s := (rfl)
theorem execRule_n4Cache3HitRd (s : State) :
    exec .n4Cache3HitRd s = countEvent .n4Cache3HitRd (attributionOf .n4Cache3HitRd) (occOf .n4Cache3HitRd) (incrementOf .n4Cache3HitRd) s := (rfl)
theorem execRule_n1Cache3HitPrfm (s : State) :
    exec .n1Cache3HitPrfm s = countEvent .n1Cache3HitPrfm (attributionOf .n1Cache3HitPrfm) (occOf .n1Cache3HitPrfm) (incrementOf .n1Cache3HitPrfm) s := (rfl)
theorem execRule_n2Cache3HitPrfm (s : State) :
    exec .n2Cache3HitPrfm s = countEvent .n2Cache3HitPrfm (attributionOf .n2Cache3HitPrfm) (occOf .n2Cache3HitPrfm) (incrementOf .n2Cache3HitPrfm) s := (rfl)
theorem execRule_n3Cache3HitPrfm (s : State) :
    exec .n3Cache3HitPrfm s = countEvent .n3Cache3HitPrfm (attributionOf .n3Cache3HitPrfm) (occOf .n3Cache3HitPrfm) (incrementOf .n3Cache3HitPrfm) s := (rfl)
theorem execRule_n4Cache3HitPrfm (s : State) :
    exec .n4Cache3HitPrfm s = countEvent .n4Cache3HitPrfm (attributionOf .n4Cache3HitPrfm) (occOf .n4Cache3HitPrfm) (incrementOf .n4Cache3HitPrfm) s := (rfl)
theorem execRule_n1CacheHitmRd (s : State) :
    exec .n1CacheHitmRd s = countEvent .n1CacheHitmRd (attributionOf .n1CacheHitmRd) (occOf .n1CacheHitmRd) (incrementOf .n1CacheHitmRd) s := (rfl)
theorem execRule_n2CacheHitmRd (s : State) :
    exec .n2CacheHitmRd s = countEvent .n2CacheHitmRd (attributionOf .n2CacheHitmRd) (occOf .n2CacheHitmRd) (incrementOf .n2CacheHitmRd) s := (rfl)
theorem execRule_n3CacheHitmRd (s : State) :
    exec .n3CacheHitmRd s = countEvent .n3CacheHitmRd (attributionOf .n3CacheHitmRd) (occOf .n3CacheHitmRd) (incrementOf .n3CacheHitmRd) s := (rfl)
theorem execRule_n4CacheHitmRd (s : State) :
    exec .n4CacheHitmRd s = countEvent .n4CacheHitmRd (attributionOf .n4CacheHitmRd) (occOf .n4CacheHitmRd) (incrementOf .n4CacheHitmRd) s := (rfl)
theorem execRule_n1LfbHitRd (s : State) :
    exec .n1LfbHitRd s = countEvent .n1LfbHitRd (attributionOf .n1LfbHitRd) (occOf .n1LfbHitRd) (incrementOf .n1LfbHitRd) s := (rfl)
theorem execRule_n2LfbHitRd (s : State) :
    exec .n2LfbHitRd s = countEvent .n2LfbHitRd (attributionOf .n2LfbHitRd) (occOf .n2LfbHitRd) (incrementOf .n2LfbHitRd) s := (rfl)
theorem execRule_n3LfbHitRd (s : State) :
    exec .n3LfbHitRd s = countEvent .n3LfbHitRd (attributionOf .n3LfbHitRd) (occOf .n3LfbHitRd) (incrementOf .n3LfbHitRd) s := (rfl)
theorem execRule_n4LfbHitRd (s : State) :
    exec .n4LfbHitRd s = countEvent .n4LfbHitRd (attributionOf .n4LfbHitRd) (occOf .n4LfbHitRd) (incrementOf .n4LfbHitRd) s := (rfl)
theorem execRule_n1Cache1HitmRd (s : State) :
    exec .n1Cache1HitmRd s = countEvent .n1Cache1HitmRd (attributionOf .n1Cache1HitmRd) (occOf .n1Cache1HitmRd) (incrementOf .n1Cache1HitmRd) s := (rfl)
theorem execRule_n2Cache1HitmRd (s : State) :
    exec .n2Cache1HitmRd s = countEvent .n2Cache1HitmRd (attributionOf .n2Cache1HitmRd) (occOf .n2Cache1HitmRd) (incrementOf .n2Cache1HitmRd) s := (rfl)
theorem execRule_n3Cache1HitmRd (s : State) :
    exec .n3Cache1HitmRd s = countEvent .n3Cache1HitmRd (attributionOf .n3Cache1HitmRd) (occOf .n3Cache1HitmRd) (incrementOf .n3Cache1HitmRd) s := (rfl)
theorem execRule_n4Cache1HitmRd (s : State) :
    exec .n4Cache1HitmRd s = countEvent .n4Cache1HitmRd (attributionOf .n4Cache1HitmRd) (occOf .n4Cache1HitmRd) (incrementOf .n4Cache1HitmRd) s := (rfl)
theorem execRule_n1Lfb1HitRd (s : State) :
    exec .n1Lfb1HitRd s = countEvent .n1Lfb1HitRd (attributionOf .n1Lfb1HitRd) (occOf .n1Lfb1HitRd) (incrementOf .n1Lfb1HitRd) s := (rfl)
theorem execRule_n2Lfb1HitRd (s : State) :
    exec .n2Lfb1HitRd s = countEvent .n2Lfb1HitRd (attributionOf .n2Lfb1HitRd) (occOf .n2Lfb1HitRd) (incrementOf .n2Lfb1HitRd) s := (rfl)
theorem execRule_n3Lfb1HitRd (s : State) :
    exec .n3Lfb1HitRd s = countEvent .n3Lfb1HitRd (attributionOf .n3Lfb1HitRd) (occOf .n3Lfb1HitRd) (incrementOf .n3Lfb1HitRd) s := (rfl)
theorem execRule_n4Lfb1HitRd (s : State) :
    exec .n4Lfb1HitRd s = countEvent .n4Lfb1HitRd (attributionOf .n4Lfb1HitRd) (occOf .n4Lfb1HitRd) (incrementOf .n4Lfb1HitRd) s := (rfl)
theorem execRule_n1Cache2HitmRd (s : State) :
    exec .n1Cache2HitmRd s = countEvent .n1Cache2HitmRd (attributionOf .n1Cache2HitmRd) (occOf .n1Cache2HitmRd) (incrementOf .n1Cache2HitmRd) s := (rfl)
theorem execRule_n2Cache2HitmRd (s : State) :
    exec .n2Cache2HitmRd s = countEvent .n2Cache2HitmRd (attributionOf .n2Cache2HitmRd) (occOf .n2Cache2HitmRd) (incrementOf .n2Cache2HitmRd) s := (rfl)
theorem execRule_n3Cache2HitmRd (s : State) :
    exec .n3Cache2HitmRd s = countEvent .n3Cache2HitmRd (attributionOf .n3Cache2HitmRd) (occOf .n3Cache2HitmRd) (incrementOf .n3Cache2HitmRd) s := (rfl)
theorem execRule_n4Cache2HitmRd (s : State) :
    exec .n4Cache2HitmRd s = countEvent .n4Cache2HitmRd (attributionOf .n4Cache2HitmRd) (occOf .n4Cache2HitmRd) (incrementOf .n4Cache2HitmRd) s := (rfl)
theorem execRule_n1Lfb2HitRd (s : State) :
    exec .n1Lfb2HitRd s = countEvent .n1Lfb2HitRd (attributionOf .n1Lfb2HitRd) (occOf .n1Lfb2HitRd) (incrementOf .n1Lfb2HitRd) s := (rfl)
theorem execRule_n2Lfb2HitRd (s : State) :
    exec .n2Lfb2HitRd s = countEvent .n2Lfb2HitRd (attributionOf .n2Lfb2HitRd) (occOf .n2Lfb2HitRd) (incrementOf .n2Lfb2HitRd) s := (rfl)
theorem execRule_n3Lfb2HitRd (s : State) :
    exec .n3Lfb2HitRd s = countEvent .n3Lfb2HitRd (attributionOf .n3Lfb2HitRd) (occOf .n3Lfb2HitRd) (incrementOf .n3Lfb2HitRd) s := (rfl)
theorem execRule_n4Lfb2HitRd (s : State) :
    exec .n4Lfb2HitRd s = countEvent .n4Lfb2HitRd (attributionOf .n4Lfb2HitRd) (occOf .n4Lfb2HitRd) (incrementOf .n4Lfb2HitRd) s := (rfl)
theorem execRule_n1Cache3HitmRd (s : State) :
    exec .n1Cache3HitmRd s = countEvent .n1Cache3HitmRd (attributionOf .n1Cache3HitmRd) (occOf .n1Cache3HitmRd) (incrementOf .n1Cache3HitmRd) s := (rfl)
theorem execRule_n2Cache3HitmRd (s : State) :
    exec .n2Cache3HitmRd s = countEvent .n2Cache3HitmRd (attributionOf .n2Cache3HitmRd) (occOf .n2Cache3HitmRd) (incrementOf .n2Cache3HitmRd) s := (rfl)
theorem execRule_n3Cache3HitmRd (s : State) :
    exec .n3Cache3HitmRd s = countEvent .n3Cache3HitmRd (attributionOf .n3Cache3HitmRd) (occOf .n3Cache3HitmRd) (incrementOf .n3Cache3HitmRd) s := (rfl)
theorem execRule_n4Cache3HitmRd (s : State) :
    exec .n4Cache3HitmRd s = countEvent .n4Cache3HitmRd (attributionOf .n4Cache3HitmRd) (occOf .n4Cache3HitmRd) (incrementOf .n4Cache3HitmRd) s := (rfl)
theorem execRule_n1Lfb3HitRd (s : State) :
    exec .n1Lfb3HitRd s = countEvent .n1Lfb3HitRd (attributionOf .n1Lfb3HitRd) (occOf .n1Lfb3HitRd) (incrementOf .n1Lfb3HitRd) s := (rfl)
theorem execRule_n2Lfb3HitRd (s : State) :
    exec .n2Lfb3HitRd s = countEvent .n2Lfb3HitRd (attributionOf .n2Lfb3HitRd) (occOf .n2Lfb3HitRd) (incrementOf .n2Lfb3HitRd) s := (rfl)
theorem execRule_n3Lfb3HitRd (s : State) :
    exec .n3Lfb3HitRd s = countEvent .n3Lfb3HitRd (attributionOf .n3Lfb3HitRd) (occOf .n3Lfb3HitRd) (incrementOf .n3Lfb3HitRd) s := (rfl)
theorem execRule_n4Lfb3HitRd (s : State) :
    exec .n4Lfb3HitRd s = countEvent .n4Lfb3HitRd (attributionOf .n4Lfb3HitRd) (occOf .n4Lfb3HitRd) (incrementOf .n4Lfb3HitRd) s := (rfl)
theorem execRule_n1MemRd (s : State) :
    exec .n1MemRd s = countEvent .n1MemRd (attributionOf .n1MemRd) (occOf .n1MemRd) (incrementOf .n1MemRd) s := (rfl)
theorem execRule_n2MemRd (s : State) :
    exec .n2MemRd s = countEvent .n2MemRd (attributionOf .n2MemRd) (occOf .n2MemRd) (incrementOf .n2MemRd) s := (rfl)
theorem execRule_n3MemRd (s : State) :
    exec .n3MemRd s = countEvent .n3MemRd (attributionOf .n3MemRd) (occOf .n3MemRd) (incrementOf .n3MemRd) s := (rfl)
theorem execRule_n4MemRd (s : State) :
    exec .n4MemRd s = countEvent .n4MemRd (attributionOf .n4MemRd) (occOf .n4MemRd) (incrementOf .n4MemRd) s := (rfl)
theorem execRule_n1MemPrfm (s : State) :
    exec .n1MemPrfm s = countEvent .n1MemPrfm (attributionOf .n1MemPrfm) (occOf .n1MemPrfm) (incrementOf .n1MemPrfm) s := (rfl)
theorem execRule_n2MemPrfm (s : State) :
    exec .n2MemPrfm s = countEvent .n2MemPrfm (attributionOf .n2MemPrfm) (occOf .n2MemPrfm) (incrementOf .n2MemPrfm) s := (rfl)
theorem execRule_n3MemPrfm (s : State) :
    exec .n3MemPrfm s = countEvent .n3MemPrfm (attributionOf .n3MemPrfm) (occOf .n3MemPrfm) (incrementOf .n3MemPrfm) s := (rfl)
theorem execRule_n4MemPrfm (s : State) :
    exec .n4MemPrfm s = countEvent .n4MemPrfm (attributionOf .n4MemPrfm) (occOf .n4MemPrfm) (incrementOf .n4MemPrfm) s := (rfl)
theorem execRule_n1Mem1Rd (s : State) :
    exec .n1Mem1Rd s = countEvent .n1Mem1Rd (attributionOf .n1Mem1Rd) (occOf .n1Mem1Rd) (incrementOf .n1Mem1Rd) s := (rfl)
theorem execRule_n2Mem1Rd (s : State) :
    exec .n2Mem1Rd s = countEvent .n2Mem1Rd (attributionOf .n2Mem1Rd) (occOf .n2Mem1Rd) (incrementOf .n2Mem1Rd) s := (rfl)
theorem execRule_n3Mem1Rd (s : State) :
    exec .n3Mem1Rd s = countEvent .n3Mem1Rd (attributionOf .n3Mem1Rd) (occOf .n3Mem1Rd) (incrementOf .n3Mem1Rd) s := (rfl)
theorem execRule_n4Mem1Rd (s : State) :
    exec .n4Mem1Rd s = countEvent .n4Mem1Rd (attributionOf .n4Mem1Rd) (occOf .n4Mem1Rd) (incrementOf .n4Mem1Rd) s := (rfl)
theorem execRule_n1Mem1Prfm (s : State) :
    exec .n1Mem1Prfm s = countEvent .n1Mem1Prfm (attributionOf .n1Mem1Prfm) (occOf .n1Mem1Prfm) (incrementOf .n1Mem1Prfm) s := (rfl)
theorem execRule_n2Mem1Prfm (s : State) :
    exec .n2Mem1Prfm s = countEvent .n2Mem1Prfm (attributionOf .n2Mem1Prfm) (occOf .n2Mem1Prfm) (incrementOf .n2Mem1Prfm) s := (rfl)
theorem execRule_n3Mem1Prfm (s : State) :
    exec .n3Mem1Prfm s = countEvent .n3Mem1Prfm (attributionOf .n3Mem1Prfm) (occOf .n3Mem1Prfm) (incrementOf .n3Mem1Prfm) s := (rfl)
theorem execRule_n4Mem1Prfm (s : State) :
    exec .n4Mem1Prfm s = countEvent .n4Mem1Prfm (attributionOf .n4Mem1Prfm) (occOf .n4Mem1Prfm) (incrementOf .n4Mem1Prfm) s := (rfl)
theorem execRule_n1Mem2Rd (s : State) :
    exec .n1Mem2Rd s = countEvent .n1Mem2Rd (attributionOf .n1Mem2Rd) (occOf .n1Mem2Rd) (incrementOf .n1Mem2Rd) s := (rfl)
theorem execRule_n2Mem2Rd (s : State) :
    exec .n2Mem2Rd s = countEvent .n2Mem2Rd (attributionOf .n2Mem2Rd) (occOf .n2Mem2Rd) (incrementOf .n2Mem2Rd) s := (rfl)
theorem execRule_n3Mem2Rd (s : State) :
    exec .n3Mem2Rd s = countEvent .n3Mem2Rd (attributionOf .n3Mem2Rd) (occOf .n3Mem2Rd) (incrementOf .n3Mem2Rd) s := (rfl)
theorem execRule_n4Mem2Rd (s : State) :
    exec .n4Mem2Rd s = countEvent .n4Mem2Rd (attributionOf .n4Mem2Rd) (occOf .n4Mem2Rd) (incrementOf .n4Mem2Rd) s := (rfl)
theorem execRule_n1Mem2Prfm (s : State) :
    exec .n1Mem2Prfm s = countEvent .n1Mem2Prfm (attributionOf .n1Mem2Prfm) (occOf .n1Mem2Prfm) (incrementOf .n1Mem2Prfm) s := (rfl)
theorem execRule_n2Mem2Prfm (s : State) :
    exec .n2Mem2Prfm s = countEvent .n2Mem2Prfm (attributionOf .n2Mem2Prfm) (occOf .n2Mem2Prfm) (incrementOf .n2Mem2Prfm) s := (rfl)
theorem execRule_n3Mem2Prfm (s : State) :
    exec .n3Mem2Prfm s = countEvent .n3Mem2Prfm (attributionOf .n3Mem2Prfm) (occOf .n3Mem2Prfm) (incrementOf .n3Mem2Prfm) s := (rfl)
theorem execRule_n4Mem2Prfm (s : State) :
    exec .n4Mem2Prfm s = countEvent .n4Mem2Prfm (attributionOf .n4Mem2Prfm) (occOf .n4Mem2Prfm) (incrementOf .n4Mem2Prfm) s := (rfl)
theorem execRule_n1Mem3Rd (s : State) :
    exec .n1Mem3Rd s = countEvent .n1Mem3Rd (attributionOf .n1Mem3Rd) (occOf .n1Mem3Rd) (incrementOf .n1Mem3Rd) s := (rfl)
theorem execRule_n2Mem3Rd (s : State) :
    exec .n2Mem3Rd s = countEvent .n2Mem3Rd (attributionOf .n2Mem3Rd) (occOf .n2Mem3Rd) (incrementOf .n2Mem3Rd) s := (rfl)
theorem execRule_n3Mem3Rd (s : State) :
    exec .n3Mem3Rd s = countEvent .n3Mem3Rd (attributionOf .n3Mem3Rd) (occOf .n3Mem3Rd) (incrementOf .n3Mem3Rd) s := (rfl)
theorem execRule_n4Mem3Rd (s : State) :
    exec .n4Mem3Rd s = countEvent .n4Mem3Rd (attributionOf .n4Mem3Rd) (occOf .n4Mem3Rd) (incrementOf .n4Mem3Rd) s := (rfl)
theorem execRule_n1Mem3Prfm (s : State) :
    exec .n1Mem3Prfm s = countEvent .n1Mem3Prfm (attributionOf .n1Mem3Prfm) (occOf .n1Mem3Prfm) (incrementOf .n1Mem3Prfm) s := (rfl)
theorem execRule_n2Mem3Prfm (s : State) :
    exec .n2Mem3Prfm s = countEvent .n2Mem3Prfm (attributionOf .n2Mem3Prfm) (occOf .n2Mem3Prfm) (incrementOf .n2Mem3Prfm) s := (rfl)
theorem execRule_n3Mem3Prfm (s : State) :
    exec .n3Mem3Prfm s = countEvent .n3Mem3Prfm (attributionOf .n3Mem3Prfm) (occOf .n3Mem3Prfm) (incrementOf .n3Mem3Prfm) s := (rfl)
theorem execRule_n4Mem3Prfm (s : State) :
    exec .n4Mem3Prfm s = countEvent .n4Mem3Prfm (attributionOf .n4Mem3Prfm) (occOf .n4Mem3Prfm) (incrementOf .n4Mem3Prfm) s := (rfl)
theorem execRule_isnpHitN1Rd (s : State) :
    exec .isnpHitN1Rd s = countEvent .isnpHitN1Rd (attributionOf .isnpHitN1Rd) (occOf .isnpHitN1Rd) (incrementOf .isnpHitN1Rd) s := (rfl)
theorem execRule_isnpHitN2Rd (s : State) :
    exec .isnpHitN2Rd s = countEvent .isnpHitN2Rd (attributionOf .isnpHitN2Rd) (occOf .isnpHitN2Rd) (incrementOf .isnpHitN2Rd) s := (rfl)
theorem execRule_isnpHitN3Rd (s : State) :
    exec .isnpHitN3Rd s = countEvent .isnpHitN3Rd (attributionOf .isnpHitN3Rd) (occOf .isnpHitN3Rd) (incrementOf .isnpHitN3Rd) s := (rfl)
theorem execRule_isnpHitN4Rd (s : State) :
    exec .isnpHitN4Rd s = countEvent .isnpHitN4Rd (attributionOf .isnpHitN4Rd) (occOf .isnpHitN4Rd) (incrementOf .isnpHitN4Rd) s := (rfl)
theorem execRule_dsnpHitN1Rd (s : State) :
    exec .dsnpHitN1Rd s = countEvent .dsnpHitN1Rd (attributionOf .dsnpHitN1Rd) (occOf .dsnpHitN1Rd) (incrementOf .dsnpHitN1Rd) s := (rfl)
theorem execRule_dsnpHitN2Rd (s : State) :
    exec .dsnpHitN2Rd s = countEvent .dsnpHitN2Rd (attributionOf .dsnpHitN2Rd) (occOf .dsnpHitN2Rd) (incrementOf .dsnpHitN2Rd) s := (rfl)
theorem execRule_dsnpHitN3Rd (s : State) :
    exec .dsnpHitN3Rd s = countEvent .dsnpHitN3Rd (attributionOf .dsnpHitN3Rd) (occOf .dsnpHitN3Rd) (incrementOf .dsnpHitN3Rd) s := (rfl)
theorem execRule_dsnpHitN4Rd (s : State) :
    exec .dsnpHitN4Rd s = countEvent .dsnpHitN4Rd (attributionOf .dsnpHitN4Rd) (occOf .dsnpHitN4Rd) (incrementOf .dsnpHitN4Rd) s := (rfl)
theorem execRule_dsnpHitN1Wr (s : State) :
    exec .dsnpHitN1Wr s = countEvent .dsnpHitN1Wr (attributionOf .dsnpHitN1Wr) (occOf .dsnpHitN1Wr) (incrementOf .dsnpHitN1Wr) s := (rfl)
theorem execRule_dsnpHitN2Wr (s : State) :
    exec .dsnpHitN2Wr s = countEvent .dsnpHitN2Wr (attributionOf .dsnpHitN2Wr) (occOf .dsnpHitN2Wr) (incrementOf .dsnpHitN2Wr) s := (rfl)
theorem execRule_dsnpHitN3Wr (s : State) :
    exec .dsnpHitN3Wr s = countEvent .dsnpHitN3Wr (attributionOf .dsnpHitN3Wr) (occOf .dsnpHitN3Wr) (incrementOf .dsnpHitN3Wr) s := (rfl)
theorem execRule_dsnpHitN4Wr (s : State) :
    exec .dsnpHitN4Wr s = countEvent .dsnpHitN4Wr (attributionOf .dsnpHitN4Wr) (occOf .dsnpHitN4Wr) (incrementOf .dsnpHitN4Wr) s := (rfl)
theorem execRule_dsnpHitN1Rw (s : State) :
    exec .dsnpHitN1Rw s = countEvent .dsnpHitN1Rw (attributionOf .dsnpHitN1Rw) (occOf .dsnpHitN1Rw) (incrementOf .dsnpHitN1Rw) s := (rfl)
theorem execRule_dsnpHitN2Rw (s : State) :
    exec .dsnpHitN2Rw s = countEvent .dsnpHitN2Rw (attributionOf .dsnpHitN2Rw) (occOf .dsnpHitN2Rw) (incrementOf .dsnpHitN2Rw) s := (rfl)
theorem execRule_dsnpHitN3Rw (s : State) :
    exec .dsnpHitN3Rw s = countEvent .dsnpHitN3Rw (attributionOf .dsnpHitN3Rw) (occOf .dsnpHitN3Rw) (incrementOf .dsnpHitN3Rw) s := (rfl)
theorem execRule_dsnpHitN4Rw (s : State) :
    exec .dsnpHitN4Rw s = countEvent .dsnpHitN4Rw (attributionOf .dsnpHitN4Rw) (occOf .dsnpHitN4Rw) (incrementOf .dsnpHitN4Rw) s := (rfl)
theorem execRule_dsnpHitN1Prfm (s : State) :
    exec .dsnpHitN1Prfm s = countEvent .dsnpHitN1Prfm (attributionOf .dsnpHitN1Prfm) (occOf .dsnpHitN1Prfm) (incrementOf .dsnpHitN1Prfm) s := (rfl)
theorem execRule_dsnpHitN2Prfm (s : State) :
    exec .dsnpHitN2Prfm s = countEvent .dsnpHitN2Prfm (attributionOf .dsnpHitN2Prfm) (occOf .dsnpHitN2Prfm) (incrementOf .dsnpHitN2Prfm) s := (rfl)
theorem execRule_dsnpHitN3Prfm (s : State) :
    exec .dsnpHitN3Prfm s = countEvent .dsnpHitN3Prfm (attributionOf .dsnpHitN3Prfm) (occOf .dsnpHitN3Prfm) (incrementOf .dsnpHitN3Prfm) s := (rfl)
theorem execRule_dsnpHitN4Prfm (s : State) :
    exec .dsnpHitN4Prfm s = countEvent .dsnpHitN4Prfm (attributionOf .dsnpHitN4Prfm) (occOf .dsnpHitN4Prfm) (incrementOf .dsnpHitN4Prfm) s := (rfl)
theorem execRule_dsnpHitN1Hwprf (s : State) :
    exec .dsnpHitN1Hwprf s = countEvent .dsnpHitN1Hwprf (attributionOf .dsnpHitN1Hwprf) (occOf .dsnpHitN1Hwprf) (incrementOf .dsnpHitN1Hwprf) s := (rfl)
theorem execRule_dsnpHitN2Hwprf (s : State) :
    exec .dsnpHitN2Hwprf s = countEvent .dsnpHitN2Hwprf (attributionOf .dsnpHitN2Hwprf) (occOf .dsnpHitN2Hwprf) (incrementOf .dsnpHitN2Hwprf) s := (rfl)
theorem execRule_dsnpHitN3Hwprf (s : State) :
    exec .dsnpHitN3Hwprf s = countEvent .dsnpHitN3Hwprf (attributionOf .dsnpHitN3Hwprf) (occOf .dsnpHitN3Hwprf) (incrementOf .dsnpHitN3Hwprf) s := (rfl)
theorem execRule_dsnpHitN4Hwprf (s : State) :
    exec .dsnpHitN4Hwprf s = countEvent .dsnpHitN4Hwprf (attributionOf .dsnpHitN4Hwprf) (occOf .dsnpHitN4Hwprf) (incrementOf .dsnpHitN4Hwprf) s := (rfl)
theorem execRule_isnpHitN1Prfm (s : State) :
    exec .isnpHitN1Prfm s = countEvent .isnpHitN1Prfm (attributionOf .isnpHitN1Prfm) (occOf .isnpHitN1Prfm) (incrementOf .isnpHitN1Prfm) s := (rfl)
theorem execRule_isnpHitN2Prfm (s : State) :
    exec .isnpHitN2Prfm s = countEvent .isnpHitN2Prfm (attributionOf .isnpHitN2Prfm) (occOf .isnpHitN2Prfm) (incrementOf .isnpHitN2Prfm) s := (rfl)
theorem execRule_isnpHitN3Prfm (s : State) :
    exec .isnpHitN3Prfm s = countEvent .isnpHitN3Prfm (attributionOf .isnpHitN3Prfm) (occOf .isnpHitN3Prfm) (incrementOf .isnpHitN3Prfm) s := (rfl)
theorem execRule_isnpHitN4Prfm (s : State) :
    exec .isnpHitN4Prfm s = countEvent .isnpHitN4Prfm (attributionOf .isnpHitN4Prfm) (occOf .isnpHitN4Prfm) (incrementOf .isnpHitN4Prfm) s := (rfl)
theorem execRule_isnpHitN1Hwprf (s : State) :
    exec .isnpHitN1Hwprf s = countEvent .isnpHitN1Hwprf (attributionOf .isnpHitN1Hwprf) (occOf .isnpHitN1Hwprf) (incrementOf .isnpHitN1Hwprf) s := (rfl)
theorem execRule_isnpHitN2Hwprf (s : State) :
    exec .isnpHitN2Hwprf s = countEvent .isnpHitN2Hwprf (attributionOf .isnpHitN2Hwprf) (occOf .isnpHitN2Hwprf) (incrementOf .isnpHitN2Hwprf) s := (rfl)
theorem execRule_isnpHitN3Hwprf (s : State) :
    exec .isnpHitN3Hwprf s = countEvent .isnpHitN3Hwprf (attributionOf .isnpHitN3Hwprf) (occOf .isnpHitN3Hwprf) (incrementOf .isnpHitN3Hwprf) s := (rfl)
theorem execRule_isnpHitN4Hwprf (s : State) :
    exec .isnpHitN4Hwprf s = countEvent .isnpHitN4Hwprf (attributionOf .isnpHitN4Hwprf) (occOf .isnpHitN4Hwprf) (incrementOf .isnpHitN4Hwprf) s := (rfl)
theorem execRule_dsnpHitN1Prf (s : State) :
    exec .dsnpHitN1Prf s = countEvent .dsnpHitN1Prf (attributionOf .dsnpHitN1Prf) (occOf .dsnpHitN1Prf) (incrementOf .dsnpHitN1Prf) s := (rfl)
theorem execRule_dsnpHitN2Prf (s : State) :
    exec .dsnpHitN2Prf s = countEvent .dsnpHitN2Prf (attributionOf .dsnpHitN2Prf) (occOf .dsnpHitN2Prf) (incrementOf .dsnpHitN2Prf) s := (rfl)
theorem execRule_dsnpHitN3Prf (s : State) :
    exec .dsnpHitN3Prf s = countEvent .dsnpHitN3Prf (attributionOf .dsnpHitN3Prf) (occOf .dsnpHitN3Prf) (incrementOf .dsnpHitN3Prf) s := (rfl)
theorem execRule_dsnpHitN4Prf (s : State) :
    exec .dsnpHitN4Prf s = countEvent .dsnpHitN4Prf (attributionOf .dsnpHitN4Prf) (occOf .dsnpHitN4Prf) (incrementOf .dsnpHitN4Prf) s := (rfl)
theorem execRule_isnpHitN1Prf (s : State) :
    exec .isnpHitN1Prf s = countEvent .isnpHitN1Prf (attributionOf .isnpHitN1Prf) (occOf .isnpHitN1Prf) (incrementOf .isnpHitN1Prf) s := (rfl)
theorem execRule_isnpHitN2Prf (s : State) :
    exec .isnpHitN2Prf s = countEvent .isnpHitN2Prf (attributionOf .isnpHitN2Prf) (occOf .isnpHitN2Prf) (incrementOf .isnpHitN2Prf) s := (rfl)
theorem execRule_isnpHitN3Prf (s : State) :
    exec .isnpHitN3Prf s = countEvent .isnpHitN3Prf (attributionOf .isnpHitN3Prf) (occOf .isnpHitN3Prf) (incrementOf .isnpHitN3Prf) s := (rfl)
theorem execRule_isnpHitN4Prf (s : State) :
    exec .isnpHitN4Prf s = countEvent .isnpHitN4Prf (attributionOf .isnpHitN4Prf) (occOf .isnpHitN4Prf) (incrementOf .isnpHitN4Prf) s := (rfl)
theorem execRule_isnpHitN1 (s : State) :
    exec .isnpHitN1 s = countEvent .isnpHitN1 (attributionOf .isnpHitN1) (occOf .isnpHitN1) (incrementOf .isnpHitN1) s := (rfl)
theorem execRule_isnpHitN2 (s : State) :
    exec .isnpHitN2 s = countEvent .isnpHitN2 (attributionOf .isnpHitN2) (occOf .isnpHitN2) (incrementOf .isnpHitN2) s := (rfl)
theorem execRule_isnpHitN3 (s : State) :
    exec .isnpHitN3 s = countEvent .isnpHitN3 (attributionOf .isnpHitN3) (occOf .isnpHitN3) (incrementOf .isnpHitN3) s := (rfl)
theorem execRule_isnpHitN4 (s : State) :
    exec .isnpHitN4 s = countEvent .isnpHitN4 (attributionOf .isnpHitN4) (occOf .isnpHitN4) (incrementOf .isnpHitN4) s := (rfl)
theorem execRule_dsnpHitN1 (s : State) :
    exec .dsnpHitN1 s = countEvent .dsnpHitN1 (attributionOf .dsnpHitN1) (occOf .dsnpHitN1) (incrementOf .dsnpHitN1) s := (rfl)
theorem execRule_dsnpHitN2 (s : State) :
    exec .dsnpHitN2 s = countEvent .dsnpHitN2 (attributionOf .dsnpHitN2) (occOf .dsnpHitN2) (incrementOf .dsnpHitN2) s := (rfl)
theorem execRule_dsnpHitN3 (s : State) :
    exec .dsnpHitN3 s = countEvent .dsnpHitN3 (attributionOf .dsnpHitN3) (occOf .dsnpHitN3) (incrementOf .dsnpHitN3) s := (rfl)
theorem execRule_dsnpHitN4 (s : State) :
    exec .dsnpHitN4 s = countEvent .dsnpHitN4 (attributionOf .dsnpHitN4) (occOf .dsnpHitN4) (incrementOf .dsnpHitN4) s := (rfl)
theorem execRule_aseFpVreduceSpec (s : State) :
    exec .aseFpVreduceSpec s = countEvent .aseFpVreduceSpec (attributionOf .aseFpVreduceSpec) (occOf .aseFpVreduceSpec) (incrementOf .aseFpVreduceSpec) s := (rfl)
theorem execRule_sveFpPreduceSpec (s : State) :
    exec .sveFpPreduceSpec s = countEvent .sveFpPreduceSpec (attributionOf .sveFpPreduceSpec) (occOf .sveFpPreduceSpec) (incrementOf .sveFpPreduceSpec) s := (rfl)
theorem execRule_dsnpHitmN1Rd (s : State) :
    exec .dsnpHitmN1Rd s = countEvent .dsnpHitmN1Rd (attributionOf .dsnpHitmN1Rd) (occOf .dsnpHitmN1Rd) (incrementOf .dsnpHitmN1Rd) s := (rfl)
theorem execRule_dsnpHitmN2Rd (s : State) :
    exec .dsnpHitmN2Rd s = countEvent .dsnpHitmN2Rd (attributionOf .dsnpHitmN2Rd) (occOf .dsnpHitmN2Rd) (incrementOf .dsnpHitmN2Rd) s := (rfl)
theorem execRule_dsnpHitmN3Rd (s : State) :
    exec .dsnpHitmN3Rd s = countEvent .dsnpHitmN3Rd (attributionOf .dsnpHitmN3Rd) (occOf .dsnpHitmN3Rd) (incrementOf .dsnpHitmN3Rd) s := (rfl)
theorem execRule_dsnpHitmN4Rd (s : State) :
    exec .dsnpHitmN4Rd s = countEvent .dsnpHitmN4Rd (attributionOf .dsnpHitmN4Rd) (occOf .dsnpHitmN4Rd) (incrementOf .dsnpHitmN4Rd) s := (rfl)
theorem execRule_dsnpHitmN1Wr (s : State) :
    exec .dsnpHitmN1Wr s = countEvent .dsnpHitmN1Wr (attributionOf .dsnpHitmN1Wr) (occOf .dsnpHitmN1Wr) (incrementOf .dsnpHitmN1Wr) s := (rfl)
theorem execRule_dsnpHitmN2Wr (s : State) :
    exec .dsnpHitmN2Wr s = countEvent .dsnpHitmN2Wr (attributionOf .dsnpHitmN2Wr) (occOf .dsnpHitmN2Wr) (incrementOf .dsnpHitmN2Wr) s := (rfl)
theorem execRule_dsnpHitmN3Wr (s : State) :
    exec .dsnpHitmN3Wr s = countEvent .dsnpHitmN3Wr (attributionOf .dsnpHitmN3Wr) (occOf .dsnpHitmN3Wr) (incrementOf .dsnpHitmN3Wr) s := (rfl)
theorem execRule_dsnpHitmN4Wr (s : State) :
    exec .dsnpHitmN4Wr s = countEvent .dsnpHitmN4Wr (attributionOf .dsnpHitmN4Wr) (occOf .dsnpHitmN4Wr) (incrementOf .dsnpHitmN4Wr) s := (rfl)
theorem execRule_dsnpHitmN1Rw (s : State) :
    exec .dsnpHitmN1Rw s = countEvent .dsnpHitmN1Rw (attributionOf .dsnpHitmN1Rw) (occOf .dsnpHitmN1Rw) (incrementOf .dsnpHitmN1Rw) s := (rfl)
theorem execRule_dsnpHitmN2Rw (s : State) :
    exec .dsnpHitmN2Rw s = countEvent .dsnpHitmN2Rw (attributionOf .dsnpHitmN2Rw) (occOf .dsnpHitmN2Rw) (incrementOf .dsnpHitmN2Rw) s := (rfl)
theorem execRule_dsnpHitmN3Rw (s : State) :
    exec .dsnpHitmN3Rw s = countEvent .dsnpHitmN3Rw (attributionOf .dsnpHitmN3Rw) (occOf .dsnpHitmN3Rw) (incrementOf .dsnpHitmN3Rw) s := (rfl)
theorem execRule_dsnpHitmN4Rw (s : State) :
    exec .dsnpHitmN4Rw s = countEvent .dsnpHitmN4Rw (attributionOf .dsnpHitmN4Rw) (occOf .dsnpHitmN4Rw) (incrementOf .dsnpHitmN4Rw) s := (rfl)
theorem execRule_aseFpSpMinSpec (s : State) :
    exec .aseFpSpMinSpec s = countEvent .aseFpSpMinSpec (attributionOf .aseFpSpMinSpec) (occOf .aseFpSpMinSpec) (incrementOf .aseFpSpMinSpec) s := (rfl)
theorem execRule_aseFpHpMinSpec (s : State) :
    exec .aseFpHpMinSpec s = countEvent .aseFpHpMinSpec (attributionOf .aseFpHpMinSpec) (occOf .aseFpHpMinSpec) (incrementOf .aseFpHpMinSpec) s := (rfl)
theorem execRule_aseFpBf16MinSpec (s : State) :
    exec .aseFpBf16MinSpec s = countEvent .aseFpBf16MinSpec (attributionOf .aseFpBf16MinSpec) (occOf .aseFpBf16MinSpec) (incrementOf .aseFpBf16MinSpec) s := (rfl)
theorem execRule_aseFpFp8MinSpec (s : State) :
    exec .aseFpFp8MinSpec s = countEvent .aseFpFp8MinSpec (attributionOf .aseFpFp8MinSpec) (occOf .aseFpFp8MinSpec) (incrementOf .aseFpFp8MinSpec) s := (rfl)
theorem execRule_aseSveFpSpMinSpec (s : State) :
    exec .aseSveFpSpMinSpec s = countEvent .aseSveFpSpMinSpec (attributionOf .aseSveFpSpMinSpec) (occOf .aseSveFpSpMinSpec) (incrementOf .aseSveFpSpMinSpec) s := (rfl)
theorem execRule_aseSveFpHpMinSpec (s : State) :
    exec .aseSveFpHpMinSpec s = countEvent .aseSveFpHpMinSpec (attributionOf .aseSveFpHpMinSpec) (occOf .aseSveFpHpMinSpec) (incrementOf .aseSveFpHpMinSpec) s := (rfl)
theorem execRule_aseSveFpBf16MinSpec (s : State) :
    exec .aseSveFpBf16MinSpec s = countEvent .aseSveFpBf16MinSpec (attributionOf .aseSveFpBf16MinSpec) (occOf .aseSveFpBf16MinSpec) (incrementOf .aseSveFpBf16MinSpec) s := (rfl)
theorem execRule_aseSveFpFp8MinSpec (s : State) :
    exec .aseSveFpFp8MinSpec s = countEvent .aseSveFpFp8MinSpec (attributionOf .aseSveFpFp8MinSpec) (occOf .aseSveFpFp8MinSpec) (incrementOf .aseSveFpFp8MinSpec) s := (rfl)
theorem execRule_seFpSpMinSpec (s : State) :
    exec .seFpSpMinSpec s = countEvent .seFpSpMinSpec (attributionOf .seFpSpMinSpec) (occOf .seFpSpMinSpec) (incrementOf .seFpSpMinSpec) s := (rfl)
theorem execRule_seFpHpMinSpec (s : State) :
    exec .seFpHpMinSpec s = countEvent .seFpHpMinSpec (attributionOf .seFpHpMinSpec) (occOf .seFpHpMinSpec) (incrementOf .seFpHpMinSpec) s := (rfl)
theorem execRule_seFpBf16MinSpec (s : State) :
    exec .seFpBf16MinSpec s = countEvent .seFpBf16MinSpec (attributionOf .seFpBf16MinSpec) (occOf .seFpBf16MinSpec) (incrementOf .seFpBf16MinSpec) s := (rfl)
theorem execRule_seFpFp8MinSpec (s : State) :
    exec .seFpFp8MinSpec s = countEvent .seFpFp8MinSpec (attributionOf .seFpFp8MinSpec) (occOf .seFpFp8MinSpec) (incrementOf .seFpFp8MinSpec) s := (rfl)
theorem execRule_smeFpSpMinSpec (s : State) :
    exec .smeFpSpMinSpec s = countEvent .smeFpSpMinSpec (attributionOf .smeFpSpMinSpec) (occOf .smeFpSpMinSpec) (incrementOf .smeFpSpMinSpec) s := (rfl)
theorem execRule_smeFpHpMinSpec (s : State) :
    exec .smeFpHpMinSpec s = countEvent .smeFpHpMinSpec (attributionOf .smeFpHpMinSpec) (occOf .smeFpHpMinSpec) (incrementOf .smeFpHpMinSpec) s := (rfl)
theorem execRule_smeFpBf16MinSpec (s : State) :
    exec .smeFpBf16MinSpec s = countEvent .smeFpBf16MinSpec (attributionOf .smeFpBf16MinSpec) (occOf .smeFpBf16MinSpec) (incrementOf .smeFpBf16MinSpec) s := (rfl)
theorem execRule_smeFpFp8MinSpec (s : State) :
    exec .smeFpFp8MinSpec s = countEvent .smeFpFp8MinSpec (attributionOf .smeFpFp8MinSpec) (occOf .smeFpFp8MinSpec) (incrementOf .smeFpFp8MinSpec) s := (rfl)
theorem execRule_sveFpSpMinSpec (s : State) :
    exec .sveFpSpMinSpec s = countEvent .sveFpSpMinSpec (attributionOf .sveFpSpMinSpec) (occOf .sveFpSpMinSpec) (incrementOf .sveFpSpMinSpec) s := (rfl)
theorem execRule_sveFpHpMinSpec (s : State) :
    exec .sveFpHpMinSpec s = countEvent .sveFpHpMinSpec (attributionOf .sveFpHpMinSpec) (occOf .sveFpHpMinSpec) (incrementOf .sveFpHpMinSpec) s := (rfl)
theorem execRule_sveFpBf16MinSpec (s : State) :
    exec .sveFpBf16MinSpec s = countEvent .sveFpBf16MinSpec (attributionOf .sveFpBf16MinSpec) (occOf .sveFpBf16MinSpec) (incrementOf .sveFpBf16MinSpec) s := (rfl)
theorem execRule_sveFpFp8MinSpec (s : State) :
    exec .sveFpFp8MinSpec s = countEvent .sveFpFp8MinSpec (attributionOf .sveFpFp8MinSpec) (occOf .sveFpFp8MinSpec) (incrementOf .sveFpFp8MinSpec) s := (rfl)
theorem execRule_fpBf16FixedOpsSpec (s : State) :
    exec .fpBf16FixedOpsSpec s = countEvent .fpBf16FixedOpsSpec (attributionOf .fpBf16FixedOpsSpec) (occOf .fpBf16FixedOpsSpec) (incrementOf .fpBf16FixedOpsSpec) s := (rfl)
theorem execRule_fpSpMinSpec (s : State) :
    exec .fpSpMinSpec s = countEvent .fpSpMinSpec (attributionOf .fpSpMinSpec) (occOf .fpSpMinSpec) (incrementOf .fpSpMinSpec) s := (rfl)
theorem execRule_fpHpMinSpec (s : State) :
    exec .fpHpMinSpec s = countEvent .fpHpMinSpec (attributionOf .fpHpMinSpec) (occOf .fpHpMinSpec) (incrementOf .fpHpMinSpec) s := (rfl)
theorem execRule_fpBf16MinSpec (s : State) :
    exec .fpBf16MinSpec s = countEvent .fpBf16MinSpec (attributionOf .fpBf16MinSpec) (occOf .fpBf16MinSpec) (incrementOf .fpBf16MinSpec) s := (rfl)
theorem execRule_fpFp8MinSpec (s : State) :
    exec .fpFp8MinSpec s = countEvent .fpFp8MinSpec (attributionOf .fpFp8MinSpec) (occOf .fpFp8MinSpec) (incrementOf .fpFp8MinSpec) s := (rfl)
theorem execRule_fpSpFixedMinOpsSpec (s : State) :
    exec .fpSpFixedMinOpsSpec s = countEvent .fpSpFixedMinOpsSpec (attributionOf .fpSpFixedMinOpsSpec) (occOf .fpSpFixedMinOpsSpec) (incrementOf .fpSpFixedMinOpsSpec) s := (rfl)
theorem execRule_fpHpFixedMinOpsSpec (s : State) :
    exec .fpHpFixedMinOpsSpec s = countEvent .fpHpFixedMinOpsSpec (attributionOf .fpHpFixedMinOpsSpec) (occOf .fpHpFixedMinOpsSpec) (incrementOf .fpHpFixedMinOpsSpec) s := (rfl)
theorem execRule_fpBf16FixedMinOpsSpec (s : State) :
    exec .fpBf16FixedMinOpsSpec s = countEvent .fpBf16FixedMinOpsSpec (attributionOf .fpBf16FixedMinOpsSpec) (occOf .fpBf16FixedMinOpsSpec) (incrementOf .fpBf16FixedMinOpsSpec) s := (rfl)
theorem execRule_fpFp8FixedMinOpsSpec (s : State) :
    exec .fpFp8FixedMinOpsSpec s = countEvent .fpFp8FixedMinOpsSpec (attributionOf .fpFp8FixedMinOpsSpec) (occOf .fpFp8FixedMinOpsSpec) (incrementOf .fpFp8FixedMinOpsSpec) s := (rfl)
theorem execRule_fpSpScaleMinOpsSpec (s : State) :
    exec .fpSpScaleMinOpsSpec s = countEvent .fpSpScaleMinOpsSpec (attributionOf .fpSpScaleMinOpsSpec) (occOf .fpSpScaleMinOpsSpec) (incrementOf .fpSpScaleMinOpsSpec) s := (rfl)
theorem execRule_fpHpScaleMinOpsSpec (s : State) :
    exec .fpHpScaleMinOpsSpec s = countEvent .fpHpScaleMinOpsSpec (attributionOf .fpHpScaleMinOpsSpec) (occOf .fpHpScaleMinOpsSpec) (incrementOf .fpHpScaleMinOpsSpec) s := (rfl)
theorem execRule_fpBf16ScaleMinOpsSpec (s : State) :
    exec .fpBf16ScaleMinOpsSpec s = countEvent .fpBf16ScaleMinOpsSpec (attributionOf .fpBf16ScaleMinOpsSpec) (occOf .fpBf16ScaleMinOpsSpec) (incrementOf .fpBf16ScaleMinOpsSpec) s := (rfl)
theorem execRule_fpFp8ScaleMinOpsSpec (s : State) :
    exec .fpFp8ScaleMinOpsSpec s = countEvent .fpFp8ScaleMinOpsSpec (attributionOf .fpFp8ScaleMinOpsSpec) (occOf .fpFp8ScaleMinOpsSpec) (incrementOf .fpFp8ScaleMinOpsSpec) s := (rfl)
theorem execRule_fpSpScale2MinOpsSpec (s : State) :
    exec .fpSpScale2MinOpsSpec s = countEvent .fpSpScale2MinOpsSpec (attributionOf .fpSpScale2MinOpsSpec) (occOf .fpSpScale2MinOpsSpec) (incrementOf .fpSpScale2MinOpsSpec) s := (rfl)
theorem execRule_fpHpScale2MinOpsSpec (s : State) :
    exec .fpHpScale2MinOpsSpec s = countEvent .fpHpScale2MinOpsSpec (attributionOf .fpHpScale2MinOpsSpec) (occOf .fpHpScale2MinOpsSpec) (incrementOf .fpHpScale2MinOpsSpec) s := (rfl)
theorem execRule_fpBf16Scale2MinOpsSpec (s : State) :
    exec .fpBf16Scale2MinOpsSpec s = countEvent .fpBf16Scale2MinOpsSpec (attributionOf .fpBf16Scale2MinOpsSpec) (occOf .fpBf16Scale2MinOpsSpec) (incrementOf .fpBf16Scale2MinOpsSpec) s := (rfl)
theorem execRule_fpFp8Scale2MinOpsSpec (s : State) :
    exec .fpFp8Scale2MinOpsSpec s = countEvent .fpFp8Scale2MinOpsSpec (attributionOf .fpFp8Scale2MinOpsSpec) (occOf .fpFp8Scale2MinOpsSpec) (incrementOf .fpFp8Scale2MinOpsSpec) s := (rfl)

/-- Every event without an algorithm of its own has the counting rule with its entries of the tables. -/
theorem exec_eq (s : State) : ∀ i : Instr, hasAlgorithm i = false →
    exec i s = countEvent i (attributionOf i) (occOf i) (incrementOf i) s
  | .swIncr, h => nomatch h
  | .ldRetired, _ => execRule_ldRetired s
  | .stRetired, _ => execRule_stRetired s
  | .instRetired, _ => execRule_instRetired s
  | .excTaken, _ => execRule_excTaken s
  | .excReturn, _ => execRule_excReturn s
  | .cidWriteRetired, _ => execRule_cidWriteRetired s
  | .pcWriteRetired, _ => execRule_pcWriteRetired s
  | .brImmedRetired, _ => execRule_brImmedRetired s
  | .brReturnRetired, _ => execRule_brReturnRetired s
  | .unalignedLdstRetired, _ => execRule_unalignedLdstRetired s
  | .ttbrWriteRetired, _ => execRule_ttbrWriteRetired s
  | .chain, h => nomatch h
  | .brRetired, _ => execRule_brRetired s
  | .excUndef, _ => execRule_excUndef s
  | .excSvc, _ => execRule_excSvc s
  | .excPabort, _ => execRule_excPabort s
  | .excDabort, _ => execRule_excDabort s
  | .excIrq, _ => execRule_excIrq s
  | .excFiq, _ => execRule_excFiq s
  | .excSmc, _ => execRule_excSmc s
  | .excHvc, _ => execRule_excHvc s
  | .excTrapPabort, _ => execRule_excTrapPabort s
  | .excTrapDabort, _ => execRule_excTrapDabort s
  | .excTrapOther, _ => execRule_excTrapOther s
  | .excTrapIrq, _ => execRule_excTrapIrq s
  | .excTrapFiq, _ => execRule_excTrapFiq s
  | .trbWrap, _ => execRule_trbWrap s
  | .pmuOvfs, h => nomatch h
  | .trbTrig, _ => execRule_trbTrig s
  | .pmuHovfs, h => nomatch h
  | .simdInstRetired, _ => execRule_simdInstRetired s
  | .aseInstRetired, _ => execRule_aseInstRetired s
  | .sveInstRetired, _ => execRule_sveInstRetired s
  | .aseSveInstRetired, _ => execRule_aseSveInstRetired s
  | .brSkipRetired, _ => execRule_brSkipRetired s
  | .brImmedTakenRetired, _ => execRule_brImmedTakenRetired s
  | .brImmedSkipRetired, _ => execRule_brImmedSkipRetired s
  | .brIndTakenRetired, _ => execRule_brIndTakenRetired s
  | .brIndSkipRetired, _ => execRule_brIndSkipRetired s
  | .brIndnrTakenRetired, _ => execRule_brIndnrTakenRetired s
  | .brIndnrSkipRetired, _ => execRule_brIndnrSkipRetired s
  | .brReturnAnyRetired, _ => execRule_brReturnAnyRetired s
  | .brReturnSkipRetired, _ => execRule_brReturnSkipRetired s
  | .brIndRetired, _ => execRule_brIndRetired s
  | .brIndnrRetired, _ => execRule_brIndnrRetired s
  | .brbFiltrate, _ => execRule_brbFiltrate s
  | .brnlIndnrTakenRetired, _ => execRule_brnlIndnrTakenRetired s
  | .blTakenRetired, _ => execRule_blTakenRetired s
  | .brnlTakenRetired, _ => execRule_brnlTakenRetired s
  | .blIndTakenRetired, _ => execRule_blIndTakenRetired s
  | .brnlIndTakenRetired, _ => execRule_brnlIndTakenRetired s
  | .blImmedTakenRetired, _ => execRule_blImmedTakenRetired s
  | .brnlImmedTakenRetired, _ => execRule_brnlImmedTakenRetired s
  | .brUncondRetired, _ => execRule_brUncondRetired s
  | .brCondRetired, _ => execRule_brCondRetired s
  | .brCondTakenRetired, _ => execRule_brCondTakenRetired s
  | .brHintCondRetired, _ => execRule_brHintCondRetired s
  | .aseSveRetired, _ => execRule_aseSveRetired s
  | .ldAnyRetired, _ => execRule_ldAnyRetired s
  | .stAnyRetired, _ => execRule_stAnyRetired s
  | .ldstAnyRetired, _ => execRule_ldstAnyRetired s
  | .dpRetired, _ => execRule_dpRetired s
  | .aseRetired, _ => execRule_aseRetired s
  | .vfpRetired, _ => execRule_vfpRetired s
  | .sveRetired, _ => execRule_sveRetired s
  | .cryptoRetired, _ => execRule_cryptoRetired s
  | .prfRetired, _ => execRule_prfRetired s
  | .smeRetired, _ => execRule_smeRetired s
  | .seRetired, _ => execRule_seRetired s
  | .smeInstRetired, _ => execRule_smeInstRetired s
  | .seInstRetired, _ => execRule_seInstRetired s
  | .l1iCacheRefill, _ => execRule_l1iCacheRefill s
  | .l1iTlbRefill, _ => execRule_l1iTlbRefill s
  | .l1dCacheRefill, _ => execRule_l1dCacheRefill s
  | .l1dCache, _ => execRule_l1dCache s
  | .l1dTlbRefill, _ => execRule_l1dTlbRefill s
  | .brMisPred, _ => execRule_brMisPred s
  | .cpuCycles, _ => execRule_cpuCycles s
  | .brPred, _ => execRule_brPred s
  | .memAccess, _ => execRule_memAccess s
  | .l1iCache, _ => execRule_l1iCache s
  | .l1dCacheWb, _ => execRule_l1dCacheWb s
  | .l2dCache, _ => execRule_l2dCache s
  | .l2dCacheRefill, _ => execRule_l2dCacheRefill s
  | .l2dCacheWb, _ => execRule_l2dCacheWb s
  | .busAccess, _ => execRule_busAccess s
  | .memoryError, _ => execRule_memoryError s
  | .instSpec, _ => execRule_instSpec s
  | .busCycles, _ => execRule_busCycles s
  | .l1dCacheAllocate, _ => execRule_l1dCacheAllocate s
  | .l2dCacheAllocate, _ => execRule_l2dCacheAllocate s
  | .brMisPredRetired, _ => execRule_brMisPredRetired s
  | .stallFrontend, _ => execRule_stallFrontend s
  | .stallBackend, _ => execRule_stallBackend s
  | .l1dTlb, _ => execRule_l1dTlb s
  | .l1iTlb, _ => execRule_l1iTlb s
  | .l2iCache, _ => execRule_l2iCache s
  | .l2iCacheRefill, _ => execRule_l2iCacheRefill s
  | .l3dCacheAllocate, _ => execRule_l3dCacheAllocate s
  | .l3dCacheRefill, _ => execRule_l3dCacheRefill s
  | .l3dCache, _ => execRule_l3dCache s
  | .l3dCacheWb, _ => execRule_l3dCacheWb s
  | .l2dTlbRefill, _ => execRule_l2dTlbRefill s
  | .l2iTlbRefill, _ => execRule_l2iTlbRefill s
  | .l2dTlb, _ => execRule_l2dTlb s
  | .l2iTlb, _ => execRule_l2iTlb s
  | .remoteAccess, _ => execRule_remoteAccess s
  | .llCache, _ => execRule_llCache s
  | .llCacheMiss, _ => execRule_llCacheMiss s
  | .dtlbWalk, _ => execRule_dtlbWalk s
  | .itlbWalk, _ => execRule_itlbWalk s
  | .llCacheRd, _ => execRule_llCacheRd s
  | .llCacheMissRd, _ => execRule_llCacheMissRd s
  | .remoteAccessRd, _ => execRule_remoteAccessRd s
  | .l1dCacheLmissRd, _ => execRule_l1dCacheLmissRd s
  | .opRetired, _ => execRule_opRetired s
  | .opSpec, _ => execRule_opSpec s
  | .stall, _ => execRule_stall s
  | .stallSlotBackend, _ => execRule_stallSlotBackend s
  | .stallSlotFrontend, _ => execRule_stallSlotFrontend s
  | .stallSlot, _ => execRule_stallSlot s
  | .l1dCacheRd, _ => execRule_l1dCacheRd s
  | .l1dCacheWr, _ => execRule_l1dCacheWr s
  | .l1dCacheRefillRd, _ => execRule_l1dCacheRefillRd s
  | .l1dCacheRefillWr, _ => execRule_l1dCacheRefillWr s
  | .l1dCacheRefillInner, _ => execRule_l1dCacheRefillInner s
  | .l1dCacheRefillOuter, _ => execRule_l1dCacheRefillOuter s
  | .l1dCacheWbVictim, _ => execRule_l1dCacheWbVictim s
  | .l1dCacheWbClean, _ => execRule_l1dCacheWbClean s
  | .l1dCacheInval, _ => execRule_l1dCacheInval s
  | .l1dTlbRefillRd, _ => execRule_l1dTlbRefillRd s
  | .l1dTlbRefillWr, _ => execRule_l1dTlbRefillWr s
  | .l1dTlbRd, _ => execRule_l1dTlbRd s
  | .l1dTlbWr, _ => execRule_l1dTlbWr s
  | .l2dCacheRd, _ => execRule_l2dCacheRd s
  | .l2dCacheWr, _ => execRule_l2dCacheWr s
  | .l2dCacheRefillRd, _ => execRule_l2dCacheRefillRd s
  | .l2dCacheRefillWr, _ => execRule_l2dCacheRefillWr s
  | .l2dCacheWbVictim, _ => execRule_l2dCacheWbVictim s
  | .l2dCacheWbClean, _ => execRule_l2dCacheWbClean s
  | .l2dCacheInval, _ => execRule_l2dCacheInval s
  | .l2dTlbRefillRd, _ => execRule_l2dTlbRefillRd s
  | .l2dTlbRefillWr, _ => execRule_l2dTlbRefillWr s
  | .l2dTlbRd, _ => execRule_l2dTlbRd s
  | .l2dTlbWr, _ => execRule_l2dTlbWr s
  | .busAccessRd, _ => execRule_busAccessRd s
  | .busAccessWr, _ => execRule_busAccessWr s
  | .busAccessShared, _ => execRule_busAccessShared s
  | .busAccessNotShared, _ => execRule_busAccessNotShared s
  | .busAccessNormal, _ => execRule_busAccessNormal s
  | .busAccessPeriph, _ => execRule_busAccessPeriph s
  | .memAccessRd, _ => execRule_memAccessRd s
  | .memAccessWr, _ => execRule_memAccessWr s
  | .unalignedLdSpec, _ => execRule_unalignedLdSpec s
  | .unalignedStSpec, _ => execRule_unalignedStSpec s
  | .unalignedLdstSpec, _ => execRule_unalignedLdstSpec s
  | .ldrexSpec, _ => execRule_ldrexSpec s
  | .strexPassSpec, _ => execRule_strexPassSpec s
  | .strexFailSpec, _ => execRule_strexFailSpec s
  | .strexSpec, _ => execRule_strexSpec s
  | .ldSpec, _ => execRule_ldSpec s
  | .stSpec, _ => execRule_stSpec s
  | .ldstSpec, _ => execRule_ldstSpec s
  | .dpSpec, _ => execRule_dpSpec s
  | .aseSpec, _ => execRule_aseSpec s
  | .vfpSpec, _ => execRule_vfpSpec s
  | .pcWriteSpec, _ => execRule_pcWriteSpec s
  | .cryptoSpec, _ => execRule_cryptoSpec s
  | .brImmedSpec, _ => execRule_brImmedSpec s
  | .brReturnSpec, _ => execRule_brReturnSpec s
  | .brIndirectSpec, _ => execRule_brIndirectSpec s
  | .isbSpec, _ => execRule_isbSpec s
  | .dsbSpec, _ => execRule_dsbSpec s
  | .dmbSpec, _ => execRule_dmbSpec s
  | .csdbSpec, _ => execRule_csdbSpec s
  | .rcLdSpec, _ => execRule_rcLdSpec s
  | .rcStSpec, _ => execRule_rcStSpec s
  | .l3dCacheHitWrFextProp, _ => execRule_l3dCacheHitWrFextProp s
  | .l3dCacheRd, _ => execRule_l3dCacheRd s
  | .l3dCacheWr, _ => execRule_l3dCacheWr s
  | .l3dCacheRefillRd, _ => execRule_l3dCacheRefillRd s
  | .l3dCacheRefillWr, _ => execRule_l3dCacheRefillWr s
  | .l3dCacheWbVictim, _ => execRule_l3dCacheWbVictim s
  | .l3dCacheWbClean, _ => execRule_l3dCacheWbClean s
  | .l3dCacheInval, _ => execRule_l3dCacheInval s
  | .l2dCacheHitRdFextProp, _ => execRule_l2dCacheHitRdFextProp s
  | .l2dCacheHitWrFextProp, _ => execRule_l2dCacheHitWrFextProp s
  | .l2dCacheHitRwFextProp, _ => execRule_l2dCacheHitRwFextProp s
  | .l3dCacheExtProp, _ => execRule_l3dCacheExtProp s
  | .l3dCacheExtPropPrfmIr, _ => execRule_l3dCacheExtPropPrfmIr s
  | .l3dCacheHitRwFextProp, _ => execRule_l3dCacheHitRwFextProp s
  | .l3dCacheHitRdFextProp, _ => execRule_l3dCacheHitRdFextProp s
  | .stshhSpec, _ => execRule_stshhSpec s
  | .stshhKeepSpec, _ => execRule_stshhKeepSpec s
  | .stshhStrmSpec, _ => execRule_stshhStrmSpec s
  | .prfmIrSpec, _ => execRule_prfmIrSpec s
  | .memAccessWrStshh, _ => execRule_memAccessWrStshh s
  | .memAccessWrStshhKeep, _ => execRule_memAccessWrStshhKeep s
  | .memAccessWrStshhStrm, _ => execRule_memAccessWrStshhStrm s
  | .memAccessWrStshhKeepNear, _ => execRule_memAccessWrStshhKeepNear s
  | .memAccessWrStshhKeepFar, _ => execRule_memAccessWrStshhKeepFar s
  | .l1dCacheExtProp, _ => execRule_l1dCacheExtProp s
  | .l1dCacheExtPropPrfmIr, _ => execRule_l1dCacheExtPropPrfmIr s
  | .l1dCacheHitRdFextProp, _ => execRule_l1dCacheHitRdFextProp s
  | .l1dCacheHitWrFextProp, _ => execRule_l1dCacheHitWrFextProp s
  | .l1dCacheHitRwFextProp, _ => execRule_l1dCacheHitRwFextProp s
  | .l2dCacheExtProp, _ => execRule_l2dCacheExtProp s
  | .l2dCacheExtPropPrfmIr, _ => execRule_l2dCacheExtPropPrfmIr s
  | .samplePop, _ => execRule_samplePop s
  | .sampleFeed, _ => execRule_sampleFeed s
  | .sampleFiltrate, _ => execRule_sampleFiltrate s
  | .sampleCollision, _ => execRule_sampleCollision s
  | .cntCycles, _ => execRule_cntCycles s
  | .stallBackendMem, _ => execRule_stallBackendMem s
  | .l1iCacheLmiss, _ => execRule_l1iCacheLmiss s
  | .l2dCacheLmissRd, _ => execRule_l2dCacheLmissRd s
  | .l2iCacheLmiss, _ => execRule_l2iCacheLmiss s
  | .l3dCacheLmissRd, _ => execRule_l3dCacheLmissRd s
  | .trcextout0, _ => execRule_trcextout0 s
  | .trcextout1, _ => execRule_trcextout1 s
  | .trcextout2, _ => execRule_trcextout2 s
  | .trcextout3, _ => execRule_trcextout3 s
  | .ctiTrigout4, _ => execRule_ctiTrigout4 s
  | .ctiTrigout5, _ => execRule_ctiTrigout5 s
  | .ctiTrigout6, _ => execRule_ctiTrigout6 s
  | .ctiTrigout7, _ => execRule_ctiTrigout7 s
  | .ldstAlignLat, _ => execRule_ldstAlignLat s
  | .ldAlignLat, _ => execRule_ldAlignLat s
  | .stAlignLat, _ => execRule_stAlignLat s
  | .memAccessChecked, _ => execRule_memAccessChecked s
  | .memAccessCheckedRd, _ => execRule_memAccessCheckedRd s
  | .memAccessCheckedWr, _ => execRule_memAccessCheckedWr s
  | .simdInstSpec, _ => execRule_simdInstSpec s
  | .aseInstSpec, _ => execRule_aseInstSpec s
  | .sveInstSpec, _ => execRule_sveInstSpec s
  | .aseSveInstSpec, _ => execRule_aseSveInstSpec s
  | .uopSpec, _ => execRule_uopSpec s
  | .aseUopSpec, _ => execRule_aseUopSpec s
  | .sveUopSpec, _ => execRule_sveUopSpec s
  | .aseSveUopSpec, _ => execRule_aseSveUopSpec s
  | .simdUopSpec, _ => execRule_simdUopSpec s
  | .sveMathSpec, _ => execRule_sveMathSpec s
  | .fpSpec, _ => execRule_fpSpec s
  | .aseFpSpec, _ => execRule_aseFpSpec s
  | .sveFpSpec, _ => execRule_sveFpSpec s
  | .aseSveFpSpec, _ => execRule_aseSveFpSpec s
  | .fpHpSpec, _ => execRule_fpHpSpec s
  | .aseFpHpSpec, _ => execRule_aseFpHpSpec s
  | .sveFpHpSpec, _ => execRule_sveFpHpSpec s
  | .aseSveFpHpSpec, _ => execRule_aseSveFpHpSpec s
  | .fpSpSpec, _ => execRule_fpSpSpec s
  | .aseFpSpSpec, _ => execRule_aseFpSpSpec s
  | .sveFpSpSpec, _ => execRule_sveFpSpSpec s
  | .aseSveFpSpSpec, _ => execRule_aseSveFpSpSpec s
  | .fpDpSpec, _ => execRule_fpDpSpec s
  | .aseFpDpSpec, _ => execRule_aseFpDpSpec s
  | .sveFpDpSpec, _ => execRule_sveFpDpSpec s
  | .aseSveFpDpSpec, _ => execRule_aseSveFpDpSpec s
  | .fpDivSpec, _ => execRule_fpDivSpec s
  | .aseFpDivSpec, _ => execRule_aseFpDivSpec s
  | .sveFpDivSpec, _ => execRule_sveFpDivSpec s
  | .aseSveFpDivSpec, _ => execRule_aseSveFpDivSpec s
  | .fpSqrtSpec, _ => execRule_fpSqrtSpec s
  | .aseFpSqrtSpec, _ => execRule_aseFpSqrtSpec s
  | .sveFpSqrtSpec, _ => execRule_sveFpSqrtSpec s
  | .aseSveFpSqrtSpec, _ => execRule_aseSveFpSqrtSpec s
  | .fpFmaSpec, _ => execRule_fpFmaSpec s
  | .aseFpFmaSpec, _ => execRule_aseFpFmaSpec s
  | .sveFpFmaSpec, _ => execRule_sveFpFmaSpec s
  | .aseSveFpFmaSpec, _ => execRule_aseSveFpFmaSpec s
  | .fpMulSpec, _ => execRule_fpMulSpec s
  | .aseFpMulSpec, _ => execRule_aseFpMulSpec s
  | .sveFpMulSpec, _ => execRule_sveFpMulSpec s
  | .aseSveFpMulSpec, _ => execRule_aseSveFpMulSpec s
  | .fpAddsubSpec, _ => execRule_fpAddsubSpec s
  | .aseFpAddsubSpec, _ => execRule_aseFpAddsubSpec s
  | .sveFpAddsubSpec, _ => execRule_sveFpAddsubSpec s
  | .aseSveFpAddsubSpec, _ => execRule_aseSveFpAddsubSpec s
  | .fpRecpeSpec, _ => execRule_fpRecpeSpec s
  | .aseFpRecpeSpec, _ => execRule_aseFpRecpeSpec s
  | .sveFpRecpeSpec, _ => execRule_sveFpRecpeSpec s
  | .aseSveFpRecpeSpec, _ => execRule_aseSveFpRecpeSpec s
  | .fpCvtSpec, _ => execRule_fpCvtSpec s
  | .aseFpCvtSpec, _ => execRule_aseFpCvtSpec s
  | .sveFpCvtSpec, _ => execRule_sveFpCvtSpec s
  | .aseSveFpCvtSpec, _ => execRule_aseSveFpCvtSpec s
  | .sveFpAreduceSpec, _ => execRule_sveFpAreduceSpec s
  | .aseFpPreduceSpec, _ => execRule_aseFpPreduceSpec s
  | .sveFpVreduceSpec, _ => execRule_sveFpVreduceSpec s
  | .aseSveFpVreduceSpec, _ => execRule_aseSveFpVreduceSpec s
  | .intSpec, _ => execRule_intSpec s
  | .aseIntSpec, _ => execRule_aseIntSpec s
  | .sveIntSpec, _ => execRule_sveIntSpec s
  | .aseSveIntSpec, _ => execRule_aseSveIntSpec s
  | .intDivSpec, _ => execRule_intDivSpec s
  | .intDiv64Spec, _ => execRule_intDiv64Spec s
  | .sveIntDivSpec, _ => execRule_sveIntDivSpec s
  | .sveIntDiv64Spec, _ => execRule_sveIntDiv64Spec s
  | .intMulSpec, _ => execRule_intMulSpec s
  | .aseIntMulSpec, _ => execRule_aseIntMulSpec s
  | .sveIntMulSpec, _ => execRule_sveIntMulSpec s
  | .aseSveIntMulSpec, _ => execRule_aseSveIntMulSpec s
  | .intMul64Spec, _ => execRule_intMul64Spec s
  | .sveIntMul64Spec, _ => execRule_sveIntMul64Spec s
  | .intMulh64Spec, _ => execRule_intMulh64Spec s
  | .sveIntMulh64Spec, _ => execRule_sveIntMulh64Spec s
  | .aseFpBf16Spec, _ => execRule_aseFpBf16Spec s
  | .sveFpBf16Spec, _ => execRule_sveFpBf16Spec s
  | .aseSveFpBf16Spec, _ => execRule_aseSveFpBf16Spec s
  | .fpBf16Spec, _ => execRule_fpBf16Spec s
  | .sveSpec, _ => execRule_sveSpec s
  | .aseSveSpec, _ => execRule_aseSveSpec s
  | .nonfpSpec, _ => execRule_nonfpSpec s
  | .aseNonfpSpec, _ => execRule_aseNonfpSpec s
  | .sveNonfpSpec, _ => execRule_sveNonfpSpec s
  | .aseSveNonfpSpec, _ => execRule_aseSveNonfpSpec s
  | .aseIntVreduceSpec, _ => execRule_aseIntVreduceSpec s
  | .sveIntVreduceSpec, _ => execRule_sveIntVreduceSpec s
  | .aseSveIntVreduceSpec, _ => execRule_aseSveIntVreduceSpec s
  | .svePermSpec, _ => execRule_svePermSpec s
  | .svePermIgranuleSpec, _ => execRule_svePermIgranuleSpec s
  | .svePermXgranuleSpec, _ => execRule_svePermXgranuleSpec s
  | .svePermVariableSpec, _ => execRule_svePermVariableSpec s
  | .sveXpipeSpec, _ => execRule_sveXpipeSpec s
  | .sveXpipeZ2rSpec, _ => execRule_sveXpipeZ2rSpec s
  | .sveXpipeR2zSpec, _ => execRule_sveXpipeR2zSpec s
  | .svePgenNvecSpec, _ => execRule_svePgenNvecSpec s
  | .svePgenSpec, _ => execRule_svePgenSpec s
  | .svePgenFlgSpec, _ => execRule_svePgenFlgSpec s
  | .svePgenCmpSpec, _ => execRule_svePgenCmpSpec s
  | .svePgenFcmSpec, _ => execRule_svePgenFcmSpec s
  | .svePgenLogicSpec, _ => execRule_svePgenLogicSpec s
  | .svePpermSpec, _ => execRule_svePpermSpec s
  | .svePscanSpec, _ => execRule_svePscanSpec s
  | .svePcntSpec, _ => execRule_svePcntSpec s
  | .svePloopWhileSpec, _ => execRule_svePloopWhileSpec s
  | .svePloopTestSpec, _ => execRule_svePloopTestSpec s
  | .svePloopEltsSpec, _ => execRule_svePloopEltsSpec s
  | .svePloopTermSpec, _ => execRule_svePloopTermSpec s
  | .svePredSpec, _ => execRule_svePredSpec s
  | .svePredEmptySpec, _ => execRule_svePredEmptySpec s
  | .svePredFullSpec, _ => execRule_svePredFullSpec s
  | .svePredPartialSpec, _ => execRule_svePredPartialSpec s
  | .sveUnpredSpec, _ => execRule_sveUnpredSpec s
  | .svePredNotFullSpec, _ => execRule_svePredNotFullSpec s
  | .sveMovprfxSpec, _ => execRule_sveMovprfxSpec s
  | .sveMovprfxZSpec, _ => execRule_sveMovprfxZSpec s
  | .sveMovprfxMSpec, _ => execRule_sveMovprfxMSpec s
  | .sveMovprfxUSpec, _ => execRule_sveMovprfxUSpec s
  | .sveLdstSpec, _ => execRule_sveLdstSpec s
  | .sveLdSpec, _ => execRule_sveLdSpec s
  | .sveStSpec, _ => execRule_sveStSpec s
  | .svePrfSpec, _ => execRule_svePrfSpec s
  | .aseSveLdstSpec, _ => execRule_aseSveLdstSpec s
  | .aseSveLdSpec, _ => execRule_aseSveLdSpec s
  | .aseSveStSpec, _ => execRule_aseSveStSpec s
  | .prfSpec, _ => execRule_prfSpec s
  | .baseLdstRegSpec, _ => execRule_baseLdstRegSpec s
  | .baseLdRegSpec, _ => execRule_baseLdRegSpec s
  | .baseStRegSpec, _ => execRule_baseStRegSpec s
  | .basePrfSpec, _ => execRule_basePrfSpec s
  | .fpaseLdstRegSpec, _ => execRule_fpaseLdstRegSpec s
  | .fpaseLdRegSpec, _ => execRule_fpaseLdRegSpec s
  | .fpaseStRegSpec, _ => execRule_fpaseStRegSpec s
  | .sveLdstRegSpec, _ => execRule_sveLdstRegSpec s
  | .sveLdrRegSpec, _ => execRule_sveLdrRegSpec s
  | .sveStrRegSpec, _ => execRule_sveStrRegSpec s
  | .sveLdstPregSpec, _ => execRule_sveLdstPregSpec s
  | .sveLdrPregSpec, _ => execRule_sveLdrPregSpec s
  | .sveStrPregSpec, _ => execRule_sveStrPregSpec s
  | .sveLdstZregSpec, _ => execRule_sveLdstZregSpec s
  | .sveLdrZregSpec, _ => execRule_sveLdrZregSpec s
  | .sveStrZregSpec, _ => execRule_sveStrZregSpec s
  | .sveLdstContigSpec, _ => execRule_sveLdstContigSpec s
  | .sveLdContigSpec, _ => execRule_sveLdContigSpec s
  | .sveStContigSpec, _ => execRule_sveStContigSpec s
  | .svePrfContigSpec, _ => execRule_svePrfContigSpec s
  | .sveLdstntContigSpec, _ => execRule_sveLdstntContigSpec s
  | .sveLdntContigSpec, _ => execRule_sveLdntContigSpec s
  | .sveStntContigSpec, _ => execRule_sveStntContigSpec s
  | .aseSveLdstMultiSpec, _ => execRule_aseSveLdstMultiSpec s
  | .aseSveLdMultiSpec, _ => execRule_aseSveLdMultiSpec s
  | .aseSveStMultiSpec, _ => execRule_aseSveStMultiSpec s
  | .sveLdstMultiSpec, _ => execRule_sveLdstMultiSpec s
  | .sveLdMultiSpec, _ => execRule_sveLdMultiSpec s
  | .sveStMultiSpec, _ => execRule_sveStMultiSpec s
  | .sveLdstNoncontigSpec, _ => execRule_sveLdstNoncontigSpec s
  | .sveLdGatherSpec, _ => execRule_sveLdGatherSpec s
  | .sveStScatterSpec, _ => execRule_sveStScatterSpec s
  | .svePrfGatherSpec, _ => execRule_svePrfGatherSpec s
  | .sveLdst64NoncontigSpec, _ => execRule_sveLdst64NoncontigSpec s
  | .sveLd64GatherSpec, _ => execRule_sveLd64GatherSpec s
  | .sveSt64ScatterSpec, _ => execRule_sveSt64ScatterSpec s
  | .svePrf64GatherSpec, _ => execRule_svePrf64GatherSpec s
  | .aseSveUnalignedLdstSpec, _ => execRule_aseSveUnalignedLdstSpec s
  | .aseSveUnalignedLdSpec, _ => execRule_aseSveUnalignedLdSpec s
  | .aseSveUnalignedStSpec, _ => execRule_aseSveUnalignedStSpec s
  | .aseSveUnalignedContigLdstSpec, _ => execRule_aseSveUnalignedContigLdstSpec s
  | .aseSveUnalignedContigLdSpec, _ => execRule_aseSveUnalignedContigLdSpec s
  | .aseSveUnalignedContigStSpec, _ => execRule_aseSveUnalignedContigStSpec s
  | .sveLdffSpec, _ => execRule_sveLdffSpec s
  | .sveLdffFaultSpec, _ => execRule_sveLdffFaultSpec s
  | .fpScaleOpsSpec, _ => execRule_fpScaleOpsSpec s
  | .fpFixedOpsSpec, _ => execRule_fpFixedOpsSpec s
  | .fpHpScaleOpsSpec, _ => execRule_fpHpScaleOpsSpec s
  | .fpHpFixedOpsSpec, _ => execRule_fpHpFixedOpsSpec s
  | .fpSpScaleOpsSpec, _ => execRule_fpSpScaleOpsSpec s
  | .fpSpFixedOpsSpec, _ => execRule_fpSpFixedOpsSpec s
  | .fpDpScaleOpsSpec, _ => execRule_fpDpScaleOpsSpec s
  | .fpDpFixedOpsSpec, _ => execRule_fpDpFixedOpsSpec s
  | .intScaleOpsSpec, _ => execRule_intScaleOpsSpec s
  | .intFixedOpsSpec, _ => execRule_intFixedOpsSpec s
  | .ldstScaleOpsSpec, _ => execRule_ldstScaleOpsSpec s
  | .ldstFixedOpsSpec, _ => execRule_ldstFixedOpsSpec s
  | .ldScaleOpsSpec, _ => execRule_ldScaleOpsSpec s
  | .ldFixedOpsSpec, _ => execRule_ldFixedOpsSpec s
  | .stScaleOpsSpec, _ => execRule_stScaleOpsSpec s
  | .stFixedOpsSpec, _ => execRule_stFixedOpsSpec s
  | .fpScale2OpsSpec, _ => execRule_fpScale2OpsSpec s
  | .fpHpScale2OpsSpec, _ => execRule_fpHpScale2OpsSpec s
  | .fpBf16Scale2OpsSpec, _ => execRule_fpBf16Scale2OpsSpec s
  | .fpSpScale2OpsSpec, _ => execRule_fpSpScale2OpsSpec s
  | .fpDpScale2OpsSpec, _ => execRule_fpDpScale2OpsSpec s
  | .intScale2OpsSpec, _ => execRule_intScale2OpsSpec s
  | .ldstScaleBytesSpec, _ => execRule_ldstScaleBytesSpec s
  | .ldstFixedBytesSpec, _ => execRule_ldstFixedBytesSpec s
  | .ldScaleBytesSpec, _ => execRule_ldScaleBytesSpec s
  | .ldFixedBytesSpec, _ => execRule_ldFixedBytesSpec s
  | .stScaleBytesSpec, _ => execRule_stScaleBytesSpec s
  | .stFixedBytesSpec, _ => execRule_stFixedBytesSpec s
  | .aseInt8Spec, _ => execRule_aseInt8Spec s
  | .sveInt8Spec, _ => execRule_sveInt8Spec s
  | .aseSveInt8Spec, _ => execRule_aseSveInt8Spec s
  | .aseInt16Spec, _ => execRule_aseInt16Spec s
  | .sveInt16Spec, _ => execRule_sveInt16Spec s
  | .aseSveInt16Spec, _ => execRule_aseSveInt16Spec s
  | .fpBf16ScaleOpsSpec, _ => execRule_fpBf16ScaleOpsSpec s
  | .aseInt32Spec, _ => execRule_aseInt32Spec s
  | .sveInt32Spec, _ => execRule_sveInt32Spec s
  | .aseSveInt32Spec, _ => execRule_aseSveInt32Spec s
  | .aseInt64Spec, _ => execRule_aseInt64Spec s
  | .sveInt64Spec, _ => execRule_sveInt64Spec s
  | .aseSveInt64Spec, _ => execRule_aseSveInt64Spec s
  | .aseFpDotSpec, _ => execRule_aseFpDotSpec s
  | .sveFpDotSpec, _ => execRule_sveFpDotSpec s
  | .aseSveFpDotSpec, _ => execRule_aseSveFpDotSpec s
  | .aseFpMmlaSpec, _ => execRule_aseFpMmlaSpec s
  | .sveFpMmlaSpec, _ => execRule_sveFpMmlaSpec s
  | .aseSveFpMmlaSpec, _ => execRule_aseSveFpMmlaSpec s
  | .aseIntDotSpec, _ => execRule_aseIntDotSpec s
  | .sveIntDotSpec, _ => execRule_sveIntDotSpec s
  | .aseSveIntDotSpec, _ => execRule_aseSveIntDotSpec s
  | .aseIntMmlaSpec, _ => execRule_aseIntMmlaSpec s
  | .sveIntMmlaSpec, _ => execRule_sveIntMmlaSpec s
  | .aseSveIntMmlaSpec, _ => execRule_aseSveIntMmlaSpec s
  | .brImmedPredRetired, _ => execRule_brImmedPredRetired s
  | .brImmedMisPredRetired, _ => execRule_brImmedMisPredRetired s
  | .brIndPredRetired, _ => execRule_brIndPredRetired s
  | .brIndMisPredRetired, _ => execRule_brIndMisPredRetired s
  | .brReturnPredRetired, _ => execRule_brReturnPredRetired s
  | .brReturnMisPredRetired, _ => execRule_brReturnMisPredRetired s
  | .brIndnrPredRetired, _ => execRule_brIndnrPredRetired s
  | .brIndnrMisPredRetired, _ => execRule_brIndnrMisPredRetired s
  | .brTakenPredRetired, _ => execRule_brTakenPredRetired s
  | .brTakenMisPredRetired, _ => execRule_brTakenMisPredRetired s
  | .brSkipPredRetired, _ => execRule_brSkipPredRetired s
  | .brSkipMisPredRetired, _ => execRule_brSkipMisPredRetired s
  | .brPredRetired, _ => execRule_brPredRetired s
  | .instFetchPercyc, _ => execRule_instFetchPercyc s
  | .memAccessRdPercyc, _ => execRule_memAccessRdPercyc s
  | .sampleFeedDs, _ => execRule_sampleFeedDs s
  | .sampleBufferFull, _ => execRule_sampleBufferFull s
  | .instFetch, _ => execRule_instFetch s
  | .busReqRdPercyc, _ => execRule_busReqRdPercyc s
  | .busReqWrPercyc, _ => execRule_busReqWrPercyc s
  | .pmuSnapshot, _ => execRule_pmuSnapshot s
  | .dtlbWalkPercyc, _ => execRule_dtlbWalkPercyc s
  | .itlbWalkPercyc, _ => execRule_itlbWalkPercyc s
  | .sampleFeedBr, _ => execRule_sampleFeedBr s
  | .sampleFeedLd, _ => execRule_sampleFeedLd s
  | .sampleFeedSt, _ => execRule_sampleFeedSt s
  | .sampleFeedOp, _ => execRule_sampleFeedOp s
  | .sampleFeedEvent, _ => execRule_sampleFeedEvent s
  | .sampleFeedLat, _ => execRule_sampleFeedLat s
  | .l1dTlbRw, _ => execRule_l1dTlbRw s
  | .l1iTlbRd, _ => execRule_l1iTlbRd s
  | .l1dTlbPrfm, _ => execRule_l1dTlbPrfm s
  | .l1iTlbPrfm, _ => execRule_l1iTlbPrfm s
  | .dtlbHwupd, _ => execRule_dtlbHwupd s
  | .itlbHwupd, _ => execRule_itlbHwupd s
  | .dtlbStep, _ => execRule_dtlbStep s
  | .itlbStep, _ => execRule_itlbStep s
  | .dtlbWalkLarge, _ => execRule_dtlbWalkLarge s
  | .itlbWalkLarge, _ => execRule_itlbWalkLarge s
  | .dtlbWalkSmall, _ => execRule_dtlbWalkSmall s
  | .itlbWalkSmall, _ => execRule_itlbWalkSmall s
  | .dtlbWalkRw, _ => execRule_dtlbWalkRw s
  | .itlbWalkRd, _ => execRule_itlbWalkRd s
  | .dtlbWalkPrfm, _ => execRule_dtlbWalkPrfm s
  | .itlbWalkPrfm, _ => execRule_itlbWalkPrfm s
  | .l1dCacheRw, _ => execRule_l1dCacheRw s
  | .l1iCacheRd, _ => execRule_l1iCacheRd s
  | .l1dCachePrfm, _ => execRule_l1dCachePrfm s
  | .l1iCachePrfm, _ => execRule_l1iCachePrfm s
  | .l1dCacheMiss, _ => execRule_l1dCacheMiss s
  | .l1iCacheHwprf, _ => execRule_l1iCacheHwprf s
  | .l1dCacheRefillPrfm, _ => execRule_l1dCacheRefillPrfm s
  | .l1iCacheRefillPrfm, _ => execRule_l1iCacheRefillPrfm s
  | .l2dCacheRw, _ => execRule_l2dCacheRw s
  | .l2iCacheRd, _ => execRule_l2iCacheRd s
  | .l2dCachePrfm, _ => execRule_l2dCachePrfm s
  | .l2iCachePrfm, _ => execRule_l2iCachePrfm s
  | .l2dCacheMiss, _ => execRule_l2dCacheMiss s
  | .l2iCacheHwprf, _ => execRule_l2iCacheHwprf s
  | .l2dCacheRefillPrfm, _ => execRule_l2dCacheRefillPrfm s
  | .l2iCacheRefillPrfm, _ => execRule_l2iCacheRefillPrfm s
  | .l3dCacheRw, _ => execRule_l3dCacheRw s
  | .l3dCachePrfm, _ => execRule_l3dCachePrfm s
  | .l3dCacheMiss, _ => execRule_l3dCacheMiss s
  | .l3dCacheRefillPrfm, _ => execRule_l3dCacheRefillPrfm s
  | .l1dCacheHwprf, _ => execRule_l1dCacheHwprf s
  | .l2dCacheHwprf, _ => execRule_l2dCacheHwprf s
  | .l3dCacheHwprf, _ => execRule_l3dCacheHwprf s
  | .llCacheHwprf, _ => execRule_llCacheHwprf s
  | .stallFrontendMembound, _ => execRule_stallFrontendMembound s
  | .stallFrontendL1i, _ => execRule_stallFrontendL1i s
  | .stallFrontendL2i, _ => execRule_stallFrontendL2i s
  | .stallFrontendMem, _ => execRule_stallFrontendMem s
  | .stallFrontendTlb, _ => execRule_stallFrontendTlb s
  | .stallBackendBusySmcu, _ => execRule_stallBackendBusySmcu s
  | .stallBackendBusySmcuUnall, _ => execRule_stallBackendBusySmcuUnall s
  | .stallFrontendCpubound, _ => execRule_stallFrontendCpubound s
  | .stallFrontendFlow, _ => execRule_stallFrontendFlow s
  | .stallFrontendFlush, _ => execRule_stallFrontendFlush s
  | .stallFrontendRename, _ => execRule_stallFrontendRename s
  | .stallBackendMembound, _ => execRule_stallBackendMembound s
  | .stallBackendL1d, _ => execRule_stallBackendL1d s
  | .stallBackendL2d, _ => execRule_stallBackendL2d s
  | .stallBackendTlb, _ => execRule_stallBackendTlb s
  | .stallBackendSt, _ => execRule_stallBackendSt s
  | .stallBackendCpubound, _ => execRule_stallBackendCpubound s
  | .stallBackendBusy, _ => execRule_stallBackendBusy s
  | .stallBackendIlock, _ => execRule_stallBackendIlock s
  | .stallBackendRename, _ => execRule_stallBackendRename s
  | .stallBackendAtomic, _ => execRule_stallBackendAtomic s
  | .stallBackendMemcpyset, _ => execRule_stallBackendMemcpyset s
  | .casNearFail, _ => execRule_casNearFail s
  | .casNearPass, _ => execRule_casNearPass s
  | .casNearSpec, _ => execRule_casNearSpec s
  | .casFarSpec, _ => execRule_casFarSpec s
  | .casSpec, _ => execRule_casSpec s
  | .lseLdSpec, _ => execRule_lseLdSpec s
  | .lseStSpec, _ => execRule_lseStSpec s
  | .lseLdstSpec, _ => execRule_lseLdstSpec s
  | .remoteAccessWr, _ => execRule_remoteAccessWr s
  | .brHintCondPredRetired, _ => execRule_brHintCondPredRetired s
  | .brHintCondMisPredRetired, _ => execRule_brHintCondMisPredRetired s
  | .uopRetired, _ => execRule_uopRetired s
  | .dtlbWalkBlock, _ => execRule_dtlbWalkBlock s
  | .itlbWalkBlock, _ => execRule_itlbWalkBlock s
  | .dtlbWalkPage, _ => execRule_dtlbWalkPage s
  | .itlbWalkPage, _ => execRule_itlbWalkPage s
  | .busReqRd, _ => execRule_busReqRd s
  | .busReqWr, _ => execRule_busReqWr s
  | .busReq, _ => execRule_busReq s
  | .isnpHitRd, _ => execRule_isnpHitRd s
  | .isnpHitNearRd, _ => execRule_isnpHitNearRd s
  | .isnpHitFarRd, _ => execRule_isnpHitFarRd s
  | .isnpHitRemoteRd, _ => execRule_isnpHitRemoteRd s
  | .dsnpHitRd, _ => execRule_dsnpHitRd s
  | .dsnpHitNearRd, _ => execRule_dsnpHitNearRd s
  | .dsnpHitFarRd, _ => execRule_dsnpHitFarRd s
  | .dsnpHitRemoteRd, _ => execRule_dsnpHitRemoteRd s
  | .dsnpHitWr, _ => execRule_dsnpHitWr s
  | .dsnpHitNearWr, _ => execRule_dsnpHitNearWr s
  | .dsnpHitFarWr, _ => execRule_dsnpHitFarWr s
  | .dsnpHitRemoteWr, _ => execRule_dsnpHitRemoteWr s
  | .dsnpHitRw, _ => execRule_dsnpHitRw s
  | .dsnpHitNearRw, _ => execRule_dsnpHitNearRw s
  | .dsnpHitFarRw, _ => execRule_dsnpHitFarRw s
  | .dsnpHitRemoteRw, _ => execRule_dsnpHitRemoteRw s
  | .dsnpHitPrfm, _ => execRule_dsnpHitPrfm s
  | .dsnpHitNearPrfm, _ => execRule_dsnpHitNearPrfm s
  | .dsnpHitFarPrfm, _ => execRule_dsnpHitFarPrfm s
  | .dsnpHitRemotePrfm, _ => execRule_dsnpHitRemotePrfm s
  | .dsnpHitHwprf, _ => execRule_dsnpHitHwprf s
  | .dsnpHitNearHwprf, _ => execRule_dsnpHitNearHwprf s
  | .dsnpHitFarHwprf, _ => execRule_dsnpHitFarHwprf s
  | .dsnpHitRemoteHwprf, _ => execRule_dsnpHitRemoteHwprf s
  | .isnpHitPrfm, _ => execRule_isnpHitPrfm s
  | .isnpHitNearPrfm, _ => execRule_isnpHitNearPrfm s
  | .isnpHitFarPrfm, _ => execRule_isnpHitFarPrfm s
  | .isnpHitRemotePrfm, _ => execRule_isnpHitRemotePrfm s
  | .isnpHitHwprf, _ => execRule_isnpHitHwprf s
  | .isnpHitNearHwprf, _ => execRule_isnpHitNearHwprf s
  | .isnpHitFarHwprf, _ => execRule_isnpHitFarHwprf s
  | .isnpHitRemoteHwprf, _ => execRule_isnpHitRemoteHwprf s
  | .isnpHit, _ => execRule_isnpHit s
  | .isnpHitNear, _ => execRule_isnpHitNear s
  | .isnpHitFar, _ => execRule_isnpHitFar s
  | .isnpHitRemote, _ => execRule_isnpHitRemote s
  | .dsnpHit, _ => execRule_dsnpHit s
  | .dsnpHitNear, _ => execRule_dsnpHitNear s
  | .dsnpHitFar, _ => execRule_dsnpHitFar s
  | .dsnpHitRemote, _ => execRule_dsnpHitRemote s
  | .l1iCacheRefillHwprf, _ => execRule_l1iCacheRefillHwprf s
  | .l2iCacheRefillHwprf, _ => execRule_l2iCacheRefillHwprf s
  | .l1dCacheRefillHwprf, _ => execRule_l1dCacheRefillHwprf s
  | .l2dCacheRefillHwprf, _ => execRule_l2dCacheRefillHwprf s
  | .l3dCacheRefillHwprf, _ => execRule_l3dCacheRefillHwprf s
  | .llCacheRefillHwprf, _ => execRule_llCacheRefillHwprf s
  | .l1iCacheHitRd, _ => execRule_l1iCacheHitRd s
  | .l2iCacheHitRd, _ => execRule_l2iCacheHitRd s
  | .l1dCacheHitRd, _ => execRule_l1dCacheHitRd s
  | .l2dCacheHitRd, _ => execRule_l2dCacheHitRd s
  | .l3dCacheHitRd, _ => execRule_l3dCacheHitRd s
  | .llCacheHitRd, _ => execRule_llCacheHitRd s
  | .l1dCacheHitWr, _ => execRule_l1dCacheHitWr s
  | .l2dCacheHitWr, _ => execRule_l2dCacheHitWr s
  | .l3dCacheHitWr, _ => execRule_l3dCacheHitWr s
  | .llCacheHitWr, _ => execRule_llCacheHitWr s
  | .l1dCacheHitRw, _ => execRule_l1dCacheHitRw s
  | .l2dCacheHitRw, _ => execRule_l2dCacheHitRw s
  | .l3dCacheHitRw, _ => execRule_l3dCacheHitRw s
  | .llCacheHitRw, _ => execRule_llCacheHitRw s
  | .l1iCacheHitRdFprfm, _ => execRule_l1iCacheHitRdFprfm s
  | .l2iCacheHitRdFprfm, _ => execRule_l2iCacheHitRdFprfm s
  | .l1dCacheHitRdFprfm, _ => execRule_l1dCacheHitRdFprfm s
  | .l2dCacheHitRdFprfm, _ => execRule_l2dCacheHitRdFprfm s
  | .l3dCacheHitRdFprfm, _ => execRule_l3dCacheHitRdFprfm s
  | .llCacheHitRdFprfm, _ => execRule_llCacheHitRdFprfm s
  | .l1dCacheHitWrFprfm, _ => execRule_l1dCacheHitWrFprfm s
  | .l2dCacheHitWrFprfm, _ => execRule_l2dCacheHitWrFprfm s
  | .l3dCacheHitWrFprfm, _ => execRule_l3dCacheHitWrFprfm s
  | .llCacheHitWrFprfm, _ => execRule_llCacheHitWrFprfm s
  | .l1dCacheHitRwFprfm, _ => execRule_l1dCacheHitRwFprfm s
  | .l2dCacheHitRwFprfm, _ => execRule_l2dCacheHitRwFprfm s
  | .l3dCacheHitRwFprfm, _ => execRule_l3dCacheHitRwFprfm s
  | .llCacheHitRwFprfm, _ => execRule_llCacheHitRwFprfm s
  | .l1iCacheHitRdFhwprf, _ => execRule_l1iCacheHitRdFhwprf s
  | .l2iCacheHitRdFhwprf, _ => execRule_l2iCacheHitRdFhwprf s
  | .l1dCacheHitRdFhwprf, _ => execRule_l1dCacheHitRdFhwprf s
  | .l2dCacheHitRdFhwprf, _ => execRule_l2dCacheHitRdFhwprf s
  | .l3dCacheHitRdFhwprf, _ => execRule_l3dCacheHitRdFhwprf s
  | .llCacheHitRdFhwprf, _ => execRule_llCacheHitRdFhwprf s
  | .l1dCacheHitWrFhwprf, _ => execRule_l1dCacheHitWrFhwprf s
  | .l2dCacheHitWrFhwprf, _ => execRule_l2dCacheHitWrFhwprf s
  | .l3dCacheHitWrFhwprf, _ => execRule_l3dCacheHitWrFhwprf s
  | .llCacheHitWrFhwprf, _ => execRule_llCacheHitWrFhwprf s
  | .l1dCacheHitRwFhwprf, _ => execRule_l1dCacheHitRwFhwprf s
  | .l2dCacheHitRwFhwprf, _ => execRule_l2dCacheHitRwFhwprf s
  | .l3dCacheHitRwFhwprf, _ => execRule_l3dCacheHitRwFhwprf s
  | .llCacheHitRwFhwprf, _ => execRule_llCacheHitRwFhwprf s
  | .l1iCacheHitRdFprf, _ => execRule_l1iCacheHitRdFprf s
  | .l2iCacheHitRdFprf, _ => execRule_l2iCacheHitRdFprf s
  | .l1dCacheHitRdFprf, _ => execRule_l1dCacheHitRdFprf s
  | .l2dCacheHitRdFprf, _ => execRule_l2dCacheHitRdFprf s
  | .l3dCacheHitRdFprf, _ => execRule_l3dCacheHitRdFprf s
  | .llCacheHitRdFprf, _ => execRule_llCacheHitRdFprf s
  | .l1dCacheHitWrFprf, _ => execRule_l1dCacheHitWrFprf s
  | .l2dCacheHitWrFprf, _ => execRule_l2dCacheHitWrFprf s
  | .l3dCacheHitWrFprf, _ => execRule_l3dCacheHitWrFprf s
  | .llCacheHitWrFprf, _ => execRule_llCacheHitWrFprf s
  | .l1dCacheHitRwFprf, _ => execRule_l1dCacheHitRwFprf s
  | .l2dCacheHitRwFprf, _ => execRule_l2dCacheHitRwFprf s
  | .l3dCacheHitRwFprf, _ => execRule_l3dCacheHitRwFprf s
  | .llCacheHitRwFprf, _ => execRule_llCacheHitRwFprf s
  | .l1iCacheHit, _ => execRule_l1iCacheHit s
  | .l2iCacheHit, _ => execRule_l2iCacheHit s
  | .l1dCacheHit, _ => execRule_l1dCacheHit s
  | .l2dCacheHit, _ => execRule_l2dCacheHit s
  | .l3dCacheHit, _ => execRule_l3dCacheHit s
  | .llCacheHit, _ => execRule_llCacheHit s
  | .l1iCacheHitPrfm, _ => execRule_l1iCacheHitPrfm s
  | .l2iCacheHitPrfm, _ => execRule_l2iCacheHitPrfm s
  | .l1dCacheHitPrfm, _ => execRule_l1dCacheHitPrfm s
  | .l2dCacheHitPrfm, _ => execRule_l2dCacheHitPrfm s
  | .l3dCacheHitPrfm, _ => execRule_l3dCacheHitPrfm s
  | .llCacheHitPrfm, _ => execRule_llCacheHitPrfm s
  | .l1dCacheHitmRd, _ => execRule_l1dCacheHitmRd s
  | .l2dCacheHitmRd, _ => execRule_l2dCacheHitmRd s
  | .l3dCacheHitmRd, _ => execRule_l3dCacheHitmRd s
  | .llCacheHitmRd, _ => execRule_llCacheHitmRd s
  | .l1dCacheHitmWr, _ => execRule_l1dCacheHitmWr s
  | .l2dCacheHitmWr, _ => execRule_l2dCacheHitmWr s
  | .l3dCacheHitmWr, _ => execRule_l3dCacheHitmWr s
  | .llCacheHitmWr, _ => execRule_llCacheHitmWr s
  | .l1dCacheHitmRw, _ => execRule_l1dCacheHitmRw s
  | .l2dCacheHitmRw, _ => execRule_l2dCacheHitmRw s
  | .l3dCacheHitmRw, _ => execRule_l3dCacheHitmRw s
  | .llCacheHitmRw, _ => execRule_llCacheHitmRw s
  | .dsnpHitmRd, _ => execRule_dsnpHitmRd s
  | .dsnpHitmNearRd, _ => execRule_dsnpHitmNearRd s
  | .dsnpHitmFarRd, _ => execRule_dsnpHitmFarRd s
  | .dsnpHitmRemoteRd, _ => execRule_dsnpHitmRemoteRd s
  | .dsnpHitmWr, _ => execRule_dsnpHitmWr s
  | .dsnpHitmNearWr, _ => execRule_dsnpHitmNearWr s
  | .dsnpHitmFarWr, _ => execRule_dsnpHitmFarWr s
  | .dsnpHitmRemoteWr, _ => execRule_dsnpHitmRemoteWr s
  | .dsnpHitmRw, _ => execRule_dsnpHitmRw s
  | .dsnpHitmNearRw, _ => execRule_dsnpHitmNearRw s
  | .dsnpHitmFarRw, _ => execRule_dsnpHitmFarRw s
  | .dsnpHitmRemoteRw, _ => execRule_dsnpHitmRemoteRw s
  | .localMem, _ => execRule_localMem s
  | .localMemRd, _ => execRule_localMemRd s
  | .localMemWr, _ => execRule_localMemWr s
  | .localMemRw, _ => execRule_localMemRw s
  | .localMemPrfm, _ => execRule_localMemPrfm s
  | .localMemLdRetired, _ => execRule_localMemLdRetired s
  | .localMemStRetired, _ => execRule_localMemStRetired s
  | .localMemLdstRetired, _ => execRule_localMemLdstRetired s
  | .remoteMem, _ => execRule_remoteMem s
  | .remoteMemRd, _ => execRule_remoteMemRd s
  | .remoteMemWr, _ => execRule_remoteMemWr s
  | .remoteMemRw, _ => execRule_remoteMemRw s
  | .remoteMemPrfm, _ => execRule_remoteMemPrfm s
  | .remoteMemLdRetired, _ => execRule_remoteMemLdRetired s
  | .remoteMemStRetired, _ => execRule_remoteMemStRetired s
  | .remoteMemLdstRetired, _ => execRule_remoteMemLdstRetired s
  | .l1iLfbHitRd, _ => execRule_l1iLfbHitRd s
  | .l2iLfbHitRd, _ => execRule_l2iLfbHitRd s
  | .l1dLfbHitRd, _ => execRule_l1dLfbHitRd s
  | .l2dLfbHitRd, _ => execRule_l2dLfbHitRd s
  | .l3dLfbHitRd, _ => execRule_l3dLfbHitRd s
  | .llLfbHitRd, _ => execRule_llLfbHitRd s
  | .l1dLfbHitWr, _ => execRule_l1dLfbHitWr s
  | .l2dLfbHitWr, _ => execRule_l2dLfbHitWr s
  | .l3dLfbHitWr, _ => execRule_l3dLfbHitWr s
  | .llLfbHitWr, _ => execRule_llLfbHitWr s
  | .l1dLfbHitRw, _ => execRule_l1dLfbHitRw s
  | .l2dLfbHitRw, _ => execRule_l2dLfbHitRw s
  | .l3dLfbHitRw, _ => execRule_l3dLfbHitRw s
  | .llLfbHitRw, _ => execRule_llLfbHitRw s
  | .l1iLfbHitRdFprfm, _ => execRule_l1iLfbHitRdFprfm s
  | .l2iLfbHitRdFprfm, _ => execRule_l2iLfbHitRdFprfm s
  | .l1dLfbHitRdFprfm, _ => execRule_l1dLfbHitRdFprfm s
  | .l2dLfbHitRdFprfm, _ => execRule_l2dLfbHitRdFprfm s
  | .l3dLfbHitRdFprfm, _ => execRule_l3dLfbHitRdFprfm s
  | .llLfbHitRdFprfm, _ => execRule_llLfbHitRdFprfm s
  | .l1dLfbHitWrFprfm, _ => execRule_l1dLfbHitWrFprfm s
  | .l2dLfbHitWrFprfm, _ => execRule_l2dLfbHitWrFprfm s
  | .l3dLfbHitWrFprfm, _ => execRule_l3dLfbHitWrFprfm s
  | .llLfbHitWrFprfm, _ => execRule_llLfbHitWrFprfm s
  | .l1dLfbHitRwFprfm, _ => execRule_l1dLfbHitRwFprfm s
  | .l2dLfbHitRwFprfm, _ => execRule_l2dLfbHitRwFprfm s
  | .l3dLfbHitRwFprfm, _ => execRule_l3dLfbHitRwFprfm s
  | .llLfbHitRwFprfm, _ => execRule_llLfbHitRwFprfm s
  | .l1iLfbHitRdFhwprf, _ => execRule_l1iLfbHitRdFhwprf s
  | .l2iLfbHitRdFhwprf, _ => execRule_l2iLfbHitRdFhwprf s
  | .l1dLfbHitRdFhwprf, _ => execRule_l1dLfbHitRdFhwprf s
  | .l2dLfbHitRdFhwprf, _ => execRule_l2dLfbHitRdFhwprf s
  | .l3dLfbHitRdFhwprf, _ => execRule_l3dLfbHitRdFhwprf s
  | .llLfbHitRdFhwprf, _ => execRule_llLfbHitRdFhwprf s
  | .l1dLfbHitWrFhwprf, _ => execRule_l1dLfbHitWrFhwprf s
  | .l2dLfbHitWrFhwprf, _ => execRule_l2dLfbHitWrFhwprf s
  | .l3dLfbHitWrFhwprf, _ => execRule_l3dLfbHitWrFhwprf s
  | .llLfbHitWrFhwprf, _ => execRule_llLfbHitWrFhwprf s
  | .l1dLfbHitRwFhwprf, _ => execRule_l1dLfbHitRwFhwprf s
  | .l2dLfbHitRwFhwprf, _ => execRule_l2dLfbHitRwFhwprf s
  | .l3dLfbHitRwFhwprf, _ => execRule_l3dLfbHitRwFhwprf s
  | .llLfbHitRwFhwprf, _ => execRule_llLfbHitRwFhwprf s
  | .l1iLfbHitRdFprf, _ => execRule_l1iLfbHitRdFprf s
  | .l2iLfbHitRdFprf, _ => execRule_l2iLfbHitRdFprf s
  | .l1dLfbHitRdFprf, _ => execRule_l1dLfbHitRdFprf s
  | .l2dLfbHitRdFprf, _ => execRule_l2dLfbHitRdFprf s
  | .l3dLfbHitRdFprf, _ => execRule_l3dLfbHitRdFprf s
  | .llLfbHitRdFprf, _ => execRule_llLfbHitRdFprf s
  | .l1dLfbHitWrFprf, _ => execRule_l1dLfbHitWrFprf s
  | .l2dLfbHitWrFprf, _ => execRule_l2dLfbHitWrFprf s
  | .l3dLfbHitWrFprf, _ => execRule_l3dLfbHitWrFprf s
  | .llLfbHitWrFprf, _ => execRule_llLfbHitWrFprf s
  | .l1dLfbHitRwFprf, _ => execRule_l1dLfbHitRwFprf s
  | .l2dLfbHitRwFprf, _ => execRule_l2dLfbHitRwFprf s
  | .l3dLfbHitRwFprf, _ => execRule_l3dLfbHitRwFprf s
  | .llLfbHitRwFprf, _ => execRule_llLfbHitRwFprf s
  | .l1iCachePrf, _ => execRule_l1iCachePrf s
  | .l2iCachePrf, _ => execRule_l2iCachePrf s
  | .l1dCachePrf, _ => execRule_l1dCachePrf s
  | .l2dCachePrf, _ => execRule_l2dCachePrf s
  | .l3dCachePrf, _ => execRule_l3dCachePrf s
  | .llCachePrf, _ => execRule_llCachePrf s
  | .l1iCacheRefillPrf, _ => execRule_l1iCacheRefillPrf s
  | .l2iCacheRefillPrf, _ => execRule_l2iCacheRefillPrf s
  | .l1dCacheRefillPrf, _ => execRule_l1dCacheRefillPrf s
  | .l2dCacheRefillPrf, _ => execRule_l2dCacheRefillPrf s
  | .l3dCacheRefillPrf, _ => execRule_l3dCacheRefillPrf s
  | .llCacheRefillPrf, _ => execRule_llCacheRefillPrf s
  | .isnpHitPrf, _ => execRule_isnpHitPrf s
  | .isnpHitNearPrf, _ => execRule_isnpHitNearPrf s
  | .isnpHitFarPrf, _ => execRule_isnpHitFarPrf s
  | .isnpHitRemotePrf, _ => execRule_isnpHitRemotePrf s
  | .dsnpHitPrf, _ => execRule_dsnpHitPrf s
  | .dsnpHitNearPrf, _ => execRule_dsnpHitNearPrf s
  | .dsnpHitFarPrf, _ => execRule_dsnpHitFarPrf s
  | .dsnpHitRemotePrf, _ => execRule_dsnpHitRemotePrf s
  | .llCacheRw, _ => execRule_llCacheRw s
  | .llCachePrfm, _ => execRule_llCachePrfm s
  | .llCacheRefill, _ => execRule_llCacheRefill s
  | .llCacheRefillPrfm, _ => execRule_llCacheRefillPrfm s
  | .llCacheWb, _ => execRule_llCacheWb s
  | .llCacheWr, _ => execRule_llCacheWr s
  | .llCacheRefillWr, _ => execRule_llCacheRefillWr s
  | .memAccessRw, _ => execRule_memAccessRw s
  | .instFetchRd, _ => execRule_instFetchRd s
  | .memAccessPrfm, _ => execRule_memAccessPrfm s
  | .instFetchPrfm, _ => execRule_instFetchPrfm s
  | .l1iCacheMissRetired, _ => execRule_l1iCacheMissRetired s
  | .l2iCacheMissRetired, _ => execRule_l2iCacheMissRetired s
  | .l1dCacheMissLdRetired, _ => execRule_l1dCacheMissLdRetired s
  | .l2dCacheMissLdRetired, _ => execRule_l2dCacheMissLdRetired s
  | .l3dCacheMissLdRetired, _ => execRule_l3dCacheMissLdRetired s
  | .llCacheMissLdRetired, _ => execRule_llCacheMissLdRetired s
  | .l1dCacheMissStRetired, _ => execRule_l1dCacheMissStRetired s
  | .l2dCacheMissStRetired, _ => execRule_l2dCacheMissStRetired s
  | .l3dCacheMissStRetired, _ => execRule_l3dCacheMissStRetired s
  | .llCacheMissStRetired, _ => execRule_llCacheMissStRetired s
  | .l1dCacheMissLdstRetired, _ => execRule_l1dCacheMissLdstRetired s
  | .l2dCacheMissLdstRetired, _ => execRule_l2dCacheMissLdstRetired s
  | .l3dCacheMissLdstRetired, _ => execRule_l3dCacheMissLdstRetired s
  | .llCacheMissLdstRetired, _ => execRule_llCacheMissLdstRetired s
  | .l1dCacheHitmLdRetired, _ => execRule_l1dCacheHitmLdRetired s
  | .l2dCacheHitmLdRetired, _ => execRule_l2dCacheHitmLdRetired s
  | .l3dCacheHitmLdRetired, _ => execRule_l3dCacheHitmLdRetired s
  | .llCacheHitmLdRetired, _ => execRule_llCacheHitmLdRetired s
  | .l1dCacheHitmStRetired, _ => execRule_l1dCacheHitmStRetired s
  | .l2dCacheHitmStRetired, _ => execRule_l2dCacheHitmStRetired s
  | .l3dCacheHitmStRetired, _ => execRule_l3dCacheHitmStRetired s
  | .llCacheHitmStRetired, _ => execRule_llCacheHitmStRetired s
  | .l1dCacheHitmLdstRetired, _ => execRule_l1dCacheHitmLdstRetired s
  | .l2dCacheHitmLdstRetired, _ => execRule_l2dCacheHitmLdstRetired s
  | .l3dCacheHitmLdstRetired, _ => execRule_l3dCacheHitmLdstRetired s
  | .llCacheHitmLdstRetired, _ => execRule_llCacheHitmLdstRetired s
  | .l1iLfbHitRetired, _ => execRule_l1iLfbHitRetired s
  | .l2iLfbHitRetired, _ => execRule_l2iLfbHitRetired s
  | .l1dLfbHitLdRetired, _ => execRule_l1dLfbHitLdRetired s
  | .l2dLfbHitLdRetired, _ => execRule_l2dLfbHitLdRetired s
  | .l3dLfbHitLdRetired, _ => execRule_l3dLfbHitLdRetired s
  | .llLfbHitLdRetired, _ => execRule_llLfbHitLdRetired s
  | .l1dLfbHitStRetired, _ => execRule_l1dLfbHitStRetired s
  | .l2dLfbHitStRetired, _ => execRule_l2dLfbHitStRetired s
  | .l3dLfbHitStRetired, _ => execRule_l3dLfbHitStRetired s
  | .llLfbHitStRetired, _ => execRule_llLfbHitStRetired s
  | .l1dLfbHitLdstRetired, _ => execRule_l1dLfbHitLdstRetired s
  | .l2dLfbHitLdstRetired, _ => execRule_l2dLfbHitLdstRetired s
  | .l3dLfbHitLdstRetired, _ => execRule_l3dLfbHitLdstRetired s
  | .llLfbHitLdstRetired, _ => execRule_llLfbHitLdstRetired s
  | .l1iCacheHitRetired, _ => execRule_l1iCacheHitRetired s
  | .l2iCacheHitRetired, _ => execRule_l2iCacheHitRetired s
  | .l1dCacheHitLdRetired, _ => execRule_l1dCacheHitLdRetired s
  | .l2dCacheHitLdRetired, _ => execRule_l2dCacheHitLdRetired s
  | .l3dCacheHitLdRetired, _ => execRule_l3dCacheHitLdRetired s
  | .llCacheHitLdRetired, _ => execRule_llCacheHitLdRetired s
  | .l1dCacheHitStRetired, _ => execRule_l1dCacheHitStRetired s
  | .l2dCacheHitStRetired, _ => execRule_l2dCacheHitStRetired s
  | .l3dCacheHitStRetired, _ => execRule_l3dCacheHitStRetired s
  | .llCacheHitStRetired, _ => execRule_llCacheHitStRetired s
  | .l1dCacheHitLdstRetired, _ => execRule_l1dCacheHitLdstRetired s
  | .l2dCacheHitLdstRetired, _ => execRule_l2dCacheHitLdstRetired s
  | .l3dCacheHitLdstRetired, _ => execRule_l3dCacheHitLdstRetired s
  | .llCacheHitLdstRetired, _ => execRule_llCacheHitLdstRetired s
  | .itlbHitRetired, _ => execRule_itlbHitRetired s
  | .dtlbHitLdRetired, _ => execRule_dtlbHitLdRetired s
  | .dtlbHitStRetired, _ => execRule_dtlbHitStRetired s
  | .dtlbHitLdstRetired, _ => execRule_dtlbHitLdstRetired s
  | .itlbWalkRetired, _ => execRule_itlbWalkRetired s
  | .dtlbWalkLdRetired, _ => execRule_dtlbWalkLdRetired s
  | .dtlbWalkStRetired, _ => execRule_dtlbWalkStRetired s
  | .dtlbWalkLdstRetired, _ => execRule_dtlbWalkLdstRetired s
  | .dtlbWalkPrf, _ => execRule_dtlbWalkPrf s
  | .itlbWalkPrf, _ => execRule_itlbWalkPrf s
  | .dtlbWalkHwprf, _ => execRule_dtlbWalkHwprf s
  | .itlbWalkHwprf, _ => execRule_itlbWalkHwprf s
  | .l1dTlbPrf, _ => execRule_l1dTlbPrf s
  | .l1iTlbPrf, _ => execRule_l1iTlbPrf s
  | .l1dTlbHwprf, _ => execRule_l1dTlbHwprf s
  | .l1iTlbHwprf, _ => execRule_l1iTlbHwprf s
  | .dsnpHitmLdRetired, _ => execRule_dsnpHitmLdRetired s
  | .dsnpHitmNearLdRetired, _ => execRule_dsnpHitmNearLdRetired s
  | .dsnpHitmFarLdRetired, _ => execRule_dsnpHitmFarLdRetired s
  | .dsnpHitmRemoteLdRetired, _ => execRule_dsnpHitmRemoteLdRetired s
  | .dsnpHitmStRetired, _ => execRule_dsnpHitmStRetired s
  | .dsnpHitmNearStRetired, _ => execRule_dsnpHitmNearStRetired s
  | .dsnpHitmFarStRetired, _ => execRule_dsnpHitmFarStRetired s
  | .dsnpHitmRemoteStRetired, _ => execRule_dsnpHitmRemoteStRetired s
  | .dsnpHitmLdstRetired, _ => execRule_dsnpHitmLdstRetired s
  | .dsnpHitmNearLdstRetired, _ => execRule_dsnpHitmNearLdstRetired s
  | .dsnpHitmFarLdstRetired, _ => execRule_dsnpHitmFarLdstRetired s
  | .dsnpHitmRemoteLdstRetired, _ => execRule_dsnpHitmRemoteLdstRetired s
  | .isnpHitRetired, _ => execRule_isnpHitRetired s
  | .isnpHitNearRetired, _ => execRule_isnpHitNearRetired s
  | .isnpHitFarRetired, _ => execRule_isnpHitFarRetired s
  | .isnpHitRemoteRetired, _ => execRule_isnpHitRemoteRetired s
  | .dsnpHitLdRetired, _ => execRule_dsnpHitLdRetired s
  | .dsnpHitNearLdRetired, _ => execRule_dsnpHitNearLdRetired s
  | .dsnpHitFarLdRetired, _ => execRule_dsnpHitFarLdRetired s
  | .dsnpHitRemoteLdRetired, _ => execRule_dsnpHitRemoteLdRetired s
  | .dsnpHitStRetired, _ => execRule_dsnpHitStRetired s
  | .dsnpHitNearStRetired, _ => execRule_dsnpHitNearStRetired s
  | .dsnpHitFarStRetired, _ => execRule_dsnpHitFarStRetired s
  | .dsnpHitRemoteStRetired, _ => execRule_dsnpHitRemoteStRetired s
  | .dsnpHitLdstRetired, _ => execRule_dsnpHitLdstRetired s
  | .dsnpHitNearLdstRetired, _ => execRule_dsnpHitNearLdstRetired s
  | .dsnpHitFarLdstRetired, _ => execRule_dsnpHitFarLdstRetired s
  | .dsnpHitRemoteLdstRetired, _ => execRule_dsnpHitRemoteLdstRetired s
  | .l1dCacheRefillPercyc, _ => execRule_l1dCacheRefillPercyc s
  | .l2dCacheRefillPercyc, _ => execRule_l2dCacheRefillPercyc s
  | .l3dCacheRefillPercyc, _ => execRule_l3dCacheRefillPercyc s
  | .l1iCacheRefillPercyc, _ => execRule_l1iCacheRefillPercyc s
  | .l2iCacheRefillPercyc, _ => execRule_l2iCacheRefillPercyc s
  | .remoteCacheHitRd, _ => execRule_remoteCacheHitRd s
  | .remoteCacheHitmRd, _ => execRule_remoteCacheHitmRd s
  | .remoteLfbHitRd, _ => execRule_remoteLfbHitRd s
  | .remoteCacheHitPrfm, _ => execRule_remoteCacheHitPrfm s
  | .stallBackendAtomicFp, _ => execRule_stallBackendAtomicFp s
  | .lseFpLdSpec, _ => execRule_lseFpLdSpec s
  | .lseFpStSpec, _ => execRule_lseFpStSpec s
  | .lseFpLdstSpec, _ => execRule_lseFpLdstSpec s
  | .l1gcsCache, _ => execRule_l1gcsCache s
  | .l1gcsCacheRw, _ => execRule_l1gcsCacheRw s
  | .l1gcsCacheHwprf, _ => execRule_l1gcsCacheHwprf s
  | .l1gcsCacheMiss, _ => execRule_l1gcsCacheMiss s
  | .l1gcsCacheMissRd, _ => execRule_l1gcsCacheMissRd s
  | .l1gcsCacheHitRw, _ => execRule_l1gcsCacheHitRw s
  | .l1gcsCacheHitRwFhwprf, _ => execRule_l1gcsCacheHitRwFhwprf s
  | .l1gcsCacheRefill, _ => execRule_l1gcsCacheRefill s
  | .l1gcsCacheRefillHwprf, _ => execRule_l1gcsCacheRefillHwprf s
  | .l1gcsCacheRefillPercyc, _ => execRule_l1gcsCacheRefillPercyc s
  | .l1gcsLfbHitRw, _ => execRule_l1gcsLfbHitRw s
  | .l1gcsLfbHitRwFhwprf, _ => execRule_l1gcsLfbHitRwFhwprf s
  | .l1gcsCacheInval, _ => execRule_l1gcsCacheInval s
  | .l1gcsTlb, _ => execRule_l1gcsTlb s
  | .l1gcsTlbRw, _ => execRule_l1gcsTlbRw s
  | .l1gcsTlbHwprf, _ => execRule_l1gcsTlbHwprf s
  | .gcstlbWalk, _ => execRule_gcstlbWalk s
  | .gcstlbWalkRw, _ => execRule_gcstlbWalkRw s
  | .gcstlbWalkPercyc, _ => execRule_gcstlbWalkPercyc s
  | .gcstlbWalkStep, _ => execRule_gcstlbWalkStep s
  | .sampleFeedFp, _ => execRule_sampleFeedFp s
  | .sampleFeedSimd, _ => execRule_sampleFeedSimd s
  | .stallBackendL1gcs, _ => execRule_stallBackendL1gcs s
  | .stallBackendGcstlb, _ => execRule_stallBackendGcstlb s
  | .smeFpSpec, _ => execRule_smeFpSpec s
  | .seFpSpec, _ => execRule_seFpSpec s
  | .sveCmpIgranuleSpec, _ => execRule_sveCmpIgranuleSpec s
  | .sveCmpXgranuleSpec, _ => execRule_sveCmpXgranuleSpec s
  | .sveBitpermSpec, _ => execRule_sveBitpermSpec s
  | .smeSpec, _ => execRule_smeSpec s
  | .seSpec, _ => execRule_seSpec s
  | .smeInstSpec, _ => execRule_smeInstSpec s
  | .seInstSpec, _ => execRule_seInstSpec s
  | .smeInt8Spec, _ => execRule_smeInt8Spec s
  | .seInt8Spec, _ => execRule_seInt8Spec s
  | .smeFpBf16Spec, _ => execRule_smeFpBf16Spec s
  | .seFpBf16Spec, _ => execRule_seFpBf16Spec s
  | .smeInt16Spec, _ => execRule_smeInt16Spec s
  | .seInt16Spec, _ => execRule_seInt16Spec s
  | .smeFpHpSpec, _ => execRule_smeFpHpSpec s
  | .seFpHpSpec, _ => execRule_seFpHpSpec s
  | .smeInt32Spec, _ => execRule_smeInt32Spec s
  | .seInt32Spec, _ => execRule_seInt32Spec s
  | .smeFpSpSpec, _ => execRule_smeFpSpSpec s
  | .seFpSpSpec, _ => execRule_seFpSpSpec s
  | .smeInt64Spec, _ => execRule_smeInt64Spec s
  | .seInt64Spec, _ => execRule_seInt64Spec s
  | .smeFpDpSpec, _ => execRule_smeFpDpSpec s
  | .seFpDpSpec, _ => execRule_seFpDpSpec s
  | .smeFpAddsubSpec, _ => execRule_smeFpAddsubSpec s
  | .seFpAddsubSpec, _ => execRule_seFpAddsubSpec s
  | .smeFpFmaSpec, _ => execRule_smeFpFmaSpec s
  | .seFpFmaSpec, _ => execRule_seFpFmaSpec s
  | .smeFpDotSpec, _ => execRule_smeFpDotSpec s
  | .seFpDotSpec, _ => execRule_seFpDotSpec s
  | .smeFpMopaSpec, _ => execRule_smeFpMopaSpec s
  | .smeIntSpec, _ => execRule_smeIntSpec s
  | .seIntSpec, _ => execRule_seIntSpec s
  | .smeIntMulSpec, _ => execRule_smeIntMulSpec s
  | .seIntMulSpec, _ => execRule_seIntMulSpec s
  | .smeIntDotSpec, _ => execRule_smeIntDotSpec s
  | .seIntDotSpec, _ => execRule_seIntDotSpec s
  | .smeIntMopaSpec, _ => execRule_smeIntMopaSpec s
  | .zaActive, _ => execRule_zaActive s
  | .smePred2NotFullSpec, _ => execRule_smePred2NotFullSpec s
  | .smePred2Spec, _ => execRule_smePred2Spec s
  | .smePred2EmptySpec, _ => execRule_smePred2EmptySpec s
  | .smePred2FullSpec, _ => execRule_smePred2FullSpec s
  | .smePred2PartialSpec, _ => execRule_smePred2PartialSpec s
  | .smeLdstZaregSpec, _ => execRule_smeLdstZaregSpec s
  | .smeLdZaregSpec, _ => execRule_smeLdZaregSpec s
  | .smeStZaregSpec, _ => execRule_smeStZaregSpec s
  | .smeLdstZtregSpec, _ => execRule_smeLdstZtregSpec s
  | .smeLdZtregSpec, _ => execRule_smeLdZtregSpec s
  | .smeStZtregSpec, _ => execRule_smeStZtregSpec s
  | .smeLdstRegSpec, _ => execRule_smeLdstRegSpec s
  | .smeLdRegSpec, _ => execRule_smeLdRegSpec s
  | .smeStRegSpec, _ => execRule_smeStRegSpec s
  | .smeLdstTileSpec, _ => execRule_smeLdstTileSpec s
  | .smeLdTileSpec, _ => execRule_smeLdTileSpec s
  | .smeStTileSpec, _ => execRule_smeStTileSpec s
  | .aseLutSpec, _ => execRule_aseLutSpec s
  | .sveLutSpec, _ => execRule_sveLutSpec s
  | .smeLutSpec, _ => execRule_smeLutSpec s
  | .seLutSpec, _ => execRule_seLutSpec s
  | .n1CacheHitRd, _ => execRule_n1CacheHitRd s
  | .n2CacheHitRd, _ => execRule_n2CacheHitRd s
  | .n3CacheHitRd, _ => execRule_n3CacheHitRd s
  | .n4CacheHitRd, _ => execRule_n4CacheHitRd s
  | .n1CacheHitPrfm, _ => execRule_n1CacheHitPrfm s
  | .n2CacheHitPrfm, _ => execRule_n2CacheHitPrfm s
  | .n3CacheHitPrfm, _ => execRule_n3CacheHitPrfm s
  | .n4CacheHitPrfm, _ => execRule_n4CacheHitPrfm s
  | .n1Cache1HitRd, _ => execRule_n1Cache1HitRd s
  | .n2Cache1HitRd, _ => execRule_n2Cache1HitRd s
  | .n3Cache1HitRd, _ => execRule_n3Cache1HitRd s
  | .n4Cache1HitRd, _ => execRule_n4Cache1HitRd s
  | .n1Cache1HitPrfm, _ => execRule_n1Cache1HitPrfm s
  | .n2Cache1HitPrfm, _ => execRule_n2Cache1HitPrfm s
  | .n3Cache1HitPrfm, _ => execRule_n3Cache1HitPrfm s
  | .n4Cache1HitPrfm, _ => execRule_n4Cache1HitPrfm s
  | .n1Cache2HitRd, _ => execRule_n1Cache2HitRd s
  | .n2Cache2HitRd, _ => execRule_n2Cache2HitRd s
  | .n3Cache2HitRd, _ => execRule_n3Cache2HitRd s
  | .n4Cache2HitRd, _ => execRule_n4Cache2HitRd s
  | .n1Cache2HitPrfm, _ => execRule_n1Cache2HitPrfm s
  | .n2Cache2HitPrfm, _ => execRule_n2Cache2HitPrfm s
  | .n3Cache2HitPrfm, _ => execRule_n3Cache2HitPrfm s
  | .n4Cache2HitPrfm, _ => execRule_n4Cache2HitPrfm s
  | .n1Cache3HitRd, _ => execRule_n1Cache3HitRd s
  | .n2Cache3HitRd, _ => execRule_n2Cache3HitRd s
  | .n3Cache3HitRd, _ => execRule_n3Cache3HitRd s
  | .n4Cache3HitRd, _ => execRule_n4Cache3HitRd s
  | .n1Cache3HitPrfm, _ => execRule_n1Cache3HitPrfm s
  | .n2Cache3HitPrfm, _ => execRule_n2Cache3HitPrfm s
  | .n3Cache3HitPrfm, _ => execRule_n3Cache3HitPrfm s
  | .n4Cache3HitPrfm, _ => execRule_n4Cache3HitPrfm s
  | .n1CacheHitmRd, _ => execRule_n1CacheHitmRd s
  | .n2CacheHitmRd, _ => execRule_n2CacheHitmRd s
  | .n3CacheHitmRd, _ => execRule_n3CacheHitmRd s
  | .n4CacheHitmRd, _ => execRule_n4CacheHitmRd s
  | .n1LfbHitRd, _ => execRule_n1LfbHitRd s
  | .n2LfbHitRd, _ => execRule_n2LfbHitRd s
  | .n3LfbHitRd, _ => execRule_n3LfbHitRd s
  | .n4LfbHitRd, _ => execRule_n4LfbHitRd s
  | .n1Cache1HitmRd, _ => execRule_n1Cache1HitmRd s
  | .n2Cache1HitmRd, _ => execRule_n2Cache1HitmRd s
  | .n3Cache1HitmRd, _ => execRule_n3Cache1HitmRd s
  | .n4Cache1HitmRd, _ => execRule_n4Cache1HitmRd s
  | .n1Lfb1HitRd, _ => execRule_n1Lfb1HitRd s
  | .n2Lfb1HitRd, _ => execRule_n2Lfb1HitRd s
  | .n3Lfb1HitRd, _ => execRule_n3Lfb1HitRd s
  | .n4Lfb1HitRd, _ => execRule_n4Lfb1HitRd s
  | .n1Cache2HitmRd, _ => execRule_n1Cache2HitmRd s
  | .n2Cache2HitmRd, _ => execRule_n2Cache2HitmRd s
  | .n3Cache2HitmRd, _ => execRule_n3Cache2HitmRd s
  | .n4Cache2HitmRd, _ => execRule_n4Cache2HitmRd s
  | .n1Lfb2HitRd, _ => execRule_n1Lfb2HitRd s
  | .n2Lfb2HitRd, _ => execRule_n2Lfb2HitRd s
  | .n3Lfb2HitRd, _ => execRule_n3Lfb2HitRd s
  | .n4Lfb2HitRd, _ => execRule_n4Lfb2HitRd s
  | .n1Cache3HitmRd, _ => execRule_n1Cache3HitmRd s
  | .n2Cache3HitmRd, _ => execRule_n2Cache3HitmRd s
  | .n3Cache3HitmRd, _ => execRule_n3Cache3HitmRd s
  | .n4Cache3HitmRd, _ => execRule_n4Cache3HitmRd s
  | .n1Lfb3HitRd, _ => execRule_n1Lfb3HitRd s
  | .n2Lfb3HitRd, _ => execRule_n2Lfb3HitRd s
  | .n3Lfb3HitRd, _ => execRule_n3Lfb3HitRd s
  | .n4Lfb3HitRd, _ => execRule_n4Lfb3HitRd s
  | .n1MemRd, _ => execRule_n1MemRd s
  | .n2MemRd, _ => execRule_n2MemRd s
  | .n3MemRd, _ => execRule_n3MemRd s
  | .n4MemRd, _ => execRule_n4MemRd s
  | .n1MemPrfm, _ => execRule_n1MemPrfm s
  | .n2MemPrfm, _ => execRule_n2MemPrfm s
  | .n3MemPrfm, _ => execRule_n3MemPrfm s
  | .n4MemPrfm, _ => execRule_n4MemPrfm s
  | .n1Mem1Rd, _ => execRule_n1Mem1Rd s
  | .n2Mem1Rd, _ => execRule_n2Mem1Rd s
  | .n3Mem1Rd, _ => execRule_n3Mem1Rd s
  | .n4Mem1Rd, _ => execRule_n4Mem1Rd s
  | .n1Mem1Prfm, _ => execRule_n1Mem1Prfm s
  | .n2Mem1Prfm, _ => execRule_n2Mem1Prfm s
  | .n3Mem1Prfm, _ => execRule_n3Mem1Prfm s
  | .n4Mem1Prfm, _ => execRule_n4Mem1Prfm s
  | .n1Mem2Rd, _ => execRule_n1Mem2Rd s
  | .n2Mem2Rd, _ => execRule_n2Mem2Rd s
  | .n3Mem2Rd, _ => execRule_n3Mem2Rd s
  | .n4Mem2Rd, _ => execRule_n4Mem2Rd s
  | .n1Mem2Prfm, _ => execRule_n1Mem2Prfm s
  | .n2Mem2Prfm, _ => execRule_n2Mem2Prfm s
  | .n3Mem2Prfm, _ => execRule_n3Mem2Prfm s
  | .n4Mem2Prfm, _ => execRule_n4Mem2Prfm s
  | .n1Mem3Rd, _ => execRule_n1Mem3Rd s
  | .n2Mem3Rd, _ => execRule_n2Mem3Rd s
  | .n3Mem3Rd, _ => execRule_n3Mem3Rd s
  | .n4Mem3Rd, _ => execRule_n4Mem3Rd s
  | .n1Mem3Prfm, _ => execRule_n1Mem3Prfm s
  | .n2Mem3Prfm, _ => execRule_n2Mem3Prfm s
  | .n3Mem3Prfm, _ => execRule_n3Mem3Prfm s
  | .n4Mem3Prfm, _ => execRule_n4Mem3Prfm s
  | .isnpHitN1Rd, _ => execRule_isnpHitN1Rd s
  | .isnpHitN2Rd, _ => execRule_isnpHitN2Rd s
  | .isnpHitN3Rd, _ => execRule_isnpHitN3Rd s
  | .isnpHitN4Rd, _ => execRule_isnpHitN4Rd s
  | .dsnpHitN1Rd, _ => execRule_dsnpHitN1Rd s
  | .dsnpHitN2Rd, _ => execRule_dsnpHitN2Rd s
  | .dsnpHitN3Rd, _ => execRule_dsnpHitN3Rd s
  | .dsnpHitN4Rd, _ => execRule_dsnpHitN4Rd s
  | .dsnpHitN1Wr, _ => execRule_dsnpHitN1Wr s
  | .dsnpHitN2Wr, _ => execRule_dsnpHitN2Wr s
  | .dsnpHitN3Wr, _ => execRule_dsnpHitN3Wr s
  | .dsnpHitN4Wr, _ => execRule_dsnpHitN4Wr s
  | .dsnpHitN1Rw, _ => execRule_dsnpHitN1Rw s
  | .dsnpHitN2Rw, _ => execRule_dsnpHitN2Rw s
  | .dsnpHitN3Rw, _ => execRule_dsnpHitN3Rw s
  | .dsnpHitN4Rw, _ => execRule_dsnpHitN4Rw s
  | .dsnpHitN1Prfm, _ => execRule_dsnpHitN1Prfm s
  | .dsnpHitN2Prfm, _ => execRule_dsnpHitN2Prfm s
  | .dsnpHitN3Prfm, _ => execRule_dsnpHitN3Prfm s
  | .dsnpHitN4Prfm, _ => execRule_dsnpHitN4Prfm s
  | .dsnpHitN1Hwprf, _ => execRule_dsnpHitN1Hwprf s
  | .dsnpHitN2Hwprf, _ => execRule_dsnpHitN2Hwprf s
  | .dsnpHitN3Hwprf, _ => execRule_dsnpHitN3Hwprf s
  | .dsnpHitN4Hwprf, _ => execRule_dsnpHitN4Hwprf s
  | .isnpHitN1Prfm, _ => execRule_isnpHitN1Prfm s
  | .isnpHitN2Prfm, _ => execRule_isnpHitN2Prfm s
  | .isnpHitN3Prfm, _ => execRule_isnpHitN3Prfm s
  | .isnpHitN4Prfm, _ => execRule_isnpHitN4Prfm s
  | .isnpHitN1Hwprf, _ => execRule_isnpHitN1Hwprf s
  | .isnpHitN2Hwprf, _ => execRule_isnpHitN2Hwprf s
  | .isnpHitN3Hwprf, _ => execRule_isnpHitN3Hwprf s
  | .isnpHitN4Hwprf, _ => execRule_isnpHitN4Hwprf s
  | .dsnpHitN1Prf, _ => execRule_dsnpHitN1Prf s
  | .dsnpHitN2Prf, _ => execRule_dsnpHitN2Prf s
  | .dsnpHitN3Prf, _ => execRule_dsnpHitN3Prf s
  | .dsnpHitN4Prf, _ => execRule_dsnpHitN4Prf s
  | .isnpHitN1Prf, _ => execRule_isnpHitN1Prf s
  | .isnpHitN2Prf, _ => execRule_isnpHitN2Prf s
  | .isnpHitN3Prf, _ => execRule_isnpHitN3Prf s
  | .isnpHitN4Prf, _ => execRule_isnpHitN4Prf s
  | .isnpHitN1, _ => execRule_isnpHitN1 s
  | .isnpHitN2, _ => execRule_isnpHitN2 s
  | .isnpHitN3, _ => execRule_isnpHitN3 s
  | .isnpHitN4, _ => execRule_isnpHitN4 s
  | .dsnpHitN1, _ => execRule_dsnpHitN1 s
  | .dsnpHitN2, _ => execRule_dsnpHitN2 s
  | .dsnpHitN3, _ => execRule_dsnpHitN3 s
  | .dsnpHitN4, _ => execRule_dsnpHitN4 s
  | .aseFpVreduceSpec, _ => execRule_aseFpVreduceSpec s
  | .sveFpPreduceSpec, _ => execRule_sveFpPreduceSpec s
  | .dsnpHitmN1Rd, _ => execRule_dsnpHitmN1Rd s
  | .dsnpHitmN2Rd, _ => execRule_dsnpHitmN2Rd s
  | .dsnpHitmN3Rd, _ => execRule_dsnpHitmN3Rd s
  | .dsnpHitmN4Rd, _ => execRule_dsnpHitmN4Rd s
  | .dsnpHitmN1Wr, _ => execRule_dsnpHitmN1Wr s
  | .dsnpHitmN2Wr, _ => execRule_dsnpHitmN2Wr s
  | .dsnpHitmN3Wr, _ => execRule_dsnpHitmN3Wr s
  | .dsnpHitmN4Wr, _ => execRule_dsnpHitmN4Wr s
  | .dsnpHitmN1Rw, _ => execRule_dsnpHitmN1Rw s
  | .dsnpHitmN2Rw, _ => execRule_dsnpHitmN2Rw s
  | .dsnpHitmN3Rw, _ => execRule_dsnpHitmN3Rw s
  | .dsnpHitmN4Rw, _ => execRule_dsnpHitmN4Rw s
  | .aseFpSpMinSpec, _ => execRule_aseFpSpMinSpec s
  | .aseFpHpMinSpec, _ => execRule_aseFpHpMinSpec s
  | .aseFpBf16MinSpec, _ => execRule_aseFpBf16MinSpec s
  | .aseFpFp8MinSpec, _ => execRule_aseFpFp8MinSpec s
  | .aseSveFpSpMinSpec, _ => execRule_aseSveFpSpMinSpec s
  | .aseSveFpHpMinSpec, _ => execRule_aseSveFpHpMinSpec s
  | .aseSveFpBf16MinSpec, _ => execRule_aseSveFpBf16MinSpec s
  | .aseSveFpFp8MinSpec, _ => execRule_aseSveFpFp8MinSpec s
  | .seFpSpMinSpec, _ => execRule_seFpSpMinSpec s
  | .seFpHpMinSpec, _ => execRule_seFpHpMinSpec s
  | .seFpBf16MinSpec, _ => execRule_seFpBf16MinSpec s
  | .seFpFp8MinSpec, _ => execRule_seFpFp8MinSpec s
  | .smeFpSpMinSpec, _ => execRule_smeFpSpMinSpec s
  | .smeFpHpMinSpec, _ => execRule_smeFpHpMinSpec s
  | .smeFpBf16MinSpec, _ => execRule_smeFpBf16MinSpec s
  | .smeFpFp8MinSpec, _ => execRule_smeFpFp8MinSpec s
  | .sveFpSpMinSpec, _ => execRule_sveFpSpMinSpec s
  | .sveFpHpMinSpec, _ => execRule_sveFpHpMinSpec s
  | .sveFpBf16MinSpec, _ => execRule_sveFpBf16MinSpec s
  | .sveFpFp8MinSpec, _ => execRule_sveFpFp8MinSpec s
  | .fpBf16FixedOpsSpec, _ => execRule_fpBf16FixedOpsSpec s
  | .fpSpMinSpec, _ => execRule_fpSpMinSpec s
  | .fpHpMinSpec, _ => execRule_fpHpMinSpec s
  | .fpBf16MinSpec, _ => execRule_fpBf16MinSpec s
  | .fpFp8MinSpec, _ => execRule_fpFp8MinSpec s
  | .fpSpFixedMinOpsSpec, _ => execRule_fpSpFixedMinOpsSpec s
  | .fpHpFixedMinOpsSpec, _ => execRule_fpHpFixedMinOpsSpec s
  | .fpBf16FixedMinOpsSpec, _ => execRule_fpBf16FixedMinOpsSpec s
  | .fpFp8FixedMinOpsSpec, _ => execRule_fpFp8FixedMinOpsSpec s
  | .fpSpScaleMinOpsSpec, _ => execRule_fpSpScaleMinOpsSpec s
  | .fpHpScaleMinOpsSpec, _ => execRule_fpHpScaleMinOpsSpec s
  | .fpBf16ScaleMinOpsSpec, _ => execRule_fpBf16ScaleMinOpsSpec s
  | .fpFp8ScaleMinOpsSpec, _ => execRule_fpFp8ScaleMinOpsSpec s
  | .fpSpScale2MinOpsSpec, _ => execRule_fpSpScale2MinOpsSpec s
  | .fpHpScale2MinOpsSpec, _ => execRule_fpHpScale2MinOpsSpec s
  | .fpBf16Scale2MinOpsSpec, _ => execRule_fpBf16Scale2MinOpsSpec s
  | .fpFp8Scale2MinOpsSpec, _ => execRule_fpFp8Scale2MinOpsSpec s

/-- Everything an event can do: take the offer away and nothing more; count on the counter it is offered to; for PMU_OVFS and
PMU_HOVFS alone, deliver the overflow; for CHAIN alone, leave a free count (item U17). -/
theorem exec_cases (i : Instr) (s : State) :
    exec i s = .next s.dropOffer
   ∨ (i ≠ .pmuOvfs ∧ i ≠ .pmuHovfs ∧ ∃ h p n rest c k wh,
        s.agenda = { happening := h, sink := .counter p n } :: rest ∧ s.counter? p n = some c
          ∧ exec i s = .next (s.dropOffer.countAt p n c.count k wh))
   ∨ ((i = .pmuOvfs ∨ i = .pmuHovfs) ∧ ∃ o h w rest,
        s.agenda = { happening := h, sink := .consumer w } :: rest ∧ exec i s = .next (s.dropOffer.emit o))
   ∨ (i = .chain ∧ ∃ h p n rest c serial,
        s.agenda = { happening := h, sink := .counter p n } :: rest ∧ s.counter? p n = some c
          ∧ exec i s = .next (s.dropOffer.setCount p n (freeCountOf s.impl serial))) := by
  by_cases hi : hasAlgorithm i = false
  · rw [exec_eq s i hi]
    have : i ≠ .pmuOvfs ∧ i ≠ .pmuHovfs := by constructor <;> (rintro rfl; simp [hasAlgorithm] at hi)
    rcases countEvent_cases i (attributionOf i) (occOf i) (incrementOf i) s with
      h' | ⟨se, o, p, n, r, c, h1, h2, _, _, _, _, h3⟩
    · exact .inl h'
    · exact .inr (.inl ⟨this.1, this.2, _, p, n, r, c, _, _, h1, h2, h3⟩)
  · have : i = .swIncr ∨ i = .chain ∨ i = .pmuOvfs ∨ i = .pmuHovfs := by
      revert hi; unfold hasAlgorithm; split <;> simp
    rcases this with rfl | rfl | rfl | rfl
    · rcases execSwIncr_cases s with h | ⟨_, _, _, _, p, n, r, c, h1, h2, _, _, _, h3⟩
      · exact .inl h
      · exact .inr (.inl ⟨by decide, by decide, _, p, n, r, c, _, _, h1, h2, h3⟩)
    · rcases execChain_cases s with h | ⟨se, _, p, n, r, q, c, h1, _, h2, ⟨_, h3⟩ | ⟨_, h3⟩⟩
      · exact .inl h
      · exact .inr (.inl ⟨by decide, by decide, _, p, n, r, c, _, _, h1, h2, h3⟩)
      · exact .inr (.inr (.inr ⟨rfl, _, p, n, r, c, se, h1, h2, h3⟩))
    · rcases deliverOverflow_cases .pmuOvfs isPmuOvfs (fun _ c => c.exportAllowed) s with h | ⟨c, w, r, h1, _, h3⟩
      · exact .inl h
      · exact .inr (.inr (.inl ⟨by simp, _, _, w, r, h1, h3⟩))
    · rcases deliverOverflow_cases .pmuHovfs isPmuHovfs (fun s c => hovfsTransmitted s c && c.exportAllowed) s with
        h | ⟨c, w, r, h1, _, h3⟩
      · exact .inl h
      · exact .inr (.inr (.inl ⟨by simp, _, _, w, r, h1, h3⟩))

end Sys2Proof.Machine
end

