-- ==== Sys2Proof/Laws/PerInstr.lean ====
section
/-!
SUPPORT. The statements made event by event: the number of an event decodes to it.
-/

namespace Sys2Proof.Laws.RoundTrip

/-- The number of the event decodes to the event (30_encoding.md R90, R104). -/
def Statement (i : Instr) : Prop := decodeWord (encode i) = some i

theorem swIncr : Statement .swIncr := by show decodeWord (encode _) = _; decide
theorem ldRetired : Statement .ldRetired := by show decodeWord (encode _) = _; decide
theorem stRetired : Statement .stRetired := by show decodeWord (encode _) = _; decide
theorem instRetired : Statement .instRetired := by show decodeWord (encode _) = _; decide
theorem excTaken : Statement .excTaken := by show decodeWord (encode _) = _; decide
theorem excReturn : Statement .excReturn := by show decodeWord (encode _) = _; decide
theorem cidWriteRetired : Statement .cidWriteRetired := by show decodeWord (encode _) = _; decide
theorem pcWriteRetired : Statement .pcWriteRetired := by show decodeWord (encode _) = _; decide
theorem brImmedRetired : Statement .brImmedRetired := by show decodeWord (encode _) = _; decide
theorem brReturnRetired : Statement .brReturnRetired := by show decodeWord (encode _) = _; decide
theorem unalignedLdstRetired : Statement .unalignedLdstRetired := by show decodeWord (encode _) = _; decide
theorem ttbrWriteRetired : Statement .ttbrWriteRetired := by show decodeWord (encode _) = _; decide
theorem chain : Statement .chain := by show decodeWord (encode _) = _; decide
theorem brRetired : Statement .brRetired := by show decodeWord (encode _) = _; decide
theorem excUndef : Statement .excUndef := by show decodeWord (encode _) = _; decide
theorem excSvc : Statement .excSvc := by show decodeWord (encode _) = _; decide
theorem excPabort : Statement .excPabort := by show decodeWord (encode _) = _; decide
theorem excDabort : Statement .excDabort := by show decodeWord (encode _) = _; decide
theorem excIrq : Statement .excIrq := by show decodeWord (encode _) = _; decide
theorem excFiq : Statement .excFiq := by show decodeWord (encode _) = _; decide
theorem excSmc : Statement .excSmc := by show decodeWord (encode _) = _; decide
theorem excHvc : Statement .excHvc := by show decodeWord (encode _) = _; decide
theorem excTrapPabort : Statement .excTrapPabort := by show decodeWord (encode _) = _; decide
theorem excTrapDabort : Statement .excTrapDabort := by show decodeWord (encode _) = _; decide
theorem excTrapOther : Statement .excTrapOther := by show decodeWord (encode _) = _; decide
theorem excTrapIrq : Statement .excTrapIrq := by show decodeWord (encode _) = _; decide
theorem excTrapFiq : Statement .excTrapFiq := by show decodeWord (encode _) = _; decide
theorem trbWrap : Statement .trbWrap := by show decodeWord (encode _) = _; decide
theorem pmuOvfs : Statement .pmuOvfs := by show decodeWord (encode _) = _; decide
theorem trbTrig : Statement .trbTrig := by show decodeWord (encode _) = _; decide
theorem pmuHovfs : Statement .pmuHovfs := by show decodeWord (encode _) = _; decide
theorem simdInstRetired : Statement .simdInstRetired := by show decodeWord (encode _) = _; decide
theorem aseInstRetired : Statement .aseInstRetired := by show decodeWord (encode _) = _; decide
theorem sveInstRetired : Statement .sveInstRetired := by show decodeWord (encode _) = _; decide
theorem aseSveInstRetired : Statement .aseSveInstRetired := by show decodeWord (encode _) = _; decide
theorem brSkipRetired : Statement .brSkipRetired := by show decodeWord (encode _) = _; decide
theorem brImmedTakenRetired : Statement .brImmedTakenRetired := by show decodeWord (encode _) = _; decide
theorem brImmedSkipRetired : Statement .brImmedSkipRetired := by show decodeWord (encode _) = _; decide
theorem brIndTakenRetired : Statement .brIndTakenRetired := by show decodeWord (encode _) = _; decide
theorem brIndSkipRetired : Statement .brIndSkipRetired := by show decodeWord (encode _) = _; decide
theorem brIndnrTakenRetired : Statement .brIndnrTakenRetired := by show decodeWord (encode _) = _; decide
theorem brIndnrSkipRetired : Statement .brIndnrSkipRetired := by show decodeWord (encode _) = _; decide
theorem brReturnAnyRetired : Statement .brReturnAnyRetired := by show decodeWord (encode _) = _; decide
theorem brReturnSkipRetired : Statement .brReturnSkipRetired := by show decodeWord (encode _) = _; decide
theorem brIndRetired : Statement .brIndRetired := by show decodeWord (encode _) = _; decide
theorem brIndnrRetired : Statement .brIndnrRetired := by show decodeWord (encode _) = _; decide
theorem brbFiltrate : Statement .brbFiltrate := by show decodeWord (encode _) = _; decide
theorem brnlIndnrTakenRetired : Statement .brnlIndnrTakenRetired := by show decodeWord (encode _) = _; decide
theorem blTakenRetired : Statement .blTakenRetired := by show decodeWord (encode _) = _; decide
theorem brnlTakenRetired : Statement .brnlTakenRetired := by show decodeWord (encode _) = _; decide
theorem blIndTakenRetired : Statement .blIndTakenRetired := by show decodeWord (encode _) = _; decide
theorem brnlIndTakenRetired : Statement .brnlIndTakenRetired := by show decodeWord (encode _) = _; decide
theorem blImmedTakenRetired : Statement .blImmedTakenRetired := by show decodeWord (encode _) = _; decide
theorem brnlImmedTakenRetired : Statement .brnlImmedTakenRetired := by show decodeWord (encode _) = _; decide
theorem brUncondRetired : Statement .brUncondRetired := by show decodeWord (encode _) = _; decide
theorem brCondRetired : Statement .brCondRetired := by show decodeWord (encode _) = _; decide
theorem brCondTakenRetired : Statement .brCondTakenRetired := by show decodeWord (encode _) = _; decide
theorem brHintCondRetired : Statement .brHintCondRetired := by show decodeWord (encode _) = _; decide
theorem aseSveRetired : Statement .aseSveRetired := by show decodeWord (encode _) = _; decide
theorem ldAnyRetired : Statement .ldAnyRetired := by show decodeWord (encode _) = _; decide
theorem stAnyRetired : Statement .stAnyRetired := by show decodeWord (encode _) = _; decide
theorem ldstAnyRetired : Statement .ldstAnyRetired := by show decodeWord (encode _) = _; decide
theorem dpRetired : Statement .dpRetired := by show decodeWord (encode _) = _; decide
theorem aseRetired : Statement .aseRetired := by show decodeWord (encode _) = _; decide
theorem vfpRetired : Statement .vfpRetired := by show decodeWord (encode _) = _; decide
theorem sveRetired : Statement .sveRetired := by show decodeWord (encode _) = _; decide
theorem cryptoRetired : Statement .cryptoRetired := by show decodeWord (encode _) = _; decide
theorem prfRetired : Statement .prfRetired := by show decodeWord (encode _) = _; decide
theorem smeRetired : Statement .smeRetired := by show decodeWord (encode _) = _; decide
theorem seRetired : Statement .seRetired := by show decodeWord (encode _) = _; decide
theorem smeInstRetired : Statement .smeInstRetired := by show decodeWord (encode _) = _; decide
theorem seInstRetired : Statement .seInstRetired := by show decodeWord (encode _) = _; decide
theorem l1iCacheRefill : Statement .l1iCacheRefill := by show decodeWord (encode _) = _; decide
theorem l1iTlbRefill : Statement .l1iTlbRefill := by show decodeWord (encode _) = _; decide
theorem l1dCacheRefill : Statement .l1dCacheRefill := by show decodeWord (encode _) = _; decide
theorem l1dCache : Statement .l1dCache := by show decodeWord (encode _) = _; decide
theorem l1dTlbRefill : Statement .l1dTlbRefill := by show decodeWord (encode _) = _; decide
theorem brMisPred : Statement .brMisPred := by show decodeWord (encode _) = _; decide
theorem cpuCycles : Statement .cpuCycles := by show decodeWord (encode _) = _; decide
theorem brPred : Statement .brPred := by show decodeWord (encode _) = _; decide
theorem memAccess : Statement .memAccess := by show decodeWord (encode _) = _; decide
theorem l1iCache : Statement .l1iCache := by show decodeWord (encode _) = _; decide
theorem l1dCacheWb : Statement .l1dCacheWb := by show decodeWord (encode _) = _; decide
theorem l2dCache : Statement .l2dCache := by show decodeWord (encode _) = _; decide
theorem l2dCacheRefill : Statement .l2dCacheRefill := by show decodeWord (encode _) = _; decide
theorem l2dCacheWb : Statement .l2dCacheWb := by show decodeWord (encode _) = _; decide
theorem busAccess : Statement .busAccess := by show decodeWord (encode _) = _; decide
theorem memoryError : Statement .memoryError := by show decodeWord (encode _) = _; decide
theorem instSpec : Statement .instSpec := by show decodeWord (encode _) = _; decide
theorem busCycles : Statement .busCycles := by show decodeWord (encode _) = _; decide
theorem l1dCacheAllocate : Statement .l1dCacheAllocate := by show decodeWord (encode _) = _; decide
theorem l2dCacheAllocate : Statement .l2dCacheAllocate := by show decodeWord (encode _) = _; decide
theorem brMisPredRetired : Statement .brMisPredRetired := by show decodeWord (encode _) = _; decide
theorem stallFrontend : Statement .stallFrontend := by show decodeWord (encode _) = _; decide
theorem stallBackend : Statement .stallBackend := by show decodeWord (encode _) = _; decide
theorem l1dTlb : Statement .l1dTlb := by show decodeWord (encode _) = _; decide
theorem l1iTlb : Statement .l1iTlb := by show decodeWord (encode _) = _; decide
theorem l2iCache : Statement .l2iCache := by show decodeWord (encode _) = _; decide
theorem l2iCacheRefill : Statement .l2iCacheRefill := by show decodeWord (encode _) = _; decide
theorem l3dCacheAllocate : Statement .l3dCacheAllocate := by show decodeWord (encode _) = _; decide
theorem l3dCacheRefill : Statement .l3dCacheRefill := by show decodeWord (encode _) = _; decide
theorem l3dCache : Statement .l3dCache := by show decodeWord (encode _) = _; decide
theorem l3dCacheWb : Statement .l3dCacheWb := by show decodeWord (encode _) = _; decide
theorem l2dTlbRefill : Statement .l2dTlbRefill := by show decodeWord (encode _) = _; decide
theorem l2iTlbRefill : Statement .l2iTlbRefill := by show decodeWord (encode _) = _; decide
theorem l2dTlb : Statement .l2dTlb := by show decodeWord (encode _) = _; decide
theorem l2iTlb : Statement .l2iTlb := by show decodeWord (encode _) = _; decide
theorem remoteAccess : Statement .remoteAccess := by show decodeWord (encode _) = _; decide
theorem llCache : Statement .llCache := by show decodeWord (encode _) = _; decide
theorem llCacheMiss : Statement .llCacheMiss := by show decodeWord (encode _) = _; decide
theorem dtlbWalk : Statement .dtlbWalk := by show decodeWord (encode _) = _; decide
theorem itlbWalk : Statement .itlbWalk := by show decodeWord (encode _) = _; decide
theorem llCacheRd : Statement .llCacheRd := by show decodeWord (encode _) = _; decide
theorem llCacheMissRd : Statement .llCacheMissRd := by show decodeWord (encode _) = _; decide
theorem remoteAccessRd : Statement .remoteAccessRd := by show decodeWord (encode _) = _; decide
theorem l1dCacheLmissRd : Statement .l1dCacheLmissRd := by show decodeWord (encode _) = _; decide
theorem opRetired : Statement .opRetired := by show decodeWord (encode _) = _; decide
theorem opSpec : Statement .opSpec := by show decodeWord (encode _) = _; decide
theorem stall : Statement .stall := by show decodeWord (encode _) = _; decide
theorem stallSlotBackend : Statement .stallSlotBackend := by show decodeWord (encode _) = _; decide
theorem stallSlotFrontend : Statement .stallSlotFrontend := by show decodeWord (encode _) = _; decide
theorem stallSlot : Statement .stallSlot := by show decodeWord (encode _) = _; decide
theorem l1dCacheRd : Statement .l1dCacheRd := by show decodeWord (encode _) = _; decide
theorem l1dCacheWr : Statement .l1dCacheWr := by show decodeWord (encode _) = _; decide
theorem l1dCacheRefillRd : Statement .l1dCacheRefillRd := by show decodeWord (encode _) = _; decide
theorem l1dCacheRefillWr : Statement .l1dCacheRefillWr := by show decodeWord (encode _) = _; decide
theorem l1dCacheRefillInner : Statement .l1dCacheRefillInner := by show decodeWord (encode _) = _; decide
theorem l1dCacheRefillOuter : Statement .l1dCacheRefillOuter := by show decodeWord (encode _) = _; decide
theorem l1dCacheWbVictim : Statement .l1dCacheWbVictim := by show decodeWord (encode _) = _; decide
theorem l1dCacheWbClean : Statement .l1dCacheWbClean := by show decodeWord (encode _) = _; decide
theorem l1dCacheInval : Statement .l1dCacheInval := by show decodeWord (encode _) = _; decide
theorem l1dTlbRefillRd : Statement .l1dTlbRefillRd := by show decodeWord (encode _) = _; decide
theorem l1dTlbRefillWr : Statement .l1dTlbRefillWr := by show decodeWord (encode _) = _; decide
theorem l1dTlbRd : Statement .l1dTlbRd := by show decodeWord (encode _) = _; decide
theorem l1dTlbWr : Statement .l1dTlbWr := by show decodeWord (encode _) = _; decide
theorem l2dCacheRd : Statement .l2dCacheRd := by show decodeWord (encode _) = _; decide
theorem l2dCacheWr : Statement .l2dCacheWr := by show decodeWord (encode _) = _; decide
theorem l2dCacheRefillRd : Statement .l2dCacheRefillRd := by show decodeWord (encode _) = _; decide
theorem l2dCacheRefillWr : Statement .l2dCacheRefillWr := by show decodeWord (encode _) = _; decide
theorem l2dCacheWbVictim : Statement .l2dCacheWbVictim := by show decodeWord (encode _) = _; decide
theorem l2dCacheWbClean : Statement .l2dCacheWbClean := by show decodeWord (encode _) = _; decide
theorem l2dCacheInval : Statement .l2dCacheInval := by show decodeWord (encode _) = _; decide
theorem l2dTlbRefillRd : Statement .l2dTlbRefillRd := by show decodeWord (encode _) = _; decide
theorem l2dTlbRefillWr : Statement .l2dTlbRefillWr := by show decodeWord (encode _) = _; decide
theorem l2dTlbRd : Statement .l2dTlbRd := by show decodeWord (encode _) = _; decide
theorem l2dTlbWr : Statement .l2dTlbWr := by show decodeWord (encode _) = _; decide
theorem busAccessRd : Statement .busAccessRd := by show decodeWord (encode _) = _; decide
theorem busAccessWr : Statement .busAccessWr := by show decodeWord (encode _) = _; decide
theorem busAccessShared : Statement .busAccessShared := by show decodeWord (encode _) = _; decide
theorem busAccessNotShared : Statement .busAccessNotShared := by show decodeWord (encode _) = _; decide
theorem busAccessNormal : Statement .busAccessNormal := by show decodeWord (encode _) = _; decide
theorem busAccessPeriph : Statement .busAccessPeriph := by show decodeWord (encode _) = _; decide
theorem memAccessRd : Statement .memAccessRd := by show decodeWord (encode _) = _; decide
theorem memAccessWr : Statement .memAccessWr := by show decodeWord (encode _) = _; decide
theorem unalignedLdSpec : Statement .unalignedLdSpec := by show decodeWord (encode _) = _; decide
theorem unalignedStSpec : Statement .unalignedStSpec := by show decodeWord (encode _) = _; decide
theorem unalignedLdstSpec : Statement .unalignedLdstSpec := by show decodeWord (encode _) = _; decide
theorem ldrexSpec : Statement .ldrexSpec := by show decodeWord (encode _) = _; decide
theorem strexPassSpec : Statement .strexPassSpec := by show decodeWord (encode _) = _; decide
theorem strexFailSpec : Statement .strexFailSpec := by show decodeWord (encode _) = _; decide
theorem strexSpec : Statement .strexSpec := by show decodeWord (encode _) = _; decide
theorem ldSpec : Statement .ldSpec := by show decodeWord (encode _) = _; decide
theorem stSpec : Statement .stSpec := by show decodeWord (encode _) = _; decide
theorem ldstSpec : Statement .ldstSpec := by show decodeWord (encode _) = _; decide
theorem dpSpec : Statement .dpSpec := by show decodeWord (encode _) = _; decide
theorem aseSpec : Statement .aseSpec := by show decodeWord (encode _) = _; decide
theorem vfpSpec : Statement .vfpSpec := by show decodeWord (encode _) = _; decide
theorem pcWriteSpec : Statement .pcWriteSpec := by show decodeWord (encode _) = _; decide
theorem cryptoSpec : Statement .cryptoSpec := by show decodeWord (encode _) = _; decide
theorem brImmedSpec : Statement .brImmedSpec := by show decodeWord (encode _) = _; decide
theorem brReturnSpec : Statement .brReturnSpec := by show decodeWord (encode _) = _; decide
theorem brIndirectSpec : Statement .brIndirectSpec := by show decodeWord (encode _) = _; decide
theorem isbSpec : Statement .isbSpec := by show decodeWord (encode _) = _; decide
theorem dsbSpec : Statement .dsbSpec := by show decodeWord (encode _) = _; decide
theorem dmbSpec : Statement .dmbSpec := by show decodeWord (encode _) = _; decide
theorem csdbSpec : Statement .csdbSpec := by show decodeWord (encode _) = _; decide
theorem rcLdSpec : Statement .rcLdSpec := by show decodeWord (encode _) = _; decide
theorem rcStSpec : Statement .rcStSpec := by show decodeWord (encode _) = _; decide
theorem l3dCacheHitWrFextProp : Statement .l3dCacheHitWrFextProp := by show decodeWord (encode _) = _; decide
theorem l3dCacheRd : Statement .l3dCacheRd := by show decodeWord (encode _) = _; decide
theorem l3dCacheWr : Statement .l3dCacheWr := by show decodeWord (encode _) = _; decide
theorem l3dCacheRefillRd : Statement .l3dCacheRefillRd := by show decodeWord (encode _) = _; decide
theorem l3dCacheRefillWr : Statement .l3dCacheRefillWr := by show decodeWord (encode _) = _; decide
theorem l3dCacheWbVictim : Statement .l3dCacheWbVictim := by show decodeWord (encode _) = _; decide
theorem l3dCacheWbClean : Statement .l3dCacheWbClean := by show decodeWord (encode _) = _; decide
theorem l3dCacheInval : Statement .l3dCacheInval := by show decodeWord (encode _) = _; decide
theorem l2dCacheHitRdFextProp : Statement .l2dCacheHitRdFextProp := by show decodeWord (encode _) = _; decide
theorem l2dCacheHitWrFextProp : Statement .l2dCacheHitWrFextProp := by show decodeWord (encode _) = _; decide
theorem l2dCacheHitRwFextProp : Statement .l2dCacheHitRwFextProp := by show decodeWord (encode _) = _; decide
theorem l3dCacheExtProp : Statement .l3dCacheExtProp := by show decodeWord (encode _) = _; decide
theorem l3dCacheExtPropPrfmIr : Statement .l3dCacheExtPropPrfmIr := by show decodeWord (encode _) = _; decide
theorem l3dCacheHitRwFextProp : Statement .l3dCacheHitRwFextProp := by show decodeWord (encode _) = _; decide
theorem l3dCacheHitRdFextProp : Statement .l3dCacheHitRdFextProp := by show decodeWord (encode _) = _; decide
theorem stshhSpec : Statement .stshhSpec := by show decodeWord (encode _) = _; decide
theorem stshhKeepSpec : Statement .stshhKeepSpec := by show decodeWord (encode _) = _; decide
theorem stshhStrmSpec : Statement .stshhStrmSpec := by show decodeWord (encode _) = _; decide
theorem prfmIrSpec : Statement .prfmIrSpec := by show decodeWord (encode _) = _; decide
theorem memAccessWrStshh : Statement .memAccessWrStshh := by show decodeWord (encode _) = _; decide
theorem memAccessWrStshhKeep : Statement .memAccessWrStshhKeep := by show decodeWord (encode _) = _; decide
theorem memAccessWrStshhStrm : Statement .memAccessWrStshhStrm := by show decodeWord (encode _) = _; decide
theorem memAccessWrStshhKeepNear : Statement .memAccessWrStshhKeepNear := by show decodeWord (encode _) = _; decide
theorem memAccessWrStshhKeepFar : Statement .memAccessWrStshhKeepFar := by show decodeWord (encode _) = _; decide
theorem l1dCacheExtProp : Statement .l1dCacheExtProp := by show decodeWord (encode _) = _; decide
theorem l1dCacheExtPropPrfmIr : Statement .l1dCacheExtPropPrfmIr := by show decodeWord (encode _) = _; decide
theorem l1dCacheHitRdFextProp : Statement .l1dCacheHitRdFextProp := by show decodeWord (encode _) = _; decide
theorem l1dCacheHitWrFextProp : Statement .l1dCacheHitWrFextProp := by show decodeWord (encode _) = _; decide
theorem l1dCacheHitRwFextProp : Statement .l1dCacheHitRwFextProp := by show decodeWord (encode _) = _; decide
theorem l2dCacheExtProp : Statement .l2dCacheExtProp := by show decodeWord (encode _) = _; decide
theorem l2dCacheExtPropPrfmIr : Statement .l2dCacheExtPropPrfmIr := by show decodeWord (encode _) = _; decide
theorem samplePop : Statement .samplePop := by show decodeWord (encode _) = _; decide
theorem sampleFeed : Statement .sampleFeed := by show decodeWord (encode _) = _; decide
theorem sampleFiltrate : Statement .sampleFiltrate := by show decodeWord (encode _) = _; decide
theorem sampleCollision : Statement .sampleCollision := by show decodeWord (encode _) = _; decide
theorem cntCycles : Statement .cntCycles := by show decodeWord (encode _) = _; decide
theorem stallBackendMem : Statement .stallBackendMem := by show decodeWord (encode _) = _; decide
theorem l1iCacheLmiss : Statement .l1iCacheLmiss := by show decodeWord (encode _) = _; decide
theorem l2dCacheLmissRd : Statement .l2dCacheLmissRd := by show decodeWord (encode _) = _; decide
theorem l2iCacheLmiss : Statement .l2iCacheLmiss := by show decodeWord (encode _) = _; decide
theorem l3dCacheLmissRd : Statement .l3dCacheLmissRd := by show decodeWord (encode _) = _; decide
theorem trcextout0 : Statement .trcextout0 := by show decodeWord (encode _) = _; decide
theorem trcextout1 : Statement .trcextout1 := by show decodeWord (encode _) = _; decide
theorem trcextout2 : Statement .trcextout2 := by show decodeWord (encode _) = _; decide
theorem trcextout3 : Statement .trcextout3 := by show decodeWord (encode _) = _; decide
theorem ctiTrigout4 : Statement .ctiTrigout4 := by show decodeWord (encode _) = _; decide
theorem ctiTrigout5 : Statement .ctiTrigout5 := by show decodeWord (encode _) = _; decide
theorem ctiTrigout6 : Statement .ctiTrigout6 := by show decodeWord (encode _) = _; decide
theorem ctiTrigout7 : Statement .ctiTrigout7 := by show decodeWord (encode _) = _; decide
theorem ldstAlignLat : Statement .ldstAlignLat := by show decodeWord (encode _) = _; decide
theorem ldAlignLat : Statement .ldAlignLat := by show decodeWord (encode _) = _; decide
theorem stAlignLat : Statement .stAlignLat := by show decodeWord (encode _) = _; decide
theorem memAccessChecked : Statement .memAccessChecked := by show decodeWord (encode _) = _; decide
theorem memAccessCheckedRd : Statement .memAccessCheckedRd := by show decodeWord (encode _) = _; decide
theorem memAccessCheckedWr : Statement .memAccessCheckedWr := by show decodeWord (encode _) = _; decide
theorem simdInstSpec : Statement .simdInstSpec := by show decodeWord (encode _) = _; decide
theorem aseInstSpec : Statement .aseInstSpec := by show decodeWord (encode _) = _; decide
theorem sveInstSpec : Statement .sveInstSpec := by show decodeWord (encode _) = _; decide
theorem aseSveInstSpec : Statement .aseSveInstSpec := by show decodeWord (encode _) = _; decide
theorem uopSpec : Statement .uopSpec := by show decodeWord (encode _) = _; decide
theorem aseUopSpec : Statement .aseUopSpec := by show decodeWord (encode _) = _; decide
theorem sveUopSpec : Statement .sveUopSpec := by show decodeWord (encode _) = _; decide
theorem aseSveUopSpec : Statement .aseSveUopSpec := by show decodeWord (encode _) = _; decide
theorem simdUopSpec : Statement .simdUopSpec := by show decodeWord (encode _) = _; decide
theorem sveMathSpec : Statement .sveMathSpec := by show decodeWord (encode _) = _; decide
theorem fpSpec : Statement .fpSpec := by show decodeWord (encode _) = _; decide
theorem aseFpSpec : Statement .aseFpSpec := by show decodeWord (encode _) = _; decide
theorem sveFpSpec : Statement .sveFpSpec := by show decodeWord (encode _) = _; decide
theorem aseSveFpSpec : Statement .aseSveFpSpec := by show decodeWord (encode _) = _; decide
theorem fpHpSpec : Statement .fpHpSpec := by show decodeWord (encode _) = _; decide
theorem aseFpHpSpec : Statement .aseFpHpSpec := by show decodeWord (encode _) = _; decide
theorem sveFpHpSpec : Statement .sveFpHpSpec := by show decodeWord (encode _) = _; decide
theorem aseSveFpHpSpec : Statement .aseSveFpHpSpec := by show decodeWord (encode _) = _; decide
theorem fpSpSpec : Statement .fpSpSpec := by show decodeWord (encode _) = _; decide
theorem aseFpSpSpec : Statement .aseFpSpSpec := by show decodeWord (encode _) = _; decide
theorem sveFpSpSpec : Statement .sveFpSpSpec := by show decodeWord (encode _) = _; decide
theorem aseSveFpSpSpec : Statement .aseSveFpSpSpec := by show decodeWord (encode _) = _; decide
theorem fpDpSpec : Statement .fpDpSpec := by show decodeWord (encode _) = _; decide
theorem aseFpDpSpec : Statement .aseFpDpSpec := by show decodeWord (encode _) = _; decide
theorem sveFpDpSpec : Statement .sveFpDpSpec := by show decodeWord (encode _) = _; decide
theorem aseSveFpDpSpec : Statement .aseSveFpDpSpec := by show decodeWord (encode _) = _; decide
theorem fpDivSpec : Statement .fpDivSpec := by show decodeWord (encode _) = _; decide
theorem aseFpDivSpec : Statement .aseFpDivSpec := by show decodeWord (encode _) = _; decide
theorem sveFpDivSpec : Statement .sveFpDivSpec := by show decodeWord (encode _) = _; decide
theorem aseSveFpDivSpec : Statement .aseSveFpDivSpec := by show decodeWord (encode _) = _; decide
theorem fpSqrtSpec : Statement .fpSqrtSpec := by show decodeWord (encode _) = _; decide
theorem aseFpSqrtSpec : Statement .aseFpSqrtSpec := by show decodeWord (encode _) = _; decide
theorem sveFpSqrtSpec : Statement .sveFpSqrtSpec := by show decodeWord (encode _) = _; decide
theorem aseSveFpSqrtSpec : Statement .aseSveFpSqrtSpec := by show decodeWord (encode _) = _; decide
theorem fpFmaSpec : Statement .fpFmaSpec := by show decodeWord (encode _) = _; decide
theorem aseFpFmaSpec : Statement .aseFpFmaSpec := by show decodeWord (encode _) = _; decide
theorem sveFpFmaSpec : Statement .sveFpFmaSpec := by show decodeWord (encode _) = _; decide
theorem aseSveFpFmaSpec : Statement .aseSveFpFmaSpec := by show decodeWord (encode _) = _; decide
theorem fpMulSpec : Statement .fpMulSpec := by show decodeWord (encode _) = _; decide
theorem aseFpMulSpec : Statement .aseFpMulSpec := by show decodeWord (encode _) = _; decide
theorem sveFpMulSpec : Statement .sveFpMulSpec := by show decodeWord (encode _) = _; decide
theorem aseSveFpMulSpec : Statement .aseSveFpMulSpec := by show decodeWord (encode _) = _; decide
theorem fpAddsubSpec : Statement .fpAddsubSpec := by show decodeWord (encode _) = _; decide
theorem aseFpAddsubSpec : Statement .aseFpAddsubSpec := by show decodeWord (encode _) = _; decide
theorem sveFpAddsubSpec : Statement .sveFpAddsubSpec := by show decodeWord (encode _) = _; decide
theorem aseSveFpAddsubSpec : Statement .aseSveFpAddsubSpec := by show decodeWord (encode _) = _; decide
theorem fpRecpeSpec : Statement .fpRecpeSpec := by show decodeWord (encode _) = _; decide
theorem aseFpRecpeSpec : Statement .aseFpRecpeSpec := by show decodeWord (encode _) = _; decide
theorem sveFpRecpeSpec : Statement .sveFpRecpeSpec := by show decodeWord (encode _) = _; decide
theorem aseSveFpRecpeSpec : Statement .aseSveFpRecpeSpec := by show decodeWord (encode _) = _; decide
theorem fpCvtSpec : Statement .fpCvtSpec := by show decodeWord (encode _) = _; decide
theorem aseFpCvtSpec : Statement .aseFpCvtSpec := by show decodeWord (encode _) = _; decide
theorem sveFpCvtSpec : Statement .sveFpCvtSpec := by show decodeWord (encode _) = _; decide
theorem aseSveFpCvtSpec : Statement .aseSveFpCvtSpec := by show decodeWord (encode _) = _; decide
theorem sveFpAreduceSpec : Statement .sveFpAreduceSpec := by show decodeWord (encode _) = _; decide
theorem aseFpPreduceSpec : Statement .aseFpPreduceSpec := by show decodeWord (encode _) = _; decide
theorem sveFpVreduceSpec : Statement .sveFpVreduceSpec := by show decodeWord (encode _) = _; decide
theorem aseSveFpVreduceSpec : Statement .aseSveFpVreduceSpec := by show decodeWord (encode _) = _; decide
theorem intSpec : Statement .intSpec := by show decodeWord (encode _) = _; decide
theorem aseIntSpec : Statement .aseIntSpec := by show decodeWord (encode _) = _; decide
theorem sveIntSpec : Statement .sveIntSpec := by show decodeWord (encode _) = _; decide
theorem aseSveIntSpec : Statement .aseSveIntSpec := by show decodeWord (encode _) = _; decide
theorem intDivSpec : Statement .intDivSpec := by show decodeWord (encode _) = _; decide
theorem intDiv64Spec : Statement .intDiv64Spec := by show decodeWord (encode _) = _; decide
theorem sveIntDivSpec : Statement .sveIntDivSpec := by show decodeWord (encode _) = _; decide
theorem sveIntDiv64Spec : Statement .sveIntDiv64Spec := by show decodeWord (encode _) = _; decide
theorem intMulSpec : Statement .intMulSpec := by show decodeWord (encode _) = _; decide
theorem aseIntMulSpec : Statement .aseIntMulSpec := by show decodeWord (encode _) = _; decide
theorem sveIntMulSpec : Statement .sveIntMulSpec := by show decodeWord (encode _) = _; decide
theorem aseSveIntMulSpec : Statement .aseSveIntMulSpec := by show decodeWord (encode _) = _; decide
theorem intMul64Spec : Statement .intMul64Spec := by show decodeWord (encode _) = _; decide
theorem sveIntMul64Spec : Statement .sveIntMul64Spec := by show decodeWord (encode _) = _; decide
theorem intMulh64Spec : Statement .intMulh64Spec := by show decodeWord (encode _) = _; decide
theorem sveIntMulh64Spec : Statement .sveIntMulh64Spec := by show decodeWord (encode _) = _; decide
theorem aseFpBf16Spec : Statement .aseFpBf16Spec := by show decodeWord (encode _) = _; decide
theorem sveFpBf16Spec : Statement .sveFpBf16Spec := by show decodeWord (encode _) = _; decide
theorem aseSveFpBf16Spec : Statement .aseSveFpBf16Spec := by show decodeWord (encode _) = _; decide
theorem fpBf16Spec : Statement .fpBf16Spec := by show decodeWord (encode _) = _; decide
theorem sveSpec : Statement .sveSpec := by show decodeWord (encode _) = _; decide
theorem aseSveSpec : Statement .aseSveSpec := by show decodeWord (encode _) = _; decide
theorem nonfpSpec : Statement .nonfpSpec := by show decodeWord (encode _) = _; decide
theorem aseNonfpSpec : Statement .aseNonfpSpec := by show decodeWord (encode _) = _; decide
theorem sveNonfpSpec : Statement .sveNonfpSpec := by show decodeWord (encode _) = _; decide
theorem aseSveNonfpSpec : Statement .aseSveNonfpSpec := by show decodeWord (encode _) = _; decide
theorem aseIntVreduceSpec : Statement .aseIntVreduceSpec := by show decodeWord (encode _) = _; decide
theorem sveIntVreduceSpec : Statement .sveIntVreduceSpec := by show decodeWord (encode _) = _; decide
theorem aseSveIntVreduceSpec : Statement .aseSveIntVreduceSpec := by show decodeWord (encode _) = _; decide
theorem svePermSpec : Statement .svePermSpec := by show decodeWord (encode _) = _; decide
theorem svePermIgranuleSpec : Statement .svePermIgranuleSpec := by show decodeWord (encode _) = _; decide
theorem svePermXgranuleSpec : Statement .svePermXgranuleSpec := by show decodeWord (encode _) = _; decide
theorem svePermVariableSpec : Statement .svePermVariableSpec := by show decodeWord (encode _) = _; decide
theorem sveXpipeSpec : Statement .sveXpipeSpec := by show decodeWord (encode _) = _; decide
theorem sveXpipeZ2rSpec : Statement .sveXpipeZ2rSpec := by show decodeWord (encode _) = _; decide
theorem sveXpipeR2zSpec : Statement .sveXpipeR2zSpec := by show decodeWord (encode _) = _; decide
theorem svePgenNvecSpec : Statement .svePgenNvecSpec := by show decodeWord (encode _) = _; decide
theorem svePgenSpec : Statement .svePgenSpec := by show decodeWord (encode _) = _; decide
theorem svePgenFlgSpec : Statement .svePgenFlgSpec := by show decodeWord (encode _) = _; decide
theorem svePgenCmpSpec : Statement .svePgenCmpSpec := by show decodeWord (encode _) = _; decide
theorem svePgenFcmSpec : Statement .svePgenFcmSpec := by show decodeWord (encode _) = _; decide
theorem svePgenLogicSpec : Statement .svePgenLogicSpec := by show decodeWord (encode _) = _; decide
theorem svePpermSpec : Statement .svePpermSpec := by show decodeWord (encode _) = _; decide
theorem svePscanSpec : Statement .svePscanSpec := by show decodeWord (encode _) = _; decide
theorem svePcntSpec : Statement .svePcntSpec := by show decodeWord (encode _) = _; decide
theorem svePloopWhileSpec : Statement .svePloopWhileSpec := by show decodeWord (encode _) = _; decide
theorem svePloopTestSpec : Statement .svePloopTestSpec := by show decodeWord (encode _) = _; decide
theorem svePloopEltsSpec : Statement .svePloopEltsSpec := by show decodeWord (encode _) = _; decide
theorem svePloopTermSpec : Statement .svePloopTermSpec := by show decodeWord (encode _) = _; decide
theorem svePredSpec : Statement .svePredSpec := by show decodeWord (encode _) = _; decide
theorem svePredEmptySpec : Statement .svePredEmptySpec := by show decodeWord (encode _) = _; decide
theorem svePredFullSpec : Statement .svePredFullSpec := by show decodeWord (encode _) = _; decide
theorem svePredPartialSpec : Statement .svePredPartialSpec := by show decodeWord (encode _) = _; decide
theorem sveUnpredSpec : Statement .sveUnpredSpec := by show decodeWord (encode _) = _; decide
theorem svePredNotFullSpec : Statement .svePredNotFullSpec := by show decodeWord (encode _) = _; decide
theorem sveMovprfxSpec : Statement .sveMovprfxSpec := by show decodeWord (encode _) = _; decide
theorem sveMovprfxZSpec : Statement .sveMovprfxZSpec := by show decodeWord (encode _) = _; decide
theorem sveMovprfxMSpec : Statement .sveMovprfxMSpec := by show decodeWord (encode _) = _; decide
theorem sveMovprfxUSpec : Statement .sveMovprfxUSpec := by show decodeWord (encode _) = _; decide
theorem sveLdstSpec : Statement .sveLdstSpec := by show decodeWord (encode _) = _; decide
theorem sveLdSpec : Statement .sveLdSpec := by show decodeWord (encode _) = _; decide
theorem sveStSpec : Statement .sveStSpec := by show decodeWord (encode _) = _; decide
theorem svePrfSpec : Statement .svePrfSpec := by show decodeWord (encode _) = _; decide
theorem aseSveLdstSpec : Statement .aseSveLdstSpec := by show decodeWord (encode _) = _; decide
theorem aseSveLdSpec : Statement .aseSveLdSpec := by show decodeWord (encode _) = _; decide
theorem aseSveStSpec : Statement .aseSveStSpec := by show decodeWord (encode _) = _; decide
theorem prfSpec : Statement .prfSpec := by show decodeWord (encode _) = _; decide
theorem baseLdstRegSpec : Statement .baseLdstRegSpec := by show decodeWord (encode _) = _; decide
theorem baseLdRegSpec : Statement .baseLdRegSpec := by show decodeWord (encode _) = _; decide
theorem baseStRegSpec : Statement .baseStRegSpec := by show decodeWord (encode _) = _; decide
theorem basePrfSpec : Statement .basePrfSpec := by show decodeWord (encode _) = _; decide
theorem fpaseLdstRegSpec : Statement .fpaseLdstRegSpec := by show decodeWord (encode _) = _; decide
theorem fpaseLdRegSpec : Statement .fpaseLdRegSpec := by show decodeWord (encode _) = _; decide
theorem fpaseStRegSpec : Statement .fpaseStRegSpec := by show decodeWord (encode _) = _; decide
theorem sveLdstRegSpec : Statement .sveLdstRegSpec := by show decodeWord (encode _) = _; decide
theorem sveLdrRegSpec : Statement .sveLdrRegSpec := by show decodeWord (encode _) = _; decide
theorem sveStrRegSpec : Statement .sveStrRegSpec := by show decodeWord (encode _) = _; decide
theorem sveLdstPregSpec : Statement .sveLdstPregSpec := by show decodeWord (encode _) = _; decide
theorem sveLdrPregSpec : Statement .sveLdrPregSpec := by show decodeWord (encode _) = _; decide
theorem sveStrPregSpec : Statement .sveStrPregSpec := by show decodeWord (encode _) = _; decide
theorem sveLdstZregSpec : Statement .sveLdstZregSpec := by show decodeWord (encode _) = _; decide
theorem sveLdrZregSpec : Statement .sveLdrZregSpec := by show decodeWord (encode _) = _; decide
theorem sveStrZregSpec : Statement .sveStrZregSpec := by show decodeWord (encode _) = _; decide
theorem sveLdstContigSpec : Statement .sveLdstContigSpec := by show decodeWord (encode _) = _; decide
theorem sveLdContigSpec : Statement .sveLdContigSpec := by show decodeWord (encode _) = _; decide
theorem sveStContigSpec : Statement .sveStContigSpec := by show decodeWord (encode _) = _; decide
theorem svePrfContigSpec : Statement .svePrfContigSpec := by show decodeWord (encode _) = _; decide
theorem sveLdstntContigSpec : Statement .sveLdstntContigSpec := by show decodeWord (encode _) = _; decide
theorem sveLdntContigSpec : Statement .sveLdntContigSpec := by show decodeWord (encode _) = _; decide
theorem sveStntContigSpec : Statement .sveStntContigSpec := by show decodeWord (encode _) = _; decide
theorem aseSveLdstMultiSpec : Statement .aseSveLdstMultiSpec := by show decodeWord (encode _) = _; decide
theorem aseSveLdMultiSpec : Statement .aseSveLdMultiSpec := by show decodeWord (encode _) = _; decide
theorem aseSveStMultiSpec : Statement .aseSveStMultiSpec := by show decodeWord (encode _) = _; decide
theorem sveLdstMultiSpec : Statement .sveLdstMultiSpec := by show decodeWord (encode _) = _; decide
theorem sveLdMultiSpec : Statement .sveLdMultiSpec := by show decodeWord (encode _) = _; decide
theorem sveStMultiSpec : Statement .sveStMultiSpec := by show decodeWord (encode _) = _; decide
theorem sveLdstNoncontigSpec : Statement .sveLdstNoncontigSpec := by show decodeWord (encode _) = _; decide
theorem sveLdGatherSpec : Statement .sveLdGatherSpec := by show decodeWord (encode _) = _; decide
theorem sveStScatterSpec : Statement .sveStScatterSpec := by show decodeWord (encode _) = _; decide
theorem svePrfGatherSpec : Statement .svePrfGatherSpec := by show decodeWord (encode _) = _; decide
theorem sveLdst64NoncontigSpec : Statement .sveLdst64NoncontigSpec := by show decodeWord (encode _) = _; decide
theorem sveLd64GatherSpec : Statement .sveLd64GatherSpec := by show decodeWord (encode _) = _; decide
theorem sveSt64ScatterSpec : Statement .sveSt64ScatterSpec := by show decodeWord (encode _) = _; decide
theorem svePrf64GatherSpec : Statement .svePrf64GatherSpec := by show decodeWord (encode _) = _; decide
theorem aseSveUnalignedLdstSpec : Statement .aseSveUnalignedLdstSpec := by show decodeWord (encode _) = _; decide
theorem aseSveUnalignedLdSpec : Statement .aseSveUnalignedLdSpec := by show decodeWord (encode _) = _; decide
theorem aseSveUnalignedStSpec : Statement .aseSveUnalignedStSpec := by show decodeWord (encode _) = _; decide
theorem aseSveUnalignedContigLdstSpec : Statement .aseSveUnalignedContigLdstSpec := by show decodeWord (encode _) = _; decide
theorem aseSveUnalignedContigLdSpec : Statement .aseSveUnalignedContigLdSpec := by show decodeWord (encode _) = _; decide
theorem aseSveUnalignedContigStSpec : Statement .aseSveUnalignedContigStSpec := by show decodeWord (encode _) = _; decide
theorem sveLdffSpec : Statement .sveLdffSpec := by show decodeWord (encode _) = _; decide
theorem sveLdffFaultSpec : Statement .sveLdffFaultSpec := by show decodeWord (encode _) = _; decide
theorem fpScaleOpsSpec : Statement .fpScaleOpsSpec := by show decodeWord (encode _) = _; decide
theorem fpFixedOpsSpec : Statement .fpFixedOpsSpec := by show decodeWord (encode _) = _; decide
theorem fpHpScaleOpsSpec : Statement .fpHpScaleOpsSpec := by show decodeWord (encode _) = _; decide
theorem fpHpFixedOpsSpec : Statement .fpHpFixedOpsSpec := by show decodeWord (encode _) = _; decide
theorem fpSpScaleOpsSpec : Statement .fpSpScaleOpsSpec := by show decodeWord (encode _) = _; decide
theorem fpSpFixedOpsSpec : Statement .fpSpFixedOpsSpec := by show decodeWord (encode _) = _; decide
theorem fpDpScaleOpsSpec : Statement .fpDpScaleOpsSpec := by show decodeWord (encode _) = _; decide
theorem fpDpFixedOpsSpec : Statement .fpDpFixedOpsSpec := by show decodeWord (encode _) = _; decide
theorem intScaleOpsSpec : Statement .intScaleOpsSpec := by show decodeWord (encode _) = _; decide
theorem intFixedOpsSpec : Statement .intFixedOpsSpec := by show decodeWord (encode _) = _; decide
theorem ldstScaleOpsSpec : Statement .ldstScaleOpsSpec := by show decodeWord (encode _) = _; decide
theorem ldstFixedOpsSpec : Statement .ldstFixedOpsSpec := by show decodeWord (encode _) = _; decide
theorem ldScaleOpsSpec : Statement .ldScaleOpsSpec := by show decodeWord (encode _) = _; decide
theorem ldFixedOpsSpec : Statement .ldFixedOpsSpec := by show decodeWord (encode _) = _; decide
theorem stScaleOpsSpec : Statement .stScaleOpsSpec := by show decodeWord (encode _) = _; decide
theorem stFixedOpsSpec : Statement .stFixedOpsSpec := by show decodeWord (encode _) = _; decide
theorem fpScale2OpsSpec : Statement .fpScale2OpsSpec := by show decodeWord (encode _) = _; decide
theorem fpHpScale2OpsSpec : Statement .fpHpScale2OpsSpec := by show decodeWord (encode _) = _; decide
theorem fpBf16Scale2OpsSpec : Statement .fpBf16Scale2OpsSpec := by show decodeWord (encode _) = _; decide
theorem fpSpScale2OpsSpec : Statement .fpSpScale2OpsSpec := by show decodeWord (encode _) = _; decide
theorem fpDpScale2OpsSpec : Statement .fpDpScale2OpsSpec := by show decodeWord (encode _) = _; decide
theorem intScale2OpsSpec : Statement .intScale2OpsSpec := by show decodeWord (encode _) = _; decide
theorem ldstScaleBytesSpec : Statement .ldstScaleBytesSpec := by show decodeWord (encode _) = _; decide
theorem ldstFixedBytesSpec : Statement .ldstFixedBytesSpec := by show decodeWord (encode _) = _; decide
theorem ldScaleBytesSpec : Statement .ldScaleBytesSpec := by show decodeWord (encode _) = _; decide
theorem ldFixedBytesSpec : Statement .ldFixedBytesSpec := by show decodeWord (encode _) = _; decide
theorem stScaleBytesSpec : Statement .stScaleBytesSpec := by show decodeWord (encode _) = _; decide
theorem stFixedBytesSpec : Statement .stFixedBytesSpec := by show decodeWord (encode _) = _; decide
theorem aseInt8Spec : Statement .aseInt8Spec := by show decodeWord (encode _) = _; decide
theorem sveInt8Spec : Statement .sveInt8Spec := by show decodeWord (encode _) = _; decide
theorem aseSveInt8Spec : Statement .aseSveInt8Spec := by show decodeWord (encode _) = _; decide
theorem aseInt16Spec : Statement .aseInt16Spec := by show decodeWord (encode _) = _; decide
theorem sveInt16Spec : Statement .sveInt16Spec := by show decodeWord (encode _) = _; decide
theorem aseSveInt16Spec : Statement .aseSveInt16Spec := by show decodeWord (encode _) = _; decide
theorem fpBf16ScaleOpsSpec : Statement .fpBf16ScaleOpsSpec := by show decodeWord (encode _) = _; decide
theorem aseInt32Spec : Statement .aseInt32Spec := by show decodeWord (encode _) = _; decide
theorem sveInt32Spec : Statement .sveInt32Spec := by show decodeWord (encode _) = _; decide
theorem aseSveInt32Spec : Statement .aseSveInt32Spec := by show decodeWord (encode _) = _; decide
theorem aseInt64Spec : Statement .aseInt64Spec := by show decodeWord (encode _) = _; decide
theorem sveInt64Spec : Statement .sveInt64Spec := by show decodeWord (encode _) = _; decide
theorem aseSveInt64Spec : Statement .aseSveInt64Spec := by show decodeWord (encode _) = _; decide
theorem aseFpDotSpec : Statement .aseFpDotSpec := by show decodeWord (encode _) = _; decide
theorem sveFpDotSpec : Statement .sveFpDotSpec := by show decodeWord (encode _) = _; decide
theorem aseSveFpDotSpec : Statement .aseSveFpDotSpec := by show decodeWord (encode _) = _; decide
theorem aseFpMmlaSpec : Statement .aseFpMmlaSpec := by show decodeWord (encode _) = _; decide
theorem sveFpMmlaSpec : Statement .sveFpMmlaSpec := by show decodeWord (encode _) = _; decide
theorem aseSveFpMmlaSpec : Statement .aseSveFpMmlaSpec := by show decodeWord (encode _) = _; decide
theorem aseIntDotSpec : Statement .aseIntDotSpec := by show decodeWord (encode _) = _; decide
theorem sveIntDotSpec : Statement .sveIntDotSpec := by show decodeWord (encode _) = _; decide
theorem aseSveIntDotSpec : Statement .aseSveIntDotSpec := by show decodeWord (encode _) = _; decide
theorem aseIntMmlaSpec : Statement .aseIntMmlaSpec := by show decodeWord (encode _) = _; decide
theorem sveIntMmlaSpec : Statement .sveIntMmlaSpec := by show decodeWord (encode _) = _; decide
theorem aseSveIntMmlaSpec : Statement .aseSveIntMmlaSpec := by show decodeWord (encode _) = _; decide
theorem brImmedPredRetired : Statement .brImmedPredRetired := by show decodeWord (encode _) = _; decide
theorem brImmedMisPredRetired : Statement .brImmedMisPredRetired := by show decodeWord (encode _) = _; decide
theorem brIndPredRetired : Statement .brIndPredRetired := by show decodeWord (encode _) = _; decide
theorem brIndMisPredRetired : Statement .brIndMisPredRetired := by show decodeWord (encode _) = _; decide
theorem brReturnPredRetired : Statement .brReturnPredRetired := by show decodeWord (encode _) = _; decide
theorem brReturnMisPredRetired : Statement .brReturnMisPredRetired := by show decodeWord (encode _) = _; decide
theorem brIndnrPredRetired : Statement .brIndnrPredRetired := by show decodeWord (encode _) = _; decide
theorem brIndnrMisPredRetired : Statement .brIndnrMisPredRetired := by show decodeWord (encode _) = _; decide
theorem brTakenPredRetired : Statement .brTakenPredRetired := by show decodeWord (encode _) = _; decide
theorem brTakenMisPredRetired : Statement .brTakenMisPredRetired := by show decodeWord (encode _) = _; decide
theorem brSkipPredRetired : Statement .brSkipPredRetired := by show decodeWord (encode _) = _; decide
theorem brSkipMisPredRetired : Statement .brSkipMisPredRetired := by show decodeWord (encode _) = _; decide
theorem brPredRetired : Statement .brPredRetired := by show decodeWord (encode _) = _; decide
theorem instFetchPercyc : Statement .instFetchPercyc := by show decodeWord (encode _) = _; decide
theorem memAccessRdPercyc : Statement .memAccessRdPercyc := by show decodeWord (encode _) = _; decide
theorem sampleFeedDs : Statement .sampleFeedDs := by show decodeWord (encode _) = _; decide
theorem sampleBufferFull : Statement .sampleBufferFull := by show decodeWord (encode _) = _; decide
theorem instFetch : Statement .instFetch := by show decodeWord (encode _) = _; decide
theorem busReqRdPercyc : Statement .busReqRdPercyc := by show decodeWord (encode _) = _; decide
theorem busReqWrPercyc : Statement .busReqWrPercyc := by show decodeWord (encode _) = _; decide
theorem pmuSnapshot : Statement .pmuSnapshot := by show decodeWord (encode _) = _; decide
theorem dtlbWalkPercyc : Statement .dtlbWalkPercyc := by show decodeWord (encode _) = _; decide
theorem itlbWalkPercyc : Statement .itlbWalkPercyc := by show decodeWord (encode _) = _; decide
theorem sampleFeedBr : Statement .sampleFeedBr := by show decodeWord (encode _) = _; decide
theorem sampleFeedLd : Statement .sampleFeedLd := by show decodeWord (encode _) = _; decide
theorem sampleFeedSt : Statement .sampleFeedSt := by show decodeWord (encode _) = _; decide
theorem sampleFeedOp : Statement .sampleFeedOp := by show decodeWord (encode _) = _; decide
theorem sampleFeedEvent : Statement .sampleFeedEvent := by show decodeWord (encode _) = _; decide
theorem sampleFeedLat : Statement .sampleFeedLat := by show decodeWord (encode _) = _; decide
theorem l1dTlbRw : Statement .l1dTlbRw := by show decodeWord (encode _) = _; decide
theorem l1iTlbRd : Statement .l1iTlbRd := by show decodeWord (encode _) = _; decide
theorem l1dTlbPrfm : Statement .l1dTlbPrfm := by show decodeWord (encode _) = _; decide
theorem l1iTlbPrfm : Statement .l1iTlbPrfm := by show decodeWord (encode _) = _; decide
theorem dtlbHwupd : Statement .dtlbHwupd := by show decodeWord (encode _) = _; decide
theorem itlbHwupd : Statement .itlbHwupd := by show decodeWord (encode _) = _; decide
theorem dtlbStep : Statement .dtlbStep := by show decodeWord (encode _) = _; decide
theorem itlbStep : Statement .itlbStep := by show decodeWord (encode _) = _; decide
theorem dtlbWalkLarge : Statement .dtlbWalkLarge := by show decodeWord (encode _) = _; decide
theorem itlbWalkLarge : Statement .itlbWalkLarge := by show decodeWord (encode _) = _; decide
theorem dtlbWalkSmall : Statement .dtlbWalkSmall := by show decodeWord (encode _) = _; decide
theorem itlbWalkSmall : Statement .itlbWalkSmall := by show decodeWord (encode _) = _; decide
theorem dtlbWalkRw : Statement .dtlbWalkRw := by show decodeWord (encode _) = _; decide
theorem itlbWalkRd : Statement .itlbWalkRd := by show decodeWord (encode _) = _; decide
theorem dtlbWalkPrfm : Statement .dtlbWalkPrfm := by show decodeWord (encode _) = _; decide
theorem itlbWalkPrfm : Statement .itlbWalkPrfm := by show decodeWord (encode _) = _; decide
theorem l1dCacheRw : Statement .l1dCacheRw := by show decodeWord (encode _) = _; decide
theorem l1iCacheRd : Statement .l1iCacheRd := by show decodeWord (encode _) = _; decide
theorem l1dCachePrfm : Statement .l1dCachePrfm := by show decodeWord (encode _) = _; decide
theorem l1iCachePrfm : Statement .l1iCachePrfm := by show decodeWord (encode _) = _; decide
theorem l1dCacheMiss : Statement .l1dCacheMiss := by show decodeWord (encode _) = _; decide
theorem l1iCacheHwprf : Statement .l1iCacheHwprf := by show decodeWord (encode _) = _; decide
theorem l1dCacheRefillPrfm : Statement .l1dCacheRefillPrfm := by show decodeWord (encode _) = _; decide
theorem l1iCacheRefillPrfm : Statement .l1iCacheRefillPrfm := by show decodeWord (encode _) = _; decide
theorem l2dCacheRw : Statement .l2dCacheRw := by show decodeWord (encode _) = _; decide
theorem l2iCacheRd : Statement .l2iCacheRd := by show decodeWord (encode _) = _; decide
theorem l2dCachePrfm : Statement .l2dCachePrfm := by show decodeWord (encode _) = _; decide
theorem l2iCachePrfm : Statement .l2iCachePrfm := by show decodeWord (encode _) = _; decide
theorem l2dCacheMiss : Statement .l2dCacheMiss := by show decodeWord (encode _) = _; decide
theorem l2iCacheHwprf : Statement .l2iCacheHwprf := by show decodeWord (encode _) = _; decide
theorem l2dCacheRefillPrfm : Statement .l2dCacheRefillPrfm := by show decodeWord (encode _) = _; decide
theorem l2iCacheRefillPrfm : Statement .l2iCacheRefillPrfm := by show decodeWord (encode _) = _; decide
theorem l3dCacheRw : Statement .l3dCacheRw := by show decodeWord (encode _) = _; decide
theorem l3dCachePrfm : Statement .l3dCachePrfm := by show decodeWord (encode _) = _; decide
theorem l3dCacheMiss : Statement .l3dCacheMiss := by show decodeWord (encode _) = _; decide
theorem l3dCacheRefillPrfm : Statement .l3dCacheRefillPrfm := by show decodeWord (encode _) = _; decide
theorem l1dCacheHwprf : Statement .l1dCacheHwprf := by show decodeWord (encode _) = _; decide
theorem l2dCacheHwprf : Statement .l2dCacheHwprf := by show decodeWord (encode _) = _; decide
theorem l3dCacheHwprf : Statement .l3dCacheHwprf := by show decodeWord (encode _) = _; decide
theorem llCacheHwprf : Statement .llCacheHwprf := by show decodeWord (encode _) = _; decide
theorem stallFrontendMembound : Statement .stallFrontendMembound := by show decodeWord (encode _) = _; decide
theorem stallFrontendL1i : Statement .stallFrontendL1i := by show decodeWord (encode _) = _; decide
theorem stallFrontendL2i : Statement .stallFrontendL2i := by show decodeWord (encode _) = _; decide
theorem stallFrontendMem : Statement .stallFrontendMem := by show decodeWord (encode _) = _; decide
theorem stallFrontendTlb : Statement .stallFrontendTlb := by show decodeWord (encode _) = _; decide
theorem stallBackendBusySmcu : Statement .stallBackendBusySmcu := by show decodeWord (encode _) = _; decide
theorem stallBackendBusySmcuUnall : Statement .stallBackendBusySmcuUnall := by show decodeWord (encode _) = _; decide
theorem stallFrontendCpubound : Statement .stallFrontendCpubound := by show decodeWord (encode _) = _; decide
theorem stallFrontendFlow : Statement .stallFrontendFlow := by show decodeWord (encode _) = _; decide
theorem stallFrontendFlush : Statement .stallFrontendFlush := by show decodeWord (encode _) = _; decide
theorem stallFrontendRename : Statement .stallFrontendRename := by show decodeWord (encode _) = _; decide
theorem stallBackendMembound : Statement .stallBackendMembound := by show decodeWord (encode _) = _; decide
theorem stallBackendL1d : Statement .stallBackendL1d := by show decodeWord (encode _) = _; decide
theorem stallBackendL2d : Statement .stallBackendL2d := by show decodeWord (encode _) = _; decide
theorem stallBackendTlb : Statement .stallBackendTlb := by show decodeWord (encode _) = _; decide
theorem stallBackendSt : Statement .stallBackendSt := by show decodeWord (encode _) = _; decide
theorem stallBackendCpubound : Statement .stallBackendCpubound := by show decodeWord (encode _) = _; decide
theorem stallBackendBusy : Statement .stallBackendBusy := by show decodeWord (encode _) = _; decide
theorem stallBackendIlock : Statement .stallBackendIlock := by show decodeWord (encode _) = _; decide
theorem stallBackendRename : Statement .stallBackendRename := by show decodeWord (encode _) = _; decide
theorem stallBackendAtomic : Statement .stallBackendAtomic := by show decodeWord (encode _) = _; decide
theorem stallBackendMemcpyset : Statement .stallBackendMemcpyset := by show decodeWord (encode _) = _; decide
theorem casNearFail : Statement .casNearFail := by show decodeWord (encode _) = _; decide
theorem casNearPass : Statement .casNearPass := by show decodeWord (encode _) = _; decide
theorem casNearSpec : Statement .casNearSpec := by show decodeWord (encode _) = _; decide
theorem casFarSpec : Statement .casFarSpec := by show decodeWord (encode _) = _; decide
theorem casSpec : Statement .casSpec := by show decodeWord (encode _) = _; decide
theorem lseLdSpec : Statement .lseLdSpec := by show decodeWord (encode _) = _; decide
theorem lseStSpec : Statement .lseStSpec := by show decodeWord (encode _) = _; decide
theorem lseLdstSpec : Statement .lseLdstSpec := by show decodeWord (encode _) = _; decide
theorem remoteAccessWr : Statement .remoteAccessWr := by show decodeWord (encode _) = _; decide
theorem brHintCondPredRetired : Statement .brHintCondPredRetired := by show decodeWord (encode _) = _; decide
theorem brHintCondMisPredRetired : Statement .brHintCondMisPredRetired := by show decodeWord (encode _) = _; decide
theorem uopRetired : Statement .uopRetired := by show decodeWord (encode _) = _; decide
theorem dtlbWalkBlock : Statement .dtlbWalkBlock := by show decodeWord (encode _) = _; decide
theorem itlbWalkBlock : Statement .itlbWalkBlock := by show decodeWord (encode _) = _; decide
theorem dtlbWalkPage : Statement .dtlbWalkPage := by show decodeWord (encode _) = _; decide
theorem itlbWalkPage : Statement .itlbWalkPage := by show decodeWord (encode _) = _; decide
theorem busReqRd : Statement .busReqRd := by show decodeWord (encode _) = _; decide
theorem busReqWr : Statement .busReqWr := by show decodeWord (encode _) = _; decide
theorem busReq : Statement .busReq := by show decodeWord (encode _) = _; decide
theorem isnpHitRd : Statement .isnpHitRd := by show decodeWord (encode _) = _; decide
theorem isnpHitNearRd : Statement .isnpHitNearRd := by show decodeWord (encode _) = _; decide
theorem isnpHitFarRd : Statement .isnpHitFarRd := by show decodeWord (encode _) = _; decide
theorem isnpHitRemoteRd : Statement .isnpHitRemoteRd := by show decodeWord (encode _) = _; decide
theorem dsnpHitRd : Statement .dsnpHitRd := by show decodeWord (encode _) = _; decide
theorem dsnpHitNearRd : Statement .dsnpHitNearRd := by show decodeWord (encode _) = _; decide
theorem dsnpHitFarRd : Statement .dsnpHitFarRd := by show decodeWord (encode _) = _; decide
theorem dsnpHitRemoteRd : Statement .dsnpHitRemoteRd := by show decodeWord (encode _) = _; decide
theorem dsnpHitWr : Statement .dsnpHitWr := by show decodeWord (encode _) = _; decide
theorem dsnpHitNearWr : Statement .dsnpHitNearWr := by show decodeWord (encode _) = _; decide
theorem dsnpHitFarWr : Statement .dsnpHitFarWr := by show decodeWord (encode _) = _; decide
theorem dsnpHitRemoteWr : Statement .dsnpHitRemoteWr := by show decodeWord (encode _) = _; decide
theorem dsnpHitRw : Statement .dsnpHitRw := by show decodeWord (encode _) = _; decide
theorem dsnpHitNearRw : Statement .dsnpHitNearRw := by show decodeWord (encode _) = _; decide
theorem dsnpHitFarRw : Statement .dsnpHitFarRw := by show decodeWord (encode _) = _; decide
theorem dsnpHitRemoteRw : Statement .dsnpHitRemoteRw := by show decodeWord (encode _) = _; decide
theorem dsnpHitPrfm : Statement .dsnpHitPrfm := by show decodeWord (encode _) = _; decide
theorem dsnpHitNearPrfm : Statement .dsnpHitNearPrfm := by show decodeWord (encode _) = _; decide
theorem dsnpHitFarPrfm : Statement .dsnpHitFarPrfm := by show decodeWord (encode _) = _; decide
theorem dsnpHitRemotePrfm : Statement .dsnpHitRemotePrfm := by show decodeWord (encode _) = _; decide
theorem dsnpHitHwprf : Statement .dsnpHitHwprf := by show decodeWord (encode _) = _; decide
theorem dsnpHitNearHwprf : Statement .dsnpHitNearHwprf := by show decodeWord (encode _) = _; decide
theorem dsnpHitFarHwprf : Statement .dsnpHitFarHwprf := by show decodeWord (encode _) = _; decide
theorem dsnpHitRemoteHwprf : Statement .dsnpHitRemoteHwprf := by show decodeWord (encode _) = _; decide
theorem isnpHitPrfm : Statement .isnpHitPrfm := by show decodeWord (encode _) = _; decide
theorem isnpHitNearPrfm : Statement .isnpHitNearPrfm := by show decodeWord (encode _) = _; decide
theorem isnpHitFarPrfm : Statement .isnpHitFarPrfm := by show decodeWord (encode _) = _; decide
theorem isnpHitRemotePrfm : Statement .isnpHitRemotePrfm := by show decodeWord (encode _) = _; decide
theorem isnpHitHwprf : Statement .isnpHitHwprf := by show decodeWord (encode _) = _; decide
theorem isnpHitNearHwprf : Statement .isnpHitNearHwprf := by show decodeWord (encode _) = _; decide
theorem isnpHitFarHwprf : Statement .isnpHitFarHwprf := by show decodeWord (encode _) = _; decide
theorem isnpHitRemoteHwprf : Statement .isnpHitRemoteHwprf := by show decodeWord (encode _) = _; decide
theorem isnpHit : Statement .isnpHit := by show decodeWord (encode _) = _; decide
theorem isnpHitNear : Statement .isnpHitNear := by show decodeWord (encode _) = _; decide
theorem isnpHitFar : Statement .isnpHitFar := by show decodeWord (encode _) = _; decide
theorem isnpHitRemote : Statement .isnpHitRemote := by show decodeWord (encode _) = _; decide
theorem dsnpHit : Statement .dsnpHit := by show decodeWord (encode _) = _; decide
theorem dsnpHitNear : Statement .dsnpHitNear := by show decodeWord (encode _) = _; decide
theorem dsnpHitFar : Statement .dsnpHitFar := by show decodeWord (encode _) = _; decide
theorem dsnpHitRemote : Statement .dsnpHitRemote := by show decodeWord (encode _) = _; decide
theorem l1iCacheRefillHwprf : Statement .l1iCacheRefillHwprf := by show decodeWord (encode _) = _; decide
theorem l2iCacheRefillHwprf : Statement .l2iCacheRefillHwprf := by show decodeWord (encode _) = _; decide
theorem l1dCacheRefillHwprf : Statement .l1dCacheRefillHwprf := by show decodeWord (encode _) = _; decide
theorem l2dCacheRefillHwprf : Statement .l2dCacheRefillHwprf := by show decodeWord (encode _) = _; decide
theorem l3dCacheRefillHwprf : Statement .l3dCacheRefillHwprf := by show decodeWord (encode _) = _; decide
theorem llCacheRefillHwprf : Statement .llCacheRefillHwprf := by show decodeWord (encode _) = _; decide
theorem l1iCacheHitRd : Statement .l1iCacheHitRd := by show decodeWord (encode _) = _; decide
theorem l2iCacheHitRd : Statement .l2iCacheHitRd := by show decodeWord (encode _) = _; decide
theorem l1dCacheHitRd : Statement .l1dCacheHitRd := by show decodeWord (encode _) = _; decide
theorem l2dCacheHitRd : Statement .l2dCacheHitRd := by show decodeWord (encode _) = _; decide
theorem l3dCacheHitRd : Statement .l3dCacheHitRd := by show decodeWord (encode _) = _; decide
theorem llCacheHitRd : Statement .llCacheHitRd := by show decodeWord (encode _) = _; decide
theorem l1dCacheHitWr : Statement .l1dCacheHitWr := by show decodeWord (encode _) = _; decide
theorem l2dCacheHitWr : Statement .l2dCacheHitWr := by show decodeWord (encode _) = _; decide
theorem l3dCacheHitWr : Statement .l3dCacheHitWr := by show decodeWord (encode _) = _; decide
theorem llCacheHitWr : Statement .llCacheHitWr := by show decodeWord (encode _) = _; decide
theorem l1dCacheHitRw : Statement .l1dCacheHitRw := by show decodeWord (encode _) = _; decide
theorem l2dCacheHitRw : Statement .l2dCacheHitRw := by show decodeWord (encode _) = _; decide
theorem l3dCacheHitRw : Statement .l3dCacheHitRw := by show decodeWord (encode _) = _; decide
theorem llCacheHitRw : Statement .llCacheHitRw := by show decodeWord (encode _) = _; decide
theorem l1iCacheHitRdFprfm : Statement .l1iCacheHitRdFprfm := by show decodeWord (encode _) = _; decide
theorem l2iCacheHitRdFprfm : Statement .l2iCacheHitRdFprfm := by show decodeWord (encode _) = _; decide
theorem l1dCacheHitRdFprfm : Statement .l1dCacheHitRdFprfm := by show decodeWord (encode _) = _; decide
theorem l2dCacheHitRdFprfm : Statement .l2dCacheHitRdFprfm := by show decodeWord (encode _) = _; decide
theorem l3dCacheHitRdFprfm : Statement .l3dCacheHitRdFprfm := by show decodeWord (encode _) = _; decide
theorem llCacheHitRdFprfm : Statement .llCacheHitRdFprfm := by show decodeWord (encode _) = _; decide
theorem l1dCacheHitWrFprfm : Statement .l1dCacheHitWrFprfm := by show decodeWord (encode _) = _; decide
theorem l2dCacheHitWrFprfm : Statement .l2dCacheHitWrFprfm := by show decodeWord (encode _) = _; decide
theorem l3dCacheHitWrFprfm : Statement .l3dCacheHitWrFprfm := by show decodeWord (encode _) = _; decide
theorem llCacheHitWrFprfm : Statement .llCacheHitWrFprfm := by show decodeWord (encode _) = _; decide
theorem l1dCacheHitRwFprfm : Statement .l1dCacheHitRwFprfm := by show decodeWord (encode _) = _; decide
theorem l2dCacheHitRwFprfm : Statement .l2dCacheHitRwFprfm := by show decodeWord (encode _) = _; decide
theorem l3dCacheHitRwFprfm : Statement .l3dCacheHitRwFprfm := by show decodeWord (encode _) = _; decide
theorem llCacheHitRwFprfm : Statement .llCacheHitRwFprfm := by show decodeWord (encode _) = _; decide
theorem l1iCacheHitRdFhwprf : Statement .l1iCacheHitRdFhwprf := by show decodeWord (encode _) = _; decide
theorem l2iCacheHitRdFhwprf : Statement .l2iCacheHitRdFhwprf := by show decodeWord (encode _) = _; decide
theorem l1dCacheHitRdFhwprf : Statement .l1dCacheHitRdFhwprf := by show decodeWord (encode _) = _; decide
theorem l2dCacheHitRdFhwprf : Statement .l2dCacheHitRdFhwprf := by show decodeWord (encode _) = _; decide
theorem l3dCacheHitRdFhwprf : Statement .l3dCacheHitRdFhwprf := by show decodeWord (encode _) = _; decide
theorem llCacheHitRdFhwprf : Statement .llCacheHitRdFhwprf := by show decodeWord (encode _) = _; decide
theorem l1dCacheHitWrFhwprf : Statement .l1dCacheHitWrFhwprf := by show decodeWord (encode _) = _; decide
theorem l2dCacheHitWrFhwprf : Statement .l2dCacheHitWrFhwprf := by show decodeWord (encode _) = _; decide
theorem l3dCacheHitWrFhwprf : Statement .l3dCacheHitWrFhwprf := by show decodeWord (encode _) = _; decide
theorem llCacheHitWrFhwprf : Statement .llCacheHitWrFhwprf := by show decodeWord (encode _) = _; decide
theorem l1dCacheHitRwFhwprf : Statement .l1dCacheHitRwFhwprf := by show decodeWord (encode _) = _; decide
theorem l2dCacheHitRwFhwprf : Statement .l2dCacheHitRwFhwprf := by show decodeWord (encode _) = _; decide
theorem l3dCacheHitRwFhwprf : Statement .l3dCacheHitRwFhwprf := by show decodeWord (encode _) = _; decide
theorem llCacheHitRwFhwprf : Statement .llCacheHitRwFhwprf := by show decodeWord (encode _) = _; decide
theorem l1iCacheHitRdFprf : Statement .l1iCacheHitRdFprf := by show decodeWord (encode _) = _; decide
theorem l2iCacheHitRdFprf : Statement .l2iCacheHitRdFprf := by show decodeWord (encode _) = _; decide
theorem l1dCacheHitRdFprf : Statement .l1dCacheHitRdFprf := by show decodeWord (encode _) = _; decide
theorem l2dCacheHitRdFprf : Statement .l2dCacheHitRdFprf := by show decodeWord (encode _) = _; decide
theorem l3dCacheHitRdFprf : Statement .l3dCacheHitRdFprf := by show decodeWord (encode _) = _; decide
theorem llCacheHitRdFprf : Statement .llCacheHitRdFprf := by show decodeWord (encode _) = _; decide
theorem l1dCacheHitWrFprf : Statement .l1dCacheHitWrFprf := by show decodeWord (encode _) = _; decide
theorem l2dCacheHitWrFprf : Statement .l2dCacheHitWrFprf := by show decodeWord (encode _) = _; decide
theorem l3dCacheHitWrFprf : Statement .l3dCacheHitWrFprf := by show decodeWord (encode _) = _; decide
theorem llCacheHitWrFprf : Statement .llCacheHitWrFprf := by show decodeWord (encode _) = _; decide
theorem l1dCacheHitRwFprf : Statement .l1dCacheHitRwFprf := by show decodeWord (encode _) = _; decide
theorem l2dCacheHitRwFprf : Statement .l2dCacheHitRwFprf := by show decodeWord (encode _) = _; decide
theorem l3dCacheHitRwFprf : Statement .l3dCacheHitRwFprf := by show decodeWord (encode _) = _; decide
theorem llCacheHitRwFprf : Statement .llCacheHitRwFprf := by show decodeWord (encode _) = _; decide
theorem l1iCacheHit : Statement .l1iCacheHit := by show decodeWord (encode _) = _; decide
theorem l2iCacheHit : Statement .l2iCacheHit := by show decodeWord (encode _) = _; decide
theorem l1dCacheHit : Statement .l1dCacheHit := by show decodeWord (encode _) = _; decide
theorem l2dCacheHit : Statement .l2dCacheHit := by show decodeWord (encode _) = _; decide
theorem l3dCacheHit : Statement .l3dCacheHit := by show decodeWord (encode _) = _; decide
theorem llCacheHit : Statement .llCacheHit := by show decodeWord (encode _) = _; decide
theorem l1iCacheHitPrfm : Statement .l1iCacheHitPrfm := by show decodeWord (encode _) = _; decide
theorem l2iCacheHitPrfm : Statement .l2iCacheHitPrfm := by show decodeWord (encode _) = _; decide
theorem l1dCacheHitPrfm : Statement .l1dCacheHitPrfm := by show decodeWord (encode _) = _; decide
theorem l2dCacheHitPrfm : Statement .l2dCacheHitPrfm := by show decodeWord (encode _) = _; decide
theorem l3dCacheHitPrfm : Statement .l3dCacheHitPrfm := by show decodeWord (encode _) = _; decide
theorem llCacheHitPrfm : Statement .llCacheHitPrfm := by show decodeWord (encode _) = _; decide
theorem l1dCacheHitmRd : Statement .l1dCacheHitmRd := by show decodeWord (encode _) = _; decide
theorem l2dCacheHitmRd : Statement .l2dCacheHitmRd := by show decodeWord (encode _) = _; decide
theorem l3dCacheHitmRd : Statement .l3dCacheHitmRd := by show decodeWord (encode _) = _; decide
theorem llCacheHitmRd : Statement .llCacheHitmRd := by show decodeWord (encode _) = _; decide
theorem l1dCacheHitmWr : Statement .l1dCacheHitmWr := by show decodeWord (encode _) = _; decide
theorem l2dCacheHitmWr : Statement .l2dCacheHitmWr := by show decodeWord (encode _) = _; decide
theorem l3dCacheHitmWr : Statement .l3dCacheHitmWr := by show decodeWord (encode _) = _; decide
theorem llCacheHitmWr : Statement .llCacheHitmWr := by show decodeWord (encode _) = _; decide
theorem l1dCacheHitmRw : Statement .l1dCacheHitmRw := by show decodeWord (encode _) = _; decide
theorem l2dCacheHitmRw : Statement .l2dCacheHitmRw := by show decodeWord (encode _) = _; decide
theorem l3dCacheHitmRw : Statement .l3dCacheHitmRw := by show decodeWord (encode _) = _; decide
theorem llCacheHitmRw : Statement .llCacheHitmRw := by show decodeWord (encode _) = _; decide
theorem dsnpHitmRd : Statement .dsnpHitmRd := by show decodeWord (encode _) = _; decide
theorem dsnpHitmNearRd : Statement .dsnpHitmNearRd := by show decodeWord (encode _) = _; decide
theorem dsnpHitmFarRd : Statement .dsnpHitmFarRd := by show decodeWord (encode _) = _; decide
theorem dsnpHitmRemoteRd : Statement .dsnpHitmRemoteRd := by show decodeWord (encode _) = _; decide
theorem dsnpHitmWr : Statement .dsnpHitmWr := by show decodeWord (encode _) = _; decide
theorem dsnpHitmNearWr : Statement .dsnpHitmNearWr := by show decodeWord (encode _) = _; decide
theorem dsnpHitmFarWr : Statement .dsnpHitmFarWr := by show decodeWord (encode _) = _; decide
theorem dsnpHitmRemoteWr : Statement .dsnpHitmRemoteWr := by show decodeWord (encode _) = _; decide
theorem dsnpHitmRw : Statement .dsnpHitmRw := by show decodeWord (encode _) = _; decide
theorem dsnpHitmNearRw : Statement .dsnpHitmNearRw := by show decodeWord (encode _) = _; decide
theorem dsnpHitmFarRw : Statement .dsnpHitmFarRw := by show decodeWord (encode _) = _; decide
theorem dsnpHitmRemoteRw : Statement .dsnpHitmRemoteRw := by show decodeWord (encode _) = _; decide
theorem localMem : Statement .localMem := by show decodeWord (encode _) = _; decide
theorem localMemRd : Statement .localMemRd := by show decodeWord (encode _) = _; decide
theorem localMemWr : Statement .localMemWr := by show decodeWord (encode _) = _; decide
theorem localMemRw : Statement .localMemRw := by show decodeWord (encode _) = _; decide
theorem localMemPrfm : Statement .localMemPrfm := by show decodeWord (encode _) = _; decide
theorem localMemLdRetired : Statement .localMemLdRetired := by show decodeWord (encode _) = _; decide
theorem localMemStRetired : Statement .localMemStRetired := by show decodeWord (encode _) = _; decide
theorem localMemLdstRetired : Statement .localMemLdstRetired := by show decodeWord (encode _) = _; decide
theorem remoteMem : Statement .remoteMem := by show decodeWord (encode _) = _; decide
theorem remoteMemRd : Statement .remoteMemRd := by show decodeWord (encode _) = _; decide
theorem remoteMemWr : Statement .remoteMemWr := by show decodeWord (encode _) = _; decide
theorem remoteMemRw : Statement .remoteMemRw := by show decodeWord (encode _) = _; decide
theorem remoteMemPrfm : Statement .remoteMemPrfm := by show decodeWord (encode _) = _; decide
theorem remoteMemLdRetired : Statement .remoteMemLdRetired := by show decodeWord (encode _) = _; decide
theorem remoteMemStRetired : Statement .remoteMemStRetired := by show decodeWord (encode _) = _; decide
theorem remoteMemLdstRetired : Statement .remoteMemLdstRetired := by show decodeWord (encode _) = _; decide
theorem l1iLfbHitRd : Statement .l1iLfbHitRd := by show decodeWord (encode _) = _; decide
theorem l2iLfbHitRd : Statement .l2iLfbHitRd := by show decodeWord (encode _) = _; decide
theorem l1dLfbHitRd : Statement .l1dLfbHitRd := by show decodeWord (encode _) = _; decide
theorem l2dLfbHitRd : Statement .l2dLfbHitRd := by show decodeWord (encode _) = _; decide
theorem l3dLfbHitRd : Statement .l3dLfbHitRd := by show decodeWord (encode _) = _; decide
theorem llLfbHitRd : Statement .llLfbHitRd := by show decodeWord (encode _) = _; decide
theorem l1dLfbHitWr : Statement .l1dLfbHitWr := by show decodeWord (encode _) = _; decide
theorem l2dLfbHitWr : Statement .l2dLfbHitWr := by show decodeWord (encode _) = _; decide
theorem l3dLfbHitWr : Statement .l3dLfbHitWr := by show decodeWord (encode _) = _; decide
theorem llLfbHitWr : Statement .llLfbHitWr := by show decodeWord (encode _) = _; decide
theorem l1dLfbHitRw : Statement .l1dLfbHitRw := by show decodeWord (encode _) = _; decide
theorem l2dLfbHitRw : Statement .l2dLfbHitRw := by show decodeWord (encode _) = _; decide
theorem l3dLfbHitRw : Statement .l3dLfbHitRw := by show decodeWord (encode _) = _; decide
theorem llLfbHitRw : Statement .llLfbHitRw := by show decodeWord (encode _) = _; decide
theorem l1iLfbHitRdFprfm : Statement .l1iLfbHitRdFprfm := by show decodeWord (encode _) = _; decide
theorem l2iLfbHitRdFprfm : Statement .l2iLfbHitRdFprfm := by show decodeWord (encode _) = _; decide
theorem l1dLfbHitRdFprfm : Statement .l1dLfbHitRdFprfm := by show decodeWord (encode _) = _; decide
theorem l2dLfbHitRdFprfm : Statement .l2dLfbHitRdFprfm := by show decodeWord (encode _) = _; decide
theorem l3dLfbHitRdFprfm : Statement .l3dLfbHitRdFprfm := by show decodeWord (encode _) = _; decide
theorem llLfbHitRdFprfm : Statement .llLfbHitRdFprfm := by show decodeWord (encode _) = _; decide
theorem l1dLfbHitWrFprfm : Statement .l1dLfbHitWrFprfm := by show decodeWord (encode _) = _; decide
theorem l2dLfbHitWrFprfm : Statement .l2dLfbHitWrFprfm := by show decodeWord (encode _) = _; decide
theorem l3dLfbHitWrFprfm : Statement .l3dLfbHitWrFprfm := by show decodeWord (encode _) = _; decide
theorem llLfbHitWrFprfm : Statement .llLfbHitWrFprfm := by show decodeWord (encode _) = _; decide
theorem l1dLfbHitRwFprfm : Statement .l1dLfbHitRwFprfm := by show decodeWord (encode _) = _; decide
theorem l2dLfbHitRwFprfm : Statement .l2dLfbHitRwFprfm := by show decodeWord (encode _) = _; decide
theorem l3dLfbHitRwFprfm : Statement .l3dLfbHitRwFprfm := by show decodeWord (encode _) = _; decide
theorem llLfbHitRwFprfm : Statement .llLfbHitRwFprfm := by show decodeWord (encode _) = _; decide
theorem l1iLfbHitRdFhwprf : Statement .l1iLfbHitRdFhwprf := by show decodeWord (encode _) = _; decide
theorem l2iLfbHitRdFhwprf : Statement .l2iLfbHitRdFhwprf := by show decodeWord (encode _) = _; decide
theorem l1dLfbHitRdFhwprf : Statement .l1dLfbHitRdFhwprf := by show decodeWord (encode _) = _; decide
theorem l2dLfbHitRdFhwprf : Statement .l2dLfbHitRdFhwprf := by show decodeWord (encode _) = _; decide
theorem l3dLfbHitRdFhwprf : Statement .l3dLfbHitRdFhwprf := by show decodeWord (encode _) = _; decide
theorem llLfbHitRdFhwprf : Statement .llLfbHitRdFhwprf := by show decodeWord (encode _) = _; decide
theorem l1dLfbHitWrFhwprf : Statement .l1dLfbHitWrFhwprf := by show decodeWord (encode _) = _; decide
theorem l2dLfbHitWrFhwprf : Statement .l2dLfbHitWrFhwprf := by show decodeWord (encode _) = _; decide
theorem l3dLfbHitWrFhwprf : Statement .l3dLfbHitWrFhwprf := by show decodeWord (encode _) = _; decide
theorem llLfbHitWrFhwprf : Statement .llLfbHitWrFhwprf := by show decodeWord (encode _) = _; decide
theorem l1dLfbHitRwFhwprf : Statement .l1dLfbHitRwFhwprf := by show decodeWord (encode _) = _; decide
theorem l2dLfbHitRwFhwprf : Statement .l2dLfbHitRwFhwprf := by show decodeWord (encode _) = _; decide
theorem l3dLfbHitRwFhwprf : Statement .l3dLfbHitRwFhwprf := by show decodeWord (encode _) = _; decide
theorem llLfbHitRwFhwprf : Statement .llLfbHitRwFhwprf := by show decodeWord (encode _) = _; decide
theorem l1iLfbHitRdFprf : Statement .l1iLfbHitRdFprf := by show decodeWord (encode _) = _; decide
theorem l2iLfbHitRdFprf : Statement .l2iLfbHitRdFprf := by show decodeWord (encode _) = _; decide
theorem l1dLfbHitRdFprf : Statement .l1dLfbHitRdFprf := by show decodeWord (encode _) = _; decide
theorem l2dLfbHitRdFprf : Statement .l2dLfbHitRdFprf := by show decodeWord (encode _) = _; decide
theorem l3dLfbHitRdFprf : Statement .l3dLfbHitRdFprf := by show decodeWord (encode _) = _; decide
theorem llLfbHitRdFprf : Statement .llLfbHitRdFprf := by show decodeWord (encode _) = _; decide
theorem l1dLfbHitWrFprf : Statement .l1dLfbHitWrFprf := by show decodeWord (encode _) = _; decide
theorem l2dLfbHitWrFprf : Statement .l2dLfbHitWrFprf := by show decodeWord (encode _) = _; decide
theorem l3dLfbHitWrFprf : Statement .l3dLfbHitWrFprf := by show decodeWord (encode _) = _; decide
theorem llLfbHitWrFprf : Statement .llLfbHitWrFprf := by show decodeWord (encode _) = _; decide
theorem l1dLfbHitRwFprf : Statement .l1dLfbHitRwFprf := by show decodeWord (encode _) = _; decide
theorem l2dLfbHitRwFprf : Statement .l2dLfbHitRwFprf := by show decodeWord (encode _) = _; decide
theorem l3dLfbHitRwFprf : Statement .l3dLfbHitRwFprf := by show decodeWord (encode _) = _; decide
theorem llLfbHitRwFprf : Statement .llLfbHitRwFprf := by show decodeWord (encode _) = _; decide
theorem l1iCachePrf : Statement .l1iCachePrf := by show decodeWord (encode _) = _; decide
theorem l2iCachePrf : Statement .l2iCachePrf := by show decodeWord (encode _) = _; decide
theorem l1dCachePrf : Statement .l1dCachePrf := by show decodeWord (encode _) = _; decide
theorem l2dCachePrf : Statement .l2dCachePrf := by show decodeWord (encode _) = _; decide
theorem l3dCachePrf : Statement .l3dCachePrf := by show decodeWord (encode _) = _; decide
theorem llCachePrf : Statement .llCachePrf := by show decodeWord (encode _) = _; decide
theorem l1iCacheRefillPrf : Statement .l1iCacheRefillPrf := by show decodeWord (encode _) = _; decide
theorem l2iCacheRefillPrf : Statement .l2iCacheRefillPrf := by show decodeWord (encode _) = _; decide
theorem l1dCacheRefillPrf : Statement .l1dCacheRefillPrf := by show decodeWord (encode _) = _; decide
theorem l2dCacheRefillPrf : Statement .l2dCacheRefillPrf := by show decodeWord (encode _) = _; decide
theorem l3dCacheRefillPrf : Statement .l3dCacheRefillPrf := by show decodeWord (encode _) = _; decide
theorem llCacheRefillPrf : Statement .llCacheRefillPrf := by show decodeWord (encode _) = _; decide
theorem isnpHitPrf : Statement .isnpHitPrf := by show decodeWord (encode _) = _; decide
theorem isnpHitNearPrf : Statement .isnpHitNearPrf := by show decodeWord (encode _) = _; decide
theorem isnpHitFarPrf : Statement .isnpHitFarPrf := by show decodeWord (encode _) = _; decide
theorem isnpHitRemotePrf : Statement .isnpHitRemotePrf := by show decodeWord (encode _) = _; decide
theorem dsnpHitPrf : Statement .dsnpHitPrf := by show decodeWord (encode _) = _; decide
theorem dsnpHitNearPrf : Statement .dsnpHitNearPrf := by show decodeWord (encode _) = _; decide
theorem dsnpHitFarPrf : Statement .dsnpHitFarPrf := by show decodeWord (encode _) = _; decide
theorem dsnpHitRemotePrf : Statement .dsnpHitRemotePrf := by show decodeWord (encode _) = _; decide
theorem llCacheRw : Statement .llCacheRw := by show decodeWord (encode _) = _; decide
theorem llCachePrfm : Statement .llCachePrfm := by show decodeWord (encode _) = _; decide
theorem llCacheRefill : Statement .llCacheRefill := by show decodeWord (encode _) = _; decide
theorem llCacheRefillPrfm : Statement .llCacheRefillPrfm := by show decodeWord (encode _) = _; decide
theorem llCacheWb : Statement .llCacheWb := by show decodeWord (encode _) = _; decide
theorem llCacheWr : Statement .llCacheWr := by show decodeWord (encode _) = _; decide
theorem llCacheRefillWr : Statement .llCacheRefillWr := by show decodeWord (encode _) = _; decide
theorem memAccessRw : Statement .memAccessRw := by show decodeWord (encode _) = _; decide
theorem instFetchRd : Statement .instFetchRd := by show decodeWord (encode _) = _; decide
theorem memAccessPrfm : Statement .memAccessPrfm := by show decodeWord (encode _) = _; decide
theorem instFetchPrfm : Statement .instFetchPrfm := by show decodeWord (encode _) = _; decide
theorem l1iCacheMissRetired : Statement .l1iCacheMissRetired := by show decodeWord (encode _) = _; decide
theorem l2iCacheMissRetired : Statement .l2iCacheMissRetired := by show decodeWord (encode _) = _; decide
theorem l1dCacheMissLdRetired : Statement .l1dCacheMissLdRetired := by show decodeWord (encode _) = _; decide
theorem l2dCacheMissLdRetired : Statement .l2dCacheMissLdRetired := by show decodeWord (encode _) = _; decide
theorem l3dCacheMissLdRetired : Statement .l3dCacheMissLdRetired := by show decodeWord (encode _) = _; decide
theorem llCacheMissLdRetired : Statement .llCacheMissLdRetired := by show decodeWord (encode _) = _; decide
theorem l1dCacheMissStRetired : Statement .l1dCacheMissStRetired := by show decodeWord (encode _) = _; decide
theorem l2dCacheMissStRetired : Statement .l2dCacheMissStRetired := by show decodeWord (encode _) = _; decide
theorem l3dCacheMissStRetired : Statement .l3dCacheMissStRetired := by show decodeWord (encode _) = _; decide
theorem llCacheMissStRetired : Statement .llCacheMissStRetired := by show decodeWord (encode _) = _; decide
theorem l1dCacheMissLdstRetired : Statement .l1dCacheMissLdstRetired := by show decodeWord (encode _) = _; decide
theorem l2dCacheMissLdstRetired : Statement .l2dCacheMissLdstRetired := by show decodeWord (encode _) = _; decide
theorem l3dCacheMissLdstRetired : Statement .l3dCacheMissLdstRetired := by show decodeWord (encode _) = _; decide
theorem llCacheMissLdstRetired : Statement .llCacheMissLdstRetired := by show decodeWord (encode _) = _; decide
theorem l1dCacheHitmLdRetired : Statement .l1dCacheHitmLdRetired := by show decodeWord (encode _) = _; decide
theorem l2dCacheHitmLdRetired : Statement .l2dCacheHitmLdRetired := by show decodeWord (encode _) = _; decide
theorem l3dCacheHitmLdRetired : Statement .l3dCacheHitmLdRetired := by show decodeWord (encode _) = _; decide
theorem llCacheHitmLdRetired : Statement .llCacheHitmLdRetired := by show decodeWord (encode _) = _; decide
theorem l1dCacheHitmStRetired : Statement .l1dCacheHitmStRetired := by show decodeWord (encode _) = _; decide
theorem l2dCacheHitmStRetired : Statement .l2dCacheHitmStRetired := by show decodeWord (encode _) = _; decide
theorem l3dCacheHitmStRetired : Statement .l3dCacheHitmStRetired := by show decodeWord (encode _) = _; decide
theorem llCacheHitmStRetired : Statement .llCacheHitmStRetired := by show decodeWord (encode _) = _; decide
theorem l1dCacheHitmLdstRetired : Statement .l1dCacheHitmLdstRetired := by show decodeWord (encode _) = _; decide
theorem l2dCacheHitmLdstRetired : Statement .l2dCacheHitmLdstRetired := by show decodeWord (encode _) = _; decide
theorem l3dCacheHitmLdstRetired : Statement .l3dCacheHitmLdstRetired := by show decodeWord (encode _) = _; decide
theorem llCacheHitmLdstRetired : Statement .llCacheHitmLdstRetired := by show decodeWord (encode _) = _; decide
theorem l1iLfbHitRetired : Statement .l1iLfbHitRetired := by show decodeWord (encode _) = _; decide
theorem l2iLfbHitRetired : Statement .l2iLfbHitRetired := by show decodeWord (encode _) = _; decide
theorem l1dLfbHitLdRetired : Statement .l1dLfbHitLdRetired := by show decodeWord (encode _) = _; decide
theorem l2dLfbHitLdRetired : Statement .l2dLfbHitLdRetired := by show decodeWord (encode _) = _; decide
theorem l3dLfbHitLdRetired : Statement .l3dLfbHitLdRetired := by show decodeWord (encode _) = _; decide
theorem llLfbHitLdRetired : Statement .llLfbHitLdRetired := by show decodeWord (encode _) = _; decide
theorem l1dLfbHitStRetired : Statement .l1dLfbHitStRetired := by show decodeWord (encode _) = _; decide
theorem l2dLfbHitStRetired : Statement .l2dLfbHitStRetired := by show decodeWord (encode _) = _; decide
theorem l3dLfbHitStRetired : Statement .l3dLfbHitStRetired := by show decodeWord (encode _) = _; decide
theorem llLfbHitStRetired : Statement .llLfbHitStRetired := by show decodeWord (encode _) = _; decide
theorem l1dLfbHitLdstRetired : Statement .l1dLfbHitLdstRetired := by show decodeWord (encode _) = _; decide
theorem l2dLfbHitLdstRetired : Statement .l2dLfbHitLdstRetired := by show decodeWord (encode _) = _; decide
theorem l3dLfbHitLdstRetired : Statement .l3dLfbHitLdstRetired := by show decodeWord (encode _) = _; decide
theorem llLfbHitLdstRetired : Statement .llLfbHitLdstRetired := by show decodeWord (encode _) = _; decide
theorem l1iCacheHitRetired : Statement .l1iCacheHitRetired := by show decodeWord (encode _) = _; decide
theorem l2iCacheHitRetired : Statement .l2iCacheHitRetired := by show decodeWord (encode _) = _; decide
theorem l1dCacheHitLdRetired : Statement .l1dCacheHitLdRetired := by show decodeWord (encode _) = _; decide
theorem l2dCacheHitLdRetired : Statement .l2dCacheHitLdRetired := by show decodeWord (encode _) = _; decide
theorem l3dCacheHitLdRetired : Statement .l3dCacheHitLdRetired := by show decodeWord (encode _) = _; decide
theorem llCacheHitLdRetired : Statement .llCacheHitLdRetired := by show decodeWord (encode _) = _; decide
theorem l1dCacheHitStRetired : Statement .l1dCacheHitStRetired := by show decodeWord (encode _) = _; decide
theorem l2dCacheHitStRetired : Statement .l2dCacheHitStRetired := by show decodeWord (encode _) = _; decide
theorem l3dCacheHitStRetired : Statement .l3dCacheHitStRetired := by show decodeWord (encode _) = _; decide
theorem llCacheHitStRetired : Statement .llCacheHitStRetired := by show decodeWord (encode _) = _; decide
theorem l1dCacheHitLdstRetired : Statement .l1dCacheHitLdstRetired := by show decodeWord (encode _) = _; decide
theorem l2dCacheHitLdstRetired : Statement .l2dCacheHitLdstRetired := by show decodeWord (encode _) = _; decide
theorem l3dCacheHitLdstRetired : Statement .l3dCacheHitLdstRetired := by show decodeWord (encode _) = _; decide
theorem llCacheHitLdstRetired : Statement .llCacheHitLdstRetired := by show decodeWord (encode _) = _; decide
theorem itlbHitRetired : Statement .itlbHitRetired := by show decodeWord (encode _) = _; decide
theorem dtlbHitLdRetired : Statement .dtlbHitLdRetired := by show decodeWord (encode _) = _; decide
theorem dtlbHitStRetired : Statement .dtlbHitStRetired := by show decodeWord (encode _) = _; decide
theorem dtlbHitLdstRetired : Statement .dtlbHitLdstRetired := by show decodeWord (encode _) = _; decide
theorem itlbWalkRetired : Statement .itlbWalkRetired := by show decodeWord (encode _) = _; decide
theorem dtlbWalkLdRetired : Statement .dtlbWalkLdRetired := by show decodeWord (encode _) = _; decide
theorem dtlbWalkStRetired : Statement .dtlbWalkStRetired := by show decodeWord (encode _) = _; decide
theorem dtlbWalkLdstRetired : Statement .dtlbWalkLdstRetired := by show decodeWord (encode _) = _; decide
theorem dtlbWalkPrf : Statement .dtlbWalkPrf := by show decodeWord (encode _) = _; decide
theorem itlbWalkPrf : Statement .itlbWalkPrf := by show decodeWord (encode _) = _; decide
theorem dtlbWalkHwprf : Statement .dtlbWalkHwprf := by show decodeWord (encode _) = _; decide
theorem itlbWalkHwprf : Statement .itlbWalkHwprf := by show decodeWord (encode _) = _; decide
theorem l1dTlbPrf : Statement .l1dTlbPrf := by show decodeWord (encode _) = _; decide
theorem l1iTlbPrf : Statement .l1iTlbPrf := by show decodeWord (encode _) = _; decide
theorem l1dTlbHwprf : Statement .l1dTlbHwprf := by show decodeWord (encode _) = _; decide
theorem l1iTlbHwprf : Statement .l1iTlbHwprf := by show decodeWord (encode _) = _; decide
theorem dsnpHitmLdRetired : Statement .dsnpHitmLdRetired := by show decodeWord (encode _) = _; decide
theorem dsnpHitmNearLdRetired : Statement .dsnpHitmNearLdRetired := by show decodeWord (encode _) = _; decide
theorem dsnpHitmFarLdRetired : Statement .dsnpHitmFarLdRetired := by show decodeWord (encode _) = _; decide
theorem dsnpHitmRemoteLdRetired : Statement .dsnpHitmRemoteLdRetired := by show decodeWord (encode _) = _; decide
theorem dsnpHitmStRetired : Statement .dsnpHitmStRetired := by show decodeWord (encode _) = _; decide
theorem dsnpHitmNearStRetired : Statement .dsnpHitmNearStRetired := by show decodeWord (encode _) = _; decide
theorem dsnpHitmFarStRetired : Statement .dsnpHitmFarStRetired := by show decodeWord (encode _) = _; decide
theorem dsnpHitmRemoteStRetired : Statement .dsnpHitmRemoteStRetired := by show decodeWord (encode _) = _; decide
theorem dsnpHitmLdstRetired : Statement .dsnpHitmLdstRetired := by show decodeWord (encode _) = _; decide
theorem dsnpHitmNearLdstRetired : Statement .dsnpHitmNearLdstRetired := by show decodeWord (encode _) = _; decide
theorem dsnpHitmFarLdstRetired : Statement .dsnpHitmFarLdstRetired := by show decodeWord (encode _) = _; decide
theorem dsnpHitmRemoteLdstRetired : Statement .dsnpHitmRemoteLdstRetired := by show decodeWord (encode _) = _; decide
theorem isnpHitRetired : Statement .isnpHitRetired := by show decodeWord (encode _) = _; decide
theorem isnpHitNearRetired : Statement .isnpHitNearRetired := by show decodeWord (encode _) = _; decide
theorem isnpHitFarRetired : Statement .isnpHitFarRetired := by show decodeWord (encode _) = _; decide
theorem isnpHitRemoteRetired : Statement .isnpHitRemoteRetired := by show decodeWord (encode _) = _; decide
theorem dsnpHitLdRetired : Statement .dsnpHitLdRetired := by show decodeWord (encode _) = _; decide
theorem dsnpHitNearLdRetired : Statement .dsnpHitNearLdRetired := by show decodeWord (encode _) = _; decide
theorem dsnpHitFarLdRetired : Statement .dsnpHitFarLdRetired := by show decodeWord (encode _) = _; decide
theorem dsnpHitRemoteLdRetired : Statement .dsnpHitRemoteLdRetired := by show decodeWord (encode _) = _; decide
theorem dsnpHitStRetired : Statement .dsnpHitStRetired := by show decodeWord (encode _) = _; decide
theorem dsnpHitNearStRetired : Statement .dsnpHitNearStRetired := by show decodeWord (encode _) = _; decide
theorem dsnpHitFarStRetired : Statement .dsnpHitFarStRetired := by show decodeWord (encode _) = _; decide
theorem dsnpHitRemoteStRetired : Statement .dsnpHitRemoteStRetired := by show decodeWord (encode _) = _; decide
theorem dsnpHitLdstRetired : Statement .dsnpHitLdstRetired := by show decodeWord (encode _) = _; decide
theorem dsnpHitNearLdstRetired : Statement .dsnpHitNearLdstRetired := by show decodeWord (encode _) = _; decide
theorem dsnpHitFarLdstRetired : Statement .dsnpHitFarLdstRetired := by show decodeWord (encode _) = _; decide
theorem dsnpHitRemoteLdstRetired : Statement .dsnpHitRemoteLdstRetired := by show decodeWord (encode _) = _; decide
theorem l1dCacheRefillPercyc : Statement .l1dCacheRefillPercyc := by show decodeWord (encode _) = _; decide
theorem l2dCacheRefillPercyc : Statement .l2dCacheRefillPercyc := by show decodeWord (encode _) = _; decide
theorem l3dCacheRefillPercyc : Statement .l3dCacheRefillPercyc := by show decodeWord (encode _) = _; decide
theorem l1iCacheRefillPercyc : Statement .l1iCacheRefillPercyc := by show decodeWord (encode _) = _; decide
theorem l2iCacheRefillPercyc : Statement .l2iCacheRefillPercyc := by show decodeWord (encode _) = _; decide
theorem remoteCacheHitRd : Statement .remoteCacheHitRd := by show decodeWord (encode _) = _; decide
theorem remoteCacheHitmRd : Statement .remoteCacheHitmRd := by show decodeWord (encode _) = _; decide
theorem remoteLfbHitRd : Statement .remoteLfbHitRd := by show decodeWord (encode _) = _; decide
theorem remoteCacheHitPrfm : Statement .remoteCacheHitPrfm := by show decodeWord (encode _) = _; decide
theorem stallBackendAtomicFp : Statement .stallBackendAtomicFp := by show decodeWord (encode _) = _; decide
theorem lseFpLdSpec : Statement .lseFpLdSpec := by show decodeWord (encode _) = _; decide
theorem lseFpStSpec : Statement .lseFpStSpec := by show decodeWord (encode _) = _; decide
theorem lseFpLdstSpec : Statement .lseFpLdstSpec := by show decodeWord (encode _) = _; decide
theorem l1gcsCache : Statement .l1gcsCache := by show decodeWord (encode _) = _; decide
theorem l1gcsCacheRw : Statement .l1gcsCacheRw := by show decodeWord (encode _) = _; decide
theorem l1gcsCacheHwprf : Statement .l1gcsCacheHwprf := by show decodeWord (encode _) = _; decide
theorem l1gcsCacheMiss : Statement .l1gcsCacheMiss := by show decodeWord (encode _) = _; decide
theorem l1gcsCacheMissRd : Statement .l1gcsCacheMissRd := by show decodeWord (encode _) = _; decide
theorem l1gcsCacheHitRw : Statement .l1gcsCacheHitRw := by show decodeWord (encode _) = _; decide
theorem l1gcsCacheHitRwFhwprf : Statement .l1gcsCacheHitRwFhwprf := by show decodeWord (encode _) = _; decide
theorem l1gcsCacheRefill : Statement .l1gcsCacheRefill := by show decodeWord (encode _) = _; decide
theorem l1gcsCacheRefillHwprf : Statement .l1gcsCacheRefillHwprf := by show decodeWord (encode _) = _; decide
theorem l1gcsCacheRefillPercyc : Statement .l1gcsCacheRefillPercyc := by show decodeWord (encode _) = _; decide
theorem l1gcsLfbHitRw : Statement .l1gcsLfbHitRw := by show decodeWord (encode _) = _; decide
theorem l1gcsLfbHitRwFhwprf : Statement .l1gcsLfbHitRwFhwprf := by show decodeWord (encode _) = _; decide
theorem l1gcsCacheInval : Statement .l1gcsCacheInval := by show decodeWord (encode _) = _; decide
theorem l1gcsTlb : Statement .l1gcsTlb := by show decodeWord (encode _) = _; decide
theorem l1gcsTlbRw : Statement .l1gcsTlbRw := by show decodeWord (encode _) = _; decide
theorem l1gcsTlbHwprf : Statement .l1gcsTlbHwprf := by show decodeWord (encode _) = _; decide
theorem gcstlbWalk : Statement .gcstlbWalk := by show decodeWord (encode _) = _; decide
theorem gcstlbWalkRw : Statement .gcstlbWalkRw := by show decodeWord (encode _) = _; decide
theorem gcstlbWalkPercyc : Statement .gcstlbWalkPercyc := by show decodeWord (encode _) = _; decide
theorem gcstlbWalkStep : Statement .gcstlbWalkStep := by show decodeWord (encode _) = _; decide
theorem sampleFeedFp : Statement .sampleFeedFp := by show decodeWord (encode _) = _; decide
theorem sampleFeedSimd : Statement .sampleFeedSimd := by show decodeWord (encode _) = _; decide
theorem stallBackendL1gcs : Statement .stallBackendL1gcs := by show decodeWord (encode _) = _; decide
theorem stallBackendGcstlb : Statement .stallBackendGcstlb := by show decodeWord (encode _) = _; decide
theorem smeFpSpec : Statement .smeFpSpec := by show decodeWord (encode _) = _; decide
theorem seFpSpec : Statement .seFpSpec := by show decodeWord (encode _) = _; decide
theorem sveCmpIgranuleSpec : Statement .sveCmpIgranuleSpec := by show decodeWord (encode _) = _; decide
theorem sveCmpXgranuleSpec : Statement .sveCmpXgranuleSpec := by show decodeWord (encode _) = _; decide
theorem sveBitpermSpec : Statement .sveBitpermSpec := by show decodeWord (encode _) = _; decide
theorem smeSpec : Statement .smeSpec := by show decodeWord (encode _) = _; decide
theorem seSpec : Statement .seSpec := by show decodeWord (encode _) = _; decide
theorem smeInstSpec : Statement .smeInstSpec := by show decodeWord (encode _) = _; decide
theorem seInstSpec : Statement .seInstSpec := by show decodeWord (encode _) = _; decide
theorem smeInt8Spec : Statement .smeInt8Spec := by show decodeWord (encode _) = _; decide
theorem seInt8Spec : Statement .seInt8Spec := by show decodeWord (encode _) = _; decide
theorem smeFpBf16Spec : Statement .smeFpBf16Spec := by show decodeWord (encode _) = _; decide
theorem seFpBf16Spec : Statement .seFpBf16Spec := by show decodeWord (encode _) = _; decide
theorem smeInt16Spec : Statement .smeInt16Spec := by show decodeWord (encode _) = _; decide
theorem seInt16Spec : Statement .seInt16Spec := by show decodeWord (encode _) = _; decide
theorem smeFpHpSpec : Statement .smeFpHpSpec := by show decodeWord (encode _) = _; decide
theorem seFpHpSpec : Statement .seFpHpSpec := by show decodeWord (encode _) = _; decide
theorem smeInt32Spec : Statement .smeInt32Spec := by show decodeWord (encode _) = _; decide
theorem seInt32Spec : Statement .seInt32Spec := by show decodeWord (encode _) = _; decide
theorem smeFpSpSpec : Statement .smeFpSpSpec := by show decodeWord (encode _) = _; decide
theorem seFpSpSpec : Statement .seFpSpSpec := by show decodeWord (encode _) = _; decide
theorem smeInt64Spec : Statement .smeInt64Spec := by show decodeWord (encode _) = _; decide
theorem seInt64Spec : Statement .seInt64Spec := by show decodeWord (encode _) = _; decide
theorem smeFpDpSpec : Statement .smeFpDpSpec := by show decodeWord (encode _) = _; decide
theorem seFpDpSpec : Statement .seFpDpSpec := by show decodeWord (encode _) = _; decide
theorem smeFpAddsubSpec : Statement .smeFpAddsubSpec := by show decodeWord (encode _) = _; decide
theorem seFpAddsubSpec : Statement .seFpAddsubSpec := by show decodeWord (encode _) = _; decide
theorem smeFpFmaSpec : Statement .smeFpFmaSpec := by show decodeWord (encode _) = _; decide
theorem seFpFmaSpec : Statement .seFpFmaSpec := by show decodeWord (encode _) = _; decide
theorem smeFpDotSpec : Statement .smeFpDotSpec := by show decodeWord (encode _) = _; decide
theorem seFpDotSpec : Statement .seFpDotSpec := by show decodeWord (encode _) = _; decide
theorem smeFpMopaSpec : Statement .smeFpMopaSpec := by show decodeWord (encode _) = _; decide
theorem smeIntSpec : Statement .smeIntSpec := by show decodeWord (encode _) = _; decide
theorem seIntSpec : Statement .seIntSpec := by show decodeWord (encode _) = _; decide
theorem smeIntMulSpec : Statement .smeIntMulSpec := by show decodeWord (encode _) = _; decide
theorem seIntMulSpec : Statement .seIntMulSpec := by show decodeWord (encode _) = _; decide
theorem smeIntDotSpec : Statement .smeIntDotSpec := by show decodeWord (encode _) = _; decide
theorem seIntDotSpec : Statement .seIntDotSpec := by show decodeWord (encode _) = _; decide
theorem smeIntMopaSpec : Statement .smeIntMopaSpec := by show decodeWord (encode _) = _; decide
theorem zaActive : Statement .zaActive := by show decodeWord (encode _) = _; decide
theorem smePred2NotFullSpec : Statement .smePred2NotFullSpec := by show decodeWord (encode _) = _; decide
theorem smePred2Spec : Statement .smePred2Spec := by show decodeWord (encode _) = _; decide
theorem smePred2EmptySpec : Statement .smePred2EmptySpec := by show decodeWord (encode _) = _; decide
theorem smePred2FullSpec : Statement .smePred2FullSpec := by show decodeWord (encode _) = _; decide
theorem smePred2PartialSpec : Statement .smePred2PartialSpec := by show decodeWord (encode _) = _; decide
theorem smeLdstZaregSpec : Statement .smeLdstZaregSpec := by show decodeWord (encode _) = _; decide
theorem smeLdZaregSpec : Statement .smeLdZaregSpec := by show decodeWord (encode _) = _; decide
theorem smeStZaregSpec : Statement .smeStZaregSpec := by show decodeWord (encode _) = _; decide
theorem smeLdstZtregSpec : Statement .smeLdstZtregSpec := by show decodeWord (encode _) = _; decide
theorem smeLdZtregSpec : Statement .smeLdZtregSpec := by show decodeWord (encode _) = _; decide
theorem smeStZtregSpec : Statement .smeStZtregSpec := by show decodeWord (encode _) = _; decide
theorem smeLdstRegSpec : Statement .smeLdstRegSpec := by show decodeWord (encode _) = _; decide
theorem smeLdRegSpec : Statement .smeLdRegSpec := by show decodeWord (encode _) = _; decide
theorem smeStRegSpec : Statement .smeStRegSpec := by show decodeWord (encode _) = _; decide
theorem smeLdstTileSpec : Statement .smeLdstTileSpec := by show decodeWord (encode _) = _; decide
theorem smeLdTileSpec : Statement .smeLdTileSpec := by show decodeWord (encode _) = _; decide
theorem smeStTileSpec : Statement .smeStTileSpec := by show decodeWord (encode _) = _; decide
theorem aseLutSpec : Statement .aseLutSpec := by show decodeWord (encode _) = _; decide
theorem sveLutSpec : Statement .sveLutSpec := by show decodeWord (encode _) = _; decide
theorem smeLutSpec : Statement .smeLutSpec := by show decodeWord (encode _) = _; decide
theorem seLutSpec : Statement .seLutSpec := by show decodeWord (encode _) = _; decide
theorem n1CacheHitRd : Statement .n1CacheHitRd := by show decodeWord (encode _) = _; decide
theorem n2CacheHitRd : Statement .n2CacheHitRd := by show decodeWord (encode _) = _; decide
theorem n3CacheHitRd : Statement .n3CacheHitRd := by show decodeWord (encode _) = _; decide
theorem n4CacheHitRd : Statement .n4CacheHitRd := by show decodeWord (encode _) = _; decide
theorem n1CacheHitPrfm : Statement .n1CacheHitPrfm := by show decodeWord (encode _) = _; decide
theorem n2CacheHitPrfm : Statement .n2CacheHitPrfm := by show decodeWord (encode _) = _; decide
theorem n3CacheHitPrfm : Statement .n3CacheHitPrfm := by show decodeWord (encode _) = _; decide
theorem n4CacheHitPrfm : Statement .n4CacheHitPrfm := by show decodeWord (encode _) = _; decide
theorem n1Cache1HitRd : Statement .n1Cache1HitRd := by show decodeWord (encode _) = _; decide
theorem n2Cache1HitRd : Statement .n2Cache1HitRd := by show decodeWord (encode _) = _; decide
theorem n3Cache1HitRd : Statement .n3Cache1HitRd := by show decodeWord (encode _) = _; decide
theorem n4Cache1HitRd : Statement .n4Cache1HitRd := by show decodeWord (encode _) = _; decide
theorem n1Cache1HitPrfm : Statement .n1Cache1HitPrfm := by show decodeWord (encode _) = _; decide
theorem n2Cache1HitPrfm : Statement .n2Cache1HitPrfm := by show decodeWord (encode _) = _; decide
theorem n3Cache1HitPrfm : Statement .n3Cache1HitPrfm := by show decodeWord (encode _) = _; decide
theorem n4Cache1HitPrfm : Statement .n4Cache1HitPrfm := by show decodeWord (encode _) = _; decide
theorem n1Cache2HitRd : Statement .n1Cache2HitRd := by show decodeWord (encode _) = _; decide
theorem n2Cache2HitRd : Statement .n2Cache2HitRd := by show decodeWord (encode _) = _; decide
theorem n3Cache2HitRd : Statement .n3Cache2HitRd := by show decodeWord (encode _) = _; decide
theorem n4Cache2HitRd : Statement .n4Cache2HitRd := by show decodeWord (encode _) = _; decide
theorem n1Cache2HitPrfm : Statement .n1Cache2HitPrfm := by show decodeWord (encode _) = _; decide
theorem n2Cache2HitPrfm : Statement .n2Cache2HitPrfm := by show decodeWord (encode _) = _; decide
theorem n3Cache2HitPrfm : Statement .n3Cache2HitPrfm := by show decodeWord (encode _) = _; decide
theorem n4Cache2HitPrfm : Statement .n4Cache2HitPrfm := by show decodeWord (encode _) = _; decide
theorem n1Cache3HitRd : Statement .n1Cache3HitRd := by show decodeWord (encode _) = _; decide
theorem n2Cache3HitRd : Statement .n2Cache3HitRd := by show decodeWord (encode _) = _; decide
theorem n3Cache3HitRd : Statement .n3Cache3HitRd := by show decodeWord (encode _) = _; decide
theorem n4Cache3HitRd : Statement .n4Cache3HitRd := by show decodeWord (encode _) = _; decide
theorem n1Cache3HitPrfm : Statement .n1Cache3HitPrfm := by show decodeWord (encode _) = _; decide
theorem n2Cache3HitPrfm : Statement .n2Cache3HitPrfm := by show decodeWord (encode _) = _; decide
theorem n3Cache3HitPrfm : Statement .n3Cache3HitPrfm := by show decodeWord (encode _) = _; decide
theorem n4Cache3HitPrfm : Statement .n4Cache3HitPrfm := by show decodeWord (encode _) = _; decide
theorem n1CacheHitmRd : Statement .n1CacheHitmRd := by show decodeWord (encode _) = _; decide
theorem n2CacheHitmRd : Statement .n2CacheHitmRd := by show decodeWord (encode _) = _; decide
theorem n3CacheHitmRd : Statement .n3CacheHitmRd := by show decodeWord (encode _) = _; decide
theorem n4CacheHitmRd : Statement .n4CacheHitmRd := by show decodeWord (encode _) = _; decide
theorem n1LfbHitRd : Statement .n1LfbHitRd := by show decodeWord (encode _) = _; decide
theorem n2LfbHitRd : Statement .n2LfbHitRd := by show decodeWord (encode _) = _; decide
theorem n3LfbHitRd : Statement .n3LfbHitRd := by show decodeWord (encode _) = _; decide
theorem n4LfbHitRd : Statement .n4LfbHitRd := by show decodeWord (encode _) = _; decide
theorem n1Cache1HitmRd : Statement .n1Cache1HitmRd := by show decodeWord (encode _) = _; decide
theorem n2Cache1HitmRd : Statement .n2Cache1HitmRd := by show decodeWord (encode _) = _; decide
theorem n3Cache1HitmRd : Statement .n3Cache1HitmRd := by show decodeWord (encode _) = _; decide
theorem n4Cache1HitmRd : Statement .n4Cache1HitmRd := by show decodeWord (encode _) = _; decide
theorem n1Lfb1HitRd : Statement .n1Lfb1HitRd := by show decodeWord (encode _) = _; decide
theorem n2Lfb1HitRd : Statement .n2Lfb1HitRd := by show decodeWord (encode _) = _; decide
theorem n3Lfb1HitRd : Statement .n3Lfb1HitRd := by show decodeWord (encode _) = _; decide
theorem n4Lfb1HitRd : Statement .n4Lfb1HitRd := by show decodeWord (encode _) = _; decide
theorem n1Cache2HitmRd : Statement .n1Cache2HitmRd := by show decodeWord (encode _) = _; decide
theorem n2Cache2HitmRd : Statement .n2Cache2HitmRd := by show decodeWord (encode _) = _; decide
theorem n3Cache2HitmRd : Statement .n3Cache2HitmRd := by show decodeWord (encode _) = _; decide
theorem n4Cache2HitmRd : Statement .n4Cache2HitmRd := by show decodeWord (encode _) = _; decide
theorem n1Lfb2HitRd : Statement .n1Lfb2HitRd := by show decodeWord (encode _) = _; decide
theorem n2Lfb2HitRd : Statement .n2Lfb2HitRd := by show decodeWord (encode _) = _; decide
theorem n3Lfb2HitRd : Statement .n3Lfb2HitRd := by show decodeWord (encode _) = _; decide
theorem n4Lfb2HitRd : Statement .n4Lfb2HitRd := by show decodeWord (encode _) = _; decide
theorem n1Cache3HitmRd : Statement .n1Cache3HitmRd := by show decodeWord (encode _) = _; decide
theorem n2Cache3HitmRd : Statement .n2Cache3HitmRd := by show decodeWord (encode _) = _; decide
theorem n3Cache3HitmRd : Statement .n3Cache3HitmRd := by show decodeWord (encode _) = _; decide
theorem n4Cache3HitmRd : Statement .n4Cache3HitmRd := by show decodeWord (encode _) = _; decide
theorem n1Lfb3HitRd : Statement .n1Lfb3HitRd := by show decodeWord (encode _) = _; decide
theorem n2Lfb3HitRd : Statement .n2Lfb3HitRd := by show decodeWord (encode _) = _; decide
theorem n3Lfb3HitRd : Statement .n3Lfb3HitRd := by show decodeWord (encode _) = _; decide
theorem n4Lfb3HitRd : Statement .n4Lfb3HitRd := by show decodeWord (encode _) = _; decide
theorem n1MemRd : Statement .n1MemRd := by show decodeWord (encode _) = _; decide
theorem n2MemRd : Statement .n2MemRd := by show decodeWord (encode _) = _; decide
theorem n3MemRd : Statement .n3MemRd := by show decodeWord (encode _) = _; decide
theorem n4MemRd : Statement .n4MemRd := by show decodeWord (encode _) = _; decide
theorem n1MemPrfm : Statement .n1MemPrfm := by show decodeWord (encode _) = _; decide
theorem n2MemPrfm : Statement .n2MemPrfm := by show decodeWord (encode _) = _; decide
theorem n3MemPrfm : Statement .n3MemPrfm := by show decodeWord (encode _) = _; decide
theorem n4MemPrfm : Statement .n4MemPrfm := by show decodeWord (encode _) = _; decide
theorem n1Mem1Rd : Statement .n1Mem1Rd := by show decodeWord (encode _) = _; decide
theorem n2Mem1Rd : Statement .n2Mem1Rd := by show decodeWord (encode _) = _; decide
theorem n3Mem1Rd : Statement .n3Mem1Rd := by show decodeWord (encode _) = _; decide
theorem n4Mem1Rd : Statement .n4Mem1Rd := by show decodeWord (encode _) = _; decide
theorem n1Mem1Prfm : Statement .n1Mem1Prfm := by show decodeWord (encode _) = _; decide
theorem n2Mem1Prfm : Statement .n2Mem1Prfm := by show decodeWord (encode _) = _; decide
theorem n3Mem1Prfm : Statement .n3Mem1Prfm := by show decodeWord (encode _) = _; decide
theorem n4Mem1Prfm : Statement .n4Mem1Prfm := by show decodeWord (encode _) = _; decide
theorem n1Mem2Rd : Statement .n1Mem2Rd := by show decodeWord (encode _) = _; decide
theorem n2Mem2Rd : Statement .n2Mem2Rd := by show decodeWord (encode _) = _; decide
theorem n3Mem2Rd : Statement .n3Mem2Rd := by show decodeWord (encode _) = _; decide
theorem n4Mem2Rd : Statement .n4Mem2Rd := by show decodeWord (encode _) = _; decide
theorem n1Mem2Prfm : Statement .n1Mem2Prfm := by show decodeWord (encode _) = _; decide
theorem n2Mem2Prfm : Statement .n2Mem2Prfm := by show decodeWord (encode _) = _; decide
theorem n3Mem2Prfm : Statement .n3Mem2Prfm := by show decodeWord (encode _) = _; decide
theorem n4Mem2Prfm : Statement .n4Mem2Prfm := by show decodeWord (encode _) = _; decide
theorem n1Mem3Rd : Statement .n1Mem3Rd := by show decodeWord (encode _) = _; decide
theorem n2Mem3Rd : Statement .n2Mem3Rd := by show decodeWord (encode _) = _; decide
theorem n3Mem3Rd : Statement .n3Mem3Rd := by show decodeWord (encode _) = _; decide
theorem n4Mem3Rd : Statement .n4Mem3Rd := by show decodeWord (encode _) = _; decide
theorem n1Mem3Prfm : Statement .n1Mem3Prfm := by show decodeWord (encode _) = _; decide
theorem n2Mem3Prfm : Statement .n2Mem3Prfm := by show decodeWord (encode _) = _; decide
theorem n3Mem3Prfm : Statement .n3Mem3Prfm := by show decodeWord (encode _) = _; decide
theorem n4Mem3Prfm : Statement .n4Mem3Prfm := by show decodeWord (encode _) = _; decide
theorem isnpHitN1Rd : Statement .isnpHitN1Rd := by show decodeWord (encode _) = _; decide
theorem isnpHitN2Rd : Statement .isnpHitN2Rd := by show decodeWord (encode _) = _; decide
theorem isnpHitN3Rd : Statement .isnpHitN3Rd := by show decodeWord (encode _) = _; decide
theorem isnpHitN4Rd : Statement .isnpHitN4Rd := by show decodeWord (encode _) = _; decide
theorem dsnpHitN1Rd : Statement .dsnpHitN1Rd := by show decodeWord (encode _) = _; decide
theorem dsnpHitN2Rd : Statement .dsnpHitN2Rd := by show decodeWord (encode _) = _; decide
theorem dsnpHitN3Rd : Statement .dsnpHitN3Rd := by show decodeWord (encode _) = _; decide
theorem dsnpHitN4Rd : Statement .dsnpHitN4Rd := by show decodeWord (encode _) = _; decide
theorem dsnpHitN1Wr : Statement .dsnpHitN1Wr := by show decodeWord (encode _) = _; decide
theorem dsnpHitN2Wr : Statement .dsnpHitN2Wr := by show decodeWord (encode _) = _; decide
theorem dsnpHitN3Wr : Statement .dsnpHitN3Wr := by show decodeWord (encode _) = _; decide
theorem dsnpHitN4Wr : Statement .dsnpHitN4Wr := by show decodeWord (encode _) = _; decide
theorem dsnpHitN1Rw : Statement .dsnpHitN1Rw := by show decodeWord (encode _) = _; decide
theorem dsnpHitN2Rw : Statement .dsnpHitN2Rw := by show decodeWord (encode _) = _; decide
theorem dsnpHitN3Rw : Statement .dsnpHitN3Rw := by show decodeWord (encode _) = _; decide
theorem dsnpHitN4Rw : Statement .dsnpHitN4Rw := by show decodeWord (encode _) = _; decide
theorem dsnpHitN1Prfm : Statement .dsnpHitN1Prfm := by show decodeWord (encode _) = _; decide
theorem dsnpHitN2Prfm : Statement .dsnpHitN2Prfm := by show decodeWord (encode _) = _; decide
theorem dsnpHitN3Prfm : Statement .dsnpHitN3Prfm := by show decodeWord (encode _) = _; decide
theorem dsnpHitN4Prfm : Statement .dsnpHitN4Prfm := by show decodeWord (encode _) = _; decide
theorem dsnpHitN1Hwprf : Statement .dsnpHitN1Hwprf := by show decodeWord (encode _) = _; decide
theorem dsnpHitN2Hwprf : Statement .dsnpHitN2Hwprf := by show decodeWord (encode _) = _; decide
theorem dsnpHitN3Hwprf : Statement .dsnpHitN3Hwprf := by show decodeWord (encode _) = _; decide
theorem dsnpHitN4Hwprf : Statement .dsnpHitN4Hwprf := by show decodeWord (encode _) = _; decide
theorem isnpHitN1Prfm : Statement .isnpHitN1Prfm := by show decodeWord (encode _) = _; decide
theorem isnpHitN2Prfm : Statement .isnpHitN2Prfm := by show decodeWord (encode _) = _; decide
theorem isnpHitN3Prfm : Statement .isnpHitN3Prfm := by show decodeWord (encode _) = _; decide
theorem isnpHitN4Prfm : Statement .isnpHitN4Prfm := by show decodeWord (encode _) = _; decide
theorem isnpHitN1Hwprf : Statement .isnpHitN1Hwprf := by show decodeWord (encode _) = _; decide
theorem isnpHitN2Hwprf : Statement .isnpHitN2Hwprf := by show decodeWord (encode _) = _; decide
theorem isnpHitN3Hwprf : Statement .isnpHitN3Hwprf := by show decodeWord (encode _) = _; decide
theorem isnpHitN4Hwprf : Statement .isnpHitN4Hwprf := by show decodeWord (encode _) = _; decide
theorem dsnpHitN1Prf : Statement .dsnpHitN1Prf := by show decodeWord (encode _) = _; decide
theorem dsnpHitN2Prf : Statement .dsnpHitN2Prf := by show decodeWord (encode _) = _; decide
theorem dsnpHitN3Prf : Statement .dsnpHitN3Prf := by show decodeWord (encode _) = _; decide
theorem dsnpHitN4Prf : Statement .dsnpHitN4Prf := by show decodeWord (encode _) = _; decide
theorem isnpHitN1Prf : Statement .isnpHitN1Prf := by show decodeWord (encode _) = _; decide
theorem isnpHitN2Prf : Statement .isnpHitN2Prf := by show decodeWord (encode _) = _; decide
theorem isnpHitN3Prf : Statement .isnpHitN3Prf := by show decodeWord (encode _) = _; decide
theorem isnpHitN4Prf : Statement .isnpHitN4Prf := by show decodeWord (encode _) = _; decide
theorem isnpHitN1 : Statement .isnpHitN1 := by show decodeWord (encode _) = _; decide
theorem isnpHitN2 : Statement .isnpHitN2 := by show decodeWord (encode _) = _; decide
theorem isnpHitN3 : Statement .isnpHitN3 := by show decodeWord (encode _) = _; decide
theorem isnpHitN4 : Statement .isnpHitN4 := by show decodeWord (encode _) = _; decide
theorem dsnpHitN1 : Statement .dsnpHitN1 := by show decodeWord (encode _) = _; decide
theorem dsnpHitN2 : Statement .dsnpHitN2 := by show decodeWord (encode _) = _; decide
theorem dsnpHitN3 : Statement .dsnpHitN3 := by show decodeWord (encode _) = _; decide
theorem dsnpHitN4 : Statement .dsnpHitN4 := by show decodeWord (encode _) = _; decide
theorem aseFpVreduceSpec : Statement .aseFpVreduceSpec := by show decodeWord (encode _) = _; decide
theorem sveFpPreduceSpec : Statement .sveFpPreduceSpec := by show decodeWord (encode _) = _; decide
theorem dsnpHitmN1Rd : Statement .dsnpHitmN1Rd := by show decodeWord (encode _) = _; decide
theorem dsnpHitmN2Rd : Statement .dsnpHitmN2Rd := by show decodeWord (encode _) = _; decide
theorem dsnpHitmN3Rd : Statement .dsnpHitmN3Rd := by show decodeWord (encode _) = _; decide
theorem dsnpHitmN4Rd : Statement .dsnpHitmN4Rd := by show decodeWord (encode _) = _; decide
theorem dsnpHitmN1Wr : Statement .dsnpHitmN1Wr := by show decodeWord (encode _) = _; decide
theorem dsnpHitmN2Wr : Statement .dsnpHitmN2Wr := by show decodeWord (encode _) = _; decide
theorem dsnpHitmN3Wr : Statement .dsnpHitmN3Wr := by show decodeWord (encode _) = _; decide
theorem dsnpHitmN4Wr : Statement .dsnpHitmN4Wr := by show decodeWord (encode _) = _; decide
theorem dsnpHitmN1Rw : Statement .dsnpHitmN1Rw := by show decodeWord (encode _) = _; decide
theorem dsnpHitmN2Rw : Statement .dsnpHitmN2Rw := by show decodeWord (encode _) = _; decide
theorem dsnpHitmN3Rw : Statement .dsnpHitmN3Rw := by show decodeWord (encode _) = _; decide
theorem dsnpHitmN4Rw : Statement .dsnpHitmN4Rw := by show decodeWord (encode _) = _; decide
theorem aseFpSpMinSpec : Statement .aseFpSpMinSpec := by show decodeWord (encode _) = _; decide
theorem aseFpHpMinSpec : Statement .aseFpHpMinSpec := by show decodeWord (encode _) = _; decide
theorem aseFpBf16MinSpec : Statement .aseFpBf16MinSpec := by show decodeWord (encode _) = _; decide
theorem aseFpFp8MinSpec : Statement .aseFpFp8MinSpec := by show decodeWord (encode _) = _; decide
theorem aseSveFpSpMinSpec : Statement .aseSveFpSpMinSpec := by show decodeWord (encode _) = _; decide
theorem aseSveFpHpMinSpec : Statement .aseSveFpHpMinSpec := by show decodeWord (encode _) = _; decide
theorem aseSveFpBf16MinSpec : Statement .aseSveFpBf16MinSpec := by show decodeWord (encode _) = _; decide
theorem aseSveFpFp8MinSpec : Statement .aseSveFpFp8MinSpec := by show decodeWord (encode _) = _; decide
theorem seFpSpMinSpec : Statement .seFpSpMinSpec := by show decodeWord (encode _) = _; decide
theorem seFpHpMinSpec : Statement .seFpHpMinSpec := by show decodeWord (encode _) = _; decide
theorem seFpBf16MinSpec : Statement .seFpBf16MinSpec := by show decodeWord (encode _) = _; decide
theorem seFpFp8MinSpec : Statement .seFpFp8MinSpec := by show decodeWord (encode _) = _; decide
theorem smeFpSpMinSpec : Statement .smeFpSpMinSpec := by show decodeWord (encode _) = _; decide
theorem smeFpHpMinSpec : Statement .smeFpHpMinSpec := by show decodeWord (encode _) = _; decide
theorem smeFpBf16MinSpec : Statement .smeFpBf16MinSpec := by show decodeWord (encode _) = _; decide
theorem smeFpFp8MinSpec : Statement .smeFpFp8MinSpec := by show decodeWord (encode _) = _; decide
theorem sveFpSpMinSpec : Statement .sveFpSpMinSpec := by show decodeWord (encode _) = _; decide
theorem sveFpHpMinSpec : Statement .sveFpHpMinSpec := by show decodeWord (encode _) = _; decide
theorem sveFpBf16MinSpec : Statement .sveFpBf16MinSpec := by show decodeWord (encode _) = _; decide
theorem sveFpFp8MinSpec : Statement .sveFpFp8MinSpec := by show decodeWord (encode _) = _; decide
theorem fpBf16FixedOpsSpec : Statement .fpBf16FixedOpsSpec := by show decodeWord (encode _) = _; decide
theorem fpSpMinSpec : Statement .fpSpMinSpec := by show decodeWord (encode _) = _; decide
theorem fpHpMinSpec : Statement .fpHpMinSpec := by show decodeWord (encode _) = _; decide
theorem fpBf16MinSpec : Statement .fpBf16MinSpec := by show decodeWord (encode _) = _; decide
theorem fpFp8MinSpec : Statement .fpFp8MinSpec := by show decodeWord (encode _) = _; decide
theorem fpSpFixedMinOpsSpec : Statement .fpSpFixedMinOpsSpec := by show decodeWord (encode _) = _; decide
theorem fpHpFixedMinOpsSpec : Statement .fpHpFixedMinOpsSpec := by show decodeWord (encode _) = _; decide
theorem fpBf16FixedMinOpsSpec : Statement .fpBf16FixedMinOpsSpec := by show decodeWord (encode _) = _; decide
theorem fpFp8FixedMinOpsSpec : Statement .fpFp8FixedMinOpsSpec := by show decodeWord (encode _) = _; decide
theorem fpSpScaleMinOpsSpec : Statement .fpSpScaleMinOpsSpec := by show decodeWord (encode _) = _; decide
theorem fpHpScaleMinOpsSpec : Statement .fpHpScaleMinOpsSpec := by show decodeWord (encode _) = _; decide
theorem fpBf16ScaleMinOpsSpec : Statement .fpBf16ScaleMinOpsSpec := by show decodeWord (encode _) = _; decide
theorem fpFp8ScaleMinOpsSpec : Statement .fpFp8ScaleMinOpsSpec := by show decodeWord (encode _) = _; decide
theorem fpSpScale2MinOpsSpec : Statement .fpSpScale2MinOpsSpec := by show decodeWord (encode _) = _; decide
theorem fpHpScale2MinOpsSpec : Statement .fpHpScale2MinOpsSpec := by show decodeWord (encode _) = _; decide
theorem fpBf16Scale2MinOpsSpec : Statement .fpBf16Scale2MinOpsSpec := by show decodeWord (encode _) = _; decide
theorem fpFp8Scale2MinOpsSpec : Statement .fpFp8Scale2MinOpsSpec := by show decodeWord (encode _) = _; decide

end Sys2Proof.Laws.RoundTrip
end

