-- ==== Sys2Proof/Laws/Tables.lean ====
section
/-!
SUPPORT. The entries of the table `occOf`, event by event: unfolding the table itself is slow.
-/

namespace Sys2Proof.Machine

@[simp] theorem occOf_swIncr : occOf .swIncr = occSwIncr := (rfl)
@[simp] theorem occOf_ldRetired : occOf .ldRetired = occLdRetired := (rfl)
@[simp] theorem occOf_stRetired : occOf .stRetired = occStRetired := (rfl)
@[simp] theorem occOf_instRetired : occOf .instRetired = occInstRetired := (rfl)
@[simp] theorem occOf_excTaken : occOf .excTaken = occExcTaken := (rfl)
@[simp] theorem occOf_excReturn : occOf .excReturn = occExcReturn := (rfl)
@[simp] theorem occOf_cidWriteRetired : occOf .cidWriteRetired = occCidWriteRetired := (rfl)
@[simp] theorem occOf_pcWriteRetired : occOf .pcWriteRetired = occPcWriteRetired := (rfl)
@[simp] theorem occOf_brImmedRetired : occOf .brImmedRetired = occBrImmedRetired := (rfl)
@[simp] theorem occOf_brReturnRetired : occOf .brReturnRetired = occBrReturnRetired := (rfl)
@[simp] theorem occOf_unalignedLdstRetired : occOf .unalignedLdstRetired = occUnalignedLdstRetired := (rfl)
@[simp] theorem occOf_ttbrWriteRetired : occOf .ttbrWriteRetired = occTtbrWriteRetired := (rfl)
@[simp] theorem occOf_chain : occOf .chain = occChain := (rfl)
@[simp] theorem occOf_brRetired : occOf .brRetired = occBrRetired := (rfl)
@[simp] theorem occOf_excUndef : occOf .excUndef = occExcUndef := (rfl)
@[simp] theorem occOf_excSvc : occOf .excSvc = occExcSvc := (rfl)
@[simp] theorem occOf_excPabort : occOf .excPabort = occExcPabort := (rfl)
@[simp] theorem occOf_excDabort : occOf .excDabort = occExcDabort := (rfl)
@[simp] theorem occOf_excIrq : occOf .excIrq = occExcIrq := (rfl)
@[simp] theorem occOf_excFiq : occOf .excFiq = occExcFiq := (rfl)
@[simp] theorem occOf_excSmc : occOf .excSmc = occExcSmc := (rfl)
@[simp] theorem occOf_excHvc : occOf .excHvc = occExcHvc := (rfl)
@[simp] theorem occOf_excTrapPabort : occOf .excTrapPabort = occExcTrapPabort := (rfl)
@[simp] theorem occOf_excTrapDabort : occOf .excTrapDabort = occExcTrapDabort := (rfl)
@[simp] theorem occOf_excTrapOther : occOf .excTrapOther = occExcTrapOther := (rfl)
@[simp] theorem occOf_excTrapIrq : occOf .excTrapIrq = occExcTrapIrq := (rfl)
@[simp] theorem occOf_excTrapFiq : occOf .excTrapFiq = occExcTrapFiq := (rfl)
@[simp] theorem occOf_trbWrap : occOf .trbWrap = occTrbWrap := (rfl)
@[simp] theorem occOf_pmuOvfs : occOf .pmuOvfs = occPmuOvfs := (rfl)
@[simp] theorem occOf_trbTrig : occOf .trbTrig = occTrbTrig := (rfl)
@[simp] theorem occOf_pmuHovfs : occOf .pmuHovfs = occPmuHovfs := (rfl)
@[simp] theorem occOf_simdInstRetired : occOf .simdInstRetired = occSimdInstRetired := (rfl)
@[simp] theorem occOf_aseInstRetired : occOf .aseInstRetired = occAseInstRetired := (rfl)
@[simp] theorem occOf_sveInstRetired : occOf .sveInstRetired = occSveInstRetired := (rfl)
@[simp] theorem occOf_aseSveInstRetired : occOf .aseSveInstRetired = occAseSveInstRetired := (rfl)
@[simp] theorem occOf_brSkipRetired : occOf .brSkipRetired = occBrSkipRetired := (rfl)
@[simp] theorem occOf_brImmedTakenRetired : occOf .brImmedTakenRetired = occBrImmedTakenRetired := (rfl)
@[simp] theorem occOf_brImmedSkipRetired : occOf .brImmedSkipRetired = occBrImmedSkipRetired := (rfl)
@[simp] theorem occOf_brIndTakenRetired : occOf .brIndTakenRetired = occBrIndTakenRetired := (rfl)
@[simp] theorem occOf_brIndSkipRetired : occOf .brIndSkipRetired = occBrIndSkipRetired := (rfl)
@[simp] theorem occOf_brIndnrTakenRetired : occOf .brIndnrTakenRetired = occBrIndnrTakenRetired := (rfl)
@[simp] theorem occOf_brIndnrSkipRetired : occOf .brIndnrSkipRetired = occBrIndnrSkipRetired := (rfl)
@[simp] theorem occOf_brReturnAnyRetired : occOf .brReturnAnyRetired = occBrReturnAnyRetired := (rfl)
@[simp] theorem occOf_brReturnSkipRetired : occOf .brReturnSkipRetired = occBrReturnSkipRetired := (rfl)
@[simp] theorem occOf_brIndRetired : occOf .brIndRetired = occBrIndRetired := (rfl)
@[simp] theorem occOf_brIndnrRetired : occOf .brIndnrRetired = occBrIndnrRetired := (rfl)
@[simp] theorem occOf_brbFiltrate : occOf .brbFiltrate = occBrbFiltrate := (rfl)
@[simp] theorem occOf_brnlIndnrTakenRetired : occOf .brnlIndnrTakenRetired = occBrnlIndnrTakenRetired := (rfl)
@[simp] theorem occOf_blTakenRetired : occOf .blTakenRetired = occBlTakenRetired := (rfl)
@[simp] theorem occOf_brnlTakenRetired : occOf .brnlTakenRetired = occBrnlTakenRetired := (rfl)
@[simp] theorem occOf_blIndTakenRetired : occOf .blIndTakenRetired = occBlIndTakenRetired := (rfl)
@[simp] theorem occOf_brnlIndTakenRetired : occOf .brnlIndTakenRetired = occBrnlIndTakenRetired := (rfl)
@[simp] theorem occOf_blImmedTakenRetired : occOf .blImmedTakenRetired = occBlImmedTakenRetired := (rfl)
@[simp] theorem occOf_brnlImmedTakenRetired : occOf .brnlImmedTakenRetired = occBrnlImmedTakenRetired := (rfl)
@[simp] theorem occOf_brUncondRetired : occOf .brUncondRetired = occBrUncondRetired := (rfl)
@[simp] theorem occOf_brCondRetired : occOf .brCondRetired = occBrCondRetired := (rfl)
@[simp] theorem occOf_brCondTakenRetired : occOf .brCondTakenRetired = occBrCondTakenRetired := (rfl)
@[simp] theorem occOf_brHintCondRetired : occOf .brHintCondRetired = occBrHintCondRetired := (rfl)
@[simp] theorem occOf_aseSveRetired : occOf .aseSveRetired = occAseSveRetired := (rfl)
@[simp] theorem occOf_ldAnyRetired : occOf .ldAnyRetired = occLdAnyRetired := (rfl)
@[simp] theorem occOf_stAnyRetired : occOf .stAnyRetired = occStAnyRetired := (rfl)
@[simp] theorem occOf_ldstAnyRetired : occOf .ldstAnyRetired = occLdstAnyRetired := (rfl)
@[simp] theorem occOf_dpRetired : occOf .dpRetired = occDpRetired := (rfl)
@[simp] theorem occOf_aseRetired : occOf .aseRetired = occAseRetired := (rfl)
@[simp] theorem occOf_vfpRetired : occOf .vfpRetired = occVfpRetired := (rfl)
@[simp] theorem occOf_sveRetired : occOf .sveRetired = occSveRetired := (rfl)
@[simp] theorem occOf_cryptoRetired : occOf .cryptoRetired = occCryptoRetired := (rfl)
@[simp] theorem occOf_prfRetired : occOf .prfRetired = occPrfRetired := (rfl)
@[simp] theorem occOf_smeRetired : occOf .smeRetired = occSmeRetired := (rfl)
@[simp] theorem occOf_seRetired : occOf .seRetired = occSeRetired := (rfl)
@[simp] theorem occOf_smeInstRetired : occOf .smeInstRetired = occSmeInstRetired := (rfl)
@[simp] theorem occOf_seInstRetired : occOf .seInstRetired = occSeInstRetired := (rfl)
@[simp] theorem occOf_l1iCacheRefill : occOf .l1iCacheRefill = occL1iCacheRefill := (rfl)
@[simp] theorem occOf_l1iTlbRefill : occOf .l1iTlbRefill = occL1iTlbRefill := (rfl)
@[simp] theorem occOf_l1dCacheRefill : occOf .l1dCacheRefill = occL1dCacheRefill := (rfl)
@[simp] theorem occOf_l1dCache : occOf .l1dCache = occL1dCache := (rfl)
@[simp] theorem occOf_l1dTlbRefill : occOf .l1dTlbRefill = occL1dTlbRefill := (rfl)
@[simp] theorem occOf_brMisPred : occOf .brMisPred = occBrMisPred := (rfl)
@[simp] theorem occOf_cpuCycles : occOf .cpuCycles = occCpuCycles := (rfl)
@[simp] theorem occOf_brPred : occOf .brPred = occBrPred := (rfl)
@[simp] theorem occOf_memAccess : occOf .memAccess = occMemAccess := (rfl)
@[simp] theorem occOf_l1iCache : occOf .l1iCache = occL1iCache := (rfl)
@[simp] theorem occOf_l1dCacheWb : occOf .l1dCacheWb = occL1dCacheWb := (rfl)
@[simp] theorem occOf_l2dCache : occOf .l2dCache = occL2dCache := (rfl)
@[simp] theorem occOf_l2dCacheRefill : occOf .l2dCacheRefill = occL2dCacheRefill := (rfl)
@[simp] theorem occOf_l2dCacheWb : occOf .l2dCacheWb = occL2dCacheWb := (rfl)
@[simp] theorem occOf_busAccess : occOf .busAccess = occBusAccess := (rfl)
@[simp] theorem occOf_memoryError : occOf .memoryError = occMemoryError := (rfl)
@[simp] theorem occOf_instSpec : occOf .instSpec = occInstSpec := (rfl)
@[simp] theorem occOf_busCycles : occOf .busCycles = occBusCycles := (rfl)
@[simp] theorem occOf_l1dCacheAllocate : occOf .l1dCacheAllocate = occL1dCacheAllocate := (rfl)
@[simp] theorem occOf_l2dCacheAllocate : occOf .l2dCacheAllocate = occL2dCacheAllocate := (rfl)
@[simp] theorem occOf_brMisPredRetired : occOf .brMisPredRetired = occBrMisPredRetired := (rfl)
@[simp] theorem occOf_stallFrontend : occOf .stallFrontend = occStallFrontend := (rfl)
@[simp] theorem occOf_stallBackend : occOf .stallBackend = occStallBackend := (rfl)
@[simp] theorem occOf_l1dTlb : occOf .l1dTlb = occL1dTlb := (rfl)
@[simp] theorem occOf_l1iTlb : occOf .l1iTlb = occL1iTlb := (rfl)
@[simp] theorem occOf_l2iCache : occOf .l2iCache = occL2iCache := (rfl)
@[simp] theorem occOf_l2iCacheRefill : occOf .l2iCacheRefill = occL2iCacheRefill := (rfl)
@[simp] theorem occOf_l3dCacheAllocate : occOf .l3dCacheAllocate = occL3dCacheAllocate := (rfl)
@[simp] theorem occOf_l3dCacheRefill : occOf .l3dCacheRefill = occL3dCacheRefill := (rfl)
@[simp] theorem occOf_l3dCache : occOf .l3dCache = occL3dCache := (rfl)
@[simp] theorem occOf_l3dCacheWb : occOf .l3dCacheWb = occL3dCacheWb := (rfl)
@[simp] theorem occOf_l2dTlbRefill : occOf .l2dTlbRefill = occL2dTlbRefill := (rfl)
@[simp] theorem occOf_l2iTlbRefill : occOf .l2iTlbRefill = occL2iTlbRefill := (rfl)
@[simp] theorem occOf_l2dTlb : occOf .l2dTlb = occL2dTlb := (rfl)
@[simp] theorem occOf_l2iTlb : occOf .l2iTlb = occL2iTlb := (rfl)
@[simp] theorem occOf_remoteAccess : occOf .remoteAccess = occRemoteAccess := (rfl)
@[simp] theorem occOf_llCache : occOf .llCache = occLlCache := (rfl)
@[simp] theorem occOf_llCacheMiss : occOf .llCacheMiss = occLlCacheMiss := (rfl)
@[simp] theorem occOf_dtlbWalk : occOf .dtlbWalk = occDtlbWalk := (rfl)
@[simp] theorem occOf_itlbWalk : occOf .itlbWalk = occItlbWalk := (rfl)
@[simp] theorem occOf_llCacheRd : occOf .llCacheRd = occLlCacheRd := (rfl)
@[simp] theorem occOf_llCacheMissRd : occOf .llCacheMissRd = occLlCacheMissRd := (rfl)
@[simp] theorem occOf_remoteAccessRd : occOf .remoteAccessRd = occRemoteAccessRd := (rfl)
@[simp] theorem occOf_l1dCacheLmissRd : occOf .l1dCacheLmissRd = occL1dCacheLmissRd := (rfl)
@[simp] theorem occOf_opRetired : occOf .opRetired = occOpRetired := (rfl)
@[simp] theorem occOf_opSpec : occOf .opSpec = occOpSpec := (rfl)
@[simp] theorem occOf_stall : occOf .stall = occStall := (rfl)
@[simp] theorem occOf_stallSlotBackend : occOf .stallSlotBackend = occStallSlotBackend := (rfl)
@[simp] theorem occOf_stallSlotFrontend : occOf .stallSlotFrontend = occStallSlotFrontend := (rfl)
@[simp] theorem occOf_stallSlot : occOf .stallSlot = occStallSlot := (rfl)
@[simp] theorem occOf_l1dCacheRd : occOf .l1dCacheRd = occL1dCacheRd := (rfl)
@[simp] theorem occOf_l1dCacheWr : occOf .l1dCacheWr = occL1dCacheWr := (rfl)
@[simp] theorem occOf_l1dCacheRefillRd : occOf .l1dCacheRefillRd = occL1dCacheRefillRd := (rfl)
@[simp] theorem occOf_l1dCacheRefillWr : occOf .l1dCacheRefillWr = occL1dCacheRefillWr := (rfl)
@[simp] theorem occOf_l1dCacheRefillInner : occOf .l1dCacheRefillInner = occL1dCacheRefillInner := (rfl)
@[simp] theorem occOf_l1dCacheRefillOuter : occOf .l1dCacheRefillOuter = occL1dCacheRefillOuter := (rfl)
@[simp] theorem occOf_l1dCacheWbVictim : occOf .l1dCacheWbVictim = occL1dCacheWbVictim := (rfl)
@[simp] theorem occOf_l1dCacheWbClean : occOf .l1dCacheWbClean = occL1dCacheWbClean := (rfl)
@[simp] theorem occOf_l1dCacheInval : occOf .l1dCacheInval = occL1dCacheInval := (rfl)
@[simp] theorem occOf_l1dTlbRefillRd : occOf .l1dTlbRefillRd = occL1dTlbRefillRd := (rfl)
@[simp] theorem occOf_l1dTlbRefillWr : occOf .l1dTlbRefillWr = occL1dTlbRefillWr := (rfl)
@[simp] theorem occOf_l1dTlbRd : occOf .l1dTlbRd = occL1dTlbRd := (rfl)
@[simp] theorem occOf_l1dTlbWr : occOf .l1dTlbWr = occL1dTlbWr := (rfl)
@[simp] theorem occOf_l2dCacheRd : occOf .l2dCacheRd = occL2dCacheRd := (rfl)
@[simp] theorem occOf_l2dCacheWr : occOf .l2dCacheWr = occL2dCacheWr := (rfl)
@[simp] theorem occOf_l2dCacheRefillRd : occOf .l2dCacheRefillRd = occL2dCacheRefillRd := (rfl)
@[simp] theorem occOf_l2dCacheRefillWr : occOf .l2dCacheRefillWr = occL2dCacheRefillWr := (rfl)
@[simp] theorem occOf_l2dCacheWbVictim : occOf .l2dCacheWbVictim = occL2dCacheWbVictim := (rfl)
@[simp] theorem occOf_l2dCacheWbClean : occOf .l2dCacheWbClean = occL2dCacheWbClean := (rfl)
@[simp] theorem occOf_l2dCacheInval : occOf .l2dCacheInval = occL2dCacheInval := (rfl)
@[simp] theorem occOf_l2dTlbRefillRd : occOf .l2dTlbRefillRd = occL2dTlbRefillRd := (rfl)
@[simp] theorem occOf_l2dTlbRefillWr : occOf .l2dTlbRefillWr = occL2dTlbRefillWr := (rfl)
@[simp] theorem occOf_l2dTlbRd : occOf .l2dTlbRd = occL2dTlbRd := (rfl)
@[simp] theorem occOf_l2dTlbWr : occOf .l2dTlbWr = occL2dTlbWr := (rfl)
@[simp] theorem occOf_busAccessRd : occOf .busAccessRd = occBusAccessRd := (rfl)
@[simp] theorem occOf_busAccessWr : occOf .busAccessWr = occBusAccessWr := (rfl)
@[simp] theorem occOf_busAccessShared : occOf .busAccessShared = occBusAccessShared := (rfl)
@[simp] theorem occOf_busAccessNotShared : occOf .busAccessNotShared = occBusAccessNotShared := (rfl)
@[simp] theorem occOf_busAccessNormal : occOf .busAccessNormal = occBusAccessNormal := (rfl)
@[simp] theorem occOf_busAccessPeriph : occOf .busAccessPeriph = occBusAccessPeriph := (rfl)
@[simp] theorem occOf_memAccessRd : occOf .memAccessRd = occMemAccessRd := (rfl)
@[simp] theorem occOf_memAccessWr : occOf .memAccessWr = occMemAccessWr := (rfl)
@[simp] theorem occOf_unalignedLdSpec : occOf .unalignedLdSpec = occUnalignedLdSpec := (rfl)
@[simp] theorem occOf_unalignedStSpec : occOf .unalignedStSpec = occUnalignedStSpec := (rfl)
@[simp] theorem occOf_unalignedLdstSpec : occOf .unalignedLdstSpec = occUnalignedLdstSpec := (rfl)
@[simp] theorem occOf_ldrexSpec : occOf .ldrexSpec = occLdrexSpec := (rfl)
@[simp] theorem occOf_strexPassSpec : occOf .strexPassSpec = occStrexPassSpec := (rfl)
@[simp] theorem occOf_strexFailSpec : occOf .strexFailSpec = occStrexFailSpec := (rfl)
@[simp] theorem occOf_strexSpec : occOf .strexSpec = occStrexSpec := (rfl)
@[simp] theorem occOf_ldSpec : occOf .ldSpec = occLdSpec := (rfl)
@[simp] theorem occOf_stSpec : occOf .stSpec = occStSpec := (rfl)
@[simp] theorem occOf_ldstSpec : occOf .ldstSpec = occLdstSpec := (rfl)
@[simp] theorem occOf_dpSpec : occOf .dpSpec = occDpSpec := (rfl)
@[simp] theorem occOf_aseSpec : occOf .aseSpec = occAseSpec := (rfl)
@[simp] theorem occOf_vfpSpec : occOf .vfpSpec = occVfpSpec := (rfl)
@[simp] theorem occOf_pcWriteSpec : occOf .pcWriteSpec = occPcWriteSpec := (rfl)
@[simp] theorem occOf_cryptoSpec : occOf .cryptoSpec = occCryptoSpec := (rfl)
@[simp] theorem occOf_brImmedSpec : occOf .brImmedSpec = occBrImmedSpec := (rfl)
@[simp] theorem occOf_brReturnSpec : occOf .brReturnSpec = occBrReturnSpec := (rfl)
@[simp] theorem occOf_brIndirectSpec : occOf .brIndirectSpec = occBrIndirectSpec := (rfl)
@[simp] theorem occOf_isbSpec : occOf .isbSpec = occIsbSpec := (rfl)
@[simp] theorem occOf_dsbSpec : occOf .dsbSpec = occDsbSpec := (rfl)
@[simp] theorem occOf_dmbSpec : occOf .dmbSpec = occDmbSpec := (rfl)
@[simp] theorem occOf_csdbSpec : occOf .csdbSpec = occCsdbSpec := (rfl)
@[simp] theorem occOf_rcLdSpec : occOf .rcLdSpec = occRcLdSpec := (rfl)
@[simp] theorem occOf_rcStSpec : occOf .rcStSpec = occRcStSpec := (rfl)
@[simp] theorem occOf_l3dCacheHitWrFextProp : occOf .l3dCacheHitWrFextProp = occL3dCacheHitWrFextProp := (rfl)
@[simp] theorem occOf_l3dCacheRd : occOf .l3dCacheRd = occL3dCacheRd := (rfl)
@[simp] theorem occOf_l3dCacheWr : occOf .l3dCacheWr = occL3dCacheWr := (rfl)
@[simp] theorem occOf_l3dCacheRefillRd : occOf .l3dCacheRefillRd = occL3dCacheRefillRd := (rfl)
@[simp] theorem occOf_l3dCacheRefillWr : occOf .l3dCacheRefillWr = occL3dCacheRefillWr := (rfl)
@[simp] theorem occOf_l3dCacheWbVictim : occOf .l3dCacheWbVictim = occL3dCacheWbVictim := (rfl)
@[simp] theorem occOf_l3dCacheWbClean : occOf .l3dCacheWbClean = occL3dCacheWbClean := (rfl)
@[simp] theorem occOf_l3dCacheInval : occOf .l3dCacheInval = occL3dCacheInval := (rfl)
@[simp] theorem occOf_l2dCacheHitRdFextProp : occOf .l2dCacheHitRdFextProp = occL2dCacheHitRdFextProp := (rfl)
@[simp] theorem occOf_l2dCacheHitWrFextProp : occOf .l2dCacheHitWrFextProp = occL2dCacheHitWrFextProp := (rfl)
@[simp] theorem occOf_l2dCacheHitRwFextProp : occOf .l2dCacheHitRwFextProp = occL2dCacheHitRwFextProp := (rfl)
@[simp] theorem occOf_l3dCacheExtProp : occOf .l3dCacheExtProp = occL3dCacheExtProp := (rfl)
@[simp] theorem occOf_l3dCacheExtPropPrfmIr : occOf .l3dCacheExtPropPrfmIr = occL3dCacheExtPropPrfmIr := (rfl)
@[simp] theorem occOf_l3dCacheHitRwFextProp : occOf .l3dCacheHitRwFextProp = occL3dCacheHitRwFextProp := (rfl)
@[simp] theorem occOf_l3dCacheHitRdFextProp : occOf .l3dCacheHitRdFextProp = occL3dCacheHitRdFextProp := (rfl)
@[simp] theorem occOf_stshhSpec : occOf .stshhSpec = occStshhSpec := (rfl)
@[simp] theorem occOf_stshhKeepSpec : occOf .stshhKeepSpec = occStshhKeepSpec := (rfl)
@[simp] theorem occOf_stshhStrmSpec : occOf .stshhStrmSpec = occStshhStrmSpec := (rfl)
@[simp] theorem occOf_prfmIrSpec : occOf .prfmIrSpec = occPrfmIrSpec := (rfl)
@[simp] theorem occOf_memAccessWrStshh : occOf .memAccessWrStshh = occMemAccessWrStshh := (rfl)
@[simp] theorem occOf_memAccessWrStshhKeep : occOf .memAccessWrStshhKeep = occMemAccessWrStshhKeep := (rfl)
@[simp] theorem occOf_memAccessWrStshhStrm : occOf .memAccessWrStshhStrm = occMemAccessWrStshhStrm := (rfl)
@[simp] theorem occOf_memAccessWrStshhKeepNear : occOf .memAccessWrStshhKeepNear = occMemAccessWrStshhKeepNear := (rfl)
@[simp] theorem occOf_memAccessWrStshhKeepFar : occOf .memAccessWrStshhKeepFar = occMemAccessWrStshhKeepFar := (rfl)
@[simp] theorem occOf_l1dCacheExtProp : occOf .l1dCacheExtProp = occL1dCacheExtProp := (rfl)
@[simp] theorem occOf_l1dCacheExtPropPrfmIr : occOf .l1dCacheExtPropPrfmIr = occL1dCacheExtPropPrfmIr := (rfl)
@[simp] theorem occOf_l1dCacheHitRdFextProp : occOf .l1dCacheHitRdFextProp = occL1dCacheHitRdFextProp := (rfl)
@[simp] theorem occOf_l1dCacheHitWrFextProp : occOf .l1dCacheHitWrFextProp = occL1dCacheHitWrFextProp := (rfl)
@[simp] theorem occOf_l1dCacheHitRwFextProp : occOf .l1dCacheHitRwFextProp = occL1dCacheHitRwFextProp := (rfl)
@[simp] theorem occOf_l2dCacheExtProp : occOf .l2dCacheExtProp = occL2dCacheExtProp := (rfl)
@[simp] theorem occOf_l2dCacheExtPropPrfmIr : occOf .l2dCacheExtPropPrfmIr = occL2dCacheExtPropPrfmIr := (rfl)
@[simp] theorem occOf_samplePop : occOf .samplePop = occSamplePop := (rfl)
@[simp] theorem occOf_sampleFeed : occOf .sampleFeed = occSampleFeed := (rfl)
@[simp] theorem occOf_sampleFiltrate : occOf .sampleFiltrate = occSampleFiltrate := (rfl)
@[simp] theorem occOf_sampleCollision : occOf .sampleCollision = occSampleCollision := (rfl)
@[simp] theorem occOf_cntCycles : occOf .cntCycles = occCntCycles := (rfl)
@[simp] theorem occOf_stallBackendMem : occOf .stallBackendMem = occStallBackendMem := (rfl)
@[simp] theorem occOf_l1iCacheLmiss : occOf .l1iCacheLmiss = occL1iCacheLmiss := (rfl)
@[simp] theorem occOf_l2dCacheLmissRd : occOf .l2dCacheLmissRd = occL2dCacheLmissRd := (rfl)
@[simp] theorem occOf_l2iCacheLmiss : occOf .l2iCacheLmiss = occL2iCacheLmiss := (rfl)
@[simp] theorem occOf_l3dCacheLmissRd : occOf .l3dCacheLmissRd = occL3dCacheLmissRd := (rfl)
@[simp] theorem occOf_trcextout0 : occOf .trcextout0 = occTrcextout0 := (rfl)
@[simp] theorem occOf_trcextout1 : occOf .trcextout1 = occTrcextout1 := (rfl)
@[simp] theorem occOf_trcextout2 : occOf .trcextout2 = occTrcextout2 := (rfl)
@[simp] theorem occOf_trcextout3 : occOf .trcextout3 = occTrcextout3 := (rfl)
@[simp] theorem occOf_ctiTrigout4 : occOf .ctiTrigout4 = occCtiTrigout4 := (rfl)
@[simp] theorem occOf_ctiTrigout5 : occOf .ctiTrigout5 = occCtiTrigout5 := (rfl)
@[simp] theorem occOf_ctiTrigout6 : occOf .ctiTrigout6 = occCtiTrigout6 := (rfl)
@[simp] theorem occOf_ctiTrigout7 : occOf .ctiTrigout7 = occCtiTrigout7 := (rfl)
@[simp] theorem occOf_ldstAlignLat : occOf .ldstAlignLat = occLdstAlignLat := (rfl)
@[simp] theorem occOf_ldAlignLat : occOf .ldAlignLat = occLdAlignLat := (rfl)
@[simp] theorem occOf_stAlignLat : occOf .stAlignLat = occStAlignLat := (rfl)
@[simp] theorem occOf_memAccessChecked : occOf .memAccessChecked = occMemAccessChecked := (rfl)
@[simp] theorem occOf_memAccessCheckedRd : occOf .memAccessCheckedRd = occMemAccessCheckedRd := (rfl)
@[simp] theorem occOf_memAccessCheckedWr : occOf .memAccessCheckedWr = occMemAccessCheckedWr := (rfl)
@[simp] theorem occOf_simdInstSpec : occOf .simdInstSpec = occSimdInstSpec := (rfl)
@[simp] theorem occOf_aseInstSpec : occOf .aseInstSpec = occAseInstSpec := (rfl)
@[simp] theorem occOf_sveInstSpec : occOf .sveInstSpec = occSveInstSpec := (rfl)
@[simp] theorem occOf_aseSveInstSpec : occOf .aseSveInstSpec = occAseSveInstSpec := (rfl)
@[simp] theorem occOf_uopSpec : occOf .uopSpec = occUopSpec := (rfl)
@[simp] theorem occOf_aseUopSpec : occOf .aseUopSpec = occAseUopSpec := (rfl)
@[simp] theorem occOf_sveUopSpec : occOf .sveUopSpec = occSveUopSpec := (rfl)
@[simp] theorem occOf_aseSveUopSpec : occOf .aseSveUopSpec = occAseSveUopSpec := (rfl)
@[simp] theorem occOf_simdUopSpec : occOf .simdUopSpec = occSimdUopSpec := (rfl)
@[simp] theorem occOf_sveMathSpec : occOf .sveMathSpec = occSveMathSpec := (rfl)
@[simp] theorem occOf_fpSpec : occOf .fpSpec = occFpSpec := (rfl)
@[simp] theorem occOf_aseFpSpec : occOf .aseFpSpec = occAseFpSpec := (rfl)
@[simp] theorem occOf_sveFpSpec : occOf .sveFpSpec = occSveFpSpec := (rfl)
@[simp] theorem occOf_aseSveFpSpec : occOf .aseSveFpSpec = occAseSveFpSpec := (rfl)
@[simp] theorem occOf_fpHpSpec : occOf .fpHpSpec = occFpHpSpec := (rfl)
@[simp] theorem occOf_aseFpHpSpec : occOf .aseFpHpSpec = occAseFpHpSpec := (rfl)
@[simp] theorem occOf_sveFpHpSpec : occOf .sveFpHpSpec = occSveFpHpSpec := (rfl)
@[simp] theorem occOf_aseSveFpHpSpec : occOf .aseSveFpHpSpec = occAseSveFpHpSpec := (rfl)
@[simp] theorem occOf_fpSpSpec : occOf .fpSpSpec = occFpSpSpec := (rfl)
@[simp] theorem occOf_aseFpSpSpec : occOf .aseFpSpSpec = occAseFpSpSpec := (rfl)
@[simp] theorem occOf_sveFpSpSpec : occOf .sveFpSpSpec = occSveFpSpSpec := (rfl)
@[simp] theorem occOf_aseSveFpSpSpec : occOf .aseSveFpSpSpec = occAseSveFpSpSpec := (rfl)
@[simp] theorem occOf_fpDpSpec : occOf .fpDpSpec = occFpDpSpec := (rfl)
@[simp] theorem occOf_aseFpDpSpec : occOf .aseFpDpSpec = occAseFpDpSpec := (rfl)
@[simp] theorem occOf_sveFpDpSpec : occOf .sveFpDpSpec = occSveFpDpSpec := (rfl)
@[simp] theorem occOf_aseSveFpDpSpec : occOf .aseSveFpDpSpec = occAseSveFpDpSpec := (rfl)
@[simp] theorem occOf_fpDivSpec : occOf .fpDivSpec = occFpDivSpec := (rfl)
@[simp] theorem occOf_aseFpDivSpec : occOf .aseFpDivSpec = occAseFpDivSpec := (rfl)
@[simp] theorem occOf_sveFpDivSpec : occOf .sveFpDivSpec = occSveFpDivSpec := (rfl)
@[simp] theorem occOf_aseSveFpDivSpec : occOf .aseSveFpDivSpec = occAseSveFpDivSpec := (rfl)
@[simp] theorem occOf_fpSqrtSpec : occOf .fpSqrtSpec = occFpSqrtSpec := (rfl)
@[simp] theorem occOf_aseFpSqrtSpec : occOf .aseFpSqrtSpec = occAseFpSqrtSpec := (rfl)
@[simp] theorem occOf_sveFpSqrtSpec : occOf .sveFpSqrtSpec = occSveFpSqrtSpec := (rfl)
@[simp] theorem occOf_aseSveFpSqrtSpec : occOf .aseSveFpSqrtSpec = occAseSveFpSqrtSpec := (rfl)
@[simp] theorem occOf_fpFmaSpec : occOf .fpFmaSpec = occFpFmaSpec := (rfl)
@[simp] theorem occOf_aseFpFmaSpec : occOf .aseFpFmaSpec = occAseFpFmaSpec := (rfl)
@[simp] theorem occOf_sveFpFmaSpec : occOf .sveFpFmaSpec = occSveFpFmaSpec := (rfl)
@[simp] theorem occOf_aseSveFpFmaSpec : occOf .aseSveFpFmaSpec = occAseSveFpFmaSpec := (rfl)
@[simp] theorem occOf_fpMulSpec : occOf .fpMulSpec = occFpMulSpec := (rfl)
@[simp] theorem occOf_aseFpMulSpec : occOf .aseFpMulSpec = occAseFpMulSpec := (rfl)
@[simp] theorem occOf_sveFpMulSpec : occOf .sveFpMulSpec = occSveFpMulSpec := (rfl)
@[simp] theorem occOf_aseSveFpMulSpec : occOf .aseSveFpMulSpec = occAseSveFpMulSpec := (rfl)
@[simp] theorem occOf_fpAddsubSpec : occOf .fpAddsubSpec = occFpAddsubSpec := (rfl)
@[simp] theorem occOf_aseFpAddsubSpec : occOf .aseFpAddsubSpec = occAseFpAddsubSpec := (rfl)
@[simp] theorem occOf_sveFpAddsubSpec : occOf .sveFpAddsubSpec = occSveFpAddsubSpec := (rfl)
@[simp] theorem occOf_aseSveFpAddsubSpec : occOf .aseSveFpAddsubSpec = occAseSveFpAddsubSpec := (rfl)
@[simp] theorem occOf_fpRecpeSpec : occOf .fpRecpeSpec = occFpRecpeSpec := (rfl)
@[simp] theorem occOf_aseFpRecpeSpec : occOf .aseFpRecpeSpec = occAseFpRecpeSpec := (rfl)
@[simp] theorem occOf_sveFpRecpeSpec : occOf .sveFpRecpeSpec = occSveFpRecpeSpec := (rfl)
@[simp] theorem occOf_aseSveFpRecpeSpec : occOf .aseSveFpRecpeSpec = occAseSveFpRecpeSpec := (rfl)
@[simp] theorem occOf_fpCvtSpec : occOf .fpCvtSpec = occFpCvtSpec := (rfl)
@[simp] theorem occOf_aseFpCvtSpec : occOf .aseFpCvtSpec = occAseFpCvtSpec := (rfl)
@[simp] theorem occOf_sveFpCvtSpec : occOf .sveFpCvtSpec = occSveFpCvtSpec := (rfl)
@[simp] theorem occOf_aseSveFpCvtSpec : occOf .aseSveFpCvtSpec = occAseSveFpCvtSpec := (rfl)
@[simp] theorem occOf_sveFpAreduceSpec : occOf .sveFpAreduceSpec = occSveFpAreduceSpec := (rfl)
@[simp] theorem occOf_aseFpPreduceSpec : occOf .aseFpPreduceSpec = occAseFpPreduceSpec := (rfl)
@[simp] theorem occOf_sveFpVreduceSpec : occOf .sveFpVreduceSpec = occSveFpVreduceSpec := (rfl)
@[simp] theorem occOf_aseSveFpVreduceSpec : occOf .aseSveFpVreduceSpec = occAseSveFpVreduceSpec := (rfl)
@[simp] theorem occOf_intSpec : occOf .intSpec = occIntSpec := (rfl)
@[simp] theorem occOf_aseIntSpec : occOf .aseIntSpec = occAseIntSpec := (rfl)
@[simp] theorem occOf_sveIntSpec : occOf .sveIntSpec = occSveIntSpec := (rfl)
@[simp] theorem occOf_aseSveIntSpec : occOf .aseSveIntSpec = occAseSveIntSpec := (rfl)
@[simp] theorem occOf_intDivSpec : occOf .intDivSpec = occIntDivSpec := (rfl)
@[simp] theorem occOf_intDiv64Spec : occOf .intDiv64Spec = occIntDiv64Spec := (rfl)
@[simp] theorem occOf_sveIntDivSpec : occOf .sveIntDivSpec = occSveIntDivSpec := (rfl)
@[simp] theorem occOf_sveIntDiv64Spec : occOf .sveIntDiv64Spec = occSveIntDiv64Spec := (rfl)
@[simp] theorem occOf_intMulSpec : occOf .intMulSpec = occIntMulSpec := (rfl)
@[simp] theorem occOf_aseIntMulSpec : occOf .aseIntMulSpec = occAseIntMulSpec := (rfl)
@[simp] theorem occOf_sveIntMulSpec : occOf .sveIntMulSpec = occSveIntMulSpec := (rfl)
@[simp] theorem occOf_aseSveIntMulSpec : occOf .aseSveIntMulSpec = occAseSveIntMulSpec := (rfl)
@[simp] theorem occOf_intMul64Spec : occOf .intMul64Spec = occIntMul64Spec := (rfl)
@[simp] theorem occOf_sveIntMul64Spec : occOf .sveIntMul64Spec = occSveIntMul64Spec := (rfl)
@[simp] theorem occOf_intMulh64Spec : occOf .intMulh64Spec = occIntMulh64Spec := (rfl)
@[simp] theorem occOf_sveIntMulh64Spec : occOf .sveIntMulh64Spec = occSveIntMulh64Spec := (rfl)
@[simp] theorem occOf_aseFpBf16Spec : occOf .aseFpBf16Spec = occAseFpBf16Spec := (rfl)
@[simp] theorem occOf_sveFpBf16Spec : occOf .sveFpBf16Spec = occSveFpBf16Spec := (rfl)
@[simp] theorem occOf_aseSveFpBf16Spec : occOf .aseSveFpBf16Spec = occAseSveFpBf16Spec := (rfl)
@[simp] theorem occOf_fpBf16Spec : occOf .fpBf16Spec = occFpBf16Spec := (rfl)
@[simp] theorem occOf_sveSpec : occOf .sveSpec = occSveSpec := (rfl)
@[simp] theorem occOf_aseSveSpec : occOf .aseSveSpec = occAseSveSpec := (rfl)
@[simp] theorem occOf_nonfpSpec : occOf .nonfpSpec = occNonfpSpec := (rfl)
@[simp] theorem occOf_aseNonfpSpec : occOf .aseNonfpSpec = occAseNonfpSpec := (rfl)
@[simp] theorem occOf_sveNonfpSpec : occOf .sveNonfpSpec = occSveNonfpSpec := (rfl)
@[simp] theorem occOf_aseSveNonfpSpec : occOf .aseSveNonfpSpec = occAseSveNonfpSpec := (rfl)
@[simp] theorem occOf_aseIntVreduceSpec : occOf .aseIntVreduceSpec = occAseIntVreduceSpec := (rfl)
@[simp] theorem occOf_sveIntVreduceSpec : occOf .sveIntVreduceSpec = occSveIntVreduceSpec := (rfl)
@[simp] theorem occOf_aseSveIntVreduceSpec : occOf .aseSveIntVreduceSpec = occAseSveIntVreduceSpec := (rfl)
@[simp] theorem occOf_svePermSpec : occOf .svePermSpec = occSvePermSpec := (rfl)
@[simp] theorem occOf_svePermIgranuleSpec : occOf .svePermIgranuleSpec = occSvePermIgranuleSpec := (rfl)
@[simp] theorem occOf_svePermXgranuleSpec : occOf .svePermXgranuleSpec = occSvePermXgranuleSpec := (rfl)
@[simp] theorem occOf_svePermVariableSpec : occOf .svePermVariableSpec = occSvePermVariableSpec := (rfl)
@[simp] theorem occOf_sveXpipeSpec : occOf .sveXpipeSpec = occSveXpipeSpec := (rfl)
@[simp] theorem occOf_sveXpipeZ2rSpec : occOf .sveXpipeZ2rSpec = occSveXpipeZ2rSpec := (rfl)
@[simp] theorem occOf_sveXpipeR2zSpec : occOf .sveXpipeR2zSpec = occSveXpipeR2zSpec := (rfl)
@[simp] theorem occOf_svePgenNvecSpec : occOf .svePgenNvecSpec = occSvePgenNvecSpec := (rfl)
@[simp] theorem occOf_svePgenSpec : occOf .svePgenSpec = occSvePgenSpec := (rfl)
@[simp] theorem occOf_svePgenFlgSpec : occOf .svePgenFlgSpec = occSvePgenFlgSpec := (rfl)
@[simp] theorem occOf_svePgenCmpSpec : occOf .svePgenCmpSpec = occSvePgenCmpSpec := (rfl)
@[simp] theorem occOf_svePgenFcmSpec : occOf .svePgenFcmSpec = occSvePgenFcmSpec := (rfl)
@[simp] theorem occOf_svePgenLogicSpec : occOf .svePgenLogicSpec = occSvePgenLogicSpec := (rfl)
@[simp] theorem occOf_svePpermSpec : occOf .svePpermSpec = occSvePpermSpec := (rfl)
@[simp] theorem occOf_svePscanSpec : occOf .svePscanSpec = occSvePscanSpec := (rfl)
@[simp] theorem occOf_svePcntSpec : occOf .svePcntSpec = occSvePcntSpec := (rfl)
@[simp] theorem occOf_svePloopWhileSpec : occOf .svePloopWhileSpec = occSvePloopWhileSpec := (rfl)
@[simp] theorem occOf_svePloopTestSpec : occOf .svePloopTestSpec = occSvePloopTestSpec := (rfl)
@[simp] theorem occOf_svePloopEltsSpec : occOf .svePloopEltsSpec = occSvePloopEltsSpec := (rfl)
@[simp] theorem occOf_svePloopTermSpec : occOf .svePloopTermSpec = occSvePloopTermSpec := (rfl)
@[simp] theorem occOf_svePredSpec : occOf .svePredSpec = occSvePredSpec := (rfl)
@[simp] theorem occOf_svePredEmptySpec : occOf .svePredEmptySpec = occSvePredEmptySpec := (rfl)
@[simp] theorem occOf_svePredFullSpec : occOf .svePredFullSpec = occSvePredFullSpec := (rfl)
@[simp] theorem occOf_svePredPartialSpec : occOf .svePredPartialSpec = occSvePredPartialSpec := (rfl)
@[simp] theorem occOf_sveUnpredSpec : occOf .sveUnpredSpec = occSveUnpredSpec := (rfl)
@[simp] theorem occOf_svePredNotFullSpec : occOf .svePredNotFullSpec = occSvePredNotFullSpec := (rfl)
@[simp] theorem occOf_sveMovprfxSpec : occOf .sveMovprfxSpec = occSveMovprfxSpec := (rfl)
@[simp] theorem occOf_sveMovprfxZSpec : occOf .sveMovprfxZSpec = occSveMovprfxZSpec := (rfl)
@[simp] theorem occOf_sveMovprfxMSpec : occOf .sveMovprfxMSpec = occSveMovprfxMSpec := (rfl)
@[simp] theorem occOf_sveMovprfxUSpec : occOf .sveMovprfxUSpec = occSveMovprfxUSpec := (rfl)
@[simp] theorem occOf_sveLdstSpec : occOf .sveLdstSpec = occSveLdstSpec := (rfl)
@[simp] theorem occOf_sveLdSpec : occOf .sveLdSpec = occSveLdSpec := (rfl)
@[simp] theorem occOf_sveStSpec : occOf .sveStSpec = occSveStSpec := (rfl)
@[simp] theorem occOf_svePrfSpec : occOf .svePrfSpec = occSvePrfSpec := (rfl)
@[simp] theorem occOf_aseSveLdstSpec : occOf .aseSveLdstSpec = occAseSveLdstSpec := (rfl)
@[simp] theorem occOf_aseSveLdSpec : occOf .aseSveLdSpec = occAseSveLdSpec := (rfl)
@[simp] theorem occOf_aseSveStSpec : occOf .aseSveStSpec = occAseSveStSpec := (rfl)
@[simp] theorem occOf_prfSpec : occOf .prfSpec = occPrfSpec := (rfl)
@[simp] theorem occOf_baseLdstRegSpec : occOf .baseLdstRegSpec = occBaseLdstRegSpec := (rfl)
@[simp] theorem occOf_baseLdRegSpec : occOf .baseLdRegSpec = occBaseLdRegSpec := (rfl)
@[simp] theorem occOf_baseStRegSpec : occOf .baseStRegSpec = occBaseStRegSpec := (rfl)
@[simp] theorem occOf_basePrfSpec : occOf .basePrfSpec = occBasePrfSpec := (rfl)
@[simp] theorem occOf_fpaseLdstRegSpec : occOf .fpaseLdstRegSpec = occFpaseLdstRegSpec := (rfl)
@[simp] theorem occOf_fpaseLdRegSpec : occOf .fpaseLdRegSpec = occFpaseLdRegSpec := (rfl)
@[simp] theorem occOf_fpaseStRegSpec : occOf .fpaseStRegSpec = occFpaseStRegSpec := (rfl)
@[simp] theorem occOf_sveLdstRegSpec : occOf .sveLdstRegSpec = occSveLdstRegSpec := (rfl)
@[simp] theorem occOf_sveLdrRegSpec : occOf .sveLdrRegSpec = occSveLdrRegSpec := (rfl)
@[simp] theorem occOf_sveStrRegSpec : occOf .sveStrRegSpec = occSveStrRegSpec := (rfl)
@[simp] theorem occOf_sveLdstPregSpec : occOf .sveLdstPregSpec = occSveLdstPregSpec := (rfl)
@[simp] theorem occOf_sveLdrPregSpec : occOf .sveLdrPregSpec = occSveLdrPregSpec := (rfl)
@[simp] theorem occOf_sveStrPregSpec : occOf .sveStrPregSpec = occSveStrPregSpec := (rfl)
@[simp] theorem occOf_sveLdstZregSpec : occOf .sveLdstZregSpec = occSveLdstZregSpec := (rfl)
@[simp] theorem occOf_sveLdrZregSpec : occOf .sveLdrZregSpec = occSveLdrZregSpec := (rfl)
@[simp] theorem occOf_sveStrZregSpec : occOf .sveStrZregSpec = occSveStrZregSpec := (rfl)
@[simp] theorem occOf_sveLdstContigSpec : occOf .sveLdstContigSpec = occSveLdstContigSpec := (rfl)
@[simp] theorem occOf_sveLdContigSpec : occOf .sveLdContigSpec = occSveLdContigSpec := (rfl)
@[simp] theorem occOf_sveStContigSpec : occOf .sveStContigSpec = occSveStContigSpec := (rfl)
@[simp] theorem occOf_svePrfContigSpec : occOf .svePrfContigSpec = occSvePrfContigSpec := (rfl)
@[simp] theorem occOf_sveLdstntContigSpec : occOf .sveLdstntContigSpec = occSveLdstntContigSpec := (rfl)
@[simp] theorem occOf_sveLdntContigSpec : occOf .sveLdntContigSpec = occSveLdntContigSpec := (rfl)
@[simp] theorem occOf_sveStntContigSpec : occOf .sveStntContigSpec = occSveStntContigSpec := (rfl)
@[simp] theorem occOf_aseSveLdstMultiSpec : occOf .aseSveLdstMultiSpec = occAseSveLdstMultiSpec := (rfl)
@[simp] theorem occOf_aseSveLdMultiSpec : occOf .aseSveLdMultiSpec = occAseSveLdMultiSpec := (rfl)
@[simp] theorem occOf_aseSveStMultiSpec : occOf .aseSveStMultiSpec = occAseSveStMultiSpec := (rfl)
@[simp] theorem occOf_sveLdstMultiSpec : occOf .sveLdstMultiSpec = occSveLdstMultiSpec := (rfl)
@[simp] theorem occOf_sveLdMultiSpec : occOf .sveLdMultiSpec = occSveLdMultiSpec := (rfl)
@[simp] theorem occOf_sveStMultiSpec : occOf .sveStMultiSpec = occSveStMultiSpec := (rfl)
@[simp] theorem occOf_sveLdstNoncontigSpec : occOf .sveLdstNoncontigSpec = occSveLdstNoncontigSpec := (rfl)
@[simp] theorem occOf_sveLdGatherSpec : occOf .sveLdGatherSpec = occSveLdGatherSpec := (rfl)
@[simp] theorem occOf_sveStScatterSpec : occOf .sveStScatterSpec = occSveStScatterSpec := (rfl)
@[simp] theorem occOf_svePrfGatherSpec : occOf .svePrfGatherSpec = occSvePrfGatherSpec := (rfl)
@[simp] theorem occOf_sveLdst64NoncontigSpec : occOf .sveLdst64NoncontigSpec = occSveLdst64NoncontigSpec := (rfl)
@[simp] theorem occOf_sveLd64GatherSpec : occOf .sveLd64GatherSpec = occSveLd64GatherSpec := (rfl)
@[simp] theorem occOf_sveSt64ScatterSpec : occOf .sveSt64ScatterSpec = occSveSt64ScatterSpec := (rfl)
@[simp] theorem occOf_svePrf64GatherSpec : occOf .svePrf64GatherSpec = occSvePrf64GatherSpec := (rfl)
@[simp] theorem occOf_aseSveUnalignedLdstSpec : occOf .aseSveUnalignedLdstSpec = occAseSveUnalignedLdstSpec := (rfl)
@[simp] theorem occOf_aseSveUnalignedLdSpec : occOf .aseSveUnalignedLdSpec = occAseSveUnalignedLdSpec := (rfl)
@[simp] theorem occOf_aseSveUnalignedStSpec : occOf .aseSveUnalignedStSpec = occAseSveUnalignedStSpec := (rfl)
@[simp] theorem occOf_aseSveUnalignedContigLdstSpec : occOf .aseSveUnalignedContigLdstSpec = occAseSveUnalignedContigLdstSpec := (rfl)
@[simp] theorem occOf_aseSveUnalignedContigLdSpec : occOf .aseSveUnalignedContigLdSpec = occAseSveUnalignedContigLdSpec := (rfl)
@[simp] theorem occOf_aseSveUnalignedContigStSpec : occOf .aseSveUnalignedContigStSpec = occAseSveUnalignedContigStSpec := (rfl)
@[simp] theorem occOf_sveLdffSpec : occOf .sveLdffSpec = occSveLdffSpec := (rfl)
@[simp] theorem occOf_sveLdffFaultSpec : occOf .sveLdffFaultSpec = occSveLdffFaultSpec := (rfl)
@[simp] theorem occOf_fpScaleOpsSpec : occOf .fpScaleOpsSpec = occFpScaleOpsSpec := (rfl)
@[simp] theorem occOf_fpFixedOpsSpec : occOf .fpFixedOpsSpec = occFpFixedOpsSpec := (rfl)
@[simp] theorem occOf_fpHpScaleOpsSpec : occOf .fpHpScaleOpsSpec = occFpHpScaleOpsSpec := (rfl)
@[simp] theorem occOf_fpHpFixedOpsSpec : occOf .fpHpFixedOpsSpec = occFpHpFixedOpsSpec := (rfl)
@[simp] theorem occOf_fpSpScaleOpsSpec : occOf .fpSpScaleOpsSpec = occFpSpScaleOpsSpec := (rfl)
@[simp] theorem occOf_fpSpFixedOpsSpec : occOf .fpSpFixedOpsSpec = occFpSpFixedOpsSpec := (rfl)
@[simp] theorem occOf_fpDpScaleOpsSpec : occOf .fpDpScaleOpsSpec = occFpDpScaleOpsSpec := (rfl)
@[simp] theorem occOf_fpDpFixedOpsSpec : occOf .fpDpFixedOpsSpec = occFpDpFixedOpsSpec := (rfl)
@[simp] theorem occOf_intScaleOpsSpec : occOf .intScaleOpsSpec = occIntScaleOpsSpec := (rfl)
@[simp] theorem occOf_intFixedOpsSpec : occOf .intFixedOpsSpec = occIntFixedOpsSpec := (rfl)
@[simp] theorem occOf_ldstScaleOpsSpec : occOf .ldstScaleOpsSpec = occLdstScaleOpsSpec := (rfl)
@[simp] theorem occOf_ldstFixedOpsSpec : occOf .ldstFixedOpsSpec = occLdstFixedOpsSpec := (rfl)
@[simp] theorem occOf_ldScaleOpsSpec : occOf .ldScaleOpsSpec = occLdScaleOpsSpec := (rfl)
@[simp] theorem occOf_ldFixedOpsSpec : occOf .ldFixedOpsSpec = occLdFixedOpsSpec := (rfl)
@[simp] theorem occOf_stScaleOpsSpec : occOf .stScaleOpsSpec = occStScaleOpsSpec := (rfl)
@[simp] theorem occOf_stFixedOpsSpec : occOf .stFixedOpsSpec = occStFixedOpsSpec := (rfl)
@[simp] theorem occOf_fpScale2OpsSpec : occOf .fpScale2OpsSpec = occFpScale2OpsSpec := (rfl)
@[simp] theorem occOf_fpHpScale2OpsSpec : occOf .fpHpScale2OpsSpec = occFpHpScale2OpsSpec := (rfl)
@[simp] theorem occOf_fpBf16Scale2OpsSpec : occOf .fpBf16Scale2OpsSpec = occFpBf16Scale2OpsSpec := (rfl)
@[simp] theorem occOf_fpSpScale2OpsSpec : occOf .fpSpScale2OpsSpec = occFpSpScale2OpsSpec := (rfl)
@[simp] theorem occOf_fpDpScale2OpsSpec : occOf .fpDpScale2OpsSpec = occFpDpScale2OpsSpec := (rfl)
@[simp] theorem occOf_intScale2OpsSpec : occOf .intScale2OpsSpec = occIntScale2OpsSpec := (rfl)
@[simp] theorem occOf_ldstScaleBytesSpec : occOf .ldstScaleBytesSpec = occLdstScaleBytesSpec := (rfl)
@[simp] theorem occOf_ldstFixedBytesSpec : occOf .ldstFixedBytesSpec = occLdstFixedBytesSpec := (rfl)
@[simp] theorem occOf_ldScaleBytesSpec : occOf .ldScaleBytesSpec = occLdScaleBytesSpec := (rfl)
@[simp] theorem occOf_ldFixedBytesSpec : occOf .ldFixedBytesSpec = occLdFixedBytesSpec := (rfl)
@[simp] theorem occOf_stScaleBytesSpec : occOf .stScaleBytesSpec = occStScaleBytesSpec := (rfl)
@[simp] theorem occOf_stFixedBytesSpec : occOf .stFixedBytesSpec = occStFixedBytesSpec := (rfl)
@[simp] theorem occOf_aseInt8Spec : occOf .aseInt8Spec = occAseInt8Spec := (rfl)
@[simp] theorem occOf_sveInt8Spec : occOf .sveInt8Spec = occSveInt8Spec := (rfl)
@[simp] theorem occOf_aseSveInt8Spec : occOf .aseSveInt8Spec = occAseSveInt8Spec := (rfl)
@[simp] theorem occOf_aseInt16Spec : occOf .aseInt16Spec = occAseInt16Spec := (rfl)
@[simp] theorem occOf_sveInt16Spec : occOf .sveInt16Spec = occSveInt16Spec := (rfl)
@[simp] theorem occOf_aseSveInt16Spec : occOf .aseSveInt16Spec = occAseSveInt16Spec := (rfl)
@[simp] theorem occOf_fpBf16ScaleOpsSpec : occOf .fpBf16ScaleOpsSpec = occFpBf16ScaleOpsSpec := (rfl)
@[simp] theorem occOf_aseInt32Spec : occOf .aseInt32Spec = occAseInt32Spec := (rfl)
@[simp] theorem occOf_sveInt32Spec : occOf .sveInt32Spec = occSveInt32Spec := (rfl)
@[simp] theorem occOf_aseSveInt32Spec : occOf .aseSveInt32Spec = occAseSveInt32Spec := (rfl)
@[simp] theorem occOf_aseInt64Spec : occOf .aseInt64Spec = occAseInt64Spec := (rfl)
@[simp] theorem occOf_sveInt64Spec : occOf .sveInt64Spec = occSveInt64Spec := (rfl)
@[simp] theorem occOf_aseSveInt64Spec : occOf .aseSveInt64Spec = occAseSveInt64Spec := (rfl)
@[simp] theorem occOf_aseFpDotSpec : occOf .aseFpDotSpec = occAseFpDotSpec := (rfl)
@[simp] theorem occOf_sveFpDotSpec : occOf .sveFpDotSpec = occSveFpDotSpec := (rfl)
@[simp] theorem occOf_aseSveFpDotSpec : occOf .aseSveFpDotSpec = occAseSveFpDotSpec := (rfl)
@[simp] theorem occOf_aseFpMmlaSpec : occOf .aseFpMmlaSpec = occAseFpMmlaSpec := (rfl)
@[simp] theorem occOf_sveFpMmlaSpec : occOf .sveFpMmlaSpec = occSveFpMmlaSpec := (rfl)
@[simp] theorem occOf_aseSveFpMmlaSpec : occOf .aseSveFpMmlaSpec = occAseSveFpMmlaSpec := (rfl)
@[simp] theorem occOf_aseIntDotSpec : occOf .aseIntDotSpec = occAseIntDotSpec := (rfl)
@[simp] theorem occOf_sveIntDotSpec : occOf .sveIntDotSpec = occSveIntDotSpec := (rfl)
@[simp] theorem occOf_aseSveIntDotSpec : occOf .aseSveIntDotSpec = occAseSveIntDotSpec := (rfl)
@[simp] theorem occOf_aseIntMmlaSpec : occOf .aseIntMmlaSpec = occAseIntMmlaSpec := (rfl)
@[simp] theorem occOf_sveIntMmlaSpec : occOf .sveIntMmlaSpec = occSveIntMmlaSpec := (rfl)
@[simp] theorem occOf_aseSveIntMmlaSpec : occOf .aseSveIntMmlaSpec = occAseSveIntMmlaSpec := (rfl)
@[simp] theorem occOf_brImmedPredRetired : occOf .brImmedPredRetired = occBrImmedPredRetired := (rfl)
@[simp] theorem occOf_brImmedMisPredRetired : occOf .brImmedMisPredRetired = occBrImmedMisPredRetired := (rfl)
@[simp] theorem occOf_brIndPredRetired : occOf .brIndPredRetired = occBrIndPredRetired := (rfl)
@[simp] theorem occOf_brIndMisPredRetired : occOf .brIndMisPredRetired = occBrIndMisPredRetired := (rfl)
@[simp] theorem occOf_brReturnPredRetired : occOf .brReturnPredRetired = occBrReturnPredRetired := (rfl)
@[simp] theorem occOf_brReturnMisPredRetired : occOf .brReturnMisPredRetired = occBrReturnMisPredRetired := (rfl)
@[simp] theorem occOf_brIndnrPredRetired : occOf .brIndnrPredRetired = occBrIndnrPredRetired := (rfl)
@[simp] theorem occOf_brIndnrMisPredRetired : occOf .brIndnrMisPredRetired = occBrIndnrMisPredRetired := (rfl)
@[simp] theorem occOf_brTakenPredRetired : occOf .brTakenPredRetired = occBrTakenPredRetired := (rfl)
@[simp] theorem occOf_brTakenMisPredRetired : occOf .brTakenMisPredRetired = occBrTakenMisPredRetired := (rfl)
@[simp] theorem occOf_brSkipPredRetired : occOf .brSkipPredRetired = occBrSkipPredRetired := (rfl)
@[simp] theorem occOf_brSkipMisPredRetired : occOf .brSkipMisPredRetired = occBrSkipMisPredRetired := (rfl)
@[simp] theorem occOf_brPredRetired : occOf .brPredRetired = occBrPredRetired := (rfl)
@[simp] theorem occOf_instFetchPercyc : occOf .instFetchPercyc = occInstFetchPercyc := (rfl)
@[simp] theorem occOf_memAccessRdPercyc : occOf .memAccessRdPercyc = occMemAccessRdPercyc := (rfl)
@[simp] theorem occOf_sampleFeedDs : occOf .sampleFeedDs = occSampleFeedDs := (rfl)
@[simp] theorem occOf_sampleBufferFull : occOf .sampleBufferFull = occSampleBufferFull := (rfl)
@[simp] theorem occOf_instFetch : occOf .instFetch = occInstFetch := (rfl)
@[simp] theorem occOf_busReqRdPercyc : occOf .busReqRdPercyc = occBusReqRdPercyc := (rfl)
@[simp] theorem occOf_busReqWrPercyc : occOf .busReqWrPercyc = occBusReqWrPercyc := (rfl)
@[simp] theorem occOf_pmuSnapshot : occOf .pmuSnapshot = occPmuSnapshot := (rfl)
@[simp] theorem occOf_dtlbWalkPercyc : occOf .dtlbWalkPercyc = occDtlbWalkPercyc := (rfl)
@[simp] theorem occOf_itlbWalkPercyc : occOf .itlbWalkPercyc = occItlbWalkPercyc := (rfl)
@[simp] theorem occOf_sampleFeedBr : occOf .sampleFeedBr = occSampleFeedBr := (rfl)
@[simp] theorem occOf_sampleFeedLd : occOf .sampleFeedLd = occSampleFeedLd := (rfl)
@[simp] theorem occOf_sampleFeedSt : occOf .sampleFeedSt = occSampleFeedSt := (rfl)
@[simp] theorem occOf_sampleFeedOp : occOf .sampleFeedOp = occSampleFeedOp := (rfl)
@[simp] theorem occOf_sampleFeedEvent : occOf .sampleFeedEvent = occSampleFeedEvent := (rfl)
@[simp] theorem occOf_sampleFeedLat : occOf .sampleFeedLat = occSampleFeedLat := (rfl)
@[simp] theorem occOf_l1dTlbRw : occOf .l1dTlbRw = occL1dTlbRw := (rfl)
@[simp] theorem occOf_l1iTlbRd : occOf .l1iTlbRd = occL1iTlbRd := (rfl)
@[simp] theorem occOf_l1dTlbPrfm : occOf .l1dTlbPrfm = occL1dTlbPrfm := (rfl)
@[simp] theorem occOf_l1iTlbPrfm : occOf .l1iTlbPrfm = occL1iTlbPrfm := (rfl)
@[simp] theorem occOf_dtlbHwupd : occOf .dtlbHwupd = occDtlbHwupd := (rfl)
@[simp] theorem occOf_itlbHwupd : occOf .itlbHwupd = occItlbHwupd := (rfl)
@[simp] theorem occOf_dtlbStep : occOf .dtlbStep = occDtlbStep := (rfl)
@[simp] theorem occOf_itlbStep : occOf .itlbStep = occItlbStep := (rfl)
@[simp] theorem occOf_dtlbWalkLarge : occOf .dtlbWalkLarge = occDtlbWalkLarge := (rfl)
@[simp] theorem occOf_itlbWalkLarge : occOf .itlbWalkLarge = occItlbWalkLarge := (rfl)
@[simp] theorem occOf_dtlbWalkSmall : occOf .dtlbWalkSmall = occDtlbWalkSmall := (rfl)
@[simp] theorem occOf_itlbWalkSmall : occOf .itlbWalkSmall = occItlbWalkSmall := (rfl)
@[simp] theorem occOf_dtlbWalkRw : occOf .dtlbWalkRw = occDtlbWalkRw := (rfl)
@[simp] theorem occOf_itlbWalkRd : occOf .itlbWalkRd = occItlbWalkRd := (rfl)
@[simp] theorem occOf_dtlbWalkPrfm : occOf .dtlbWalkPrfm = occDtlbWalkPrfm := (rfl)
@[simp] theorem occOf_itlbWalkPrfm : occOf .itlbWalkPrfm = occItlbWalkPrfm := (rfl)
@[simp] theorem occOf_l1dCacheRw : occOf .l1dCacheRw = occL1dCacheRw := (rfl)
@[simp] theorem occOf_l1iCacheRd : occOf .l1iCacheRd = occL1iCacheRd := (rfl)
@[simp] theorem occOf_l1dCachePrfm : occOf .l1dCachePrfm = occL1dCachePrfm := (rfl)
@[simp] theorem occOf_l1iCachePrfm : occOf .l1iCachePrfm = occL1iCachePrfm := (rfl)
@[simp] theorem occOf_l1dCacheMiss : occOf .l1dCacheMiss = occL1dCacheMiss := (rfl)
@[simp] theorem occOf_l1iCacheHwprf : occOf .l1iCacheHwprf = occL1iCacheHwprf := (rfl)
@[simp] theorem occOf_l1dCacheRefillPrfm : occOf .l1dCacheRefillPrfm = occL1dCacheRefillPrfm := (rfl)
@[simp] theorem occOf_l1iCacheRefillPrfm : occOf .l1iCacheRefillPrfm = occL1iCacheRefillPrfm := (rfl)
@[simp] theorem occOf_l2dCacheRw : occOf .l2dCacheRw = occL2dCacheRw := (rfl)
@[simp] theorem occOf_l2iCacheRd : occOf .l2iCacheRd = occL2iCacheRd := (rfl)
@[simp] theorem occOf_l2dCachePrfm : occOf .l2dCachePrfm = occL2dCachePrfm := (rfl)
@[simp] theorem occOf_l2iCachePrfm : occOf .l2iCachePrfm = occL2iCachePrfm := (rfl)
@[simp] theorem occOf_l2dCacheMiss : occOf .l2dCacheMiss = occL2dCacheMiss := (rfl)
@[simp] theorem occOf_l2iCacheHwprf : occOf .l2iCacheHwprf = occL2iCacheHwprf := (rfl)
@[simp] theorem occOf_l2dCacheRefillPrfm : occOf .l2dCacheRefillPrfm = occL2dCacheRefillPrfm := (rfl)
@[simp] theorem occOf_l2iCacheRefillPrfm : occOf .l2iCacheRefillPrfm = occL2iCacheRefillPrfm := (rfl)
@[simp] theorem occOf_l3dCacheRw : occOf .l3dCacheRw = occL3dCacheRw := (rfl)
@[simp] theorem occOf_l3dCachePrfm : occOf .l3dCachePrfm = occL3dCachePrfm := (rfl)
@[simp] theorem occOf_l3dCacheMiss : occOf .l3dCacheMiss = occL3dCacheMiss := (rfl)
@[simp] theorem occOf_l3dCacheRefillPrfm : occOf .l3dCacheRefillPrfm = occL3dCacheRefillPrfm := (rfl)
@[simp] theorem occOf_l1dCacheHwprf : occOf .l1dCacheHwprf = occL1dCacheHwprf := (rfl)
@[simp] theorem occOf_l2dCacheHwprf : occOf .l2dCacheHwprf = occL2dCacheHwprf := (rfl)
@[simp] theorem occOf_l3dCacheHwprf : occOf .l3dCacheHwprf = occL3dCacheHwprf := (rfl)
@[simp] theorem occOf_llCacheHwprf : occOf .llCacheHwprf = occLlCacheHwprf := (rfl)
@[simp] theorem occOf_stallFrontendMembound : occOf .stallFrontendMembound = occStallFrontendMembound := (rfl)
@[simp] theorem occOf_stallFrontendL1i : occOf .stallFrontendL1i = occStallFrontendL1i := (rfl)
@[simp] theorem occOf_stallFrontendL2i : occOf .stallFrontendL2i = occStallFrontendL2i := (rfl)
@[simp] theorem occOf_stallFrontendMem : occOf .stallFrontendMem = occStallFrontendMem := (rfl)
@[simp] theorem occOf_stallFrontendTlb : occOf .stallFrontendTlb = occStallFrontendTlb := (rfl)
@[simp] theorem occOf_stallBackendBusySmcu : occOf .stallBackendBusySmcu = occStallBackendBusySmcu := (rfl)
@[simp] theorem occOf_stallBackendBusySmcuUnall : occOf .stallBackendBusySmcuUnall = occStallBackendBusySmcuUnall := (rfl)
@[simp] theorem occOf_stallFrontendCpubound : occOf .stallFrontendCpubound = occStallFrontendCpubound := (rfl)
@[simp] theorem occOf_stallFrontendFlow : occOf .stallFrontendFlow = occStallFrontendFlow := (rfl)
@[simp] theorem occOf_stallFrontendFlush : occOf .stallFrontendFlush = occStallFrontendFlush := (rfl)
@[simp] theorem occOf_stallFrontendRename : occOf .stallFrontendRename = occStallFrontendRename := (rfl)
@[simp] theorem occOf_stallBackendMembound : occOf .stallBackendMembound = occStallBackendMembound := (rfl)
@[simp] theorem occOf_stallBackendL1d : occOf .stallBackendL1d = occStallBackendL1d := (rfl)
@[simp] theorem occOf_stallBackendL2d : occOf .stallBackendL2d = occStallBackendL2d := (rfl)
@[simp] theorem occOf_stallBackendTlb : occOf .stallBackendTlb = occStallBackendTlb := (rfl)
@[simp] theorem occOf_stallBackendSt : occOf .stallBackendSt = occStallBackendSt := (rfl)
@[simp] theorem occOf_stallBackendCpubound : occOf .stallBackendCpubound = occStallBackendCpubound := (rfl)
@[simp] theorem occOf_stallBackendBusy : occOf .stallBackendBusy = occStallBackendBusy := (rfl)
@[simp] theorem occOf_stallBackendIlock : occOf .stallBackendIlock = occStallBackendIlock := (rfl)
@[simp] theorem occOf_stallBackendRename : occOf .stallBackendRename = occStallBackendRename := (rfl)
@[simp] theorem occOf_stallBackendAtomic : occOf .stallBackendAtomic = occStallBackendAtomic := (rfl)
@[simp] theorem occOf_stallBackendMemcpyset : occOf .stallBackendMemcpyset = occStallBackendMemcpyset := (rfl)
@[simp] theorem occOf_casNearFail : occOf .casNearFail = occCasNearFail := (rfl)
@[simp] theorem occOf_casNearPass : occOf .casNearPass = occCasNearPass := (rfl)
@[simp] theorem occOf_casNearSpec : occOf .casNearSpec = occCasNearSpec := (rfl)
@[simp] theorem occOf_casFarSpec : occOf .casFarSpec = occCasFarSpec := (rfl)
@[simp] theorem occOf_casSpec : occOf .casSpec = occCasSpec := (rfl)
@[simp] theorem occOf_lseLdSpec : occOf .lseLdSpec = occLseLdSpec := (rfl)
@[simp] theorem occOf_lseStSpec : occOf .lseStSpec = occLseStSpec := (rfl)
@[simp] theorem occOf_lseLdstSpec : occOf .lseLdstSpec = occLseLdstSpec := (rfl)
@[simp] theorem occOf_remoteAccessWr : occOf .remoteAccessWr = occRemoteAccessWr := (rfl)
@[simp] theorem occOf_brHintCondPredRetired : occOf .brHintCondPredRetired = occBrHintCondPredRetired := (rfl)
@[simp] theorem occOf_brHintCondMisPredRetired : occOf .brHintCondMisPredRetired = occBrHintCondMisPredRetired := (rfl)
@[simp] theorem occOf_uopRetired : occOf .uopRetired = occUopRetired := (rfl)
@[simp] theorem occOf_dtlbWalkBlock : occOf .dtlbWalkBlock = occDtlbWalkBlock := (rfl)
@[simp] theorem occOf_itlbWalkBlock : occOf .itlbWalkBlock = occItlbWalkBlock := (rfl)
@[simp] theorem occOf_dtlbWalkPage : occOf .dtlbWalkPage = occDtlbWalkPage := (rfl)
@[simp] theorem occOf_itlbWalkPage : occOf .itlbWalkPage = occItlbWalkPage := (rfl)
@[simp] theorem occOf_busReqRd : occOf .busReqRd = occBusReqRd := (rfl)
@[simp] theorem occOf_busReqWr : occOf .busReqWr = occBusReqWr := (rfl)
@[simp] theorem occOf_busReq : occOf .busReq = occBusReq := (rfl)
@[simp] theorem occOf_isnpHitRd : occOf .isnpHitRd = occIsnpHitRd := (rfl)
@[simp] theorem occOf_isnpHitNearRd : occOf .isnpHitNearRd = occIsnpHitNearRd := (rfl)
@[simp] theorem occOf_isnpHitFarRd : occOf .isnpHitFarRd = occIsnpHitFarRd := (rfl)
@[simp] theorem occOf_isnpHitRemoteRd : occOf .isnpHitRemoteRd = occIsnpHitRemoteRd := (rfl)
@[simp] theorem occOf_dsnpHitRd : occOf .dsnpHitRd = occDsnpHitRd := (rfl)
@[simp] theorem occOf_dsnpHitNearRd : occOf .dsnpHitNearRd = occDsnpHitNearRd := (rfl)
@[simp] theorem occOf_dsnpHitFarRd : occOf .dsnpHitFarRd = occDsnpHitFarRd := (rfl)
@[simp] theorem occOf_dsnpHitRemoteRd : occOf .dsnpHitRemoteRd = occDsnpHitRemoteRd := (rfl)
@[simp] theorem occOf_dsnpHitWr : occOf .dsnpHitWr = occDsnpHitWr := (rfl)
@[simp] theorem occOf_dsnpHitNearWr : occOf .dsnpHitNearWr = occDsnpHitNearWr := (rfl)
@[simp] theorem occOf_dsnpHitFarWr : occOf .dsnpHitFarWr = occDsnpHitFarWr := (rfl)
@[simp] theorem occOf_dsnpHitRemoteWr : occOf .dsnpHitRemoteWr = occDsnpHitRemoteWr := (rfl)
@[simp] theorem occOf_dsnpHitRw : occOf .dsnpHitRw = occDsnpHitRw := (rfl)
@[simp] theorem occOf_dsnpHitNearRw : occOf .dsnpHitNearRw = occDsnpHitNearRw := (rfl)
@[simp] theorem occOf_dsnpHitFarRw : occOf .dsnpHitFarRw = occDsnpHitFarRw := (rfl)
@[simp] theorem occOf_dsnpHitRemoteRw : occOf .dsnpHitRemoteRw = occDsnpHitRemoteRw := (rfl)
@[simp] theorem occOf_dsnpHitPrfm : occOf .dsnpHitPrfm = occDsnpHitPrfm := (rfl)
@[simp] theorem occOf_dsnpHitNearPrfm : occOf .dsnpHitNearPrfm = occDsnpHitNearPrfm := (rfl)
@[simp] theorem occOf_dsnpHitFarPrfm : occOf .dsnpHitFarPrfm = occDsnpHitFarPrfm := (rfl)
@[simp] theorem occOf_dsnpHitRemotePrfm : occOf .dsnpHitRemotePrfm = occDsnpHitRemotePrfm := (rfl)
@[simp] theorem occOf_dsnpHitHwprf : occOf .dsnpHitHwprf = occDsnpHitHwprf := (rfl)
@[simp] theorem occOf_dsnpHitNearHwprf : occOf .dsnpHitNearHwprf = occDsnpHitNearHwprf := (rfl)
@[simp] theorem occOf_dsnpHitFarHwprf : occOf .dsnpHitFarHwprf = occDsnpHitFarHwprf := (rfl)
@[simp] theorem occOf_dsnpHitRemoteHwprf : occOf .dsnpHitRemoteHwprf = occDsnpHitRemoteHwprf := (rfl)
@[simp] theorem occOf_isnpHitPrfm : occOf .isnpHitPrfm = occIsnpHitPrfm := (rfl)
@[simp] theorem occOf_isnpHitNearPrfm : occOf .isnpHitNearPrfm = occIsnpHitNearPrfm := (rfl)
@[simp] theorem occOf_isnpHitFarPrfm : occOf .isnpHitFarPrfm = occIsnpHitFarPrfm := (rfl)
@[simp] theorem occOf_isnpHitRemotePrfm : occOf .isnpHitRemotePrfm = occIsnpHitRemotePrfm := (rfl)
@[simp] theorem occOf_isnpHitHwprf : occOf .isnpHitHwprf = occIsnpHitHwprf := (rfl)
@[simp] theorem occOf_isnpHitNearHwprf : occOf .isnpHitNearHwprf = occIsnpHitNearHwprf := (rfl)
@[simp] theorem occOf_isnpHitFarHwprf : occOf .isnpHitFarHwprf = occIsnpHitFarHwprf := (rfl)
@[simp] theorem occOf_isnpHitRemoteHwprf : occOf .isnpHitRemoteHwprf = occIsnpHitRemoteHwprf := (rfl)
@[simp] theorem occOf_isnpHit : occOf .isnpHit = occIsnpHit := (rfl)
@[simp] theorem occOf_isnpHitNear : occOf .isnpHitNear = occIsnpHitNear := (rfl)
@[simp] theorem occOf_isnpHitFar : occOf .isnpHitFar = occIsnpHitFar := (rfl)
@[simp] theorem occOf_isnpHitRemote : occOf .isnpHitRemote = occIsnpHitRemote := (rfl)
@[simp] theorem occOf_dsnpHit : occOf .dsnpHit = occDsnpHit := (rfl)
@[simp] theorem occOf_dsnpHitNear : occOf .dsnpHitNear = occDsnpHitNear := (rfl)
@[simp] theorem occOf_dsnpHitFar : occOf .dsnpHitFar = occDsnpHitFar := (rfl)
@[simp] theorem occOf_dsnpHitRemote : occOf .dsnpHitRemote = occDsnpHitRemote := (rfl)
@[simp] theorem occOf_l1iCacheRefillHwprf : occOf .l1iCacheRefillHwprf = occL1iCacheRefillHwprf := (rfl)
@[simp] theorem occOf_l2iCacheRefillHwprf : occOf .l2iCacheRefillHwprf = occL2iCacheRefillHwprf := (rfl)
@[simp] theorem occOf_l1dCacheRefillHwprf : occOf .l1dCacheRefillHwprf = occL1dCacheRefillHwprf := (rfl)
@[simp] theorem occOf_l2dCacheRefillHwprf : occOf .l2dCacheRefillHwprf = occL2dCacheRefillHwprf := (rfl)
@[simp] theorem occOf_l3dCacheRefillHwprf : occOf .l3dCacheRefillHwprf = occL3dCacheRefillHwprf := (rfl)
@[simp] theorem occOf_llCacheRefillHwprf : occOf .llCacheRefillHwprf = occLlCacheRefillHwprf := (rfl)
@[simp] theorem occOf_l1iCacheHitRd : occOf .l1iCacheHitRd = occL1iCacheHitRd := (rfl)
@[simp] theorem occOf_l2iCacheHitRd : occOf .l2iCacheHitRd = occL2iCacheHitRd := (rfl)
@[simp] theorem occOf_l1dCacheHitRd : occOf .l1dCacheHitRd = occL1dCacheHitRd := (rfl)
@[simp] theorem occOf_l2dCacheHitRd : occOf .l2dCacheHitRd = occL2dCacheHitRd := (rfl)
@[simp] theorem occOf_l3dCacheHitRd : occOf .l3dCacheHitRd = occL3dCacheHitRd := (rfl)
@[simp] theorem occOf_llCacheHitRd : occOf .llCacheHitRd = occLlCacheHitRd := (rfl)
@[simp] theorem occOf_l1dCacheHitWr : occOf .l1dCacheHitWr = occL1dCacheHitWr := (rfl)
@[simp] theorem occOf_l2dCacheHitWr : occOf .l2dCacheHitWr = occL2dCacheHitWr := (rfl)
@[simp] theorem occOf_l3dCacheHitWr : occOf .l3dCacheHitWr = occL3dCacheHitWr := (rfl)
@[simp] theorem occOf_llCacheHitWr : occOf .llCacheHitWr = occLlCacheHitWr := (rfl)
@[simp] theorem occOf_l1dCacheHitRw : occOf .l1dCacheHitRw = occL1dCacheHitRw := (rfl)
@[simp] theorem occOf_l2dCacheHitRw : occOf .l2dCacheHitRw = occL2dCacheHitRw := (rfl)
@[simp] theorem occOf_l3dCacheHitRw : occOf .l3dCacheHitRw = occL3dCacheHitRw := (rfl)
@[simp] theorem occOf_llCacheHitRw : occOf .llCacheHitRw = occLlCacheHitRw := (rfl)
@[simp] theorem occOf_l1iCacheHitRdFprfm : occOf .l1iCacheHitRdFprfm = occL1iCacheHitRdFprfm := (rfl)
@[simp] theorem occOf_l2iCacheHitRdFprfm : occOf .l2iCacheHitRdFprfm = occL2iCacheHitRdFprfm := (rfl)
@[simp] theorem occOf_l1dCacheHitRdFprfm : occOf .l1dCacheHitRdFprfm = occL1dCacheHitRdFprfm := (rfl)
@[simp] theorem occOf_l2dCacheHitRdFprfm : occOf .l2dCacheHitRdFprfm = occL2dCacheHitRdFprfm := (rfl)
@[simp] theorem occOf_l3dCacheHitRdFprfm : occOf .l3dCacheHitRdFprfm = occL3dCacheHitRdFprfm := (rfl)
@[simp] theorem occOf_llCacheHitRdFprfm : occOf .llCacheHitRdFprfm = occLlCacheHitRdFprfm := (rfl)
@[simp] theorem occOf_l1dCacheHitWrFprfm : occOf .l1dCacheHitWrFprfm = occL1dCacheHitWrFprfm := (rfl)
@[simp] theorem occOf_l2dCacheHitWrFprfm : occOf .l2dCacheHitWrFprfm = occL2dCacheHitWrFprfm := (rfl)
@[simp] theorem occOf_l3dCacheHitWrFprfm : occOf .l3dCacheHitWrFprfm = occL3dCacheHitWrFprfm := (rfl)
@[simp] theorem occOf_llCacheHitWrFprfm : occOf .llCacheHitWrFprfm = occLlCacheHitWrFprfm := (rfl)
@[simp] theorem occOf_l1dCacheHitRwFprfm : occOf .l1dCacheHitRwFprfm = occL1dCacheHitRwFprfm := (rfl)
@[simp] theorem occOf_l2dCacheHitRwFprfm : occOf .l2dCacheHitRwFprfm = occL2dCacheHitRwFprfm := (rfl)
@[simp] theorem occOf_l3dCacheHitRwFprfm : occOf .l3dCacheHitRwFprfm = occL3dCacheHitRwFprfm := (rfl)
@[simp] theorem occOf_llCacheHitRwFprfm : occOf .llCacheHitRwFprfm = occLlCacheHitRwFprfm := (rfl)
@[simp] theorem occOf_l1iCacheHitRdFhwprf : occOf .l1iCacheHitRdFhwprf = occL1iCacheHitRdFhwprf := (rfl)
@[simp] theorem occOf_l2iCacheHitRdFhwprf : occOf .l2iCacheHitRdFhwprf = occL2iCacheHitRdFhwprf := (rfl)
@[simp] theorem occOf_l1dCacheHitRdFhwprf : occOf .l1dCacheHitRdFhwprf = occL1dCacheHitRdFhwprf := (rfl)
@[simp] theorem occOf_l2dCacheHitRdFhwprf : occOf .l2dCacheHitRdFhwprf = occL2dCacheHitRdFhwprf := (rfl)
@[simp] theorem occOf_l3dCacheHitRdFhwprf : occOf .l3dCacheHitRdFhwprf = occL3dCacheHitRdFhwprf := (rfl)
@[simp] theorem occOf_llCacheHitRdFhwprf : occOf .llCacheHitRdFhwprf = occLlCacheHitRdFhwprf := (rfl)
@[simp] theorem occOf_l1dCacheHitWrFhwprf : occOf .l1dCacheHitWrFhwprf = occL1dCacheHitWrFhwprf := (rfl)
@[simp] theorem occOf_l2dCacheHitWrFhwprf : occOf .l2dCacheHitWrFhwprf = occL2dCacheHitWrFhwprf := (rfl)
@[simp] theorem occOf_l3dCacheHitWrFhwprf : occOf .l3dCacheHitWrFhwprf = occL3dCacheHitWrFhwprf := (rfl)
@[simp] theorem occOf_llCacheHitWrFhwprf : occOf .llCacheHitWrFhwprf = occLlCacheHitWrFhwprf := (rfl)
@[simp] theorem occOf_l1dCacheHitRwFhwprf : occOf .l1dCacheHitRwFhwprf = occL1dCacheHitRwFhwprf := (rfl)
@[simp] theorem occOf_l2dCacheHitRwFhwprf : occOf .l2dCacheHitRwFhwprf = occL2dCacheHitRwFhwprf := (rfl)
@[simp] theorem occOf_l3dCacheHitRwFhwprf : occOf .l3dCacheHitRwFhwprf = occL3dCacheHitRwFhwprf := (rfl)
@[simp] theorem occOf_llCacheHitRwFhwprf : occOf .llCacheHitRwFhwprf = occLlCacheHitRwFhwprf := (rfl)
@[simp] theorem occOf_l1iCacheHitRdFprf : occOf .l1iCacheHitRdFprf = occL1iCacheHitRdFprf := (rfl)
@[simp] theorem occOf_l2iCacheHitRdFprf : occOf .l2iCacheHitRdFprf = occL2iCacheHitRdFprf := (rfl)
@[simp] theorem occOf_l1dCacheHitRdFprf : occOf .l1dCacheHitRdFprf = occL1dCacheHitRdFprf := (rfl)
@[simp] theorem occOf_l2dCacheHitRdFprf : occOf .l2dCacheHitRdFprf = occL2dCacheHitRdFprf := (rfl)
@[simp] theorem occOf_l3dCacheHitRdFprf : occOf .l3dCacheHitRdFprf = occL3dCacheHitRdFprf := (rfl)
@[simp] theorem occOf_llCacheHitRdFprf : occOf .llCacheHitRdFprf = occLlCacheHitRdFprf := (rfl)
@[simp] theorem occOf_l1dCacheHitWrFprf : occOf .l1dCacheHitWrFprf = occL1dCacheHitWrFprf := (rfl)
@[simp] theorem occOf_l2dCacheHitWrFprf : occOf .l2dCacheHitWrFprf = occL2dCacheHitWrFprf := (rfl)
@[simp] theorem occOf_l3dCacheHitWrFprf : occOf .l3dCacheHitWrFprf = occL3dCacheHitWrFprf := (rfl)
@[simp] theorem occOf_llCacheHitWrFprf : occOf .llCacheHitWrFprf = occLlCacheHitWrFprf := (rfl)
@[simp] theorem occOf_l1dCacheHitRwFprf : occOf .l1dCacheHitRwFprf = occL1dCacheHitRwFprf := (rfl)
@[simp] theorem occOf_l2dCacheHitRwFprf : occOf .l2dCacheHitRwFprf = occL2dCacheHitRwFprf := (rfl)
@[simp] theorem occOf_l3dCacheHitRwFprf : occOf .l3dCacheHitRwFprf = occL3dCacheHitRwFprf := (rfl)
@[simp] theorem occOf_llCacheHitRwFprf : occOf .llCacheHitRwFprf = occLlCacheHitRwFprf := (rfl)
@[simp] theorem occOf_l1iCacheHit : occOf .l1iCacheHit = occL1iCacheHit := (rfl)
@[simp] theorem occOf_l2iCacheHit : occOf .l2iCacheHit = occL2iCacheHit := (rfl)
@[simp] theorem occOf_l1dCacheHit : occOf .l1dCacheHit = occL1dCacheHit := (rfl)
@[simp] theorem occOf_l2dCacheHit : occOf .l2dCacheHit = occL2dCacheHit := (rfl)
@[simp] theorem occOf_l3dCacheHit : occOf .l3dCacheHit = occL3dCacheHit := (rfl)
@[simp] theorem occOf_llCacheHit : occOf .llCacheHit = occLlCacheHit := (rfl)
@[simp] theorem occOf_l1iCacheHitPrfm : occOf .l1iCacheHitPrfm = occL1iCacheHitPrfm := (rfl)
@[simp] theorem occOf_l2iCacheHitPrfm : occOf .l2iCacheHitPrfm = occL2iCacheHitPrfm := (rfl)
@[simp] theorem occOf_l1dCacheHitPrfm : occOf .l1dCacheHitPrfm = occL1dCacheHitPrfm := (rfl)
@[simp] theorem occOf_l2dCacheHitPrfm : occOf .l2dCacheHitPrfm = occL2dCacheHitPrfm := (rfl)
@[simp] theorem occOf_l3dCacheHitPrfm : occOf .l3dCacheHitPrfm = occL3dCacheHitPrfm := (rfl)
@[simp] theorem occOf_llCacheHitPrfm : occOf .llCacheHitPrfm = occLlCacheHitPrfm := (rfl)
@[simp] theorem occOf_l1dCacheHitmRd : occOf .l1dCacheHitmRd = occL1dCacheHitmRd := (rfl)
@[simp] theorem occOf_l2dCacheHitmRd : occOf .l2dCacheHitmRd = occL2dCacheHitmRd := (rfl)
@[simp] theorem occOf_l3dCacheHitmRd : occOf .l3dCacheHitmRd = occL3dCacheHitmRd := (rfl)
@[simp] theorem occOf_llCacheHitmRd : occOf .llCacheHitmRd = occLlCacheHitmRd := (rfl)
@[simp] theorem occOf_l1dCacheHitmWr : occOf .l1dCacheHitmWr = occL1dCacheHitmWr := (rfl)
@[simp] theorem occOf_l2dCacheHitmWr : occOf .l2dCacheHitmWr = occL2dCacheHitmWr := (rfl)
@[simp] theorem occOf_l3dCacheHitmWr : occOf .l3dCacheHitmWr = occL3dCacheHitmWr := (rfl)
@[simp] theorem occOf_llCacheHitmWr : occOf .llCacheHitmWr = occLlCacheHitmWr := (rfl)
@[simp] theorem occOf_l1dCacheHitmRw : occOf .l1dCacheHitmRw = occL1dCacheHitmRw := (rfl)
@[simp] theorem occOf_l2dCacheHitmRw : occOf .l2dCacheHitmRw = occL2dCacheHitmRw := (rfl)
@[simp] theorem occOf_l3dCacheHitmRw : occOf .l3dCacheHitmRw = occL3dCacheHitmRw := (rfl)
@[simp] theorem occOf_llCacheHitmRw : occOf .llCacheHitmRw = occLlCacheHitmRw := (rfl)
@[simp] theorem occOf_dsnpHitmRd : occOf .dsnpHitmRd = occDsnpHitmRd := (rfl)
@[simp] theorem occOf_dsnpHitmNearRd : occOf .dsnpHitmNearRd = occDsnpHitmNearRd := (rfl)
@[simp] theorem occOf_dsnpHitmFarRd : occOf .dsnpHitmFarRd = occDsnpHitmFarRd := (rfl)
@[simp] theorem occOf_dsnpHitmRemoteRd : occOf .dsnpHitmRemoteRd = occDsnpHitmRemoteRd := (rfl)
@[simp] theorem occOf_dsnpHitmWr : occOf .dsnpHitmWr = occDsnpHitmWr := (rfl)
@[simp] theorem occOf_dsnpHitmNearWr : occOf .dsnpHitmNearWr = occDsnpHitmNearWr := (rfl)
@[simp] theorem occOf_dsnpHitmFarWr : occOf .dsnpHitmFarWr = occDsnpHitmFarWr := (rfl)
@[simp] theorem occOf_dsnpHitmRemoteWr : occOf .dsnpHitmRemoteWr = occDsnpHitmRemoteWr := (rfl)
@[simp] theorem occOf_dsnpHitmRw : occOf .dsnpHitmRw = occDsnpHitmRw := (rfl)
@[simp] theorem occOf_dsnpHitmNearRw : occOf .dsnpHitmNearRw = occDsnpHitmNearRw := (rfl)
@[simp] theorem occOf_dsnpHitmFarRw : occOf .dsnpHitmFarRw = occDsnpHitmFarRw := (rfl)
@[simp] theorem occOf_dsnpHitmRemoteRw : occOf .dsnpHitmRemoteRw = occDsnpHitmRemoteRw := (rfl)
@[simp] theorem occOf_localMem : occOf .localMem = occLocalMem := (rfl)
@[simp] theorem occOf_localMemRd : occOf .localMemRd = occLocalMemRd := (rfl)
@[simp] theorem occOf_localMemWr : occOf .localMemWr = occLocalMemWr := (rfl)
@[simp] theorem occOf_localMemRw : occOf .localMemRw = occLocalMemRw := (rfl)
@[simp] theorem occOf_localMemPrfm : occOf .localMemPrfm = occLocalMemPrfm := (rfl)
@[simp] theorem occOf_localMemLdRetired : occOf .localMemLdRetired = occLocalMemLdRetired := (rfl)
@[simp] theorem occOf_localMemStRetired : occOf .localMemStRetired = occLocalMemStRetired := (rfl)
@[simp] theorem occOf_localMemLdstRetired : occOf .localMemLdstRetired = occLocalMemLdstRetired := (rfl)
@[simp] theorem occOf_remoteMem : occOf .remoteMem = occRemoteMem := (rfl)
@[simp] theorem occOf_remoteMemRd : occOf .remoteMemRd = occRemoteMemRd := (rfl)
@[simp] theorem occOf_remoteMemWr : occOf .remoteMemWr = occRemoteMemWr := (rfl)
@[simp] theorem occOf_remoteMemRw : occOf .remoteMemRw = occRemoteMemRw := (rfl)
@[simp] theorem occOf_remoteMemPrfm : occOf .remoteMemPrfm = occRemoteMemPrfm := (rfl)
@[simp] theorem occOf_remoteMemLdRetired : occOf .remoteMemLdRetired = occRemoteMemLdRetired := (rfl)
@[simp] theorem occOf_remoteMemStRetired : occOf .remoteMemStRetired = occRemoteMemStRetired := (rfl)
@[simp] theorem occOf_remoteMemLdstRetired : occOf .remoteMemLdstRetired = occRemoteMemLdstRetired := (rfl)
@[simp] theorem occOf_l1iLfbHitRd : occOf .l1iLfbHitRd = occL1iLfbHitRd := (rfl)
@[simp] theorem occOf_l2iLfbHitRd : occOf .l2iLfbHitRd = occL2iLfbHitRd := (rfl)
@[simp] theorem occOf_l1dLfbHitRd : occOf .l1dLfbHitRd = occL1dLfbHitRd := (rfl)
@[simp] theorem occOf_l2dLfbHitRd : occOf .l2dLfbHitRd = occL2dLfbHitRd := (rfl)
@[simp] theorem occOf_l3dLfbHitRd : occOf .l3dLfbHitRd = occL3dLfbHitRd := (rfl)
@[simp] theorem occOf_llLfbHitRd : occOf .llLfbHitRd = occLlLfbHitRd := (rfl)
@[simp] theorem occOf_l1dLfbHitWr : occOf .l1dLfbHitWr = occL1dLfbHitWr := (rfl)
@[simp] theorem occOf_l2dLfbHitWr : occOf .l2dLfbHitWr = occL2dLfbHitWr := (rfl)
@[simp] theorem occOf_l3dLfbHitWr : occOf .l3dLfbHitWr = occL3dLfbHitWr := (rfl)
@[simp] theorem occOf_llLfbHitWr : occOf .llLfbHitWr = occLlLfbHitWr := (rfl)
@[simp] theorem occOf_l1dLfbHitRw : occOf .l1dLfbHitRw = occL1dLfbHitRw := (rfl)
@[simp] theorem occOf_l2dLfbHitRw : occOf .l2dLfbHitRw = occL2dLfbHitRw := (rfl)
@[simp] theorem occOf_l3dLfbHitRw : occOf .l3dLfbHitRw = occL3dLfbHitRw := (rfl)
@[simp] theorem occOf_llLfbHitRw : occOf .llLfbHitRw = occLlLfbHitRw := (rfl)
@[simp] theorem occOf_l1iLfbHitRdFprfm : occOf .l1iLfbHitRdFprfm = occL1iLfbHitRdFprfm := (rfl)
@[simp] theorem occOf_l2iLfbHitRdFprfm : occOf .l2iLfbHitRdFprfm = occL2iLfbHitRdFprfm := (rfl)
@[simp] theorem occOf_l1dLfbHitRdFprfm : occOf .l1dLfbHitRdFprfm = occL1dLfbHitRdFprfm := (rfl)
@[simp] theorem occOf_l2dLfbHitRdFprfm : occOf .l2dLfbHitRdFprfm = occL2dLfbHitRdFprfm := (rfl)
@[simp] theorem occOf_l3dLfbHitRdFprfm : occOf .l3dLfbHitRdFprfm = occL3dLfbHitRdFprfm := (rfl)
@[simp] theorem occOf_llLfbHitRdFprfm : occOf .llLfbHitRdFprfm = occLlLfbHitRdFprfm := (rfl)
@[simp] theorem occOf_l1dLfbHitWrFprfm : occOf .l1dLfbHitWrFprfm = occL1dLfbHitWrFprfm := (rfl)
@[simp] theorem occOf_l2dLfbHitWrFprfm : occOf .l2dLfbHitWrFprfm = occL2dLfbHitWrFprfm := (rfl)
@[simp] theorem occOf_l3dLfbHitWrFprfm : occOf .l3dLfbHitWrFprfm = occL3dLfbHitWrFprfm := (rfl)
@[simp] theorem occOf_llLfbHitWrFprfm : occOf .llLfbHitWrFprfm = occLlLfbHitWrFprfm := (rfl)
@[simp] theorem occOf_l1dLfbHitRwFprfm : occOf .l1dLfbHitRwFprfm = occL1dLfbHitRwFprfm := (rfl)
@[simp] theorem occOf_l2dLfbHitRwFprfm : occOf .l2dLfbHitRwFprfm = occL2dLfbHitRwFprfm := (rfl)
@[simp] theorem occOf_l3dLfbHitRwFprfm : occOf .l3dLfbHitRwFprfm = occL3dLfbHitRwFprfm := (rfl)
@[simp] theorem occOf_llLfbHitRwFprfm : occOf .llLfbHitRwFprfm = occLlLfbHitRwFprfm := (rfl)
@[simp] theorem occOf_l1iLfbHitRdFhwprf : occOf .l1iLfbHitRdFhwprf = occL1iLfbHitRdFhwprf := (rfl)
@[simp] theorem occOf_l2iLfbHitRdFhwprf : occOf .l2iLfbHitRdFhwprf = occL2iLfbHitRdFhwprf := (rfl)
@[simp] theorem occOf_l1dLfbHitRdFhwprf : occOf .l1dLfbHitRdFhwprf = occL1dLfbHitRdFhwprf := (rfl)
@[simp] theorem occOf_l2dLfbHitRdFhwprf : occOf .l2dLfbHitRdFhwprf = occL2dLfbHitRdFhwprf := (rfl)
@[simp] theorem occOf_l3dLfbHitRdFhwprf : occOf .l3dLfbHitRdFhwprf = occL3dLfbHitRdFhwprf := (rfl)
@[simp] theorem occOf_llLfbHitRdFhwprf : occOf .llLfbHitRdFhwprf = occLlLfbHitRdFhwprf := (rfl)
@[simp] theorem occOf_l1dLfbHitWrFhwprf : occOf .l1dLfbHitWrFhwprf = occL1dLfbHitWrFhwprf := (rfl)
@[simp] theorem occOf_l2dLfbHitWrFhwprf : occOf .l2dLfbHitWrFhwprf = occL2dLfbHitWrFhwprf := (rfl)
@[simp] theorem occOf_l3dLfbHitWrFhwprf : occOf .l3dLfbHitWrFhwprf = occL3dLfbHitWrFhwprf := (rfl)
@[simp] theorem occOf_llLfbHitWrFhwprf : occOf .llLfbHitWrFhwprf = occLlLfbHitWrFhwprf := (rfl)
@[simp] theorem occOf_l1dLfbHitRwFhwprf : occOf .l1dLfbHitRwFhwprf = occL1dLfbHitRwFhwprf := (rfl)
@[simp] theorem occOf_l2dLfbHitRwFhwprf : occOf .l2dLfbHitRwFhwprf = occL2dLfbHitRwFhwprf := (rfl)
@[simp] theorem occOf_l3dLfbHitRwFhwprf : occOf .l3dLfbHitRwFhwprf = occL3dLfbHitRwFhwprf := (rfl)
@[simp] theorem occOf_llLfbHitRwFhwprf : occOf .llLfbHitRwFhwprf = occLlLfbHitRwFhwprf := (rfl)
@[simp] theorem occOf_l1iLfbHitRdFprf : occOf .l1iLfbHitRdFprf = occL1iLfbHitRdFprf := (rfl)
@[simp] theorem occOf_l2iLfbHitRdFprf : occOf .l2iLfbHitRdFprf = occL2iLfbHitRdFprf := (rfl)
@[simp] theorem occOf_l1dLfbHitRdFprf : occOf .l1dLfbHitRdFprf = occL1dLfbHitRdFprf := (rfl)
@[simp] theorem occOf_l2dLfbHitRdFprf : occOf .l2dLfbHitRdFprf = occL2dLfbHitRdFprf := (rfl)
@[simp] theorem occOf_l3dLfbHitRdFprf : occOf .l3dLfbHitRdFprf = occL3dLfbHitRdFprf := (rfl)
@[simp] theorem occOf_llLfbHitRdFprf : occOf .llLfbHitRdFprf = occLlLfbHitRdFprf := (rfl)
@[simp] theorem occOf_l1dLfbHitWrFprf : occOf .l1dLfbHitWrFprf = occL1dLfbHitWrFprf := (rfl)
@[simp] theorem occOf_l2dLfbHitWrFprf : occOf .l2dLfbHitWrFprf = occL2dLfbHitWrFprf := (rfl)
@[simp] theorem occOf_l3dLfbHitWrFprf : occOf .l3dLfbHitWrFprf = occL3dLfbHitWrFprf := (rfl)
@[simp] theorem occOf_llLfbHitWrFprf : occOf .llLfbHitWrFprf = occLlLfbHitWrFprf := (rfl)
@[simp] theorem occOf_l1dLfbHitRwFprf : occOf .l1dLfbHitRwFprf = occL1dLfbHitRwFprf := (rfl)
@[simp] theorem occOf_l2dLfbHitRwFprf : occOf .l2dLfbHitRwFprf = occL2dLfbHitRwFprf := (rfl)
@[simp] theorem occOf_l3dLfbHitRwFprf : occOf .l3dLfbHitRwFprf = occL3dLfbHitRwFprf := (rfl)
@[simp] theorem occOf_llLfbHitRwFprf : occOf .llLfbHitRwFprf = occLlLfbHitRwFprf := (rfl)
@[simp] theorem occOf_l1iCachePrf : occOf .l1iCachePrf = occL1iCachePrf := (rfl)
@[simp] theorem occOf_l2iCachePrf : occOf .l2iCachePrf = occL2iCachePrf := (rfl)
@[simp] theorem occOf_l1dCachePrf : occOf .l1dCachePrf = occL1dCachePrf := (rfl)
@[simp] theorem occOf_l2dCachePrf : occOf .l2dCachePrf = occL2dCachePrf := (rfl)
@[simp] theorem occOf_l3dCachePrf : occOf .l3dCachePrf = occL3dCachePrf := (rfl)
@[simp] theorem occOf_llCachePrf : occOf .llCachePrf = occLlCachePrf := (rfl)
@[simp] theorem occOf_l1iCacheRefillPrf : occOf .l1iCacheRefillPrf = occL1iCacheRefillPrf := (rfl)
@[simp] theorem occOf_l2iCacheRefillPrf : occOf .l2iCacheRefillPrf = occL2iCacheRefillPrf := (rfl)
@[simp] theorem occOf_l1dCacheRefillPrf : occOf .l1dCacheRefillPrf = occL1dCacheRefillPrf := (rfl)
@[simp] theorem occOf_l2dCacheRefillPrf : occOf .l2dCacheRefillPrf = occL2dCacheRefillPrf := (rfl)
@[simp] theorem occOf_l3dCacheRefillPrf : occOf .l3dCacheRefillPrf = occL3dCacheRefillPrf := (rfl)
@[simp] theorem occOf_llCacheRefillPrf : occOf .llCacheRefillPrf = occLlCacheRefillPrf := (rfl)
@[simp] theorem occOf_isnpHitPrf : occOf .isnpHitPrf = occIsnpHitPrf := (rfl)
@[simp] theorem occOf_isnpHitNearPrf : occOf .isnpHitNearPrf = occIsnpHitNearPrf := (rfl)
@[simp] theorem occOf_isnpHitFarPrf : occOf .isnpHitFarPrf = occIsnpHitFarPrf := (rfl)
@[simp] theorem occOf_isnpHitRemotePrf : occOf .isnpHitRemotePrf = occIsnpHitRemotePrf := (rfl)
@[simp] theorem occOf_dsnpHitPrf : occOf .dsnpHitPrf = occDsnpHitPrf := (rfl)
@[simp] theorem occOf_dsnpHitNearPrf : occOf .dsnpHitNearPrf = occDsnpHitNearPrf := (rfl)
@[simp] theorem occOf_dsnpHitFarPrf : occOf .dsnpHitFarPrf = occDsnpHitFarPrf := (rfl)
@[simp] theorem occOf_dsnpHitRemotePrf : occOf .dsnpHitRemotePrf = occDsnpHitRemotePrf := (rfl)
@[simp] theorem occOf_llCacheRw : occOf .llCacheRw = occLlCacheRw := (rfl)
@[simp] theorem occOf_llCachePrfm : occOf .llCachePrfm = occLlCachePrfm := (rfl)
@[simp] theorem occOf_llCacheRefill : occOf .llCacheRefill = occLlCacheRefill := (rfl)
@[simp] theorem occOf_llCacheRefillPrfm : occOf .llCacheRefillPrfm = occLlCacheRefillPrfm := (rfl)
@[simp] theorem occOf_llCacheWb : occOf .llCacheWb = occLlCacheWb := (rfl)
@[simp] theorem occOf_llCacheWr : occOf .llCacheWr = occLlCacheWr := (rfl)
@[simp] theorem occOf_llCacheRefillWr : occOf .llCacheRefillWr = occLlCacheRefillWr := (rfl)
@[simp] theorem occOf_memAccessRw : occOf .memAccessRw = occMemAccessRw := (rfl)
@[simp] theorem occOf_instFetchRd : occOf .instFetchRd = occInstFetchRd := (rfl)
@[simp] theorem occOf_memAccessPrfm : occOf .memAccessPrfm = occMemAccessPrfm := (rfl)
@[simp] theorem occOf_instFetchPrfm : occOf .instFetchPrfm = occInstFetchPrfm := (rfl)
@[simp] theorem occOf_l1iCacheMissRetired : occOf .l1iCacheMissRetired = occL1iCacheMissRetired := (rfl)
@[simp] theorem occOf_l2iCacheMissRetired : occOf .l2iCacheMissRetired = occL2iCacheMissRetired := (rfl)
@[simp] theorem occOf_l1dCacheMissLdRetired : occOf .l1dCacheMissLdRetired = occL1dCacheMissLdRetired := (rfl)
@[simp] theorem occOf_l2dCacheMissLdRetired : occOf .l2dCacheMissLdRetired = occL2dCacheMissLdRetired := (rfl)
@[simp] theorem occOf_l3dCacheMissLdRetired : occOf .l3dCacheMissLdRetired = occL3dCacheMissLdRetired := (rfl)
@[simp] theorem occOf_llCacheMissLdRetired : occOf .llCacheMissLdRetired = occLlCacheMissLdRetired := (rfl)
@[simp] theorem occOf_l1dCacheMissStRetired : occOf .l1dCacheMissStRetired = occL1dCacheMissStRetired := (rfl)
@[simp] theorem occOf_l2dCacheMissStRetired : occOf .l2dCacheMissStRetired = occL2dCacheMissStRetired := (rfl)
@[simp] theorem occOf_l3dCacheMissStRetired : occOf .l3dCacheMissStRetired = occL3dCacheMissStRetired := (rfl)
@[simp] theorem occOf_llCacheMissStRetired : occOf .llCacheMissStRetired = occLlCacheMissStRetired := (rfl)
@[simp] theorem occOf_l1dCacheMissLdstRetired : occOf .l1dCacheMissLdstRetired = occL1dCacheMissLdstRetired := (rfl)
@[simp] theorem occOf_l2dCacheMissLdstRetired : occOf .l2dCacheMissLdstRetired = occL2dCacheMissLdstRetired := (rfl)
@[simp] theorem occOf_l3dCacheMissLdstRetired : occOf .l3dCacheMissLdstRetired = occL3dCacheMissLdstRetired := (rfl)
@[simp] theorem occOf_llCacheMissLdstRetired : occOf .llCacheMissLdstRetired = occLlCacheMissLdstRetired := (rfl)
@[simp] theorem occOf_l1dCacheHitmLdRetired : occOf .l1dCacheHitmLdRetired = occL1dCacheHitmLdRetired := (rfl)
@[simp] theorem occOf_l2dCacheHitmLdRetired : occOf .l2dCacheHitmLdRetired = occL2dCacheHitmLdRetired := (rfl)
@[simp] theorem occOf_l3dCacheHitmLdRetired : occOf .l3dCacheHitmLdRetired = occL3dCacheHitmLdRetired := (rfl)
@[simp] theorem occOf_llCacheHitmLdRetired : occOf .llCacheHitmLdRetired = occLlCacheHitmLdRetired := (rfl)
@[simp] theorem occOf_l1dCacheHitmStRetired : occOf .l1dCacheHitmStRetired = occL1dCacheHitmStRetired := (rfl)
@[simp] theorem occOf_l2dCacheHitmStRetired : occOf .l2dCacheHitmStRetired = occL2dCacheHitmStRetired := (rfl)
@[simp] theorem occOf_l3dCacheHitmStRetired : occOf .l3dCacheHitmStRetired = occL3dCacheHitmStRetired := (rfl)
@[simp] theorem occOf_llCacheHitmStRetired : occOf .llCacheHitmStRetired = occLlCacheHitmStRetired := (rfl)
@[simp] theorem occOf_l1dCacheHitmLdstRetired : occOf .l1dCacheHitmLdstRetired = occL1dCacheHitmLdstRetired := (rfl)
@[simp] theorem occOf_l2dCacheHitmLdstRetired : occOf .l2dCacheHitmLdstRetired = occL2dCacheHitmLdstRetired := (rfl)
@[simp] theorem occOf_l3dCacheHitmLdstRetired : occOf .l3dCacheHitmLdstRetired = occL3dCacheHitmLdstRetired := (rfl)
@[simp] theorem occOf_llCacheHitmLdstRetired : occOf .llCacheHitmLdstRetired = occLlCacheHitmLdstRetired := (rfl)
@[simp] theorem occOf_l1iLfbHitRetired : occOf .l1iLfbHitRetired = occL1iLfbHitRetired := (rfl)
@[simp] theorem occOf_l2iLfbHitRetired : occOf .l2iLfbHitRetired = occL2iLfbHitRetired := (rfl)
@[simp] theorem occOf_l1dLfbHitLdRetired : occOf .l1dLfbHitLdRetired = occL1dLfbHitLdRetired := (rfl)
@[simp] theorem occOf_l2dLfbHitLdRetired : occOf .l2dLfbHitLdRetired = occL2dLfbHitLdRetired := (rfl)
@[simp] theorem occOf_l3dLfbHitLdRetired : occOf .l3dLfbHitLdRetired = occL3dLfbHitLdRetired := (rfl)
@[simp] theorem occOf_llLfbHitLdRetired : occOf .llLfbHitLdRetired = occLlLfbHitLdRetired := (rfl)
@[simp] theorem occOf_l1dLfbHitStRetired : occOf .l1dLfbHitStRetired = occL1dLfbHitStRetired := (rfl)
@[simp] theorem occOf_l2dLfbHitStRetired : occOf .l2dLfbHitStRetired = occL2dLfbHitStRetired := (rfl)
@[simp] theorem occOf_l3dLfbHitStRetired : occOf .l3dLfbHitStRetired = occL3dLfbHitStRetired := (rfl)
@[simp] theorem occOf_llLfbHitStRetired : occOf .llLfbHitStRetired = occLlLfbHitStRetired := (rfl)
@[simp] theorem occOf_l1dLfbHitLdstRetired : occOf .l1dLfbHitLdstRetired = occL1dLfbHitLdstRetired := (rfl)
@[simp] theorem occOf_l2dLfbHitLdstRetired : occOf .l2dLfbHitLdstRetired = occL2dLfbHitLdstRetired := (rfl)
@[simp] theorem occOf_l3dLfbHitLdstRetired : occOf .l3dLfbHitLdstRetired = occL3dLfbHitLdstRetired := (rfl)
@[simp] theorem occOf_llLfbHitLdstRetired : occOf .llLfbHitLdstRetired = occLlLfbHitLdstRetired := (rfl)
@[simp] theorem occOf_l1iCacheHitRetired : occOf .l1iCacheHitRetired = occL1iCacheHitRetired := (rfl)
@[simp] theorem occOf_l2iCacheHitRetired : occOf .l2iCacheHitRetired = occL2iCacheHitRetired := (rfl)
@[simp] theorem occOf_l1dCacheHitLdRetired : occOf .l1dCacheHitLdRetired = occL1dCacheHitLdRetired := (rfl)
@[simp] theorem occOf_l2dCacheHitLdRetired : occOf .l2dCacheHitLdRetired = occL2dCacheHitLdRetired := (rfl)
@[simp] theorem occOf_l3dCacheHitLdRetired : occOf .l3dCacheHitLdRetired = occL3dCacheHitLdRetired := (rfl)
@[simp] theorem occOf_llCacheHitLdRetired : occOf .llCacheHitLdRetired = occLlCacheHitLdRetired := (rfl)
@[simp] theorem occOf_l1dCacheHitStRetired : occOf .l1dCacheHitStRetired = occL1dCacheHitStRetired := (rfl)
@[simp] theorem occOf_l2dCacheHitStRetired : occOf .l2dCacheHitStRetired = occL2dCacheHitStRetired := (rfl)
@[simp] theorem occOf_l3dCacheHitStRetired : occOf .l3dCacheHitStRetired = occL3dCacheHitStRetired := (rfl)
@[simp] theorem occOf_llCacheHitStRetired : occOf .llCacheHitStRetired = occLlCacheHitStRetired := (rfl)
@[simp] theorem occOf_l1dCacheHitLdstRetired : occOf .l1dCacheHitLdstRetired = occL1dCacheHitLdstRetired := (rfl)
@[simp] theorem occOf_l2dCacheHitLdstRetired : occOf .l2dCacheHitLdstRetired = occL2dCacheHitLdstRetired := (rfl)
@[simp] theorem occOf_l3dCacheHitLdstRetired : occOf .l3dCacheHitLdstRetired = occL3dCacheHitLdstRetired := (rfl)
@[simp] theorem occOf_llCacheHitLdstRetired : occOf .llCacheHitLdstRetired = occLlCacheHitLdstRetired := (rfl)
@[simp] theorem occOf_itlbHitRetired : occOf .itlbHitRetired = occItlbHitRetired := (rfl)
@[simp] theorem occOf_dtlbHitLdRetired : occOf .dtlbHitLdRetired = occDtlbHitLdRetired := (rfl)
@[simp] theorem occOf_dtlbHitStRetired : occOf .dtlbHitStRetired = occDtlbHitStRetired := (rfl)
@[simp] theorem occOf_dtlbHitLdstRetired : occOf .dtlbHitLdstRetired = occDtlbHitLdstRetired := (rfl)
@[simp] theorem occOf_itlbWalkRetired : occOf .itlbWalkRetired = occItlbWalkRetired := (rfl)
@[simp] theorem occOf_dtlbWalkLdRetired : occOf .dtlbWalkLdRetired = occDtlbWalkLdRetired := (rfl)
@[simp] theorem occOf_dtlbWalkStRetired : occOf .dtlbWalkStRetired = occDtlbWalkStRetired := (rfl)
@[simp] theorem occOf_dtlbWalkLdstRetired : occOf .dtlbWalkLdstRetired = occDtlbWalkLdstRetired := (rfl)
@[simp] theorem occOf_dtlbWalkPrf : occOf .dtlbWalkPrf = occDtlbWalkPrf := (rfl)
@[simp] theorem occOf_itlbWalkPrf : occOf .itlbWalkPrf = occItlbWalkPrf := (rfl)
@[simp] theorem occOf_dtlbWalkHwprf : occOf .dtlbWalkHwprf = occDtlbWalkHwprf := (rfl)
@[simp] theorem occOf_itlbWalkHwprf : occOf .itlbWalkHwprf = occItlbWalkHwprf := (rfl)
@[simp] theorem occOf_l1dTlbPrf : occOf .l1dTlbPrf = occL1dTlbPrf := (rfl)
@[simp] theorem occOf_l1iTlbPrf : occOf .l1iTlbPrf = occL1iTlbPrf := (rfl)
@[simp] theorem occOf_l1dTlbHwprf : occOf .l1dTlbHwprf = occL1dTlbHwprf := (rfl)
@[simp] theorem occOf_l1iTlbHwprf : occOf .l1iTlbHwprf = occL1iTlbHwprf := (rfl)
@[simp] theorem occOf_dsnpHitmLdRetired : occOf .dsnpHitmLdRetired = occDsnpHitmLdRetired := (rfl)
@[simp] theorem occOf_dsnpHitmNearLdRetired : occOf .dsnpHitmNearLdRetired = occDsnpHitmNearLdRetired := (rfl)
@[simp] theorem occOf_dsnpHitmFarLdRetired : occOf .dsnpHitmFarLdRetired = occDsnpHitmFarLdRetired := (rfl)
@[simp] theorem occOf_dsnpHitmRemoteLdRetired : occOf .dsnpHitmRemoteLdRetired = occDsnpHitmRemoteLdRetired := (rfl)
@[simp] theorem occOf_dsnpHitmStRetired : occOf .dsnpHitmStRetired = occDsnpHitmStRetired := (rfl)
@[simp] theorem occOf_dsnpHitmNearStRetired : occOf .dsnpHitmNearStRetired = occDsnpHitmNearStRetired := (rfl)
@[simp] theorem occOf_dsnpHitmFarStRetired : occOf .dsnpHitmFarStRetired = occDsnpHitmFarStRetired := (rfl)
@[simp] theorem occOf_dsnpHitmRemoteStRetired : occOf .dsnpHitmRemoteStRetired = occDsnpHitmRemoteStRetired := (rfl)
@[simp] theorem occOf_dsnpHitmLdstRetired : occOf .dsnpHitmLdstRetired = occDsnpHitmLdstRetired := (rfl)
@[simp] theorem occOf_dsnpHitmNearLdstRetired : occOf .dsnpHitmNearLdstRetired = occDsnpHitmNearLdstRetired := (rfl)
@[simp] theorem occOf_dsnpHitmFarLdstRetired : occOf .dsnpHitmFarLdstRetired = occDsnpHitmFarLdstRetired := (rfl)
@[simp] theorem occOf_dsnpHitmRemoteLdstRetired : occOf .dsnpHitmRemoteLdstRetired = occDsnpHitmRemoteLdstRetired := (rfl)
@[simp] theorem occOf_isnpHitRetired : occOf .isnpHitRetired = occIsnpHitRetired := (rfl)
@[simp] theorem occOf_isnpHitNearRetired : occOf .isnpHitNearRetired = occIsnpHitNearRetired := (rfl)
@[simp] theorem occOf_isnpHitFarRetired : occOf .isnpHitFarRetired = occIsnpHitFarRetired := (rfl)
@[simp] theorem occOf_isnpHitRemoteRetired : occOf .isnpHitRemoteRetired = occIsnpHitRemoteRetired := (rfl)
@[simp] theorem occOf_dsnpHitLdRetired : occOf .dsnpHitLdRetired = occDsnpHitLdRetired := (rfl)
@[simp] theorem occOf_dsnpHitNearLdRetired : occOf .dsnpHitNearLdRetired = occDsnpHitNearLdRetired := (rfl)
@[simp] theorem occOf_dsnpHitFarLdRetired : occOf .dsnpHitFarLdRetired = occDsnpHitFarLdRetired := (rfl)
@[simp] theorem occOf_dsnpHitRemoteLdRetired : occOf .dsnpHitRemoteLdRetired = occDsnpHitRemoteLdRetired := (rfl)
@[simp] theorem occOf_dsnpHitStRetired : occOf .dsnpHitStRetired = occDsnpHitStRetired := (rfl)
@[simp] theorem occOf_dsnpHitNearStRetired : occOf .dsnpHitNearStRetired = occDsnpHitNearStRetired := (rfl)
@[simp] theorem occOf_dsnpHitFarStRetired : occOf .dsnpHitFarStRetired = occDsnpHitFarStRetired := (rfl)
@[simp] theorem occOf_dsnpHitRemoteStRetired : occOf .dsnpHitRemoteStRetired = occDsnpHitRemoteStRetired := (rfl)
@[simp] theorem occOf_dsnpHitLdstRetired : occOf .dsnpHitLdstRetired = occDsnpHitLdstRetired := (rfl)
@[simp] theorem occOf_dsnpHitNearLdstRetired : occOf .dsnpHitNearLdstRetired = occDsnpHitNearLdstRetired := (rfl)
@[simp] theorem occOf_dsnpHitFarLdstRetired : occOf .dsnpHitFarLdstRetired = occDsnpHitFarLdstRetired := (rfl)
@[simp] theorem occOf_dsnpHitRemoteLdstRetired : occOf .dsnpHitRemoteLdstRetired = occDsnpHitRemoteLdstRetired := (rfl)
@[simp] theorem occOf_l1dCacheRefillPercyc : occOf .l1dCacheRefillPercyc = occL1dCacheRefillPercyc := (rfl)
@[simp] theorem occOf_l2dCacheRefillPercyc : occOf .l2dCacheRefillPercyc = occL2dCacheRefillPercyc := (rfl)
@[simp] theorem occOf_l3dCacheRefillPercyc : occOf .l3dCacheRefillPercyc = occL3dCacheRefillPercyc := (rfl)
@[simp] theorem occOf_l1iCacheRefillPercyc : occOf .l1iCacheRefillPercyc = occL1iCacheRefillPercyc := (rfl)
@[simp] theorem occOf_l2iCacheRefillPercyc : occOf .l2iCacheRefillPercyc = occL2iCacheRefillPercyc := (rfl)
@[simp] theorem occOf_remoteCacheHitRd : occOf .remoteCacheHitRd = occRemoteCacheHitRd := (rfl)
@[simp] theorem occOf_remoteCacheHitmRd : occOf .remoteCacheHitmRd = occRemoteCacheHitmRd := (rfl)
@[simp] theorem occOf_remoteLfbHitRd : occOf .remoteLfbHitRd = occRemoteLfbHitRd := (rfl)
@[simp] theorem occOf_remoteCacheHitPrfm : occOf .remoteCacheHitPrfm = occRemoteCacheHitPrfm := (rfl)
@[simp] theorem occOf_stallBackendAtomicFp : occOf .stallBackendAtomicFp = occStallBackendAtomicFp := (rfl)
@[simp] theorem occOf_lseFpLdSpec : occOf .lseFpLdSpec = occLseFpLdSpec := (rfl)
@[simp] theorem occOf_lseFpStSpec : occOf .lseFpStSpec = occLseFpStSpec := (rfl)
@[simp] theorem occOf_lseFpLdstSpec : occOf .lseFpLdstSpec = occLseFpLdstSpec := (rfl)
@[simp] theorem occOf_l1gcsCache : occOf .l1gcsCache = occL1gcsCache := (rfl)
@[simp] theorem occOf_l1gcsCacheRw : occOf .l1gcsCacheRw = occL1gcsCacheRw := (rfl)
@[simp] theorem occOf_l1gcsCacheHwprf : occOf .l1gcsCacheHwprf = occL1gcsCacheHwprf := (rfl)
@[simp] theorem occOf_l1gcsCacheMiss : occOf .l1gcsCacheMiss = occL1gcsCacheMiss := (rfl)
@[simp] theorem occOf_l1gcsCacheMissRd : occOf .l1gcsCacheMissRd = occL1gcsCacheMissRd := (rfl)
@[simp] theorem occOf_l1gcsCacheHitRw : occOf .l1gcsCacheHitRw = occL1gcsCacheHitRw := (rfl)
@[simp] theorem occOf_l1gcsCacheHitRwFhwprf : occOf .l1gcsCacheHitRwFhwprf = occL1gcsCacheHitRwFhwprf := (rfl)
@[simp] theorem occOf_l1gcsCacheRefill : occOf .l1gcsCacheRefill = occL1gcsCacheRefill := (rfl)
@[simp] theorem occOf_l1gcsCacheRefillHwprf : occOf .l1gcsCacheRefillHwprf = occL1gcsCacheRefillHwprf := (rfl)
@[simp] theorem occOf_l1gcsCacheRefillPercyc : occOf .l1gcsCacheRefillPercyc = occL1gcsCacheRefillPercyc := (rfl)
@[simp] theorem occOf_l1gcsLfbHitRw : occOf .l1gcsLfbHitRw = occL1gcsLfbHitRw := (rfl)
@[simp] theorem occOf_l1gcsLfbHitRwFhwprf : occOf .l1gcsLfbHitRwFhwprf = occL1gcsLfbHitRwFhwprf := (rfl)
@[simp] theorem occOf_l1gcsCacheInval : occOf .l1gcsCacheInval = occL1gcsCacheInval := (rfl)
@[simp] theorem occOf_l1gcsTlb : occOf .l1gcsTlb = occL1gcsTlb := (rfl)
@[simp] theorem occOf_l1gcsTlbRw : occOf .l1gcsTlbRw = occL1gcsTlbRw := (rfl)
@[simp] theorem occOf_l1gcsTlbHwprf : occOf .l1gcsTlbHwprf = occL1gcsTlbHwprf := (rfl)
@[simp] theorem occOf_gcstlbWalk : occOf .gcstlbWalk = occGcstlbWalk := (rfl)
@[simp] theorem occOf_gcstlbWalkRw : occOf .gcstlbWalkRw = occGcstlbWalkRw := (rfl)
@[simp] theorem occOf_gcstlbWalkPercyc : occOf .gcstlbWalkPercyc = occGcstlbWalkPercyc := (rfl)
@[simp] theorem occOf_gcstlbWalkStep : occOf .gcstlbWalkStep = occGcstlbWalkStep := (rfl)
@[simp] theorem occOf_sampleFeedFp : occOf .sampleFeedFp = occSampleFeedFp := (rfl)
@[simp] theorem occOf_sampleFeedSimd : occOf .sampleFeedSimd = occSampleFeedSimd := (rfl)
@[simp] theorem occOf_stallBackendL1gcs : occOf .stallBackendL1gcs = occStallBackendL1gcs := (rfl)
@[simp] theorem occOf_stallBackendGcstlb : occOf .stallBackendGcstlb = occStallBackendGcstlb := (rfl)
@[simp] theorem occOf_smeFpSpec : occOf .smeFpSpec = occSmeFpSpec := (rfl)
@[simp] theorem occOf_seFpSpec : occOf .seFpSpec = occSeFpSpec := (rfl)
@[simp] theorem occOf_sveCmpIgranuleSpec : occOf .sveCmpIgranuleSpec = occSveCmpIgranuleSpec := (rfl)
@[simp] theorem occOf_sveCmpXgranuleSpec : occOf .sveCmpXgranuleSpec = occSveCmpXgranuleSpec := (rfl)
@[simp] theorem occOf_sveBitpermSpec : occOf .sveBitpermSpec = occSveBitpermSpec := (rfl)
@[simp] theorem occOf_smeSpec : occOf .smeSpec = occSmeSpec := (rfl)
@[simp] theorem occOf_seSpec : occOf .seSpec = occSeSpec := (rfl)
@[simp] theorem occOf_smeInstSpec : occOf .smeInstSpec = occSmeInstSpec := (rfl)
@[simp] theorem occOf_seInstSpec : occOf .seInstSpec = occSeInstSpec := (rfl)
@[simp] theorem occOf_smeInt8Spec : occOf .smeInt8Spec = occSmeInt8Spec := (rfl)
@[simp] theorem occOf_seInt8Spec : occOf .seInt8Spec = occSeInt8Spec := (rfl)
@[simp] theorem occOf_smeFpBf16Spec : occOf .smeFpBf16Spec = occSmeFpBf16Spec := (rfl)
@[simp] theorem occOf_seFpBf16Spec : occOf .seFpBf16Spec = occSeFpBf16Spec := (rfl)
@[simp] theorem occOf_smeInt16Spec : occOf .smeInt16Spec = occSmeInt16Spec := (rfl)
@[simp] theorem occOf_seInt16Spec : occOf .seInt16Spec = occSeInt16Spec := (rfl)
@[simp] theorem occOf_smeFpHpSpec : occOf .smeFpHpSpec = occSmeFpHpSpec := (rfl)
@[simp] theorem occOf_seFpHpSpec : occOf .seFpHpSpec = occSeFpHpSpec := (rfl)
@[simp] theorem occOf_smeInt32Spec : occOf .smeInt32Spec = occSmeInt32Spec := (rfl)
@[simp] theorem occOf_seInt32Spec : occOf .seInt32Spec = occSeInt32Spec := (rfl)
@[simp] theorem occOf_smeFpSpSpec : occOf .smeFpSpSpec = occSmeFpSpSpec := (rfl)
@[simp] theorem occOf_seFpSpSpec : occOf .seFpSpSpec = occSeFpSpSpec := (rfl)
@[simp] theorem occOf_smeInt64Spec : occOf .smeInt64Spec = occSmeInt64Spec := (rfl)
@[simp] theorem occOf_seInt64Spec : occOf .seInt64Spec = occSeInt64Spec := (rfl)
@[simp] theorem occOf_smeFpDpSpec : occOf .smeFpDpSpec = occSmeFpDpSpec := (rfl)
@[simp] theorem occOf_seFpDpSpec : occOf .seFpDpSpec = occSeFpDpSpec := (rfl)
@[simp] theorem occOf_smeFpAddsubSpec : occOf .smeFpAddsubSpec = occSmeFpAddsubSpec := (rfl)
@[simp] theorem occOf_seFpAddsubSpec : occOf .seFpAddsubSpec = occSeFpAddsubSpec := (rfl)
@[simp] theorem occOf_smeFpFmaSpec : occOf .smeFpFmaSpec = occSmeFpFmaSpec := (rfl)
@[simp] theorem occOf_seFpFmaSpec : occOf .seFpFmaSpec = occSeFpFmaSpec := (rfl)
@[simp] theorem occOf_smeFpDotSpec : occOf .smeFpDotSpec = occSmeFpDotSpec := (rfl)
@[simp] theorem occOf_seFpDotSpec : occOf .seFpDotSpec = occSeFpDotSpec := (rfl)
@[simp] theorem occOf_smeFpMopaSpec : occOf .smeFpMopaSpec = occSmeFpMopaSpec := (rfl)
@[simp] theorem occOf_smeIntSpec : occOf .smeIntSpec = occSmeIntSpec := (rfl)
@[simp] theorem occOf_seIntSpec : occOf .seIntSpec = occSeIntSpec := (rfl)
@[simp] theorem occOf_smeIntMulSpec : occOf .smeIntMulSpec = occSmeIntMulSpec := (rfl)
@[simp] theorem occOf_seIntMulSpec : occOf .seIntMulSpec = occSeIntMulSpec := (rfl)
@[simp] theorem occOf_smeIntDotSpec : occOf .smeIntDotSpec = occSmeIntDotSpec := (rfl)
@[simp] theorem occOf_seIntDotSpec : occOf .seIntDotSpec = occSeIntDotSpec := (rfl)
@[simp] theorem occOf_smeIntMopaSpec : occOf .smeIntMopaSpec = occSmeIntMopaSpec := (rfl)
@[simp] theorem occOf_zaActive : occOf .zaActive = occZaActive := (rfl)
@[simp] theorem occOf_smePred2NotFullSpec : occOf .smePred2NotFullSpec = occSmePred2NotFullSpec := (rfl)
@[simp] theorem occOf_smePred2Spec : occOf .smePred2Spec = occSmePred2Spec := (rfl)
@[simp] theorem occOf_smePred2EmptySpec : occOf .smePred2EmptySpec = occSmePred2EmptySpec := (rfl)
@[simp] theorem occOf_smePred2FullSpec : occOf .smePred2FullSpec = occSmePred2FullSpec := (rfl)
@[simp] theorem occOf_smePred2PartialSpec : occOf .smePred2PartialSpec = occSmePred2PartialSpec := (rfl)
@[simp] theorem occOf_smeLdstZaregSpec : occOf .smeLdstZaregSpec = occSmeLdstZaregSpec := (rfl)
@[simp] theorem occOf_smeLdZaregSpec : occOf .smeLdZaregSpec = occSmeLdZaregSpec := (rfl)
@[simp] theorem occOf_smeStZaregSpec : occOf .smeStZaregSpec = occSmeStZaregSpec := (rfl)
@[simp] theorem occOf_smeLdstZtregSpec : occOf .smeLdstZtregSpec = occSmeLdstZtregSpec := (rfl)
@[simp] theorem occOf_smeLdZtregSpec : occOf .smeLdZtregSpec = occSmeLdZtregSpec := (rfl)
@[simp] theorem occOf_smeStZtregSpec : occOf .smeStZtregSpec = occSmeStZtregSpec := (rfl)
@[simp] theorem occOf_smeLdstRegSpec : occOf .smeLdstRegSpec = occSmeLdstRegSpec := (rfl)
@[simp] theorem occOf_smeLdRegSpec : occOf .smeLdRegSpec = occSmeLdRegSpec := (rfl)
@[simp] theorem occOf_smeStRegSpec : occOf .smeStRegSpec = occSmeStRegSpec := (rfl)
@[simp] theorem occOf_smeLdstTileSpec : occOf .smeLdstTileSpec = occSmeLdstTileSpec := (rfl)
@[simp] theorem occOf_smeLdTileSpec : occOf .smeLdTileSpec = occSmeLdTileSpec := (rfl)
@[simp] theorem occOf_smeStTileSpec : occOf .smeStTileSpec = occSmeStTileSpec := (rfl)
@[simp] theorem occOf_aseLutSpec : occOf .aseLutSpec = occAseLutSpec := (rfl)
@[simp] theorem occOf_sveLutSpec : occOf .sveLutSpec = occSveLutSpec := (rfl)
@[simp] theorem occOf_smeLutSpec : occOf .smeLutSpec = occSmeLutSpec := (rfl)
@[simp] theorem occOf_seLutSpec : occOf .seLutSpec = occSeLutSpec := (rfl)
@[simp] theorem occOf_n1CacheHitRd : occOf .n1CacheHitRd = occN1CacheHitRd := (rfl)
@[simp] theorem occOf_n2CacheHitRd : occOf .n2CacheHitRd = occN2CacheHitRd := (rfl)
@[simp] theorem occOf_n3CacheHitRd : occOf .n3CacheHitRd = occN3CacheHitRd := (rfl)
@[simp] theorem occOf_n4CacheHitRd : occOf .n4CacheHitRd = occN4CacheHitRd := (rfl)
@[simp] theorem occOf_n1CacheHitPrfm : occOf .n1CacheHitPrfm = occN1CacheHitPrfm := (rfl)
@[simp] theorem occOf_n2CacheHitPrfm : occOf .n2CacheHitPrfm = occN2CacheHitPrfm := (rfl)
@[simp] theorem occOf_n3CacheHitPrfm : occOf .n3CacheHitPrfm = occN3CacheHitPrfm := (rfl)
@[simp] theorem occOf_n4CacheHitPrfm : occOf .n4CacheHitPrfm = occN4CacheHitPrfm := (rfl)
@[simp] theorem occOf_n1Cache1HitRd : occOf .n1Cache1HitRd = occN1Cache1HitRd := (rfl)
@[simp] theorem occOf_n2Cache1HitRd : occOf .n2Cache1HitRd = occN2Cache1HitRd := (rfl)
@[simp] theorem occOf_n3Cache1HitRd : occOf .n3Cache1HitRd = occN3Cache1HitRd := (rfl)
@[simp] theorem occOf_n4Cache1HitRd : occOf .n4Cache1HitRd = occN4Cache1HitRd := (rfl)
@[simp] theorem occOf_n1Cache1HitPrfm : occOf .n1Cache1HitPrfm = occN1Cache1HitPrfm := (rfl)
@[simp] theorem occOf_n2Cache1HitPrfm : occOf .n2Cache1HitPrfm = occN2Cache1HitPrfm := (rfl)
@[simp] theorem occOf_n3Cache1HitPrfm : occOf .n3Cache1HitPrfm = occN3Cache1HitPrfm := (rfl)
@[simp] theorem occOf_n4Cache1HitPrfm : occOf .n4Cache1HitPrfm = occN4Cache1HitPrfm := (rfl)
@[simp] theorem occOf_n1Cache2HitRd : occOf .n1Cache2HitRd = occN1Cache2HitRd := (rfl)
@[simp] theorem occOf_n2Cache2HitRd : occOf .n2Cache2HitRd = occN2Cache2HitRd := (rfl)
@[simp] theorem occOf_n3Cache2HitRd : occOf .n3Cache2HitRd = occN3Cache2HitRd := (rfl)
@[simp] theorem occOf_n4Cache2HitRd : occOf .n4Cache2HitRd = occN4Cache2HitRd := (rfl)
@[simp] theorem occOf_n1Cache2HitPrfm : occOf .n1Cache2HitPrfm = occN1Cache2HitPrfm := (rfl)
@[simp] theorem occOf_n2Cache2HitPrfm : occOf .n2Cache2HitPrfm = occN2Cache2HitPrfm := (rfl)
@[simp] theorem occOf_n3Cache2HitPrfm : occOf .n3Cache2HitPrfm = occN3Cache2HitPrfm := (rfl)
@[simp] theorem occOf_n4Cache2HitPrfm : occOf .n4Cache2HitPrfm = occN4Cache2HitPrfm := (rfl)
@[simp] theorem occOf_n1Cache3HitRd : occOf .n1Cache3HitRd = occN1Cache3HitRd := (rfl)
@[simp] theorem occOf_n2Cache3HitRd : occOf .n2Cache3HitRd = occN2Cache3HitRd := (rfl)
@[simp] theorem occOf_n3Cache3HitRd : occOf .n3Cache3HitRd = occN3Cache3HitRd := (rfl)
@[simp] theorem occOf_n4Cache3HitRd : occOf .n4Cache3HitRd = occN4Cache3HitRd := (rfl)
@[simp] theorem occOf_n1Cache3HitPrfm : occOf .n1Cache3HitPrfm = occN1Cache3HitPrfm := (rfl)
@[simp] theorem occOf_n2Cache3HitPrfm : occOf .n2Cache3HitPrfm = occN2Cache3HitPrfm := (rfl)
@[simp] theorem occOf_n3Cache3HitPrfm : occOf .n3Cache3HitPrfm = occN3Cache3HitPrfm := (rfl)
@[simp] theorem occOf_n4Cache3HitPrfm : occOf .n4Cache3HitPrfm = occN4Cache3HitPrfm := (rfl)
@[simp] theorem occOf_n1CacheHitmRd : occOf .n1CacheHitmRd = occN1CacheHitmRd := (rfl)
@[simp] theorem occOf_n2CacheHitmRd : occOf .n2CacheHitmRd = occN2CacheHitmRd := (rfl)
@[simp] theorem occOf_n3CacheHitmRd : occOf .n3CacheHitmRd = occN3CacheHitmRd := (rfl)
@[simp] theorem occOf_n4CacheHitmRd : occOf .n4CacheHitmRd = occN4CacheHitmRd := (rfl)
@[simp] theorem occOf_n1LfbHitRd : occOf .n1LfbHitRd = occN1LfbHitRd := (rfl)
@[simp] theorem occOf_n2LfbHitRd : occOf .n2LfbHitRd = occN2LfbHitRd := (rfl)
@[simp] theorem occOf_n3LfbHitRd : occOf .n3LfbHitRd = occN3LfbHitRd := (rfl)
@[simp] theorem occOf_n4LfbHitRd : occOf .n4LfbHitRd = occN4LfbHitRd := (rfl)
@[simp] theorem occOf_n1Cache1HitmRd : occOf .n1Cache1HitmRd = occN1Cache1HitmRd := (rfl)
@[simp] theorem occOf_n2Cache1HitmRd : occOf .n2Cache1HitmRd = occN2Cache1HitmRd := (rfl)
@[simp] theorem occOf_n3Cache1HitmRd : occOf .n3Cache1HitmRd = occN3Cache1HitmRd := (rfl)
@[simp] theorem occOf_n4Cache1HitmRd : occOf .n4Cache1HitmRd = occN4Cache1HitmRd := (rfl)
@[simp] theorem occOf_n1Lfb1HitRd : occOf .n1Lfb1HitRd = occN1Lfb1HitRd := (rfl)
@[simp] theorem occOf_n2Lfb1HitRd : occOf .n2Lfb1HitRd = occN2Lfb1HitRd := (rfl)
@[simp] theorem occOf_n3Lfb1HitRd : occOf .n3Lfb1HitRd = occN3Lfb1HitRd := (rfl)
@[simp] theorem occOf_n4Lfb1HitRd : occOf .n4Lfb1HitRd = occN4Lfb1HitRd := (rfl)
@[simp] theorem occOf_n1Cache2HitmRd : occOf .n1Cache2HitmRd = occN1Cache2HitmRd := (rfl)
@[simp] theorem occOf_n2Cache2HitmRd : occOf .n2Cache2HitmRd = occN2Cache2HitmRd := (rfl)
@[simp] theorem occOf_n3Cache2HitmRd : occOf .n3Cache2HitmRd = occN3Cache2HitmRd := (rfl)
@[simp] theorem occOf_n4Cache2HitmRd : occOf .n4Cache2HitmRd = occN4Cache2HitmRd := (rfl)
@[simp] theorem occOf_n1Lfb2HitRd : occOf .n1Lfb2HitRd = occN1Lfb2HitRd := (rfl)
@[simp] theorem occOf_n2Lfb2HitRd : occOf .n2Lfb2HitRd = occN2Lfb2HitRd := (rfl)
@[simp] theorem occOf_n3Lfb2HitRd : occOf .n3Lfb2HitRd = occN3Lfb2HitRd := (rfl)
@[simp] theorem occOf_n4Lfb2HitRd : occOf .n4Lfb2HitRd = occN4Lfb2HitRd := (rfl)
@[simp] theorem occOf_n1Cache3HitmRd : occOf .n1Cache3HitmRd = occN1Cache3HitmRd := (rfl)
@[simp] theorem occOf_n2Cache3HitmRd : occOf .n2Cache3HitmRd = occN2Cache3HitmRd := (rfl)
@[simp] theorem occOf_n3Cache3HitmRd : occOf .n3Cache3HitmRd = occN3Cache3HitmRd := (rfl)
@[simp] theorem occOf_n4Cache3HitmRd : occOf .n4Cache3HitmRd = occN4Cache3HitmRd := (rfl)
@[simp] theorem occOf_n1Lfb3HitRd : occOf .n1Lfb3HitRd = occN1Lfb3HitRd := (rfl)
@[simp] theorem occOf_n2Lfb3HitRd : occOf .n2Lfb3HitRd = occN2Lfb3HitRd := (rfl)
@[simp] theorem occOf_n3Lfb3HitRd : occOf .n3Lfb3HitRd = occN3Lfb3HitRd := (rfl)
@[simp] theorem occOf_n4Lfb3HitRd : occOf .n4Lfb3HitRd = occN4Lfb3HitRd := (rfl)
@[simp] theorem occOf_n1MemRd : occOf .n1MemRd = occN1MemRd := (rfl)
@[simp] theorem occOf_n2MemRd : occOf .n2MemRd = occN2MemRd := (rfl)
@[simp] theorem occOf_n3MemRd : occOf .n3MemRd = occN3MemRd := (rfl)
@[simp] theorem occOf_n4MemRd : occOf .n4MemRd = occN4MemRd := (rfl)
@[simp] theorem occOf_n1MemPrfm : occOf .n1MemPrfm = occN1MemPrfm := (rfl)
@[simp] theorem occOf_n2MemPrfm : occOf .n2MemPrfm = occN2MemPrfm := (rfl)
@[simp] theorem occOf_n3MemPrfm : occOf .n3MemPrfm = occN3MemPrfm := (rfl)
@[simp] theorem occOf_n4MemPrfm : occOf .n4MemPrfm = occN4MemPrfm := (rfl)
@[simp] theorem occOf_n1Mem1Rd : occOf .n1Mem1Rd = occN1Mem1Rd := (rfl)
@[simp] theorem occOf_n2Mem1Rd : occOf .n2Mem1Rd = occN2Mem1Rd := (rfl)
@[simp] theorem occOf_n3Mem1Rd : occOf .n3Mem1Rd = occN3Mem1Rd := (rfl)
@[simp] theorem occOf_n4Mem1Rd : occOf .n4Mem1Rd = occN4Mem1Rd := (rfl)
@[simp] theorem occOf_n1Mem1Prfm : occOf .n1Mem1Prfm = occN1Mem1Prfm := (rfl)
@[simp] theorem occOf_n2Mem1Prfm : occOf .n2Mem1Prfm = occN2Mem1Prfm := (rfl)
@[simp] theorem occOf_n3Mem1Prfm : occOf .n3Mem1Prfm = occN3Mem1Prfm := (rfl)
@[simp] theorem occOf_n4Mem1Prfm : occOf .n4Mem1Prfm = occN4Mem1Prfm := (rfl)
@[simp] theorem occOf_n1Mem2Rd : occOf .n1Mem2Rd = occN1Mem2Rd := (rfl)
@[simp] theorem occOf_n2Mem2Rd : occOf .n2Mem2Rd = occN2Mem2Rd := (rfl)
@[simp] theorem occOf_n3Mem2Rd : occOf .n3Mem2Rd = occN3Mem2Rd := (rfl)
@[simp] theorem occOf_n4Mem2Rd : occOf .n4Mem2Rd = occN4Mem2Rd := (rfl)
@[simp] theorem occOf_n1Mem2Prfm : occOf .n1Mem2Prfm = occN1Mem2Prfm := (rfl)
@[simp] theorem occOf_n2Mem2Prfm : occOf .n2Mem2Prfm = occN2Mem2Prfm := (rfl)
@[simp] theorem occOf_n3Mem2Prfm : occOf .n3Mem2Prfm = occN3Mem2Prfm := (rfl)
@[simp] theorem occOf_n4Mem2Prfm : occOf .n4Mem2Prfm = occN4Mem2Prfm := (rfl)
@[simp] theorem occOf_n1Mem3Rd : occOf .n1Mem3Rd = occN1Mem3Rd := (rfl)
@[simp] theorem occOf_n2Mem3Rd : occOf .n2Mem3Rd = occN2Mem3Rd := (rfl)
@[simp] theorem occOf_n3Mem3Rd : occOf .n3Mem3Rd = occN3Mem3Rd := (rfl)
@[simp] theorem occOf_n4Mem3Rd : occOf .n4Mem3Rd = occN4Mem3Rd := (rfl)
@[simp] theorem occOf_n1Mem3Prfm : occOf .n1Mem3Prfm = occN1Mem3Prfm := (rfl)
@[simp] theorem occOf_n2Mem3Prfm : occOf .n2Mem3Prfm = occN2Mem3Prfm := (rfl)
@[simp] theorem occOf_n3Mem3Prfm : occOf .n3Mem3Prfm = occN3Mem3Prfm := (rfl)
@[simp] theorem occOf_n4Mem3Prfm : occOf .n4Mem3Prfm = occN4Mem3Prfm := (rfl)
@[simp] theorem occOf_isnpHitN1Rd : occOf .isnpHitN1Rd = occIsnpHitN1Rd := (rfl)
@[simp] theorem occOf_isnpHitN2Rd : occOf .isnpHitN2Rd = occIsnpHitN2Rd := (rfl)
@[simp] theorem occOf_isnpHitN3Rd : occOf .isnpHitN3Rd = occIsnpHitN3Rd := (rfl)
@[simp] theorem occOf_isnpHitN4Rd : occOf .isnpHitN4Rd = occIsnpHitN4Rd := (rfl)
@[simp] theorem occOf_dsnpHitN1Rd : occOf .dsnpHitN1Rd = occDsnpHitN1Rd := (rfl)
@[simp] theorem occOf_dsnpHitN2Rd : occOf .dsnpHitN2Rd = occDsnpHitN2Rd := (rfl)
@[simp] theorem occOf_dsnpHitN3Rd : occOf .dsnpHitN3Rd = occDsnpHitN3Rd := (rfl)
@[simp] theorem occOf_dsnpHitN4Rd : occOf .dsnpHitN4Rd = occDsnpHitN4Rd := (rfl)
@[simp] theorem occOf_dsnpHitN1Wr : occOf .dsnpHitN1Wr = occDsnpHitN1Wr := (rfl)
@[simp] theorem occOf_dsnpHitN2Wr : occOf .dsnpHitN2Wr = occDsnpHitN2Wr := (rfl)
@[simp] theorem occOf_dsnpHitN3Wr : occOf .dsnpHitN3Wr = occDsnpHitN3Wr := (rfl)
@[simp] theorem occOf_dsnpHitN4Wr : occOf .dsnpHitN4Wr = occDsnpHitN4Wr := (rfl)
@[simp] theorem occOf_dsnpHitN1Rw : occOf .dsnpHitN1Rw = occDsnpHitN1Rw := (rfl)
@[simp] theorem occOf_dsnpHitN2Rw : occOf .dsnpHitN2Rw = occDsnpHitN2Rw := (rfl)
@[simp] theorem occOf_dsnpHitN3Rw : occOf .dsnpHitN3Rw = occDsnpHitN3Rw := (rfl)
@[simp] theorem occOf_dsnpHitN4Rw : occOf .dsnpHitN4Rw = occDsnpHitN4Rw := (rfl)
@[simp] theorem occOf_dsnpHitN1Prfm : occOf .dsnpHitN1Prfm = occDsnpHitN1Prfm := (rfl)
@[simp] theorem occOf_dsnpHitN2Prfm : occOf .dsnpHitN2Prfm = occDsnpHitN2Prfm := (rfl)
@[simp] theorem occOf_dsnpHitN3Prfm : occOf .dsnpHitN3Prfm = occDsnpHitN3Prfm := (rfl)
@[simp] theorem occOf_dsnpHitN4Prfm : occOf .dsnpHitN4Prfm = occDsnpHitN4Prfm := (rfl)
@[simp] theorem occOf_dsnpHitN1Hwprf : occOf .dsnpHitN1Hwprf = occDsnpHitN1Hwprf := (rfl)
@[simp] theorem occOf_dsnpHitN2Hwprf : occOf .dsnpHitN2Hwprf = occDsnpHitN2Hwprf := (rfl)
@[simp] theorem occOf_dsnpHitN3Hwprf : occOf .dsnpHitN3Hwprf = occDsnpHitN3Hwprf := (rfl)
@[simp] theorem occOf_dsnpHitN4Hwprf : occOf .dsnpHitN4Hwprf = occDsnpHitN4Hwprf := (rfl)
@[simp] theorem occOf_isnpHitN1Prfm : occOf .isnpHitN1Prfm = occIsnpHitN1Prfm := (rfl)
@[simp] theorem occOf_isnpHitN2Prfm : occOf .isnpHitN2Prfm = occIsnpHitN2Prfm := (rfl)
@[simp] theorem occOf_isnpHitN3Prfm : occOf .isnpHitN3Prfm = occIsnpHitN3Prfm := (rfl)
@[simp] theorem occOf_isnpHitN4Prfm : occOf .isnpHitN4Prfm = occIsnpHitN4Prfm := (rfl)
@[simp] theorem occOf_isnpHitN1Hwprf : occOf .isnpHitN1Hwprf = occIsnpHitN1Hwprf := (rfl)
@[simp] theorem occOf_isnpHitN2Hwprf : occOf .isnpHitN2Hwprf = occIsnpHitN2Hwprf := (rfl)
@[simp] theorem occOf_isnpHitN3Hwprf : occOf .isnpHitN3Hwprf = occIsnpHitN3Hwprf := (rfl)
@[simp] theorem occOf_isnpHitN4Hwprf : occOf .isnpHitN4Hwprf = occIsnpHitN4Hwprf := (rfl)
@[simp] theorem occOf_dsnpHitN1Prf : occOf .dsnpHitN1Prf = occDsnpHitN1Prf := (rfl)
@[simp] theorem occOf_dsnpHitN2Prf : occOf .dsnpHitN2Prf = occDsnpHitN2Prf := (rfl)
@[simp] theorem occOf_dsnpHitN3Prf : occOf .dsnpHitN3Prf = occDsnpHitN3Prf := (rfl)
@[simp] theorem occOf_dsnpHitN4Prf : occOf .dsnpHitN4Prf = occDsnpHitN4Prf := (rfl)
@[simp] theorem occOf_isnpHitN1Prf : occOf .isnpHitN1Prf = occIsnpHitN1Prf := (rfl)
@[simp] theorem occOf_isnpHitN2Prf : occOf .isnpHitN2Prf = occIsnpHitN2Prf := (rfl)
@[simp] theorem occOf_isnpHitN3Prf : occOf .isnpHitN3Prf = occIsnpHitN3Prf := (rfl)
@[simp] theorem occOf_isnpHitN4Prf : occOf .isnpHitN4Prf = occIsnpHitN4Prf := (rfl)
@[simp] theorem occOf_isnpHitN1 : occOf .isnpHitN1 = occIsnpHitN1 := (rfl)
@[simp] theorem occOf_isnpHitN2 : occOf .isnpHitN2 = occIsnpHitN2 := (rfl)
@[simp] theorem occOf_isnpHitN3 : occOf .isnpHitN3 = occIsnpHitN3 := (rfl)
@[simp] theorem occOf_isnpHitN4 : occOf .isnpHitN4 = occIsnpHitN4 := (rfl)
@[simp] theorem occOf_dsnpHitN1 : occOf .dsnpHitN1 = occDsnpHitN1 := (rfl)
@[simp] theorem occOf_dsnpHitN2 : occOf .dsnpHitN2 = occDsnpHitN2 := (rfl)
@[simp] theorem occOf_dsnpHitN3 : occOf .dsnpHitN3 = occDsnpHitN3 := (rfl)
@[simp] theorem occOf_dsnpHitN4 : occOf .dsnpHitN4 = occDsnpHitN4 := (rfl)
@[simp] theorem occOf_aseFpVreduceSpec : occOf .aseFpVreduceSpec = occAseFpVreduceSpec := (rfl)
@[simp] theorem occOf_sveFpPreduceSpec : occOf .sveFpPreduceSpec = occSveFpPreduceSpec := (rfl)
@[simp] theorem occOf_dsnpHitmN1Rd : occOf .dsnpHitmN1Rd = occDsnpHitmN1Rd := (rfl)
@[simp] theorem occOf_dsnpHitmN2Rd : occOf .dsnpHitmN2Rd = occDsnpHitmN2Rd := (rfl)
@[simp] theorem occOf_dsnpHitmN3Rd : occOf .dsnpHitmN3Rd = occDsnpHitmN3Rd := (rfl)
@[simp] theorem occOf_dsnpHitmN4Rd : occOf .dsnpHitmN4Rd = occDsnpHitmN4Rd := (rfl)
@[simp] theorem occOf_dsnpHitmN1Wr : occOf .dsnpHitmN1Wr = occDsnpHitmN1Wr := (rfl)
@[simp] theorem occOf_dsnpHitmN2Wr : occOf .dsnpHitmN2Wr = occDsnpHitmN2Wr := (rfl)
@[simp] theorem occOf_dsnpHitmN3Wr : occOf .dsnpHitmN3Wr = occDsnpHitmN3Wr := (rfl)
@[simp] theorem occOf_dsnpHitmN4Wr : occOf .dsnpHitmN4Wr = occDsnpHitmN4Wr := (rfl)
@[simp] theorem occOf_dsnpHitmN1Rw : occOf .dsnpHitmN1Rw = occDsnpHitmN1Rw := (rfl)
@[simp] theorem occOf_dsnpHitmN2Rw : occOf .dsnpHitmN2Rw = occDsnpHitmN2Rw := (rfl)
@[simp] theorem occOf_dsnpHitmN3Rw : occOf .dsnpHitmN3Rw = occDsnpHitmN3Rw := (rfl)
@[simp] theorem occOf_dsnpHitmN4Rw : occOf .dsnpHitmN4Rw = occDsnpHitmN4Rw := (rfl)
@[simp] theorem occOf_aseFpSpMinSpec : occOf .aseFpSpMinSpec = occAseFpSpMinSpec := (rfl)
@[simp] theorem occOf_aseFpHpMinSpec : occOf .aseFpHpMinSpec = occAseFpHpMinSpec := (rfl)
@[simp] theorem occOf_aseFpBf16MinSpec : occOf .aseFpBf16MinSpec = occAseFpBf16MinSpec := (rfl)
@[simp] theorem occOf_aseFpFp8MinSpec : occOf .aseFpFp8MinSpec = occAseFpFp8MinSpec := (rfl)
@[simp] theorem occOf_aseSveFpSpMinSpec : occOf .aseSveFpSpMinSpec = occAseSveFpSpMinSpec := (rfl)
@[simp] theorem occOf_aseSveFpHpMinSpec : occOf .aseSveFpHpMinSpec = occAseSveFpHpMinSpec := (rfl)
@[simp] theorem occOf_aseSveFpBf16MinSpec : occOf .aseSveFpBf16MinSpec = occAseSveFpBf16MinSpec := (rfl)
@[simp] theorem occOf_aseSveFpFp8MinSpec : occOf .aseSveFpFp8MinSpec = occAseSveFpFp8MinSpec := (rfl)
@[simp] theorem occOf_seFpSpMinSpec : occOf .seFpSpMinSpec = occSeFpSpMinSpec := (rfl)
@[simp] theorem occOf_seFpHpMinSpec : occOf .seFpHpMinSpec = occSeFpHpMinSpec := (rfl)
@[simp] theorem occOf_seFpBf16MinSpec : occOf .seFpBf16MinSpec = occSeFpBf16MinSpec := (rfl)
@[simp] theorem occOf_seFpFp8MinSpec : occOf .seFpFp8MinSpec = occSeFpFp8MinSpec := (rfl)
@[simp] theorem occOf_smeFpSpMinSpec : occOf .smeFpSpMinSpec = occSmeFpSpMinSpec := (rfl)
@[simp] theorem occOf_smeFpHpMinSpec : occOf .smeFpHpMinSpec = occSmeFpHpMinSpec := (rfl)
@[simp] theorem occOf_smeFpBf16MinSpec : occOf .smeFpBf16MinSpec = occSmeFpBf16MinSpec := (rfl)
@[simp] theorem occOf_smeFpFp8MinSpec : occOf .smeFpFp8MinSpec = occSmeFpFp8MinSpec := (rfl)
@[simp] theorem occOf_sveFpSpMinSpec : occOf .sveFpSpMinSpec = occSveFpSpMinSpec := (rfl)
@[simp] theorem occOf_sveFpHpMinSpec : occOf .sveFpHpMinSpec = occSveFpHpMinSpec := (rfl)
@[simp] theorem occOf_sveFpBf16MinSpec : occOf .sveFpBf16MinSpec = occSveFpBf16MinSpec := (rfl)
@[simp] theorem occOf_sveFpFp8MinSpec : occOf .sveFpFp8MinSpec = occSveFpFp8MinSpec := (rfl)
@[simp] theorem occOf_fpBf16FixedOpsSpec : occOf .fpBf16FixedOpsSpec = occFpBf16FixedOpsSpec := (rfl)
@[simp] theorem occOf_fpSpMinSpec : occOf .fpSpMinSpec = occFpSpMinSpec := (rfl)
@[simp] theorem occOf_fpHpMinSpec : occOf .fpHpMinSpec = occFpHpMinSpec := (rfl)
@[simp] theorem occOf_fpBf16MinSpec : occOf .fpBf16MinSpec = occFpBf16MinSpec := (rfl)
@[simp] theorem occOf_fpFp8MinSpec : occOf .fpFp8MinSpec = occFpFp8MinSpec := (rfl)
@[simp] theorem occOf_fpSpFixedMinOpsSpec : occOf .fpSpFixedMinOpsSpec = occFpSpFixedMinOpsSpec := (rfl)
@[simp] theorem occOf_fpHpFixedMinOpsSpec : occOf .fpHpFixedMinOpsSpec = occFpHpFixedMinOpsSpec := (rfl)
@[simp] theorem occOf_fpBf16FixedMinOpsSpec : occOf .fpBf16FixedMinOpsSpec = occFpBf16FixedMinOpsSpec := (rfl)
@[simp] theorem occOf_fpFp8FixedMinOpsSpec : occOf .fpFp8FixedMinOpsSpec = occFpFp8FixedMinOpsSpec := (rfl)
@[simp] theorem occOf_fpSpScaleMinOpsSpec : occOf .fpSpScaleMinOpsSpec = occFpSpScaleMinOpsSpec := (rfl)
@[simp] theorem occOf_fpHpScaleMinOpsSpec : occOf .fpHpScaleMinOpsSpec = occFpHpScaleMinOpsSpec := (rfl)
@[simp] theorem occOf_fpBf16ScaleMinOpsSpec : occOf .fpBf16ScaleMinOpsSpec = occFpBf16ScaleMinOpsSpec := (rfl)
@[simp] theorem occOf_fpFp8ScaleMinOpsSpec : occOf .fpFp8ScaleMinOpsSpec = occFpFp8ScaleMinOpsSpec := (rfl)
@[simp] theorem occOf_fpSpScale2MinOpsSpec : occOf .fpSpScale2MinOpsSpec = occFpSpScale2MinOpsSpec := (rfl)
@[simp] theorem occOf_fpHpScale2MinOpsSpec : occOf .fpHpScale2MinOpsSpec = occFpHpScale2MinOpsSpec := (rfl)
@[simp] theorem occOf_fpBf16Scale2MinOpsSpec : occOf .fpBf16Scale2MinOpsSpec = occFpBf16Scale2MinOpsSpec := (rfl)
@[simp] theorem occOf_fpFp8Scale2MinOpsSpec : occOf .fpFp8Scale2MinOpsSpec = occFpFp8Scale2MinOpsSpec := (rfl)

end Sys2Proof.Machine
end

