-- ==== Sys2Proof/Tests/Slice0.lean ====
section
/-!
SUPPORT. Tests: what WellFormed refuses, event numbers written out from the spec, vectors of spec/95_test_vectors.md (V<n>), and for every
statement with hypotheses a state and operands that meet them together (witness_<statement>).
-/

open Sys2Proof Sys2Proof.Machine

namespace Sys2Proof.Tests

/-! WellFormed: each check refuses. -/

theorem test_wellFormed_reset : resetImpl.wellFormed = true := by decide
theorem test_width_refused : { resetImpl with evtCountWidth := 9 }.wellFormed = false := by decide
theorem test_counters_refused : { resetImpl with numCounters := 32 }.wellFormed = false := by decide
theorem test_slots_refused : { resetImpl with slots := 0 }.wellFormed = false := by decide
theorem test_implemented_refused :
    { resetImpl with evtCountWidth := 10, implemented := .only [.samplePop] }.wellFormed = false := by decide
theorem test_impdef_refused : { resetImpl with impdefRange := [(0x0008, none)] }.wellFormed = false := by decide
theorem test_rao_refused : { resetImpl with raoBits := [.l1dCacheAllocate] }.wellFormed = false := by decide
theorem test_gcsStep_refused :
    { resetImpl with features := [], implemented := .only [.gcstlbWalkStep] }.wellFormed = false := by decide
theorem test_gcsCache_refused : { resetImpl with implemented := .only [.stallBackendL1gcs] }.wellFormed = false := by decide
theorem test_gcsTlb_refused : { resetImpl with implemented := .only [.stallBackendGcstlb] }.wellFormed = false := by decide
theorem test_shared_refused : { resetImpl with sharedOutside := [.bus] }.wellFormed = false := by decide

/-! Event numbers, bit by bit from the entry headings (30_encoding.md R90), one or more of every file of events. -/

theorem test_decode_0008 : decodeTableWord 16 0b0000000000001000 = some .instRetired := by decide
theorem test_decode_001E : decodeTableWord 16 0b0000000000011110 = some .chain := by decide
theorem test_decode_003F : decodeTableWord 16 0b0000000000111111 = some .stallSlot := by decide
theorem test_decode_00BF : decodeTableWord 16 0b0000000010111111 = some .l2dCacheExtPropPrfmIr := by decide
theorem test_decode_400D : decodeTableWord 16 0b0100000000001101 = some .pmuOvfs := by decide
theorem test_decode_4026 : decodeTableWord 16 0b0100000000100110 = some .memAccessCheckedWr := by decide
theorem test_decode_80C0 : decodeTableWord 16 0b1000000011000000 = some .fpScaleOpsSpec := by decide
theorem test_decode_8128 : decodeTableWord 16 0b1000000100101000 = some .dtlbWalkPercyc := by decide
theorem test_decode_81C0 : decodeTableWord 16 0b1000000111000000 = some .l1iCacheHitRd := by decide
theorem test_decode_82B0 : decodeTableWord 16 0b1000001010110000 = some .l1iCacheMissRetired := by decide
theorem test_decode_8344 : decodeTableWord 16 0b1000001101000100 = some .gcstlbWalk := by decide
theorem test_decode_83A0 : decodeTableWord 16 0b1000001110100000 = some .n1CacheHitRd := by decide
/-- V72, V73: gaps of the number space. -/
theorem test_decode_gaps : [0x0049, 0x004A, 0x004B, 0x0080, 0x0085, 0x0089, 0x4007, 0x4008, 0xFFFF].all
    (fun w => (decodeWord (BitVec.ofNat 16 w)).isNone) = true := by decide
/-- V79: the IMPLEMENTATION DEFINED range comes first. -/
theorem test_decode_impdef :
    decodeFor { resetImpl with impdefRange := [(0xC0FF, some .l1dCache)] } 0xC0FF = some .l1dCache := by decide
/-- 30_encoding.md R99: a number of item U19 used for another event. -/
theorem test_decode_u19 :
    decodeFor { resetImpl with features := [], u19 := [(.l1dCacheRd, .other (some .instRetired))] } 0x0040 = some .instRetired := by decide
/-- V78: a number with no entry. V12: one not implemented. -/
theorem test_decode_unused : decodeFor { resetImpl with implemented := .except [.l1dCacheAllocate] } 0x001F = none := by decide

/-! A small machine of one PE. -/

/-- Parameters with W = 32 and without EL2, as the vectors take them. -/
def plain : Impl := { resetImpl with features := [], haveEl2 := false, haveEl3 := false, numCounters := 2 }

/-- A PE with the counters given and the values of HPMN and EPMN. -/
def pe (cs : List Counter) (hpmn epmn : Nat) : Pe := { counters := cs, hpmn := { written := hpmn }, epmn := { written := epmn } }

/-- An occurrence as a counter of PE 0 with MT 0 sees it. -/
def obs (impl : Impl) (o : Occurrence) : Obs := { impl := impl, pe := 0, mt := false, serial := 0, occ := o }

/-- One PE with two counters. -/
def machine (impl : Impl) (c d : Counter) (agenda : List Offer) (inputs : List Input) : State :=
  { impl := impl
    pes := [{ pe [c, d] 2 2 with inten := 0xFFFFFFFF }]
    agenda := agenda, inputs := inputs, draws := 0, out := [] }

/-- An occurrence of the events listed, on PE 0. -/
def occurrence (l : List Instr) : Occurrence := { pe := some 0, owners := [0], supplied := .only l, active := [0] }

/-- A machine with the PE, the offers and the inputs given. -/
def stateOf (impl : Impl) (q : Pe) (agenda : List Offer) (inputs : List Input) : State :=
  { impl := impl, pes := [q], agenda := agenda, inputs := inputs, draws := 0, out := [] }

/-- It is offered to counter n. -/
def offer (l : List Instr) (n : Nat) : Offer := { happening := .occurs 0 (occurrence l), sink := .counter 0 n }

/-- The count of counter n after one step. -/
def countAfter (s : State) (n : Nat) : Option Nat :=
  match step s with
  | .next t => (t.counter? 0 n).map (fun c => c.count.toNat)
  | _ => none

/-- Item U91 of 93_implementation_defined.md is one Boolean of FP_SPEC: data movement, conditional select and conversion are counted or not
together. -/
theorem test_fpSpec_u91 : ∀ f ∈ [Fact.dataMovement, .conditionalSelect, .fpConversion], ∀ answer : Bool,
    occFpSpec (obs { plain with choices := if answer then [(91, .fpSpec)] else [] }
      { occurrence [.fpSpec] with facts := [f] }) = answer := by decide

/-- R414: a stall cycle with a non-cacheable access in progress and no last-level miss is counted with Armv8.7, and otherwise by U80. -/
theorem test_stallBackendMem_u80 : ∀ armv8p7 answer : Bool,
    occStallBackendMem (obs { plain with
        features := if armv8p7 then [.armv8p7] else []
        choices := if answer then [(80, .stallBackendMem)] else [] }
      { occurrence [.cpuCycles, .stallBackendMembound, .stallBackendMem] with
        facts := [.nonCacheableInProgress], blocked := [0], slots := [{ available := [0] }] }) = (armv8p7 || answer) := by decide

/-- R735, R744: the event that is implemented alone counts the rename stalls; of two, one does. -/
theorem test_rename : ∀ frontend backend atFrontend : Bool, (frontend || backend) = true →
    let b := obs { plain with
        implemented := .except ((if frontend then [] else [.stallFrontendRename]) ++ if backend then [] else [.stallBackendRename])
        renameAtFrontend := atFrontend }
      (occurrence [])
    b.frontendCountsRename = (frontend && (atFrontend || !backend))
      ∧ b.backendCountsRename = !b.frontendCountsRename := by decide
/-- R735: STALL_BACKEND_RENAME, not implemented, makes nothing zero. -/
theorem test_stallFrontendRename_alone :
    occStallFrontendRename (obs { plain with implemented := .except [.stallBackendRename], renameAtFrontend := false }
      { occurrence [.cpuCycles, .stallFrontendCpubound, .stallFrontendRename] with slots := [{}] }) = true := by decide

/-- R234, R271: with FEAT_PMUv3p9 an Advanced SIMD scalar instruction is in no class of Advanced SIMD, SVE or SME instructions; without it item
U24 decides. -/
theorem test_aseScalar_class : ∀ pmuv3p9 answer : Bool, ∀ occ ∈ [occAseInstRetired, occAseSveInstRetired, occSeInstRetired],
    occ (obs { plain with
        features := if pmuv3p9 then [.pmuv3p9] else []
        choices := if answer then [(24, .aseInstRetired)] else [] }
      { occurrence [.instRetired, .aseInstRetired] with facts := [.aseScalar] }) = (!pmuv3p9 && answer) := by decide

/-- R231: the list of SIMD_INST_SPEC (R433). -/
theorem test_simdInstRetired_nonSimd :
    occSimdInstRetired (obs plain { occurrence [.simdInstRetired] with facts := [.nonSimdDataProcessing] }) = false := by decide

/-- R261, R363: what is classified as a load or as a store is counted; the environment's own answer for the union is not consulted. -/
theorem test_ldst_union : ∀ z ∈ [(Instr.ldAnyRetired, Instr.ldSpec, true), (.stAnyRetired, .stSpec, true), (.ldstAnyRetired, .ldstSpec, false)],
    occLdstAnyRetired (obs plain (occurrence [.instRetired, z.1])) = z.2.2
      ∧ occLdstSpec (obs plain (occurrence [.instSpec, z.2.1])) = z.2.2 := by decide

/-- R265, R511: an SVE2 cryptographic instruction is left out only where the Cryptographic Extension is implemented. -/
theorem test_sve_crypto : ∀ crypto : Bool,
    let impl := { plain with features := .sve2 :: if crypto then [.crypto] else [] }
    occSveRetired (obs impl { occurrence [.instRetired, .sveRetired, .cryptoRetired] with facts := [.sve2Cryptographic] }) = !crypto
      ∧ Obs.classSveSpec (obs impl { occurrence [.instSpec, .sveSpec, .cryptoSpec] with facts := [.sve2Cryptographic] }) = !crypto := by
  decide

/-- R1504: an interrupt is no Software change of the PC; an SVC that generates an exception is one without FEAT_PMUv3p9 where U10 says so. -/
theorem test_pcWrite_exceptions : ∀ svc : Bool,
    occPcWriteRetired (obs { plain with sets := [((10, .pcWriteRetired), .except [])] }
      { occurrence [.pcWriteRetired, .excTaken] with facts := if svc then [.exceptionGenerating] else [] }) = svc := by decide

/-- R1136: the walks in progress are added on a Processor cycle on which the counting PE, with MT 0, is not active (R278 is CPU_CYCLES's). -/
theorem test_percyc_inactive :
    countAfter (machine { plain with multithreaded := true, affinity := [0] } { evtCount := 0x8346, count := 0x10 } {}
      [{ happening := .occurs 0 { occurrence [.cpuCycles] with
          active := [], progress := [{ event := .gcstlbWalk, pe := some 0, count := 2 }] }, sink := .counter 0 0 }] []) 0 = some 0x12 := by
  decide

/-- R1524, R1560: with FEAT_PMUv3p9 a cycle whose clocks are stopped adds nothing, whatever is in progress. -/
theorem test_percyc_stopped :
    countAfter (machine { plain with features := [.pmuv3p9] } { evtCount := 0x8346, count := 0x10 } {}
      [{ happening := .occurs 0 { occurrence [.cpuCycles] with
          facts := [.clocksStopped], progress := [{ event := .gcstlbWalk, pe := some 0, count := 2 }] }, sink := .counter 0 0 }] []) 0
      = some 0x10 := by decide

/-- R1560: at the processor's rate BUS_CYCLES counts a Processor cycle, of the other PE of the processor too, and no other occurrence. -/
theorem test_busCycles_rate : ∀ rate : Bool, ∀ pe ∈ [0, 1], ∀ bus : Bool,
    countAfter (machine { plain with multithreaded := true, affinity := [0, 0], busAtProcessorRate := rate } { evtCount := 0x001D } {}
      [{ happening := .occurs 0 { occurrence (if bus then [.busCycles] else [.cpuCycles]) with pe := some pe, active := [] },
         sink := .counter 0 0 }] []) 0
      = some (if (if rate then !bus else bus && pe == 0) then 1 else 0) := by decide

/-- R136: with U42 answered no, a transfer on a coherency request is counted where it is Unattributable. -/
theorem test_unattributableWriteBack : ∀ pe? : Option Nat, (pe? = none ∨ pe? = some 0) →
    occL1dCacheWb (obs { plain with sets := [((42, .l1dCacheWb), .only [])] }
      { occurrence [.l1dCacheWb] with pe := pe?, facts := [.coherencyTransfer] }) = pe?.isNone := by
  rintro _ (rfl | rfl) <;> decide

/-- R128: export_allowed is one answer for each overflow: counter 0 overflows with its export withheld, and by CHAIN counter 1 without. -/
theorem test_withheld : ∀ n ∈ [0, 1],
    ((((machine plain {} {} [] []).countAt 0 n 0xFFFFFFFF 1 [.counter 0 0]).agenda.filterMap (fun f =>
      match f.happening with
      | .overflow c => some c.exportAllowed
      | _ => none)).eraseDups) = [n == 1] := by decide

/-- V1. -/
theorem test_count : countAfter (machine plain { evtCount := 0x0008, count := 5 } {} [offer [.instRetired] 0] []) 0 = some 6 := by
  decide
/-- V2. -/
theorem test_wrap32 :
    countAfter (machine plain { evtCount := 0x0008, count := 0xFFFFFFFF } {} [offer [.instRetired] 0] []) 0 = some 0 := by decide
/-- V6. -/
theorem test_carry64 :
    countAfter (machine { plain with features := [.pmuv3p5] } { evtCount := 0x0008, count := 0xFFFFFFFF } {}
      [offer [.instRetired] 0] []) 0 = some 0x100000000 := by decide
/-- V4. -/
theorem test_slots :
    countAfter (machine plain { evtCount := 0x003F, count := 0xFFFFFFFE } {}
      [{ happening := .occurs 0 { occurrence [.cpuCycles] with slots := [{}, {}, {}, {}] }, sink := .counter 0 0 }] []) 0
      = some 2 := by decide
/-- V10. -/
theorem test_no_entry : countAfter (machine plain { evtCount := 0x0049, count := 5 } {} [offer [.instRetired] 0] []) 0 = some 5 := by
  decide
/-- V13. -/
theorem test_filter :
    countAfter (machine plain { evtCount := 0x0008, count := 5, filter := .none } {} [offer [.instRetired] 0] []) 0 = some 5 := by
  decide
/-- V20, the second step. -/
theorem test_chain :
    countAfter (machine plain { evtCount := 0x0008 } { evtCount := 0x001E, count := 7 }
      [{ happening := .lowOverflow 0 [], sink := .counter 0 1 }] []) 1 = some 8 := by decide
/-- V23: FEAT_PMUv3p5 and LP 1. -/
theorem test_chain_disabled :
    countAfter { machine { plain with features := [.pmuv3p5] } {} {} [{ happening := .lowOverflow 0 [], sink := .counter 0 1 }] [] with
      pes := [{ pe [{}, { evtCount := 0x001E, count := 7 }] 2 2 with lp := { written := true } }] } 1 = some 7 := by decide
/-- V60, V62. -/
theorem test_swIncr :
    countAfter (machine plain {} {} [{ happening := .pmswincWrite 0 1 {} [], sink := .counter 0 0 }] []) 0 = some 1
      ∧ countAfter (machine plain {} {} [{ happening := .pmswincWrite 0 0 {} [], sink := .counter 0 0 }] []) 0 = some 0 := by
  decide
/-- V90. -/
theorem test_pmceid :
    let i : Impl := { plain with implemented := .only [.swIncr, .instRetired, .cpuCycles, .chain, .brRetired, .stallSlot] }
    i.pmceid 0 = 0x0000000040020101 ∧ i.pmceid 1 = 0x0000000080000002 := by decide
/-- V91, with the AArch32 words. -/
theorem test_pmceid32 :
    let i : Impl := { plain with implemented := .only [.samplePop, .cntCycles, .pmuOvfs, .trbTrig, .ldstAlignLat] }
    i.pmceid 0 = 0x0000401100000000 ∧ i.pmceid32 2 = 0x4011 ∧ i.pmceid32 3 = 1 := by decide
/-- V101, V102. -/
theorem test_scale :
    incScale .fpScaleOpsSpec (obs plain { ops := 16, vl := 512 }) = 4
      ∧ incScale2 .fpScale2OpsSpec (obs plain { ops := 256, vl := 512 }) = 16 := by
  decide
/-- S9: an atomic load of 32 bits. -/
theorem test_atomicLoad :
    let b : Obs := obs plain { ldst := { kind := .atomicLoad, msize := 32 } }
    incFixedOps b = 2 ∧ incFixedOpsHalf b = 1 ∧ incFixedBytes b = 8 ∧ incFixedBytesHalf b = 4 := by decide
/-- V104 to V106. -/
theorem test_scaleBytes :
    let k := fun l : LdSt => incScaleBytes .ldstScaleBytesSpec
      (obs plain { ldst := l })
    k { csize := 32, msize := 32, regs := 1 } = 16 ∧ k { csize := 64, msize := 8, regs := 1 } = 2
      ∧ k { csize := 16, msize := 16, regs := 2 } = 32 := by decide
/-- S4: BX R14 is a procedure return, BX R0 (no listed name) is not. -/
theorem test_brReturn :
    let b := fun l : List Form => (obs plain { occurrence [.pcWriteRetired, .brReturnRetired, .instRetired] with isa := .a32, forms := l } : Obs)
    occBrReturnRetired (b [.a32BxR14]) = true ∧ occBrReturnRetired (b []) = false := by decide
/-- S5: MSR CONTEXTIDR_EL1 is counted, MSR CONTEXTIDR_EL12 is not. -/
theorem test_cidWrite :
    let b := fun r : SysReg => (obs resetImpl { occurrence [.cidWriteRetired] with regWrite := some (r, .msr) } : Obs)
    occCidWriteRetired (b .contextidrEl1) = true ∧ occCidWriteRetired (b .contextidrEl12) = false := by decide
/-- V140, V142, V65: host steps refused. -/
theorem test_refusals :
    step (machine plain {} {} [] [.readPmevcntr 0 2]) = .refused .noSuchCounter
      ∧ step (machine plain {} {} [] [.writeControl 0 (.hpmn 2)]) = .refused .fieldAbsent
      ∧ step (machine plain {} {} [] [.readPmswinc 0]) = .refused .readOfPmswinc := ⟨rfl, rfl, rfl⟩
/-- The first step after reset runs the event placed by `withFetchWord`. -/
theorem test_fetchWord : countAfter (State.reset.withFetchWord 16 0x0008) 0 = some 1 := by decide

/-! Witnesses. -/

/-- An implemented event; a number of the IMPLEMENTATION DEFINED range; and outside that range an event's own number, and a number of U19
used for another event. -/
theorem witness_ImplementedEventsDecode :
    (∃ (impl : Impl) (e : Instr), impl.wellFormed = true ∧ impl.uses e = true)
    ∧ (∃ (impl : Impl) (w : EvtWord) (x : Option Instr) (before after : List (EvtWord × Option Instr)),
        impl.impdefRange = before ++ (w, x) :: after ∧ (∀ y, (w, y) ∉ before) ∧ impl.wellFormed = true ∧ x = some .l1dCache)
    ∧ (∃ (impl : Impl) (w : EvtWord) (e : Instr), (∀ x, (w, x) ∉ impl.impdefRange) ∧ w = encode e ∧ impl.uses e = true)
    ∧ ∃ (impl : Impl) (w : EvtWord) (a e : Instr), (∀ x, (w, x) ∉ impl.impdefRange) ∧ impl.wellFormed = true ∧ w = encode a
        ∧ isU19 a = true ∧ impl.has .pmuv3p8 = false ∧ impl.u19Meaning a = .other (some e) :=
  ⟨⟨resetImpl, .fpFp8Scale2MinOpsSpec, by decide, by decide⟩,
    ⟨{ resetImpl with impdefRange := [(0xC0FE, none), (0xC0FF, some .l1dCache)] }, 0xC0FF, some .l1dCache, [(0xC0FE, none)], [], rfl,
      (by intro y h; simp at h), by decide, rfl⟩,
    ⟨resetImpl, 0x8494, .fpFp8Scale2MinOpsSpec, (fun _ h => nomatch h), rfl, by decide⟩,
    ⟨{ plain with implemented := .only [], u19 := [(.l1dCacheRd, .other (some .instRetired))] }, 0x0040, .l1dCacheRd, .instRetired,
      (fun _ h => nomatch h), by decide, rfl, rfl, by decide, rfl⟩⟩

theorem witness_ReservedNumbers : ∃ x : Nat, x < 0x40 := ⟨0x3F, by decide⟩

theorem witness_UnselectedCountsNothing :
    ∃ (s : State) (h : Happening) (p n : Nat) (rest : List Offer) (c : Counter),
      s.agenda = { happening := h, sink := .counter p n } :: rest ∧ s.counter? p n = some c
      ∧ decodeFor s.impl c.evtCount = none :=
  ⟨machine plain { evtCount := 0x0049 } {} [offer [.instRetired] 0] [], _, 0, 0, [], _, rfl, rfl, by decide⟩

theorem witness_StepRunsDecoded :
    (∃ (s : State) (h : Happening) (p n : Nat) (rest : List Offer) (c : Counter) (i : Instr),
      s.agenda = { happening := h, sink := .counter p n } :: rest ∧ s.counter? p n = some c
      ∧ decodeFor s.impl c.evtCount = some i)
    ∧ (∃ (s : State) (h : Happening) (w : EvtWord) (rest : List Offer) (i : Instr),
      s.agenda = { happening := h, sink := .consumer w } :: rest ∧ decodeFor s.impl w = some i)
    ∧ (∃ s : State, s.agenda = [] ∧ s.inputs = [])
    ∧ ∃ (s : State) (i : Input) (rest : List Input), s.agenda = [] ∧ s.inputs = i :: rest :=
  ⟨⟨machine plain { evtCount := 0x0008 } {} [offer [.instRetired] 0] [], _, 0, 0, [], _, .instRetired, rfl, rfl, by decide⟩,
    ⟨machine plain {} {} [{ happening := .overflow ⟨.counter 0 0, true, false, true⟩, sink := .consumer 0x400F }] [], _, 0x400F, [],
      .pmuHovfs, rfl, by decide⟩,
    ⟨State.reset, rfl, rfl⟩, ⟨machine plain {} {} [] [.readPmevcntr 0 0], _, [], rfl, rfl⟩⟩

/-- The invariant of the small machine with one offer of each kind of sink. -/
theorem witness_StepKeepsInv : ∃ s t : State, s.Inv ∧ step s = .next t :=
  ⟨{ State.reset with agenda := [{ happening := .lowOverflow 0 [], sink := .counter 0 1 }], draws := 1 }, _,
    ⟨by decide, by decide, by decide, by decide⟩, rfl⟩

theorem witness_StepKeepsParameters : ∃ s t : State, step s = .next t := ⟨State.reset, _, rfl⟩

theorem witness_EventCounted :
    ∃ (i : Instr) (s : State) (serial : Nat) (o : Occurrence) (p n : Nat) (rest : List Offer) (c : Counter),
      hasAlgorithm i = false ∧ s.agenda = { happening := .occurs serial o, sink := .counter p n } :: rest
      ∧ s.counter? p n = some c ∧ Admits s i p c serial o
      ∧ (s.observe p c serial o).attributedTo i (attributionOf i) o.pe o.owners = true :=
  ⟨.l1dCache, machine plain { evtCount := 0x0004 } {} [offer [.l1dCache] 0] [], 0, _, 0, 0, [], _, rfl, rfl, rfl,
    ⟨by decide, by decide, by rw [occOf_l1dCache]; decide⟩, by decide⟩

theorem witness_EventNotCounted :
    (∃ (i : Instr) (s : State) (serial : Nat) (o : Occurrence) (p n : Nat) (rest : List Offer) (c : Counter),
      hasAlgorithm i = false ∧ s.agenda = { happening := .occurs serial o, sink := .counter p n } :: rest
      ∧ s.counter? p n = some c
      ∧ ¬(Admits s i p c serial o
          ∧ (s.observe p c serial o).attributedTo i (attributionOf i) o.pe o.owners = true))
    ∧ ∃ (i : Instr) (s : State) (h : Happening) (k : Sink) (rest : List Offer), hasAlgorithm i = false
      ∧ s.agenda = { happening := h, sink := k } :: rest ∧ ∀ serial o, h ≠ .occurs serial o :=
  ⟨⟨.instRetired, machine plain { evtCount := 0x0008, filter := .none } {} [offer [.instRetired] 0] [], 0, _, 0, 0, [], _, rfl, rfl, rfl,
      fun h => absurd h.1.filter (by decide)⟩,
    ⟨.instRetired, machine plain {} {} [{ happening := .lowOverflow 0 [], sink := .counter 0 1 }] [], _, _, [], rfl, rfl,
      by intro _ _ h; cases h⟩⟩

/-- The first event of the list and the last, of a counter of a PE whose occurrence is its own. -/
theorem witness_LaterEventsCompleteA :
    ∀ i ∈ [Instr.dsnpHitFar, .dsnpHitNearLdstRetired], ∃ (s : State) (o : Occurrence) (c : Counter),
      s.agenda = [{ happening := .occurs 0 o, sink := .counter 0 0 }] ∧ s.counter? 0 0 = some c ∧ o.pe = some 0
      ∧ c.filter.passes o.ctx = true ∧ occOf i (s.observe 0 c 0 o) = true := by
  intro i hi
  refine ⟨machine resetImpl {} {} [{ happening := .occurs 0 { anyOccurrence with supplied := .except [.prfRetired] }, sink := .counter 0 0 }] [],
    _, _, rfl, rfl, rfl, rfl, ?_⟩
  revert i
  simp only [List.forall_mem_cons, List.not_mem_nil, IsEmpty.forall_iff, implies_true, and_true]
  exact ⟨by rw [occOf_dsnpHitFar]; decide, by rw [occOf_dsnpHitNearLdstRetired]; decide⟩

/-- The first event of the first list, and one of each kind of the second. -/
theorem witness_LaterEventsCompleteB :
    ∀ i ∈ [Instr.dsnpHitFarLdstRetired, .l1dCacheRefillPercyc, .fpBf16FixedOpsSpec], ∃ (s : State) (o : Occurrence) (c : Counter),
      s.agenda = [{ happening := .occurs 0 o, sink := .counter 0 0 }] ∧ s.counter? 0 0 = some c ∧ o.pe = some 0
      ∧ c.filter.passes o.ctx = true ∧ occOf i (s.observe 0 c 0 o) = true := by
  intro i hi
  refine ⟨machine resetImpl {} {} [{ happening := .occurs 0 { anyOccurrence with supplied := .except [.prfRetired] }, sink := .counter 0 0 }] [],
    _, _, rfl, rfl, rfl, rfl, ?_⟩
  revert i
  simp only [List.forall_mem_cons, List.not_mem_nil, IsEmpty.forall_iff, implies_true, and_true]
  exact ⟨by rw [occOf_dsnpHitFarLdstRetired]; decide, by rw [occOf_l1dCacheRefillPercyc]; decide, by rw [occOf_fpBf16FixedOpsSpec]; decide⟩

theorem witness_EventFrame : ∃ (i : Instr) (s t : State), exec i s = .next t :=
  ⟨.swIncr, machine plain {} {} [{ happening := .pmswincWrite 0 1 {} [], sink := .counter 0 0 }] [], _, rfl⟩

theorem witness_CounterArithmetic :
    ∃ (impl : Impl) (old : CountWord) (k : Nat), old.toNat + 1 = 2 ^ impl.counterWidth ∧ overflow64 impl old k = true ∧ k < 2 ^ 32 :=
  ⟨resetImpl, 0xFFFFFFFFFFFFFFFF, 1, by decide⟩

theorem witness_OccurrenceReachesEveryCounter :
    ∃ (s : State) (o : Occurrence) (order : List (Nat × Nat)) (rest : List Input),
      s.agenda = [] ∧ s.inputs = .occurrence o order :: rest :=
  ⟨machine plain {} {} [] [.occurrence (occurrence [.instRetired]) [(0, 1)]], _, _, [], rfl, rfl⟩

theorem witness_SwIncrWriteReachesEveryCounter :
    ∃ (s : State) (w : Nat) (v : BitVec 64) (x : Ctx) (wh : List OverflowSource) (order : List (Nat × Nat)) (rest : List Input),
      s.agenda = [] ∧ s.inputs = .writePmswinc w v x wh order :: rest ∧ w < s.pes.length :=
  ⟨machine plain {} {} [] [.writePmswinc 0 3 {} [] []], 0, 3, {}, [], [], [], rfl, rfl, by decide⟩

/-- Its own PE; and another PE of a multithreaded implementation with MT 1. -/
theorem witness_SwIncrCounts :
    (∃ (s : State) (w : Nat) (v : BitVec 64) (x : Ctx) (wh : List OverflowSource) (p n : Nat) (rest : List Offer) (c : Counter),
      s.agenda = { happening := .pmswincWrite w v x wh, sink := .counter p n } :: rest ∧ s.counter? p n = some c
      ∧ v.getLsbD n = true ∧ c.filter.passes x = true ∧ w = p)
    ∧ ∃ (s : State) (w : Nat) (v : BitVec 64) (x : Ctx) (wh : List OverflowSource) (p n : Nat) (rest : List Offer) (c : Counter),
      s.agenda = { happening := .pmswincWrite w v x wh, sink := .counter p n } :: rest ∧ s.counter? p n = some c
      ∧ v.getLsbD n = true ∧ c.filter.passes x = true ∧ w ≠ p
      ∧ (s.impl.multithreaded = true ∧ c.mt.effective = true ∧ SameAffinity s.impl p w) :=
  ⟨⟨machine plain {} {} [{ happening := .pmswincWrite 0 2 {} [], sink := .counter 0 1 }] [], 0, 2, {}, [], 0, 1, [], _, rfl, rfl,
      by decide, by decide, rfl⟩,
    ⟨machine { plain with multithreaded := true, affinity := [0, 0] } { mt := { written := true } } {}
        [{ happening := .pmswincWrite 1 1 {} [], sink := .counter 0 0 }] [], 1, 1, {}, [], 0, 0, [], _, rfl, rfl,
      by decide, by decide, by decide, rfl, by decide, ⟨0, rfl, rfl⟩⟩⟩

theorem witness_SwIncrIgnores :
    ∃ (s : State) (w : Nat) (v : BitVec 64) (x : Ctx) (wh : List OverflowSource) (p n : Nat) (rest : List Offer) (c : Counter),
      s.agenda = { happening := .pmswincWrite w v x wh, sink := .counter p n } :: rest ∧ s.counter? p n = some c
      ∧ v.getLsbD n = false ∧ (w ≠ p ∧ s.impl.multithreaded = false) :=
  ⟨machine plain {} {} [{ happening := .pmswincWrite 1 2 {} [], sink := .counter 0 0 }] [], 1, 2, {}, [], 0, 0, [], _, rfl, rfl,
    by decide, by decide, rfl⟩

theorem witness_SwIncrTwice :
    ∃ (s : State) (v v' : BitVec 64) (x : Ctx) (wh : List OverflowSource) (p n : Nat) (rest : List Offer) (c : Counter),
      s.agenda = { happening := .pmswincWrite p v x wh, sink := .counter p n } :: rest ∧ s.counter? p n = some c
      ∧ v.getLsbD n = true ∧ v'.getLsbD n = true ∧ c.filter.passes x = true :=
  ⟨machine plain { count := 0xFFFFFFFF } {} [{ happening := .pmswincWrite 0 1 {} [], sink := .counter 0 0 }] [], 1, 3, {}, [], 0, 0,
    [], _, rfl, rfl, by decide, by decide, by decide⟩

/-- A machine whose odd counter is offered CHAIN, with the parameters and the PE given. -/
def chained (impl : Impl) (q : Pe) (m : Nat) : State :=
  { impl := impl, pes := [q], agenda := [{ happening := .lowOverflow 0 [], sink := .counter 0 m }], inputs := [], draws := 1, out := [] }

/-- In the first range and in the second. -/
theorem witness_ChainCounts :
    (∃ (s : State) (serial : Nat) (wh : List OverflowSource) (p m : Nat) (rest : List Offer) (q : Pe) (c : Counter),
      s.agenda = { happening := .lowOverflow serial wh, sink := .counter p m } :: rest ∧ s.pes[p]? = some q
      ∧ s.counter? p m = some c ∧ m % 2 = 1 ∧ ChainEnabled s.impl q m ∧ ¬AtBoundary s.impl q m ∧ c.chainFilterAll = true
      ∧ m < q.hpmn.effective)
    ∧ ∃ (s : State) (serial : Nat) (wh : List OverflowSource) (p m : Nat) (rest : List Offer) (q : Pe) (c : Counter),
      s.agenda = { happening := .lowOverflow serial wh, sink := .counter p m } :: rest ∧ s.pes[p]? = some q
      ∧ s.counter? p m = some c ∧ m % 2 = 1 ∧ ChainEnabled s.impl q m ∧ ¬AtBoundary s.impl q m ∧ c.chainFilterAll = true
      ∧ q.hpmn.effective ≤ m - 1 :=
  ⟨⟨chained resetImpl (pe [{}, {}] 2 2) 1, 0, [], 0, 1, [], _, _, rfl, rfl,
      rfl, rfl, .inr (.inr (.inl ⟨rfl, by decide, rfl⟩)), by unfold AtBoundary; decide, rfl, by decide⟩,
    ⟨chained resetImpl (pe [{}, {}] 0 2) 1, 0, [], 0, 1, [], _, _, rfl, rfl,
      rfl, rfl, .inr (.inr (.inr ⟨rfl, by decide, rfl⟩)), by unfold AtBoundary; decide, rfl, by decide⟩⟩

/-- At HPMN; at EPMN and not at HPMN; and at neither boundary with a counter that software did not program for CHAIN. -/
theorem witness_ChainUnpredictable :
    (∃ (s : State) (q : Pe) (c : Counter), s.agenda = [{ happening := .lowOverflow 0 [], sink := .counter 0 1 }]
      ∧ s.pes[0]? = some q ∧ s.counter? 0 1 = some c ∧ ChainEnabled s.impl q 1 ∧ s.impl.haveEl2 = true ∧ 1 = q.hpmn.effective)
    ∧ (∃ (s : State) (q : Pe) (c : Counter), s.agenda = [{ happening := .lowOverflow 0 [], sink := .counter 0 1 }]
      ∧ s.pes[0]? = some q ∧ s.counter? 0 1 = some c ∧ ChainEnabled s.impl q 1
      ∧ ¬(s.impl.haveEl2 = true ∧ 1 = q.hpmn.effective) ∧ s.impl.has .pmuv3Extpmn = true ∧ 1 = q.epmn.effective)
    ∧ ∃ (s : State) (q : Pe) (c : Counter), s.agenda = [{ happening := .lowOverflow 0 [], sink := .counter 0 1 }]
      ∧ s.pes[0]? = some q ∧ s.counter? 0 1 = some c ∧ ChainEnabled s.impl q 1 ∧ ¬AtBoundary s.impl q 1 ∧ c.chainFilterAll = false :=
  ⟨⟨chained resetImpl (pe [{}, {}] 1 1) 1, _, _, rfl, rfl, rfl, .inr (.inr (.inl ⟨rfl, by decide, rfl⟩)), rfl, rfl⟩,
    ⟨chained resetImpl (pe [{}, {}] 2 1) 1, _, _, rfl, rfl, rfl, .inr (.inr (.inl ⟨rfl, by decide, rfl⟩)), by decide, by decide, rfl⟩,
    ⟨chained plain (pe [{}, { chainFilterAll := false }] 2 2) 1, _, _, rfl, rfl, rfl, .inl (by decide), by unfold AtBoundary; decide,
      rfl⟩⟩

/-- An even counter; and an odd one with FEAT_PMUv3p5 and LP 1. -/
theorem witness_ChainIgnores :
    (∃ (s : State) (h : Happening) (p m : Nat) (rest : List Offer) (q : Pe),
      s.agenda = { happening := h, sink := .counter p m } :: rest ∧ s.pes[p]? = some q ∧ m % 2 = 0)
    ∧ ∃ (s : State) (h : Happening) (p m : Nat) (rest : List Offer) (q : Pe),
      s.agenda = { happening := h, sink := .counter p m } :: rest ∧ s.pes[p]? = some q ∧ m % 2 = 1 ∧ ¬ChainEnabled s.impl q m :=
  ⟨⟨chained resetImpl (pe [{}] 1 1) 0, _, 0, 0, [], _, rfl, rfl, rfl⟩,
    ⟨chained resetImpl { pe [{}, {}] 2 2 with lp := { written := true } } 1, _, 0, 1,
      [], _, rfl, rfl, rfl, by unfold ChainEnabled; decide⟩⟩

theorem witness_ChainMakes64BitCounter :
    ∃ (i : Instr) (s : State) (serial : Nat) (o : Occurrence) (p n : Nat) (rest : List Offer) (q : Pe) (c d : Counter),
      s.impl.has .pmuv3p5 = false ∧ n % 2 = 0 ∧ n + 1 < s.impl.numCounters
      ∧ s.agenda = { happening := .occurs serial o, sink := .counter p n } :: rest
      ∧ s.pes[p]? = some q ∧ s.counter? p n = some c ∧ s.counter? p (n + 1) = some d
      ∧ c.count.toNat < 2 ^ 32 ∧ d.count.toNat < 2 ^ 32
      ∧ decodeFor s.impl c.evtCount = some i ∧ hasAlgorithm i = false ∧ decodeFor s.impl d.evtCount = some .chain
      ∧ d.chainFilterAll = true ∧ ¬AtBoundary s.impl q (n + 1) ∧ Admits s i p c serial o
      ∧ (s.observe p c serial o).attributedTo i (attributionOf i) o.pe o.owners = true
      ∧ incrementOf i (s.observe p c serial o) < 2 ^ 32
      ∧ 2 ^ 32 ≤ c.count.toNat + incrementOf i (s.observe p c serial o) :=
  ⟨.instRetired, machine plain { evtCount := 0x0008, count := 0xFFFFFFFF } { evtCount := 0x001E, count := 0xFFFFFFFF }
      [offer [.instRetired] 0] [], 0, _, 0, 0, [], _, _, _, by decide, rfl, by decide, rfl, rfl, rfl, rfl, by decide, by decide,
    by decide, rfl, by decide, rfl, by unfold AtBoundary; decide, ⟨by decide, by decide, by rw [occOf_instRetired]; decide⟩, by decide,
    by decide, by decide⟩

/-- An overflow offered to the consumer of PMU_OVFS that meets the condition, for each of the three kinds of counter. -/
theorem witness_OvfsDelivered :
    ∀ src ∈ [OverflowSource.counter 0 0, .cycleCounter 0, .instructionCounter 0],
      ∃ (s : State) (c : OverflowCause) (w : EvtWord) (rest : List Offer) (q : Pe),
        s.agenda = { happening := .overflow c, sink := .consumer w } :: rest ∧ s.pes[c.source.pe]? = some q ∧ c.source = src
        ∧ OvfsCondition s.impl q c := by
  have h : ∀ src, src ∈ [OverflowSource.counter 0 0, .cycleCounter 0, .instructionCounter 0] →
      OvfsCondition { plain with features := [.pmuv3Icntr] } { pe [] 2 2 with inten := 0xFFFFFFFF, f0 := true }
        { source := src, ovf32 := true, ovf64 := true, exportAllowed := true } ∧ src.pe = 0 := by
    intro src hs
    fin_cases hs <;> exact ⟨by unfold OvfsCondition; decide, rfl⟩
  intro src hs
  exact ⟨stateOf { plain with features := [.pmuv3Icntr] } { pe [] 2 2 with inten := 0xFFFFFFFF, f0 := true }
      [{ happening := .overflow { source := src, ovf32 := true, ovf64 := true, exportAllowed := true }, sink := .consumer 0x400D }] [], _, 0x400D, [], _, rfl, by rw [(h src hs).2]; rfl, rfl, (h src hs).1⟩

/-- V42: HPMN 3, counter 3. -/
theorem witness_HovfsDelivered :
    ∃ (s : State) (c : OverflowCause) (w : EvtWord) (rest : List Offer) (q : Pe),
      s.agenda = { happening := .overflow c, sink := .consumer w } :: rest ∧ s.pes[c.source.pe]? = some q
      ∧ HovfsCondition s.impl q c :=
  ⟨stateOf { plain with haveEl2 := true } { pe [{}, {}, {}, {}] 3 4 with inten := 0xFFFFFFFF }
      [{ happening := .overflow { source := .counter 0 3, ovf32 := true, ovf64 := false, exportAllowed := true },
                   sink := .consumer 0x400F }] [], _, 0x400F, [], _, rfl, rfl,
    by unfold HovfsCondition; decide⟩

/-- An overflow that PMU_OVFS delivers and one that PMU_HOVFS delivers; and one whose bit of PMINTENSET is 0. -/
theorem witness_OverflowIsOfOneEvent :
    (∀ n ∈ [0, 3], ∃ (s : State) (c : OverflowCause) (w : EvtWord) (rest : List Offer),
      s.agenda = { happening := .overflow c, sink := .consumer w } :: rest ∧ c.source = .counter 0 n)
    ∧ ∃ (s : State) (c : OverflowCause) (w : EvtWord) (rest : List Offer) (p n : Nat) (q : Pe),
      s.agenda = { happening := .overflow c, sink := .consumer w } :: rest ∧ c.source = .counter p n ∧ s.pes[p]? = some q
      ∧ q.inten.getLsbD n = false :=
  ⟨fun n _ => ⟨stateOf { plain with haveEl2 := true } { pe [{}, {}, {}, {}] 3 4 with inten := 0xFFFFFFFF }
      [{ happening := .overflow ⟨.counter 0 n, true, false, true⟩, sink := .consumer 0x400D }] [], _, 0x400D, [], rfl, rfl⟩,
    ⟨stateOf plain (pe [{}, {}] 0 0) [{ happening := .overflow ⟨.counter 0 1, true, true, true⟩, sink := .consumer 0x400F }] [], _,
      0x400F, [], 0, 1, _, rfl, rfl, rfl, by decide⟩⟩

/-- PMU_OVFS, PMU_HOVFS and TRB_TRIG selected by a counter. -/
theorem witness_UncountableEvents :
    ∀ z ∈ [((0x400D : EvtWord), Instr.pmuOvfs), (0x400F, .pmuHovfs), (0x400E, .trbTrig)],
      ∃ (s : State) (h : Happening) (p n : Nat) (rest : List Offer) (c : Counter),
        s.agenda = { happening := h, sink := .counter p n } :: rest ∧ s.counter? p n = some c
        ∧ decodeFor s.impl c.evtCount = some z.2 ∧ s.impl.trbTrigCountable = false := by
  intro z hz
  exact ⟨machine { plain with trbTrigCountable := false } { evtCount := z.1 } {} [offer [z.2] 0] [], _, 0, 0, [], _, rfl, rfl,
    by revert z; decide, rfl⟩

theorem witness_Inclusions : ∃ (e x : Instr) (b : Obs), x ∈ parentsOf e ∧ occOf e b = true :=
  ⟨.ldRetired, .instRetired, obs plain (occurrence [.ldRetired, .instRetired]),
    by decide, by rw [occOf_ldRetired]; decide⟩

theorem witness_SetEqualities :
    (∃ e x y, intersectionOf e = some (x, y)) ∧ (∃ e x y, differenceOf e = some (x, y))
    ∧ (∃ e x y z, unionOf e = some (x, y, z))
    ∧ (∃ b : Obs, (occOf .sveFpBf16Spec b || occOf .smeFpBf16Spec b) = true)
    ∧ ∀ prf : Bool, ∃ b : Obs, occOf .prfRetired b = prf ∧ occOf .prfSpec b = prf := by
  refine ⟨⟨.brImmedTakenRetired, _, _, rfl⟩, ⟨.brPredRetired, _, _, rfl⟩, ⟨.seFpSpec, _, _, _, rfl⟩,
    ⟨obs resetImpl (occurrence [.fpSpec, .smeFpSpec, .smeFpBf16Spec, .seFpSpec]), ?_⟩, fun prf =>
    ⟨obs plain { occurrence (.instRetired :: .instSpec :: if prf then [.prfRetired, .prfSpec] else []) with forms := [.scalarPrfm] }, ?_⟩⟩
  · rw [occOf_smeFpBf16Spec, occOf_sveFpBf16Spec]
    decide
  · rw [occOf_prfRetired, occOf_prfSpec]
    revert prf
    decide

theorem witness_Exclusions : ∃ e x : Instr, x ∈ excludes e := ⟨.fpScaleOpsSpec, .fpFixedOpsSpec, by decide⟩

/-- With the event implemented and without it. -/
theorem witness_ConditionalInclusions :
    ∀ v : Bool, ∃ (e x y : Instr) (b : Obs), conditionalParents e = some (x, y) ∧ occOf e b = true ∧ b.impl.uses x = v := by
  intro v
  cases v
  · exact ⟨.l1dCacheRd, .l1dCacheRw, .l1dCache, obs { plain with implemented := .only [.l1dCacheRd] } (occurrence [.l1dCacheRd, .l1dCache]),
      rfl, by rw [occOf_l1dCacheRd]; decide, by decide⟩
  · exact ⟨.l1dCacheRd, .l1dCacheRw, .l1dCache, obs plain (occurrence [.l1dCacheRd, .l1dCacheRw, .l1dCache]), rfl,
      by rw [occOf_l1dCacheRd]; decide, by decide⟩

/-- A taken branch with FEAT_PMUv3p9; an interrupt; an indirect branch. -/
theorem witness_PcWriteWithPmuv3p9 :
    (∃ b : Obs, b.impl.has .pmuv3p9 = true ∧ occOf .pcWriteRetired b = true)
    ∧ (∃ b : Obs, occOf .excTaken b = true ∧ b.is .breakpointInstruction = false ∧ b.is .undefinedInstruction = false
      ∧ b.is .exceptionGenerating = false ∧ b.own .pcWriteRetired = true)
    ∧ ∃ b : Obs, occOf .brIndirectSpec b = true ∧ occOf .instSpec b = true ∧ b.is .branchNotTaken = false :=
  ⟨⟨obs resetImpl (occurrence [.pcWriteRetired]), by decide, by rw [occOf_pcWriteRetired]; decide⟩,
    ⟨obs plain (occurrence [.excTaken, .pcWriteRetired]), by rw [occOf_excTaken]; decide, by decide, by decide, by decide, by decide⟩,
    ⟨obs plain (occurrence [.instSpec, .pcWriteSpec, .brIndirectSpec]), by rw [occOf_brIndirectSpec]; decide,
      by rw [occOf_instSpec]; decide, by decide⟩⟩

/-- A write that CID_WRITE_RETIRED counts and one that TTBR_WRITE_RETIRED counts. -/
theorem witness_RegisterNameWrites :
    ∃ b d : Obs, b.occ.regWrite = some (.contextidrEl1, .msr) ∧ b.is .followedWithoutCse = false
      ∧ d.occ.regWrite = some (.ttbr1, .mcrr) ∧ d.is .followedWithoutCse = false :=
  ⟨obs plain { regWrite := some (.contextidrEl1, .msr) }, obs plain { regWrite := some (.ttbr1, .mcrr) }, rfl, by decide, rfl, by decide⟩

theorem witness_NeverCounted :
    ∃ b : Obs, ∀ f ∈ [Fact.storeExclusiveFailed, .otherException, .hvcUndefined, .invalidationOnly, .writeThrough, .refillOfOtherCache,
      .instructionAccess, .translationTableWalk, .writeBackAccess, .refillAccess, .architecturalError, .profilingDisabled, .captureFailed],
      b.is f = true :=
  ⟨obs plain { facts := [.storeExclusiveFailed, .otherException, .hvcUndefined, .invalidationOnly, .writeThrough, .refillOfOtherCache,
      .instructionAccess, .translationTableWalk, .writeBackAccess, .refillAccess, .architecturalError, .profilingDisabled,
      .captureFailed] }, by decide⟩

/-- Parameters of two PEs of one multithreaded processor and a third outside it, with the resource given shared by all. -/
def sharing (r : Resource) : Impl :=
  { plain with shared := [r], sharedOutside := [r], multithreaded := true, affinity := [0, 0, 1] }

/-- PE 0 is not of the processor of PE 2. -/
theorem sharing_outside (r : Resource) : ¬SameAffinity (sharing r) 0 2 := by
  rintro ⟨a, h1, h2⟩
  cases h1
  cases h2

/-- Both kinds of _PERCYC and other event; with MT 0 an access of another PE; with MT 1 one from outside the processor, and one of the
other PE of it, of an event with the clause and of one counted by such an event. -/
theorem witness_SharedCountsOnlyAttributable :
    (sharingClauseOf .l2dCache = some .l2dCache ∧ sharingClauseOf .busReqRdPercyc = some .bus)
    ∧ (∃ (i : Instr) (r : Resource) (s : State) (o : Occurrence) (c : Counter),
      attributionOf i = .shared r ∧ s.agenda = [{ happening := .occurs 0 o, sink := .counter 0 0 }] ∧ s.counter? 0 0 = some c
      ∧ r ∈ s.impl.shared ∧ c.mt.effective = false ∧ o.pe ≠ some 0)
    ∧ (∃ (i : Instr) (r : Resource) (s : State) (o : Occurrence) (c : Counter),
      attributionOf i = .shared r ∧ s.agenda = [{ happening := .occurs 0 o, sink := .counter 0 0 }] ∧ s.counter? 0 0 = some c
      ∧ r ∈ s.impl.shared ∧ c.mt.effective = true ∧ s.impl.multithreaded = true ∧ r ∈ s.impl.sharedOutside
      ∧ ∀ x, o.pe = some x → x ≠ 0 ∧ ¬SameAffinity s.impl 0 x)
    ∧ ∃ (i : Instr) (r : Resource) (s : State) (o : Occurrence) (c : Counter),
      (∃ x, sharingClauseOf x = some r ∧ attributionOf i = .sharedAs x r)
      ∧ s.agenda = [{ happening := .occurs 0 o, sink := .counter 0 0 }] ∧ s.counter? 0 0 = some c
      ∧ r ∈ s.impl.shared ∧ c.mt.effective = true ∧ s.impl.multithreaded = true ∧ r ∈ s.impl.sharedOutside ∧ o.pe = some 1
      ∧ SameAffinity s.impl 0 1 ∧ Admits s i 0 c 0 o :=
  ⟨⟨rfl, rfl⟩,
    ⟨.l2dCache, .l2dCache, machine (sharing .l2dCache) {} {} [{ happening := .occurs 0 { pe := some 1 }, sink := .counter 0 0 }] [], _, _,
      rfl, rfl, rfl, by decide, rfl, by decide⟩,
    ⟨.l2dCache, .l2dCache, machine (sharing .l2dCache) { mt := { written := true } } {}
        [{ happening := .occurs 0 { pe := some 2 }, sink := .counter 0 0 }] [], _, _, rfl, rfl, rfl, by decide, rfl, rfl, by decide,
      by rintro x ⟨⟩; exact ⟨by decide, sharing_outside _⟩⟩,
    ⟨.busReqRd, .bus, machine (sharing .bus) { mt := { written := true } } {}
        [{ happening := .occurs 0 { pe := some 1, supplied := .only [.busReqRd, .busReq] }, sink := .counter 0 0 }] [], _, _,
      ⟨.busReq, rfl, rfl⟩, rfl, rfl, by decide, rfl, rfl, by decide, rfl, ⟨0, rfl, rfl⟩,
      ⟨by decide, by decide, by rw [occOf_busReqRd]; decide⟩⟩⟩

/-- A _PERCYC event: with MT 0 and what another PE has in progress, and with MT 1 and what a PE outside the processor has. -/
theorem witness_SharedCountsOnlyAttributable_percyc :
    ∀ z ∈ [(false, 1), (true, 2)], ∃ (s : State) (o : Occurrence) (c : Counter),
      sharingClauseOf .busReqRdPercyc = some .bus ∧ attributionOf .busReqRdPercyc = .cycle
      ∧ s.agenda = [{ happening := .occurs 0 o, sink := .counter 0 0 }] ∧ s.counter? 0 0 = some c ∧ Resource.bus ∈ s.impl.shared
      ∧ Admits s .busReqRdPercyc 0 c 0 o ∧ o.pe = some 0 ∧ s.impl.multithreaded = true ∧ Resource.bus ∈ s.impl.sharedOutside
      ∧ c.mt.effective = z.1 ∧ o.progress.map (fun g => g.pe) = [some z.2] ∧ z.2 ≠ 0 ∧ ¬SameAffinity (sharing .bus) 0 2 := by
  intro z hz
  fin_cases hz <;> exact ⟨machine (sharing .bus) { mt := { written := _ } } {}
      [{ happening := .occurs 0 { occurrence [.busReqRdPercyc, .cpuCycles] with
          progress := [{ event := .busReqRd, pe := some _, count := 3 }] }, sink := .counter 0 0 }] [], _, _,
    rfl, rfl, rfl, rfl, by decide, ⟨by decide, by decide, by rw [occOf_busReqRdPercyc]; decide⟩, rfl, rfl, by decide, rfl, rfl, by decide,
    sharing_outside _⟩

/-- With the cache shared and not. -/
theorem witness_UnattributableWriteBack :
    (∀ e ∈ [Instr.l1dCacheWb, .l2dCacheWb, .l3dCacheWb, .llCacheWb], ∃ b : Obs, b.occ.pe = none ∧ b.own e = true
      ∧ b.is .coherencyTransfer = true ∧ b.inSet 42 e 0 = false ∧ b.is .invalidationOnly = false ∧ b.is .writeThrough = false
      ∧ b.is .refillOfOtherCache = false)
    ∧ ∀ shared ∈ [[], [Resource.l1dCache]],
      ∃ (i : Instr) (r : Resource) (s : State) (serial : Nat) (o : Occurrence) (p n : Nat) (rest : List Offer) (c : Counter),
        attributionOf i = .writeBack r ∧ s.agenda = { happening := .occurs serial o, sink := .counter p n } :: rest
        ∧ s.counter? p n = some c ∧ o.pe = none ∧ p ∈ o.owners ∧ Admits s i p c serial o ∧ s.impl.shared = shared := by
  refine ⟨fun e he => ⟨obs { plain with sets := [((42, e), .only [])] } { supplied := .only [e], facts := [.coherencyTransfer] }, ?_⟩, ?_⟩
  · fin_cases he <;> decide
  intro shared hs
  fin_cases hs <;> exact ⟨.l1dCacheWb, .l1dCache, machine { plain with shared := _ } { evtCount := 0x0015 } {}
    [{ happening := .occurs 0 { owners := [0], supplied := .only [.l1dCacheWb] }, sink := .counter 0 0 }] [], 0, _, 0, 0, [], _, rfl, rfl,
    rfl, rfl, by decide, ⟨by decide, by decide, by rw [occOf_l1dCacheWb]; decide⟩, rfl⟩

/-- The last with the PE among the owners and not. -/
theorem witness_InvalidateAndAllocate :
    (∃ (s : State) (o : Occurrence) (c : Counter), s.agenda = [{ happening := .occurs 0 o, sink := .counter 0 0 }]
      ∧ s.counter? 0 0 = some c ∧ o.pe = none ∧ 0 ∈ o.owners ∧ Admits s .l1dCacheInval 0 c 0 o)
    ∧ (∀ mt : Bool, ∃ (s : State) (o : Occurrence) (c : Counter), s.agenda = [{ happening := .occurs 0 o, sink := .counter 0 0 }]
      ∧ s.counter? 0 0 = some c ∧ o.pe = some 1 ∧ Admits s .l1dCacheAllocate 0 c 0 o ∧ c.mt.effective = mt
      ∧ s.impl.multithreaded = true ∧ SameAffinity s.impl 0 1)
    ∧ ∀ owners ∈ [[0], [1]], ∃ (s : State) (o : Occurrence) (c : Counter),
      s.agenda = [{ happening := .occurs 0 o, sink := .counter 0 0 }] ∧ s.counter? 0 0 = some c ∧ o.pe = some 1 ∧ o.owners = owners
      ∧ Admits s .l1dCacheExtProp 0 c 0 o := by
  refine ⟨⟨machine plain { evtCount := 0x0048 } {}
      [{ happening := .occurs 0 { owners := [0], supplied := .except [] }, sink := .counter 0 0 }] [], _, _, rfl, rfl, rfl, by decide,
      ⟨by decide, by decide, by rw [occOf_l1dCacheInval]; decide⟩⟩, ?_, ?_⟩
  · intro mt
    cases mt <;> exact ⟨machine { plain with multithreaded := true, affinity := [0, 0] }
        { evtCount := 0x001F, mt := { written := _ } } {}
        [{ happening := .occurs 0 { pe := some 1, supplied := .only [.l1dCacheAllocate] }, sink := .counter 0 0 }] [], _, _, rfl, rfl, rfl,
        ⟨by decide, by decide, by rw [occOf_l1dCacheAllocate]; decide⟩, rfl, rfl, ⟨0, rfl, rfl⟩⟩
  · intro owners ho
    fin_cases ho <;> exact ⟨machine plain { evtCount := 0x00B9 } {}
      [{ happening := .occurs 0 { pe := some 1, owners := _, supplied := .only [.l1dCacheExtProp] }, sink := .counter 0 0 }] [], _, _, rfl, rfl, rfl,
      rfl, ⟨by decide, by decide, by rw [occOf_l1dCacheExtProp]; decide⟩⟩

/-- With the clock stopped or not, active or not, MT 0 or 1. -/
theorem witness_CpuCyclesCounted :
    ∀ (mt : Bool) (facts : List Fact) (active : List Nat), ∃ (s : State) (o : Occurrence) (c : Counter),
      s.agenda = [{ happening := .occurs 0 o, sink := .counter 0 0 }] ∧ s.counter? 0 0 = some c
      ∧ s.impl.multithreaded = true ∧ SameAffinity s.impl 0 1 ∧ o.pe = some 1 ∧ c.filter.passes o.ctx = true
      ∧ o.supplied = .only [.cpuCycles] ∧ c.mt.effective = mt ∧ (s.observe 0 c 0 o).is .clocksStopped = facts.contains .clocksStopped ∧ o.active = active ∧ s.impl.has .pmuv3p9 = true :=
  fun mt facts active => ⟨machine { resetImpl with multithreaded := true, affinity := [0, 0] } { mt := { written := mt } } {}
    [{ happening := .occurs 0 { pe := some 1, supplied := .only [.cpuCycles], facts := facts, active := active }, sink := .counter 0 0 }] [],
    _, _, rfl, rfl, rfl, ⟨0, rfl, rfl⟩, rfl, rfl, rfl, rfl,
    by simp [Obs.is, State.observe], rfl, by show resetImpl.has .pmuv3p9 = true; decide⟩

/-- A cycle of the PE and one of the other PE of its processor, each supplied as CPU_CYCLES and as BUS_CYCLES alone, with the interface at
the processor's rate and not. -/
theorem witness_CpuCyclesCounted_bus :
    ∀ (rate bus : Bool), ∀ x ∈ [0, 1], ∃ (s : State) (o : Occurrence) (c : Counter),
      s.agenda = [{ happening := .occurs 0 o, sink := .counter 0 0 }] ∧ s.counter? 0 0 = some c ∧ o.pe = some x
      ∧ c.filter.passes o.ctx = true ∧ s.impl.busAtProcessorRate = rate ∧ s.impl.multithreaded = true ∧ SameAffinity s.impl 0 1
      ∧ (s.observe 0 c 0 o).own .cpuCycles = !bus ∧ (s.observe 0 c 0 o).own .busCycles = bus
      ∧ (s.observe 0 c 0 o).is .clocksStopped = false := by
  intro rate bus x _
  refine ⟨machine { plain with multithreaded := true, affinity := [0, 0], busAtProcessorRate := rate } {} {}
    [{ happening := .occurs 0 { occurrence [if bus then .busCycles else .cpuCycles] with pe := some x }, sink := .counter 0 0 }] [],
    _, _, rfl, rfl, rfl, rfl, rfl, rfl, ⟨0, rfl, rfl⟩, ?_, ?_, ?_⟩ <;> cases bus <;> rfl

/-- At the processor's rate: a cycle of a PE outside the processor, and one of the PE whose clocks are stopped, with FEAT_PMUv3p9. -/
theorem witness_CpuCyclesCounted_busNot :
    (∃ (s : State) (o : Occurrence) (c : Counter),
      s.agenda = [{ happening := .occurs 0 o, sink := .counter 0 0 }] ∧ s.counter? 0 0 = some c ∧ o.pe = some 2
      ∧ c.filter.passes o.ctx = true ∧ s.impl.busAtProcessorRate = true ∧ (2 : Nat) ≠ 0 ∧ ¬SameAffinity s.impl 0 2)
    ∧ ∃ (s : State) (o : Occurrence) (c : Counter),
      s.agenda = [{ happening := .occurs 0 o, sink := .counter 0 0 }] ∧ s.counter? 0 0 = some c ∧ o.pe = some 0
      ∧ c.filter.passes o.ctx = true ∧ s.impl.busAtProcessorRate = true ∧ s.impl.has .pmuv3p9 = true
      ∧ (s.observe 0 c 0 o).is .clocksStopped = true :=
  ⟨⟨machine { sharing .bus with busAtProcessorRate := true } {} {}
      [{ happening := .occurs 0 { occurrence [.cpuCycles] with pe := some 2 }, sink := .counter 0 0 }] [], _, _, rfl, rfl, rfl, rfl, rfl,
      by decide, sharing_outside .bus⟩,
    ⟨machine { plain with features := [.pmuv3p9], busAtProcessorRate := true } {} {}
      [{ happening := .occurs 0 { occurrence [.cpuCycles] with facts := [.clocksStopped] }, sink := .counter 0 0 }] [], _, _, rfl, rfl,
      rfl, rfl, rfl, by decide, by decide⟩⟩

/-- R364: an SVC that is no Software change of the PC is counted where it is supplied (log 74); a non-SIMD SVE operation by one of DP_SPEC and
SVE_SPEC (log 78). -/
theorem test_dpSpec_list : ∀ sve : Bool,
    occDpSpec (obs { plain with features := [.pmuv3p9] }
        { occurrence [.instSpec, .dpSpec, .pcWriteSpec] with facts := [.exceptionGenerating] }) = true
      ∧ occDpSpec (obs { plain with features := [.sve] }
        { occurrence (.instSpec :: .dpSpec :: if sve then [.sveSpec] else []) with facts := [.nonSimdSve] }) = !sve := by decide

/-- With MT 0; and with MT 1 on a multithreaded implementation, Slots of two PEs of the processor and an idle one. -/
theorem witness_SlotIncrements :
    (∃ b : Obs, b.mt = false ∧ b.impl.multithreaded = true ∧ b.occ.slots ≠ [])
    ∧ ∃ b : Obs, b.impl.multithreaded = true ∧ b.mt = true ∧ b.occ.slots.map (fun x => x.occupant) = [some 0, some 1, none]
      ∧ SameAffinity b.impl 0 1 :=
  ⟨⟨obs { plain with multithreaded := true, affinity := [0, 0] } { slots := [{ occupant := some 1 }, {}] }, rfl, rfl, by decide⟩,
    ⟨{ obs { plain with multithreaded := true, affinity := [0, 0] } { slots := [{ occupant := some 0 }, { occupant := some 1 }, {}] } with
        mt := true }, rfl, rfl, rfl, ⟨0, rfl, rfl⟩⟩⟩

theorem witness_OperationIncrements :
    (∃ (b : Obs) (v m : Nat), b.occ.vl = 128 * m ∧ 0 < m ∧ b.occ.ops = v)
    ∧ (∃ (b : Obs) (v m : Nat), b.occ.vl = 128 * m ∧ 0 < m ∧ v * m = b.occ.ops)
    ∧ ∃ (b : Obs) (v m : Nat), b.occ.vl = 128 * m ∧ 0 < m ∧ v * m ^ 2 = b.occ.ops :=
  ⟨⟨obs plain { ops := 4, vl := 128 }, 4, 1, by decide⟩,
    ⟨obs plain { ops := 16, vl := 512 }, 4, 4, by decide⟩,
    ⟨obs plain { ops := 256, vl := 512 }, 16, 4, by decide⟩⟩

/-- Every kind; and an element size that divides the 128 and the 256 bits. -/
theorem witness_LoadStoreIncrements :
    ∀ k : LdStKind, ∃ (b : Obs) (bytes v x : Nat), b.occ.ldst.msize = 8 * bytes ∧ b.occ.ldst.kind = k ∧ 0 < b.occ.ldst.csize
      ∧ v * b.occ.ldst.csize = 128 ∧ x * b.occ.ldst.csize = 256 :=
  fun k => ⟨obs plain { ldst := { kind := k, msize := 64, csize := 64 } }, 8, 2, 4, rfl, rfl, by show 0 < 64; decide,
    rfl, rfl⟩

/-- All in progress is of the counting PE; the bus is shared, with MT 0; it is shared outside the processor, with MT 1. -/
theorem witness_PerCycleIncrements :
    (∃ b : Obs, b.occ.progress ≠ [] ∧ ∀ q ∈ b.occ.progress, q.pe = some b.pe)
    ∧ ∀ mt : Bool, ∃ b : Obs, Resource.bus ∈ b.impl.shared ∧ b.mt = mt ∧ b.impl.multithreaded = true
      ∧ Resource.bus ∈ b.impl.sharedOutside ∧ b.occ.progress.map (fun q => q.pe) = [some 0, some 1, some 2] :=
  ⟨⟨obs plain { progress := [{ event := .dtlbWalk, pe := some 0, count := 3 }] }, by decide, by decide⟩,
    fun mt => ⟨{ obs (sharing .bus) { progress := [{ event := .busReqRd, pe := some 0, count := 3 },
        { event := .busReqRd, pe := some 1, count := 2 }, { event := .busReqRd, pe := some 2, count := 1 }] } with mt := mt },
      by show Resource.bus ∈ [Resource.bus]; decide, rfl, rfl, by show Resource.bus ∈ [Resource.bus]; decide, rfl⟩⟩

theorem witness_ElementIncrements :
    (∃ (b : Obs) (v : Nat), 0 < b.occ.ldst.csize ∧ v * b.occ.ldst.csize = 128)
    ∧ ∃ (b : Obs) (v ratio : Nat), 0 < b.occ.ldst.msize ∧ b.occ.ldst.csize = ratio * b.occ.ldst.msize ∧ v * ratio = 16 :=
  ⟨⟨obs plain { ldst := { csize := 64 } }, 2, by decide⟩,
    ⟨obs plain { ldst := { csize := 64, msize := 8 } }, 2, 8, by decide⟩⟩

/-- An event at each edge of the four ranges, and numbers without event at the edges of theirs; and an event that is not implemented but
generated by the system, with its bit RAO and not. -/
theorem witness_PmceidBits :
    (∀ v : Bool, ∃ impl : Impl, impl.uses .l1dCacheAllocate = false ∧ Instr.l1dCacheAllocate ∈ impl.systemGenerated
      ∧ (v = true ↔ impl.uses .l1dCacheAllocate = true
          ∨ (Instr.l1dCacheAllocate ∈ impl.systemGenerated ∧ Instr.l1dCacheAllocate ∈ impl.raoBits)))
    ∧ ((encode .swIncr).toNat = 0x0000 ∧ (encode .l2dCacheAllocate).toNat = 0x0020 ∧ (encode .stallSlot).toNat = 0x003F
      ∧ (encode .samplePop).toNat = 0x4000 ∧ (encode .ctiTrigout7).toNat = 0x401B ∧ (encode .ldstAlignLat).toNat = 0x4020
      ∧ (encode .memAccessCheckedWr).toNat = 0x4026)
    ∧ ∀ x ∈ [0x03, 0x07, 0x1F], x < 0x20 ∧ (x = 0x03 ∨ 0x07 ≤ x) :=
  ⟨fun v => ⟨{ plain with implemented := .except [.l1dCacheAllocate], systemGenerated := [.l1dCacheAllocate],
                          raoBits := if v then [.l1dCacheAllocate] else [] },
      by cases v <;> decide, by cases v <;> decide, by cases v <;> decide⟩, by decide, by decide⟩

theorem witness_PmceidAarch32Halves : ∃ j : Nat, j < 32 := ⟨31, by decide⟩

/-- The state with one input and nothing offered: the hypotheses of the statements on host steps. -/
theorem witness_ReadsAnswer :
    (∃ (s : State) (p r : Nat), s.agenda = [] ∧ s.inputs = [.readPmceid p r] ∧ p < s.pes.length ∧ r < 2)
    ∧ ∃ (s : State) (p n : Nat) (c : Counter), s.agenda = [] ∧ s.inputs = [.readPmevcntr p n] ∧ s.counter? p n = some c :=
  ⟨⟨machine plain {} {} [] [.readPmceid 0 1], 0, 1, rfl, rfl, by decide, by decide⟩,
    ⟨machine plain {} {} [] [.readPmevcntr 0 1], 0, 1, _, rfl, rfl, rfl⟩⟩

theorem witness_CounterWrites :
    (∃ (s : State) (p n e : Nat) (mt : Bool) (f : Filter) (c : Counter), s.agenda = []
      ∧ s.inputs = [.writePmevtyper p n e mt f] ∧ s.counter? p n = some c)
    ∧ ∃ (s : State) (p n x : Nat) (c : Counter), s.agenda = [] ∧ s.inputs = [.writePmevcntr p n x] ∧ s.counter? p n = some c :=
  ⟨⟨machine plain {} {} [] [.writePmevtyper 0 1 0x0008 true .none], 0, 1, 8, true, .none, _, rfl, rfl, rfl⟩,
    ⟨machine plain {} {} [] [.writePmevcntr 0 0 0x1FFFFFFFF], 0, 0, 0x1FFFFFFFF, _, rfl, rfl, rfl⟩⟩

theorem witness_CountersReset :
    ∃ (s : State) (p : Nat), s.agenda = [] ∧ s.inputs = [.resetEventCounters p] ∧ p < s.pes.length :=
  ⟨machine plain { count := 5 } {} [] [.resetEventCounters 0], 0, rfl, rfl, by decide⟩

theorem witness_HostStepsRefused :
    (∃ (s : State) (p : Nat), s.agenda = [] ∧ s.inputs = [.readPmswinc p])
    ∧ (∃ (s : State) (p n x : Nat) (q : Pe), s.agenda = [] ∧ s.inputs = [.writePmevcntr p n x] ∧ s.pes[p]? = some q
        ∧ q.counters.length ≤ n)
    ∧ (∃ (s : State) (p n : Nat) (q : Pe), s.agenda = [] ∧ s.inputs = [.readPmevcntr p n] ∧ s.pes[p]? = some q
        ∧ q.counters.length ≤ n)
    ∧ (∃ (s : State) (p n e : Nat) (mt : Bool) (f : Filter) (q : Pe), s.agenda = [] ∧ s.inputs = [.writePmevtyper p n e mt f]
        ∧ s.pes[p]? = some q ∧ q.counters.length ≤ n)
    ∧ (∃ (s : State) (p v : Nat), s.agenda = [] ∧ s.inputs = [.writeControl p (.hpmn v)] ∧ p < s.pes.length
        ∧ s.impl.haveEl2 = false)
    ∧ ∃ (s : State) (p v : Nat), s.agenda = [] ∧ s.inputs = [.writeControl p (.epmn v)] ∧ p < s.pes.length
        ∧ s.impl.has .pmuv3Extpmn = false :=
  ⟨⟨machine plain {} {} [] [.readPmswinc 0], 0, rfl, rfl⟩,
    ⟨machine plain {} {} [] [.writePmevcntr 0 2 0], 0, 2, 0, _, rfl, rfl, rfl, by decide⟩,
    ⟨machine plain {} {} [] [.readPmevcntr 0 2], 0, 2, _, rfl, rfl, rfl, by decide⟩,
    ⟨machine plain {} {} [] [.writePmevtyper 0 2 0x0008 false .all], 0, 2, 8, false, .all, _, rfl, rfl, rfl, by decide⟩,
    ⟨machine plain {} {} [] [.writeControl 0 (.hpmn 2)], 0, 2, rfl, rfl, by decide, rfl⟩,
    ⟨machine plain {} {} [] [.writeControl 0 (.epmn 2)], 0, 2, rfl, rfl, by decide, by decide⟩⟩

/-- With no value forced and with one, for each of the five fields; and HLP without EL2. -/
theorem witness_ControlWrites :
    ∀ f : Option Bool, ∀ g : Option Nat, ∃ q : Pe,
      q.lp.forced = f ∧ q.lc.forced = f ∧ q.hlp.forced = f ∧ q.hpmn.forced = g ∧ q.epmn.forced = g
      ∧ (∀ x ∈ [ControlField.lp true, .lc true, .hlp true, .hpmn 1, .epmn 1], ∃ s : State, s.agenda = []
          ∧ s.inputs = [.writeControl 0 x] ∧ s.pes[0]? = some q ∧ s.impl.haveEl2 = true ∧ s.impl.has .pmuv3Extpmn = true)
      ∧ ∃ s : State, s.agenda = [] ∧ s.inputs = [.writeControl 0 (.hlp true)] ∧ s.pes[0]? = some q ∧ s.impl.haveEl2 = false :=
  fun f g => ⟨{ counters := [], lp := ⟨false, f⟩, lc := ⟨false, f⟩, hlp := ⟨false, f⟩, hpmn := ⟨0, g⟩, epmn := ⟨0, g⟩ },
    rfl, rfl, rfl, rfl, rfl,
    fun x _ => ⟨stateOf resetImpl _ [] [.writeControl 0 x], rfl, rfl, rfl, rfl, by show resetImpl.has .pmuv3Extpmn = true; decide⟩,
    ⟨stateOf plain _ [] [.writeControl 0 (.hlp true)], rfl, rfl, rfl, rfl⟩⟩

/-- The last bit of the register, and the number above it; and F0. -/
theorem witness_IntenWrites :
    (∀ n ∈ [0, 31, 32], ∃ (s : State) (q : Pe), s.agenda = [] ∧ s.inputs = [.writeInten 0 n false] ∧ s.pes[0]? = some q)
    ∧ ∃ (s : State) (q : Pe), s.agenda = [] ∧ s.inputs = [.writeF0 0 true] ∧ s.pes[0]? = some q :=
  ⟨fun n _ => ⟨machine plain {} {} [] [.writeInten 0 n false], _, rfl, rfl, rfl⟩,
    ⟨machine plain {} {} [] [.writeF0 0 true], _, rfl, rfl, rfl⟩⟩

/-- One below the 32-bit overflow, at it, and at the 64-bit one. -/
theorem witness_CyclesAndInstructions :
    ∀ v ∈ [(0xFFFFFFFE : CountWord), 0xFFFFFFFF, 0xFFFFFFFFFFFFFFFF],
      (∃ (s : State) (q : Pe), s.agenda = [] ∧ s.inputs = [.cycleCounted 0 true] ∧ s.pes[0]? = some q ∧ q.pmccntr = v)
      ∧ ∃ (s : State) (q : Pe), s.agenda = [] ∧ s.inputs = [.instructionCounted 0 true] ∧ s.pes[0]? = some q ∧ q.pmicntr = v
        ∧ s.impl.has .pmuv3Icntr = true :=
  fun v _ => ⟨⟨stateOf resetImpl { counters := [], pmccntr := v, hpmn := ⟨0, none⟩, epmn := ⟨0, none⟩ } []
      [.cycleCounted 0 true], _, rfl, rfl, rfl, rfl⟩,
    ⟨stateOf resetImpl { counters := [], pmicntr := v, hpmn := ⟨0, none⟩, epmn := ⟨0, none⟩ } []
      [.instructionCounted 0 true], _, rfl, rfl, rfl, rfl, by show resetImpl.has .pmuv3Icntr = true; decide⟩⟩

/-- Each of the steps, on a PE with a counter, with EL2 and FEAT_PMUv3_EXTPMN. -/
theorem witness_EnvironmentSteps :
    ∀ i ∈ [Input.forceControl 0 (.lp true), .forceControl 0 (.lc true), .forceControl 0 (.hpmn 1), .forceControl 0 (.hlp true),
        .forceControl 0 (.epmn 1), .releaseControl 0 .lp, .releaseControl 0 .lc, .releaseControl 0 .hpmn, .releaseControl 0 .hlp,
        .releaseControl 0 .epmn, .forceMt 0 1 (some true), .forceMt 0 1 none, .stateChainFilterAll 0 1 false, .stateTrace 0 true true,
        .resetCycleCounter 0, .readPmceid32 0 3, .readPmceid32 0 4],
      ∃ (s : State) (q : Pe) (c : Counter), s.agenda = [] ∧ s.pes[0]? = some q ∧ s.inputs = [i] ∧ s.impl.haveEl2 = true
        ∧ s.impl.has .pmuv3Extpmn = true ∧ s.counter? 0 1 = some c :=
  fun i _ => ⟨machine resetImpl {} {} [] [i], _, _, rfl, rfl, rfl, rfl, by show resetImpl.has .pmuv3Extpmn = true; decide, rfl⟩

end Sys2Proof.Tests
end

/-!
PROOFS. The parameters and the number of PEs (00_scope.md R6): what each step can do to the state, and that none of it changes them.
-/

namespace Sys2Proof.Machine

@[simp] theorem State.offerAll_impl (s : State) (h : Happening) (order : List (Nat × Nat)) : (s.offerAll h order).impl = s.impl := rfl
@[simp] theorem State.offerAll_pes (s : State) (h : Happening) (order : List (Nat × Nat)) : (s.offerAll h order).pes = s.pes := rfl

@[simp] theorem State.offerOverflow_impl (s : State) (c : OverflowCause) : (s.offerOverflow c).impl = s.impl := by
  unfold State.offerOverflow
  split <;> rfl

@[simp] theorem State.offerOverflow_pes (s : State) (c : OverflowCause) : (s.offerOverflow c).pes = s.pes := by
  unfold State.offerOverflow
  split <;> rfl

/-- A host step on a PE goes on only where the PE exists. -/
theorem onPe_eq_next {s t : State} {p : Nat} {f : Pe → Host.Outcome State Fault Refusal} :
    onPe s p f = .next t ↔ ∃ q, s.pes[p]? = some q ∧ f q = .next t := by
  unfold onPe
  cases s.pes[p]? <;> simp

/-- A host step on a counter goes on only where the counter exists. -/
theorem onCounter_eq_next {s t : State} {p n : Nat} {f : Counter → Host.Outcome State Fault Refusal} :
    onCounter s p n f = .next t ↔ ∃ c, s.counter? p n = some c ∧ f c = .next t := by
  unfold onCounter State.counter?
  rw [onPe_eq_next]
  cases s.pes[p]? with
  | none => simp
  | some q => cases hc : q.counters[n]? <;> simp [hc]

/-- A step that may be refused goes on only where its condition holds. -/
theorem ite_refused_eq_next {b : Prop} [Decidable b] {s t : State} {r : Refusal} :
    (if b then (.next s : Host.Outcome State Fault Refusal) else .refused r) = .next t ↔ b ∧ s = t := by
  split <;> simp [*]

/-- What a step of the host or the environment can make of the state. -/
inductive InputEffect (s : State) : State → Prop where
  /-- An occurrence, with the next serial number, is offered to the counters. -/
  | occurs (o : Occurrence) (order : List (Nat × Nat)) :
      InputEffect s (({ s with draws := s.draws + 1 } : State).offerAll (.occurs s.draws o) order)
  /-- Another happening is offered to the counters. -/
  | offers (x : Happening) (order : List (Nat × Nat)) : InputEffect s (s.offerAll x order)
  /-- A read is answered. -/
  | answers (o : Output) : InputEffect s (s.emit o)
  /-- One PE is changed. -/
  | changesPe (p : Nat) (f : Pe → Pe) : InputEffect s (s.modifyPe p f)
  /-- One PE is changed and the overflow of one of its 64-bit counters offered. -/
  | countsOnPe (p : Nat) (f : Pe → Pe) (c : OverflowCause) : InputEffect s ((s.modifyPe p f).offerOverflow c)
  /-- Nothing is changed: an instruction is counted without FEAT_PMUv3_ICNTR. -/
  | nothing : InputEffect s s

/-- Every input that is not refused has one of these effects. -/
theorem applyInput_effect {s t : State} {i : Input} (h : applyInput s i = .next t) : InputEffect s t := by
  cases i with
  | occurrence o order =>
    simp only [applyInput, Host.Outcome.next.injEq] at h
    exact h ▸ .occurs o order
  | readPmswinc p => cases h
  | instructionCounted p ex =>
    simp only [applyInput, onPe_eq_next] at h
    obtain ⟨_, _, h⟩ := h
    split at h <;> cases h
    · exact .countsOnPe _ _ _
    · exact .nothing
  | cycleCounted p ex =>
    simp only [applyInput, onPe_eq_next, Host.Outcome.next.injEq] at h
    obtain ⟨_, _, rfl⟩ := h
    exact .countsOnPe _ _ _
  | writePmswinc p v ctx withheld order =>
    simp only [applyInput, onPe_eq_next, Host.Outcome.next.injEq] at h
    obtain ⟨_, _, rfl⟩ := h
    exact .offers _ _
  | readPmevcntr p n =>
    simp only [applyInput, onCounter_eq_next, Host.Outcome.next.injEq] at h
    obtain ⟨_, _, rfl⟩ := h
    exact .answers _
  | readPmceid _ _ | readPmceid32 _ _ =>
    simp only [applyInput, onPe_eq_next, ite_refused_eq_next] at h
    obtain ⟨_, _, _, rfl⟩ := h
    exact .answers _
  | writeControl _ _ | forceControl _ _ | releaseControl _ _ =>
    simp only [applyInput, onPe_eq_next, ite_refused_eq_next] at h
    obtain ⟨_, _, _, rfl⟩ := h
    exact .changesPe _ _
  | writePmevtyper _ _ _ _ _ | writePmevcntr _ _ _ | forceMt _ _ _ | stateChainFilterAll _ _ _ =>
    simp only [applyInput, onCounter_eq_next, Host.Outcome.next.injEq] at h
    obtain ⟨_, _, rfl⟩ := h
    exact .changesPe _ _
  | resetEventCounters _ | resetCycleCounter _ | writeInten _ _ _ | writeF0 _ _ | stateTrace _ _ _ =>
    simp only [applyInput, onPe_eq_next, Host.Outcome.next.injEq] at h
    obtain ⟨_, _, rfl⟩ := h
    exact .changesPe _ _

/-- An input changes PEs only by `List.modify`, which keeps their number. -/
theorem applyInput_keeps_parameters {s t : State} {i : Input} (h : applyInput s i = .next t) :
    t.impl = s.impl ∧ t.pes.length = s.pes.length := by
  cases applyInput_effect h with
  | occurs | offers | answers | nothing => exact ⟨rfl, rfl⟩
  | changesPe p f => simp
  | countsOnPe p f c => simp

/-- The input is taken off the list before it is admitted, which touches neither the parameters nor the PEs. -/
theorem State.takeInput_keeps_parameters {s t : State} (h : s.takeInput = .next t) :
    t.impl = s.impl ∧ t.pes.length = s.pes.length := by
  unfold State.takeInput at h
  split at h
  · cases h
    exact ⟨rfl, rfl⟩
  · obtain ⟨himpl, hpes⟩ := applyInput_keeps_parameters h
    exact ⟨himpl, hpes⟩

/-- An event only takes its offer, counts, delivers an overflow or leaves a free count (`exec_cases`): of these, only the
counting and the free count change the PEs, and both by `List.modify`. -/
theorem exec_keeps_parameters {s t : State} {i : Instr} (h : exec i s = .next t) :
    t.impl = s.impl ∧ t.pes.length = s.pes.length := by
  obtain he | ⟨_, _, _, _, _, _, _, _, _, _, _, he⟩ | ⟨_, _, _, _, _, _, he⟩ | ⟨_, _, _, _, _, _, _, _, _, he⟩ :=
    exec_cases i s <;>
  · rw [he] at h
    cases h
    simp

/-- Settles O9: by the three branches of `step` (an input, an event, a sink that selects no event). -/
theorem stepKeepsParameters : Obligations.StepKeepsParameters := by
  intro s t h
  unfold step at h
  split at h
  · exact State.takeInput_keeps_parameters h
  · split at h
    · exact exec_keeps_parameters h
    · cases h
      exact ⟨rfl, rfl⟩

end Sys2Proof.Machine

/-!
PROOFS. The machine's invariant: each operation on the state keeps it, and so does every step (10_state.md R26, R27).
-/

namespace Sys2Proof.Machine

/-! Widths (10_state.md R26, R27). -/

theorem Counter.fits_iff {impl : Impl} {c : Counter} :
    c.fits impl = true ↔ c.evtCount.toNat < 2 ^ impl.evtCountWidth ∧ c.count.toNat < 2 ^ impl.counterWidth := by
  simp [Counter.fits]

theorem Pe.fits_iff {impl : Impl} {q : Pe} :
    q.fits impl = true ↔ q.counters.length = impl.numCounters ∧ ∀ c ∈ q.counters, c.fits impl = true := by
  simp [Pe.fits]

/-- A change that keeps a counter's event number keeps it within its widths if the new count is. -/
theorem Counter.fits_of_count_lt {impl : Impl} {c d : Counter} (hc : c.fits impl = true) (he : d.evtCount = c.evtCount)
    (hd : d.count.toNat < 2 ^ impl.counterWidth) : d.fits impl = true :=
  Counter.fits_iff.mpr ⟨he ▸ (Counter.fits_iff.mp hc).1, hd⟩

/-- A number cut to a width fits it in a word of any size. -/
theorem toNat_ofNat_mod_lt (m x w : Nat) : (BitVec.ofNat m (x % 2 ^ w)).toNat < 2 ^ w :=
  lt_of_le_of_lt (BitVec.toNat_ofNat .. ▸ Nat.mod_le _ _) (Nat.mod_lt _ (by positivity))

/-- A written event number is cut to EVTCOUNT_WIDTH bits (30_encoding.md R94, decision D8). -/
theorem writeEventType_fits {impl : Impl} {c : Counter} (e : Nat) (mt : Bool) (f : Filter) (hc : c.fits impl = true) :
    (writeEventType impl e mt f c).fits impl = true :=
  Counter.fits_iff.mpr ⟨toNat_ofNat_mod_lt 16 e _, (Counter.fits_iff.mp hc).2⟩

/-- A written count is cut to the W bits of the counter (70_reset_and_hazards.md R1552 (e)). -/
theorem writeCount_fits {impl : Impl} {c : Counter} (x : Nat) (hc : c.fits impl = true) :
    (writeCount impl x c).fits impl = true :=
  Counter.fits_of_count_lt hc rfl (toNat_ofNat_mod_lt 64 x _)

/-- What holds of every element of a list, and is kept by the change of one, holds of every element after the change. -/
theorem forall_mem_modify {α : Type} {P : α → Prop} {f : α → α} {l : List α} (i : Nat) (hl : ∀ x ∈ l, P x)
    (hf : ∀ x, P x → P (f x)) : ∀ x ∈ l.modify i f, P x := by
  intro x hx
  obtain ⟨j, hj⟩ := List.mem_iff_getElem?.mp hx
  rw [List.getElem?_modify] at hj
  obtain ⟨y, hy, rfl⟩ := Option.map_eq_some_iff.mp hj
  have hPy := hl y (List.mem_of_getElem? hy)
  split
  · exact hf y hPy
  · exact hPy

/-- A change of one counter that keeps it within its widths keeps the PE within them. -/
theorem Pe.fits_modify_counters {impl : Impl} {q : Pe} {f : Counter → Counter} (n : Nat)
    (hf : ∀ c, c.fits impl = true → (f c).fits impl = true) (hq : q.fits impl = true) :
    ({ q with counters := q.counters.modify n f } : Pe).fits impl = true := by
  obtain ⟨hlen, hcounters⟩ := Pe.fits_iff.mp hq
  exact Pe.fits_iff.mpr ⟨by simpa using hlen, forall_mem_modify n hcounters hf⟩

/-- The reset of the event counters keeps the PE within its widths (70_reset_and_hazards.md R1550). -/
theorem Pe.fits_reset_counters {impl : Impl} {q : Pe} (hq : q.fits impl = true) :
    ({ q with counters := q.counters.map (resetCounter impl) } : Pe).fits impl = true := by
  obtain ⟨hlen, hcounters⟩ := Pe.fits_iff.mp hq
  refine Pe.fits_iff.mpr ⟨by simpa using hlen, fun c hc => ?_⟩
  obtain ⟨d, hd, rfl⟩ := List.mem_map.mp hc
  exact writeCount_fits _ (hcounters d hd)

/-- The widths speak of the event counters alone. -/
theorem Pe.fits_of_counters_eq {impl : Impl} {q r : Pe} (hr : r.counters = q.counters) (hq : q.fits impl = true) :
    r.fits impl = true :=
  Pe.fits_iff.mpr (hr ▸ Pe.fits_iff.mp hq)

theorem writeField_counters (q : Pe) (f : ControlField) : (writeField q f).counters = q.counters := by
  cases f <;> rfl

theorem forceField_counters (q : Pe) (f : ControlField) : (forceField q f).counters = q.counters := by
  cases f <;> rfl

theorem releaseField_counters (q : Pe) (f : ControlName) : (releaseField q f).counters = q.counters := by
  cases f <;> rfl

/-! What is offered. -/

/-- An offer as the invariant demands it of the agenda: its sink exists and its draws are not drawn again. -/
structure Offer.Valid (s : State) (f : Offer) : Prop where
  sink : f.sink.exists? s = true
  drawn : f.happening.drawnBefore s.draws = true

theorem State.Inv.valid {s : State} (hs : s.Inv) : ∀ f ∈ s.agenda, f.Valid s :=
  fun f hf => ⟨hs.sinks f hf, hs.draws f hf⟩

theorem Happening.drawnBefore_mono {h : Happening} {d d' : Nat} (hd : d ≤ d') (hh : h.drawnBefore d = true) :
    h.drawnBefore d' = true := by
  unfold Happening.drawnBefore at hh ⊢
  split at hh
  · exact decide_eq_true (lt_of_lt_of_le (of_decide_eq_true hh) hd)
  · rfl

/-- The invariant asks of a sink only that its numbers are in range, so it exists wherever these ranges are the same. -/
theorem Sink.exists?_congr {s t : State} {k : Sink} (himpl : t.impl = s.impl) (hpes : t.pes.length = s.pes.length)
    (hk : k.exists? s = true) : k.exists? t = true := by
  cases k with
  | counter p n => simpa [Sink.exists?, himpl, hpes] using hk
  | consumer w => exact hk

/-- Counter n of PE p exists as a sink where the state holds it. -/
theorem State.Inv.counter_exists? {s : State} (hs : s.Inv) {p n : Nat} {c : Counter} (hc : s.counter? p n = some c) :
    p < s.pes.length ∧ n < s.impl.numCounters := by
  obtain ⟨q, hq, hn⟩ := State.counter?_some hc
  have hlen := (Pe.fits_iff.mp (hs.pes q (List.mem_of_getElem? hq))).1
  exact ⟨(List.getElem?_eq_some_iff.mp hq).1, hlen ▸ (List.getElem?_eq_some_iff.mp hn).1⟩

/-- The overflow offers go to the two consumers there are and draw nothing (30_encoding.md R102). -/
theorem overflowOffers_valid (s : State) (c : OverflowCause) : ∀ f ∈ overflowOffers c, f.Valid s := by
  intro f hf
  simp only [overflowOffers, List.mem_cons, List.not_mem_nil, or_false] at hf
  obtain rfl | rfl := hf <;> exact ⟨rfl, rfl⟩

/-- The pair's odd counter is offered the overflow only where it exists (40_common_event_rules.md R121), with the serial number that is
used up with the count. -/
theorem chainOffers_valid {s t : State} {p n : Nat} {ovf32 : Bool} {wh : List OverflowSource} (hp : p < s.pes.length)
    (himpl : t.impl = s.impl) (hpes : t.pes.length = s.pes.length) (hdraws : s.draws < t.draws) :
    ∀ f ∈ chainOffers s p n ovf32 wh, f.Valid t := by
  intro f hf
  unfold chainOffers at hf
  split at hf
  · rename_i hpair
    simp only [Bool.and_eq_true, decide_eq_true_eq] at hpair
    obtain ⟨_, hn⟩ := hpair
    obtain rfl := List.mem_singleton.mp hf
    exact ⟨by simp [Sink.exists?, himpl, hpes, hp, hn], decide_eq_true hdraws⟩
  · cases hf

/-- Whatever order the environment names, only counters that exist are offered anything. -/
theorem State.offerOrder_mem {s : State} {order : List (Nat × Nat)} {q : Nat × Nat} (hq : q ∈ s.offerOrder order) :
    q ∈ s.allCounters := by
  unfold State.offerOrder at hq
  simp only [List.mem_append, List.mem_eraseDups, List.mem_filter, List.contains_iff_mem] at hq
  obtain ⟨_, h⟩ | ⟨h, _⟩ := hq <;> exact h

/-! Each operation on the state keeps the invariant. -/

theorem State.Inv.setInputs {s : State} (hs : s.Inv) (l : List Input) : ({ s with inputs := l } : State).Inv where
  impl := hs.impl
  pes := hs.pes
  sinks f hf := Sink.exists?_congr rfl rfl (hs.sinks f hf)
  draws := hs.draws

/-- Serial numbers only grow. -/
theorem State.Inv.setDraws {s : State} (hs : s.Inv) {d : Nat} (hd : s.draws ≤ d) : ({ s with draws := d } : State).Inv where
  impl := hs.impl
  pes := hs.pes
  sinks f hf := Sink.exists?_congr rfl rfl (hs.sinks f hf)
  draws f hf := Happening.drawnBefore_mono hd (hs.draws f hf)

theorem State.Inv.dropOffer {s : State} (hs : s.Inv) : s.dropOffer.Inv where
  impl := hs.impl
  pes := hs.pes
  sinks f hf := Sink.exists?_congr rfl rfl (hs.sinks f (List.mem_of_mem_tail hf))
  draws f hf := hs.draws f (List.mem_of_mem_tail hf)

theorem State.Inv.emit {s : State} (hs : s.Inv) (o : Output) : (s.emit o).Inv where
  impl := hs.impl
  pes := hs.pes
  sinks f hf := Sink.exists?_congr rfl rfl (hs.sinks f hf)
  draws := hs.draws

theorem State.Inv.offerFirst {s : State} (hs : s.Inv) {l : List Offer} (hl : ∀ f ∈ l, f.Valid s) : (s.offerFirst l).Inv := by
  have hvalid : ∀ f ∈ l ++ s.agenda, f.Valid s := List.forall_mem_append.mpr ⟨hl, hs.valid⟩
  exact {
    impl := hs.impl
    pes := hs.pes
    sinks := fun f hf => Sink.exists?_congr rfl rfl (hvalid f hf).sink
    draws := fun f hf => (hvalid f hf).drawn }

theorem State.Inv.offerAll {s : State} (hs : s.Inv) {h : Happening} (hh : h.drawnBefore s.draws = true)
    (order : List (Nat × Nat)) : (s.offerAll h order).Inv := by
  refine hs.offerFirst fun f hf => ?_
  obtain ⟨⟨p, n⟩, hq, rfl⟩ := List.mem_map.mp hf
  obtain ⟨hp, hn⟩ := (State.allCounters_mem s p n).mp (State.offerOrder_mem hq)
  exact ⟨by simp [Sink.exists?, hp, hn], hh⟩

theorem State.Inv.offerOverflow {s : State} (hs : s.Inv) (c : OverflowCause) : (s.offerOverflow c).Inv := by
  unfold State.offerOverflow
  split
  · exact hs.offerFirst (overflowOffers_valid s c)
  · exact hs

/-- A change of one PE keeps the invariant where it keeps the PE within its widths. -/
theorem State.Inv.modifyPe {s : State} (hs : s.Inv) (p : Nat) {f : Pe → Pe}
    (hf : ∀ q, q.fits s.impl = true → (f q).fits s.impl = true) : (s.modifyPe p f).Inv where
  impl := hs.impl
  pes := forall_mem_modify p hs.pes hf
  sinks g hg := Sink.exists?_congr (s := s) rfl (by simp) (hs.sinks g hg)
  draws := hs.draws

/-- A change of one PE that leaves its event counters alone keeps the invariant. -/
theorem State.Inv.modifyRegisters {s : State} (hs : s.Inv) (p : Nat) {f : Pe → Pe} (hf : ∀ q, (f q).counters = q.counters) :
    (s.modifyPe p f).Inv :=
  hs.modifyPe p fun q => Pe.fits_of_counters_eq (hf q)

theorem State.Inv.modifyCounter {s : State} (hs : s.Inv) (p n : Nat) {f : Counter → Counter}
    (hf : ∀ c, c.fits s.impl = true → (f c).fits s.impl = true) : (s.modifyCounter p n f).Inv :=
  hs.modifyPe p fun _ => Pe.fits_modify_counters n hf

/-- A count put into a counter keeps the invariant where it has no more than W bits. -/
theorem State.Inv.setCount {s : State} (hs : s.Inv) (p n : Nat) {v : CountWord} (hv : v.toNat < 2 ^ s.impl.counterWidth) :
    (s.setCount p n v).Inv :=
  hs.modifyCounter p n fun _ hc => Counter.fits_of_count_lt hc rfl hv

/-- `Count` is a new count, a serial number used up, and the offers of the overflow (40_common_event_rules.md R121). -/
theorem State.countAt_eq (s : State) (p n : Nat) (old : CountWord) (k : Nat) (wh : List OverflowSource) :
    s.countAt p n old k wh
      = ({ s.setCount p n (addCount s.impl old k) with draws := s.draws + 1 } : State).offerFirst
          (chainOffers s p n (overflow32 old k) wh
            ++ if overflow32 old k || overflow64 s.impl old k then
                overflowOffers { source := .counter p n, ovf32 := overflow32 old k, ovf64 := overflow64 s.impl old k,
                                 exportAllowed := !wh.contains (.counter p n) }
              else []) := rfl

theorem State.Inv.countAt {s : State} (hs : s.Inv) {p n : Nat} {c : Counter} (hc : s.counter? p n = some c) (k : Nat)
    (wh : List OverflowSource) : (s.countAt p n c.count k wh).Inv := by
  rw [State.countAt_eq]
  have hcounted := (hs.setCount p n (addCount_lt s.impl c.count k)).setDraws (Nat.le_succ s.draws)
  refine hcounted.offerFirst (List.forall_mem_append.mpr ⟨?_, ?_⟩)
  · exact chainOffers_valid (hs.counter_exists? hc).1 rfl (by simp) (Nat.lt_succ_self _)
  · split
    · exact overflowOffers_valid _ _
    · simp

/-! Every step keeps the invariant. -/

/-- Each step of the host or the environment offers, answers, or changes a PE within its widths. -/
theorem applyInput_keeps_inv {s t : State} {i : Input} (hs : s.Inv) (h : applyInput s i = .next t) : t.Inv := by
  cases i with
  | occurrence o order =>
    cases h
    have hdrawn : (Happening.occurs s.draws o).drawnBefore (s.draws + 1) = true := decide_eq_true (Nat.lt_succ_self _)
    exact (hs.setDraws (Nat.le_succ _)).offerAll hdrawn order
  | readPmswinc p => cases h
  | writePmswinc p v ctx withheld order =>
    simp only [applyInput, onPe_eq_next, Host.Outcome.next.injEq] at h
    obtain ⟨_, _, rfl⟩ := h
    exact hs.offerAll rfl order
  | readPmevcntr p n =>
    simp only [applyInput, onCounter_eq_next, Host.Outcome.next.injEq] at h
    obtain ⟨_, _, rfl⟩ := h
    exact hs.emit _
  | readPmceid _ _ | readPmceid32 _ _ =>
    simp only [applyInput, onPe_eq_next, ite_refused_eq_next] at h
    obtain ⟨_, _, _, rfl⟩ := h
    exact hs.emit _
  | writePmevtyper p n e mt f =>
    simp only [applyInput, onCounter_eq_next, Host.Outcome.next.injEq] at h
    obtain ⟨_, _, rfl⟩ := h
    exact hs.modifyCounter p n fun _ => writeEventType_fits e mt f
  | writePmevcntr p n x =>
    simp only [applyInput, onCounter_eq_next, Host.Outcome.next.injEq] at h
    obtain ⟨_, _, rfl⟩ := h
    exact hs.modifyCounter p n fun _ => writeCount_fits x
  | forceMt p n _ | stateChainFilterAll p n _ =>
    simp only [applyInput, onCounter_eq_next, Host.Outcome.next.injEq] at h
    obtain ⟨_, _, rfl⟩ := h
    exact hs.modifyCounter p n fun _ hc => hc
  | resetEventCounters p =>
    simp only [applyInput, onPe_eq_next, Host.Outcome.next.injEq] at h
    obtain ⟨_, _, rfl⟩ := h
    exact hs.modifyPe p fun _ => Pe.fits_reset_counters
  | resetCycleCounter p | writeInten p _ _ | writeF0 p _ | stateTrace p _ _ =>
    simp only [applyInput, onPe_eq_next, Host.Outcome.next.injEq] at h
    obtain ⟨_, _, rfl⟩ := h
    exact hs.modifyRegisters p fun _ => rfl
  | writeControl p f =>
    simp only [applyInput, onPe_eq_next, ite_refused_eq_next] at h
    obtain ⟨_, _, _, rfl⟩ := h
    exact hs.modifyRegisters p fun q => writeField_counters q f
  | forceControl p f =>
    simp only [applyInput, onPe_eq_next, ite_refused_eq_next] at h
    obtain ⟨_, _, _, rfl⟩ := h
    exact hs.modifyRegisters p fun q => forceField_counters q f
  | releaseControl p f =>
    simp only [applyInput, onPe_eq_next, ite_refused_eq_next] at h
    obtain ⟨_, _, _, rfl⟩ := h
    exact hs.modifyRegisters p fun q => releaseField_counters q f
  | cycleCounted p ex =>
    simp only [applyInput, onPe_eq_next, Host.Outcome.next.injEq] at h
    obtain ⟨_, _, rfl⟩ := h
    refine State.Inv.offerOverflow ?_ _
    exact hs.modifyRegisters p fun _ => rfl
  | instructionCounted p ex =>
    simp only [applyInput, onPe_eq_next] at h
    obtain ⟨_, _, h⟩ := h
    split at h <;> cases h
    · refine State.Inv.offerOverflow ?_ _
      exact hs.modifyRegisters p fun _ => rfl
    · exact hs

theorem State.takeInput_keeps_inv {s t : State} (hs : s.Inv) (h : s.takeInput = .next t) : t.Inv := by
  unfold State.takeInput at h
  split at h
  · cases h
    exact hs
  · exact applyInput_keeps_inv (hs.setInputs _) h

/-- Each of the four things an event can do (`exec_cases`) keeps the invariant. -/
theorem exec_keeps_inv {s t : State} {i : Instr} (hs : s.Inv) (h : exec i s = .next t) : t.Inv := by
  obtain he | ⟨_, _, _, p, n, _, c, k, wh, _, hc, he⟩ | ⟨_, o, _, _, _, _, he⟩ | ⟨_, _, p, n, _, _, serial, _, _, he⟩ :=
    exec_cases i s <;> rw [he] at h <;> cases h
  · exact hs.dropOffer
  · exact hs.dropOffer.countAt hc k wh
  · exact hs.dropOffer.emit o
  · exact hs.dropOffer.setCount p n (freeCountOf_lt s.impl serial)

/-- Settles O8: by the three branches of `step` (an input, an event, a sink that selects no event). -/
theorem stepKeepsInv : Obligations.StepKeepsInv := by
  intro s t hs h
  unfold step at h
  split at h
  · exact State.takeInput_keeps_inv hs h
  · split at h
    · exact exec_keeps_inv hs h
    · cases h
      exact hs.dropOffer

end Sys2Proof.Machine

/-!
PROOFS. PMCCNTR_EL0 and PMICNTR_EL0 count (10_state.md R28, R29; 40_common_event_rules.md R127).
-/

namespace Sys2Proof.Machine

/-- With nothing offered, a step admits the next input. -/
theorem step_of_input {s : State} {i : Input} {rest : List Input} (ha : s.agenda = []) (hi : s.inputs = i :: rest) :
    step s = applyInput { s with inputs := rest } i := by
  simp [step, State.takeInput, ha, hi]

theorem addOne_toNat (old : CountWord) : (addOne old).toNat = (old.toNat + 1) % 2 ^ 64 := by
  simp [addOne]

/-- An overflow of bits [63:0] is one of bits [31:0] too, so without the latter nothing is offered. -/
theorem State.offerOverflow_of_no_carry (s : State) (src : OverflowSource) {old : CountWord} (ex : Bool)
    (h : old.toNat % 2 ^ 32 + 1 < 2 ^ 32) : s.offerOverflow (oneMoreCause src old ex) = s := by
  have h32 : (oneMoreCause src old ex).ovf32 = false := decide_eq_false (by omega)
  have h64 : (oneMoreCause src old ex).ovf64 = false := decide_eq_false (by omega)
  simp [State.offerOverflow, h32, h64]

/-- An overflow of bits [31:0] is offered to the two consumers, with its bits [63:0] part. -/
theorem State.offerOverflow_of_carry (s : State) (src : OverflowSource) {old : CountWord} (ex : Bool)
    (h : old.toNat % 2 ^ 32 + 1 = 2 ^ 32) :
    s.offerOverflow (oneMoreCause src old ex)
      = s.offerFirst (overflowOffers
          { source := src, ovf32 := true, ovf64 := decide (old.toNat + 1 = 2 ^ 64), exportAllowed := ex }) := by
  have hcause : oneMoreCause src old ex
      = { source := src, ovf32 := true, ovf64 := decide (old.toNat + 1 = 2 ^ 64), exportAllowed := ex } := by
    have hold : old.toNat < 2 ^ 64 := old.isLt
    simp only [oneMoreCause, OverflowCause.mk.injEq, decide_eq_true_eq, decide_eq_decide, true_and, and_true]
    omega
  simp [State.offerOverflow, hcause]

/-- The offer of an overflow leaves everything but the agenda. -/
theorem State.offerOverflow_setAgenda (s : State) (c : OverflowCause) (l : List Offer) :
    ({ s.offerOverflow c with agenda := l } : State) = { s with agenda := l } := by
  unfold State.offerOverflow
  split <;> rfl

/-- What counting one on a 64-bit counter of PE p does: PE p becomes `f q`, and the overflow alone is offered. -/
theorem countOne_effect {s : State} {p : Nat} {q : Pe} (rest : List Input) (f : Pe → Pe) (src : OverflowSource) (old : CountWord)
    (ex : Bool) (ha : s.agenda = []) (hq : s.pes[p]? = some q) :
    let t := (({ s with inputs := rest } : State).modifyPe p f).offerOverflow (oneMoreCause src old ex)
    PeBecomes s { t with agenda := [] } p (f q) rest
      ∧ (old.toNat % 2 ^ 32 + 1 < 2 ^ 32 → t.agenda = [])
      ∧ (old.toNat % 2 ^ 32 + 1 = 2 ^ 32 → ∃ w64, (w64 = true ↔ old.toNat + 1 = 2 ^ 64)
          ∧ t.agenda = overflowOffers { source := src, ovf32 := true, ovf64 := w64, exportAllowed := ex }) := by
  have hpe := State.modifyPe_peBecomes rest f ha hq
  refine ⟨?_, fun h => ?_, fun h => ⟨decide (old.toNat + 1 = 2 ^ 64), decide_eq_true_iff, ?_⟩⟩
  · rw [State.offerOverflow_setAgenda]
    obtain ⟨himpl, hinputs, _, hout, hdraws⟩ := hpe.fixed
    exact ⟨hpe.pe, hpe.others, himpl, hinputs, rfl, hout, hdraws⟩
  · rw [State.offerOverflow_of_no_carry _ src ex h]
    exact ha
  · rw [State.offerOverflow_of_carry _ src ex h]
    simp [ha]

/-- Settles O59: each of the two inputs counts one on its 64-bit counter (`countOne_effect`). -/
theorem cyclesAndInstructions : Obligations.CyclesAndInstructions := by
  refine ⟨fun s p ex rest q ha hi hq => ?_, fun s p ex rest q ha hi hq hicntr => ?_⟩
  · obtain ⟨hpe, hquiet, hoverflow⟩ :=
      countOne_effect rest (fun q => { q with pmccntr := addOne q.pmccntr }) (.cycleCounter p) q.pmccntr ex ha hq
    refine ⟨_, _, ?_, hpe, rfl, addOne_toNat _, hquiet, hoverflow⟩
    rw [step_of_input ha hi]
    exact onPe_eq_next.mpr ⟨q, hq, rfl⟩
  · obtain ⟨hpe, hquiet, hoverflow⟩ :=
      countOne_effect rest (fun q => { q with pmicntr := addOne q.pmicntr }) (.instructionCounter p) q.pmicntr ex ha hq
    refine ⟨_, _, ?_, hpe, rfl, addOne_toNat _, hquiet, hoverflow⟩
    rw [step_of_input ha hi]
    exact onPe_eq_next.mpr ⟨q, hq, if_pos hicntr⟩

end Sys2Proof.Machine

/-!
PROOFS. The events that count writes of a register by its name (10_state.md R38, R39; 41_architectural_events_p1.md R206, R211).
-/

namespace Sys2Proof.Machine

theorem Obs.gated_iff {b : Obs} {f : Fact} {c : Bool} : b.gated f c = true ↔ (b.is f = true → c = true) := by
  cases hf : b.is f <;> simp [Obs.gated, Obs.never, hf]

theorem Obs.writes_iff {b : Obs} {l : List (SysReg × WriteVia)} :
    b.writes l = true ↔ ∃ q ∈ l, b.occ.regWrite = some q := by
  unfold Obs.writes
  cases b.occ.regWrite <;> simp

/-- Settles O39: both events are a write from a list of names (`Obs.writes_iff`) and the gate of a draw (`Obs.gated_iff`). -/
theorem registerNameWrites : Obligations.RegisterNameWrites := by
  intro b
  constructor
  · rw [occOf_cidWriteRetired, occCidWriteRetired, Bool.and_eq_true, Obs.writes_iff, Obs.gated_iff]
    simp [Obs.draw]
  · rw [occOf_ttbrWriteRetired, occTtbrWriteRetired, Bool.and_eq_true, Obs.writes_iff, Obs.gated_iff]
    simp [Obs.draw]

end Sys2Proof.Machine

/-!
PROOFS. Decode and encode (30_encoding.md R90 to R94, R98, R99, R103, R104).
-/

namespace Sys2Proof

/-! Decoding is the inverse of encoding (R90, R91). -/

section RoundTrip
open Laws.RoundTrip

/-- The cases of `Instr`, in the order of its constructors, are the lemmas of `Laws.RoundTrip`. -/
theorem decodeWord_encode (e : Instr) : decodeWord (encode e) = some e :=
  Instr.casesOn (motive := Statement) e
    swIncr ldRetired stRetired instRetired excTaken excReturn cidWriteRetired pcWriteRetired brImmedRetired brReturnRetired
    unalignedLdstRetired ttbrWriteRetired chain brRetired excUndef excSvc excPabort excDabort excIrq excFiq excSmc excHvc
    excTrapPabort excTrapDabort excTrapOther excTrapIrq excTrapFiq trbWrap pmuOvfs trbTrig pmuHovfs simdInstRetired aseInstRetired
    sveInstRetired aseSveInstRetired brSkipRetired brImmedTakenRetired brImmedSkipRetired brIndTakenRetired brIndSkipRetired
    brIndnrTakenRetired brIndnrSkipRetired brReturnAnyRetired brReturnSkipRetired brIndRetired brIndnrRetired brbFiltrate
    brnlIndnrTakenRetired blTakenRetired brnlTakenRetired blIndTakenRetired brnlIndTakenRetired blImmedTakenRetired
    brnlImmedTakenRetired brUncondRetired brCondRetired brCondTakenRetired brHintCondRetired aseSveRetired ldAnyRetired
    stAnyRetired ldstAnyRetired dpRetired aseRetired vfpRetired sveRetired cryptoRetired prfRetired smeRetired seRetired
    smeInstRetired seInstRetired l1iCacheRefill l1iTlbRefill l1dCacheRefill l1dCache l1dTlbRefill brMisPred cpuCycles brPred
    memAccess l1iCache l1dCacheWb l2dCache l2dCacheRefill l2dCacheWb busAccess memoryError instSpec busCycles l1dCacheAllocate
    l2dCacheAllocate brMisPredRetired stallFrontend stallBackend l1dTlb l1iTlb l2iCache l2iCacheRefill l3dCacheAllocate
    l3dCacheRefill l3dCache l3dCacheWb l2dTlbRefill l2iTlbRefill l2dTlb l2iTlb remoteAccess llCache llCacheMiss dtlbWalk itlbWalk
    llCacheRd llCacheMissRd remoteAccessRd l1dCacheLmissRd opRetired opSpec stall stallSlotBackend stallSlotFrontend stallSlot
    l1dCacheRd l1dCacheWr l1dCacheRefillRd l1dCacheRefillWr l1dCacheRefillInner l1dCacheRefillOuter l1dCacheWbVictim
    l1dCacheWbClean l1dCacheInval l1dTlbRefillRd l1dTlbRefillWr l1dTlbRd l1dTlbWr l2dCacheRd l2dCacheWr l2dCacheRefillRd
    l2dCacheRefillWr l2dCacheWbVictim l2dCacheWbClean l2dCacheInval l2dTlbRefillRd l2dTlbRefillWr l2dTlbRd l2dTlbWr busAccessRd
    busAccessWr busAccessShared busAccessNotShared busAccessNormal busAccessPeriph memAccessRd memAccessWr unalignedLdSpec
    unalignedStSpec unalignedLdstSpec ldrexSpec strexPassSpec strexFailSpec strexSpec ldSpec stSpec ldstSpec dpSpec aseSpec vfpSpec
    pcWriteSpec cryptoSpec brImmedSpec brReturnSpec brIndirectSpec isbSpec dsbSpec dmbSpec csdbSpec rcLdSpec rcStSpec
    l3dCacheHitWrFextProp l3dCacheRd l3dCacheWr l3dCacheRefillRd l3dCacheRefillWr l3dCacheWbVictim l3dCacheWbClean l3dCacheInval
    l2dCacheHitRdFextProp l2dCacheHitWrFextProp l2dCacheHitRwFextProp l3dCacheExtProp l3dCacheExtPropPrfmIr l3dCacheHitRwFextProp
    l3dCacheHitRdFextProp stshhSpec stshhKeepSpec stshhStrmSpec prfmIrSpec memAccessWrStshh memAccessWrStshhKeep
    memAccessWrStshhStrm memAccessWrStshhKeepNear memAccessWrStshhKeepFar l1dCacheExtProp l1dCacheExtPropPrfmIr
    l1dCacheHitRdFextProp l1dCacheHitWrFextProp l1dCacheHitRwFextProp l2dCacheExtProp l2dCacheExtPropPrfmIr samplePop sampleFeed
    sampleFiltrate sampleCollision cntCycles stallBackendMem l1iCacheLmiss l2dCacheLmissRd l2iCacheLmiss l3dCacheLmissRd trcextout0
    trcextout1 trcextout2 trcextout3 ctiTrigout4 ctiTrigout5 ctiTrigout6 ctiTrigout7 ldstAlignLat ldAlignLat stAlignLat
    memAccessChecked memAccessCheckedRd memAccessCheckedWr simdInstSpec aseInstSpec sveInstSpec aseSveInstSpec uopSpec aseUopSpec
    sveUopSpec aseSveUopSpec simdUopSpec sveMathSpec fpSpec aseFpSpec sveFpSpec aseSveFpSpec fpHpSpec aseFpHpSpec sveFpHpSpec
    aseSveFpHpSpec fpSpSpec aseFpSpSpec sveFpSpSpec aseSveFpSpSpec fpDpSpec aseFpDpSpec sveFpDpSpec aseSveFpDpSpec fpDivSpec
    aseFpDivSpec sveFpDivSpec aseSveFpDivSpec fpSqrtSpec aseFpSqrtSpec sveFpSqrtSpec aseSveFpSqrtSpec fpFmaSpec aseFpFmaSpec
    sveFpFmaSpec aseSveFpFmaSpec fpMulSpec aseFpMulSpec sveFpMulSpec aseSveFpMulSpec fpAddsubSpec aseFpAddsubSpec sveFpAddsubSpec
    aseSveFpAddsubSpec fpRecpeSpec aseFpRecpeSpec sveFpRecpeSpec aseSveFpRecpeSpec fpCvtSpec aseFpCvtSpec sveFpCvtSpec
    aseSveFpCvtSpec sveFpAreduceSpec aseFpPreduceSpec sveFpVreduceSpec aseSveFpVreduceSpec intSpec aseIntSpec sveIntSpec
    aseSveIntSpec intDivSpec intDiv64Spec sveIntDivSpec sveIntDiv64Spec intMulSpec aseIntMulSpec sveIntMulSpec aseSveIntMulSpec
    intMul64Spec sveIntMul64Spec intMulh64Spec sveIntMulh64Spec aseFpBf16Spec sveFpBf16Spec aseSveFpBf16Spec fpBf16Spec sveSpec
    aseSveSpec nonfpSpec aseNonfpSpec sveNonfpSpec aseSveNonfpSpec aseIntVreduceSpec sveIntVreduceSpec aseSveIntVreduceSpec
    svePermSpec svePermIgranuleSpec svePermXgranuleSpec svePermVariableSpec sveXpipeSpec sveXpipeZ2rSpec sveXpipeR2zSpec
    svePgenNvecSpec svePgenSpec svePgenFlgSpec svePgenCmpSpec svePgenFcmSpec svePgenLogicSpec svePpermSpec svePscanSpec svePcntSpec
    svePloopWhileSpec svePloopTestSpec svePloopEltsSpec svePloopTermSpec svePredSpec svePredEmptySpec svePredFullSpec
    svePredPartialSpec sveUnpredSpec svePredNotFullSpec sveMovprfxSpec sveMovprfxZSpec sveMovprfxMSpec sveMovprfxUSpec sveLdstSpec
    sveLdSpec sveStSpec svePrfSpec aseSveLdstSpec aseSveLdSpec aseSveStSpec prfSpec baseLdstRegSpec baseLdRegSpec baseStRegSpec
    basePrfSpec fpaseLdstRegSpec fpaseLdRegSpec fpaseStRegSpec sveLdstRegSpec sveLdrRegSpec sveStrRegSpec sveLdstPregSpec
    sveLdrPregSpec sveStrPregSpec sveLdstZregSpec sveLdrZregSpec sveStrZregSpec sveLdstContigSpec sveLdContigSpec sveStContigSpec
    svePrfContigSpec sveLdstntContigSpec sveLdntContigSpec sveStntContigSpec aseSveLdstMultiSpec aseSveLdMultiSpec
    aseSveStMultiSpec sveLdstMultiSpec sveLdMultiSpec sveStMultiSpec sveLdstNoncontigSpec sveLdGatherSpec sveStScatterSpec
    svePrfGatherSpec sveLdst64NoncontigSpec sveLd64GatherSpec sveSt64ScatterSpec svePrf64GatherSpec aseSveUnalignedLdstSpec
    aseSveUnalignedLdSpec aseSveUnalignedStSpec aseSveUnalignedContigLdstSpec aseSveUnalignedContigLdSpec
    aseSveUnalignedContigStSpec sveLdffSpec sveLdffFaultSpec fpScaleOpsSpec fpFixedOpsSpec fpHpScaleOpsSpec fpHpFixedOpsSpec
    fpSpScaleOpsSpec fpSpFixedOpsSpec fpDpScaleOpsSpec fpDpFixedOpsSpec intScaleOpsSpec intFixedOpsSpec ldstScaleOpsSpec
    ldstFixedOpsSpec ldScaleOpsSpec ldFixedOpsSpec stScaleOpsSpec stFixedOpsSpec fpScale2OpsSpec fpHpScale2OpsSpec
    fpBf16Scale2OpsSpec fpSpScale2OpsSpec fpDpScale2OpsSpec intScale2OpsSpec ldstScaleBytesSpec ldstFixedBytesSpec ldScaleBytesSpec
    ldFixedBytesSpec stScaleBytesSpec stFixedBytesSpec aseInt8Spec sveInt8Spec aseSveInt8Spec aseInt16Spec sveInt16Spec
    aseSveInt16Spec fpBf16ScaleOpsSpec aseInt32Spec sveInt32Spec aseSveInt32Spec aseInt64Spec sveInt64Spec aseSveInt64Spec
    aseFpDotSpec sveFpDotSpec aseSveFpDotSpec aseFpMmlaSpec sveFpMmlaSpec aseSveFpMmlaSpec aseIntDotSpec sveIntDotSpec
    aseSveIntDotSpec aseIntMmlaSpec sveIntMmlaSpec aseSveIntMmlaSpec brImmedPredRetired brImmedMisPredRetired brIndPredRetired
    brIndMisPredRetired brReturnPredRetired brReturnMisPredRetired brIndnrPredRetired brIndnrMisPredRetired brTakenPredRetired
    brTakenMisPredRetired brSkipPredRetired brSkipMisPredRetired brPredRetired instFetchPercyc memAccessRdPercyc sampleFeedDs
    sampleBufferFull instFetch busReqRdPercyc busReqWrPercyc pmuSnapshot dtlbWalkPercyc itlbWalkPercyc sampleFeedBr sampleFeedLd
    sampleFeedSt sampleFeedOp sampleFeedEvent sampleFeedLat l1dTlbRw l1iTlbRd l1dTlbPrfm l1iTlbPrfm dtlbHwupd itlbHwupd dtlbStep
    itlbStep dtlbWalkLarge itlbWalkLarge dtlbWalkSmall itlbWalkSmall dtlbWalkRw itlbWalkRd dtlbWalkPrfm itlbWalkPrfm l1dCacheRw
    l1iCacheRd l1dCachePrfm l1iCachePrfm l1dCacheMiss l1iCacheHwprf l1dCacheRefillPrfm l1iCacheRefillPrfm l2dCacheRw l2iCacheRd
    l2dCachePrfm l2iCachePrfm l2dCacheMiss l2iCacheHwprf l2dCacheRefillPrfm l2iCacheRefillPrfm l3dCacheRw l3dCachePrfm l3dCacheMiss
    l3dCacheRefillPrfm l1dCacheHwprf l2dCacheHwprf l3dCacheHwprf llCacheHwprf stallFrontendMembound stallFrontendL1i
    stallFrontendL2i stallFrontendMem stallFrontendTlb stallBackendBusySmcu stallBackendBusySmcuUnall stallFrontendCpubound
    stallFrontendFlow stallFrontendFlush stallFrontendRename stallBackendMembound stallBackendL1d stallBackendL2d stallBackendTlb
    stallBackendSt stallBackendCpubound stallBackendBusy stallBackendIlock stallBackendRename stallBackendAtomic
    stallBackendMemcpyset casNearFail casNearPass casNearSpec casFarSpec casSpec lseLdSpec lseStSpec lseLdstSpec remoteAccessWr
    brHintCondPredRetired brHintCondMisPredRetired uopRetired dtlbWalkBlock itlbWalkBlock dtlbWalkPage itlbWalkPage busReqRd
    busReqWr busReq isnpHitRd isnpHitNearRd isnpHitFarRd isnpHitRemoteRd dsnpHitRd dsnpHitNearRd dsnpHitFarRd dsnpHitRemoteRd
    dsnpHitWr dsnpHitNearWr dsnpHitFarWr dsnpHitRemoteWr dsnpHitRw dsnpHitNearRw dsnpHitFarRw dsnpHitRemoteRw dsnpHitPrfm
    dsnpHitNearPrfm dsnpHitFarPrfm dsnpHitRemotePrfm dsnpHitHwprf dsnpHitNearHwprf dsnpHitFarHwprf dsnpHitRemoteHwprf isnpHitPrfm
    isnpHitNearPrfm isnpHitFarPrfm isnpHitRemotePrfm isnpHitHwprf isnpHitNearHwprf isnpHitFarHwprf isnpHitRemoteHwprf isnpHit
    isnpHitNear isnpHitFar isnpHitRemote dsnpHit dsnpHitNear dsnpHitFar dsnpHitRemote l1iCacheRefillHwprf l2iCacheRefillHwprf
    l1dCacheRefillHwprf l2dCacheRefillHwprf l3dCacheRefillHwprf llCacheRefillHwprf l1iCacheHitRd l2iCacheHitRd l1dCacheHitRd
    l2dCacheHitRd l3dCacheHitRd llCacheHitRd l1dCacheHitWr l2dCacheHitWr l3dCacheHitWr llCacheHitWr l1dCacheHitRw l2dCacheHitRw
    l3dCacheHitRw llCacheHitRw l1iCacheHitRdFprfm l2iCacheHitRdFprfm l1dCacheHitRdFprfm l2dCacheHitRdFprfm l3dCacheHitRdFprfm
    llCacheHitRdFprfm l1dCacheHitWrFprfm l2dCacheHitWrFprfm l3dCacheHitWrFprfm llCacheHitWrFprfm l1dCacheHitRwFprfm
    l2dCacheHitRwFprfm l3dCacheHitRwFprfm llCacheHitRwFprfm l1iCacheHitRdFhwprf l2iCacheHitRdFhwprf l1dCacheHitRdFhwprf
    l2dCacheHitRdFhwprf l3dCacheHitRdFhwprf llCacheHitRdFhwprf l1dCacheHitWrFhwprf l2dCacheHitWrFhwprf l3dCacheHitWrFhwprf
    llCacheHitWrFhwprf l1dCacheHitRwFhwprf l2dCacheHitRwFhwprf l3dCacheHitRwFhwprf llCacheHitRwFhwprf l1iCacheHitRdFprf
    l2iCacheHitRdFprf l1dCacheHitRdFprf l2dCacheHitRdFprf l3dCacheHitRdFprf llCacheHitRdFprf l1dCacheHitWrFprf l2dCacheHitWrFprf
    l3dCacheHitWrFprf llCacheHitWrFprf l1dCacheHitRwFprf l2dCacheHitRwFprf l3dCacheHitRwFprf llCacheHitRwFprf l1iCacheHit
    l2iCacheHit l1dCacheHit l2dCacheHit l3dCacheHit llCacheHit l1iCacheHitPrfm l2iCacheHitPrfm l1dCacheHitPrfm l2dCacheHitPrfm
    l3dCacheHitPrfm llCacheHitPrfm l1dCacheHitmRd l2dCacheHitmRd l3dCacheHitmRd llCacheHitmRd l1dCacheHitmWr l2dCacheHitmWr
    l3dCacheHitmWr llCacheHitmWr l1dCacheHitmRw l2dCacheHitmRw l3dCacheHitmRw llCacheHitmRw dsnpHitmRd dsnpHitmNearRd dsnpHitmFarRd
    dsnpHitmRemoteRd dsnpHitmWr dsnpHitmNearWr dsnpHitmFarWr dsnpHitmRemoteWr dsnpHitmRw dsnpHitmNearRw dsnpHitmFarRw
    dsnpHitmRemoteRw localMem localMemRd localMemWr localMemRw localMemPrfm localMemLdRetired localMemStRetired localMemLdstRetired
    remoteMem remoteMemRd remoteMemWr remoteMemRw remoteMemPrfm remoteMemLdRetired remoteMemStRetired remoteMemLdstRetired
    l1iLfbHitRd l2iLfbHitRd l1dLfbHitRd l2dLfbHitRd l3dLfbHitRd llLfbHitRd l1dLfbHitWr l2dLfbHitWr l3dLfbHitWr llLfbHitWr
    l1dLfbHitRw l2dLfbHitRw l3dLfbHitRw llLfbHitRw l1iLfbHitRdFprfm l2iLfbHitRdFprfm l1dLfbHitRdFprfm l2dLfbHitRdFprfm
    l3dLfbHitRdFprfm llLfbHitRdFprfm l1dLfbHitWrFprfm l2dLfbHitWrFprfm l3dLfbHitWrFprfm llLfbHitWrFprfm l1dLfbHitRwFprfm
    l2dLfbHitRwFprfm l3dLfbHitRwFprfm llLfbHitRwFprfm l1iLfbHitRdFhwprf l2iLfbHitRdFhwprf l1dLfbHitRdFhwprf l2dLfbHitRdFhwprf
    l3dLfbHitRdFhwprf llLfbHitRdFhwprf l1dLfbHitWrFhwprf l2dLfbHitWrFhwprf l3dLfbHitWrFhwprf llLfbHitWrFhwprf l1dLfbHitRwFhwprf
    l2dLfbHitRwFhwprf l3dLfbHitRwFhwprf llLfbHitRwFhwprf l1iLfbHitRdFprf l2iLfbHitRdFprf l1dLfbHitRdFprf l2dLfbHitRdFprf
    l3dLfbHitRdFprf llLfbHitRdFprf l1dLfbHitWrFprf l2dLfbHitWrFprf l3dLfbHitWrFprf llLfbHitWrFprf l1dLfbHitRwFprf l2dLfbHitRwFprf
    l3dLfbHitRwFprf llLfbHitRwFprf l1iCachePrf l2iCachePrf l1dCachePrf l2dCachePrf l3dCachePrf llCachePrf l1iCacheRefillPrf
    l2iCacheRefillPrf l1dCacheRefillPrf l2dCacheRefillPrf l3dCacheRefillPrf llCacheRefillPrf isnpHitPrf isnpHitNearPrf
    isnpHitFarPrf isnpHitRemotePrf dsnpHitPrf dsnpHitNearPrf dsnpHitFarPrf dsnpHitRemotePrf llCacheRw llCachePrfm llCacheRefill
    llCacheRefillPrfm llCacheWb llCacheWr llCacheRefillWr memAccessRw instFetchRd memAccessPrfm instFetchPrfm l1iCacheMissRetired
    l2iCacheMissRetired l1dCacheMissLdRetired l2dCacheMissLdRetired l3dCacheMissLdRetired llCacheMissLdRetired
    l1dCacheMissStRetired l2dCacheMissStRetired l3dCacheMissStRetired llCacheMissStRetired l1dCacheMissLdstRetired
    l2dCacheMissLdstRetired l3dCacheMissLdstRetired llCacheMissLdstRetired l1dCacheHitmLdRetired l2dCacheHitmLdRetired
    l3dCacheHitmLdRetired llCacheHitmLdRetired l1dCacheHitmStRetired l2dCacheHitmStRetired l3dCacheHitmStRetired
    llCacheHitmStRetired l1dCacheHitmLdstRetired l2dCacheHitmLdstRetired l3dCacheHitmLdstRetired llCacheHitmLdstRetired
    l1iLfbHitRetired l2iLfbHitRetired l1dLfbHitLdRetired l2dLfbHitLdRetired l3dLfbHitLdRetired llLfbHitLdRetired l1dLfbHitStRetired
    l2dLfbHitStRetired l3dLfbHitStRetired llLfbHitStRetired l1dLfbHitLdstRetired l2dLfbHitLdstRetired l3dLfbHitLdstRetired
    llLfbHitLdstRetired l1iCacheHitRetired l2iCacheHitRetired l1dCacheHitLdRetired l2dCacheHitLdRetired l3dCacheHitLdRetired
    llCacheHitLdRetired l1dCacheHitStRetired l2dCacheHitStRetired l3dCacheHitStRetired llCacheHitStRetired l1dCacheHitLdstRetired
    l2dCacheHitLdstRetired l3dCacheHitLdstRetired llCacheHitLdstRetired itlbHitRetired dtlbHitLdRetired dtlbHitStRetired
    dtlbHitLdstRetired itlbWalkRetired dtlbWalkLdRetired dtlbWalkStRetired dtlbWalkLdstRetired dtlbWalkPrf itlbWalkPrf
    dtlbWalkHwprf itlbWalkHwprf l1dTlbPrf l1iTlbPrf l1dTlbHwprf l1iTlbHwprf dsnpHitmLdRetired dsnpHitmNearLdRetired
    dsnpHitmFarLdRetired dsnpHitmRemoteLdRetired dsnpHitmStRetired dsnpHitmNearStRetired dsnpHitmFarStRetired
    dsnpHitmRemoteStRetired dsnpHitmLdstRetired dsnpHitmNearLdstRetired dsnpHitmFarLdstRetired dsnpHitmRemoteLdstRetired
    isnpHitRetired isnpHitNearRetired isnpHitFarRetired isnpHitRemoteRetired dsnpHitLdRetired dsnpHitNearLdRetired
    dsnpHitFarLdRetired dsnpHitRemoteLdRetired dsnpHitStRetired dsnpHitNearStRetired dsnpHitFarStRetired dsnpHitRemoteStRetired
    dsnpHitLdstRetired dsnpHitNearLdstRetired dsnpHitFarLdstRetired dsnpHitRemoteLdstRetired l1dCacheRefillPercyc
    l2dCacheRefillPercyc l3dCacheRefillPercyc l1iCacheRefillPercyc l2iCacheRefillPercyc remoteCacheHitRd remoteCacheHitmRd
    remoteLfbHitRd remoteCacheHitPrfm stallBackendAtomicFp lseFpLdSpec lseFpStSpec lseFpLdstSpec l1gcsCache l1gcsCacheRw
    l1gcsCacheHwprf l1gcsCacheMiss l1gcsCacheMissRd l1gcsCacheHitRw l1gcsCacheHitRwFhwprf l1gcsCacheRefill l1gcsCacheRefillHwprf
    l1gcsCacheRefillPercyc l1gcsLfbHitRw l1gcsLfbHitRwFhwprf l1gcsCacheInval l1gcsTlb l1gcsTlbRw l1gcsTlbHwprf gcstlbWalk
    gcstlbWalkRw gcstlbWalkPercyc gcstlbWalkStep sampleFeedFp sampleFeedSimd stallBackendL1gcs stallBackendGcstlb smeFpSpec
    seFpSpec sveCmpIgranuleSpec sveCmpXgranuleSpec sveBitpermSpec smeSpec seSpec smeInstSpec seInstSpec smeInt8Spec seInt8Spec
    smeFpBf16Spec seFpBf16Spec smeInt16Spec seInt16Spec smeFpHpSpec seFpHpSpec smeInt32Spec seInt32Spec smeFpSpSpec seFpSpSpec
    smeInt64Spec seInt64Spec smeFpDpSpec seFpDpSpec smeFpAddsubSpec seFpAddsubSpec smeFpFmaSpec seFpFmaSpec smeFpDotSpec
    seFpDotSpec smeFpMopaSpec smeIntSpec seIntSpec smeIntMulSpec seIntMulSpec smeIntDotSpec seIntDotSpec smeIntMopaSpec zaActive
    smePred2NotFullSpec smePred2Spec smePred2EmptySpec smePred2FullSpec smePred2PartialSpec smeLdstZaregSpec smeLdZaregSpec
    smeStZaregSpec smeLdstZtregSpec smeLdZtregSpec smeStZtregSpec smeLdstRegSpec smeLdRegSpec smeStRegSpec smeLdstTileSpec
    smeLdTileSpec smeStTileSpec aseLutSpec sveLutSpec smeLutSpec seLutSpec n1CacheHitRd n2CacheHitRd n3CacheHitRd n4CacheHitRd
    n1CacheHitPrfm n2CacheHitPrfm n3CacheHitPrfm n4CacheHitPrfm n1Cache1HitRd n2Cache1HitRd n3Cache1HitRd n4Cache1HitRd
    n1Cache1HitPrfm n2Cache1HitPrfm n3Cache1HitPrfm n4Cache1HitPrfm n1Cache2HitRd n2Cache2HitRd n3Cache2HitRd n4Cache2HitRd
    n1Cache2HitPrfm n2Cache2HitPrfm n3Cache2HitPrfm n4Cache2HitPrfm n1Cache3HitRd n2Cache3HitRd n3Cache3HitRd n4Cache3HitRd
    n1Cache3HitPrfm n2Cache3HitPrfm n3Cache3HitPrfm n4Cache3HitPrfm n1CacheHitmRd n2CacheHitmRd n3CacheHitmRd n4CacheHitmRd
    n1LfbHitRd n2LfbHitRd n3LfbHitRd n4LfbHitRd n1Cache1HitmRd n2Cache1HitmRd n3Cache1HitmRd n4Cache1HitmRd n1Lfb1HitRd n2Lfb1HitRd
    n3Lfb1HitRd n4Lfb1HitRd n1Cache2HitmRd n2Cache2HitmRd n3Cache2HitmRd n4Cache2HitmRd n1Lfb2HitRd n2Lfb2HitRd n3Lfb2HitRd
    n4Lfb2HitRd n1Cache3HitmRd n2Cache3HitmRd n3Cache3HitmRd n4Cache3HitmRd n1Lfb3HitRd n2Lfb3HitRd n3Lfb3HitRd n4Lfb3HitRd n1MemRd
    n2MemRd n3MemRd n4MemRd n1MemPrfm n2MemPrfm n3MemPrfm n4MemPrfm n1Mem1Rd n2Mem1Rd n3Mem1Rd n4Mem1Rd n1Mem1Prfm n2Mem1Prfm
    n3Mem1Prfm n4Mem1Prfm n1Mem2Rd n2Mem2Rd n3Mem2Rd n4Mem2Rd n1Mem2Prfm n2Mem2Prfm n3Mem2Prfm n4Mem2Prfm n1Mem3Rd n2Mem3Rd
    n3Mem3Rd n4Mem3Rd n1Mem3Prfm n2Mem3Prfm n3Mem3Prfm n4Mem3Prfm isnpHitN1Rd isnpHitN2Rd isnpHitN3Rd isnpHitN4Rd dsnpHitN1Rd
    dsnpHitN2Rd dsnpHitN3Rd dsnpHitN4Rd dsnpHitN1Wr dsnpHitN2Wr dsnpHitN3Wr dsnpHitN4Wr dsnpHitN1Rw dsnpHitN2Rw dsnpHitN3Rw
    dsnpHitN4Rw dsnpHitN1Prfm dsnpHitN2Prfm dsnpHitN3Prfm dsnpHitN4Prfm dsnpHitN1Hwprf dsnpHitN2Hwprf dsnpHitN3Hwprf dsnpHitN4Hwprf
    isnpHitN1Prfm isnpHitN2Prfm isnpHitN3Prfm isnpHitN4Prfm isnpHitN1Hwprf isnpHitN2Hwprf isnpHitN3Hwprf isnpHitN4Hwprf
    dsnpHitN1Prf dsnpHitN2Prf dsnpHitN3Prf dsnpHitN4Prf isnpHitN1Prf isnpHitN2Prf isnpHitN3Prf isnpHitN4Prf isnpHitN1 isnpHitN2
    isnpHitN3 isnpHitN4 dsnpHitN1 dsnpHitN2 dsnpHitN3 dsnpHitN4 aseFpVreduceSpec sveFpPreduceSpec dsnpHitmN1Rd dsnpHitmN2Rd
    dsnpHitmN3Rd dsnpHitmN4Rd dsnpHitmN1Wr dsnpHitmN2Wr dsnpHitmN3Wr dsnpHitmN4Wr dsnpHitmN1Rw dsnpHitmN2Rw dsnpHitmN3Rw
    dsnpHitmN4Rw aseFpSpMinSpec aseFpHpMinSpec aseFpBf16MinSpec aseFpFp8MinSpec aseSveFpSpMinSpec aseSveFpHpMinSpec
    aseSveFpBf16MinSpec aseSveFpFp8MinSpec seFpSpMinSpec seFpHpMinSpec seFpBf16MinSpec seFpFp8MinSpec smeFpSpMinSpec smeFpHpMinSpec
    smeFpBf16MinSpec smeFpFp8MinSpec sveFpSpMinSpec sveFpHpMinSpec sveFpBf16MinSpec sveFpFp8MinSpec fpBf16FixedOpsSpec fpSpMinSpec
    fpHpMinSpec fpBf16MinSpec fpFp8MinSpec fpSpFixedMinOpsSpec fpHpFixedMinOpsSpec fpBf16FixedMinOpsSpec fpFp8FixedMinOpsSpec
    fpSpScaleMinOpsSpec fpHpScaleMinOpsSpec fpBf16ScaleMinOpsSpec fpFp8ScaleMinOpsSpec fpSpScale2MinOpsSpec fpHpScale2MinOpsSpec
    fpBf16Scale2MinOpsSpec fpFp8Scale2MinOpsSpec
end RoundTrip

/-- The high bytes of the assigned numbers. -/
def assignedPages : List Nat := [0x00, 0x40, 0x80, 0x81, 0x82, 0x83, 0x84]

/-- The table of assigned numbers, page by page. -/
def assignedTable : List (Nat × Instr) := assignedPages.flatMap tablePage

theorem tablePage_eq_nil {k : Nat} (hk : k ∉ assignedPages) : tablePage k = [] := by
  unfold tablePage
  split
  case h_8 => rfl
  all_goals exact absurd (by decide) hk

theorem mem_assignedTable_of_mem_tablePage {k : Nat} {q : Nat × Instr} (hq : q ∈ tablePage k) : q ∈ assignedTable := by
  by_cases hk : k ∈ assignedPages
  · exact List.mem_flatMap.mpr ⟨k, hk, hq⟩
  · rw [tablePage_eq_nil hk] at hq
    cases hq

theorem mem_of_lookupNat {x : Nat} {e : Instr} {l : List (Nat × Instr)} (h : lookupNat x l = some e) : (x, e) ∈ l := by
  induction l with
  | nil => cases h
  | cons q l ih =>
    unfold lookupNat at h
    split at h
    next hx =>
      cases h
      exact hx ▸ List.mem_cons_self
    next => exact List.mem_cons_of_mem _ (ih h)

/-- The table lists each event under its own number: evaluated over the 1198 entries. -/
theorem encode_of_mem_assignedTable : ∀ q ∈ assignedTable, (encode q.2).toNat = q.1 := by decide +kernel

theorem mem_assignedTable_of_decodeWord {w : EvtWord} {e : Instr} (h : decodeWord w = some e) :
    (w.toNat, e) ∈ assignedTable :=
  mem_assignedTable_of_mem_tablePage (mem_of_lookupNat h)

theorem decodeWord_eq_some_iff {w : EvtWord} {e : Instr} : decodeWord w = some e ↔ w = encode e := by
  constructor
  · intro h
    exact BitVec.eq_of_toNat_eq (encode_of_mem_assignedTable _ (mem_assignedTable_of_decodeWord h)).symm
  · rintro rfl
    exact decodeWord_encode e

/-- Settles O1: an event decodes from its number (`decodeWord_encode`), and the table lists it under no other
(`decodeWord_eq_some_iff`). -/
theorem decodeEncodeAgree : Obligations.DecodeEncodeAgree :=
  fun e => ⟨decodeWord_encode e, fun _ => decodeWord_eq_some_iff.mp⟩

/-- Cutting an event number to its 16 bits changes nothing. -/
theorem decodeTableWord_encode (e : Instr) : decodeTableWord 16 (encode e).toNat = some e := by
  have hmod : (encode e).toNat % 2 ^ 16 = (encode e).toNat := Nat.mod_eq_of_lt (encode e).isLt
  rw [decodeTableWord, hmod, if_pos (encode e).isLt, BitVec.ofNat_toNat, BitVec.setWidth_eq]
  exact decodeWord_encode e

/-- Settles O3: each number is, bit by bit, the number of the event named (`decodeTableWord_encode`). -/
theorem wordsDecode : Obligations.WordsDecode :=
  ⟨decodeTableWord_encode .swIncr, decodeTableWord_encode .cpuCycles, decodeTableWord_encode .l1dCacheRd,
    decodeTableWord_encode .cntCycles, decodeTableWord_encode .simdInstSpec, decodeTableWord_encode .brImmedPredRetired,
    decodeTableWord_encode .l1iCacheHitRd, decodeTableWord_encode .l1iCacheMissRetired,
    decodeTableWord_encode .fpFp8Scale2MinOpsSpec⟩

/-! Decoding for an implementation (R92 to R94, R99, R103). -/

/-- What `decodeFor` finds in a list with no entry for the number. -/
theorem find?_number_eq_none {l : List (EvtWord × Option Instr)} {w : EvtWord} (hw : ∀ x, (w, x) ∉ l) :
    l.find? (fun q => q.1 = w) = none := by
  rw [List.find?_eq_none]
  rintro ⟨_, x⟩ hq hx
  obtain rfl := of_decide_eq_true hx
  exact hw x hq

/-- The first entry of IMPDEF_RANGE for a number decides (R93). -/
theorem decodeFor_of_impdef {impl : Impl} {w : EvtWord} {x : Option Instr} {before after : List (EvtWord × Option Instr)}
    (hrange : impl.impdefRange = before ++ (w, x) :: after) (hbefore : ∀ y, (w, y) ∉ before) : decodeFor impl w = x := by
  simp [decodeFor, hrange, List.find?_append, find?_number_eq_none hbefore]

/-- Outside IMPDEF_RANGE the table decides, with the use that the implementation makes of the number. -/
theorem decodeFor_of_not_impdef {impl : Impl} {w : EvtWord} (hw : ∀ x, (w, x) ∉ impl.impdefRange) :
    decodeFor impl w = (decodeWord w).bind (fun a => if impl.uses a then some a else impl.otherUse a) := by
  rw [decodeFor, find?_number_eq_none hw]
  cases decodeWord w <;> rfl

/-- IMPDEF_RANGE of well-formed parameters holds no assigned number (R93). -/
theorem Impl.encode_not_impdef {impl : Impl} (h : impl.wellFormed = true) (e : Instr) (x : Option Instr) :
    (encode e, x) ∉ impl.impdefRange := by
  intro hmem
  have hok : impl.impdefOk = true := by
    simp only [Impl.wellFormed, Bool.and_eq_true] at h
    obtain ⟨⟨⟨⟨⟨⟨_, hok⟩, _⟩, _⟩, _⟩, _⟩, _⟩ := h
    exact hok
  have hnone := List.all_eq_true.mp hok _ hmem
  simp [decodeWord_encode] at hnone

theorem Impl.otherUse_eq_some_iff {impl : Impl} {a e : Instr} :
    impl.otherUse a = some e ↔ isU19 a = true ∧ impl.has .pmuv3p8 = false ∧ impl.u19Meaning a = .other (some e) := by
  unfold Impl.otherUse
  split <;> simp_all [and_assoc]

/-- A number of U19 that has another use is not used for its own event (R99). -/
theorem Impl.uses_eq_false_of_otherUse {impl : Impl} {a e : Instr} (h : impl.otherUse a = some e) : impl.uses a = false := by
  obtain ⟨hu19, hp8, hmeaning⟩ := Impl.otherUse_eq_some_iff.mp h
  simp [Impl.uses, hu19, hp8, hmeaning]

/-- The use of an event's number is the event itself or, by U19, another. -/
theorem Impl.use_eq_some_iff {impl : Impl} {a e : Instr} :
    (if impl.uses a then some a else impl.otherUse a) = some e
      ↔ (a = e ∧ impl.uses e = true) ∨ impl.otherUse a = some e := by
  split
  next hused =>
    have hnone : impl.otherUse a ≠ some e :=
      fun hother => Bool.false_ne_true ((Impl.uses_eq_false_of_otherUse hother).symm.trans hused)
    simp only [hnone, or_false, Option.some.injEq]
    exact ⟨fun ha => ⟨ha, ha ▸ hused⟩, And.left⟩
  next hunused =>
    exact ⟨.inr, fun h => h.elim (fun ⟨ha, hused⟩ => absurd (ha ▸ hused) hunused) id⟩

theorem decodeFor_eq_some_iff {impl : Impl} {w : EvtWord} {e : Instr} (hw : ∀ x, (w, x) ∉ impl.impdefRange) :
    decodeFor impl w = some e
      ↔ (w = encode e ∧ impl.uses e = true)
        ∨ ∃ a, w = encode a ∧ isU19 a = true ∧ impl.has .pmuv3p8 = false ∧ impl.u19Meaning a = .other (some e) := by
  rw [decodeFor_of_not_impdef hw, Option.bind_eq_some_iff]
  simp only [Impl.use_eq_some_iff, Impl.otherUse_eq_some_iff, decodeWord_eq_some_iff]
  constructor
  · rintro ⟨a, hwa, ⟨rfl, hused⟩ | hother⟩
    · exact .inl ⟨hwa, hused⟩
    · exact .inr ⟨a, hwa, hother⟩
  · rintro (⟨hwe, hused⟩ | ⟨a, hwa, hother⟩)
    · exact ⟨e, hwe, .inl ⟨rfl, hused⟩⟩
    · exact ⟨a, hwa, .inr hother⟩

/-- Settles O2: a well-formed IMPDEF_RANGE leaves the assigned numbers to `decodeFor_eq_some_iff`; the numbers in it are
`decodeFor_of_impdef`. -/
theorem implementedEventsDecode : Obligations.ImplementedEventsDecode := by
  refine ⟨fun impl e hwf hused => ?_, fun _ _ _ _ _ => decodeFor_of_impdef, fun _ _ _ => decodeFor_eq_some_iff⟩
  exact (decodeFor_eq_some_iff (Impl.encode_not_impdef hwf e)).mpr (.inl ⟨rfl, hused⟩)

end Sys2Proof

/-!
PROOFS. The runs of assigned numbers (30_encoding.md R104).
-/

namespace Sys2Proof.Machine

/-- The numbers of a row of the table of R104. -/
def NumberRun.numbers (r : NumberRun) : List Nat := List.range' r.first (r.last + 1 - r.first)

theorem NumberRun.mem_numbers {r : NumberRun} {x : Nat} : x ∈ r.numbers ↔ r.first ≤ x ∧ x ≤ r.last := by
  rw [NumberRun.numbers, List.mem_range'_1]
  omega

/-- The pages and the runs list the same numbers in the same order: evaluated over the 1198 numbers. -/
theorem assignedTable_numbers : assignedTable.map Prod.fst = assignedRuns.flatMap NumberRun.numbers := by decide +kernel

theorem mem_assignedTable_numbers {x : Nat} :
    x ∈ assignedTable.map Prod.fst ↔ ∃ r ∈ assignedRuns, r.first ≤ x ∧ x ≤ r.last := by
  simp only [assignedTable_numbers, List.mem_flatMap, NumberRun.mem_numbers]

/-- A number has an event if and only if the table lists it. -/
theorem decodeWord_isSome_iff {w : EvtWord} : (decodeWord w).isSome = true ↔ w.toNat ∈ assignedTable.map Prod.fst := by
  rw [Option.isSome_iff_exists]
  constructor
  · rintro ⟨e, he⟩
    exact List.mem_map_of_mem (f := Prod.fst) (mem_assignedTable_of_decodeWord he)
  · intro hw
    obtain ⟨q, hq, hqw⟩ := List.mem_map.mp hw
    have hnumber : (encode q.2).toNat = w.toNat := (encode_of_mem_assignedTable q hq).trans hqw
    exact ⟨q.2, decodeWord_eq_some_iff.mpr (BitVec.eq_of_toNat_eq hnumber.symm)⟩

/-- Each row names the events of its first and last number and counts its numbers. -/
theorem assignedRuns_rows : ∀ r ∈ assignedRuns,
    BitVec.ofNat 16 r.first = encode r.firstEvent ∧ BitVec.ofNat 16 r.last = encode r.lastEvent
      ∧ r.last + 1 = r.first + r.count := by decide

/-- The runs are maximal: what stands next to one is in none. -/
theorem assignedRuns_maximal : ∀ r ∈ assignedRuns,
    (0 < r.first → decodeWord (BitVec.ofNat 16 (r.first - 1)) = none)
      ∧ decodeWord (BitVec.ofNat 16 (r.last + 1)) = none := by decide +kernel

/-- Settles O4: the first clause by the comparison of the pages with the runs (`assignedTable_numbers`), the others by evaluating the
rows and the discoverable numbers. -/
theorem reservedNumbers : Obligations.ReservedNumbers := by
  refine ⟨fun w => decodeWord_isSome_iff.trans mem_assignedTable_numbers, fun r hr => ?_, by decide, by decide, by decide⟩
  obtain ⟨hfirst, hlast, hcount⟩ := assignedRuns_rows r hr
  obtain ⟨hbefore, hafter⟩ := assignedRuns_maximal r hr
  exact ⟨decodeWord_eq_some_iff.mpr hfirst, decodeWord_eq_some_iff.mpr hlast, hcount, hbefore, hafter⟩

end Sys2Proof.Machine

/-!
PROOFS. The identification words (30_encoding.md R95 to R98, R102).
-/

namespace Sys2Proof.Machine

theorem numberOfBits_succ (f : Nat → Bool) (n : Nat) :
    numberOfBits f (n + 1) = 2 ^ n * (f n).toNat + numberOfBits f n := by
  cases hf : f n <;> simp [numberOfBits, hf, Nat.add_comm]

theorem numberOfBits_lt (f : Nat → Bool) (n : Nat) : numberOfBits f n < 2 ^ n := by
  induction n with
  | zero => exact Nat.one_pos
  | succ n ih =>
    have htop : 2 ^ n * (f n).toNat ≤ 2 ^ n * 1 := Nat.mul_le_mul_left _ (Bool.toNat_le _)
    rw [numberOfBits_succ, Nat.pow_succ]
    omega

theorem testBit_numberOfBits (f : Nat → Bool) {n i : Nat} (hi : i < n) : (numberOfBits f n).testBit i = f i := by
  induction n with
  | zero => cases hi
  | succ n ih =>
    rw [numberOfBits_succ, Nat.testBit_two_pow_mul_add _ (numberOfBits_lt f n)]
    split
    next hlow => exact ih hlow
    next htop =>
      obtain rfl : i = n := by omega
      rw [Nat.sub_self, Nat.testBit_bool_toNat]
      simp

/-- Bit i of PMCEID<r>_EL0. -/
theorem pmceid_getLsbD {impl : Impl} {r i : Nat} (hi : i < 64) : (impl.pmceid r).getLsbD i = impl.pmceidBit r i := by
  rw [Impl.pmceid, BitVec.getLsbD_ofNat, testBit_numberOfBits _ hi]
  simp [hi]

/-- Bit j of the AArch32 word r: that of the low half for r 0 and 1, of the high half for r 2 and 3 (R97, gap G3). -/
theorem pmceid32_getLsbD {impl : Impl} {r j : Nat} (hj : j < 32) :
    (impl.pmceid32 r).getLsbD j = (impl.pmceid (r % 2)).getLsbD (32 * (r / 2) + j) := by
  rw [Impl.pmceid32, BitVec.getLsbD_ofNat, Nat.testBit_mod_two_pow, Nat.testBit_div_two_pow, BitVec.testBit_toNat, Nat.add_comm j]
  have hj64 : j < 64 := by omega
  simp [hj, hj64]

/-- Settles O52: each of the four words by `pmceid32_getLsbD`. -/
theorem pmceidAarch32Halves : Obligations.PmceidAarch32Halves := by
  intro impl j hj
  simp [pmceid32_getLsbD hj]

/-- The bit of the number of event `e` says whether `e` is identified (R95). -/
theorem pmceid_of_encode {impl : Impl} {r i : Nat} {e : Instr} (hi : i < 64) (he : pmceidNumber r i = (encode e).toNat) :
    (impl.pmceid r).getLsbD i = impl.identified e := by
  rw [pmceid_getLsbD hi, Impl.pmceidBit, he, BitVec.ofNat_toNat, BitVec.setWidth_eq, decodeWord_encode]

/-- Of an event with no entry of its own, implementation or generation by the system decides (R95, R96). -/
theorem identified_iff {impl : Impl} {e : Instr} (hovfs : e ≠ .pmuOvfs) (hhovfs : e ≠ .pmuHovfs) (htrig : e ≠ .trbTrig) :
    impl.identified e = true ↔ impl.uses e = true ∨ (e ∈ impl.systemGenerated ∧ e ∈ impl.raoBits) := by
  unfold Impl.identified
  split <;> simp_all

/-- A bit of PMCEID0_EL0 or PMCEID1_EL0 whose number has no event is 0. -/
theorem pmceid_of_unassigned {impl : Impl} {r i : Nat} (hi : i < 64)
    (h : decodeWord (BitVec.ofNat 16 (pmceidNumber r i)) = none) : (impl.pmceid r).getLsbD i = false := by
  rw [pmceid_getLsbD hi, Impl.pmceidBit, h]

/-- The numbers of 0x4000 to 0x401F without event (R98). -/
theorem pmceid0_unassigned : ∀ x ∈ [0x07, 0x08, 0x14, 0x15, 0x16, 0x17, 0x1C, 0x1D, 0x1E, 0x1F],
    32 + x < 64 ∧ decodeWord (BitVec.ofNat 16 (pmceidNumber 0 (32 + x))) = none := by decide

/-- The numbers of 0x4020 to 0x403F without event (R98). -/
theorem pmceid1_unassigned : ∀ x < 0x20, (x = 0x03 ∨ 0x07 ≤ x) →
    decodeWord (BitVec.ofNat 16 (pmceidNumber 1 (32 + x))) = none := by decide

/-- The low half of PMCEID<r>_EL0 identifies the numbers from 0x0000 or 0x0020 (R95). -/
theorem pmceidNumber_low {r x : Nat} (hx : x < 32) : pmceidNumber r x = x + 0x20 * r := by
  rw [pmceidNumber, if_pos hx]

/-- The high half identifies those from 0x4000 or 0x4020 (R95). -/
theorem pmceidNumber_high (r x : Nat) : pmceidNumber r (32 + x) = 0x4000 + x + 0x20 * r := by
  rw [pmceidNumber, if_neg (by omega), Nat.add_sub_cancel_left]

/-- Settles O51: the bit of an event is `Impl.identified` (`pmceid_of_encode`), that of a number with none is 0
(`pmceid_of_unassigned`). -/
theorem pmceidBits : Obligations.PmceidBits := by
  intro impl
  refine ⟨fun e v hovfs hhovfs htrig hv => ?_, ?_, ?_, ?_, fun x hx => ?_, fun x hx hgap => ?_⟩
  · have hid : impl.identified e = v := Bool.eq_iff_iff.mpr ((identified_iff hovfs hhovfs htrig).trans hv.symm)
    subst hid
    refine ⟨fun _ => ?_, fun _ _ => ?_, fun _ _ => ?_, fun _ _ => ?_⟩
    · exact pmceid_of_encode (by omega) (by rw [pmceidNumber_low (by omega)]; omega)
    · exact pmceid_of_encode (by omega) (by rw [pmceidNumber_low (by omega)]; omega)
    · exact pmceid_of_encode (by omega) (by rw [pmceidNumber_high]; omega)
    · exact pmceid_of_encode (by omega) (by rw [pmceidNumber_high]; omega)
  · exact pmceid_of_encode (e := .pmuOvfs) (by decide) rfl
  · exact pmceid_of_encode (e := .pmuHovfs) (by decide) rfl
  · exact pmceid_of_encode (e := .trbTrig) (by decide) rfl
  · obtain ⟨hi, hnone⟩ := pmceid0_unassigned x hx
    exact pmceid_of_unassigned hi hnone
  · exact pmceid_of_unassigned (by omega) (pmceid1_unassigned x hx hgap)

end Sys2Proof.Machine

/-!
PROOFS. What a step runs: the event that the sink at the head of the agenda selects (30_encoding.md R91, R98, R103), and the events that
no counter counts (R102).
-/

namespace Sys2Proof.Machine

/-- The event that a counter selects (R91, R103). -/
theorem State.selected_counter {s : State} {p n : Nat} {c : Counter} (hc : s.counter? p n = some c) :
    s.selected (.counter p n) = decodeFor s.impl c.evtCount := by
  simp [State.selected, State.selectedWord, hc]

/-- A sink that selects an event runs it. -/
theorem step_of_selected {s : State} {f : Offer} {rest : List Offer} {i : Instr} (ha : s.agenda = f :: rest)
    (hi : s.selected f.sink = some i) : step s = exec i s := by
  simp [step, ha, hi]

/-- A sink that selects no event only takes its offer (decision D8). -/
theorem step_of_not_selected {s : State} {f : Offer} {rest : List Offer} (ha : s.agenda = f :: rest)
    (hi : s.selected f.sink = none) : step s = .next { s with agenda := rest } := by
  simp [step, ha, hi, State.dropOffer_eq s f rest ha]

/-- With nothing offered and no input the machine is idle (log 35). -/
theorem step_of_idle {s : State} (ha : s.agenda = []) (hi : s.inputs = []) : step s = .next s := by
  simp [step, State.takeInput, ha, hi]

/-- Settles O5: such a counter selects no event. -/
theorem unselectedCountsNothing : Obligations.UnselectedCountsNothing := by
  intro s h p n rest c ha hc hdecode
  exact step_of_not_selected ha ((State.selected_counter hc).trans hdecode)

/-- Settles O6: by the kinds of sink (`step_of_selected`) and the two cases of an empty agenda. -/
theorem stepRunsDecoded : Obligations.StepRunsDecoded :=
  ⟨fun _ _ _ _ _ _ _ ha hc hdecode => step_of_selected ha ((State.selected_counter hc).trans hdecode),
    fun _ _ _ _ _ ha hdecode => step_of_selected ha hdecode,
    fun _ ha hi => step_of_idle ha hi,
    fun _ _ _ ha hi => step_of_input ha hi⟩

/-- PMU_OVFS and PMU_HOVFS are delivered to consumers only, so a counter that is offered anything loses the offer (`exec_cases`). -/
theorem exec_overflow_of_counter {s : State} {i : Instr} {h : Happening} {p n : Nat} {rest : List Offer}
    (ha : s.agenda = { happening := h, sink := .counter p n } :: rest) (hi : i = .pmuOvfs ∨ i = .pmuHovfs) :
    exec i s = .next s.dropOffer := by
  obtain he | ⟨hovfs, hhovfs, _⟩ | ⟨_, _, _, _, _, hconsumer, _⟩ | ⟨hchain, _⟩ := exec_cases i s
  · exact he
  · exact (hi.elim hovfs hhovfs).elim
  · rw [ha] at hconsumer
    cases hconsumer
  · subst hchain
    simp at hi

/-- The counting rule counts no event that cannot be counted (R102). -/
theorem countEvent_of_not_countable {s : State} {e : Instr} {a : Attribution} {occ : Obs → Bool} {k : Obs → Nat}
    (he : s.impl.countable e = false) : countEvent e a occ k s = .next s.dropOffer := by
  obtain h | ⟨_, _, _, _, _, _, _, _, hcountable, _⟩ := countEvent_cases e a occ k s
  · exact h
  · rw [he] at hcountable
    cases hcountable

theorem countable_trbTrig (impl : Impl) : impl.countable .trbTrig = impl.trbTrigCountable := by
  simp [Impl.countable]

/-- A counter that selects one of the three events changes nothing. -/
theorem exec_uncountable {s : State} {i : Instr} {h : Happening} {p n : Nat} {rest : List Offer}
    (ha : s.agenda = { happening := h, sink := .counter p n } :: rest)
    (hi : i = .pmuOvfs ∨ i = .pmuHovfs ∨ (i = .trbTrig ∧ s.impl.trbTrigCountable = false)) :
    exec i s = .next s.dropOffer := by
  obtain hovfs | hhovfs | ⟨rfl, htrig⟩ := hi
  · exact exec_overflow_of_counter ha (.inl hovfs)
  · exact exec_overflow_of_counter ha (.inr hhovfs)
  · rw [execRule_trbTrig]
    exact countEvent_of_not_countable (htrig ▸ countable_trbTrig s.impl)

/-- An overflow of event counter 0, whose overflows are enabled, is offered to a consumer of PMU_OVFS or PMU_HOVFS; HPMN decides which
of the two it is (40_common_event_rules.md R127, R128). -/
def overflowOffered (hpmn : Nat) : State :=
  { State.reset with
    pes := [{ counters := [{}], hpmn := { written := hpmn }, epmn := { written := 1 }, inten := 1 }]
    agenda := [{ happening := .overflow ⟨.counter 0 0, true, false, true⟩, sink := .consumer ovfsWord }] }

/-- Settles O30: the three are never counted (`exec_uncountable`), and `overflowOffered` delivers the first two. -/
theorem uncountableEvents : Obligations.UncountableEvents := by
  constructor
  · intro s h p n rest c i ha hc hdecode hi
    rw [step_of_selected ha ((State.selected_counter hc).trans hdecode), exec_uncountable ha hi, State.dropOffer_eq s _ rest ha]
  · rintro e (rfl | rfl)
    · exact ⟨overflowOffered 1, _, _, _, rfl, rfl⟩
    · exact ⟨overflowOffered 0, _, _, _, rfl, rfl⟩

end Sys2Proof.Machine

/-!
PROOFS. The counting rule (40_common_event_rules.md R121): what an offer to a counter does, by whether the counter admits it and by whom it
is attributed to (R129 to R131).
-/

namespace Sys2Proof.Machine

section CountingRule
variable {i : Instr} {s : State} {serial : Nat} {o : Occurrence} {p n : Nat} {rest : List Offer} {c : Counter}

/-- What a counter counts by its event's table entries is counted with the event's increment. -/
theorem exec_counts (hi : hasAlgorithm i = false)
    (ha : s.agenda = { happening := .occurs serial o, sink := .counter p n } :: rest) (hc : s.counter? p n = some c)
    (hadm : Admits s i p c serial o)
    (hattr : (s.observe p c serial o).attributedTo i (attributionOf i) o.pe o.owners = true) :
    exec i s = .next (s.dropOffer.countAt p n c.count (incrementOf i (s.observe p c serial o)) o.withheld) := by
  rw [exec_eq s i hi, countEvent_occurs _ _ _ _ s serial o p n rest c ha hc]
  simp [hadm.countable, hadm.filter, hadm.occurs, hattr]

theorem exec_countedBy (hi : hasAlgorithm i = false)
    (ha : s.agenda = { happening := .occurs serial o, sink := .counter p n } :: rest) (hc : s.counter? p n = some c)
    (hadm : Admits s i p c serial o)
    (hattr : (s.observe p c serial o).attributedTo i (attributionOf i) o.pe o.owners = true) :
    ∃ t, exec i s = .next t ∧ CountedBy s t p n c (incrementOf i (s.observe p c serial o)) o.withheld rest :=
  ⟨_, exec_counts hi ha hc hadm hattr, State.countAt_countedBy s p n c _ o.withheld _ rest ha hc⟩

/-- What the counter does not admit, or what is not attributed to it, only loses its offer. -/
theorem exec_ignores (hi : hasAlgorithm i = false)
    (ha : s.agenda = { happening := .occurs serial o, sink := .counter p n } :: rest) (hc : s.counter? p n = some c)
    (hnot : ¬(Admits s i p c serial o
      ∧ (s.observe p c serial o).attributedTo i (attributionOf i) o.pe o.owners = true)) :
    exec i s = .next { s with agenda := rest } := by
  rw [exec_eq s i hi, countEvent_occurs _ _ _ _ s serial o p n rest c ha hc, if_neg, State.dropOffer_eq s _ rest ha]
  simp only [Bool.and_eq_true]
  rintro ⟨⟨⟨hcountable, hfilter⟩, hattr⟩, hocc⟩
  exact hnot ⟨⟨hcountable, hfilter, hocc⟩, hattr⟩

end CountingRule

/-- A happening that is no occurrence is counted by no event without an algorithm. -/
theorem exec_ignores_of_not_occurs {i : Instr} {s : State} {h : Happening} {k : Sink} {rest : List Offer}
    (hi : hasAlgorithm i = false) (ha : s.agenda = { happening := h, sink := k } :: rest)
    (hh : ∀ serial o, h ≠ .occurs serial o) : exec i s = .next { s with agenda := rest } := by
  rw [exec_eq s i hi, ← State.dropOffer_eq s _ rest ha]
  obtain hdrop | ⟨serial, o, _, _, _, _, hagenda, _⟩ := countEvent_cases i (attributionOf i) (occOf i) (incrementOf i) s
  · exact hdrop
  · rw [ha] at hagenda
    cases hagenda
    exact absurd rfl (hh serial o)

/-- Settles O11, by the counting rule with the event's table entries (`exec_countedBy`). -/
theorem eventCounted : Obligations.EventCounted :=
  fun _ _ _ _ _ _ _ _ hi ha hc hadm hattr => exec_countedBy hi ha hc hadm hattr

/-- Settles O12: an occurrence by `exec_ignores`, any other happening by `exec_ignores_of_not_occurs`. -/
theorem eventNotCounted : Obligations.EventNotCounted :=
  ⟨fun _ _ _ _ _ _ _ _ hi ha hc hnot => exec_ignores hi ha hc hnot,
    fun _ _ _ _ _ hi ha hh => exec_ignores_of_not_occurs hi ha hh⟩

/-! What is Attributable to the counting PE itself (R129). -/

theorem Impl.sameProcessor_self (impl : Impl) (p : Nat) : impl.sameProcessor p p = true := by
  simp [Impl.sameProcessor]

theorem Obs.mine_self (b : Obs) : b.mine (some b.pe) = true := decide_eq_true rfl

theorem Obs.ofProcessor_self (b : Obs) : b.ofProcessor (some b.pe) = true := Impl.sameProcessor_self b.impl b.pe

/-- In each case of the sharing clause the PE's own is counted (R130, R131, R138). -/
theorem Obs.sharingClause_self (b : Obs) (x : Instr) (r : Resource) (owners : List Nat) :
    b.sharingClause x r (some b.pe) owners = true := by
  unfold Obs.sharingClause
  split
  · exact b.mine_self
  · split
    · exact b.ofProcessor_self
    · split
      · rw [b.mine_self, Bool.true_or]
      · exact b.mine_self

/-- But for the _EXT_PROP events, which go to the owners of the cache, the counting PE's own is attributed to it. -/
theorem Obs.attributedTo_self (b : Obs) (e : Instr) {a : Attribution} (owners : List Nat) (ha : a ≠ .atOwner) :
    b.attributedTo e a (some b.pe) owners = true := by
  cases a with
  | own => exact b.mine_self
  | shared r => exact b.sharingClause_self e r owners
  | sharedAs x r => exact b.sharingClause_self x r owners
  | cycle => exact b.ofProcessor_self
  | busCycle | allocate | invalidate => simp [Obs.attributedTo, b.mine_self, b.ofProcessor_self]
  | atOwner => exact absurd rfl ha
  | writeBack r => exact decide_eq_true rfl

/-! The classes of increment (R123). -/

/-- The events whose increment is not the 1 of classes unit and cycle. -/
def variableIncrements : List Instr :=
  [.stallSlotBackend, .stallSlotFrontend, .stallSlot, .svePloopEltsSpec, .fpScaleOpsSpec, .fpFixedOpsSpec, .fpHpScaleOpsSpec,
    .fpHpFixedOpsSpec, .fpSpScaleOpsSpec, .fpSpFixedOpsSpec, .fpDpScaleOpsSpec, .fpDpFixedOpsSpec, .intScaleOpsSpec, .intFixedOpsSpec,
    .ldstScaleOpsSpec, .ldstFixedOpsSpec, .ldScaleOpsSpec, .ldFixedOpsSpec, .stScaleOpsSpec, .stFixedOpsSpec, .fpScale2OpsSpec,
    .fpHpScale2OpsSpec, .fpBf16Scale2OpsSpec, .fpSpScale2OpsSpec, .fpDpScale2OpsSpec, .intScale2OpsSpec, .ldstScaleBytesSpec,
    .ldstFixedBytesSpec, .ldScaleBytesSpec, .ldFixedBytesSpec, .stScaleBytesSpec, .stFixedBytesSpec, .fpBf16ScaleOpsSpec,
    .instFetchPercyc, .memAccessRdPercyc, .busReqRdPercyc, .busReqWrPercyc, .dtlbWalkPercyc, .itlbWalkPercyc, .l1dCacheRefillPercyc,
    .l2dCacheRefillPercyc, .l3dCacheRefillPercyc, .l1iCacheRefillPercyc, .l2iCacheRefillPercyc, .l1gcsCacheRefillPercyc,
    .gcstlbWalkPercyc, .fpBf16FixedOpsSpec, .fpSpFixedMinOpsSpec, .fpHpFixedMinOpsSpec, .fpBf16FixedMinOpsSpec, .fpFp8FixedMinOpsSpec,
    .fpSpScaleMinOpsSpec, .fpHpScaleMinOpsSpec, .fpBf16ScaleMinOpsSpec, .fpFp8ScaleMinOpsSpec, .fpSpScale2MinOpsSpec,
    .fpHpScale2MinOpsSpec, .fpBf16Scale2MinOpsSpec, .fpFp8Scale2MinOpsSpec]

theorem incrementOf_eq_one {i : Instr} (hi : i ∉ variableIncrements) (b : Obs) : incrementOf i b = 1 := by
  unfold incrementOf
  split
  case h_60 => rfl
  all_goals exact absurd (by decide) hi

/-- What the completion of an event for the counting PE's own occurrences rests on: it has no algorithm of its own, is not counted at the
owner's cache alone, and can be counted whatever the parameters. -/
def countsOwn (i : Instr) : Bool := !hasAlgorithm i && attributionOf i != .atOwner && i != .trbTrig

theorem countsOwn_iff {i : Instr} :
    countsOwn i = true ↔ hasAlgorithm i = false ∧ attributionOf i ≠ .atOwner ∧ i ≠ .trbTrig := by
  simp [countsOwn, and_assoc]

theorem countable_of_hasAlgorithm_eq_false {impl : Impl} {i : Instr} (hi : hasAlgorithm i = false) (htrig : i ≠ .trbTrig) :
    impl.countable i = true := by
  have hovfs : i ≠ .pmuOvfs := by rintro rfl; cases hi
  have hhovfs : i ≠ .pmuHovfs := by rintro rfl; cases hi
  simp [Impl.countable, hovfs, hhovfs, htrig]

section Own
variable {i : Instr} {s : State} {serial : Nat} {o : Occurrence} {p n : Nat} {rest : List Offer} {c : Counter}

/-- Such an event counts an occurrence Attributable to the counter's PE that passes the filter. -/
theorem exec_countedBy_own (hi : countsOwn i = true)
    (ha : s.agenda = { happening := .occurs serial o, sink := .counter p n } :: rest) (hc : s.counter? p n = some c)
    (hpe : o.pe = some p) (hfilter : c.filter.passes o.ctx = true) (hocc : occOf i (s.observe p c serial o) = true) :
    ∃ t, exec i s = .next t ∧ CountedBy s t p n c (incrementOf i (s.observe p c serial o)) o.withheld rest := by
  obtain ⟨halg, howner, htrig⟩ := countsOwn_iff.mp hi
  refine exec_countedBy halg ha hc ⟨countable_of_hasAlgorithm_eq_false halg htrig, hfilter, hocc⟩ ?_
  rw [hpe]
  exact Obs.attributedTo_self _ i o.owners howner

/-- One of class unit or cycle counts it once. -/
theorem exec_countedBy_own_once (hi : countsOwn i = true ∧ i ∉ variableIncrements)
    (ha : s.agenda = { happening := .occurs serial o, sink := .counter p n } :: rest) (hc : s.counter? p n = some c)
    (hpe : o.pe = some p) (hfilter : c.filter.passes o.ctx = true) (hocc : occOf i (s.observe p c serial o) = true) :
    ∃ t, exec i s = .next t ∧ CountedBy s t p n c 1 o.withheld rest := by
  obtain ⟨hown, hunit⟩ := hi
  exact incrementOf_eq_one hunit _ ▸ exec_countedBy_own hown ha hc hpe hfilter hocc

end Own

/-- Settles O13: the 299 events are looked up in the tables, and `exec_countedBy_own_once` counts each. -/
theorem laterEventsCompleteA : Obligations.LaterEventsCompleteA := by
  intro i s serial o p n rest c hi
  exact exec_countedBy_own_once ((by decide +kernel : ∀ j ∈ (_ : List Instr), countsOwn j = true ∧ j ∉ variableIncrements) i hi)

/-- Settles O14: as O13; of the last 20 events only the increment is not 1. -/
theorem laterEventsCompleteB : Obligations.LaterEventsCompleteB := by
  constructor
  · intro i s serial o p n rest c hi
    exact exec_countedBy_own_once ((by decide +kernel : ∀ j ∈ (_ : List Instr), countsOwn j = true ∧ j ∉ variableIncrements) i hi)
  · intro i s serial o p n rest c hi
    exact exec_countedBy_own ((by decide +kernel : ∀ j ∈ (_ : List Instr), countsOwn j = true) i hi)

/-! The frame of an event. -/

/-- A change of one event counter changes no other register of a PE. -/
theorem State.modifyCounter_registers (s : State) (p n : Nat) (f : Counter → Counter) :
    (s.modifyCounter p n f).pes.map Pe.registers = s.pes.map Pe.registers := by
  rw [State.modifyCounter_pes]
  apply List.ext_getElem?
  intro j
  simp only [List.getElem?_map, List.getElem?_modify]
  cases s.pes[j]? with
  | none => rfl
  | some q => by_cases hj : p = j <;> simp [hj, Pe.registers]

/-- Nor does it change what software programs of a counter, where it keeps that of the one it changes. -/
theorem State.modifyCounter_programmed (s : State) (p n p' n' : Nat) {f : Counter → Counter}
    (hf : ∀ c, (f c).programmed = c.programmed) :
    ((s.modifyCounter p n f).counter? p' n').map Counter.programmed = (s.counter? p' n').map Counter.programmed := by
  rw [State.modifyCounter_counter?]
  split
  · cases s.counter? p' n' with
    | none => rfl
    | some c => exact congrArg some (hf c)
  · rfl

/-- What an event leaves unchanged, of the state `s` it ran in: everything but the agenda, the draws, the outputs and the counts of the
counter at the head of the agenda. -/
structure Framed (s t : State) : Prop where
  fixed : t.impl = s.impl ∧ t.inputs = s.inputs
  registers : t.pes.map Pe.registers = s.pes.map Pe.registers
  programmed : ∀ p n, (t.counter? p n).map Counter.programmed = (s.counter? p n).map Counter.programmed
  others : ∀ p n, (∀ h rest, s.agenda ≠ { happening := h, sink := .counter p n } :: rest) → t.counter? p n = s.counter? p n

/-- Another count in the counter offered to is within the frame. -/
theorem framed_of_setCount {s t : State} {p n : Nat} {v : CountWord} {h : Happening} {rest : List Offer}
    (ha : s.agenda = { happening := h, sink := .counter p n } :: rest) (himpl : t.impl = s.impl) (hinputs : t.inputs = s.inputs)
    (hpes : t.pes = (s.setCount p n v).pes) : Framed s t where
  fixed := ⟨himpl, hinputs⟩
  registers := by rw [hpes]; exact State.modifyCounter_registers s p n _
  programmed p' n' := by
    rw [State.counter?_congr _ t hpes]
    exact State.modifyCounter_programmed s p n p' n' fun _ => rfl
  others p' n' hne := by
    rw [State.counter?_congr _ t hpes, State.setCount_counter?, if_neg]
    rintro ⟨rfl, rfl⟩
    exact hne h rest ha

/-- A state with the same PEs is within the frame. -/
theorem framed_of_pes_eq {s t : State} (himpl : t.impl = s.impl) (hinputs : t.inputs = s.inputs) (hpes : t.pes = s.pes) :
    Framed s t where
  fixed := ⟨himpl, hinputs⟩
  registers := by rw [hpes]
  programmed p n := by rw [State.counter?_congr s t hpes]
  others p n _ := State.counter?_congr s t hpes p n

/-- Settles O15: of the four things an event can do (`exec_cases`), two leave the PEs as they are and two change the count of the counter
offered to. -/
theorem eventFrame : Obligations.EventFrame := by
  intro i s t h
  suffices hframe : Framed s t ∧ (i ≠ .pmuOvfs → i ≠ .pmuHovfs → t.out = s.out)
      ∧ (i = .pmuOvfs ∨ i = .pmuHovfs → t.pes = s.pes) by
    obtain ⟨⟨⟨himpl, hinputs⟩, hregisters, hprogrammed, hothers⟩, hout, hpes⟩ := hframe
    exact ⟨himpl, hinputs, hregisters, hprogrammed, hothers, hout, fun hi => State.counter?_congr s t (hpes hi)⟩
  obtain he | ⟨hovfs, hhovfs, _, p, n, _, c, k, wh, ha, _, he⟩ | ⟨hi, _, _, _, _, _, he⟩ | ⟨rfl, _, p, n, _, _, _, ha, _, he⟩ :=
    exec_cases i s <;> rw [he] at h <;> cases h
  · exact ⟨framed_of_pes_eq rfl rfl rfl, fun _ _ => rfl, fun _ => rfl⟩
  · exact ⟨framed_of_setCount ha rfl rfl rfl, fun _ _ => rfl, fun hi => (hi.elim hovfs hhovfs).elim⟩
  · exact ⟨framed_of_pes_eq rfl rfl rfl, fun hovfs hhovfs => (hi.elim hovfs hhovfs).elim, fun _ => rfl⟩
  · exact ⟨framed_of_setCount ha rfl rfl rfl, fun _ _ => rfl, fun hi => by simp at hi⟩

end Sys2Proof.Machine

/-!
PROOFS. To whom a happening is offered (40_common_event_rules.md R120, R121, R125), and SW_INCR (R125).
-/

namespace Sys2Proof.Machine

theorem nodup_eraseDups {α : Type} [BEq α] [LawfulBEq α] (l : List α) : l.eraseDups.Nodup := by
  match l with
  | [] => exact List.nodup_nil
  | a :: as =>
    rw [List.eraseDups_cons, List.nodup_cons]
    exact ⟨by simp, nodup_eraseDups _⟩
termination_by l.length
decreasing_by exact Nat.lt_succ_of_le (List.length_filter_le _ _)

/-- Each event counter is listed once. -/
theorem State.allCounters_nodup (s : State) : s.allCounters.Nodup := by
  unfold State.allCounters
  refine List.nodup_flatMap.mpr ⟨fun p _ => ?_, ?_⟩
  · exact List.nodup_range.map fun _ _ h => congrArg Prod.snd h
  · refine List.nodup_range.pairwise_of_forall_ne fun p _ p' _ hne => ?_
    rintro ⟨_, _⟩ hp hp'
    obtain ⟨_, _, hpq⟩ := List.mem_map.mp hp
    obtain ⟨_, _, hpq'⟩ := List.mem_map.mp hp'
    exact hne ((congrArg Prod.fst hpq).trans (congrArg Prod.fst hpq').symm)

/-- The order that the environment names moves counters to the front; it drops and repeats none. -/
theorem State.offerOrder_nodup (s : State) (order : List (Nat × Nat)) : (s.offerOrder order).Nodup := by
  unfold State.offerOrder
  refine List.nodup_append'.mpr ⟨nodup_eraseDups _, s.allCounters_nodup.filter _, ?_⟩
  intro q hfirst hlast
  simp only [List.mem_filter, List.contains_iff_mem, Bool.not_eq_true', ← Bool.not_eq_true] at hlast
  exact hlast.2 hfirst

theorem State.mem_offerOrder {s : State} {order : List (Nat × Nat)} {q : Nat × Nat} :
    q ∈ s.offerOrder order ↔ q ∈ s.allCounters := by
  refine ⟨State.offerOrder_mem, fun hq => ?_⟩
  unfold State.offerOrder
  by_cases hfirst : q ∈ (order.filter s.allCounters.contains).eraseDups
  · exact List.mem_append_left _ hfirst
  · exact List.mem_append_right _ (List.mem_filter.mpr
      ⟨hq, by simpa only [Bool.not_eq_true', ← Bool.not_eq_true, List.contains_iff_mem] using hfirst⟩)

/-- With nothing else offered, each event counter is offered the happening once, and nobody else. -/
theorem State.offerAll_count {s : State} (ha : s.agenda = []) (h : Happening) (order : List (Nat × Nat)) (k : Sink) :
    ((s.offerAll h order).agenda.map (fun f => f.sink)).count k
      = match k with
        | .counter p n => if p < s.pes.length ∧ n < s.impl.numCounters then 1 else 0
        | .consumer _ => 0 := by
  have hsinks : (s.offerAll h order).agenda.map (fun f => f.sink)
      = (s.offerOrder order).map (fun q => Sink.counter q.1 q.2) := by
    simp [State.offerAll, ha]
  have hinj : Function.Injective (fun q : Nat × Nat => Sink.counter q.1 q.2) := by
    rintro ⟨_, _⟩ ⟨_, _⟩ hq
    cases hq
    rfl
  rw [hsinks, ((s.offerOrder_nodup order).map hinj).count]
  cases k with
  | counter p n =>
    have hmem : Sink.counter p n ∈ (s.offerOrder order).map (fun q => Sink.counter q.1 q.2)
        ↔ p < s.pes.length ∧ n < s.impl.numCounters := by
      rw [← State.allCounters_mem, ← State.mem_offerOrder (order := order)]
      exact List.mem_map_of_injective hinj (a := (p, n))
    simp only [hmem]
  | consumer w => simp

theorem State.mem_offerAll_agenda {s : State} (ha : s.agenda = []) {h : Happening} {order : List (Nat × Nat)} {f : Offer}
    (hf : f ∈ (s.offerAll h order).agenda) : f.happening = h := by
  simp only [State.offerAll, ha, List.append_nil, List.mem_map] at hf
  obtain ⟨_, _, rfl⟩ := hf
  rfl

/-- Settles O18: the occurrence is offered to all (`State.offerAll_count`). -/
theorem occurrenceReachesEveryCounter : Obligations.OccurrenceReachesEveryCounter := by
  intro s o order rest ha hi
  exact ⟨_, step_of_input ha hi, rfl, rfl, rfl, rfl, rfl, fun _ => State.mem_offerAll_agenda ha, State.offerAll_count ha _ order⟩

/-- Settles O19: so is a write of PMSWINC. -/
theorem swIncrWriteReachesEveryCounter : Obligations.SwIncrWriteReachesEveryCounter := by
  intro s w v x wh order rest ha hi hw
  refine ⟨_, (step_of_input ha hi).trans (onPe_eq_next.mpr ⟨s.pes[w], List.getElem?_eq_getElem hw, rfl⟩), rfl, rfl, rfl, rfl, rfl,
    fun _ => State.mem_offerAll_agenda ha, State.offerAll_count ha _ order⟩

/-! SW_INCR. -/

/-- One multithreaded processor: the PE itself, or one with the same affinity (R129). -/
theorem Impl.sameProcessor_iff {impl : Impl} {p q : Nat} :
    impl.sameProcessor p q = true ↔ p = q ∨ (impl.multithreaded = true ∧ SameAffinity impl p q) := by
  unfold Impl.sameProcessor SameAffinity
  cases impl.affinity[p]? with
  | none => simp
  | some a => simp [@eq_comm _ (some a)]

theorem countsSoftwareWrite_iff {impl : Impl} {w p : Nat} {mt : Bool} :
    countsSoftwareWrite impl w p mt = true
      ↔ w = p ∨ (impl.multithreaded = true ∧ mt = true ∧ SameAffinity impl p w) := by
  simp only [countsSoftwareWrite, Bool.or_eq_true, decide_eq_true_eq, Bool.and_eq_true, Impl.sameProcessor_iff]
  tauto

section SwIncr
variable {s : State} {w : Nat} {v : BitVec 64} {x : Ctx} {wh : List OverflowSource} {p n : Nat} {rest : List Offer} {c : Counter}

theorem execSwIncr_offer (ha : s.agenda = { happening := .pmswincWrite w v x wh, sink := .counter p n } :: rest)
    (hc : s.counter? p n = some c) :
    exec .swIncr s
      = if v.getLsbD n && c.filter.passes x && countsSoftwareWrite s.impl w p c.mt.effective
        then .next (s.dropOffer.countAt p n c.count 1 wh) else .next s.dropOffer := by
  show execSwIncr s = _
  simp [execSwIncr, ha, hc]

theorem execSwIncr_counts (ha : s.agenda = { happening := .pmswincWrite w v x wh, sink := .counter p n } :: rest)
    (hc : s.counter? p n = some c) (hv : v.getLsbD n = true) (hx : c.filter.passes x = true)
    (hw : countsSoftwareWrite s.impl w p c.mt.effective = true) :
    exec .swIncr s = .next (s.dropOffer.countAt p n c.count 1 wh) := by
  rw [execSwIncr_offer ha hc]
  simp [hv, hx, hw]

end SwIncr

/-- Settles O20. -/
theorem swIncrCounts : Obligations.SwIncrCounts :=
  fun s _ _ _ wh p n rest c ha hc hv hx hw =>
    ⟨_, execSwIncr_counts ha hc hv hx (countsSoftwareWrite_iff.mpr hw), State.countAt_countedBy s p n c 1 wh _ rest ha hc⟩

/-- Settles O21: each of the reasons fails one of the three conditions of `execSwIncr_offer`. -/
theorem swIncrIgnores : Obligations.SwIncrIgnores := by
  intro s w v x wh p n rest c ha hc hwhy
  rw [execSwIncr_offer ha hc, if_neg, State.dropOffer_eq s _ rest ha]
  simp only [Bool.and_eq_true, countsSoftwareWrite_iff]
  rintro ⟨⟨hv, hx⟩, hw⟩
  obtain hclear | hfiltered | ⟨hother, hnot⟩ := hwhy
  · exact Bool.false_ne_true (hclear.symm.trans hv)
  · exact Bool.false_ne_true (hfiltered.symm.trans hx)
  · obtain rfl | ⟨hmulti, hmt, haff⟩ := hw
    · exact hother rfl
    · obtain hsingle | hmt0 | hapart := hnot
      · exact Bool.false_ne_true (hsingle.symm.trans hmulti)
      · exact Bool.false_ne_true (hmt0.symm.trans hmt)
      · exact hapart haff

/-- Adding twice modulo a power of two. -/
theorem addCount_addCount (impl : Impl) (old : CountWord) (j k : Nat) :
    addCount impl (addCount impl old j) k = addCount impl old (j + k) := by
  apply BitVec.eq_of_toNat_eq
  simp only [addCount_toNat, Nat.mod_add_mod, Nat.add_assoc]

/-- Settles O22: the counter that the first write leaves (`State.countAt_counter?`) is offered the second. -/
theorem swIncrTwice : Obligations.SwIncrTwice := by
  intro s v v' x wh wh' p n rest rest' c ha hc hv hv' hx
  have hown : countsSoftwareWrite s.impl p p c.mt.effective = true := countsSoftwareWrite_iff.mpr (.inl rfl)
  have hc' : (s.dropOffer.countAt p n c.count 1 wh).counter? p n = some { c with count := addCount s.impl c.count 1 } := by
    simp [State.countAt_counter?, hc]
  refine ⟨_, _, execSwIncr_counts ha hc hv hx hown, execSwIncr_counts rfl hc' hv' hx hown, ?_⟩
  rw [State.countAt_counter?, if_pos ⟨rfl, rfl⟩]
  refine (congrArg (Option.map _) hc').trans ?_
  show some { c with count := addCount s.impl (addCount s.impl c.count 1) 1 } = _
  rw [addCount_addCount]
  rfl

end Sys2Proof.Machine

/-!
PROOFS. CHAIN, PMU_OVFS and PMU_HOVFS (40_common_event_rules.md R126 to R128).
-/

namespace Sys2Proof.Machine

/-! CHAIN: which of its three outcomes it has, as R126 states them. -/

theorem chainEnabled_iff {impl : Impl} {q : Pe} {m : Nat} :
    chainEnabled impl q (m - 1) = true ↔ ChainEnabled impl q m := by
  simp [chainEnabled, ChainEnabled, and_assoc, or_assoc]

theorem straddlesHpmn_iff {impl : Impl} {q : Pe} {m : Nat} :
    straddlesHpmn impl q m = true ↔ impl.haveEl2 = true ∧ m = q.hpmn.effective := by
  simp [straddlesHpmn]

theorem straddlesEpmn_iff {impl : Impl} {q : Pe} {m : Nat} :
    straddlesEpmn impl q m = true ↔ impl.has .pmuv3Extpmn = true ∧ m = q.epmn.effective := by
  simp [straddlesEpmn]

theorem atBoundary_iff {impl : Impl} {q : Pe} {m : Nat} :
    AtBoundary impl q m ↔ straddlesHpmn impl q m = true ∨ straddlesEpmn impl q m = true := by
  rw [straddlesHpmn_iff, straddlesEpmn_iff, AtBoundary]

section ChainOutcome
variable {impl : Impl} {q : Pe} {c : Counter} {m serial : Nat}

theorem chainOutcome_of_enabled (hodd : m % 2 = 1) (hpair : ChainEnabled impl q m) :
    chainOutcome impl q c m serial
      = if straddlesHpmn impl q m then .ofBool (Config.drawBool 15 serial)
        else if straddlesEpmn impl q m then .ofBool (Config.drawBool 16 serial)
        else if c.chainFilterAll || Config.drawBool 17 serial then .counts
        else .anyCount := by
  simp [chainOutcome, hodd, chainEnabled_iff.mpr hpair]

/-- An even counter, or the odd one of a pair not enabled, never counts. -/
theorem chainOutcome_of_not_enabled (h : m % 2 = 0 ∨ ¬ChainEnabled impl q m) :
    chainOutcome impl q c m serial = .ignores := by
  unfold chainOutcome
  rw [if_neg]
  simp only [Bool.and_eq_true, decide_eq_true_eq, chainEnabled_iff]
  rintro ⟨hodd, hpair⟩
  obtain heven | hnot := h
  · omega
  · exact hnot hpair

theorem chainOutcome_inside (hodd : m % 2 = 1) (hpair : ChainEnabled impl q m) (hin : ¬AtBoundary impl q m) :
    chainOutcome impl q c m serial
      = if c.chainFilterAll || Config.drawBool 17 serial then .counts else .anyCount := by
  obtain ⟨hhpmn, hepmn⟩ := not_or.mp (atBoundary_iff.not.mp hin)
  rw [chainOutcome_of_enabled hodd hpair, if_neg hhpmn, if_neg hepmn]

/-- At HPMN the draw of U15 decides. -/
theorem chainOutcome_at_hpmn (hodd : m % 2 = 1) (hpair : ChainEnabled impl q m) (hat : straddlesHpmn impl q m = true) :
    chainOutcome impl q c m serial = .ofBool (Config.drawBool 15 serial) := by
  rw [chainOutcome_of_enabled hodd hpair, if_pos hat]

/-- At EPMN alone that of U16 does. -/
theorem chainOutcome_at_epmn (hodd : m % 2 = 1) (hpair : ChainEnabled impl q m) (hhpmn : ¬straddlesHpmn impl q m = true)
    (hat : straddlesEpmn impl q m = true) : chainOutcome impl q c m serial = .ofBool (Config.drawBool 16 serial) := by
  rw [chainOutcome_of_enabled hodd hpair, if_neg hhpmn, if_pos hat]

end ChainOutcome

section ExecChain
variable {s : State} {serial : Nat} {wh : List OverflowSource} {p m : Nat} {rest : List Offer} {q : Pe} {c : Counter}

theorem execChain_counts (ha : s.agenda = { happening := .lowOverflow serial wh, sink := .counter p m } :: rest)
    (hq : s.pes[p]? = some q) (hc : s.counter? p m = some c) (hout : chainOutcome s.impl q c m serial = .counts) :
    exec .chain s = .next (s.dropOffer.countAt p m c.count 1 wh) := by
  show execChain s = _
  simp [execChain, ha, hq, hc, hout]

theorem execChain_countedBy (ha : s.agenda = { happening := .lowOverflow serial wh, sink := .counter p m } :: rest)
    (hq : s.pes[p]? = some q) (hc : s.counter? p m = some c) (hout : chainOutcome s.impl q c m serial = .counts) :
    ∃ t, exec .chain s = .next t ∧ CountedBy s t p m c 1 wh rest :=
  ⟨_, execChain_counts ha hq hc hout, State.countAt_countedBy s p m c 1 wh _ rest ha hc⟩

theorem execChain_ignores (ha : s.agenda = { happening := .lowOverflow serial wh, sink := .counter p m } :: rest)
    (hq : s.pes[p]? = some q) (hc : s.counter? p m = some c) (hout : chainOutcome s.impl q c m serial = .ignores) :
    exec .chain s = .next { s with agenda := rest } := by
  show execChain s = _
  simp [execChain, ha, hq, hc, hout, State.dropOffer_eq s _ rest ha]

/-- A draw between counted and not counted. -/
theorem execChain_of_draw {x : Bool} (ha : s.agenda = { happening := .lowOverflow serial wh, sink := .counter p m } :: rest)
    (hq : s.pes[p]? = some q) (hc : s.counter? p m = some c) (hout : chainOutcome s.impl q c m serial = .ofBool x) :
    (x = true → ∃ t, exec .chain s = .next t ∧ CountedBy s t p m c 1 wh rest)
      ∧ (x = false → exec .chain s = .next { s with agenda := rest }) := by
  constructor
  · rintro rfl
    exact execChain_countedBy ha hq hc hout
  · rintro rfl
    exact execChain_ignores ha hq hc hout

/-- A count put into a counter changes nothing else. -/
theorem State.setCount_countBecomes {h : Happening} (v : CountWord) (ha : s.agenda = { happening := h, sink := .counter p m } :: rest)
    (hc : s.counter? p m = some c) : CountBecomes s (s.dropOffer.setCount p m v) p m c v rest where
  counter := by simp [State.setCount_counter?, hc]
  others p' n' hne := by
    rw [State.setCount_counter?, if_neg, State.dropOffer_counter?]
    rintro ⟨rfl, rfl⟩
    exact hne ⟨rfl, rfl⟩
  registers := State.modifyCounter_registers s.dropOffer p m _
  fixed := ⟨rfl, rfl, rfl, rfl, by simp [ha]⟩

theorem freeCountOf_toNat (impl : Impl) (serial : Nat) :
    (freeCountOf impl serial).toNat = (Config.freeCount serial).toNat % 2 ^ impl.counterWidth := by
  have hlt := lt_of_le_of_lt (Nat.mod_le _ (2 ^ impl.counterWidth)) (Config.freeCount serial).isLt
  rw [freeCountOf, BitVec.toNat_ofNat, Nat.mod_eq_of_lt hlt]

/-- The count of item U17 is free within the width of the counter. -/
theorem execChain_anyCount (ha : s.agenda = { happening := .lowOverflow serial wh, sink := .counter p m } :: rest)
    (hq : s.pes[p]? = some q) (hc : s.counter? p m = some c) (hout : chainOutcome s.impl q c m serial = .anyCount) :
    ∃ t v, exec .chain s = .next t ∧ CountBecomes s t p m c v rest
      ∧ v.toNat = (Config.freeCount serial).toNat % 2 ^ s.impl.counterWidth := by
  refine ⟨_, _, ?_, State.setCount_countBecomes (freeCountOf s.impl serial) ha hc, freeCountOf_toNat s.impl serial⟩
  show execChain s = _
  simp [execChain, ha, hq, hc, hout]

end ExecChain

/-- Settles O23: inside its range, with the filter stated as programmed everywhere, the outcome is to count. -/
theorem chainCounts : Obligations.ChainCounts := by
  intro s serial wh p m rest q c ha hq hc hodd hpair hin hall
  refine execChain_countedBy ha hq hc ?_
  rw [chainOutcome_inside hodd hpair hin, hall]
  rfl

/-- Settles O24: the three draws, by the place of the counter in the ranges. -/
theorem chainUnpredictable : Obligations.ChainUnpredictable := by
  intro s serial wh p m rest q c ha hq hc hodd hpair
  refine ⟨fun hel2 hm => ?_, fun hhpmn hext hm => ?_, fun hin hsome => ?_⟩
  · exact execChain_of_draw ha hq hc (chainOutcome_at_hpmn hodd hpair (straddlesHpmn_iff.mpr ⟨hel2, hm⟩))
  · refine execChain_of_draw ha hq hc (chainOutcome_at_epmn hodd hpair ?_ (straddlesEpmn_iff.mpr ⟨hext, hm⟩))
    exact straddlesHpmn_iff.not.mpr hhpmn
  · have hout := chainOutcome_inside (c := c) (serial := serial) hodd hpair hin
    rw [hsome, Bool.false_or] at hout
    constructor
    · intro hdraw
      exact execChain_countedBy ha hq hc (hout.trans (if_pos hdraw))
    · intro hdraw
      exact execChain_anyCount ha hq hc (hout.trans (if_neg (Bool.not_eq_true _ ▸ hdraw)))

/-- Settles O25: of the things CHAIN can do (`execChain_cases`) only the loss of the offer is left. -/
theorem chainIgnores : Obligations.ChainIgnores := by
  intro s h p m rest q ha hq hnot
  rw [← State.dropOffer_eq s _ rest ha]
  obtain hdrop | ⟨serial, _, p', m', _, q', c, ha', hq', _, hout⟩ := execChain_cases s
  · exact hdrop
  · rw [ha] at ha'
    cases ha'
    cases hq.symm.trans hq'
    rw [chainOutcome_of_not_enabled hnot] at hout
    obtain ⟨⟨⟩, _⟩ | ⟨⟨⟩, _⟩ := hout

/-! A pair as one 64-bit counter (R126), without FEAT_PMUv3p5. -/

/-- A count leaves the registers of each PE as they are. -/
theorem CountedBy.pe {s t : State} {p n : Nat} {c : Counter} {k : Nat} {wh : List OverflowSource} {rest : List Offer}
    (h : CountedBy s t p n c k wh rest) {j : Nat} {q : Pe} (hq : s.pes[j]? = some q) :
    ∃ q', t.pes[j]? = some q' ∧ q'.registers = q.registers := by
  have hj : (t.pes.map Pe.registers)[j]? = some q.registers := by simp [h.registers, hq]
  rw [List.getElem?_map] at hj
  exact Option.map_eq_some_iff.mp hj

/-- The boundaries of the ranges are among the registers. -/
theorem atBoundary_congr {impl : Impl} {q q' : Pe} {m : Nat} (h : q'.registers = q.registers) :
    AtBoundary impl q' m ↔ AtBoundary impl q m := by
  have hhpmn : q'.hpmn = q.hpmn := (congrArg Pe.hpmn h : q'.registers.hpmn = q.registers.hpmn)
  have hepmn : q'.epmn = q.epmn := (congrArg Pe.epmn h : q'.registers.epmn = q.registers.epmn)
  rw [AtBoundary, AtBoundary, hhpmn, hepmn]

section Pair
variable {s t : State} {p n : Nat} {c : Counter} {k : Nat} {wh : List OverflowSource} {rest : List Offer}

/-- The count of a 32-bit counter. -/
theorem CountedBy.count_toNat (hp5 : s.impl.has .pmuv3p5 = false) (h : CountedBy s t p n c k wh rest) :
    ∃ c', t.counter? p n = some c' ∧ c'.count.toNat = (c.count.toNat + k) % 2 ^ 32 := by
  refine ⟨_, h.counter, (addCount_toNat s.impl c.count k).trans ?_⟩
  simp [Impl.counterWidth, hp5]

/-- The carry out of an even 32-bit counter is offered to the odd counter of the pair before anything else. -/
theorem CountedBy.carry_offered (hp5 : s.impl.has .pmuv3p5 = false) (h : CountedBy s t p n c k wh rest) (heven : n % 2 = 0)
    (hn : n + 1 < s.impl.numCounters) (hcarry : Overflows32 c.count k) :
    ∃ later, t.agenda = { happening := .lowOverflow s.draws wh, sink := .counter p (n + 1) } :: later := by
  have hno64 : ¬Overflows64 s.impl c.count k := fun h64 => Bool.false_ne_true (hp5.symm.trans h64.1)
  obtain ⟨pair, hagenda, hpair, _⟩ :=
    h.overflow true false (iff_of_true rfl hcarry) (iff_of_false Bool.false_ne_true hno64) (.inl rfl)
  rw [hpair ⟨rfl, heven, hn⟩] at hagenda
  exact ⟨_, hagenda⟩

end Pair

/-- Settles O26: the first step counts on the even counter (`exec_countedBy`), the second, if there is a carry, on the odd one
(`execChain_countedBy`). -/
theorem chainMakes64BitCounter : Obligations.ChainMakes64BitCounter := by
  intro i s serial o p n rest q c d hp5 heven hn ha hq hc hd hclt hdlt hi halg hchain hall hin hadm hattr hk
  set k := incrementOf i (s.observe p c serial o)
  obtain ⟨t, hexec, hcounted⟩ := exec_countedBy halg ha hc hadm hattr
  have hstep : step s = .next t := (step_of_selected ha ((State.selected_counter hc).trans hi)).trans hexec
  obtain ⟨himpl, _⟩ := hcounted.fixed
  obtain ⟨c', hc', hlow⟩ := hcounted.count_toNat hp5
  have hd' : t.counter? p (n + 1) = some d := (hcounted.others p (n + 1) (by omega)).trans hd
  by_cases hcarry : 2 ^ 32 ≤ c.count.toNat + k
  · have hovf : Overflows32 c.count k := by rwa [Overflows32, Nat.mod_eq_of_lt hclt]
    obtain ⟨later, hta⟩ := hcounted.carry_offered hp5 heven hn hovf
    obtain ⟨q', hq', hregs⟩ := hcounted.pe hq
    have hout : chainOutcome t.impl q' d (n + 1) s.draws = .counts := by
      rw [himpl, chainOutcome_inside (by omega) (.inl hp5) ((atBoundary_congr hregs).not.mpr hin), hall]
      rfl
    obtain ⟨u, hexec', hcounted'⟩ := execChain_countedBy hta hq' hd' hout
    have hsel : t.selected (.counter p (n + 1)) = some .chain := (State.selected_counter hd').trans (himpl ▸ hchain)
    obtain ⟨d'', hd'', hhigh⟩ := hcounted'.count_toNat (himpl ▸ hp5)
    refine ⟨t, u, c', d'', hstep, fun _ => (step_of_selected hta hsel).trans hexec', fun hnot => by omega, ?_, hd'', by omega⟩
    exact (hcounted'.others p n (by omega)).trans hc'
  · exact ⟨t, t, c', d, hstep, fun hnot => absurd hnot hcarry, fun _ => rfl, hc', hd', by omega⟩

/-! PMU_OVFS and PMU_HOVFS: the condition of each, as R127 and R128 state it. -/

theorem overflowSelected_iff {impl : Impl} {long : Bool} {c : OverflowCause} :
    overflowSelected impl long c = true
      ↔ (c.ovf32 = true ∧ (impl.has .pmuv3p5 = false ∨ long = false))
        ∨ (c.ovf64 = true ∧ impl.has .pmuv3p5 = true ∧ long = true) := by
  simp [overflowSelected, and_assoc]

theorem firstRange_iff {impl : Impl} {q : Pe} {n : Nat} :
    firstRange impl q n = true ↔ impl.haveEl2 = false ∨ n < q.hpmn.effective := by
  simp [firstRange]

theorem secondRange_iff {impl : Impl} {q : Pe} {n : Nat} :
    secondRange impl q n = true ↔ impl.haveEl2 = true ∧ q.hpmn.effective ≤ n := by
  simp [secondRange]

section Overflow
variable {s : State} {c : OverflowCause} {w : EvtWord} {rest : List Offer} {q : Pe}

theorem isPmuOvfs_iff (hq : s.pes[c.source.pe]? = some q) : isPmuOvfs s c = true ↔ OvfsCondition s.impl q c := by
  unfold isPmuOvfs OvfsCondition
  cases hsource : c.source <;> rw [hsource] at hq <;> simp only [OverflowSource.pe] at hq
  case counter p n =>
    simp only [hq, Bool.and_eq_true, overflowSelected_iff, firstRange_iff, and_assoc]
  case cycleCounter p => simp [hq]
  case instructionCounter p => simp [hq, and_assoc]

theorem isPmuHovfs_iff (hq : s.pes[c.source.pe]? = some q) : isPmuHovfs s c = true ↔ HovfsCondition s.impl q c := by
  unfold isPmuHovfs HovfsCondition
  cases hsource : c.source <;> rw [hsource] at hq <;> simp only [OverflowSource.pe] at hq
  case counter p n =>
    simp only [hq, Bool.and_eq_true, overflowSelected_iff, secondRange_iff]
    tauto
  case cycleCounter p => simp
  case instructionCounter p => simp

theorem exec_pmuOvfs_delivers (ha : s.agenda = { happening := .overflow c, sink := .consumer w } :: rest)
    (hocc : isPmuOvfs s c = true) :
    exec .pmuOvfs s = .next { s with agenda := rest, out := s.out ++ [.overflow .pmuOvfs c c.exportAllowed] } := by
  show execPmuOvfs s = _
  simp [execPmuOvfs, deliverOverflow, ha, hocc, State.dropOffer_eq s _ rest ha, State.emit]

theorem exec_pmuOvfs_ignores (ha : s.agenda = { happening := .overflow c, sink := .consumer w } :: rest)
    (hocc : ¬isPmuOvfs s c = true) : exec .pmuOvfs s = .next { s with agenda := rest } := by
  show execPmuOvfs s = _
  simp [execPmuOvfs, deliverOverflow, ha, hocc, State.dropOffer_eq s _ rest ha]

theorem exec_pmuHovfs_delivers (ha : s.agenda = { happening := .overflow c, sink := .consumer w } :: rest)
    (hocc : isPmuHovfs s c = true) :
    exec .pmuHovfs s
      = .next { s with agenda := rest, out := s.out ++ [.overflow .pmuHovfs c (hovfsTransmitted s c && c.exportAllowed)] } := by
  show execPmuHovfs s = _
  simp [execPmuHovfs, deliverOverflow, ha, hocc, State.dropOffer_eq s _ rest ha, State.emit]

theorem exec_pmuHovfs_ignores (ha : s.agenda = { happening := .overflow c, sink := .consumer w } :: rest)
    (hocc : ¬isPmuHovfs s c = true) : exec .pmuHovfs s = .next { s with agenda := rest } := by
  show execPmuHovfs s = _
  simp [execPmuHovfs, deliverOverflow, ha, hocc, State.dropOffer_eq s _ rest ha]

/-- The ranges of decision D10 do not meet: no overflow is of both events. -/
theorem not_isPmuOvfs_and_isPmuHovfs (s : State) (c : OverflowCause) : ¬(isPmuOvfs s c = true ∧ isPmuHovfs s c = true) := by
  rintro ⟨hovfs, hhovfs⟩
  unfold isPmuOvfs at hovfs
  unfold isPmuHovfs at hhovfs
  cases hsource : c.source with
  | counter p n =>
    simp only [hsource] at hovfs hhovfs
    cases hq : s.pes[p]? with
    | none => simp [hq] at hovfs
    | some q =>
      simp only [hq, Bool.and_eq_true, firstRange_iff, secondRange_iff] at hovfs hhovfs
      obtain ⟨_, hfirst⟩ := hovfs
      obtain ⟨_, hel2, hsecond⟩ := hhovfs
      obtain hnoEl2 | hlt := hfirst
      · exact Bool.false_ne_true (hnoEl2.symm.trans hel2)
      · omega
  | cycleCounter p => simp [hsource] at hhovfs
  | instructionCounter p => simp [hsource] at hhovfs

end Overflow

/-- Settles O27: the condition of R127 decides (`isPmuOvfs_iff`). -/
theorem ovfsDelivered : Obligations.OvfsDelivered := by
  intro s c w rest q ha hq
  rw [← isPmuOvfs_iff hq]
  exact ⟨exec_pmuOvfs_delivers ha, exec_pmuOvfs_ignores ha⟩

/-- Nothing is exported while self-hosted trace is enabled with E2TRE 0 (R128). -/
theorem hovfsTransmitted_iff {s : State} {c : OverflowCause} {q : Pe} (hq : s.pes[c.source.pe]? = some q) :
    hovfsTransmitted s c = true ↔ ¬(q.selfHosted = true ∧ q.e2tre = false) := by
  cases hself : q.selfHosted <;> simp [hovfsTransmitted, hq, hself]

/-- Settles O28: the condition of R128 decides (`isPmuHovfs_iff`), and of what is exported `hovfsTransmitted_iff`. -/
theorem hovfsDelivered : Obligations.HovfsDelivered := by
  intro s c w rest q ha hq
  rw [← isPmuHovfs_iff hq]
  refine ⟨fun h => ⟨_, ?_, exec_pmuHovfs_delivers ha h⟩, exec_pmuHovfs_ignores ha⟩
  rw [Bool.and_eq_true, hovfsTransmitted_iff hq]

/-- Settles O29: the ranges do not meet (`not_isPmuOvfs_and_isPmuHovfs`), and both conditions ask for the interrupt enable bit. -/
theorem overflowIsOfOneEvent : Obligations.OverflowIsOfOneEvent := by
  intro s c w rest ha
  have hone := not_and_or.mp (not_isPmuOvfs_and_isPmuHovfs s c)
  refine ⟨hone.imp (exec_pmuOvfs_ignores ha) (exec_pmuHovfs_ignores ha), fun w' rest' => ?_, fun p n q hsource hq hinten => ?_⟩
  · by_cases hovfs : isPmuOvfs s c = true
    · have hhovfs : ¬isPmuHovfs s c = true := hone.resolve_left (not_not_intro hovfs)
      exact ⟨_, _, exec_pmuOvfs_delivers ha hovfs, exec_pmuHovfs_ignores rfl hhovfs, .inr ⟨_, _, rfl⟩⟩
    · by_cases hhovfs : isPmuHovfs s c = true
      · exact ⟨_, _, exec_pmuOvfs_ignores ha hovfs, exec_pmuHovfs_delivers rfl hhovfs, .inr ⟨_, _, rfl⟩⟩
      · exact ⟨_, _, exec_pmuOvfs_ignores ha hovfs, exec_pmuHovfs_ignores rfl hhovfs, .inl rfl⟩
  · have hpe : s.pes[c.source.pe]? = some q := hsource ▸ hq
    have hclear : ¬q.inten.getLsbD n = true := Bool.not_eq_true _ ▸ hinten
    constructor
    · refine exec_pmuOvfs_ignores ha ((isPmuOvfs_iff hpe).not.mpr ?_)
      rw [OvfsCondition, hsource]
      exact fun ⟨hbit, _⟩ => hclear hbit
    · refine exec_pmuHovfs_ignores ha ((isPmuHovfs_iff hpe).not.mpr ?_)
      rw [HovfsCondition, hsource]
      exact fun ⟨_, hbit, _⟩ => hclear hbit

end Sys2Proof.Machine

/-!
PROOFS. The increments (40_common_event_rules.md R123, R139).
-/

namespace Sys2Proof.Machine

theorem exactQuotient_eq {item serial v num den : Nat} (hden : 0 < den) (hv : v * den = num) :
    exactQuotient item serial num den = v := by
  subst hv
  exact exactQuotient_mul item serial v den hden

/-! Class v. -/

theorem incScale_eq {b : Obs} {e : Instr} {v m : Nat} (hvl : b.occ.vl = 128 * m) (hm : 0 < m) (hops : v * m = b.occ.ops) :
    incScale e b = v :=
  exactQuotient_eq (by omega) (by rw [← hops, hvl]; ring)

theorem incScale2_eq {b : Obs} {e : Instr} {v m : Nat} (hvl : b.occ.vl = 128 * m) (hm : 0 < m) (hops : v * m ^ 2 = b.occ.ops) :
    incScale2 e b = v :=
  exactQuotient_eq (by rw [hvl]; positivity) (by rw [← hops, hvl]; ring)

/-- Settles O47: each event's increment is the one of its kind, by the table. -/
theorem operationIncrements : Obligations.OperationIncrements := by
  intro b v m hvl hm
  simp only [List.forall_mem_cons, List.not_mem_nil, false_implies, implies_true, and_true]
  refine ⟨?fixed, ?scale, ?scale2⟩
  case fixed => and_intros <;> exact fun hops : incFixed b = v => hops
  case scale => and_intros <;> exact incScale_eq hvl hm
  case scale2 => and_intros <;> exact incScale2_eq hvl hm

/-! Elements and bytes of vectors. -/

theorem incPredicateLoop_eq {b : Obs} {v : Nat} (hcsize : 0 < b.occ.ldst.csize) (hv : v * b.occ.ldst.csize = 128) :
    incPredicateLoop b = v :=
  exactQuotient_eq hcsize hv

theorem incScaleBytes_eq {b : Obs} {e : Instr} {v ratio : Nat} (hmsize : 0 < b.occ.ldst.msize)
    (hcsize : b.occ.ldst.csize = ratio * b.occ.ldst.msize) (hv : v * ratio = 16) :
    incScaleBytes e b = v * b.occ.ldst.regs := by
  have hratio : 0 < ratio := Nat.pos_of_ne_zero (by rintro rfl; simp at hv)
  rw [incScaleBytes, exactQuotient_eq hmsize hcsize.symm, exactQuotient_eq hratio hv]

/-- Settles O50: both increments are exact quotients (`exactQuotient_eq`). -/
theorem elementIncrements : Obligations.ElementIncrements := by
  intro b v
  refine ⟨incPredicateLoop_eq, fun ratio hmsize hcsize hv => ?_⟩
  simp only [List.forall_mem_cons, List.not_mem_nil, false_implies, implies_true, and_true]
  and_intros <;> exact incScaleBytes_eq hmsize hcsize hv

/-! Class slots. -/

theorem Obs.ofProcessor_iff {b : Obs} {pe? : Option Nat} :
    b.ofProcessor pe? = true ↔ ∃ x, pe? = some x ∧ (x = b.pe ∨ (b.impl.multithreaded = true ∧ SameAffinity b.impl b.pe x)) := by
  cases pe? with
  | none => simp [Obs.ofProcessor]
  | some x => simp [Obs.ofProcessor, Impl.sameProcessor_iff, @eq_comm _ b.pe]

/-- STALL_SLOT leaves out the Slots of the PE, or with MT 1 of its processor (R321). -/
theorem Obs.not_slotIdle {b : Obs} {x : Slot} :
    (!b.slotIdle x) = if b.impl.multithreaded && b.mt then b.ofProcessor x.occupant else decide (x.occupant = some b.pe) := by
  unfold Obs.slotIdle Obs.ofProcessor
  cases x.occupant with
  | none => simp
  | some q => by_cases hmt : (b.impl.multithreaded && b.mt) = true <;> simp [hmt, bne, beq_eq_decide]

/-- The Slots that STALL_SLOT counts and those it leaves out are the Slots of the cycle. -/
theorem incSlots_add_length_filter (b : Obs) {occupied : Slot → Bool} (h : ∀ x, (!b.slotIdle x) = occupied x) :
    incSlots b + (b.slotList.filter occupied).length = b.slotList.length := by
  rw [incSlots, ← List.countP_eq_length_filter, List.length_eq_countP_add_countP b.slotIdle, ← funext h]
  simp

theorem incSlotsBackend_le (b : Obs) : incSlotsBackend b ≤ incSlots b :=
  List.countP_mono_left fun _ _ h => by simp_all

theorem incSlotsFrontend_le (b : Obs) : incSlotsFrontend b ≤ incSlots b :=
  List.countP_mono_left fun _ _ h => by simp_all

/-- Settles O46: what STALL_SLOT leaves out (`Obs.not_slotIdle`) makes up the Slots of the cycle. -/
theorem slotIncrements : Obligations.SlotIncrements := by
  intro b
  refine ⟨?_, incSlotsBackend_le b, incSlotsFrontend_le b, fun hsingle => ?_, fun hmulti hmt => ?_, fun _ => Obs.ofProcessor_iff⟩
  · exact List.countP_le_length.trans (List.length_take_le _ _)
  · have hnot : (b.impl.multithreaded && b.mt) = false := by simpa [or_iff_not_imp_left] using hsingle
    exact incSlots_add_length_filter b fun x => by rw [Obs.not_slotIdle, hnot]; rfl
  · exact incSlots_add_length_filter b fun x => by rw [Obs.not_slotIdle, hmulti, hmt]; rfl

/-! Class percyc. -/

/-- The sum over what is in progress is that over what counts of it. -/
theorem incInProgress_eq {b : Obs} {parent e : Instr} {a : Attribution} {counts : Progress → Bool}
    (h : ∀ q ∈ b.occ.progress, (q.event = parent && b.attributedTo e a q.pe q.owners) = counts q) :
    incInProgress parent e a b = ((b.occ.progress.filter counts).map (fun q => q.count)).sum := by
  unfold incInProgress
  generalize b.occ.progress = l at h ⊢
  induction l with
  | nil => rfl
  | cons q l ih =>
    obtain ⟨hq, hl⟩ := List.forall_mem_cons.mp h
    rw [List.map_cons, List.sum_cons, ih hl, List.filter_cons, progressOf, hq]
    split <;> simp

section InProgress
variable {b : Obs} {parent e : Instr}

/-- Where all in progress is the counting PE's, all of it counts. -/
theorem incInProgress_all {a : Attribution} (ha : a ≠ .atOwner) (hall : ∀ q ∈ b.occ.progress, q.pe = some b.pe) :
    incInProgress parent e a b = ((b.occ.progress.filter (fun q => q.event = parent)).map (fun q => q.count)).sum :=
  incInProgress_eq fun q hq => by rw [hall q hq, b.attributedTo_self e q.owners ha, Bool.and_true]

theorem incInProgress_own :
    incInProgress parent e .own b
      = ((b.occ.progress.filter (fun q => q.event = parent && q.pe = some b.pe)).map (fun q => q.count)).sum :=
  incInProgress_eq fun _ _ => rfl

/-- With MT 0 a counter counts of a shared resource its own PE's only. -/
theorem Obs.sharingClause_of_not_mt {x : Instr} {r : Resource} {pe? : Option Nat} {owners : List Nat}
    (hr : r ∈ b.impl.shared) (hmt : b.mt = false) : b.sharingClause x r pe? owners = b.mine pe? := by
  simp [Obs.sharingClause, hr, hmt]

/-- With MT 1, of one shared outside the processor, the processor's. -/
theorem Obs.sharingClause_of_mt {x : Instr} {r : Resource} {pe? : Option Nat} {owners : List Nat}
    (hmulti : b.impl.multithreaded = true) (hr : r ∈ b.impl.sharedOutside) (hmt : b.mt = true) :
    b.sharingClause x r pe? owners = b.ofProcessor pe? := by
  simp [Obs.sharingClause, hr, hmulti, hmt]

theorem incInProgress_shared {r : Resource} (hr : r ∈ b.impl.shared) :
    (b.mt = false → incInProgress parent e (.shared r) b
        = ((b.occ.progress.filter (fun q => q.event = parent && q.pe = some b.pe)).map (fun q => q.count)).sum)
      ∧ (b.mt = true → b.impl.multithreaded = true → r ∈ b.impl.sharedOutside → incInProgress parent e (.shared r) b
        = ((b.occ.progress.filter (fun q => q.event = parent && b.ofProcessor q.pe)).map (fun q => q.count)).sum) :=
  ⟨fun hmt => incInProgress_eq fun _ _ => congrArg _ (Obs.sharingClause_of_not_mt hr hmt),
    fun hmt hmulti hout => incInProgress_eq fun _ _ => congrArg _ (Obs.sharingClause_of_mt hmulti hout hmt)⟩

end InProgress

/-- With MT 1 CPU_CYCLES counts every Processor cycle (R129 (d)). -/
theorem occCpuCycles_of_mt (b : Obs) : occCpuCycles { b with mt := true } = b.processorCycle := by
  unfold occCpuCycles
  rw [Bool.or_true, Bool.true_or, Bool.and_true]
  rfl

/-- Settles O49: each event's increment is the sum over what is in progress, by the table, and each occurs on every Processor cycle. -/
theorem perCycleIncrements : Obligations.PerCycleIncrements := by
  intro b
  simp only [List.forall_mem_cons, List.not_mem_nil, false_implies, implies_true, and_true]
  refine ⟨fun hall => ?_, ⟨incInProgress_own, incInProgress_own⟩, ?_, fun _ => Obs.ofProcessor_iff, ?_⟩
  · and_intros <;> exact incInProgress_all nofun hall
  · and_intros <;> exact incInProgress_shared
  · and_intros <;> exact (occCpuCycles_of_mt b).symm

end Sys2Proof.Machine

/-!
PROOFS. To whom an occurrence is attributed (40_common_event_rules.md R129 to R138).
-/

namespace Sys2Proof.Machine

/-- What holds of each entry of the table of assigned numbers holds of every event. -/
theorem forall_event {P : Instr → Prop} (h : ∀ q ∈ assignedTable, P q.2) (e : Instr) : P e :=
  h _ (mem_assignedTable_of_decodeWord (decodeWord_encode e))

/-- The four events with an algorithm of their own are attributed to the PE itself. -/
theorem hasAlgorithm_eq_false {i : Instr} (h : attributionOf i ≠ .own) : hasAlgorithm i = false := by
  unfold hasAlgorithm
  split
  case h_5 => rfl
  all_goals exact absurd rfl h

/-- The events with a variable increment are of the PE itself or of its cycles. -/
theorem attributionOf_of_variableIncrement : ∀ i ∈ variableIncrements, attributionOf i = .own ∨ attributionOf i = .cycle := by decide

theorem incrementOf_eq_one_of_attribution {i : Instr} (hown : attributionOf i ≠ .own) (hcycle : attributionOf i ≠ .cycle) (b : Obs) :
    incrementOf i b = 1 :=
  incrementOf_eq_one (fun hi => (attributionOf_of_variableIncrement i hi).elim hown hcycle) b

/-! The sharing clause: which events carry it (R130, R131, R138). -/

/-- The resource of an event that is attributed by the clause as a whole. -/
def Attribution.shared? : Attribution → Option Resource
  | .shared r => some r
  | _ => none

/-- The _PERCYC events that carry the clause (R130, R138): it falls on what is in progress. -/
def sharedPerCycle : List (Instr × Resource) :=
  [(.dtlbWalkPercyc, .dtlb), (.itlbWalkPercyc, .itlb), (.gcstlbWalkPercyc, .gcstlb), (.busReqRdPercyc, .bus), (.busReqWrPercyc, .bus)]

/-- The list of the rules and the attributions agree on an event. -/
abbrev SharingAgrees (i : Instr) : Prop :=
  (∀ r ∈ sharingClauseOf i, attributionOf i = .shared r ∨ (attributionOf i = .cycle ∧ (i, r) ∈ sharedPerCycle))
    ∧ ∀ r ∈ (attributionOf i).shared?, sharingClauseOf i = some r

theorem sharingAgrees (i : Instr) : SharingAgrees i := forall_event (by decide +kernel) i

theorem attributionOf_of_sharingClause {i : Instr} {r : Resource} (h : sharingClauseOf i = some r) :
    attributionOf i = .shared r ∨ (attributionOf i = .cycle ∧ (i, r) ∈ sharedPerCycle) :=
  (sharingAgrees i).1 r h

theorem sharingClauseOf_of_shared {i : Instr} {r : Resource} (h : attributionOf i = .shared r) : sharingClauseOf i = some r :=
  (sharingAgrees i).2 r (by rw [h]; rfl)

/-- The increment of the five counts what the clause attributes (R123). -/
theorem incrementOf_sharedPerCycle {i : Instr} {r : Resource} (h : (i, r) ∈ sharedPerCycle) :
    ∃ parent, incrementOf i = incInProgress parent i (.shared r) := by
  simp only [sharedPerCycle, List.mem_cons, Prod.mk.injEq, List.not_mem_nil, or_false] at h
  obtain ⟨rfl, rfl⟩ | ⟨rfl, rfl⟩ | ⟨rfl, rfl⟩ | ⟨rfl, rfl⟩ | ⟨rfl, rfl⟩ := h <;> exact ⟨_, rfl⟩

/-- Nothing in progress that counts adds up to 0. -/
theorem incInProgress_eq_zero {b : Obs} {parent e : Instr} {a : Attribution}
    (h : ∀ q ∈ b.occ.progress, b.attributedTo e a q.pe q.owners = false) : incInProgress parent e a b = 0 := by
  rw [incInProgress_eq (counts := fun _ => false) fun q hq => by rw [h q hq, Bool.and_false]]
  simp

/-! The sharing clause: whom it counts. -/

/-- An event with the clause, or counted by one, is attributed by the clause. -/
theorem attributedTo_eq_sharingClause {i : Instr} {r : Resource}
    (h : attributionOf i = .shared r ∨ ∃ x, sharingClauseOf x = some r ∧ attributionOf i = .sharedAs x r) :
    ∃ x, ∀ (b : Obs) (pe? : Option Nat) (owners : List Nat),
      b.attributedTo i (attributionOf i) pe? owners = b.sharingClause x r pe? owners := by
  obtain h | ⟨x, _, h⟩ := h
  · exact ⟨i, fun _ _ _ => by rw [h]; rfl⟩
  · exact ⟨x, fun _ _ _ => by rw [h]; rfl⟩

theorem Obs.mine_eq_false {b : Obs} {pe? : Option Nat} : b.mine pe? = false ↔ pe? ≠ some b.pe := decide_eq_false_iff_not

theorem Obs.ofProcessor_eq_false {b : Obs} {pe? : Option Nat}
    (h : ∀ x, pe? = some x → x ≠ b.pe ∧ ¬SameAffinity b.impl b.pe x) : b.ofProcessor pe? = false := by
  rw [← Bool.not_eq_true, Obs.ofProcessor_iff]
  rintro ⟨x, hx, hself | ⟨_, haff⟩⟩
  · exact (h x hx).1 hself
  · exact (h x hx).2 haff

/-- Settles O41: the tables agree (`sharingAgrees`), and with MT 0 the clause is `Obs.mine`, with MT 1 `Obs.ofProcessor`. -/
theorem sharedCountsOnlyAttributable : Obligations.SharedCountsOnlyAttributable := by
  refine ⟨fun i r => attributionOf_of_sharingClause, fun i r => sharingClauseOf_of_shared, ?events, ?cycles⟩
  case events =>
    intro i r s serial o p n rest c hi ha hc hr
    obtain ⟨x, hclause⟩ := attributedTo_eq_sharingClause hi
    have halg : hasAlgorithm i = false := hasAlgorithm_eq_false (by obtain h | ⟨_, _, h⟩ := hi <;> rw [h] <;> nofun)
    refine ⟨fun hmt hother => exec_ignores halg ha hc fun ⟨_, hattr⟩ => ?_,
      fun hmt hmulti hout => ⟨fun hnone => ?_, fun y hy hmine hadm => ?_⟩⟩
    · rw [hclause, Obs.sharingClause_of_not_mt hr hmt, Obs.mine_eq_false.mpr hother] at hattr
      cases hattr
    · refine exec_ignores halg ha hc fun ⟨_, hattr⟩ => ?_
      rw [hclause, Obs.sharingClause_of_mt hmulti hout hmt, Obs.ofProcessor_eq_false hnone] at hattr
      cases hattr
    · refine exec_countedBy halg ha hc hadm ?_
      rw [hclause, Obs.sharingClause_of_mt hmulti hout hmt]
      exact Obs.ofProcessor_iff.mpr ⟨y, hy, hmine.imp_right fun haff => ⟨hmulti, haff⟩⟩
  case cycles =>
    intro i r s serial o p n x rest c hclause hcycle ha hc hr hadm hx hmine
    obtain hshared | ⟨_, hmem⟩ := attributionOf_of_sharingClause hclause
    · cases hshared.symm.trans hcycle
    obtain ⟨parent, hinc⟩ := incrementOf_sharedPerCycle hmem
    have hattr : (s.observe p c serial o).attributedTo i (attributionOf i) o.pe o.owners = true := by
      rw [hcycle]
      exact Obs.ofProcessor_iff.mpr ⟨x, hx, hmine⟩
    have hcounted := exec_countedBy (hasAlgorithm_eq_false (by rw [hcycle]; nofun)) ha hc hadm hattr
    rw [hinc] at hcounted
    refine ⟨fun hmt hnone => ?_, fun hmt hmulti hout hnone => ?_⟩
    · rwa [incInProgress_eq_zero fun g hg => ?_] at hcounted
      exact (Obs.sharingClause_of_not_mt hr hmt).trans (Obs.mine_eq_false.mpr (hnone g hg))
    · rwa [incInProgress_eq_zero fun g hg => ?_] at hcounted
      exact (Obs.sharingClause_of_mt hmulti hout hmt).trans (Obs.ofProcessor_eq_false (hnone g hg))

/-! Write-backs, allocations and invalidations. -/

section Once
variable {i : Instr} {s : State} {serial : Nat} {o : Occurrence} {p n : Nat} {rest : List Offer} {c : Counter}

/-- An event that is neither of the PE itself nor of its cycles counts what it admits once, where it is attributed to the counter. -/
theorem exec_countedBy_once {a : Attribution} (hi : attributionOf i = a) (hown : a ≠ .own) (hcycle : a ≠ .cycle)
    (ha : s.agenda = { happening := .occurs serial o, sink := .counter p n } :: rest) (hc : s.counter? p n = some c)
    (hadm : Admits s i p c serial o) (hattr : (s.observe p c serial o).attributedTo i a o.pe o.owners = true) :
    ∃ t, exec i s = .next t ∧ CountedBy s t p n c 1 o.withheld rest := by
  subst hi
  exact incrementOf_eq_one_of_attribution hown hcycle _ ▸ exec_countedBy (hasAlgorithm_eq_false hown) ha hc hadm hattr

/-- Where it is not, it ignores it. -/
theorem exec_ignores_of_not_attributed {a : Attribution} (hi : attributionOf i = a) (hown : a ≠ .own)
    (ha : s.agenda = { happening := .occurs serial o, sink := .counter p n } :: rest) (hc : s.counter? p n = some c)
    (hattr : (s.observe p c serial o).attributedTo i a o.pe o.owners = false) : exec i s = .next { s with agenda := rest } := by
  subst hi
  exact exec_ignores (hasAlgorithm_eq_false hown) ha hc fun ⟨_, h⟩ => Bool.false_ne_true (hattr.symm.trans h)

end Once

theorem Obs.writeBackIncluded_of_unattributable {b : Obs} {e : Instr} (h : b.occ.pe = none) : b.writeBackIncluded e = true := by
  simp [Obs.writeBackIncluded, h]

theorem Obs.never_iff {b : Obs} {f : Fact} : b.never f = true ↔ b.is f = false := by simp [Obs.never]

/-- An Unattributable write-back that an entry does not exclude is one of its event (R136). -/
theorem occOf_writeBack {e : Instr} (he : e ∈ [Instr.l1dCacheWb, .l2dCacheWb, .l3dCacheWb, .llCacheWb]) {b : Obs} (hpe : b.occ.pe = none)
    (hown : b.own e = true) (hinval : b.is .invalidationOnly = false) (hthrough : b.is .writeThrough = false)
    (hrefill : e = .l1dCacheWb ∨ b.is .refillOfOtherCache = false) : occOf e b = true := by
  simp only [List.mem_cons, List.not_mem_nil, or_false] at he
  obtain rfl | rfl | rfl | rfl := he
  · simp [occL1dCacheWb, hown, Obs.writeBackIncluded_of_unattributable hpe, Obs.never_iff, hinval, hthrough]
  · have hrefill := hrefill.resolve_left nofun
    simp [occL2dCacheWb, hown, Obs.writeBackIncluded_of_unattributable hpe, Obs.never_iff, hinval, hthrough, hrefill]
  · have hrefill := hrefill.resolve_left nofun
    simp [occL3dCacheWb, hown, Obs.writeBackIncluded_of_unattributable hpe, Obs.never_iff, hinval, hthrough, hrefill]
  · have hrefill := hrefill.resolve_left nofun
    simp [occLlCacheWb, hown, Obs.writeBackIncluded_of_unattributable hpe, Obs.never_iff, hinval, hthrough, hrefill]

/-- Settles O42: an Unattributable write-back goes to the owners of a cache that is not shared, by the attribution. -/
theorem unattributableWriteBack : Obligations.UnattributableWriteBack := by
  refine ⟨⟨rfl, rfl, rfl, rfl⟩, fun _ he _ => occOf_writeBack he,
    fun i r s serial o p n rest c hi ha hc hpe howner hadm => ⟨fun hr => ?_, fun hr => ?_⟩⟩
  · refine exec_ignores_of_not_attributed hi nofun ha hc ?_
    simp [Obs.attributedTo, hpe, State.observe, hr]
  · refine exec_countedBy_once hi nofun nofun ha hc hadm ?_
    simp [Obs.attributedTo, hpe, State.observe, hr, howner]

/-- Settles O43: the attributions of the three families, with `Obs.ofProcessor_iff` for the _ALLOCATE events. -/
theorem invalidateAndAllocate : Obligations.InvalidateAndAllocate := by
  refine ⟨?inval, ?allocate, ?extProp⟩
  case inval =>
    intro i s serial o p n rest c hi ha hc _ howner hadm
    have hattr : attributionOf i = .invalidate := by obtain rfl | rfl | rfl | rfl := hi <;> rfl
    refine exec_countedBy_once hattr nofun nofun ha hc hadm ?_
    simp [Obs.attributedTo, State.observe, howner]
  case allocate =>
    intro i s serial o p n x rest c hi ha hc hx hne hadm
    have hattr : attributionOf i = .allocate := by obtain rfl | rfl | rfl := hi <;> rfl
    have hcounts : (s.observe p c serial o).attributedTo i .allocate o.pe o.owners = true
        ↔ c.mt.effective = true ∧ s.impl.multithreaded = true ∧ SameAffinity s.impl p x := by
      simp [Obs.attributedTo, hx, Obs.ofProcessor_iff, Obs.mine, State.observe, hne]
    refine ⟨fun hwhy => ?_, fun hmt hmulti haff => ?_⟩
    · refine exec_ignores_of_not_attributed hattr nofun ha hc (Bool.eq_false_iff.mpr (hcounts.not.mpr ?_))
      rintro ⟨hmt, hmulti, haff⟩
      simp [hmt, hmulti, haff] at hwhy
    · exact exec_countedBy_once hattr nofun nofun ha hc hadm (hcounts.mpr ⟨hmt, hmulti, haff⟩)
  case extProp =>
    intro i s serial o p n rest c hi ha hc hadm
    have hattr : attributionOf i = .atOwner := by obtain rfl | rfl | rfl | rfl | rfl | rfl := hi <;> rfl
    refine ⟨fun howner => exec_countedBy_once hattr nofun nofun ha hc hadm ?_,
      fun howner => exec_ignores_of_not_attributed hattr nofun ha hc ?_⟩
    · simp [Obs.attributedTo, State.observe, howner]
    · simp [Obs.attributedTo, State.observe, howner]

end Sys2Proof.Machine

/-!
PROOFS. Cycles (42_uarch_0001_003F_p1.md R278, R289; 40_common_event_rules.md R129 (d)).
-/

namespace Sys2Proof.Machine

/-- A cycle whose clocks run is a Processor cycle. -/
theorem Obs.processorCycle_of_running {b : Obs} (hrun : b.is .clocksStopped = false) : b.processorCycle = b.own .cpuCycles := by
  simp [Obs.processorCycle, Obs.gated, Obs.never, hrun]

/-- With FEAT_PMUv3p9 a stopped one is none (R1524). -/
theorem Obs.processorCycle_of_stopped {b : Obs} (hstop : b.is .clocksStopped = true) (hp9 : b.has .pmuv3p9 = true) :
    b.processorCycle = false := by
  simp [Obs.processorCycle, Obs.gated, Obs.never, hstop, hp9]

theorem Obs.processorCycle_of_not_own {b : Obs} (hown : b.own .cpuCycles = false) : b.processorCycle = false := by
  simp [Obs.processorCycle, hown]

theorem Obs.own_of_supplied {b : Obs} {e : Instr} {l : List Instr} (h : b.occ.supplied = .only l) (he : e ∈ l) : b.own e = true := by
  simp [Obs.own, h, EventSet.mem, he]

theorem occCpuCycles_of_multithreaded {b : Obs} (hmulti : b.impl.multithreaded = true) :
    occCpuCycles b = (b.processorCycle && (b.mt || b.active)) := by
  simp [occCpuCycles, hmulti]

/-! BUS_CYCLES is attributed and occurs as the Processor cycles are, or as the PE's own (log 77). -/

section BusCycles
variable {b : Obs}

theorem Obs.attributedTo_busCycle_of_processorRate (hrate : b.impl.busAtProcessorRate = true) (pe? : Option Nat) (owners : List Nat) :
    b.attributedTo .busCycles .busCycle pe? owners = b.ofProcessor pe? := if_pos hrate

theorem Obs.attributedTo_busCycle_of_otherRate (hrate : b.impl.busAtProcessorRate = false) (pe? : Option Nat) (owners : List Nat) :
    b.attributedTo .busCycles .busCycle pe? owners = b.mine pe? := if_neg (Bool.eq_false_iff.mp hrate)

theorem occBusCycles_of_processorRate (hrate : b.impl.busAtProcessorRate = true) : occBusCycles b = b.processorCycle := if_pos hrate

theorem occBusCycles_of_otherRate (hrate : b.impl.busAtProcessorRate = false) : occBusCycles b = b.own .busCycles :=
  if_neg (Bool.eq_false_iff.mp hrate)

end BusCycles

section Offered
variable {s : State} {serial : Nat} {o : Occurrence} {p n : Nat} {rest : List Offer} {c : Counter}

/-- CPU_CYCLES and BUS_CYCLES can be counted, once a cycle. -/
theorem exec_cycle_countedBy {i : Instr} (hi : i = .cpuCycles ∨ i = .busCycles)
    (ha : s.agenda = { happening := .occurs serial o, sink := .counter p n } :: rest) (hc : s.counter? p n = some c)
    (hfilter : c.filter.passes o.ctx = true) (hocc : occOf i (s.observe p c serial o) = true)
    (hattr : (s.observe p c serial o).attributedTo i (attributionOf i) o.pe o.owners = true) :
    ∃ t, exec i s = .next t ∧ CountedBy s t p n c 1 o.withheld rest := by
  have halg : hasAlgorithm i = false := by obtain rfl | rfl := hi <;> rfl
  have htrig : i ≠ .trbTrig := by obtain rfl | rfl := hi <;> nofun
  have hone : incrementOf i (s.observe p c serial o) = 1 := by obtain rfl | rfl := hi <;> rfl
  exact hone ▸ exec_countedBy halg ha hc ⟨countable_of_hasAlgorithm_eq_false halg htrig, hfilter, hocc⟩ hattr

theorem exec_cycle_ignores {i : Instr} (hi : i = .cpuCycles ∨ i = .busCycles)
    (ha : s.agenda = { happening := .occurs serial o, sink := .counter p n } :: rest) (hc : s.counter? p n = some c)
    (hnot : occOf i (s.observe p c serial o) = false
      ∨ (s.observe p c serial o).attributedTo i (attributionOf i) o.pe o.owners = false) :
    exec i s = .next { s with agenda := rest } := by
  have halg : hasAlgorithm i = false := by obtain rfl | rfl := hi <;> rfl
  refine exec_ignores halg ha hc fun ⟨hadm, hattr⟩ => ?_
  obtain h | h := hnot
  · exact Bool.false_ne_true (h.symm.trans hadm.occurs)
  · exact Bool.false_ne_true (h.symm.trans hattr)

end Offered

/-- Settles O44: each clause decides the occurrence (`Obs.processorCycle`, active or not) or the attribution (`Obs.ofProcessor_iff`). -/
theorem cpuCyclesCounted : Obligations.CpuCyclesCounted := by
  constructor
  · intro s serial o p n x rest c ha hc hmulti haff hx hfilter hsupplied
    have hocc := occCpuCycles_of_multithreaded (b := s.observe p c serial o) hmulti
    have hattr : (s.observe p c serial o).attributedTo .cpuCycles .cycle o.pe o.owners = true :=
      Obs.ofProcessor_iff.mpr ⟨x, hx, .inr ⟨hmulti, haff⟩⟩
    have hcycle (hrun : (s.observe p c serial o).is .clocksStopped = false) : (s.observe p c serial o).processorCycle = true :=
      (Obs.processorCycle_of_running hrun).trans (Obs.own_of_supplied hsupplied (List.mem_singleton.mpr rfl))
    refine ⟨fun hrun hmt => ?_, fun hrun _ hactive => ?_, fun hmt hidle => ?_, fun hstop hp9 => ?_⟩
    · exact exec_cycle_countedBy (.inl rfl) ha hc hfilter (hocc.trans (by rw [hcycle hrun]; simp [State.observe, hmt])) hattr
    · refine exec_cycle_countedBy (.inl rfl) ha hc hfilter (hocc.trans ?_) hattr
      rw [hcycle hrun]
      simp [Obs.active, State.observe, hactive]
    · exact exec_cycle_ignores (.inl rfl) ha hc (.inl (hocc.trans (by simp [Obs.active, State.observe, hmt, hidle])))
    · exact exec_cycle_ignores (.inl rfl) ha hc (.inl (hocc.trans (by rw [Obs.processorCycle_of_stopped hstop hp9, Bool.false_and])))
  · intro s serial o p n x rest c ha hc hx hfilter
    refine ⟨fun hrate hmine hown hrun => ?_, fun hrate hown => ?_, fun hrate hne hout => ?_, fun hrate hstop hp9 => ?_,
      fun hrate hmine hown => ?_, fun hrate hnot => ?_⟩
    · exact exec_cycle_countedBy (.inr rfl) ha hc hfilter
        ((occBusCycles_of_processorRate hrate).trans ((Obs.processorCycle_of_running hrun).trans hown))
        ((Obs.attributedTo_busCycle_of_processorRate hrate _ _).trans (Obs.ofProcessor_iff.mpr ⟨x, hx, hmine⟩))
    · exact exec_cycle_ignores (.inr rfl) ha hc
        (.inl ((occBusCycles_of_processorRate hrate).trans (Obs.processorCycle_of_not_own hown)))
    · refine exec_cycle_ignores (.inr rfl) ha hc (.inr ((Obs.attributedTo_busCycle_of_processorRate hrate _ _).trans ?_))
      rw [hx, Bool.eq_false_iff, Ne, Obs.ofProcessor_iff]
      rintro ⟨_, hy, hmine⟩
      cases hy
      exact hmine.elim hne hout
    · exact exec_cycle_ignores (.inr rfl) ha hc
        (.inl ((occBusCycles_of_processorRate hrate).trans (Obs.processorCycle_of_stopped hstop hp9)))
    · subst hmine
      exact exec_cycle_countedBy (.inr rfl) ha hc hfilter ((occBusCycles_of_otherRate hrate).trans hown)
        ((Obs.attributedTo_busCycle_of_otherRate hrate _ _).trans (by rw [hx]; exact Obs.mine_self _))
    · refine exec_cycle_ignores (.inr rfl) ha hc (hnot.symm.imp (occBusCycles_of_otherRate hrate).trans fun hother => ?_)
      exact (Obs.attributedTo_busCycle_of_otherRate hrate _ _).trans (Obs.mine_eq_false.mpr (by simpa [hx, State.observe] using hother))

end Sys2Proof.Machine

/-!
PROOFS. Inclusions between the events (40_common_event_rules.md R122).
-/

namespace Sys2Proof.Machine

/-- The rule of `e` includes it in its parents. -/
def IncludedInParents (e : Instr) : Prop := ∀ x ∈ parentsOf e, ∀ b, occOf e b = true → occOf x b = true

theorem includedInParents_of_none {e : Instr} (hparents : parentsOf e = []) : IncludedInParents e := by
  rw [IncludedInParents, hparents]
  exact List.forall_mem_nil _

/-- All rules but that of BR_INDNR_TAKEN_RETIRED name one parent at most. -/
theorem includedInParents_of_one {e x : Instr} (hparents : parentsOf e = [x]) (h : ∀ b, occOf e b = true → occOf x b = true) :
    IncludedInParents e := by
  rw [IncludedInParents, hparents]
  exact List.forall_mem_singleton.mpr h

theorem brIndnrTakenRetired_included : IncludedInParents .brIndnrTakenRetired := by
  refine List.forall_mem_cons.mpr ⟨fun b h => ?_, List.forall_mem_singleton.mpr fun b h => ?_⟩ <;>
  · simp only [occOf_brIndnrTakenRetired, occBrIndnrTakenRetired, Bool.and_eq_true] at h
    tauto

/-! The classes of SIMD operations: the unions SE_ are of the ASE_, SVE_ and SME_ classes, which lie in the scalar or the SE_ class. -/

theorem fpClasses_included :
    ∀ e ∈ [Instr.aseFpSpec, .sveFpSpec, .aseSveFpSpec, .smeFpSpec, .seFpSpec], IncludedInParents e := by
  simp only [List.forall_mem_cons, List.not_mem_nil, false_implies, implies_true, and_true]
  and_intros <;>
  · refine includedInParents_of_one rfl fun b => ?_
    simp only [occOf_aseFpSpec, occOf_sveFpSpec, occOf_aseSveFpSpec, occOf_smeFpSpec, occOf_seFpSpec, occOf_fpSpec, occAseFpSpec,
      occSveFpSpec, occAseSveFpSpec, occSmeFpSpec, occSeFpSpec, Bool.or_eq_true, Bool.and_eq_true]
    tauto

theorem intClasses_included :
    ∀ e ∈ [Instr.aseIntSpec, .sveIntSpec, .aseSveIntSpec, .smeIntSpec, .seIntSpec], IncludedInParents e := by
  simp only [List.forall_mem_cons, List.not_mem_nil, false_implies, implies_true, and_true]
  and_intros <;>
  · refine includedInParents_of_one rfl fun b => ?_
    simp only [occOf_aseIntSpec, occOf_sveIntSpec, occOf_aseSveIntSpec, occOf_smeIntSpec, occOf_seIntSpec, occOf_intSpec, occAseIntSpec,
      occSveIntSpec, occAseSveIntSpec, occSmeIntSpec, occSeIntSpec, Bool.or_eq_true, Bool.and_eq_true]
    tauto

theorem seFpUnions_included :
    ∀ e ∈ [Instr.seFpBf16Spec, .seFpHpSpec, .seFpSpSpec, .seFpDpSpec, .seFpAddsubSpec, .seFpFmaSpec, .seFpDotSpec],
      IncludedInParents e := by
  simp only [List.forall_mem_cons, List.not_mem_nil, false_implies, implies_true, and_true]
  and_intros <;>
  · refine includedInParents_of_one rfl fun b => ?_
    simp only [occOf_seFpBf16Spec, occOf_seFpHpSpec, occOf_seFpSpSpec, occOf_seFpDpSpec, occOf_seFpAddsubSpec, occOf_seFpFmaSpec,
      occOf_seFpDotSpec, occOf_seFpSpec, occSeFpBf16Spec, occSeFpHpSpec, occSeFpSpSpec, occSeFpDpSpec, occSeFpAddsubSpec, occSeFpFmaSpec,
      occSeFpDotSpec, occSveFpBf16Spec, occSmeFpBf16Spec, occAseFpHpSpec, occSveFpHpSpec, occSmeFpHpSpec, occAseFpSpSpec, occSveFpSpSpec,
      occSmeFpSpSpec, occAseFpDpSpec, occSveFpDpSpec, occSmeFpDpSpec, occAseFpAddsubSpec, occSveFpAddsubSpec, occSmeFpAddsubSpec,
      occAseFpFmaSpec, occSveFpFmaSpec, occSmeFpFmaSpec, occAseFpDotSpec, occSveFpDotSpec, occSmeFpDotSpec, Bool.or_eq_true,
      Bool.and_eq_true]
    tauto

theorem seIntUnions_included :
    ∀ e ∈ [Instr.seInt8Spec, .seInt16Spec, .seInt32Spec, .seInt64Spec, .seIntMulSpec, .seIntDotSpec], IncludedInParents e := by
  simp only [List.forall_mem_cons, List.not_mem_nil, false_implies, implies_true, and_true]
  and_intros <;>
  · refine includedInParents_of_one rfl fun b => ?_
    simp only [occOf_seInt8Spec, occOf_seInt16Spec, occOf_seInt32Spec, occOf_seInt64Spec, occOf_seIntMulSpec, occOf_seIntDotSpec,
      occOf_seIntSpec, occSeInt8Spec, occSeInt16Spec, occSeInt32Spec, occSeInt64Spec, occSeIntMulSpec, occSeIntDotSpec, occAseInt8Spec,
      occSveInt8Spec, occSmeInt8Spec, occAseInt16Spec, occSveInt16Spec, occSmeInt16Spec, occAseInt32Spec, occSveInt32Spec,
      occSmeInt32Spec, occAseInt64Spec, occSveInt64Spec, occSmeInt64Spec, occAseIntMulSpec, occSveIntMulSpec, occSmeIntMulSpec,
      occAseIntDotSpec, occSveIntDotSpec, occSmeIntDotSpec, Bool.or_eq_true, Bool.and_eq_true]
    tauto

theorem smeMembers_included :
    ∀ e ∈ [Instr.smeFpAddsubSpec, .smeFpFmaSpec, .smeFpDotSpec, .smeIntMulSpec, .smeIntDotSpec], IncludedInParents e := by
  simp only [List.forall_mem_cons, List.not_mem_nil, false_implies, implies_true, and_true]
  and_intros <;>
  · refine includedInParents_of_one rfl fun b h => ?_
    simp only [occOf_seFpAddsubSpec, occOf_seFpFmaSpec, occOf_seFpDotSpec, occOf_seIntMulSpec, occOf_seIntDotSpec, occSeFpAddsubSpec,
      occSeFpFmaSpec, occSeFpDotSpec, occSeIntMulSpec, occSeIntDotSpec, Bool.or_eq_true]
    exact .inr h

/-- But for the SIMD classes, the parent is the first of the conditions of the event. -/
theorem includedInParents (e : Instr) : IncludedInParents e := by
  cases e
  case brIndnrTakenRetired => exact brIndnrTakenRetired_included
  case stallSlotBackend | stallSlotFrontend => exact includedInParents_of_one rfl fun _ => id
  case aseFpSpec | sveFpSpec | aseSveFpSpec | smeFpSpec | seFpSpec => exact fpClasses_included _ (by decide)
  case aseIntSpec | sveIntSpec | aseSveIntSpec | smeIntSpec | seIntSpec => exact intClasses_included _ (by decide)
  case seFpBf16Spec | seFpHpSpec | seFpSpSpec | seFpDpSpec | seFpAddsubSpec | seFpFmaSpec | seFpDotSpec =>
    exact seFpUnions_included _ (by decide)
  case seInt8Spec | seInt16Spec | seInt32Spec | seInt64Spec | seIntMulSpec | seIntDotSpec => exact seIntUnions_included _ (by decide)
  case smeFpAddsubSpec | smeFpFmaSpec | smeFpDotSpec | smeIntMulSpec | smeIntDotSpec => exact smeMembers_included _ (by decide)
  all_goals
    first | refine includedInParents_of_one rfl fun b h => ?_ | exact includedInParents_of_none rfl
  all_goals
    simp at h ⊢
    repeat first | with_reducible exact h | replace h := Bool.and_elim_left h

/-- Settles O31, event by event (`includedInParents`). -/
theorem inclusions : Obligations.Inclusions := fun e x b hx => includedInParents e x hx b

end Sys2Proof.Machine

/-!
PROOFS. Intersections, differences, unions, exclusions and conditional inclusions of events (40_common_event_rules.md R122).
-/

namespace Sys2Proof.Machine

theorem occOf_intersection {e x y : Instr} (b : Obs) (h : intersectionOf e = some (x, y)) : occOf e b = (occOf x b && occOf y b) := by
  unfold intersectionOf at h
  split at h <;> cases h <;> rfl

theorem occOf_difference {e x y : Instr} (b : Obs) (h : differenceOf e = some (x, y)) : occOf e b = (occOf x b && !occOf y b) := by
  unfold differenceOf at h
  split at h <;> cases h <;> rfl

theorem occOf_union {e x y z : Instr} (b : Obs) (h : unionOf e = some (x, y, z)) :
    occOf e b = (occOf x b || occOf y b || occOf z b) := by
  unfold unionOf at h
  split at h <;> cases h <;> rfl

/-! The SIMD classes of instructions and operations (log 70): each event is a class of a larger one, which is the union of the classes. -/

theorem seFpBf16Spec_superset (b : Obs) (h : (occOf .sveFpBf16Spec b || occOf .smeFpBf16Spec b) = true) : occOf .seFpBf16Spec b = true :=
  Bool.or_eq_true_iff.mpr (.inl h)

/-- What is of one of two classes is the union of the two. -/
theorem and_or_eq_union (p x y : Bool) : (p && (x || y)) = (p && (x || y) && x || p && (x || y) && y) := by
  revert p x y
  decide

/-- The same, where the first class is stated without the larger event. -/
theorem and_or_eq_union_of_and (p x y : Bool) : (p && (x || y)) = (p && x || p && (x || y) && y) := by
  revert p x y
  decide

/-- The same, with a class and its rest in an event of its own. -/
theorem and_or_eq_union_of_three (p x y z : Bool) :
    (p && (x || y || z) && (x || y)) = (p && (x || y || z) && (x || y) && x || p && y) := by
  revert p x y z
  decide

theorem simdInstRetired_unions (b : Obs) :
    occAseSveInstRetired b = (occAseInstRetired b || occSveInstRetired b)
      ∧ occSeInstRetired b = (occAseSveInstRetired b || occSmeInstRetired b) :=
  ⟨and_or_eq_union _ _ _, and_or_eq_union _ _ _⟩

theorem simdRetired_unions (b : Obs) :
    occAseSveRetired b = (occAseRetired b || occSveRetired b) ∧ occSeRetired b = (occAseSveRetired b || occSmeRetired b) :=
  ⟨and_or_eq_union _ _ _, and_or_eq_union_of_and _ _ _⟩

theorem simdSpec_unions (b : Obs) :
    occAseSveSpec b = (occAseSpec b || occSveSpec b) ∧ occSeSpec b = (occAseSveSpec b || occSmeSpec b) :=
  ⟨and_or_eq_union _ _ _, and_or_eq_union_of_and _ _ _⟩

/-- SVE_INST_SPEC counts operations that INST_SPEC does not, so the union is with those that it does. -/
theorem occAseSveInstSpec_eq_union (b : Obs) : occAseSveInstSpec b = (occAseInstSpec b || (occInstSpec b && occSveInstSpec b)) :=
  and_or_eq_union_of_three _ _ _ _

theorem occSeInstSpec_eq_union (b : Obs) : occSeInstSpec b = (occAseSveInstSpec b || occSmeInstSpec b) := and_or_eq_union _ _ _

/-! Loads and stores, with the prefetch instructions apart (log 41). -/

theorem occLdstAnyRetired_of_not_prefetch {b : Obs} (h : occPrfRetired b = false) :
    occLdstAnyRetired b = (occLdAnyRetired b || occStAnyRetired b) := by
  unfold occLdAnyRetired occStAnyRetired occLdstAnyRetired
  rw [h]
  exact and_or_eq_union _ _ _

theorem occLdstAnyRetired_of_prefetch {b : Obs} (h : occPrfRetired b = true) :
    occLdstAnyRetired b = (occInstRetired b && (b.choice 1 .ldRetired || b.choice 31 .ldstAnyRetired)) := by
  rw [occLdstAnyRetired, if_pos h]

theorem occLdstSpec_of_not_prefetch {b : Obs} (h : occPrfSpec b = false) : occLdstSpec b = (occLdSpec b || occStSpec b) := by
  unfold occLdSpec occStSpec occLdstSpec
  rw [h]
  exact and_or_eq_union _ _ _

theorem occLdstSpec_of_prefetch {b : Obs} (h : occPrfSpec b = true) :
    occLdstSpec b = (occInstSpec b && (b.choice 75 .ldSpec || b.choice 77 .ldstSpec)) := by
  rw [occLdstSpec, if_pos h]

/-- Settles O32: the tables by comparison of the definitions, the unions by the classes. -/
theorem setEqualities : Obligations.SetEqualities := by
  refine ⟨fun _ _ _ b => occOf_intersection b, fun _ _ _ b => occOf_difference b, fun _ _ _ _ b => occOf_union b, seFpBf16Spec_superset,
    fun b => ?_, fun _ => ⟨occLdstAnyRetired_of_not_prefetch, occLdstAnyRetired_of_prefetch, occLdstSpec_of_not_prefetch,
      occLdstSpec_of_prefetch⟩⟩
  obtain ⟨aseSveInstRetired, seInstRetired⟩ := simdInstRetired_unions b
  obtain ⟨aseSveRetired, seRetired⟩ := simdRetired_unions b
  obtain ⟨aseSveSpec, seSpec⟩ := simdSpec_unions b
  exact ⟨aseSveInstRetired, seInstRetired, aseSveRetired, seRetired, aseSveSpec, seSpec, occAseSveInstSpec_eq_union b,
    occSeInstSpec_eq_union b⟩

/-! Exclusions. -/

/-- What the last condition of a definition leaves out is not of the event. -/
theorem ne_true_of_and_not {r x : Bool} (h : (r && !x) = true) : ¬x = true := by simpa using Bool.and_elim_right h

/-- FP_SCALE_OPS_SPEC leaves out what is fixed, and FP_SCALE2_OPS_SPEC both. -/
theorem fpOps_disjoint (b : Obs) :
    ¬(occOf .fpFixedOpsSpec b = true ∧ occOf .fpScaleOpsSpec b = true)
      ∧ ¬(occOf .fpFixedOpsSpec b = true ∧ occOf .fpScale2OpsSpec b = true)
      ∧ ¬(occOf .fpScaleOpsSpec b = true ∧ occOf .fpScale2OpsSpec b = true) :=
  ⟨fun ⟨hfixed, hscale⟩ => ne_true_of_and_not hscale hfixed,
    fun ⟨hfixed, hscale2⟩ => ne_true_of_and_not (Bool.and_elim_left hscale2) hfixed,
    fun ⟨hscale, hscale2⟩ => ne_true_of_and_not hscale2 hscale⟩

/-- The INT_ events likewise (D17). -/
theorem intOps_disjoint (b : Obs) :
    ¬(occOf .intFixedOpsSpec b = true ∧ occOf .intScaleOpsSpec b = true)
      ∧ ¬(occOf .intFixedOpsSpec b = true ∧ occOf .intScale2OpsSpec b = true)
      ∧ ¬(occOf .intScaleOpsSpec b = true ∧ occOf .intScale2OpsSpec b = true) :=
  ⟨fun ⟨hfixed, hscale⟩ => ne_true_of_and_not hscale hfixed,
    fun ⟨hfixed, hscale2⟩ => ne_true_of_and_not (Bool.and_elim_left hscale2) hfixed,
    fun ⟨hscale, hscale2⟩ => ne_true_of_and_not hscale2 hscale⟩

/-- The definition of an event leaves out each event that its rule excludes, but for those of FP_FIXED_OPS_SPEC and FP_SCALE_OPS_SPEC,
which are left out by the other two. -/
theorem excludes_disjoint {e x : Instr} (b : Obs) (h : x ∈ excludes e) : ¬(occOf e b = true ∧ occOf x b = true) := by
  obtain ⟨hfixedScale, hfixedScale2, hscaleScale2⟩ := fpOps_disjoint b
  unfold excludes at h
  split at h <;> simp only [List.mem_cons, List.not_mem_nil, or_false] at h
  case h_1 =>
    rintro ⟨he, hx⟩
    simp only [occOf_excUndef, occExcUndef, Bool.and_eq_true, Bool.not_eq_true'] at he
    obtain rfl | rfl | rfl | rfl | rfl | rfl | rfl := h <;> simp_all
  case h_2 =>
    rintro ⟨he, hx⟩
    simp only [occOf_excTrapOther, occExcTrapOther, Bool.and_eq_true, Bool.not_eq_true'] at he
    obtain rfl | rfl | rfl | rfl | rfl | rfl := h <;> simp_all
  case h_3 =>
    subst h
    exact fun ⟨he, hx⟩ => ne_true_of_and_not he hx
  all_goals obtain rfl | rfl := h
  case h_4.inl => exact fun h => hfixedScale h.symm
  case h_4.inr => exact hscaleScale2
  case h_5.inl => exact hfixedScale
  case h_5.inr => exact hfixedScale2
  case h_14.inl => exact fun h => hfixedScale2 h.symm
  case h_14.inr => exact fun h => hscaleScale2 h.symm
  case h_12.inl => exact fun ⟨he, hx⟩ => ne_true_of_and_not (Bool.and_elim_left (Bool.and_elim_left he)) hx
  case h_12.inr => exact fun ⟨he, hx⟩ => ne_true_of_and_not (Bool.and_elim_left he) hx
  case h_19.inl => exact fun ⟨he, hx⟩ => ne_true_of_and_not (Bool.and_elim_left (Bool.and_elim_left (Bool.and_elim_left he))) hx
  case h_19.inr => exact fun ⟨he, hx⟩ => ne_true_of_and_not (Bool.and_elim_left (Bool.and_elim_left he)) hx
  all_goals first
    | exact fun ⟨he, hx⟩ => ne_true_of_and_not (Bool.and_elim_left he) hx
    | exact fun ⟨he, hx⟩ => ne_true_of_and_not he hx

/-- Settles O33: the table by the definitions (`excludes_disjoint`), the INT_ events by D17's order. -/
theorem exclusions : Obligations.Exclusions := ⟨fun _ _ b => excludes_disjoint b, intOps_disjoint⟩

/-! Conditional inclusions. -/

theorem of_conditional {c x y : Bool} (h : (if c then x else y) = true) : (c = true → x = true) ∧ (c = false → y = true) := by
  cases c
  · exact ⟨nofun, fun _ => h⟩
  · exact ⟨fun _ => h, nofun⟩

/-- Settles O34: of each event the condition on the larger event is one of its conditions. -/
theorem conditionalInclusions : Obligations.ConditionalInclusions := by
  intro e x y b htable h
  unfold conditionalParents at htable
  split at htable <;> cases htable
  case h_1 => exact of_conditional (Bool.and_elim_right (Bool.and_elim_left h))
  case h_13 | h_14 => exact of_conditional (Bool.and_elim_right (Bool.and_elim_left h))
  all_goals exact of_conditional (Bool.and_elim_right h)

end Sys2Proof.Machine

/-!
PROOFS. No event is empty (40_common_event_rules.md R120): a list of observations in which each of the 1198 events occurs.
-/

namespace Sys2Proof.Machine

/-- A name of each list of names that the rules give, but for those that INT_SPEC does not count. -/
def listedForms : List Form :=
  [.sve2SmulhUnpredicated, .sve2Whilege, .sveFtmad, .svePunpkhi, .aseFabd, .aseFaddp, .aseFdiv, .aseFmul, .aseFsqrt, .aseAddp, .aseLd1,
    .scalarPrfm, .sme2Ld1bScalarPlusScalarTileSlice, .sme2Ldr, .sme2LdrArrayVector, .sme2LdrTable, .sve2CntpPredicateAsCounter, .sve2Faddp,
    .sveBrkas, .sveFaccc, .sveLdr, .sveLdrPredicate, .sveLdrVector, .sveSdiv, .a64BcCond, .a64Ret, .aseBfdot, .aseBfmlalb, .aseBfmmla,
    .aseMla, .aseSdot, .aseSmmlaVector, .aseSt1, .sme2Bfadd, .sme2Bfdot, .sme2Bfmla, .sme2Bfmopa, .sme2Bmopa, .sme2Luti2, .sme2Sdot,
    .sme2Smlal, .sme2St1bScalarPlusScalarTileSlice, .sme2Str, .sme2StrArrayVector, .sme2StrTable, .sve2Addp, .sve2Bfadd, .sve2Bfmul,
    .sve2Cdot, .sve2Expand, .sve2Fdot, .sve2Fmmla, .sve2Luti28BitAnd16Bit, .sve2Revd, .sveAndPredicates, .sveFadda, .sveFdiv, .sveFsqrt,
    .sveMovprfx, .svePrfb, .sveSmmla, .sveStr, .sveStrPredicate, .sveStrVector]

/-- An occurrence supplied as every event but those given, with the PE active. -/
def allBut (l : List Instr) : Occurrence := { supplied := .except l, forms := listedForms, active := [0] }

/-- The same, in a cycle in which the backend accepts nothing. -/
def blockedBut (l : List Instr) : Occurrence := { allBut l with blocked := [0], slots := [{ available := [0] }] }

/-- As a counter of PE 0 sees it. -/
def seen (impl : Impl) (o : Occurrence) : Obs := { impl := impl, pe := 0, mt := false, serial := 0, occ := o }

/-- Data on each route, from each component: most events, with the _N1 to _N4 events and their three kinds. -/
def routes : List Occurrence :=
  [1, 2, 3, 4].flatMap fun route => [1, 2, 3].map fun component => { allBut [] with route := route, component := component }

/-- Register writes, allocations without a refill, accesses that are not shared or not Normal, and walks. -/
def accesses : List Occurrence :=
  [{ allBut [] with regWrite := some (.contextidrEl1, .msr) }, { allBut [] with regWrite := some (.ttbr0El1, .msr) },
    allBut [.l1dCacheRefill, .l2dCacheRefill, .l3dCacheRefill, .busAccessShared, .busAccessNormal],
    { allBut [] with facts := [.stage1Block, .locationUpdated] }, { allBut [] with facts := [.stage1Page] }]

/-- Exceptions by where they are taken; branches are no exceptions. -/
def exceptionsAndBranches : List Occurrence :=
  [{ allBut [] with facts := [.takenLocally] },
    { allBut [.excSvc, .excSmc, .excHvc, .excPabort, .excDabort, .excIrq, .excFiq] with facts := [.takenLocally] },
    allBut [.excSmc, .excHvc, .excTrapPabort, .excTrapDabort, .excTrapIrq, .excTrapFiq],
    allBut [.excTaken], allBut [.excTaken, .brMisPredRetired, .blTakenRetired], allBut [.excTaken, .brImmedRetired, .brMisPredRetired],
    allBut [.excTaken, .brImmedRetired], { allBut [.excTaken, .brMisPredRetired] with forms := [] },
    { allBut [.excTaken, .blTakenRetired] with forms := [] }]

/-- Loads and stores, the SIMD classes, predicates, and the operations of variable number. -/
def operations : List Occurrence :=
  [allBut [.prfRetired], allBut [.cryptoSpec, .cryptoRetired], { allBut [.fpSpec] with facts := [.operatesOnZaOrZt] },
    allBut [.ldSpec, .stSpec, .ldRetired, .stRetired, .vfpSpec, .vfpRetired, .cryptoSpec, .cryptoRetired, .aseSpec, .sveSpec, .aseRetired,
      .sveRetired],
    { allBut [] with forms := [.aseFrecpe, .sveFrecpe] }, allBut [.fpFixedOpsSpec], allBut [.fpFixedOpsSpec, .fpScaleOpsSpec],
    { allBut [] with facts := [.governed] }, { allBut [] with facts := [.governed, .allActive, .setsNToZero] },
    { allBut [] with facts := [.governed, .allInactive, .scalableVectorLoadStore, .sampleCollides, .pstateZa] }]

/-- Stalls by their cause, with the misses below left out. -/
def stalls : List Occurrence :=
  [allBut [.stallFrontendMem, .stallFrontendL2i], allBut [.stallFrontendMem], blockedBut [], blockedBut [.stallBackendMem]]

/-- With the parameters after reset; and with small pages, far atomics and rename stalls counted at the backend. -/
def sightings : List Obs :=
  (routes ++ accesses ++ exceptionsAndBranches ++ operations ++ stalls).map (seen resetImpl)
    ++ [seen { resetImpl with sets := [((138, .dtlbWalkLarge), .only []), ((138, .itlbWalkLarge), .only []),
        ((146, .casNearSpec), .only [])] } (allBut []),
      seen { resetImpl with renameAtFrontend := false } (blockedBut [.stallBackendMem, .stallBackendL2d])]

/-- Evaluated for each of the 1198 events. -/
theorem sightings_occOf (e : Instr) : sightings.any (occOf e) = true :=
  forall_event (P := fun e => sightings.any (occOf e) = true) (by decide +kernel) e

/-- Settles O35: each event occurs in one of the `sightings`. -/
theorem everyEventCanOccur : Obligations.EveryEventCanOccur := by
  intro e
  obtain ⟨b, _, hocc⟩ := List.any_eq_true.mp (sightings_occOf e)
  exact ⟨b, hocc⟩

end Sys2Proof.Machine

/-!
PROOFS. What an entry says that its counter does not count (41_architectural_events_p1.md R202, R220, R221; 42_uarch_0001_003F_p1.md R280,
R282, R285, R287, R302; 44_uarch_4000_403F.md R409; 46_uarch_8110_81BF_p1.md R676; 47_uarch_81C0_82A3_p3.md R1000).
-/

namespace Sys2Proof.Machine

/-- "The counter does not count ...": whatever else holds of an occurrence with classification `f`, it is none of `e`. -/
def LeavesOut (e : Instr) (f : Fact) : Prop := ∀ b : Obs, b.is f = true → occOf e b = false

theorem leavesOut_of_never {e : Instr} {f : Fact} (h : ∀ b, occOf e b = true → b.never f = true) : LeavesOut e f := by
  intro b hf
  refine Bool.eq_false_iff.mpr fun hocc => ?_
  have hnot : b.is f = false := Obs.never_iff.mp (h b hocc)
  exact Bool.false_ne_true (hnot.symm.trans hf)

/-- Most definitions state the exclusion as their last condition. -/
theorem leavesOut_of_last {e : Instr} {f : Fact} {c : Obs → Bool} (h : occOf e = fun b => c b && b.never f) : LeavesOut e f :=
  leavesOut_of_never fun _ hocc => Bool.and_elim_right (h ▸ hocc :)

/-- Those of MEMORY_ERROR and PMU_SNAPSHOT have one more after it: a local memory (U49), and the draw for Debug state (U136). -/
theorem leavesOut_of_last_but_one {e : Instr} {f : Fact} {c d : Obs → Bool} (h : occOf e = fun b => c b && b.never f && d b) :
    LeavesOut e f :=
  leavesOut_of_never fun _ hocc => Bool.and_elim_right (Bool.and_elim_left (h ▸ hocc :))

theorem stRetired_leavesOut : LeavesOut .stRetired .storeExclusiveFailed := leavesOut_of_last occOf_stRetired

theorem excSmc_leavesOut : LeavesOut .excSmc .otherException := leavesOut_of_last occOf_excSmc

theorem excHvc_leavesOut : LeavesOut .excHvc .hvcUndefined := leavesOut_of_last occOf_excHvc

theorem samplePop_leavesOut : LeavesOut .samplePop .profilingDisabled := leavesOut_of_last occOf_samplePop

theorem memoryError_leavesOut : LeavesOut .memoryError .architecturalError := leavesOut_of_last_but_one occOf_memoryError

theorem pmuSnapshot_leavesOut : LeavesOut .pmuSnapshot .captureFailed := leavesOut_of_last_but_one occOf_pmuSnapshot

/-- The four kinds of access that R280 lists are four of the conditions of MEM_ACCESS. -/
theorem memAccess_leavesOut :
    ∀ f ∈ [Fact.instructionAccess, .translationTableWalk, .writeBackAccess, .refillAccess], LeavesOut .memAccess f := by
  intro f hf
  refine leavesOut_of_never fun b h => ?_
  simp only [occOf_memAccess, occMemAccess, Bool.and_eq_true] at h
  obtain ⟨⟨⟨⟨⟨-, hinstruction⟩, hwalk⟩, hwriteBack⟩, hrefill⟩, -⟩ := h
  simp only [List.mem_cons, List.not_mem_nil, or_false] at hf
  obtain rfl | rfl | rfl | rfl := hf
  · exact hinstruction
  · exact hwalk
  · exact hwriteBack
  · exact hrefill

/-- What a _CACHE_WB event counts is neither an invalidation alone nor a write through the cache; the definitions for the caches below
Level 1 have one more condition. -/
theorem never_of_occOf_cacheWb {e : Instr} (he : e ∈ [Instr.l1dCacheWb, .l2dCacheWb, .l3dCacheWb, .llCacheWb]) {b : Obs}
    (h : occOf e b = true) : b.never .invalidationOnly = true ∧ b.never .writeThrough = true := by
  simp only [List.mem_cons, List.not_mem_nil, or_false] at he
  obtain rfl | rfl | rfl | rfl := he <;>
    simp only [occOf_l1dCacheWb, occOf_l2dCacheWb, occOf_l3dCacheWb, occOf_llCacheWb, occL1dCacheWb, occL2dCacheWb, occL3dCacheWb,
      occLlCacheWb, Bool.and_eq_true] at h
  case inl =>
    obtain ⟨⟨-, hinvalidation⟩, hthrough⟩ := h
    exact ⟨hinvalidation, hthrough⟩
  all_goals
    obtain ⟨⟨⟨-, hinvalidation⟩, hthrough⟩, -⟩ := h
    exact ⟨hinvalidation, hthrough⟩

/-- That one more condition is on the transfers that refill another cache. -/
theorem lowerCacheWb_leavesOut : ∀ e ∈ [Instr.l2dCacheWb, .l3dCacheWb, .llCacheWb], LeavesOut e .refillOfOtherCache := by
  simp only [List.forall_mem_cons, List.not_mem_nil, false_implies, implies_true, and_true]
  exact ⟨leavesOut_of_last occOf_l2dCacheWb, leavesOut_of_last occOf_l3dCacheWb, leavesOut_of_last occOf_llCacheWb⟩

/-- Settles O40: each exclusion is one of the conditions in the definition of its event. -/
theorem neverCounted : Obligations.NeverCounted := fun b =>
  ⟨stRetired_leavesOut b, excSmc_leavesOut b, excHvc_leavesOut b,
    fun _ he => ⟨leavesOut_of_never (fun _ h => (never_of_occOf_cacheWb he h).left) b,
      leavesOut_of_never (fun _ h => (never_of_occOf_cacheWb he h).right) b⟩,
    fun e he => lowerCacheWb_leavesOut e he b, fun f hf => memAccess_leavesOut f hf b,
    memoryError_leavesOut b, samplePop_leavesOut b, pmuSnapshot_leavesOut b⟩

end Sys2Proof.Machine

/-!
PROOFS. The cycles of STALL (42_uarch_0001_003F_p2.md R318; 42_uarch_0001_003F_p1.md R293, R294; 40_common_event_rules.md R139).
-/

namespace Sys2Proof.Machine

/-- Nothing of the processor, where it is multithreaded. -/
theorem Obs.ofProcessor_eq_false_iff {b : Obs} {pe? : Option Nat} (hmulti : b.impl.multithreaded = true) :
    b.ofProcessor pe? = false ↔ ∀ q, pe? = some q → q ≠ b.pe ∧ ¬SameAffinity b.impl b.pe q := by
  refine ⟨fun hfalse q hq => ?_, Obs.ofProcessor_eq_false⟩
  rw [← Bool.not_eq_true, Obs.ofProcessor_iff] at hfalse
  exact ⟨fun hself => hfalse ⟨q, hq, .inl hself⟩, fun haff => hfalse ⟨q, hq, .inr ⟨hmulti, haff⟩⟩⟩

theorem Obs.sentHere_eq_false_iff {b : Obs} : b.sentHere = false ↔ ∀ x ∈ b.slotList, x.occupant ≠ some b.pe := by
  simp [Obs.sentHere]

/-- What is sent of the processor is what occupies a Slot, by the attribution of the Slot events (R129 (d)). -/
theorem Obs.sentAny_eq_any_ofProcessor (b : Obs) : b.sentAny = b.slotList.any (fun x => b.ofProcessor x.occupant) := (rfl)

theorem Obs.sentAny_eq_false_iff {b : Obs} (hmulti : b.impl.multithreaded = true) :
    b.sentAny = false
      ↔ ∀ x ∈ b.slotList, ∀ q, x.occupant = some q → q ≠ b.pe ∧ ¬SameAffinity b.impl b.pe q := by
  simp only [Obs.sentAny_eq_any_ofProcessor, List.any_eq_false, Bool.not_eq_true, Obs.ofProcessor_eq_false_iff hmulti]

/-- With MT 1 on a multithreaded implementation nothing of the processor is sent, and else nothing of the PE (R318). -/
theorem occStall_iff {b : Obs} :
    occStall b = true
      ↔ occCpuCycles b = true
        ∧ (b.impl.multithreaded = true ∧ b.mt = true → b.sentAny = false)
        ∧ (¬(b.impl.multithreaded = true ∧ b.mt = true) → b.sentHere = false) := by
  rw [occStall, Bool.and_eq_true, ← Bool.and_eq_true b.impl.multithreaded]
  refine and_congr_right fun _ => ?_
  split
  case isTrue hmt => simp [hmt]
  case isFalse hmt => simp [hmt]

theorem occStall_of_stallFrontend {b : Obs} (h : occStallFrontend b = true) : occStall b = true :=
  Bool.and_elim_right (Bool.and_elim_left h)

theorem occStall_of_stallBackend {b : Obs} (h : occStallBackend b = true) : occStall b = true :=
  Bool.and_elim_right (Bool.and_elim_left (Bool.and_elim_left h))

/-- Settles O45: STALL by what is sent (`occStall_iff`), read from the Slots, and as one of the conditions of its two parts (R139). -/
theorem stallCycles : Obligations.StallCycles := by
  refine fun b => ⟨?_, occStall_of_stallFrontend, occStall_of_stallBackend⟩
  refine occStall_iff.trans (and_congr_right fun _ => and_congr ?mt ?single)
  case mt => exact imp_congr_right fun ⟨hmulti, _⟩ => Obs.sentAny_eq_false_iff hmulti
  case single => exact imp_congr_right fun _ => Obs.sentHere_eq_false_iff

end Sys2Proof.Machine

/-!
PROOFS. The increments of the loads and stores (45_uarch_8004_80FF_p4.md R614, R616, R618, R626, R628, R630; 40_common_event_rules.md
R123).
-/

namespace Sys2Proof.Machine

section LoadStore
variable {b : Obs}

/-! The six events in the table of increments. -/

@[simp] theorem incrementOf_ldstFixedOpsSpec : incrementOf .ldstFixedOpsSpec b = incFixedOps b := (rfl)

@[simp] theorem incrementOf_ldFixedOpsSpec : incrementOf .ldFixedOpsSpec b = incFixedOpsHalf b := (rfl)

@[simp] theorem incrementOf_stFixedOpsSpec : incrementOf .stFixedOpsSpec b = incFixedOpsHalf b := (rfl)

@[simp] theorem incrementOf_ldstFixedBytesSpec : incrementOf .ldstFixedBytesSpec b = incFixedBytes b := (rfl)

@[simp] theorem incrementOf_ldFixedBytesSpec : incrementOf .ldFixedBytesSpec b = incFixedBytesHalf b := (rfl)

@[simp] theorem incrementOf_stFixedBytesSpec : incrementOf .stFixedBytesSpec b = incFixedBytesHalf b := (rfl)

/-! What one direction counts (conflict C23). -/

theorem readsAndWrites_iff :
    readsAndWrites b = true ↔ b.occ.ldst.kind ∈ [LdStKind.atomicLoad, .compareAndSwap, .swap, .compareAndSwapPair] := by
  cases hkind : b.occ.ldst.kind <;> simp [readsAndWrites, hkind]

theorem incFixedOpsHalf_eq_half {v : Nat} (hboth : readsAndWrites b = true) (hops : incFixedOps b = 2 * v) :
    incFixedOpsHalf b = v := by
  rw [incFixedOpsHalf, if_pos hboth, hops, Nat.mul_div_cancel_left v two_pos]

theorem incFixedBytesHalf_eq_half {v : Nat} (hboth : readsAndWrites b = true) (hbytes : incFixedBytes b = 2 * v) :
    incFixedBytesHalf b = v := by
  rw [incFixedBytesHalf, if_pos hboth, hbytes, Nat.mul_div_cancel_left v two_pos]

theorem incFixedOpsHalf_eq_whole (hone : ¬readsAndWrites b = true) : incFixedOpsHalf b = incFixedOps b := if_neg hone

theorem incFixedBytesHalf_eq_whole (hone : ¬readsAndWrites b = true) : incFixedBytesHalf b = incFixedBytes b := if_neg hone

theorem increments_of_readsAndWrites {ops bytes : Nat} (hboth : readsAndWrites b = true) (hops : incFixedOps b = 2 * ops)
    (hbytes : incFixedBytes b = 2 * bytes) :
    incrementOf .ldstFixedOpsSpec b = 2 * ops ∧ incrementOf .ldstFixedBytesSpec b = 2 * bytes
      ∧ incrementOf .ldFixedOpsSpec b = ops ∧ incrementOf .stFixedOpsSpec b = ops
      ∧ incrementOf .ldFixedBytesSpec b = bytes ∧ incrementOf .stFixedBytesSpec b = bytes := by
  simp [hops, hbytes, incFixedOpsHalf_eq_half hboth hops, incFixedBytesHalf_eq_half hboth hbytes]

/-! The quotients in the lists of R614 and R626. -/

theorem elementBytes_eq {bytes : Nat} (hmsize : b.occ.ldst.msize = 8 * bytes) : elementBytes b = bytes :=
  exactQuotient_eq (by decide) (by rw [hmsize, Nat.mul_comm])

theorem incFixedOps_ld1rq {v : Nat} (hkind : b.occ.ldst.kind = .ld1rq) (hcsize : 0 < b.occ.ldst.csize)
    (hv : v * b.occ.ldst.csize = 128) : incFixedOps b = v := by
  simpa only [incFixedOps, hkind] using exactQuotient_eq hcsize hv

theorem incFixedOps_ld1ro {v : Nat} (hkind : b.occ.ldst.kind = .ld1ro) (hcsize : 0 < b.occ.ldst.csize)
    (hv : v * b.occ.ldst.csize = 256) : incFixedOps b = v := by
  simpa only [incFixedOps, hkind] using exactQuotient_eq hcsize hv

end LoadStore

/-- Settles O48: each kind's amounts are its line in the definitions, with MSIZE ÷ 8 for a register (`elementBytes_eq`); of these one
direction counts half or all (`increments_of_readsAndWrites`, `incFixedOpsHalf_eq_whole`). -/
theorem loadStoreIncrements : Obligations.LoadStoreIncrements := by
  intro b bytes hmsize
  have helement : elementBytes b = bytes := elementBytes_eq hmsize
  refine ⟨?single, ?pair, ?multiple, ?atomicStore, ?both, ?bothPair, ?ld1r, ?ld1rq, ?ld1ro, ?aseStructure, ?dcZva, ?table, ?block64,
    ?other, ?oneDirection⟩
  case both =>
    rintro (hkind | hkind | hkind) <;>
      exact increments_of_readsAndWrites (ops := 1) (bytes := bytes) (readsAndWrites_iff.mpr (by simp [hkind]))
        (by simp [incFixedOps, hkind]) (by simp [incFixedBytes, hkind, helement])
  case bothPair =>
    intro hkind
    have hops : incFixedOps b = 2 * 2 := by simp [incFixedOps, hkind]
    have hbytes : incFixedBytes b = 2 * (2 * bytes) := by simp only [incFixedBytes, hkind, helement]; omega
    rw [show 4 * bytes = 2 * (2 * bytes) by omega]
    exact increments_of_readsAndWrites (readsAndWrites_iff.mpr (by simp [hkind])) hops hbytes
  case ld1rq => exact fun hkind => ⟨by simp [incFixedBytes, hkind], fun _ => incFixedOps_ld1rq hkind⟩
  case ld1ro => exact fun hkind => ⟨by simp [incFixedBytes, hkind], fun _ => incFixedOps_ld1ro hkind⟩
  case oneDirection =>
    intro hkind
    have hone : ¬readsAndWrites b = true := readsAndWrites_iff.not.mpr hkind
    simp [incFixedOpsHalf_eq_whole hone, incFixedBytesHalf_eq_whole hone]
  case single | pair | multiple | atomicStore | ld1r | aseStructure | dcZva | table | block64 | other =>
    intro hkind
    simp [incFixedOps, incFixedBytes, hkind, helement]

end Sys2Proof.Machine

/-!
PROOFS. The arithmetic of an event counter and its two overflows (50_host_instruction_classes.md R1400).
-/

namespace Sys2Proof.Machine

section CounterArithmetic

variable {impl : Impl} {old : CountWord} {k : Nat}

theorem counterWidth_eq_or (impl : Impl) : impl.counterWidth = 64 ∨ impl.counterWidth = 32 := ite_eq_or_eq _ _ _

theorem overflow32_iff : overflow32 old k = true ↔ 2 ^ 32 ≤ old.toNat % 2 ^ 32 + k := decide_eq_true_iff

theorem overflow64_iff : overflow64 impl old k = true ↔ impl.counterWidth = 64 ∧ 2 ^ 64 ≤ old.toNat + k := by
  simp only [overflow64, Bool.and_eq_true, decide_eq_true_eq]

theorem overflow32_zero (old : CountWord) : overflow32 old 0 = false :=
  decide_eq_false (Nat.not_le.mpr (Nat.mod_lt _ (by decide)))

theorem overflow64_zero (impl : Impl) (old : CountWord) : overflow64 impl old 0 = false :=
  Bool.eq_false_iff.mpr fun h => Nat.not_le.mpr old.isLt (overflow64_iff.mp h).2

theorem addCount_zero (hfits : old.toNat < 2 ^ impl.counterWidth) : addCount impl old 0 = old :=
  BitVec.eq_of_toNat_eq (by rw [addCount_toNat, Nat.add_zero, Nat.mod_eq_of_lt hfits])

theorem addCount_last (hlast : old.toNat + 1 = 2 ^ impl.counterWidth) : addCount impl old 1 = 0 :=
  BitVec.eq_of_toNat_eq (by rw [addCount_toNat, hlast, Nat.mod_self]; rfl)

/-- Bits [31:0] of the last count are all ones, whichever of the two widths it has. -/
theorem overflow32_last (hlast : old.toNat + 1 = 2 ^ impl.counterWidth) : overflow32 old 1 = true := by
  rw [overflow32_iff]
  obtain hwidth | hwidth := counterWidth_eq_or impl <;> rw [hwidth] at hlast <;> omega

/-- Where less than 2^32 carries out of bits [63:0], bits [63:32] are all ones, so the carry came out of bits [31:0]. -/
theorem overflow32_of_overflow64 (h : overflow64 impl old k = true) (hk : k < 2 ^ 32) : overflow32 old k = true := by
  have hcarry : 2 ^ 64 ≤ old.toNat + k := (overflow64_iff.mp h).2
  have hold : old.toNat < 2 ^ 64 := old.isLt
  rw [overflow32_iff]
  omega

end CounterArithmetic

/-- Settles O16: the value is `addCount_toNat`, the overflows are comparisons of the sum, and the corner cases follow from these. -/
theorem counterArithmetic : Obligations.CounterArithmetic := by
  intro impl old k
  have h64 : overflow64 impl old k = true ↔ impl.counterWidth = 64 ∧ old.toNat % 2 ^ 64 + k ≥ 2 ^ 64 := by
    rw [Nat.mod_eq_of_lt old.isLt]
    exact overflow64_iff
  exact ⟨rfl, addCount_toNat impl old k, overflow32_iff, h64, overflow32_zero old, overflow64_zero impl old, addCount_zero,
    fun hlast => ⟨addCount_last hlast, overflow32_last hlast⟩, overflow32_of_overflow64⟩

end Sys2Proof.Machine

/-!
PROOFS. The classification of branches (50_host_instruction_classes.md R1405), and what is no Software change of the PC (R1404;
60_exceptions.md R1504).
-/

namespace Sys2Proof.Machine

/-- A part of an event and the rest of it are a partition of the event. -/
theorem partition_of_difference {rest whole part : Instr} (b : Obs) (hrest : differenceOf rest = some (whole, part))
    (hpart : whole ∈ parentsOf part) :
    occOf whole b = (occOf part b ^^ occOf rest b) ∧ ¬(occOf part b = true ∧ occOf rest b = true) := by
  have hwhole : occOf part b = true → occOf whole b = true := inclusions part whole b hpart
  rw [occOf_difference b hrest]
  cases hpartOcc : occOf part b
  · simp
  · simp [hwhole hpartOcc]

/-- Settles O36: each row is a line of the tables of intersections, differences and parents (O31, O32), but for the one of three events;
each partition is by a difference whose second event lies in its first. -/
theorem branchLaws : Obligations.BranchLaws := by
  intro b
  have both {e x y : Instr} : intersectionOf e = some (x, y) → occOf e b = (occOf x b && occOf y b) := occOf_intersection b
  have without {e x y : Instr} : differenceOf e = some (x, y) → occOf e b = (occOf x b && !occOf y b) := occOf_difference b
  have within {e x : Instr} (hx : x ∈ parentsOf e) : occOf e b = true → occOf x b = true := inclusions e x b hx
  obtain ⟨byPrediction, notBothPredictions⟩ := partition_of_difference (rest := .brPredRetired) b rfl (.head _)
  obtain ⟨byCall, notBothCalls⟩ := partition_of_difference (rest := .brnlTakenRetired) b rfl (.head _)
  obtain ⟨byReturn, notBothReturns⟩ := partition_of_difference (rest := .brIndnrRetired) b rfl (.head _)
  obtain ⟨byCondition, notBothConditions⟩ := partition_of_difference (rest := .brUncondRetired) b rfl (.head _)
  exact ⟨both rfl, both rfl, both rfl, both rfl, rfl, both rfl, within (.head _), both rfl, without rfl, without rfl,
    within (.head _), without rfl, both rfl, both rfl, both rfl, both rfl,
    without rfl, within (.head _), both rfl, within (.head _),
    within (.head _), without rfl, both rfl, both rfl, both rfl, both rfl, within (.head _), within (.head _), within (.head _),
    within (.head _), both rfl, both rfl, both rfl, both rfl, both rfl, both rfl,
    byPrediction.trans (Bool.xor_comm _ _), byCall, byReturn, byCondition, fun h => notBothPredictions h.symm, notBothCalls,
    notBothReturns, notBothConditions⟩

section PcWrite

variable {b : Obs}

theorem Obs.pcWriteIncludes_of_pmuv3p9 (hp9 : b.impl.has .pmuv3p9 = true) (t : Nat) : b.pcWriteIncludes t = false := by
  simp [Obs.pcWriteIncludes, Obs.has, hp9]

theorem Obs.gated_of_not {f : Fact} (hf : b.is f = false) (c : Bool) : b.gated f c = true :=
  Obs.gated_iff.mpr fun h => absurd h (by simp [hf])

theorem Obs.gated_false_iff {f : Fact} : b.gated f false = true ↔ b.is f = false := by simp [Obs.gated_iff]

/-- Where none of the four types is included, the instruction is of none of them. -/
theorem Obs.pcGroup_iff_of_none {included : Nat → Bool} (hnone : ∀ t, included t = false) :
    b.pcGroup included = true ↔ b.is .breakpointInstruction = false ∧ b.is .undefinedInstruction = false
      ∧ b.is .exceptionGenerating = false ∧ b.is .contextSynchronization = false := by
  simp only [Obs.pcGroup, hnone, Bool.and_eq_true, Obs.gated_false_iff, and_assoc]

theorem Obs.exceptionIdentified_eq_false_iff :
    b.exceptionIdentified = false ↔ occExcTaken b = true ∧ b.is .breakpointInstruction = false ∧ b.is .undefinedInstruction = false
      ∧ b.is .exceptionGenerating = false := by
  simp only [Obs.exceptionIdentified, Bool.or_eq_false_iff, Bool.not_eq_false', and_assoc]

/-- PC_WRITE_RETIRED, BR_SKIP_RETIRED and the Software changes of the PC of the two _SPEC events share a condition on exceptions. -/
theorem not_counted_of_not_exceptionIdentified (h : b.exceptionIdentified = false) :
    occPcWriteRetired b = false ∧ occBrSkipRetired b = false ∧ b.pcChangeSpec = false := by
  simp [occPcWriteRetired, occBrSkipRetired, Obs.pcChangeSpec, h]

theorem pcChangeSpec_of_occPcWriteSpec (h : occPcWriteSpec b = true) : b.pcChangeSpec = true :=
  Bool.and_elim_right (Bool.and_elim_left h)

theorem pcChangeSpec_of_occBrIndirectSpec (h : occBrIndirectSpec b = true) : b.pcChangeSpec = true :=
  Bool.and_elim_right (Bool.and_elim_left (Bool.and_elim_left h))

theorem occPcWriteSpec_of_pcChangeSpec (hinst : occInstSpec b = true) (hpc : b.pcChangeSpec = true)
    (htaken : b.is .branchNotTaken = false) : occPcWriteSpec b = true := by
  simp [occPcWriteSpec, hinst, hpc, Obs.gated_of_not htaken]

end PcWrite

/-- Settles O38: the three clauses turn on the four types (`Obs.pcGroup_iff_of_none`), on the identified exceptions
(`Obs.exceptionIdentified_eq_false_iff`), and on the change of the PC that the two _SPEC events share. -/
theorem pcWriteWithPmuv3p9 : Obligations.PcWriteWithPmuv3p9 := by
  refine ⟨fun b hp9 h => ?_, fun b htaken hbreakpoint hundefined hgenerating => ?_, fun b h hinst htaken => ?_⟩
  · exact (Obs.pcGroup_iff_of_none (Obs.pcWriteIncludes_of_pmuv3p9 hp9)).mp (Bool.and_elim_right h)
  · obtain ⟨hwrite, hskip, hspec⟩ := not_counted_of_not_exceptionIdentified
      (Obs.exceptionIdentified_eq_false_iff.mpr ⟨htaken, hbreakpoint, hundefined, hgenerating⟩)
    have hnone : ¬b.pcChangeSpec = true := Bool.eq_false_iff.mp hspec
    exact ⟨hwrite, hskip, Bool.eq_false_iff.mpr (mt pcChangeSpec_of_occPcWriteSpec hnone),
      Bool.eq_false_iff.mpr (mt pcChangeSpec_of_occBrIndirectSpec hnone)⟩
  · exact occPcWriteSpec_of_pcChangeSpec hinst (pcChangeSpec_of_occBrIndirectSpec h) htaken

end Sys2Proof.Machine

/-!
PROOFS. Exceptions (60_exceptions.md): no event raises one (R1500), the laws of the events that count those of the PE (R1502), and the
order of two counts (R1503).
-/

namespace Sys2Proof.Machine

/-- Settles O10: each of the four things an event can do (`exec_cases`) answers a next state. -/
theorem noEventStops : Obligations.NoEventStops := by
  intro i s
  obtain hdrop | ⟨_, _, _, _, _, _, _, _, _, _, _, hcount⟩ | ⟨_, _, _, _, _, _, hdeliver⟩ | ⟨_, _, _, _, _, _, _, _, _, hfree⟩ :=
    exec_cases i s
  · exact ⟨_, hdrop⟩
  · exact ⟨_, hcount⟩
  · exact ⟨_, hdeliver⟩
  · exact ⟨_, hfree⟩

/-- Settles O17: either way the two increments are added up (`addCount_addCount`). -/
theorem countsCommute : Obligations.CountsCommute := by
  intro impl old j k
  rw [addCount_addCount, addCount_addCount, Nat.add_comm]

section ExceptionLaws

variable {b : Obs}

/-- EXC_UNDEF is what is Taken locally and not counted as any of the events that its entry lists (R1502 (b)). -/
theorem occOf_excUndef_eq_rest (b : Obs) :
    occOf .excUndef b = (occOf .excTaken b && b.is .takenLocally && !(excludes .excUndef).any (occOf · b)) := by
  simp [occExcUndef, excludes, Bool.and_assoc]

/-- EXC_TRAP_OTHER is what is not Taken locally and not counted as any of the events that its entry lists (R1502 (c)). -/
theorem occOf_excTrapOther_eq_rest (b : Obs) :
    occOf .excTrapOther b = (occOf .excTaken b && !b.is .takenLocally && !(excludes .excTrapOther).any (occOf · b)) := by
  simp [occExcTrapOther, excludes, Bool.and_assoc]

/-- What meets the condition of a rest is counted by the rest or by one of the events that it leaves out. -/
theorem exists_occOf_of_rest {rest : Instr} {c : Bool} (hrest : occOf rest b = (c && !(excludes rest).any (occOf · b)))
    (hc : c = true) : ∃ e ∈ rest :: excludes rest, occOf e b = true := by
  cases hany : (excludes rest).any (occOf · b)
  case false => exact ⟨rest, .head _, by rw [hrest, hc, hany]; rfl⟩
  case true =>
    obtain ⟨e, he, hocc⟩ := List.any_eq_true.mp hany
    exact ⟨e, .tail _ he, hocc⟩

/-- The thirteen events of R1502 (a). -/
def exceptionEvents : List Instr :=
  [.excUndef, .excSvc, .excPabort, .excDabort, .excIrq, .excFiq, .excSmc, .excHvc, .excTrapPabort, .excTrapDabort, .excTrapOther,
    .excTrapIrq, .excTrapFiq]

theorem excTaken_mem_parentsOf : ∀ e ∈ exceptionEvents, Instr.excTaken ∈ parentsOf e := by decide

/-- Every exception is counted by one of the thirteen, by whether it is Taken locally (R1502 (d)). -/
theorem exists_exceptionEvent (htaken : occOf .excTaken b = true) : ∃ e ∈ exceptionEvents, occOf e b = true := by
  cases hlocal : b.is .takenLocally
  case true =>
    obtain ⟨e, he, hocc⟩ := exists_occOf_of_rest (occOf_excUndef_eq_rest b) (by rw [htaken, hlocal]; rfl)
    exact ⟨e, (by decide : Instr.excUndef :: excludes .excUndef ⊆ exceptionEvents) he, hocc⟩
  case false =>
    obtain ⟨e, he, hocc⟩ := exists_occOf_of_rest (occOf_excTrapOther_eq_rest b) (by rw [htaken, hlocal]; rfl)
    exact ⟨e, (by decide : Instr.excTrapOther :: excludes .excTrapOther ⊆ exceptionEvents) he, hocc⟩

/-- Of the events listed, being Taken locally is the last condition. -/
theorem takenLocally_of_occOf :
    ∀ e ∈ [Instr.excSvc, .excPabort, .excDabort, .excIrq, .excFiq], occOf e b = true → b.is .takenLocally = true := by
  simp only [List.forall_mem_cons, List.not_mem_nil, false_implies, implies_true, and_true]
  exact ⟨Bool.and_elim_right, Bool.and_elim_right, Bool.and_elim_right, Bool.and_elim_right, Bool.and_elim_right⟩

/-- Of the events listed, not being Taken locally is the last condition. -/
theorem not_takenLocally_of_occOf :
    ∀ e ∈ [Instr.excTrapPabort, .excTrapDabort, .excTrapIrq, .excTrapFiq], occOf e b = true → ¬b.is .takenLocally = true := by
  simp only [List.forall_mem_cons, List.not_mem_nil, false_implies, implies_true, and_true]
  exact ⟨ne_true_of_and_not, ne_true_of_and_not, ne_true_of_and_not, ne_true_of_and_not⟩

/-- An event of what is Taken locally is disjoint from one of what is not (R1502 (e)). -/
theorem localAndTrap_disjoint {e x : Instr} (he : e ∈ [Instr.excSvc, .excPabort, .excDabort, .excIrq, .excFiq])
    (hx : x ∈ [Instr.excTrapPabort, .excTrapDabort, .excTrapIrq, .excTrapFiq]) : ¬(occOf e b = true ∧ occOf x b = true) :=
  fun ⟨hlocal, htrap⟩ => not_takenLocally_of_occOf x hx htrap (takenLocally_of_occOf e he hlocal)

end ExceptionLaws

/-- Settles O37: (a) by the parents (O31), (b) and (c) as the two rests, (d) by `exists_exceptionEvent`, (e) by `localAndTrap_disjoint`,
(f) because EXC_SVC demands Taken locally and the rest outside it is EXC_TRAP_OTHER. -/
theorem exceptionLaws : Obligations.ExceptionLaws := by
  intro b
  refine ⟨fun e he => inclusions e .excTaken b (excTaken_mem_parentsOf e he), ?undef, ?trapOther, exists_exceptionEvent,
    localAndTrap_disjoint (by decide) (by decide), localAndTrap_disjoint (by decide) (by decide),
    localAndTrap_disjoint (by decide) (by decide), localAndTrap_disjoint (by decide) (by decide),
    takenLocally_of_occOf .excSvc (by decide), ?noOther⟩
  case undef => rw [occOf_excUndef_eq_rest]; simp [excludes, Bool.or_assoc]
  case trapOther => rw [occOf_excTrapOther_eq_rest]; simp [excludes, Bool.or_assoc]
  case noOther =>
    intro htaken hlocal hsmc hhvc hpabort hdabort hirq hfiq
    have hnone : (excludes .excTrapOther).any (occOf · b) = false := by
      simp only [excludes, List.any_cons, List.any_nil, hsmc, hhvc, hpabort, hdabort, hirq, hfiq, Bool.or_false]
    rw [occOf_excTrapOther_eq_rest, htaken, hlocal, hnone]
    rfl

end Sys2Proof.Machine

/-!
PROOFS. The state after reset meets the invariant (70_reset_and_hazards.md R1550, 00_scope.md R6).
-/

namespace Sys2Proof.Machine

/-- A counter as it is at reset holds number 0 and count 0, which fit any width. -/
theorem Counter.fits_reset (impl : Impl) : ({} : Counter).fits impl = true :=
  Counter.fits_iff.mpr ⟨Nat.two_pow_pos _, Nat.two_pow_pos _⟩

theorem resetImpl_wellFormed : resetImpl.wellFormed = true := by decide

/-- Settles O7: the parameters are checked once, the six counters are reset counters, and nothing is offered. -/
theorem invAtReset : Obligations.InvAtReset where
  impl := resetImpl_wellFormed
  pes := by
    intro q hq
    obtain rfl := List.mem_singleton.mp hq
    refine Pe.fits_iff.mpr ⟨rfl, fun c hc => ?_⟩
    obtain rfl : c = {} := List.eq_of_mem_replicate (n := 6) hc
    exact Counter.fits_reset resetImpl
  sinks _ hf := nomatch hf
  draws _ hf := nomatch hf

end Sys2Proof.Machine

/-!
PROOFS. The steps of the host and the environment that answer a read, change one PE or one event counter, or are refused
(70_reset_and_hazards.md R1550, R1552).
-/

namespace Sys2Proof.Machine

/-! Whom a host step finds. -/

theorem onPe_of_getElem? {s : State} {p : Nat} {q : Pe} (hq : s.pes[p]? = some q)
    (f : Pe → Host.Outcome State Fault Refusal) : onPe s p f = f q := by
  simp only [onPe, hq]

theorem onCounter_of_counter? {s : State} {p n : Nat} {c : Counter} (hc : s.counter? p n = some c)
    (f : Counter → Host.Outcome State Fault Refusal) : onCounter s p n f = f c := by
  obtain ⟨q, hq, hn⟩ := State.counter?_some hc
  simp only [onCounter, onPe_of_getElem? hq, hn]

theorem onCounter_of_length_le {s : State} {p n : Nat} {q : Pe} (hq : s.pes[p]? = some q) (hn : q.counters.length ≤ n)
    (f : Counter → Host.Outcome State Fault Refusal) : onCounter s p n f = .refused .noSuchCounter := by
  simp only [onCounter, onPe_of_getElem? hq, List.getElem?_eq_none hn]

/-! Effective values (70_reset_and_hazards.md R1552 (g)). -/

theorem Ctl.effective_of_forced {α : Type} {c : Ctl α} {x : α} (h : c.forced = some x) : c.effective = x := by
  rw [Ctl.effective, h, Option.getD_some]

theorem Ctl.effective_of_not_forced {α : Type} {c : Ctl α} (h : c.forced = none) : c.effective = c.written := by
  rw [Ctl.effective, h, Option.getD_none]

/-- A written value is effective unless another is forced, which a write keeps. -/
theorem Ctl.effective_write {α : Type} (c : Ctl α) (v : α) :
    (c.forced = none → ({ c with written := v } : Ctl α).effective = v)
      ∧ ∀ x, c.forced = some x → ({ c with written := v } : Ctl α).effective = x :=
  ⟨Ctl.effective_of_not_forced (c := { c with written := v }), fun _ => Ctl.effective_of_forced (c := { c with written := v })⟩

/-! Steps that change one PE. -/

section OnePe

variable {s : State} {p : Nat} {q : Pe} {rest : List Input}

/-- A step whose input changes one PE does nothing else. -/
theorem step_of_modifyPe {i : Input} {f : Pe → Pe} (ha : s.agenda = []) (hi : s.inputs = i :: rest) (hq : s.pes[p]? = some q)
    (happly : applyInput { s with inputs := rest } i = .next (({ s with inputs := rest } : State).modifyPe p f)) :
    ∃ t, step s = .next t ∧ PeBecomes s t p (f q) rest :=
  ⟨_, (step_of_input ha hi).trans happly, State.modifyPe_peBecomes rest f ha hq⟩

theorem step_writeControl {f : ControlField} (ha : s.agenda = []) (hi : s.inputs = .writeControl p f :: rest)
    (hq : s.pes[p]? = some q) (hf : fieldPresent s.impl f.name = true) :
    ∃ t, step s = .next t ∧ PeBecomes s t p (writeField q f) rest :=
  step_of_modifyPe (f := (writeField · f)) ha hi hq (onPe_eq_next.mpr ⟨q, hq, if_pos hf⟩)

theorem step_forceControl {f : ControlField} (ha : s.agenda = []) (hi : s.inputs = .forceControl p f :: rest)
    (hq : s.pes[p]? = some q) (hf : fieldPresent s.impl f.name = true) :
    ∃ t, step s = .next t ∧ PeBecomes s t p (forceField q f) rest :=
  step_of_modifyPe (f := (forceField · f)) ha hi hq (onPe_eq_next.mpr ⟨q, hq, if_pos hf⟩)

theorem step_releaseControl {f : ControlName} (ha : s.agenda = []) (hi : s.inputs = .releaseControl p f :: rest)
    (hq : s.pes[p]? = some q) (hf : fieldPresent s.impl f = true) :
    ∃ t, step s = .next t ∧ PeBecomes s t p (releaseField q f) rest :=
  step_of_modifyPe (f := (releaseField · f)) ha hi hq (onPe_eq_next.mpr ⟨q, hq, if_pos hf⟩)

/-- A write of a field that the PE does not have is refused. -/
theorem step_writeControl_absent {f : ControlField} (ha : s.agenda = []) (hi : s.inputs = .writeControl p f :: rest)
    (hq : s.pes[p]? = some q) (hf : fieldPresent s.impl f.name = false) : step s = .refused .fieldAbsent := by
  have habsent : ¬fieldPresent s.impl f.name = true := Bool.eq_false_iff.mp hf
  rw [step_of_input ha hi]
  exact (onPe_of_getElem? (s := { s with inputs := rest }) hq _).trans (if_neg habsent)

end OnePe

/-! Steps that change one event counter. -/

/-- `t` is `s` after a host step that leaves event counter n of PE p as `c` and the queue of inputs as `rest`, and does nothing else. -/
structure CounterBecomes (s t : State) (p n : Nat) (c : Counter) (rest : List Input) : Prop where
  counter : t.counter? p n = some c
  others : ∀ p' n', ¬(p' = p ∧ n' = n) → t.counter? p' n' = s.counter? p' n'
  registers : t.pes.map Pe.registers = s.pes.map Pe.registers
  impl : t.impl = s.impl
  inputs : t.inputs = rest
  agenda : t.agenda = []
  out : t.out = s.out
  draws : t.draws = s.draws

section OneCounter

variable {s : State} {p n : Nat} {c : Counter} {rest : List Input}

theorem State.modifyCounter_counterBecomes (rest : List Input) (f : Counter → Counter) (ha : s.agenda = [])
    (hc : s.counter? p n = some c) :
    CounterBecomes s (({ s with inputs := rest } : State).modifyCounter p n f) p n (f c) rest where
  counter := by
    have hread : ({ s with inputs := rest } : State).counter? p n = some c := hc
    rw [State.modifyCounter_counter?, if_pos ⟨rfl, rfl⟩, hread, Option.map_some]
  others p' n' hne := by
    rw [State.modifyCounter_counter?, if_neg fun h => hne ⟨h.1.symm, h.2.symm⟩]
    rfl
  registers := State.modifyCounter_registers _ p n f
  impl := rfl
  inputs := rfl
  agenda := ha
  out := rfl
  draws := rfl

/-- A step whose input changes one event counter does nothing else. -/
theorem step_of_modifyCounter {i : Input} {f : Counter → Counter} (ha : s.agenda = []) (hi : s.inputs = i :: rest)
    (hc : s.counter? p n = some c)
    (happly : applyInput { s with inputs := rest } i
      = onCounter { s with inputs := rest } p n fun _ => .next (({ s with inputs := rest } : State).modifyCounter p n f)) :
    ∃ t, step s = .next t ∧ CounterBecomes s t p n (f c) rest := by
  have hread : ({ s with inputs := rest } : State).counter? p n = some c := hc
  refine ⟨_, ?_, State.modifyCounter_counterBecomes rest f ha hc⟩
  rw [step_of_input ha hi, happly, onCounter_of_counter? hread]

/-- A step whose input is for a counter that the PE does not have is refused. -/
theorem step_of_missing_counter {q : Pe} {i : Input} {f : Counter → Host.Outcome State Fault Refusal} (ha : s.agenda = [])
    (hi : s.inputs = i :: rest) (hq : s.pes[p]? = some q) (hn : q.counters.length ≤ n)
    (happly : applyInput { s with inputs := rest } i = onCounter { s with inputs := rest } p n f) :
    step s = .refused .noSuchCounter := by
  rw [step_of_input ha hi, happly]
  exact onCounter_of_length_le hq hn f

end OneCounter

/-- Settles O53: the PE or the counter is there, so the read is answered. -/
theorem readsAnswer : Obligations.ReadsAnswer := by
  refine ⟨fun s p r rest ha hi hp hr => ?pmceid, fun s p n rest c ha hi hc => ?pmevcntr⟩
  case pmceid =>
    rw [step_of_input ha hi]
    exact (onPe_of_getElem? (s := { s with inputs := rest }) (List.getElem?_eq_getElem hp) _).trans (if_pos hr)
  case pmevcntr =>
    rw [step_of_input ha hi]
    exact onCounter_of_counter? (s := { s with inputs := rest }) hc _

/-- Settles O54: both writes change one event counter (`step_of_modifyCounter`). -/
theorem counterWrites : Obligations.CounterWrites := by
  refine ⟨fun s p n e mt f rest c ha hi hc => ?evtyper, fun s p n x rest c ha hi hc => ?evcntr⟩
  case evtyper =>
    obtain ⟨t, ht, h⟩ := step_of_modifyCounter (f := writeEventType s.impl e mt f) ha hi hc rfl
    exact ⟨t, ht, h.inputs, h.agenda, h.out, h.impl, h.draws, h.counter, h.others, h.registers⟩
  case evcntr =>
    obtain ⟨t, ht, h⟩ := step_of_modifyCounter (f := writeCount s.impl x) ha hi hc rfl
    exact ⟨t, ht, h.inputs, h.agenda, h.out, h.impl, h.draws, h.counter, h.others, h.registers⟩

/-! The reset of the event counters (70_reset_and_hazards.md R1550). -/

/-- Where one PE is replaced by one with the same registers, no register of any PE changes. -/
theorem PeBecomes.registers_eq {s t : State} {p : Nat} {q r : Pe} {rest : List Input} (h : PeBecomes s t p r rest)
    (hq : s.pes[p]? = some q) (hr : r.registers = q.registers) : t.pes.map Pe.registers = s.pes.map Pe.registers := by
  refine List.ext_getElem? fun p' => ?_
  rw [List.getElem?_map, List.getElem?_map]
  by_cases hp : p' = p
  · rw [hp, h.pe, hq, Option.map_some, Option.map_some, hr]
  · rw [h.others p' hp]

/-- The counters of the PE that is replaced. -/
theorem PeBecomes.counter?_same {s t : State} {p : Nat} {q : Pe} {rest : List Input} (h : PeBecomes s t p q rest) (n : Nat) :
    t.counter? p n = q.counters[n]? := by
  rw [State.counter?, h.pe, Option.bind_some]

/-- The counters of the other PEs. -/
theorem PeBecomes.counter?_other {s t : State} {p p' : Nat} {q : Pe} {rest : List Input} (h : PeBecomes s t p q rest)
    (hp : p' ≠ p) (n : Nat) : t.counter? p' n = s.counter? p' n := by
  rw [State.counter?, State.counter?, h.others p' hp]

/-- Settles O55: the step replaces the counters of one PE by reset ones (`step_of_modifyPe`) and keeps its registers. -/
theorem countersReset : Obligations.CountersReset := by
  intro s p rest ha hi hp
  have hq : s.pes[p]? = some s.pes[p] := List.getElem?_eq_getElem hp
  obtain ⟨t, ht, hpe⟩ := step_of_modifyPe (f := fun q => { q with counters := q.counters.map (resetCounter s.impl) }) ha hi hq
    (onPe_eq_next.mpr ⟨_, hq, rfl⟩)
  obtain ⟨himpl, hinputs, hagenda, hout, hdraws⟩ := hpe.fixed
  refine ⟨t, ht, hinputs, hagenda, hout, himpl, hdraws, hpe.registers_eq hq rfl, fun n c hc => ?_,
    fun p' n' hne => hpe.counter?_other hne n'⟩
  have hn : s.pes[p].counters[n]? = some c := by rwa [State.counter?, hq, Option.bind_some] at hc
  rw [hpe.counter?_same, List.getElem?_map, hn]
  rfl

/-- Settles O56: the read is refused always, a missing counter by `step_of_missing_counter`, an absent field by
`step_writeControl_absent`. -/
theorem hostStepsRefused : Obligations.HostStepsRefused :=
  ⟨fun _ _ _ ha hi => step_of_input ha hi,
    fun _ _ _ _ _ _ ha hi hq hn => step_of_missing_counter ha hi hq hn rfl,
    fun _ _ _ _ _ ha hi hq hn => step_of_missing_counter ha hi hq hn rfl,
    fun _ _ _ _ _ _ _ _ ha hi hq hn => step_of_missing_counter ha hi hq hn rfl,
    fun _ _ _ _ ha hi hp hel2 => step_writeControl_absent ha hi (List.getElem?_eq_getElem hp) hel2,
    fun _ _ _ _ ha hi hp hextpmn => step_writeControl_absent ha hi (List.getElem?_eq_getElem hp) hextpmn⟩

/-- Settles O57: the field is there (`step_writeControl`), and its Effective value is that of a written control
(`Ctl.effective_write`). -/
theorem controlWrites : Obligations.ControlWrites := by
  refine ⟨fun s p v rest q ha hi hq => ?lp, fun s p v rest q ha hi hq hpresent => ?hpmn, fun s p v rest q ha hi hq => ?lc,
    fun s p v rest q ha hi hq => ⟨step_writeControl_absent ha hi hq, fun hpresent => ?hlp⟩,
    fun s p v rest q ha hi hq hpresent => ?epmn⟩
  case lp | lc =>
    obtain ⟨t, ht, hpe⟩ := step_writeControl ha hi hq rfl
    exact ⟨t, _, ht, hpe, rfl, Ctl.effective_write _ v⟩
  case hpmn | hlp | epmn =>
    obtain ⟨t, ht, hpe⟩ := step_writeControl ha hi hq hpresent
    exact ⟨t, _, ht, hpe, rfl, Ctl.effective_write _ v⟩

/-! PMINTENSET_EL1 (10_state.md R32). -/

/-- A written bit of PMINTENSET takes its value, and no other bit changes; a bit outside the register has none. -/
theorem setInten_getLsbD (w : BitVec 32) (n : Nat) (v : Bool) (j : Nat) :
    (setInten w n v).getLsbD j = if j = n ∧ j < 32 then v else w.getLsbD j := by
  have hmask : (1#32 <<< n).getLsbD j = decide (j = n ∧ j < 32) := by
    rw [← BitVec.twoPow_eq, BitVec.getLsbD_twoPow, ← Bool.decide_and, decide_eq_decide]
    omega
  have hinside : w.getLsbD j = true → j < 32 := BitVec.lt_of_getLsbD
  by_cases hj : j = n ∧ j < 32
  · rw [decide_eq_true hj] at hmask
    rw [if_pos hj]
    cases v <;> simp [setInten, hmask, -BitVec.getLsbD_shiftLeft]
  · rw [decide_eq_false hj] at hmask
    rw [if_neg hj]
    cases v
    · simpa [setInten, hmask, -BitVec.getLsbD_shiftLeft] using hinside
    · simp [setInten, hmask, -BitVec.getLsbD_shiftLeft]

theorem setInten_of_le (w : BitVec 32) {n : Nat} (v : Bool) (hn : 32 ≤ n) : setInten w n v = w := by
  refine BitVec.eq_of_getLsbD_eq fun j hj => ?_
  rw [setInten_getLsbD, if_neg (by omega)]

/-- Settles O58: PMINTENSET takes the written bit (`setInten_getLsbD`), which from 32 up is none of its bits (`setInten_of_le`). -/
theorem intenWrites : Obligations.IntenWrites := by
  refine ⟨fun s p n v rest q ha hi hq => ?inten, fun s p v rest q ha hi hq => ?f0⟩
  case inten =>
    obtain ⟨t, ht, hpe⟩ := step_of_modifyPe (f := fun q => { q with inten := setInten q.inten n v }) ha hi hq
      (onPe_eq_next.mpr ⟨q, hq, rfl⟩)
    refine ⟨fun hn => ⟨t, _, ht, hpe, rfl, ?_, fun j hj => ?_⟩, fun hn => ⟨t, ht, ?_⟩⟩
    · exact (setInten_getLsbD q.inten n v n).trans (if_pos ⟨rfl, hn⟩)
    · exact (setInten_getLsbD q.inten n v j).trans (if_neg fun h => hj h.1)
    · simpa only [setInten_of_le q.inten v hn] using hpe
  case f0 => exact step_of_modifyPe (f := fun q => { q with f0 := v }) ha hi hq (onPe_eq_next.mpr ⟨q, hq, rfl⟩)

/-- Settles O60: each step changes one PE or one event counter, or answers a read; what is forced is effective, and what is written is
effective once released. -/
theorem environmentSteps : Obligations.EnvironmentSteps := by
  intro s p rest q ha hq
  refine ⟨fun v hi => ?forceLp, fun v hi => ?forceLc, fun v hi hpresent => ?forceHpmn, fun v hi hpresent => ?forceHlp,
    fun v hi hpresent => ?forceEpmn, fun hi => ?releaseLp, fun hi => ?releaseLc, fun hi hpresent => ?releaseHpmn,
    fun hi hpresent => ?releaseHlp, fun hi hpresent => ?releaseEpmn, fun n v c hi hc => ?forceMt,
    fun n v c hi hc => ?stateChainFilterAll, fun x y hi => ?stateTrace, fun hi => ?resetCycleCounter, fun r hi => ?readPmceid32⟩
  case forceLp | forceLc =>
    obtain ⟨t, ht, hpe⟩ := step_forceControl ha hi hq rfl
    exact ⟨t, _, ht, hpe, rfl, rfl, rfl⟩
  case forceHpmn | forceHlp | forceEpmn =>
    obtain ⟨t, ht, hpe⟩ := step_forceControl ha hi hq hpresent
    exact ⟨t, _, ht, hpe, rfl, rfl, rfl⟩
  case releaseLp | releaseLc =>
    obtain ⟨t, ht, hpe⟩ := step_releaseControl ha hi hq rfl
    exact ⟨t, _, ht, hpe, rfl, rfl, rfl⟩
  case releaseHpmn | releaseHlp | releaseEpmn =>
    obtain ⟨t, ht, hpe⟩ := step_releaseControl ha hi hq hpresent
    exact ⟨t, _, ht, hpe, rfl, rfl, rfl⟩
  case forceMt =>
    obtain ⟨t, ht, h⟩ := step_of_modifyCounter (f := fun c => { c with mt := { c.mt with forced := v } }) ha hi hc rfl
    exact ⟨t, _, ht, h.counter, rfl, fun _ => Ctl.effective_of_forced (c := { c.mt with forced := v }),
      Ctl.effective_of_not_forced (c := { c.mt with forced := v }), h.others, h.registers, h.inputs, h.agenda, h.out, h.impl, h.draws⟩
  case stateChainFilterAll =>
    obtain ⟨t, ht, h⟩ := step_of_modifyCounter (f := fun c => { c with chainFilterAll := v }) ha hi hc rfl
    exact ⟨t, ht, h.counter, h.others, h.registers, h.inputs, h.agenda, h.out, h.impl, h.draws⟩
  case stateTrace =>
    exact step_of_modifyPe (f := fun q => { q with e2tre := x, selfHosted := y }) ha hi hq (onPe_eq_next.mpr ⟨q, hq, rfl⟩)
  case resetCycleCounter =>
    exact step_of_modifyPe (f := fun q => { q with pmccntr := s.impl.resetCycleCount }) ha hi hq (onPe_eq_next.mpr ⟨q, hq, rfl⟩)
  case readPmceid32 =>
    have hread := (step_of_input ha hi).trans (onPe_of_getElem? (s := { s with inputs := rest }) hq _)
    exact ⟨fun hr => hread.trans (if_pos hr), fun hr => hread.trans (if_neg (Nat.not_lt.mpr hr))⟩

end Sys2Proof.Machine
